-- ==== Sys2Proof/Word.lean ====
section
/-! DEFINITION. The word and byte types of the device, the names of its fixed parts (R5), and the plain data types that
the commands of Syntax.lean carry as operands. -/

namespace Sys2Proof

/-- A register or data word: 32 bits (R7, R14). -/
abbrev Word := BitVec 32
/-- A byte. -/
abbrev Byte := BitVec 8

/-- The three lanes (R24). -/
inductive LaneId where
  | A | B | C
  deriving DecidableEq, Repr, Inhabited

/-- The number of a lane in fields that list A, B, C in order. -/
def LaneId.num : LaneId → Nat
  | .A => 0
  | .B => 1
  | .C => 2

/-- The next lane round the ring A, B, C. -/
def LaneId.succ : LaneId → LaneId
  | .A => .B
  | .B => .C
  | .C => .A

/-- The previous lane round the ring. -/
def LaneId.pred : LaneId → LaneId
  | .A => .C
  | .B => .A
  | .C => .B

/-- Who accesses a lane register: the lane processor, or the debugger (R20, R44). -/
inductive Master where
  | processor | debugger
  deriving DecidableEq, Repr, Inhabited

/-- The size of a bus access (R14). -/
inductive AccSize where
  | byte | half | word
  deriving DecidableEq, Repr, Inhabited

/-- The legs of a bridge (R5). -/
inductive Leg where
  | U | V | W
  deriving DecidableEq, Repr, Inhabited

/-- The number of a leg in fields that list U, V, W in order. -/
def Leg.num : Leg → Nat
  | .U => 0
  | .V => 1
  | .W => 2

/-- The two switches of a leg. -/
inductive Side where
  | high | low
  deriving DecidableEq, Repr, Inhabited

/-- A resource whose period a driver die times: a bridge or a valve channel (R36). -/
inductive Res where
  | bridge (b : Fin 8)
  | valve (v : Fin 12)
  deriving DecidableEq, Repr

/-- How a CAN frame that a port fix sends ends (R412, R437): acknowledged, arbitration lost, a bit that reads back differently
or a form error, or not acknowledged. -/
inductive CanEnd where
  | sent | lost | error | noAck
  deriving DecidableEq, Repr, Inhabited

/-- A CAN frame as a lane decodes it (R421, R451): its identifier, whether it is extended, its DLC and its data bytes. -/
structure CanFrame where
  ident : Nat
  ide : Bool
  dlc : Nat
  data : List Byte
  deriving DecidableEq, Repr, Inhabited

/-- A sample of the Binnacle's sensors (R586): the die temperatures 0 to 10 in 0.1 °C, the voltages of VBAT_A to VBAT_C and VKEEP in mV with
the currents of the three feeds in mA, or the acceleration along three axes in mg. -/
inductive SensorSample where
  | temps (ts : List Int)
  | supply (vs is : List Nat)
  | accel (x y z : Int)
  deriving DecidableEq, Repr

end Sys2Proof
end

