-- ==== Sys2Proof/Syntax.lean ====
section
/-! DEFINITION. The commands of the device: one constructor for each row of spec/opcode_table.json, in the table's order,
with what the row's step takes from outside: the lane or driver die it happens at, the values software writes, and what the
part measures or receives there. -/

namespace Sys2Proof

/-- A command (R1, R2): a write or read, a frame or packet, an event at a pin, a measured result or the passing of a time. -/
inductive Instr where
  /-- REGISTER_WRITE (R17). A lane-processor or debugger write to a register that has no row of its own, performed
  according to its access code. -/
  | registerWrite (l : LaneId) (size : AccSize) (addr : Word) (v : Word)
  /-- IRQ_CLAIM (R44). A lane-processor read of IRQ_CLAIM returns the highest deliverable source and marks its level
  in service. -/
  | irqClaim (l : LaneId) (m : Master)
  /-- IRQ_COMPLETE (R45). A write of a source number clears that level from IRQ_INSVC, or sets CERR if it was not in
  service. -/
  | irqComplete (l : LaneId) (v : Word)
  /-- AXIS_ENABLE (R54). Setting AX_CFG.EN runs the binding, set-point, chart and curve checks and either queues
  activation or sets BIND_ERR. -/
  | axisEnable (l : LaneId) (a : Fin 12) (v : Word)
  /-- AXIS_DISABLE (R48). Clearing AX_CFG.EN disables the axis at its next sample boundary. -/
  | axisDisable (l : LaneId) (a : Fin 12) (v : Word)
  /-- RKN_ENABLE (R623). RKN_CTRL.EN set: when ACTIVE becomes 1, every armed unheld waypoint is checked as if armed in
  that tick. -/
  | rknEnable (l : LaneId) (v : Word)
  /-- RKN_DISABLE (R623). Clearing RKN_CTRL.EN stops all waypoint firing from the next tick. -/
  | rknDisable (l : LaneId) (v : Word)
  /-- SNAP (R63). Writing RKN_CTRL.SNAP copies all sixteen reckoners into RKN_SNAPr in one tick. -/
  | snap (l : LaneId) (v : Word)
  /-- WAYPOINT_ARM (R66). A write of RKN_WP_CFGw with ARM at 1 arms the waypoint, takes its direction and checks it
  under R68. -/
  | waypointArm (l : LaneId) (w : Fin 128) (v : Word)
  /-- WAYPOINT_COMPARE_WRITE (R74). A write of RKN_WP_CMPw while ARM reads 1 is a new arming with the new compare
  value. -/
  | waypointCompareWrite (l : LaneId) (w : Fin 128) (v : Word)
  /-- WAYPOINT_DISARM (R73). Writing ARM to 0 disarms the waypoint, or completes a firing in the same cycle with
  ABORT_LATE. -/
  | waypointDisarm (l : LaneId) (w : Fin 128) (v : Word)
  /-- WAYPOINT_FIRE (R67). A reckoner crosses an armed waypoint's compare value and the waypoint fires its action. -/
  | waypointFire (l : LaneId) (w : Fin 128)
  /-- TASK_DEADLINE_EXPIRE (R83). A task's deadline expires before it ends: the instance is abandoned and a deadline
  fault is raised. -/
  | taskDeadlineExpire (l : LaneId) (n : Fin 64)
  /-- CHECKPOINT_CAPTURE (R94). A lane's reckoner 13 reaches c × P and the lane captures checkpoint c and its listed
  words. `din`: DIN0 to DIN23; `ball`: LOCKOUT_RST_N. -/
  | checkpointCapture (l : LaneId) (din : BitVec 24) (ball : Bool)
  /-- CHECKPOINT_DATA_RECEIVE (R96). A lane receives another lane's captured checkpoint data on a ring link and its
  tap and compares the copies. `tap`: the tap showed other data; `skew` in 5 ns steps. -/
  | checkpointDataReceive (l : LaneId) (frm : LaneId) (tap : Bool) (skew : Int)
  /-- CHECKPOINT_APPLY (R98). At c × P + XWIN the lane forms medians, digests and agreements, or treats the checkpoint
  as void. -/
  | checkpointApply (l : LaneId)
  /-- FIX_ENABLE (R101). Setting FIX_CTRL.EN checks the checkpoint list and stop profile or sets LISTERR. -/
  | fixEnable (l : LaneId) (v : Word)
  /-- DECISION_POST (R112). A non-zero write to FIX_DECPOST posts a decision word, or acts as a swap or mode request
  in the reserved ranges. -/
  | decisionPost (l : LaneId) (v : Word)
  /-- DECISION_READ (R113). A lane-processor read of FIX_DECAGR returns and removes the next agreed word. -/
  | decisionRead (l : LaneId) (m : Master)
  /-- CLOCK_FAULT (R35). A lane clock more than 500 ppm from the median for 100 µs raises a clock fault. -/
  | clockFault (l : LaneId)
  /-- PERIOD_START (R36). A driver die starts a bridge or valve period and sends the period-start mark on all three
  return links. `imeas` is the mean current measured at a valve channel, in 0.1 mA. -/
  | periodStart (r : Res) (imeas : Nat)
  /-- PERIOD_START_MARK_RECEIVE (R36). A lane time-stamps a period-start mark with reckoner 14 and places its
  schedules relative to it. -/
  | periodStartMarkReceive (l : LaneId) (d : Fin 4)
  /-- LINK_PACKET_RECEIVE (R118). A driver die receives a lane's packet and keeps the last whole valid one for the
  coming vote. `good`: the packet's CRC is good. -/
  | linkPacketReceive (d : Fin 4) (l : LaneId) (good : Bool)
  /-- DIE_VOTE (R117). At VLEAD before a period start the die votes the three lanes' packets for a bridge or valve
  channel. -/
  | dieVote (r : Res)
  /-- VOTE_HOLD_OFF (R122). After HOLD periods without agreement the die switches the resource off and reports
  HOLDOFF. -/
  | voteHoldOff (r : Res)
  /-- DIE_PACKET_VOTE (R298). At a die tick's vote instant the die votes safety outputs, clear bits, lock and
  configuration words. `bst`: the die's bridges whose bootstrap is below 8.0 V. -/
  | diePacketVote (d : Fin 4) (bst : BitVec 2)
  /-- EDGE_LOAD (R290). A write of EDG_LOAD loads pending values of the masked bridges and sends their packets. -/
  | edgeLoad (l : LaneId) (v : Word)
  /-- PACKET_SEND_DEADLINE (R292). 2.5 µs before a vote instant the lane sends a bridge or valve packet built from the
  loaded schedule or last set-point. -/
  | packetSendDeadline (l : LaneId) (r : Res)
  /-- DIE_PACKET_BUILD (R300). 2.5 µs before a die tick's vote instant each lane builds and sends the die packet. -/
  | diePacketBuild (l : LaneId) (d : Fin 4)
  /-- BRIDGE_REPORT_RECEIVE (R301). A lane receives the report of a bridge's last period, including protections and
  configuration match. -/
  | bridgeReportReceive (l : LaneId) (d : Fin 4)
  /-- VALVE_REPORT_RECEIVE (R301). A lane receives a valve channel's mean current, duty and fault flags. -/
  | valveReportReceive (l : LaneId) (d : Fin 4)
  /-- DIE_REPORT_RECEIVE (R301). A lane receives the die report with safety outputs, trips, gate rail and
  configuration state. -/
  | dieReportReceive (l : LaneId) (d : Fin 4)
  /-- VOTE_REPORT_RECEIVE (R124). A lane receives a vote report and counts outliers, NOAGR and HOLDOFF. -/
  | voteReportReceive (l : LaneId) (d : Fin 4)
  /-- DIE_SILENT_TIMEOUT (R497). 100 µs without marks or reports from a die makes the lane treat it as silent and set
  OFFREQ. -/
  | dieSilentTimeout (l : LaneId) (d : Fin 4)
  /-- OPPOSITE_GATE_FALL (R305). The opposite gate falls below 2.0 V and the dead time runs before the switch turns
  on. `side` is the switch that now turns on. -/
  | oppositeGateFall (b : Fin 8) (leg : Leg) (side : Side)
  /-- INTERLOCK_FAULT (R306). The opposite gate has not fallen within 2 µs, so the bridge is switched off and latched.
  -/
  | interlockFault (b : Fin 8) (leg : Leg)
  /-- GATE_RAIL_UNDERVOLTAGE (R307). The gate-drive rail stays below 10.5 V for 1 µs and the die switches every output
  off. -/
  | gateRailUndervoltage (d : Fin 4)
  /-- GATE_RAIL_RECOVER (R307). The gate-drive rail has been above 11.0 V for 100 µs so its latch may be cleared. -/
  | gateRailRecover (d : Fin 4)
  /-- REFRESH_INSERT (R309). The held-high count reaches REFN and the die inserts a bootstrap refresh. `rloss` is the
  off time the die measures (R310). -/
  | refreshInsert (b : Fin 8) (leg : Leg) (rloss : Nat)
  /-- HIGH_SIDE_STUCK (R311). The switch node does not fall within 1 µs of low-side turn-on, so the bridge is latched
  off. -/
  | highSideStuck (b : Fin 8) (leg : Leg)
  /-- BOOTSTRAP_UNDERVOLTAGE (R312). Bootstrap voltage below 8.0 V turns the high side off and latches the bridge.
  `on`: the high side is on, not only due. -/
  | bootstrapUndervoltage (b : Fin 8) (leg : Leg) (on : Bool)
  /-- DESATURATION (R314). Drain-source voltage above VDSTH for 100 ns outside blanking turns the leg off and latches
  the bridge. `t` is the time in the period. -/
  | desaturation (b : Fin 8) (leg : Leg) (side : Side) (t : Nat)
  /-- HARD_SHORT (R315). Drain-source voltage above HARDTH for 50 ns turns the leg off and latches the bridge. `t` is
  the time in the period. -/
  | hardShort (b : Fin 8) (leg : Leg) (side : Side) (t : Nat)
  /-- TRIP_INPUT_ACTIVE (R318). A filtered active trip level latches the trip and switches off the ACT resources.
  `blank`: a blanking window is open. -/
  | tripInputActive (t : Fin 8) (blank : Bool)
  /-- BLANKING_WINDOW_END (R319). A trip level lasting beyond a blanking window latches the trip at the window's end.
  -/
  | blankingWindowEnd (t : Fin 8)
  /-- BRIDGE_CLEAR (R322). Writing EDG_BCLRb adds the bridge's clear bit to the next die packet. -/
  | bridgeClear (l : LaneId) (b : Fin 8)
  /-- VALVE_CLEAR (R322). Writing EDG_VCLRv adds the valve channel's clear bit to the next die packet. -/
  | valveClear (l : LaneId) (x : Fin 12)
  /-- SAFETY_OUTPUT_CLEAR (R322). Writing EDG_SOCLRs adds the safety output's clear bit to the next die packet. -/
  | safetyOutputClear (l : LaneId) (o : Fin 8)
  /-- TRIP_CLEAR (R322). Writing EDG_TRCLRt adds the trip input's clear bit to the next die packet. -/
  | tripClear (l : LaneId) (t : Fin 8)
  /-- VALVE_OPEN_LOAD (R326). Low mean current at high duty for 10 periods latches the valve channel off with OPEN. -/
  | valveOpenLoad (v : Fin 12)
  /-- VALVE_LOW_SIDE_OVERCURRENT (R326). Coil current above 3.6 A turns the low side off for the period, latched after
  three periods. -/
  | valveLowSideOvercurrent (v : Fin 12)
  /-- VALVE_MAIN_OVERCURRENT (R326). Main switch current above 4.5 A switches the channel off at once with HSSC. -/
  | valveMainOvercurrent (v : Fin 12)
  /-- VALVE_DEVIATION (R326). Mean current off its set-point by more than VDEV for VDEVT × 8 periods latches DEV. -/
  | valveDeviation (v : Fin 12)
  /-- SAFETY_OUTPUT_SHORT (R328). An on safety output reading low for 20 µs is switched off and latched with SHORT. -/
  | safetyOutputShort (o : Fin 8)
  /-- SAFETY_OUTPUT_OVERLOAD (R328). Safety output current above 2.5 A for 10 µs switches it off and latches OVC. -/
  | safetyOutputOverload (o : Fin 8)
  /-- OFF_PULSE_TEST_START (R329). At its slot in the round the die turns the tested switch off for OPW. -/
  | offPulseTestStart (d : Fin 4) (item : Fin 7)
  /-- OFF_PULSE_TEST_END (R330). At the end of the off-pulse the readback decides pass or a latched OPFAIL or STUCK.
  -/
  | offPulseTestEnd (d : Fin 4) (pass : Bool)
  /-- CHECKER_MISMATCH (R496). The main voter and checker disagree and the die latches every output off. -/
  | checkerMismatch (d : Fin 4)
  /-- BRIDGE_ENABLE (R335). Setting EDG_BCFGb.EN checks the bridge configuration and waits for CFGD. -/
  | bridgeEnable (l : LaneId) (b : Fin 8) (v : Word)
  /-- COMMUTATION_ENABLE (R230). Setting EDG_MCTLb.EN makes the block start on the axis's first sample after the next
  checkpoint. -/
  | commutationEnable (l : LaneId) (b : Fin 8) (v : Word)
  /-- COMMUTATION_DISABLE (R254). Clearing EN or deactivating the axis puts the block in OFF at the next period
  boundary. -/
  | commutationDisable (l : LaneId) (b : Fin 8) (v : Word)
  /-- COMMUTATION_TIMED_CHANGE (R232). A state's stated number of periods expires and the block changes state, as
  BRAKE or RETRYWAIT ending. -/
  | commutationTimedChange (l : LaneId) (b : Fin 8)
  /-- OFFSET_CHECK_END (R238). After 16 periods of OFSCHK the offsets are written and CATCH or OUT is posted. -/
  | offsetCheckEnd (l : LaneId) (b : Fin 8)
  /-- ALIGN_END (R256). TALIGN has passed and each lane posts POLTEST, RETRYWAIT or OUT on the estimate spread. -/
  | alignEnd (l : LaneId) (b : Fin 8)
  /-- POLTEST_DONE (R257). The polarity pulses and decays end and each lane posts RUN with a polarity or a retry. -/
  | poltestDone (l : LaneId) (b : Fin 8)
  /-- VERIFY_WINDOW_END (R261). The verification window closes without a jerk and the retry count returns to 0. -/
  | verifyWindowEnd (l : LaneId) (b : Fin 8)
  /-- CATCH_END (R263). The catch measurement ends and each lane posts RUN, BRAKE, ALIGN or OUT. -/
  | catchEnd (l : LaneId) (b : Fin 8)
  /-- EXTERNAL_HOLD_DETECT (R255). Gates held off from outside for more than two periods in RUN make each lane post
  CATCH. -/
  | externalHoldDetect (l : LaneId) (b : Fin 8)
  /-- RELOCK_MEASURE_END (R272). A 1 ms re-lock measurement ends and the lane posts RUN or measures again. -/
  | relockMeasureEnd (l : LaneId) (b : Fin 8)
  /-- RELOCK_TIMEOUT (R273). 20 ms in RELOCK without RUN moves the winding to OUT. -/
  | relockTimeout (l : LaneId) (b : Fin 8)
  /-- SAMPLING_INSTANT (R237). At SMPPOS of the period the commutation block starts its bound measurement sequence. -/
  | samplingInstant (l : LaneId) (b : Fin 8)
  /-- NOP (R160). Engine instruction that does nothing. `w` is the instruction word. -/
  | nop (l : LaneId) (w : BitVec 64)
  /-- END (R179). Ends the instance, sets CONT to ENTRY and meets or misses the deadline. `w` is the instruction word.
  -/
  | endInst (l : LaneId) (w : BitVec 64)
  /-- YIELD (R179). Ends the instance and sets CONT to the following instruction. `w` is the instruction word. -/
  | yieldInst (l : LaneId) (w : BitVec 64)
  /-- JMP (R165). Jumps to an instruction after two delay slots. `w` is the instruction word. -/
  | jmp (l : LaneId) (w : BitVec 64)
  /-- BRC (R161). Jumps when the condition holds in the status word at issue. `w` is the instruction word. -/
  | brc (l : LaneId) (w : BitVec 64)
  /-- LOOP (R170). Starts a hardware loop level over the following instructions. `w` is the instruction word. -/
  | loop (l : LaneId) (w : BitVec 64)
  /-- LPST (R172). Stores the loop registers of the named levels. `w` is the instruction word. -/
  | lpst (l : LaneId) (w : BitVec 64)
  /-- LPLD (R172). Restores the loop registers of the named levels. `w` is the instruction word. -/
  | lpld (l : LaneId) (w : BitVec 64)
  /-- WAIT (R178). Suspends the instance until a sequence, waypoint or time event. `w` is the instruction word. -/
  | wait (l : LaneId) (w : BitVec 64)
  /-- WAIT_COMPLETE (R178). The awaited event occurs and the waiting instance becomes ready. -/
  | waitComplete (l : LaneId) (n : Fin 64)
  /-- VLD (R160). Loads 16 mantissas and an exponent into a vector register. `w` is the instruction word. -/
  | vld (l : LaneId) (w : BitVec 64)
  /-- VST (R160). Stores a vector register as 17 words. `w` is the instruction word. -/
  | vst (l : LaneId) (w : BitVec 64)
  /-- VMOV (R160). Copies a vector register. `w` is the instruction word. -/
  | vmov (l : LaneId) (w : BitVec 64)
  /-- ELD (R160). Loads one word into one element. `w` is the instruction word. -/
  | eld (l : LaneId) (w : BitVec 64)
  /-- EST (R160). Stores one element. `w` is the instruction word. -/
  | est (l : LaneId) (w : BitVec 64)
  /-- VSET (R160). Writes an immediate into one element. `w` is the instruction word. -/
  | vset (l : LaneId) (w : BitVec 64)
  /-- EXPS (R160). Writes a vector register's exponent. `w` is the instruction word. -/
  | exps (l : LaneId) (w : BitVec 64)
  /-- IN (R173). Reads a lane source into an element, setting INV if it is not valid. `w` is the instruction word. -/
  | inWord (l : LaneId) (w : BitVec 64)
  /-- OUT (R174). Delivers an element to an edge scheduler, valve, probe, monitor or CE_OUTk destination. `w` is the
  instruction word. -/
  | outWord (l : LaneId) (w : BitVec 64)
  /-- VADD (R156). Adds two vectors with exponent alignment. `w` is the instruction word. -/
  | vadd (l : LaneId) (w : BitVec 64)
  /-- VSUB (R156). Subtracts two vectors with exponent alignment. `w` is the instruction word. -/
  | vsub (l : LaneId) (w : BitVec 64)
  /-- VMUL (R160). Multiplies two vectors element by element. `w` is the instruction word. -/
  | vmul (l : LaneId) (w : BitVec 64)
  /-- VDOT (R160). Sums the 16 element products into an accumulator. `w` is the instruction word. -/
  | vdot (l : LaneId) (w : BitVec 64)
  /-- MACS (R160). Adds one element product into an accumulator. `w` is the instruction word. -/
  | macs (l : LaneId) (w : BitVec 64)
  /-- ST (R160). Narrows an accumulator into one element. `w` is the instruction word. -/
  | stAcc (l : LaneId) (w : BitVec 64)
  /-- MATVEC (R167). Multiplies a coefficient-RAM matrix by a vector into the row bank. `w` is the instruction word.
  -/
  | matvec (l : LaneId) (w : BitVec 64)
  /-- MVST (R168). Narrows the row bank into a vector register. `w` is the instruction word. -/
  | mvst (l : LaneId) (w : BitVec 64)
  /-- NORM (R157). Returns the normalising shift of a vector. `w` is the instruction word. -/
  | norm (l : LaneId) (w : BitVec 64)
  /-- EXPX (R157). Returns the exponent the vector would carry if normalised. `w` is the instruction word. -/
  | expx (l : LaneId) (w : BitVec 64)
  /-- SHV (R160). Shifts mantissas and adjusts the exponent. `w` is the instruction word. -/
  | shv (l : LaneId) (w : BitVec 64)
  /-- VLIM (R160). Clamps each element to a limit and writes SATM. `w` is the instruction word. -/
  | vlim (l : LaneId) (w : BitVec 64)
  /-- VSEL (R160). Selects elements from two vectors by a mask. `w` is the instruction word. -/
  | vsel (l : LaneId) (w : BitVec 64)
  /-- CMP (R160). Compares two elements and sets N and Z. `w` is the instruction word. -/
  | cmp (l : LaneId) (w : BitVec 64)
  /-- ENGINE_PREEMPT (R180). A ready higher-level instance pre-empts the running one at the first cycle the MAC array
  is free. -/
  | enginePreempt (l : LaneId)
  /-- ENGINE_ENABLE (R175). Setting CE_CTRL.EN checks task axes and activates the engine or sets CFGERR. -/
  | engineEnable (l : LaneId) (v : Word)
  /-- ENGINE_DISABLE (R187). Clearing CE_CTRL.EN lets begun instances end, then ACTIVE reads 0. -/
  | engineDisable (l : LaneId) (v : Word)
  /-- TASK_CONFIG_WRITE (R179). A write to CE_TASKn sets CONT to the written ENTRY. -/
  | taskConfigWrite (l : LaneId) (n : Fin 64) (v : Word)
  /-- PROGRAM_MEMORY_WRITE (R186). A lane-processor write to program memory is performed with parity, or refused with
  PMWREF. `ofs` is the byte offset in the memory. -/
  | programMemoryWrite (l : LaneId) (size : AccSize) (ofs : BitVec 16) (v : Word)
  /-- BANK_SWAP_REQUEST (R208). Writing AX_BANK.SWREQ posts the swap decision word or is refused with SWREF. -/
  | bankSwapRequest (l : LaneId) (a : Fin 12)
  /-- REGION_COPY_DONE (R203). A region set copy into the shadow bank ends and BUSY clears. -/
  | regionCopyDone (l : LaneId) (a : Fin 12)
  /-- SHADOW_WRITE (R207). A lane-processor write into a shadow view is refused with SWREF while a copy runs. `i` is
  the word in the view. -/
  | shadowWrite (l : LaneId) (a : Fin 12) (i : Fin 1280) (v : Word)
  /-- LOGBOOK_ENABLE (R225). Setting AX_LBCFG.EN checks the logbook configuration and enters Pre-trigger or sets
  CFGERR. -/
  | logbookEnable (l : LaneId) (a : Fin 12) (v : Word)
  /-- LOGBOOK_DISABLE (R224). Clearing AX_LBCFG.EN completes the record in progress and returns to Idle. -/
  | logbookDisable (l : LaneId) (a : Fin 12) (v : Word)
  /-- LOGBOOK_SOFTWARE_TRIGGER (R223). Writing SWTRIG triggers the logbook on the sample in progress or the next. -/
  | logbookSoftwareTrigger (l : LaneId) (a : Fin 12) (v : Word)
  /-- LOGBOOK_REARM (R222). Writing REARM in Done returns the logbook to Pre-trigger. -/
  | logbookRearm (l : LaneId) (a : Fin 12) (v : Word)
  /-- REFERENCE_ENABLE (R346). Setting MEAS_REF.EN starts the reference buffer. -/
  | referenceEnable (l : LaneId) (v : Word)
  /-- REFERENCE_READY (R346). The reference has stayed within ±0.1 % for 2.0 ms and RDY sets. -/
  | referenceReady (l : LaneId)
  /-- REFERENCE_FAULT (R348). The reference leaves ±0.5 %, RDY clears, REFF sets and a lane fault is raised. -/
  | referenceFault (l : LaneId)
  /-- MEAS_ENABLE (R371). Setting MEAS_CTRL.EN runs the configuration check. -/
  | measEnable (l : LaneId) (v : Word)
  /-- SLOT_ENABLE (R353). Setting a slot's EN checks it and makes it active, or sets CFGERR. -/
  | slotEnable (l : LaneId) (x : Fin 64) (v : Word)
  /-- SEQUENCE_ENABLE (R371). Setting a sequence's EN checks it and makes it active, or sets CFGERR. -/
  | sequenceEnable (l : LaneId) (q : Fin 16) (v : Word)
  /-- SEQUENCE_START (R355). Writing MEAS_SQSTART starts a sequence, or sets RETRIG or IDLESTART. -/
  | sequenceStart (l : LaneId) (v : Word)
  /-- SEQUENCE_GROUP_START (R354). A group starts its conversions once the previous group started and its converters
  are free. -/
  | sequenceGroupStart (l : LaneId) (q : Fin 16)
  /-- SLOT_DELIVERY (R350). A slot's conversions end and its trimmed, calibrated result is written to MEAS_RESs.
  `codes` are the converter's codes. -/
  | slotDelivery (l : LaneId) (x : Fin 64) (codes : List (BitVec 16))
  /-- GUARD_BAND_WRITE (R361). A write to a slot's band limits or filter resets its count. `r`: MEAS_GBHI, MEAS_GBLO
  or MEAS_GBFLT. -/
  | guardBandWrite (l : LaneId) (x : Fin 64) (r : Fin 3) (v : Word)
  /-- SPOT_CONVERSION (R358). Writing MEAS_SPOT.GO converts one channel once, or is refused with SPBUSY. -/
  | spotConversion (l : LaneId) (v : Word)
  /-- SPOT_RESULT (R359). A spot conversion ends and its result is stored with NEW. `code` is the converter's code. -/
  | spotResult (l : LaneId) (code : BitVec 16)
  /-- SPOT_RESULT_READ (R359). A lane-processor read of MEAS_SPOT_RES returns and clears it. -/
  | spotResultRead (l : LaneId) (m : Master)
  /-- CAL_START (R363). Writing MEAS_CALCMD.START begins a compass-swing capture or refuses it. -/
  | calStart (l : LaneId) (v : Word)
  /-- CAL_CAPTURE_DONE (R364). 256 deliveries have been captured and the point is taken or refused, and the
  calibration may be computed. -/
  | calCaptureDone (l : LaneId)
  /-- CAL_COMMIT (R366). Writing COMMIT writes the calibration store or is refused. -/
  | calCommit (l : LaneId) (v : Word)
  /-- CAL_STORE_WRITE_DONE (R369). The calibration store copy is written and verified, and the new values take effect.
  `ok`: the copy read back right. -/
  | calStoreWriteDone (l : LaneId) (ok : Bool)
  /-- CAL_ABORT (R367). Writing ABORT ends a running capture with CAUSE 0xA. -/
  | calAbort (l : LaneId) (v : Word)
  /-- POS_ENABLE (R625). Setting POS_CTRL.EN lets position interfaces, travel and ground speed become active. -/
  | posEnable (l : LaneId) (v : Word)
  /-- POSITION_INTERFACE_ENABLE (R407). Setting POS_CFGn.EN checks the interface configuration and starts it. -/
  | positionInterfaceEnable (l : LaneId) (n : Fin 8) (v : Word)
  /-- QUADRATURE_EDGE (R377). An accepted change of A or B steps the count, or both changing flags an illegal
  transition. `a` and `b` are the new accepted levels. -/
  | quadratureEdge (l : LaneId) (n : Fin 8) (a : Bool) (b : Bool)
  /-- HALL_TRANSITION (R378). An accepted Hall state change steps the count or sets HALLF. `h` holds the new accepted
  levels of H1 to H3. -/
  | hallTransition (l : LaneId) (n : Fin 8) (h : BitVec 3)
  /-- INDEX_EDGE (R381). A rising index latches the count and checks or corrects it against IDXREF. -/
  | indexEdge (l : LaneId) (n : Fin 8)
  /-- SINCOS_PAIR (R383). A new sin/cos pair moves the count by the phase difference, or flags an amplitude fault. -/
  | sincosPair (l : LaneId) (n : Fin 8)
  /-- PULSE_RISING_EDGE (R385). A rising pulse edge writes the frequency and duty of the last cycle. `high` is the
  high time of the cycle that ends. -/
  | pulseRisingEdge (l : LaneId) (n : Fin 8) (high : Nat)
  /-- PULSE_TIMEOUT (R386). No rising edge for PTMO makes the pulse interface invalid. `level` is the input's level.
  -/
  | pulseTimeout (l : LaneId) (n : Fin 8) (level : Bool)
  /-- TRACKING_OBSERVER_UPDATE (R388). Every microsecond the tracking observer updates angle, speed and acceleration.
  -/
  | trackingObserverUpdate (l : LaneId) (n : Fin 8)
  /-- SENT_ENABLE (R408). Setting SENT_CFGm.EN checks the input configuration and starts it. -/
  | sentEnable (l : LaneId) (m : Fin 8) (v : Word)
  /-- SENT_FRAME (R394). A SENT frame is received whole and accepted into the data words or rejected. The durations
  are in 5 ns steps. -/
  | sentFrame (l : LaneId) (m : Fin 8) (cal : Nat) (pulses : List Nat)
  /-- SENT_FRAME_TIMEOUT (R395). No accepted frame for FTMO makes the SENT input invalid. -/
  | sentFrameTimeout (l : LaneId) (m : Fin 8)
  /-- TRAVEL_ENABLE (R625). Writing POS_TRCFG.EN requests travel activation at the next apply instant. -/
  | travelEnable (l : LaneId) (v : Word)
  /-- TRAVEL_PULSE (R398). A wheel or radar pulse is counted and time-stamped, and advances the fused distance. `src`:
  a wheel, or 4 for the radar. -/
  | travelPulse (l : LaneId) (src : Fin 5)
  /-- TRAVEL_STILL_TIMEOUT (R398). No pulse for STILL × 10 ms sets a wheel's speed to 0 or makes the radar invalid. -/
  | travelStillTimeout (l : LaneId) (src : Fin 5)
  /-- GROUND_SPEED_ENABLE (R404). Writing POS_GSCFG.EN requests the generator at the next apply instant or is refused.
  -/
  | groundSpeedEnable (l : LaneId) (v : Word)
  /-- PORT_RECORD_RECEIVE (R410). A port fix receives a lane's port record and votes it once all three records with
  its TAG are in. `good`: the record's CRC is good. -/
  | portRecordReceive (d : Fin 4) (l : LaneId) (good : Bool)
  /-- PORT_RECORD_VOTE_TIMEOUT (R411). 20 µs after the first record of a TAG the port fix votes the records present.
  `port` is numbered as in R410. -/
  | portRecordVoteTimeout (d : Fin 4) (port : Fin 5) (tag : BitVec 16)
  /-- HELM_NET_WINDOW_VOTE (R411). At a die tick's vote instant the port fix votes a Helm Net window's records. -/
  | helmNetWindowVote (p : Fin 2) (tag : BitVec 8)
  /-- CAN_FRAME_TRANSMIT_DONE (R412). A port fix's CAN frame completes, loses arbitration or meets an error, and is
  retried or dropped. -/
  | canFrameTransmitDone (d : Fin 4) (e : CanEnd)
  /-- BUS_OFF_RECOVERY (R451). With AUTOREC, an ISOBUS or service CAN port leaves bus-off after 128 × 11 recessive
  bits. -/
  | busOffRecovery (d : Fin 4)
  /-- HELM_NET_ENABLE (R418). Setting HNET_CTRL.EN checks the matrix and enters LISTEN or sets MXERR. -/
  | helmNetEnable (l : LaneId) (v : Word)
  /-- HELM_NET_DISABLE (R430). Clearing HNET_CTRL.EN returns the controller to OFF at the next frame boundary. -/
  | helmNetDisable (l : LaneId) (v : Word)
  /-- TX_BUFFER_COPY (R420). 120 µs before a window the lane copies the transmit buffer into its port records. `e` is
  the matrix entry. -/
  | txBufferCopy (l : LaneId) (e : Fin 128)
  /-- TRANSMIT_REQUEST (R420). Writing HNET_BSTk.TXREQ requests transmission in an arbitrating window. -/
  | transmitRequest (l : LaneId) (k : Fin 64)
  /-- BUFFER_STATUS_READ (R422). A read of HNET_BSTk latches the buffer's time and data view. -/
  | bufferStatusRead (l : LaneId) (m : Master) (k : Fin 64)
  /-- WINDOW_START (R434). At a window start the port fix starts its frame, waits for idle within GM, or sets LATESOF.
  `busy`: the bus is busy then. -/
  | windowStart (p : Fin 2) (tag : BitVec 8) (busy : Bool)
  /-- GUARDIAN_WINDOW (R433). The bus guardian drives HNx_EN high or low at a window's guard edges. -/
  | guardianWindow (p : Fin 2) (tag : BitVec 8) (opens : Bool)
  /-- HELM_NET_FRAME_RECEIVE (R421). A good Helm Net frame ends and is written to its buffer or discarded as a
  duplicate. -/
  | helmNetFrameReceive (l : LaneId) (p : Fin 2) (f : CanFrame)
  /-- REFERENCE_MESSAGE_RECEIVE (R425). A lane receives a reference message, writes the offset and slews or steps
  reckoner 13. -/
  | referenceMessageReceive (l : LaneId) (p : Fin 2) (f : CanFrame)
  /-- REFERENCE_SEND_TIMEOUT (R424). No SOF by (RANK + 1) × RKDLY makes a potential master send its reference message.
  -/
  | referenceSendTimeout (l : LaneId)
  /-- REFERENCE_TIMEOUT (R430). No reference for two basic cycles returns INTEGRATE, SYNC or PASSIVE to LISTEN. -/
  | referenceTimeout (l : LaneId)
  /-- LISTEN_TIMEOUT (R430). No SOF for two matrix cycles with COLDST moves LISTEN to COLDSTART. -/
  | listenTimeout (l : LaneId)
  /-- COLD_START_SEND (R431). NODEID × 20 µs after entering COLDSTART the node sends its cold-start frame. -/
  | coldStartSend (l : LaneId)
  /-- COLD_START_ACK (R431). The cold-start frame is acknowledged, the node steps reckoner 13 and enters SYNC as
  master. -/
  | coldStartAck (l : LaneId)
  /-- COLD_START_REPEAT (R430). An unacknowledged cold-start frame repeats 1 ms later. -/
  | coldStartRepeat (l : LaneId)
  /-- BACKOFF_END (R430). The random back-off wait ends and the node returns to LISTEN. -/
  | backoffEnd (l : LaneId)
  /-- MATRIX_CYCLE_START (R429). A matrix cycle starts and a changed data rate takes effect. -/
  | matrixCycleStart (l : LaneId)
  /-- BASIC_CYCLE_START (R414). A basic cycle starts, and dual-path acceptance after a switch ends. -/
  | basicCycleStart (l : LaneId)
  /-- DELAY_PROBE (R428). The master receives a delay probe and answers with t2 and t3. -/
  | delayProbe (l : LaneId) (p : Fin 2) (node : Fin 32)
  /-- DELAY_ANSWER (R428). A node receives the master's answer and averages the measured delay. -/
  | delayAnswer (l : LaneId) (p : Fin 2) (t2 : Word) (t3 : Word)
  /-- CAPABILITY_FRAME (R429). A node's capability frame is received and its RMASK counts toward the rate. -/
  | capabilityFrame (l : LaneId) (node : Fin 32) (mask : BitVec 3)
  /-- PATH_FAIL_TIMEOUT (R438). A frame or reference SOF missing on the active path in time fails it and switches to
  the other path. -/
  | pathFailTimeout (l : LaneId) (p : Fin 2)
  /-- ISOBUS_ENABLE (R440). Setting ISB_CTRL.EN sends an Address Claimed message for the preferred address. -/
  | isobusEnable (l : LaneId) (v : Word)
  /-- ADDRESS_CLAIM_RECEIVE (R440). A received claim of this address is lost or contested by NAME. -/
  | addressClaimReceive (l : LaneId) (sa : Byte) (name : BitVec 64)
  /-- ADDRESS_CLAIM_REQUEST (R440). A request for Address Claimed is answered with the present claim. -/
  | addressClaimRequest (l : LaneId)
  /-- ADDRESS_CLAIM_TIMEOUT (R440). A claim uncontested for 250 ms sets CLAIMED. -/
  | addressClaimTimeout (l : LaneId)
  /-- ISB_TRANSMIT_REQUEST (R441). Writing ISB_TXCTk.REQ queues an ISOBUS frame with its TAG, or drops it. -/
  | isbTransmitRequest (l : LaneId) (k : Fin 16) (v : Word)
  /-- ISOBUS_FRAME_RECEIVE (R451). A received ISOBUS frame goes to the lowest matching receive buffer. -/
  | isobusFrameReceive (l : LaneId) (f : CanFrame)
  /-- SVC_TRANSMIT_REQUEST (R442). Writing SVC_TXCTk.REQ queues a service CAN frame. -/
  | svcTransmitRequest (l : LaneId) (k : Fin 16) (v : Word)
  /-- SVC_FRAME_RECEIVE (R442). A received service CAN frame goes to the lowest matching receive buffer. -/
  | svcFrameReceive (l : LaneId) (f : CanFrame)
  /-- VERSION_NEGOTIATE (R447). Writing ISB_NEG.VPART sets VNEG or VERR. -/
  | versionNegotiate (l : LaneId) (v : Word)
  /-- ETHERNET_ENABLE (R452). Setting ETH_CTRLp.EN checks rings and REFOK and starts the path. -/
  | ethernetEnable (l : LaneId) (p : Fin 2) (v : Word)
  /-- ETH_TX_DESCRIPTOR_TAKE (R444). The MAC takes the next transmit descriptor with OWN set and hands its frame to
  the port fix. -/
  | ethTxDescriptorTake (l : LaneId) (p : Fin 2)
  /-- ETH_TX_DONE (R444). The port fix reports a frame sent or dropped and the MAC clears OWN. -/
  | ethTxDone (p : Fin 2)
  /-- ETH_FRAME_RECEIVE (R445). A received Ethernet frame passes the filters into a descriptor, goes to the safety
  layer, or is dropped. `bytes` leaves out the FCS; `good`: it is right. -/
  | ethFrameReceive (l : LaneId) (p : Fin 2) (bytes : List Byte) (good : Bool)
  /-- PHY_ACCESS (R446). Writing ETH_PHYADRp.GO starts a voted Clause 45 PHY access. -/
  | phyAccess (l : LaneId) (p : Fin 2) (v : Word)
  /-- PHY_ACCESS_DONE (R446). A PHY access completes and read data reaches the lane. What each lane reads. -/
  | phyAccessDone (p : Fin 2) (da : BitVec 16) (db : BitVec 16) (dc : BitVec 16)
  /-- REFCLK_LOSS (R452). ETHx_REFCLK disappears and REFLOST is set. -/
  | refclkLoss (l : LaneId) (p : Fin 2)
  /-- SAFETY_LAYER_ENABLE (R626). Setting SAFE_CTRL.EN lets enabled sessions leave OFF at the next apply instant. -/
  | safetyLayerEnable (l : LaneId) (v : Word)
  /-- SESSION_ENABLE (R477). Setting SAFE_SCFGs.EN checks the session and moves it to WAIT. -/
  | sessionEnable (l : LaneId) (n : Fin 128) (v : Word)
  /-- MONITOR_ENABLE (R626). Setting SFN_CTRL.EN lets the axis monitors evaluate. -/
  | monitorEnable (l : LaneId) (v : Word)
  /-- FUNCTION_ENABLE (R477). Setting SFN_ACFGa.EN checks the axis's functions and activates them. -/
  | functionEnable (l : LaneId) (a : Fin 12) (v : Word)
  /-- SAFETY_PDU_RECEIVE (R458). A lane checks a received PDU in order and accepts it or discards it. -/
  | safetyPduReceive (l : LaneId)
  /-- HELLO (R461). An accepted HELLO negotiates variant and TEXP and moves the session to RUN. -/
  | hello (l : LaneId)
  /-- COMMAND (R463). An accepted COMMAND is offered to admission with its apply-at time. -/
  | command (l : LaneId)
  /-- HEARTBEAT (R460). An accepted HEARTBEAT restarts the session watchdog. -/
  | heartbeat (l : LaneId)
  /-- STOP (R466). An accepted STOP applies STOPR and moves the session to STOPPED. -/
  | stop (l : LaneId)
  /-- RESET (R521). An accepted RESET requests release of the named lock-outs. -/
  | reset (l : LaneId)
  /-- QUERY (R483). An accepted QUERY on CMSES opens a challenge and is answered with SAFE_CCV. -/
  | query (l : LaneId)
  /-- CONFIRM (R484). An accepted CONFIRM writes the commissioning record or is refused. -/
  | confirm (l : LaneId)
  /-- SESSION_EXPIRE (R460). The watchdog passes last arrival plus TEXP and the session expires with EXPR. -/
  | sessionExpire (l : LaneId) (n : Fin 128)
  /-- CONTROLLED_STOP_TIMEOUT (R470). CSTOPT has passed in a controlled stop and the axis reacts as under code 2. -/
  | controlledStopTimeout (l : LaneId) (a : Fin 12)
  /-- CHALLENGE_EXPIRE (R483). A commissioning challenge expires 60 s after it opened. -/
  | challengeExpire (l : LaneId)
  /-- COMMISSIONING_RECORD_WRITE_DONE (R484). A lane's commissioning record is written and verified, and the CONFIRM
  reply follows. -/
  | commissioningRecordWriteDone (l : LaneId) (ok : Bool)
  /-- SELF_DIAGNOSIS_END (R501). A lane's self-diagnosis tests end and its result is sent at the next capture. Each
  operand says that the test failed. -/
  | selfDiagnosisEnd (l : LaneId) (pat : Bool) (ecc : Bool) (ref : Bool) (clk : Bool)
  /-- GIVE_UP_END (R504). After 8 die ticks of give-up packets the lane writes its lock-out record and goes to OUT. -/
  | giveUpEnd (l : LaneId) (flash : Bool)
  /-- SURVIVOR_FAULT (R508). A Last Lane or Heave-to lane's own detection finds a fault and it gives up. -/
  | survivorFault (l : LaneId)
  /-- CRAWL_TIMEOUT (R507). LLTIME after the crawl phase began, Last Lane enters its stop phase. -/
  | crawlTimeout (l : LaneId)
  /-- STEERING_AXIS_LOST (R509). A steering axis with no winding in RUN for 20 ms starts Heave-to with cause 0x2. -/
  | steeringAxisLost (l : LaneId) (a : Fin 12)
  /-- STANDSTILL_WAIT_END (R515). Without a travel source, STILLT seconds after the profile's last point standstill is
  taken. -/
  | standstillWaitEnd (l : LaneId)
  /-- LOCKOUT_RECORD_WRITE_DONE (R518). A lane's lock-out record write is verified, completing an entry or a release.
  -/
  | lockoutRecordWriteDone (l : LaneId) (ok : Bool)
  /-- SPLIT_REQUEST (R133). Writing FIX_SPLIT.SPLITREQ posts a split request decision. -/
  | splitRequest (l : LaneId)
  /-- SPLIT_OFFCONF_TIMEOUT (R135). A die has not reported OFFCONF within 2 ms and the split is refused. -/
  | splitOffconfTimeout (l : LaneId)
  /-- JOIN_REQUEST (R137). Writing FIX_SPLIT.JOINREQ reloads the active image from the lane's flash. -/
  | joinRequest (l : LaneId)
  /-- JOIN_RELOAD_DONE (R138). A joining lane finishes loading and sends its digest at each checkpoint. -/
  | joinReloadDone (l : LaneId)
  /-- LANE_RESET_DONE (R126). An odd lane's reset is done and it starts its quick sounding or goes to OUT. -/
  | laneResetDone (l : LaneId)
  /-- QUICK_SOUNDING_DONE (R128). The 10 ms quick sounding ends and the resynchronisation transfer starts, or the lane
  goes to OUT. -/
  | quickSoundingDone (l : LaneId) (pass : Bool)
  /-- RESYNC_TRANSFER_DONE (R130). The state transfer ends and the receiving lane's safety lock is set. -/
  | resyncTransferDone (l : LaneId)
  /-- RESYNC_TIMEOUT (R131). A lane not rejoined within 50 ms goes to OUT with LANEOUT. -/
  | resyncTimeout (l : LaneId)
  /-- DEBUG_HALT (R142). A halt request is queued for the next apply instant, or refused without RIG. -/
  | debugHalt
  /-- DEBUG_STEP (R144). A step request runs all lanes for one checkpoint interval. -/
  | debugStep
  /-- DEBUG_RESUME (R143). A resume request restarts the lanes and fires late waypoints. -/
  | debugResume
  /-- DEBUG_WRITE (R141). A debugger write is queued and replayed in all three lanes. -/
  | debugWrite (addr : Word) (v : Word)
  /-- BREAKPOINT_HIT (R145). A breakpoint or watchpoint hit in Lane A records the address and queues a halt. -/
  | breakpointHit (addr : Word)
  /-- KEEP_POWER_ON (R566). The first power-on of KEEP is a wake with source 0. -/
  | keepPowerOn
  /-- WAKE_LEVEL (R563). A level wake source held for two KEEP samples wakes the device. `src`: 0 WAKE_IGN, 1 WAKE_0,
  2 WAKE_1; `high` the level held. -/
  | wakeLevel (src : Fin 3) (high : Bool)
  /-- WAKE_EDGE (R563). A latched wake edge wakes the device. `cycle`: the cycle of a running entry sequence. -/
  | wakeEdge (src : Fin 2) (rising : Bool) (cycle : Fin 16)
  /-- WAKE_UP_FRAME (R565). A matching wake-up frame on HNA_RXD wakes the device. `f` is a good classic data frame. -/
  | wakeUpFrame (f : CanFrame) (cycle : Fin 16)
  /-- RESET_N_ASSERT (R566). RESET_N held low for 10 µs resets every domain except KEEP. -/
  | resetNAssert
  /-- RESET_N_RELEASE (R566). The release of RESET_N is a wake with source 5. -/
  | resetNRelease
  /-- LANE_FEED_START (R528). A lane's feed exceeds 6.5 V after a wake and its power die starts the lane. `feed` in 20
  mV steps, `ms` from the wake event. -/
  | laneFeedStart (l : LaneId) (feed : BitVec 12) (ms : Nat)
  /-- LANE_FEED_LOSS (R529). A lane's feed below 6.0 V for 100 µs holds the lane in reset until the next wake. -/
  | laneFeedLoss (l : LaneId)
  /-- DRIVER_DIE_POWER_ON (R531). DRV_n switches on and runs its logic sounding. -/
  | driverDiePowerOn (d : Fin 4)
  /-- DIE_SOUNDING_DONE (R546). A driver die's 10 ms logic sounding ends and it reports at link training. -/
  | dieSoundingDone (d : Fin 4) (pass : Bool)
  /-- LANE_RESET_RELEASE (R539). A lane logic die leaves reset and starts logic and memory BIST. `strap`: the strap
  balls; `us` from the wake event. -/
  | laneResetRelease (l : LaneId) (strap : Fin 4) (us : Nat)
  /-- MEMORY_BIST_DONE (R544). Memory BIST ends with repairs or unusable banks and the image read starts. `rows`:
  banks with their failing rows; `ecc`: the retained area reads well. -/
  | memoryBistDone (l : LaneId) (rows : List (Nat × Nat)) (ecc : Bool) (us : BitVec 16)
  /-- LOGIC_BIST_DONE (R543). Logic BIST ends and ring bring-up begins, or the lane goes to OUT. `cov` in 0.5 %;
  `mac`: a dead MAC unit; `oos`: dead converters. -/
  | logicBistDone (l : LaneId) (pass : Bool) (cov : Byte) (us : BitVec 16) (mac : Option (Fin 8)) (oos : BitVec 6)
  /-- RING_BRING_UP_DONE (R26). Ring bring-up confirms lane letters and starts reckoner 13, and driver links train.
  `lat`: link latencies to D0 to D3 in 5 ns steps. -/
  | ringBringUpDone (l : LaneId) (lat : List Nat)
  /-- IMAGE_READ_DONE (R553). The loader finishes reading and hashing the image slot. `flash`: the flash answers as
  R551 asks. -/
  | imageReadDone (l : LaneId) (flash : Bool)
  /-- SIGNATURE_VERIFY_DONE (R555). The boot ROM finishes verifying the signature and applies or falls back. -/
  | signatureVerifyDone (l : LaneId)
  /-- REGISTER_LOAD_ENTRY (R554). One register-load list entry is applied at most once per microsecond. -/
  | registerLoadEntry (l : LaneId)
  /-- REGISTER_LOAD_WAIT_END (R554). A register-load WAIT expires and the list continues. -/
  | registerLoadWaitEnd (l : LaneId)
  /-- LONE_LANE_TIMEOUT (R549). 1 s after reset release a lone lane posts a log record naming the missing lanes. -/
  | loneLaneTimeout (l : LaneId)
  /-- MODE_REQUEST (R535). Writing PWR_MODEREQ posts a mode request decision word. -/
  | modeRequest (l : LaneId) (v : Word)
  /-- SLEEP_STEP_TIMEOUT (R567). A sleep step without agreed acknowledgement in 10 ms is refused. -/
  | sleepStepTimeout (l : LaneId)
  /-- POWER_DOWN (R569). After step 6 is agreed, lanes send wake configuration to KEEP and domains switch off in
  sequence. -/
  | powerDown
  /-- KEEP_ENTRY_END (R570). KEEP's 16-cycle entry sequence ends in Moored or Anchor, or wakes on an active level. -/
  | keepEntryEnd
  /-- NVM_GUARD_ON (R571). A lane's feed falls below GUARD and the NVM guard becomes active. `feed` in 20 mV steps. -/
  | nvmGuardOn (l : LaneId) (feed : BitVec 12)
  /-- NVM_GUARD_OFF (R571). The feed stays above GUARD + HYST for 10 ms and the guard is released. `feed` in 20 mV
  steps. -/
  | nvmGuardOff (l : LaneId) (feed : BitVec 12)
  /-- NVM_WRITE_TIMEOUT (R572). A record write waiting for the guard for more than 1 s fails. `k`: 1 calibration, 2
  commissioning, 3 lock-out, 4 slot record. -/
  | nvmWriteTimeout (l : LaneId) (k : Fin 5)
  /-- MANAGEMENT_LINK_TIMEOUT (R578). 2 ms without a link symbol makes the lane take the management link as down. -/
  | managementLinkTimeout (l : LaneId)
  /-- LOG_RECORD_POST (R579). POST with KIND 0 queues a log record to the Binnacle or refuses it. -/
  | logRecordPost (l : LaneId)
  /-- REPLY_POST (R579). POST with KIND 1 sends a reply to a Binnacle request. -/
  | replyPost (l : LaneId)
  /-- BINNACLE_REGISTER_ACCESS (R580). POST with KIND 2 requests a read or write of a Binnacle register. -/
  | binnacleRegisterAccess (l : LaneId)
  /-- DIAGNOSTIC_SEGMENT (R580). POST with KIND 3 passes one segment of a diagnostic message to the Binnacle. -/
  | diagnosticSegment (l : LaneId)
  /-- SLEEP_STEP_POST (R582). POST with KIND 4 asks the Binnacle to flush its log for sleep step 6. -/
  | sleepStepPost (l : LaneId)
  /-- BINNACLE_POST_RECEIVE (R580). The Binnacle receives a post and acts once two lanes' identical posts match. `ok`:
  the log flash takes writes. -/
  | binnaclePostReceive (l : LaneId) (ok : Bool)
  /-- POST_MATCH_TIMEOUT (R580). A post without a matching post within 10 ms is discarded. -/
  | postMatchTimeout (l : LaneId)
  /-- STATUS (R581). Request 0x01: the lane posts its mode, degraded, split, commissioning and image state. -/
  | status (l : LaneId)
  /-- SOUND (R581). Request 0x02: the lane starts a runtime sounding of the named region. -/
  | sound (l : LaneId)
  /-- REGVAL (R581). Request 0x03: the lane takes the result of its Binnacle register read. -/
  | regval (l : LaneId)
  /-- SEND (R581). Request 0x04: the lane transmits a diagnostic response on the named port. -/
  | send (l : LaneId)
  /-- UPD_BEGIN (R581). Request 0x10: the lane posts a split request for an update. -/
  | updBegin (l : LaneId)
  /-- UPD_DATA (R591). Request 0x11: the lane programs 256 words into its inactive image slot. `ok`: the flash took
  and verified the block. -/
  | updData (l : LaneId) (ok : Bool)
  /-- UPD_END (R591). Request 0x12: the lane verifies its new slot's digest and signature. -/
  | updEnd (l : LaneId)
  /-- UPD_COMMIT (R591). Request 0x13: the lane writes its slot record and joins. `ok`: the slot record was written
  and verified. -/
  | updCommit (l : LaneId) (ok : Bool)
  /-- UPD_ABORT (R592). Request 0x14: the lane joins with its slot record unchanged. -/
  | updAbort (l : LaneId)
  /-- KEYREV (R595). Request 0x20: the lane writes BMB_KEYREV through a posted decision. -/
  | keyrev (l : LaneId)
  /-- SLEEPOK (R582). Request 0x30: the lane acknowledges sleep step 6. -/
  | sleepok (l : LaneId)
  /-- SLEEPNO (R582). Request 0x31: the lane refuses sleep step 6. -/
  | sleepno (l : LaneId)
  /-- REQUEST_ACCEPT (R581). Writing BMB_INCTL.ACCEPT answers the pending request. -/
  | requestAccept (l : LaneId)
  /-- REQUEST_REFUSE (R581). Writing BMB_INCTL.REFUSE with an RCODE refuses the pending request. -/
  | requestRefuse (l : LaneId) (rcode : BitVec 8)
  /-- REQUEST_TIMEOUT (R581). A request unanswered for 100 ms is withdrawn with INTMO. -/
  | requestTimeout (l : LaneId)
  /-- KEY_REVOKE (R595). Writing BMB_KEYREV revokes a key slot in the lane's OTP or sets KRREF. -/
  | keyRevoke (l : LaneId) (v : Word)
  /-- LOG_PAGE_PROGRAM (R585). The Binnacle programs a page of 8 records when it is full or 1 s after its first
  record. `ok`: the log flash took the page. -/
  | logPageProgram (ok : Bool)
  /-- SENSOR_STATISTICS_RECORD (R587). Every STATINT seconds the Binnacle writes a TYPE 0x0A record. -/
  | sensorStatisticsRecord
  /-- VIBRATION_SUMMARY_RECORD (R587). Every VIBINT seconds the Binnacle writes a TYPE 0x0B record. -/
  | vibrationSummaryRecord
  /-- DIAGNOSTIC_SESSION_CONTROL (R589). UDS 0x10 changes the diagnostic session, checking update conditions for
  programming. -/
  | diagnosticSessionControl
  /-- READ_DATA_BY_IDENTIFIER (R589). UDS 0x22 returns the unit identity, update, status or key data. -/
  | readDataByIdentifier
  /-- SECURITY_ACCESS_SEED (R590). UDS 0x27 0x11 returns a 16-byte random seed. -/
  | securityAccessSeed
  /-- SECURITY_ACCESS_KEY (R590). UDS 0x27 0x12 checks the HMAC key and unlocks or counts a wrong key. -/
  | securityAccessKey
  /-- SECURITY_DELAY_END (R590). The 10 s delay after three wrong keys ends. -/
  | securityDelayEnd
  /-- ACTIVATE_IMAGE (R591). RoutineControl start 0xFF01 sends UPD_BEGIN and runs the update. -/
  | activateImage
  /-- ACTIVATE_IMAGE_RESULTS (R591). RoutineControl results 0xFF01 returns STATE, CAUSE, new CCV and CONFIRMED. -/
  | activateImageResults
  /-- REVOKE_KEY_SLOT (R595). RoutineControl 0xFF02 sends KEYREV to every lane and revokes the slot in the Binnacle.
  -/
  | revokeKeySlot
  /-- REQUEST_DOWNLOAD (R591). UDS 0x34 erases the staging area for an image download. -/
  | requestDownload
  /-- REQUEST_UPLOAD (R589). UDS 0x35 starts an upload of log records. -/
  | requestUpload
  /-- TRANSFER_DATA (R591). UDS 0x36 stages and hashes a block of image data or returns log data. -/
  | transferData
  /-- REQUEST_TRANSFER_EXIT (R591). UDS 0x37 ends the transfer and verifies the staged image's signature. -/
  | requestTransferExit
  /-- TESTER_PRESENT (R589). UDS 0x3E keeps the diagnostic session alive. -/
  | testerPresent
  /-- DIAGNOSTIC_SESSION_TIMEOUT (R589). A non-default session ends after 5 s without a request. -/
  | diagnosticSessionTimeout
  /-- RUNTIME_SOUNDING_INTERVAL (R596). Every SNDINT ms the Binnacle sends SOUND to the next lane. -/
  | runtimeSoundingInterval
  /-- SOUNDING_START (R597). Writing SND_REQ.GO starts a region sounding or refuses it. -/
  | soundingStart (l : LaneId) (v : Word)
  /-- SOUNDING_ABORT (R600). Writing SND_REQ.ABORT ends TEST at once and RESTORE still runs. -/
  | soundingAbort (l : LaneId) (v : Word)
  /-- SOUNDING_SAVE_DONE (R598). SAVE has copied the region to the save buffer and TEST begins. -/
  | soundingSaveDone (l : LaneId)
  /-- SOUNDING_TEST_DONE (R601). The march test ends with any failing words recorded and RESTORE begins. `fails`:
  failing words of the region, each with a failing bit. -/
  | soundingTestDone (l : LaneId) (fails : List (Nat × Nat))
  /-- SOUNDING_RESTORE_DONE (R602). RESTORE writes back or repairs rows and DONE is set. -/
  | soundingRestoreDone (l : LaneId)
  /-- BYPASS (R604). Test access instruction 0xFF. `code`: 0xFF or a code that R604 does not list. -/
  | bypass (code : Byte)
  /-- IDCODE (R604). Test access instruction 0x01 returns the IDCODE. -/
  | idcode
  /-- SAMPLE_PRELOAD (R604). Test access instruction 0x02. -/
  | samplePreload
  /-- EXTEST (R604). Test access instruction 0x00, active only in Dry dock. -/
  | extest
  /-- IEEE_1687_NETWORK (R604). Test access instruction 0x10 reaches Binnacle instruments and Lane A debug. The
  address of Lane A that the debugger reads. -/
  | ieee1687Network (addr : Word)
  /-- DEBUG_AUTHENTICATE (R605). In Field, a correct key answer to a seed through the 1687 network sets DBGAUTH.
  Without a key, a seed is asked for. -/
  | debugAuthenticate (key : Option (List Byte))
  /-- SCANREQ (R606). In Dry dock, resets lanes, clears memories and keys and sets SCANEN; in Field it logs a refusal.
  -/
  | scanreq
  /-- RKN_ADM_ACC_READ (R91). A read of RKN_ADM_ACC returns and clears the accepted-command count. -/
  | rknAdmAccRead (l : LaneId) (m : Master)
  /-- RKN_ADM_REF_READ (R91). A read of RKN_ADM_REF returns and clears the refused-command count. -/
  | rknAdmRefRead (l : LaneId) (m : Master)
  /-- RKN_TMAX_READ (R85). A read of RKN_TMAXn returns and clears the largest delay. -/
  | rknTmaxRead (l : LaneId) (m : Master) (n : Fin 64)
  /-- DLK_MISS_READ (R148). A read of DLK_MISSn returns and clears the missing-packet counts. -/
  | dlkMissRead (l : LaneId) (m : Master) (d : Fin 4)
  /-- DLK_LATE_READ (R148). A read of DLK_LATEn returns and clears the late-packet counts. -/
  | dlkLateRead (l : LaneId) (m : Master) (d : Fin 4)
  /-- DLK_CRC_READ (R148). A read of DLK_CRCn returns and clears the CRC-failure counts. -/
  | dlkCrcRead (l : LaneId) (m : Master) (d : Fin 4)
  /-- DLK_OUTL_READ (R148). A read of DLK_OUTLn returns and clears the outlier counts. -/
  | dlkOutlRead (l : LaneId) (m : Master) (d : Fin 4)
  /-- DLK_NOAGR_READ (R148). A read of DLK_NOAGRn returns and clears the no-agreement count. -/
  | dlkNoagrRead (l : LaneId) (m : Master) (d : Fin 4)
  /-- CE_UTIL_READ (R189). A read of CE_UTIL returns and clears the issue-cycle count. -/
  | ceUtilRead (l : LaneId) (m : Master)
  /-- EDG_MCNT_READ (R284). A read of EDG_MCNTb returns and clears the start, retry, re-lock and catch counts. -/
  | edgMcntRead (l : LaneId) (m : Master) (b : Fin 8)
  /-- EDG_BCNT_READ (R341). A read of EDG_BCNTb returns and clears the refresh and suppression counts. -/
  | edgBcntRead (l : LaneId) (m : Master) (b : Fin 8)
  /-- POS_ERRCNT_READ (R407). A read of POS_ERRCNTn returns and clears the interface error counts. -/
  | posErrcntRead (l : LaneId) (m : Master) (n : Fin 8)
  /-- HNET_CNT_READ (R450). A read of HNET_CNT returns and clears the duplicate and switch counts. -/
  | hnetCntRead (l : LaneId) (m : Master)
  /-- HNET_NOAGR_READ (R450). A read of HNET_NOAGR returns and clears the window counts. -/
  | hnetNoagrRead (l : LaneId) (m : Master)
  /-- ETH_CNT_READ (R452). A read of ETH_CNTp returns and clears the frame counts. -/
  | ethCntRead (l : LaneId) (m : Master) (p : Fin 2)
  /-- SAFE_CNT_READ (R487). A read of SAFE_CNT returns and clears the unknown-PDU and lone-reaction counts. -/
  | safeCntRead (l : LaneId) (m : Master)
  /-- SAFE_SERR_READ (R487). A read of SAFE_SERRs returns and clears the rejected and duplicate counts. -/
  | safeSerrRead (l : LaneId) (m : Master) (n : Fin 128)
  /-- FIX_FLTCNT_READ (R526). A read of FIX_FLTCNT returns and clears the fault count. -/
  | fixFltcntRead (l : LaneId) (m : Master)
  /-- BMB_CNT_READ (R608). A read of BMB_CNT returns and clears the post counts. -/
  | bmbCntRead (l : LaneId) (m : Master)
  /-- SND_CNT_READ (R609). A read of SND_CNT returns and clears the sounding counts. -/
  | sndCntRead (l : LaneId) (m : Master)
  /-- TRIP_INPUT_INACTIVE (R319). A trip input's filtered active level ends, clearing LEVEL and setting BLANKED when
  it ends inside a blanking window. -/
  | tripInputInactive (t : Fin 8)
  /-- MANAGEMENT_LINK_UP (R578). Link symbols from the Binnacle arrive again and the lane takes its management link as
  up, so posts and requests flow once more. -/
  | managementLinkUp (l : LaneId)
  /-- REFCLK_RETURN (R452). ETHx_REFCLK becomes present again and ETH_STATp.REFOK reads 1. -/
  | refclkReturn (l : LaneId) (p : Fin 2)
  /-- START_OF_FRAME (R430). An SOF appears on a Helm Net path, cancelling a pending reference or cold-start send and
  moving COLDSTART to INTEGRATE when it is another node's. `own`: the frame is this node's. -/
  | startOfFrame (l : LaneId) (p : Fin 2) (own : Bool)
  /-- BUS_IDLE (R434). The bus becomes idle and a port fix starts a waiting frame, if the SOF still falls within
  WSTART + GM or the window end allows it. `since` is the time from the start of the window that waits. -/
  | busIdle (d : Fin 4) (since : Nat)
  /-- DIE_TICK (R300). A driver die runs its 50 µs die tick from its own oscillator and sends its die report on all
  three return links. -/
  | dieTick (d : Fin 4)
  /-- RECKONER_INTERPOLATION (R60). Between estimates a reckoner advances each tick at the last estimated speed, and
  each 0.1 mm step of reckoner 12 feeds the ground-speed generator. One tick of 5 ns. -/
  | reckonerInterpolation (l : LaneId)
  /-- BINNACLE_SENSOR_SAMPLE (R586). At its sampling interval the Binnacle samples die temperatures, feed voltages and
  currents, and acceleration, and updates BIN_TEMPd, BIN_FEEDx and the interval statistics. -/
  | binnacleSensorSample (x : SensorSample)
  deriving DecidableEq, Repr

end Sys2Proof
end

