-- ==== Sys2Proof/Config.lean ====
section
/-! DEFINITION. What an implementation fixes and the values the spec leaves open: constants without a body, so that no
proof can see what they are. Log entry 4 lists where each is used. -/

namespace Sys2Proof.Config

/-- A value that the spec leaves open: the `n`-th one that agent `who` takes (0 to 2 a lane, 3 to 6 a driver die, 7 the
Binnacle, 8 KEEP). FREE VALUE. -/
opaque freeValue : Nat → Nat → BitVec 32

/-- The boot ROM's word at a word address: the spec gives its functions, not its contents. FREE VALUE. -/
opaque bootRom : Nat → BitVec 32

/-- The binary angle of a sin/cos pair (R383): the spec names the arctangent, not its last bit. FREE VALUE. -/
opaque angleOf : BitVec 32 → BitVec 32 → BitVec 32

/-- The angle of the induced voltage vector of the phase voltages u, v, w, from 2u − v − w and v − w (R262). FREE VALUE. -/
opaque lineAngle : Int → Int → BitVec 32

/-- The increments of the tracking observer in an update (R388): the spec gives them over the reals, with π in them, and neither the
width nor the rounding. That of the speed from the bandwidth and the error, that of the angle from the bandwidth, the new speed and the
error, that of the acceleration from the bandwidth, the error and the acceleration held. FREE VALUES. -/
opaque obsSpeed : Nat → Int → Int
opaque obsAngle : Nat → Int → Int → BitVec 32
opaque obsAccel : Nat → Int → Int → Int

/-- The cosine and sine of a binary angle as Q1.31 (R239): the spec names the function, not its last bit. FREE VALUE. -/
opaque cosOf : BitVec 32 → BitVec 32
opaque sinOf : BitVec 32 → BitVec 32

end Sys2Proof.Config
end

