-- ==== Sys2Proof/Machine/Bits.lean ====
section
/-! DEFINITION. Bit fields of words, signed readings, saturation, and the sparse stores that State uses: a store keyed by
numbers that lists only what differs from its default, in rising order of key, so that equal contents are equal data. -/

namespace Sys2Proof.Machine

/-- A register of a lane: its address in the lane's map (R38, R39) and the value it holds after reset. -/
structure Reg where
  addr : Nat
  rst : Word
  deriving DecidableEq, Repr

/-- A field of a register: its lowest bit and its width. -/
structure Bf where
  lo : Nat
  wid : Nat
  deriving DecidableEq, Repr

/-- The bits of a field, in place. -/
def Bf.mask (f : Bf) : Word := BitVec.ofNat 32 ((2 ^ f.wid - 1) <<< f.lo)

/-- A field's value. -/
def Bf.get (f : Bf) (w : Word) : Nat := (w.toNat >>> f.lo) % 2 ^ f.wid

/-- The word with the field replaced by `v`, taken modulo its width. -/
def Bf.set (f : Bf) (w : Word) (v : Nat) : Word :=
  (w &&& ~~~f.mask) ||| BitVec.ofNat 32 ((v % 2 ^ f.wid) <<< f.lo)

/-- Whether a field is not 0. -/
def Bf.on (f : Bf) (w : Word) : Bool := f.get w != 0

/-- A Bool as the number 0 or 1. -/
def b2n (b : Bool) : Nat := if b then 1 else 0

/-- A natural number as a word, modulo 2^32. -/
def w32 (n : Nat) : Word := BitVec.ofNat 32 n

/-- An integer as a two's-complement word, modulo 2^32. -/
def wInt (n : Int) : Word := BitVec.ofInt 32 n

/-- `n` as a two's-complement number of `w` bits. -/
def sext (w : Nat) (n : Nat) : Int :=
  if n % 2 ^ w < 2 ^ (w - 1) then ((n % 2 ^ w : Nat) : Int) else ((n % 2 ^ w : Nat) : Int) - (2 ^ w : Nat)

/-- `n` limited to the two's-complement range of `w` bits. -/
def satI (w : Nat) (n : Int) : Int :=
  if n < -((2 ^ (w - 1) : Nat) : Int) then -((2 ^ (w - 1) : Nat) : Int)
  else if n > ((2 ^ (w - 1) : Nat) : Int) - 1 then ((2 ^ (w - 1) : Nat) : Int) - 1 else n

/-- `n` limited to a range. -/
def clampI (lo hi n : Int) : Int := if n < lo then lo else if n > hi then hi else n
def clampN (lo hi n : Nat) : Nat := if n < lo then lo else if n > hi then hi else n

/-- `n / 2^k` rounded to nearest, ties to even (R155). -/
def rneShift (n : Int) (k : Nat) : Int :=
  let q := n.fdiv (2 ^ k)
  let r := n - q * 2 ^ k
  if 2 * r < 2 ^ k then q
  else if 2 * r > 2 ^ k then q + 1
  else if q % 2 = 0 then q else q + 1

/-- `n / d` rounded to nearest, ties to even; 0 for `d = 0`. -/
def rneDiv (n d : Int) : Int :=
  let n' := if d < 0 then -n else n
  let d' := d.natAbs
  if d' = 0 then 0
  else
    let q := n'.fdiv d'
    let r := n' - q * d'
    if 2 * r < d' then q else if 2 * r > d' then q + 1 else if q % 2 = 0 then q else q + 1

/-- `n / d` for `d > 0`, rounded to nearest with ties away from zero. -/
def divNear (n : Int) (d : Nat) : Int :=
  if n < 0 then -(((2 * n.natAbs + d) / (2 * d) : Nat) : Int) else ((2 * n.natAbs + d) / (2 * d) : Nat)

/-- Bit `i` of a word. -/
def bitOf (w : Word) (i : Nat) : Bool := w.getLsbD i

/-- The middle one of three integers. -/
def med3 (a b c : Int) : Int := max (min a b) (min (max a b) c)

/-- The number of true values. -/
def cnt (l : List Bool) : Nat := l.countP id

/-- The first number of a list that satisfies `p`. -/
def firstOf (l : List Nat) (p : Nat → Bool) : Option Nat := l.find? p

/-- Byte `i` (0 the least significant) of a number. -/
def byteOf (n i : Nat) : Byte := BitVec.ofNat 8 (n >>> (8 * i))

/-- The number a list of bytes spells, first byte least significant (R14). -/
def leNat : List Byte → Nat
  | [] => 0
  | b :: t => b.toNat + 256 * leNat t

/-- The number a list of bytes spells, first byte most significant. -/
def beNat (l : List Byte) : Nat := l.foldl (fun n b => n * 256 + b.toNat) 0

/-- `k` bytes of a number, least significant first. -/
def leBytes : Nat → Nat → List Byte
  | 0, _ => []
  | k + 1, n => BitVec.ofNat 8 n :: leBytes k (n / 256)

/-- `k` bytes of a number, most significant first. -/
def beBytes (k n : Nat) : List Byte := (leBytes k n).reverse

/-- A sparse store keyed by numbers. -/
abbrev Tab (α : Type) := List (Nat × α)

/-- The first value listed under a key, or the default. -/
def look {α : Type} : Tab α → Nat → α → α
  | [], _, d => d
  | (a, v) :: t, k, d => if a = k then v else look t k d

/-- A store without a key. -/
def del {α : Type} : Tab α → Nat → Tab α
  | [], _ => []
  | (a, v) :: t, k => if a = k then del t k else (a, v) :: del t k

/-- Insert before the first larger key. -/
def ins {α : Type} : Tab α → Nat → α → Tab α
  | [], k, v => [(k, v)]
  | (a, x) :: t, k, v => if k < a then (k, v) :: (a, x) :: t else (a, x) :: ins t k v

/-- Set a key; a value equal to the default is not listed. -/
def put {α : Type} [DecidableEq α] (t : Tab α) (k : Nat) (v d : α) : Tab α :=
  if v = d then del t k else ins (del t k) k v

/-- The value under a key in a store whose default is the type's default value. -/
def Tab.at {α : Type} [Inhabited α] (t : Tab α) (k : Nat) : α := look t k default

/-- Set a key in a store whose default is the type's default value. -/
def Tab.set {α : Type} [DecidableEq α] [Inhabited α] (t : Tab α) (k : Nat) (v : α) : Tab α := put t k v default

/-- Change the value under a key. -/
def Tab.upd {α : Type} [DecidableEq α] [Inhabited α] (t : Tab α) (k : Nat) (f : α → α) : Tab α :=
  t.set k (f (t.at k))

/-- Keys strictly rising, every one above a bound. -/
def risingFrom {α : Type} : Nat → Tab α → Bool
  | _, [] => true
  | n, (a, _) :: t => decide (n ≤ a) && risingFrom (a + 1) t

/-- The canonical form of a sparse store with one default: keys strictly rising and no entry equal to the default. -/
def Tab.canon {α : Type} [DecidableEq α] (t : Tab α) (d : α) : Bool :=
  risingFrom 0 t && t.all (fun e => decide (e.2 ≠ d))

end Sys2Proof.Machine
end

