-- ==== Sys2Proof/Machine/Crc.lean ====
section
/-! DEFINITION. The checks and digests that the spec names (R105, R106, R296, R455, R551, R557, R590): CRC-32C, CRC-32 and
SHA-256 with HMAC and ECDSA P-256 verification, as their standards define them (log entry 12). -/

namespace Sys2Proof.Machine

/-- One reflected CRC step of a byte. -/
def crcByte (poly : Nat) (c : Nat) (b : Byte) : Nat :=
  (List.range 8).foldl (fun c _ => if c % 2 = 1 then (c / 2) ^^^ poly else c / 2) (c ^^^ b.toNat)

/-- A reflected 32-bit CRC with initial value and final XOR 0xFFFF_FFFF. -/
def crc32With (poly : Nat) (l : List Byte) : Nat := (l.foldl (crcByte poly) 0xFFFFFFFF) ^^^ 0xFFFFFFFF

/-- CRC-32C (R105, R106, R296). -/
def crc32c (l : List Byte) : Nat := crc32With 0x82F63B78 l

/-- CRC-32 of Ethernet. -/
def crc32 (l : List Byte) : Nat := crc32With 0xEDB88320 l

/-- The bytes of words, least significant byte first. -/
def wordsBytes (l : List Word) : List Byte := l.flatMap fun w => leBytes 4 w.toNat

/-- The first 64 primes, from which SHA-256 takes its constants. -/
def shaPrimes : List Nat := (List.range 312).filter fun n => decide (2 ≤ n) && (List.range 18).all fun d => decide (d < 2 ∨ n ≤ d ∨ n % d ≠ 0)

/-- The first 32 bits of the fraction of the `e`-th root of `n`: the largest `r` of 36 bits with r ^ e ≤ n · 2 ^ (32 e), found bit by bit. -/
def rootFrac (e n : Nat) : Word :=
  w32 ((List.range 36).foldl (fun r i => if (r + 2 ^ (35 - i)) ^ e ≤ n * 2 ^ (32 * e) then r + 2 ^ (35 - i) else r) 0)

/-- The working variables of SHA-256, with the sum that its standard calls Σ1 taken of `e` and Σ0 of `a`. -/
structure Sha where
  a : Word
  b : Word
  c : Word
  d : Word
  e : Word
  f : Word
  g : Word
  h : Word
  deriving DecidableEq, Repr, Inhabited

/-- The exclusive or of a word turned right by each of some distances. -/
def turns (ns : List Nat) (x : Word) : Word := ns.foldl (fun y n => y ^^^ x.rotateRight n) 0

/-- One round with its constant plus its word of the schedule. -/
def Sha.round (s : Sha) (kw : Word) : Sha :=
  let t := s.h + turns [6, 11, 25] s.e + (s.g ^^^ (s.e &&& (s.f ^^^ s.g))) + kw
  { a := t + turns [2, 13, 22] s.a + ((s.a &&& (s.b ||| s.c)) ||| (s.b &&& s.c)), b := s.a, c := s.b, d := s.c, e := s.d + t, f := s.e, g := s.f, h := s.g }

/-- The word that enters a window of 16 words of the schedule as its first leaves. -/
def shaNext (w : List Word) : Word :=
  let u := w.getD 1 0
  let v := w.getD 14 0
  w.headD 0 + w.getD 9 0 + (turns [7, 18] u ^^^ u >>> 3) + (turns [17, 19] v ^^^ v >>> 10)

/-- The rounds of a block over a sliding window of its schedule. -/
def Sha.rounds : List Nat → List Word → Sha → Sha
  | [], _, s => s
  | p :: ps, w, s => Sha.rounds ps (w.drop 1 ++ [shaNext w]) (s.round (rootFrac 3 p + w.headD 0))

def Sha.add (s t : Sha) : Sha := ⟨s.a + t.a, s.b + t.b, s.c + t.c, s.d + t.d, s.e + t.e, s.f + t.f, s.g + t.g, s.h + t.h⟩
def Sha.words (s : Sha) : List Word := [s.a, s.b, s.c, s.d, s.e, s.f, s.g, s.h]

/-- The state before the first block: the square roots of the first eight primes. -/
def Sha.start : Sha :=
  let r := fun i => rootFrac 2 (shaPrimes.getD i 0)
  ⟨r 0, r 1, r 2, r 3, r 4, r 5, r 6, r 7⟩

/-- Big-endian words of a list of bytes whose length is a multiple of 4, at most `n` words. -/
def beWords : Nat → List Byte → List Word
  | 0, _ => []
  | n + 1, l => if l.isEmpty then [] else w32 (beNat (l.take 4)) :: beWords n (l.drop 4)

/-- The first `n` blocks of a padded message, 16 words each. -/
def Sha.run : Nat → Sha → List Word → Sha
  | 0, s, _ => s
  | n + 1, s, ws => Sha.run n (s.add (Sha.rounds shaPrimes (ws.take 16) s)) (ws.drop 16)

/-- SHA-256: 32 bytes. The message is followed by a bit 1 and by bits 0 up to the 64-bit length at the end of a block. -/
def sha256 (l : List Byte) : List Byte :=
  let blocks := (l.length + 72) / 64
  let padded := l ++ 0x80#8 :: List.replicate (64 * blocks - l.length - 9) 0#8 ++ beBytes 8 (8 * l.length)
  (Sha.run blocks Sha.start (beWords (16 * blocks) padded)).words.flatMap fun w => beBytes 4 w.toNat

/-- HMAC-SHA-256 with a key of at most 64 bytes. -/
def hmac256 (key msg : List Byte) : List Byte :=
  let k := key ++ List.replicate (64 - key.length) 0#8
  sha256 (k.map (· ^^^ 0x5c#8) ++ sha256 (k.map (· ^^^ 0x36#8) ++ msg))

/-- The parameters of NIST P-256. -/
def p256P : Nat := 0xffffffff00000001000000000000000000000000ffffffffffffffffffffffff
def p256N : Nat := 0xffffffff00000000ffffffffffffffffbce6faada7179e84f3b9cac2fc632551
def p256B : Nat := 0x5ac635d8aa3a93e7b3ebbd55769886bc651d06b0cc53b0f63bce3c3e27d2604b
def p256G : Nat × Nat := (0x6b17d1f2e12c4247f8bce6e563a440f277037d812deb33a0f4a13945d898c296,
  0x4fe342e2fe1a7f9b8ee7eb4a7c0f9e162bce33576b315ececbb6406837bf51f5)

/-- Modular power by square and multiply over 256 exponent bits. -/
def powMod (b e m : Nat) : Nat :=
  (List.range 256).foldl (fun r i => let q := r * r % m; if e.testBit (255 - i) then q * b % m else q) 1

/-- A point of the curve; none is the point at infinity. -/
abbrev EcPt := Option (Nat × Nat)

/-- Point addition on P-256. -/
def ecAdd (p q : EcPt) : EcPt :=
  match p, q with
  | none, q => q
  | p, none => p
  | some (x1, y1), some (x2, y2) =>
    if x1 = x2 ∧ (y1 + y2) % p256P = 0 then none
    else
      let l := if x1 = x2 then (3 * x1 * x1 + (p256P - 3)) * powMod (2 * y1 % p256P) (p256P - 2) p256P % p256P
        else (y2 + p256P - y1) * powMod ((x2 + p256P - x1) % p256P) (p256P - 2) p256P % p256P
      let x3 := (l * l + 2 * p256P - x1 - x2) % p256P
      some (x3, (l * (x1 + p256P - x3) + p256P - y1) % p256P)

/-- Scalar multiplication on P-256. -/
def ecMul (k : Nat) (p : EcPt) : EcPt :=
  (List.range 256).foldl (fun r i => let d := ecAdd r r; if k.testBit (255 - i) then ecAdd d p else d) none

/-- ECDSA P-256 verification: public key and signature as 64 bytes each, the digest as 32 bytes. -/
def ecdsaVerify (pub digest sig : List Byte) : Bool :=
  let x := beNat (pub.take 32)
  let y := beNat ((pub.drop 32).take 32)
  let r := beNat (sig.take 32)
  let s := beNat ((sig.drop 32).take 32)
  if r = 0 ∨ s = 0 ∨ r ≥ p256N ∨ s ≥ p256N ∨ x ≥ p256P ∨ y ≥ p256P
    ∨ (y * y) % p256P ≠ (x * x * x + (p256P - 3) * x + p256B) % p256P then false
  else
    let w := powMod s (p256N - 2) p256N
    let z := beNat (digest.take 32)
    match ecAdd (ecMul (z * w % p256N) (some p256G)) (ecMul (r * w % p256N) (some (x, y))) with
    | none => false
    | some (vx, _) => decide (vx % p256N = r)

end Sys2Proof.Machine
end

