-- ==== Sys2Proof/Machine/RegMap.lean ====
section
/-! DEFINITION. The register map of a lane (R39 to R42, R53, R91, R147, R148, R189, R228, R284, R285, R341, R373, R407,
R408, R450 to R452, R487, R488, R526, R527, R575, R576, R588, R608, R609): every register of the spec's tables by name with
its address and reset value (namespace R), every field by name (namespace F), and the table of access codes that a
register access goes by (R17). A register of a replicated block takes its instance number (R22). The registers named BIN_…
lie in the Binnacle's own offsets (R588). -/

namespace Sys2Proof.Machine

/-- LANE_ID_PART (R40, RO). -/
def R.LANE_ID_PART : Reg := ⟨0x40000000, 0x7340#32⟩
/-- LANE_ID_LANE (R40, RO). -/
def R.LANE_ID_LANE : Reg := ⟨0x40000004, 0x0#32⟩
/-- LANE_ID_UID_LO (R40, RO). -/
def R.LANE_ID_UID_LO : Reg := ⟨0x40000008, 0x0#32⟩
/-- LANE_ID_UID_HI (R40, RO). -/
def R.LANE_ID_UID_HI : Reg := ⟨0x4000000C, 0x0#32⟩
/-- LANE_ID_CAPPTR (R40, RO). -/
def R.LANE_ID_CAPPTR : Reg := ⟨0x40000010, 0x100#32⟩
/-- IRQ_CTRL (R42, RW). -/
def R.IRQ_CTRL : Reg := ⟨0x40100000, 0x0#32⟩
/-- IRQ_THRESH (R42, RW). -/
def R.IRQ_THRESH : Reg := ⟨0x40100004, 0x0#32⟩
/-- IRQ_CLAIM (R42, RO). -/
def R.IRQ_CLAIM : Reg := ⟨0x40100008, 0x0#32⟩
/-- IRQ_COMPLETE (R42, WO). -/
def R.IRQ_COMPLETE : Reg := ⟨0x4010000C, 0x0#32⟩
/-- IRQ_INSVC (R42, RO). -/
def R.IRQ_INSVC : Reg := ⟨0x40100010, 0x0#32⟩
/-- IRQ_PENDn (R42, RO). -/
def R.IRQ_PEND (n : Nat) : Reg := ⟨0x40100020 + 0x4 * n, 0x0#32⟩
/-- IRQ_ENn (R42, RW). -/
def R.IRQ_EN (n : Nat) : Reg := ⟨0x40100040 + 0x4 * n, 0x0#32⟩
/-- IRQ_LVLn (R42, RW). -/
def R.IRQ_LVL (n : Nat) : Reg := ⟨0x40100100 + 0x4 * n, 0x0#32⟩
/-- AX_CFG (R53, RWL). -/
def R.AX_CFG (a : Nat) : Reg := ⟨0x40040000 + 0x1000 * a, 0x0#32⟩
/-- AX_BIND (R53, RWL). -/
def R.AX_BIND (a : Nat) : Reg := ⟨0x40040004 + 0x1000 * a, 0x0#32⟩
/-- AX_PSLOT (R53, RWL). -/
def R.AX_PSLOT (a : Nat) : Reg := ⟨0x40040008 + 0x1000 * a, 0x0#32⟩
/-- AX_STAT (R53, RO, W1C). -/
def R.AX_STAT (a : Nat) : Reg := ⟨0x4004000C + 0x1000 * a, 0x0#32⟩
/-- RKN_CTRL (R91, RW, W1S). -/
def R.RKN_CTRL : Reg := ⟨0x40010000, 0x0#32⟩
/-- RKN_STAT (R91, RO). -/
def R.RKN_STAT : Reg := ⟨0x40010004, 0x0#32⟩
/-- RKN_GT (R91, RO, W1C). -/
def R.RKN_GT : Reg := ⟨0x40010008, 0x0#32⟩
/-- RKN_MSEL (R91, RWL). -/
def R.RKN_MSEL : Reg := ⟨0x4001000C, 0x0#32⟩
/-- RKN_FAULT (R91, RO, W1C). -/
def R.RKN_FAULT : Reg := ⟨0x40010010, 0x0#32⟩
/-- RKN_VALr (R91, RO). -/
def R.RKN_VAL (r : Nat) : Reg := ⟨0x40010040 + 0x4 * r, 0x0#32⟩
/-- RKN_SNAPr (R91, RO). -/
def R.RKN_SNAP (r : Nat) : Reg := ⟨0x40010080 + 0x4 * r, 0x0#32⟩
/-- RKN_ADM_CTRL (R91, RWL). -/
def R.RKN_ADM_CTRL : Reg := ⟨0x400100C0, 0x3E82#32⟩
/-- RKN_ADM_STAT (R91, RO, W1C). -/
def R.RKN_ADM_STAT : Reg := ⟨0x400100C4, 0x0#32⟩
/-- RKN_ADM_ACC (R91, RC). -/
def R.RKN_ADM_ACC : Reg := ⟨0x400100C8, 0x0#32⟩
/-- RKN_ADM_REF (R91, RC). -/
def R.RKN_ADM_REF : Reg := ⟨0x400100CC, 0x0#32⟩
/-- RKN_TDLn (R91, RWL). -/
def R.RKN_TDL (n : Nat) : Reg := ⟨0x40010100 + 0x10 * n, 0x0#32⟩
/-- RKN_TDLYn (R91, RO). -/
def R.RKN_TDLY (n : Nat) : Reg := ⟨0x40010104 + 0x10 * n, 0x0#32⟩
/-- RKN_TMAXn (R91, RC). -/
def R.RKN_TMAX (n : Nat) : Reg := ⟨0x40010108 + 0x10 * n, 0x0#32⟩
/-- RKN_TSTATn (R91, RO, W1C). -/
def R.RKN_TSTAT (n : Nat) : Reg := ⟨0x4001010C + 0x10 * n, 0x0#32⟩
/-- RKN_WP_CFGw (R91, RW). -/
def R.RKN_WP_CFG (w : Nat) : Reg := ⟨0x40011000 + 0x20 * w, 0x0#32⟩
/-- RKN_WP_CMPw (R91, RW). -/
def R.RKN_WP_CMP (w : Nat) : Reg := ⟨0x40011004 + 0x20 * w, 0x0#32⟩
/-- RKN_WP_STEPw (R91, RW). -/
def R.RKN_WP_STEP (w : Nat) : Reg := ⟨0x40011008 + 0x20 * w, 0x0#32⟩
/-- RKN_WP_ARGw (R91, RW). -/
def R.RKN_WP_ARG (w : Nat) : Reg := ⟨0x4001100C + 0x20 * w, 0x0#32⟩
/-- RKN_WP_STATw (R91, RO, W1C). -/
def R.RKN_WP_STAT (w : Nat) : Reg := ⟨0x40011010 + 0x20 * w, 0x0#32⟩
/-- FIX_CTRL (R147, RWL). -/
def R.FIX_CTRL : Reg := ⟨0x40020000, 0x300#32⟩
/-- FIX_STAT (R147, RO). -/
def R.FIX_STAT : Reg := ⟨0x40020004, 0x0#32⟩
/-- FIX_CKP (R147, RWL). -/
def R.FIX_CKP : Reg := ⟨0x40020008, 0x7802#32⟩
/-- FIX_LISTBASE (R147, RWL). -/
def R.FIX_LISTBASE : Reg := ⟨0x4002000C, 0x0#32⟩
/-- FIX_LISTCNT (R147, RWL). -/
def R.FIX_LISTCNT : Reg := ⟨0x40020010, 0x0#32⟩
/-- FIX_XSTAT (R147, RO, W1C). -/
def R.FIX_XSTAT : Reg := ⟨0x40020014, 0x0#32⟩
/-- FIX_CNUM (R147, RO). -/
def R.FIX_CNUM : Reg := ⟨0x40020018, 0x0#32⟩
/-- FIX_EVT (R147, RO, W1C). -/
def R.FIX_EVT : Reg := ⟨0x4002001C, 0x0#32⟩
/-- FIX_ODDPOS (R147, RO). -/
def R.FIX_ODDPOS : Reg := ⟨0x40020020, 0x0#32⟩
/-- FIX_RSCNT (R147, RO). -/
def R.FIX_RSCNT : Reg := ⟨0x40020024, 0x0#32⟩
/-- FIX_DECPOST (R147, WO). -/
def R.FIX_DECPOST : Reg := ⟨0x40020028, 0x0#32⟩
/-- FIX_DECSTAT (R147, RO). -/
def R.FIX_DECSTAT : Reg := ⟨0x4002002C, 0x0#32⟩
/-- FIX_DECAGR (R147, RC). -/
def R.FIX_DECAGR : Reg := ⟨0x40020030, 0x0#32⟩
/-- FIX_DIN (R147, RO). -/
def R.FIX_DIN : Reg := ⟨0x40020034, 0x0#32⟩
/-- FIX_DINOWN (R147, RO). -/
def R.FIX_DINOWN : Reg := ⟨0x40020038, 0x0#32⟩
/-- FIX_DIGn (R147, RO). -/
def R.FIX_DIG (n : Nat) : Reg := ⟨0x40020040 + 0x4 * n, 0x0#32⟩
/-- FIX_WSIG (R147, RO). -/
def R.FIX_WSIG : Reg := ⟨0x4002004C, 0x0#32⟩
/-- FIX_WSBASEk (R147, RWL). -/
def R.FIX_WSBASE (k : Nat) : Reg := ⟨0x40020050 + 0x8 * k, 0x0#32⟩
/-- FIX_WSSIZEk (R147, RWL). -/
def R.FIX_WSSIZE (k : Nat) : Reg := ⟨0x40020054 + 0x8 * k, 0x0#32⟩
/-- FIX_SPLIT (R147, RO, W1S, W1C). -/
def R.FIX_SPLIT : Reg := ⟨0x40020080, 0x0#32⟩
/-- FIX_DBG (R147, RO). -/
def R.FIX_DBG : Reg := ⟨0x40020084, 0x0#32⟩
/-- FIX_BPADDR (R147, RO). -/
def R.FIX_BPADDR : Reg := ⟨0x40020088, 0x0#32⟩
/-- FIX_AXSa (R147, RO). -/
def R.FIX_AXS (a : Nat) : Reg := ⟨0x40020100 + 0x10 * a, 0x0#32⟩
/-- FIX_AXAPa (R147, RO). -/
def R.FIX_AXAP (a : Nat) : Reg := ⟨0x40020104 + 0x10 * a, 0x0#32⟩
/-- FIX_AXMa (R147, RO). -/
def R.FIX_AXM (a : Nat) : Reg := ⟨0x40020108 + 0x10 * a, 0x0#32⟩
/-- FIX_AXTa (R147, RO). -/
def R.FIX_AXT (a : Nat) : Reg := ⟨0x4002010C + 0x10 * a, 0x0#32⟩
/-- DLK_CTRL (R148, RWL). -/
def R.DLK_CTRL : Reg := ⟨0x40058000, 0x4#32⟩
/-- DLK_CFGn (R148, RWL). -/
def R.DLK_CFG (n : Nat) : Reg := ⟨0x40058100 + 0x100 * n, 0x228#32⟩
/-- DLK_WINn (R148, RWL). -/
def R.DLK_WIN (n : Nat) : Reg := ⟨0x40058104 + 0x100 * n, 0xC80050#32⟩
/-- DLK_LSTATn (R148, RO). -/
def R.DLK_LSTAT (n : Nat) : Reg := ⟨0x40058108 + 0x100 * n, 0x0#32⟩
/-- DLK_LATn (R148, RO). -/
def R.DLK_LAT (n : Nat) : Reg := ⟨0x4005810C + 0x100 * n, 0x0#32⟩
/-- DLK_MISSn (R148, RC). -/
def R.DLK_MISS (n : Nat) : Reg := ⟨0x40058110 + 0x100 * n, 0x0#32⟩
/-- DLK_LATEn (R148, RC). -/
def R.DLK_LATE (n : Nat) : Reg := ⟨0x40058114 + 0x100 * n, 0x0#32⟩
/-- DLK_CRCn (R148, RC). -/
def R.DLK_CRC (n : Nat) : Reg := ⟨0x40058118 + 0x100 * n, 0x0#32⟩
/-- DLK_OUTLn (R148, RC). -/
def R.DLK_OUTL (n : Nat) : Reg := ⟨0x4005811C + 0x100 * n, 0x0#32⟩
/-- DLK_EVTn (R148, RO, W1C). -/
def R.DLK_EVT (n : Nat) : Reg := ⟨0x40058120 + 0x100 * n, 0x0#32⟩
/-- DLK_NOAGRn (R148, RC). -/
def R.DLK_NOAGR (n : Nat) : Reg := ⟨0x40058124 + 0x100 * n, 0x0#32⟩
/-- CE_CTRL (R189, RW). -/
def R.CE_CTRL : Reg := ⟨0x40030000, 0x0#32⟩
/-- CE_STAT (R189, RO, W1C). -/
def R.CE_STAT : Reg := ⟨0x40030004, 0x8#32⟩
/-- CE_FAULT (R189, RO, W1C). -/
def R.CE_FAULT : Reg := ⟨0x40030008, 0x0#32⟩
/-- CE_FPC (R189, RO). -/
def R.CE_FPC : Reg := ⟨0x4003000C, 0x0#32⟩
/-- CE_RUN (R189, RO). -/
def R.CE_RUN : Reg := ⟨0x40030010, 0x0#32⟩
/-- CE_UTIL (R189, RC). -/
def R.CE_UTIL : Reg := ⟨0x40030014, 0x0#32⟩
/-- CE_OUTEV (R189, W1C). -/
def R.CE_OUTEV : Reg := ⟨0x40030018, 0x0#32⟩
/-- CE_LPCl (R189, RO). -/
def R.CE_LPC (l : Nat) : Reg := ⟨0x40030020 + 0x8 * l, 0x0#32⟩
/-- CE_LPAl (R189, RO). -/
def R.CE_LPA (l : Nat) : Reg := ⟨0x40030024 + 0x8 * l, 0x0#32⟩
/-- CE_TASKn (R189, RWL). -/
def R.CE_TASK (n : Nat) : Reg := ⟨0x40030100 + 0x4 * n, 0xF00000#32⟩
/-- CE_TSTn (R189, RO). -/
def R.CE_TST (n : Nat) : Reg := ⟨0x40030200 + 0x4 * n, 0x0#32⟩
/-- CE_OUTk (R189, RO). -/
def R.CE_OUT (k : Nat) : Reg := ⟨0x40030300 + 0x4 * k, 0x0#32⟩
/-- AX_LAW (R228, RWL). -/
def R.AX_LAW (a : Nat) : Reg := ⟨0x40040010 + 0x1000 * a, 0x500#32⟩
/-- AX_BANK (R228, RO, W1S, W1C). -/
def R.AX_BANK (a : Nat) : Reg := ⟨0x40040014 + 0x1000 * a, 0x0#32⟩
/-- AX_CHCFG (R228, RWL). -/
def R.AX_CHCFG (a : Nat) : Reg := ⟨0x40040018 + 0x1000 * a, 0x101#32⟩
/-- AX_CHST (R228, RO, W1C). -/
def R.AX_CHST (a : Nat) : Reg := ⟨0x4004001C + 0x1000 * a, 0x0#32⟩
/-- AX_CHMAP0 (R228, RWL). -/
def R.AX_CHMAP0 (a : Nat) : Reg := ⟨0x40040020 + 0x1000 * a, 0x0#32⟩
/-- AX_CHMAP1 (R228, RWL). -/
def R.AX_CHMAP1 (a : Nat) : Reg := ⟨0x40040024 + 0x1000 * a, 0x0#32⟩
/-- AX_BP0k (R228, RWL). -/
def R.AX_BP0 (a k : Nat) : Reg := ⟨0x40040040 + 0x1000 * a + 0x4 * k, 0x0#32⟩
/-- AX_BP1k (R228, RWL). -/
def R.AX_BP1 (a k : Nat) : Reg := ⟨0x40040080 + 0x1000 * a + 0x4 * k, 0x0#32⟩
/-- AX_HY0k (R228, RWL). -/
def R.AX_HY0 (a k : Nat) : Reg := ⟨0x400400C0 + 0x1000 * a + 0x4 * k, 0x0#32⟩
/-- AX_HY1k (R228, RWL). -/
def R.AX_HY1 (a k : Nat) : Reg := ⟨0x40040100 + 0x1000 * a + 0x4 * k, 0x0#32⟩
/-- AX_RSRCr (R228, RWL). -/
def R.AX_RSRC (a r : Nat) : Reg := ⟨0x40040140 + 0x1000 * a + 0x4 * r, 0x0#32⟩
/-- AX_SPSRC (R228, RWL). -/
def R.AX_SPSRC (a : Nat) : Reg := ⟨0x40040180 + 0x1000 * a, 0x1000000#32⟩
/-- AX_SPOFS (R228, RWL). -/
def R.AX_SPOFS (a : Nat) : Reg := ⟨0x40040184 + 0x1000 * a, 0x0#32⟩
/-- AX_SPGAIN (R228, RWL). -/
def R.AX_SPGAIN (a : Nat) : Reg := ⟨0x40040188 + 0x1000 * a, 0x40000000#32⟩
/-- AX_SPDB (R228, RWL). -/
def R.AX_SPDB (a : Nat) : Reg := ⟨0x4004018C + 0x1000 * a, 0x0#32⟩
/-- AX_SPMIN (R228, RWL). -/
def R.AX_SPMIN (a : Nat) : Reg := ⟨0x40040190 + 0x1000 * a, 0x80000000#32⟩
/-- AX_SPMAX (R228, RWL). -/
def R.AX_SPMAX (a : Nat) : Reg := ⟨0x40040194 + 0x1000 * a, 0x7FFFFFFF#32⟩
/-- AX_SPRATE (R228, RWL). -/
def R.AX_SPRATE (a : Nat) : Reg := ⟨0x40040198 + 0x1000 * a, 0x0#32⟩
/-- AX_SPALPHA (R228, RWL). -/
def R.AX_SPALPHA (a : Nat) : Reg := ⟨0x4004019C + 0x1000 * a, 0x0#32⟩
/-- AX_SPSAFE (R228, RWL). -/
def R.AX_SPSAFE (a : Nat) : Reg := ⟨0x400401A0 + 0x1000 * a, 0x0#32⟩
/-- AX_SPRAW (R228, RO). -/
def R.AX_SPRAW (a : Nat) : Reg := ⟨0x400401A4 + 0x1000 * a, 0x0#32⟩
/-- AX_SPVAL (R228, RO). -/
def R.AX_SPVAL (a : Nat) : Reg := ⟨0x400401A8 + 0x1000 * a, 0x0#32⟩
/-- AX_SPST (R228, RO, W1C). -/
def R.AX_SPST (a : Nat) : Reg := ⟨0x400401AC + 0x1000 * a, 0x0#32⟩
/-- AX_LBCFG (R228, RW, W1S). -/
def R.AX_LBCFG (a : Nat) : Reg := ⟨0x40040200 + 0x1000 * a, 0x30#32⟩
/-- AX_LBMASK (R228, RW). -/
def R.AX_LBMASK (a : Nat) : Reg := ⟨0x40040204 + 0x1000 * a, 0x0#32⟩
/-- AX_LBBASE (R228, RW). -/
def R.AX_LBBASE (a : Nat) : Reg := ⟨0x40040208 + 0x1000 * a, 0x0#32⟩
/-- AX_LBLEN (R228, RW). -/
def R.AX_LBLEN (a : Nat) : Reg := ⟨0x4004020C + 0x1000 * a, 0x0#32⟩
/-- AX_LBPOST (R228, RW). -/
def R.AX_LBPOST (a : Nat) : Reg := ⟨0x40040210 + 0x1000 * a, 0x0#32⟩
/-- AX_LBTHC (R228, RW). -/
def R.AX_LBTHC (a : Nat) : Reg := ⟨0x40040214 + 0x1000 * a, 0x0#32⟩
/-- AX_LBTHV (R228, RW). -/
def R.AX_LBTHV (a : Nat) : Reg := ⟨0x40040218 + 0x1000 * a, 0x0#32⟩
/-- AX_LBST (R228, RO, W1C). -/
def R.AX_LBST (a : Nat) : Reg := ⟨0x4004021C + 0x1000 * a, 0x0#32⟩
/-- AX_LBWP (R228, RO). -/
def R.AX_LBWP (a : Nat) : Reg := ⟨0x40040220 + 0x1000 * a, 0x0#32⟩
/-- AX_LBTP (R228, RO). -/
def R.AX_LBTP (a : Nat) : Reg := ⟨0x40040224 + 0x1000 * a, 0x0#32⟩
/-- EDG_MCTLb (R284, RWL). -/
def R.EDG_MCTL (b : Nat) : Reg := ⟨0x40054000 + 0x80 * b, 0x34#32⟩
/-- EDG_MSTATb (R284, RO). -/
def R.EDG_MSTAT (b : Nat) : Reg := ⟨0x40054004 + 0x80 * b, 0x0#32⟩
/-- EDG_MEVTb (R284, RO, W1C). -/
def R.EDG_MEVT (b : Nat) : Reg := ⟨0x40054008 + 0x80 * b, 0x0#32⟩
/-- EDG_MISELb (R284, RWL). -/
def R.EDG_MISEL (b : Nat) : Reg := ⟨0x4005400C + 0x80 * b, 0x80000000#32⟩
/-- EDG_MVSELb (R284, RWL). -/
def R.EDG_MVSEL (b : Nat) : Reg := ⟨0x40054010 + 0x80 * b, 0x0#32⟩
/-- EDG_MSENb (R284, RWL). -/
def R.EDG_MSEN (b : Nat) : Reg := ⟨0x40054014 + 0x80 * b, 0x1000000#32⟩
/-- EDG_MAMPb (R284, RWL). -/
def R.EDG_MAMP (b : Nat) : Reg := ⟨0x40054018 + 0x80 * b, 0x3E80200#32⟩
/-- EDG_MOFSb (R284, RWL). -/
def R.EDG_MOFS (b : Nat) : Reg := ⟨0x4005401C + 0x80 * b, 0x0#32⟩
/-- EDG_MWOFSb (R284, RWL). -/
def R.EDG_MWOFS (b : Nat) : Reg := ⟨0x40054020 + 0x80 * b, 0x0#32⟩
/-- EDG_MESTb (R284, RWL). -/
def R.EDG_MEST (b : Nat) : Reg := ⟨0x40054024 + 0x80 * b, 0x200#32⟩
/-- EDG_MRATEDb (R284, RWL). -/
def R.EDG_MRATED (b : Nat) : Reg := ⟨0x40054028 + 0x80 * b, 0x0#32⟩
/-- EDG_MINJb (R284, RWL). -/
def R.EDG_MINJ (b : Nat) : Reg := ⟨0x4005402C + 0x80 * b, 0x5141A#32⟩
/-- EDG_MINJSWb (R284, RWL). -/
def R.EDG_MINJSW (b : Nat) : Reg := ⟨0x40054030 + 0x80 * b, 0x3D0033#32⟩
/-- EDG_MPOLb (R284, RWL). -/
def R.EDG_MPOL (b : Nat) : Reg := ⟨0x40054034 + 0x80 * b, 0x8144D04#32⟩
/-- EDG_MSTRb (R284, RWL). -/
def R.EDG_MSTR (b : Nat) : Reg := ⟨0x40054038 + 0x80 * b, 0x643A#32⟩
/-- EDG_MXCHKb (R284, RWL). -/
def R.EDG_MXCHK (b : Nat) : Reg := ⟨0x4005403C + 0x80 * b, 0x81E#32⟩
/-- EDG_MCATb (R284, RWL). -/
def R.EDG_MCAT (b : Nat) : Reg := ⟨0x40054040 + 0x80 * b, 0x140A0200#32⟩
/-- EDG_MCAT2b (R284, RWL). -/
def R.EDG_MCAT2 (b : Nat) : Reg := ⟨0x40054044 + 0x80 * b, 0x7D02000#32⟩
/-- EDG_MLIMb (R284, RWL). -/
def R.EDG_MLIM (b : Nat) : Reg := ⟨0x40054048 + 0x80 * b, 0x1403EC#32⟩
/-- EDG_MLOSSb (R284, RWL). -/
def R.EDG_MLOSS (b : Nat) : Reg := ⟨0x4005404C + 0x80 * b, 0x1000#32⟩
/-- EDG_MIOFSb (R284, RO). -/
def R.EDG_MIOFS (b : Nat) : Reg := ⟨0x40054050 + 0x80 * b, 0x0#32⟩
/-- EDG_MCRESb (R284, RO). -/
def R.EDG_MCRES (b : Nat) : Reg := ⟨0x40054054 + 0x80 * b, 0x0#32⟩
/-- EDG_MCNTb (R284, RC). -/
def R.EDG_MCNT (b : Nat) : Reg := ⟨0x40054058 + 0x80 * b, 0x0#32⟩
/-- EDG_CCCFGa (R285, RWL). -/
def R.EDG_CCCFG (a : Nat) : Reg := ⟨0x40054400 + 0x20 * a, 0x200#32⟩
/-- EDG_CCBASEa (R285, RWL). -/
def R.EDG_CCBASE (a : Nat) : Reg := ⟨0x40054404 + 0x20 * a, 0x0#32⟩
/-- EDG_CCONa (R285, RWL). -/
def R.EDG_CCON (a : Nat) : Reg := ⟨0x40054408 + 0x20 * a, 0x0#32⟩
/-- EDG_CCOFFa (R285, RWL). -/
def R.EDG_CCOFF (a : Nat) : Reg := ⟨0x4005440C + 0x20 * a, 0x0#32⟩
/-- EDG_CCSTa (R285, RO). -/
def R.EDG_CCST (a : Nat) : Reg := ⟨0x40054410 + 0x20 * a, 0x0#32⟩
/-- EDG_CCOUTa (R285, RO). -/
def R.EDG_CCOUT (a : Nat) : Reg := ⟨0x40054414 + 0x20 * a, 0x0#32⟩
/-- EDG_CTRL (R341, RW). -/
def R.EDG_CTRL : Reg := ⟨0x40050000, 0x0#32⟩
/-- EDG_LOAD (R341, WO). -/
def R.EDG_LOAD : Reg := ⟨0x40050004, 0x0#32⟩
/-- EDG_LDSTAT (R341, RO, W1C). -/
def R.EDG_LDSTAT : Reg := ⟨0x40050008, 0x0#32⟩
/-- EDG_TLDk (R341, RWL). -/
def R.EDG_TLD (k : Nat) : Reg := ⟨0x40050010 + 0x4 * k, 0x0#32⟩
/-- EDG_BCFGb (R341, RWL). -/
def R.EDG_BCFG (b : Nat) : Reg := ⟨0x40050100 + 0x40 * b, 0x0#32⟩
/-- EDG_BPERb (R341, RWL). -/
def R.EDG_BPER (b : Nat) : Reg := ⟨0x40050104 + 0x40 * b, 0x13880#32⟩
/-- EDG_BTIMb (R341, RWL). -/
def R.EDG_BTIM (b : Nat) : Reg := ⟨0x40050108 + 0x40 * b, 0x6400320#32⟩
/-- EDG_BREFb (R341, RWL). -/
def R.EDG_BREF (b : Nat) : Reg := ⟨0x4005010C + 0x40 * b, 0x2800040#32⟩
/-- EDG_BVDSb (R341, RWL). -/
def R.EDG_BVDS (b : Nat) : Reg := ⟨0x40050110 + 0x40 * b, 0x80614#32⟩
/-- EDG_BBLKb (R341, RWL). -/
def R.EDG_BBLK (b : Nat) : Reg := ⟨0x40050114 + 0x40 * b, 0x1000#32⟩
/-- EDG_BSTATb (R341, RO). -/
def R.EDG_BSTAT (b : Nat) : Reg := ⟨0x40050118 + 0x40 * b, 0x0#32⟩
/-- EDG_BEVTb (R341, RO, W1C). -/
def R.EDG_BEVT (b : Nat) : Reg := ⟨0x4005011C + 0x40 * b, 0x0#32⟩
/-- EDG_BCLRb (R341, W1S). -/
def R.EDG_BCLR (b : Nat) : Reg := ⟨0x40050120 + 0x40 * b, 0x0#32⟩
/-- EDG_BCARUb (R341, RO). -/
def R.EDG_BCARU (b : Nat) : Reg := ⟨0x40050124 + 0x40 * b, 0x0#32⟩
/-- EDG_BCARVb (R341, RO). -/
def R.EDG_BCARV (b : Nat) : Reg := ⟨0x40050128 + 0x40 * b, 0x0#32⟩
/-- EDG_BCARWb (R341, RO). -/
def R.EDG_BCARW (b : Nat) : Reg := ⟨0x4005012C + 0x40 * b, 0x0#32⟩
/-- EDG_BPENDb (R341, RO). -/
def R.EDG_BPEND (b : Nat) : Reg := ⟨0x40050130 + 0x40 * b, 0x13880#32⟩
/-- EDG_BCNTb (R341, RC). -/
def R.EDG_BCNT (b : Nat) : Reg := ⟨0x40050134 + 0x40 * b, 0x0#32⟩
/-- EDG_VCFGv (R341, RWL). -/
def R.EDG_VCFG (v : Nat) : Reg := ⟨0x40050400 + 0x20 * v, 0x6404#32⟩
/-- EDG_VREGv (R341, RWL). -/
def R.EDG_VREG (v : Nat) : Reg := ⟨0x40050404 + 0x20 * v, 0x100100#32⟩
/-- EDG_VLIMv (R341, RWL). -/
def R.EDG_VLIM (v : Nat) : Reg := ⟨0x40050408 + 0x20 * v, 0x41F40000#32⟩
/-- EDG_VSTATv (R341, RO). -/
def R.EDG_VSTAT (v : Nat) : Reg := ⟨0x4005040C + 0x20 * v, 0x0#32⟩
/-- EDG_VEVTv (R341, RO, W1C). -/
def R.EDG_VEVT (v : Nat) : Reg := ⟨0x40050410 + 0x20 * v, 0x0#32⟩
/-- EDG_VCLRv (R341, W1S). -/
def R.EDG_VCLR (v : Nat) : Reg := ⟨0x40050414 + 0x20 * v, 0x0#32⟩
/-- EDG_SOCFGs (R341, RWL). -/
def R.EDG_SOCFG (s : Nat) : Reg := ⟨0x40050600 + 0x10 * s, 0x0#32⟩
/-- EDG_SOCMDs (R341, RW). -/
def R.EDG_SOCMD (s : Nat) : Reg := ⟨0x40050604 + 0x10 * s, 0x0#32⟩
/-- EDG_SOSTATs (R341, RO, W1C). -/
def R.EDG_SOSTAT (s : Nat) : Reg := ⟨0x40050608 + 0x10 * s, 0x0#32⟩
/-- EDG_SOCLRs (R341, W1S). -/
def R.EDG_SOCLR (s : Nat) : Reg := ⟨0x4005060C + 0x10 * s, 0x0#32⟩
/-- EDG_TRCFGt (R341, RWL). -/
def R.EDG_TRCFG (t : Nat) : Reg := ⟨0x40050700 + 0x10 * t, 0x10#32⟩
/-- EDG_TRSTATt (R341, RO, W1C). -/
def R.EDG_TRSTAT (t : Nat) : Reg := ⟨0x40050704 + 0x10 * t, 0x0#32⟩
/-- EDG_TRCLRt (R341, W1S). -/
def R.EDG_TRCLR (t : Nat) : Reg := ⟨0x40050708 + 0x10 * t, 0x0#32⟩
/-- EDG_OPCFGn (R341, RWL). -/
def R.EDG_OPCFG (n : Nat) : Reg := ⟨0x40050800 + 0x20 * n, 0xA00C8#32⟩
/-- EDG_OPSTATn (R341, RO). -/
def R.EDG_OPSTAT (n : Nat) : Reg := ⟨0x40050804 + 0x20 * n, 0x7#32⟩
/-- EDG_DDSTATn (R341, RO, W1C). -/
def R.EDG_DDSTAT (n : Nat) : Reg := ⟨0x40050808 + 0x20 * n, 0x0#32⟩
/-- MEAS_CTRL (R373, RW). -/
def R.MEAS_CTRL : Reg := ⟨0x40060000, 0x0#32⟩
/-- MEAS_STAT (R373, RO, W1C). -/
def R.MEAS_STAT : Reg := ⟨0x40060004, 0x0#32⟩
/-- MEAS_REF (R373, RW). -/
def R.MEAS_REF : Reg := ⟨0x40060008, 0x0#32⟩
/-- MEAS_CONV (R373, RO). -/
def R.MEAS_CONV : Reg := ⟨0x4006000C, 0x0#32⟩
/-- MEAS_SPOT (R373, RW, W1S). -/
def R.MEAS_SPOT : Reg := ⟨0x40060010, 0x0#32⟩
/-- MEAS_SPOT_RES (R373, RC). -/
def R.MEAS_SPOT_RES : Reg := ⟨0x40060014, 0x0#32⟩
/-- MEAS_SQSTART (R373, W1S). -/
def R.MEAS_SQSTART : Reg := ⟨0x40060018, 0x0#32⟩
/-- MEAS_GBEVT0 (R373, W1C). -/
def R.MEAS_GBEVT0 : Reg := ⟨0x40060020, 0x0#32⟩
/-- MEAS_GBEVT1 (R373, W1C). -/
def R.MEAS_GBEVT1 : Reg := ⟨0x40060024, 0x0#32⟩
/-- MEAS_CALCMD (R373, RW, W1S). -/
def R.MEAS_CALCMD : Reg := ⟨0x40060030, 0x0#32⟩
/-- MEAS_CALST (R373, RO, W1C). -/
def R.MEAS_CALST : Reg := ⟨0x40060034, 0x0#32⟩
/-- MEAS_CALZ (R373, RW). -/
def R.MEAS_CALZ : Reg := ⟨0x40060038, 0x0#32⟩
/-- MEAS_CALFS (R373, RW). -/
def R.MEAS_CALFS : Reg := ⟨0x4006003C, 0x0#32⟩
/-- MEAS_CALMZ (R373, RO). -/
def R.MEAS_CALMZ : Reg := ⟨0x40060040, 0x0#32⟩
/-- MEAS_CALMF (R373, RO). -/
def R.MEAS_CALMF : Reg := ⟨0x40060044, 0x0#32⟩
/-- MEAS_CALPP (R373, RO). -/
def R.MEAS_CALPP : Reg := ⟨0x40060048, 0x0#32⟩
/-- MEAS_FOFSk (R373, RO). -/
def R.MEAS_FOFS (k : Nat) : Reg := ⟨0x40060080 + 0x4 * k, 0x0#32⟩
/-- MEAS_FGAINk (R373, RO): the OTP value is 1.0 unless it is set otherwise (R362, log entry 2). -/
def R.MEAS_FGAIN (k : Nat) : Reg := ⟨0x400600A0 + 0x4 * k, 0x40000000#32⟩
/-- MEAS_SQCFGq (R373, RWL). -/
def R.MEAS_SQCFG (q : Nat) : Reg := ⟨0x40060100 + 0x4 * q, 0x100#32⟩
/-- MEAS_SQSTATq (R373, RO, W1C). -/
def R.MEAS_SQSTAT (q : Nat) : Reg := ⟨0x40060140 + 0x4 * q, 0x0#32⟩
/-- MEAS_STEPi (R373, RWL). -/
def R.MEAS_STEP (i : Nat) : Reg := ⟨0x40060200 + 0x4 * i, 0x0#32⟩
/-- MEAS_SLCFGs (R373, RWL). -/
def R.MEAS_SLCFG (s : Nat) : Reg := ⟨0x40061000 + 0x40 * s, 0x0#32⟩
/-- MEAS_RESs (R373, RO). -/
def R.MEAS_RES (s : Nat) : Reg := ⟨0x40061004 + 0x40 * s, 0x0#32⟩
/-- MEAS_RAWs (R373, RO). -/
def R.MEAS_RAW (s : Nat) : Reg := ⟨0x40061008 + 0x40 * s, 0x0#32⟩
/-- MEAS_SLSTs (R373, RO, W1C). -/
def R.MEAS_SLST (s : Nat) : Reg := ⟨0x4006100C + 0x40 * s, 0x0#32⟩
/-- MEAS_GBHIs (R373, RWL). -/
def R.MEAS_GBHI (s : Nat) : Reg := ⟨0x40061010 + 0x40 * s, 0x7FFFFFFF#32⟩
/-- MEAS_GBLOs (R373, RWL). -/
def R.MEAS_GBLO (s : Nat) : Reg := ⟨0x40061014 + 0x40 * s, 0x80000000#32⟩
/-- MEAS_GBFLTs (R373, RWL). -/
def R.MEAS_GBFLT (s : Nat) : Reg := ⟨0x40061018 + 0x40 * s, 0x1000000#32⟩
/-- MEAS_UOFSs (R373, RO). -/
def R.MEAS_UOFS (s : Nat) : Reg := ⟨0x4006101C + 0x40 * s, 0x0#32⟩
/-- MEAS_UGAINs (R373, RO). -/
def R.MEAS_UGAIN (s : Nat) : Reg := ⟨0x40061020 + 0x40 * s, 0x40000000#32⟩
/-- POS_CTRL (R407, RW). -/
def R.POS_CTRL : Reg := ⟨0x40070000, 0x0#32⟩
/-- POS_AXSRCa (R407, RWL). -/
def R.POS_AXSRC (a : Nat) : Reg := ⟨0x40070010 + 0x4 * a, 0x0#32⟩
/-- POS_CFGn (R407, RWL). -/
def R.POS_CFG (n : Nat) : Reg := ⟨0x40070100 + 0x40 * n, 0x0#32⟩
/-- POS_CPRn (R407, RWL). -/
def R.POS_CPR (n : Nat) : Reg := ⟨0x40070104 + 0x40 * n, 0x0#32⟩
/-- POS_IDXREFn (R407, RWL). -/
def R.POS_IDXREF (n : Nat) : Reg := ⟨0x40070108 + 0x40 * n, 0x0#32⟩
/-- POS_TOLn (R407, RWL). -/
def R.POS_TOL (n : Nat) : Reg := ⟨0x4007010C + 0x40 * n, 0x4#32⟩
/-- POS_TOBSn (R407, RWL). -/
def R.POS_TOBS (n : Nat) : Reg := ⟨0x40070110 + 0x40 * n, 0x6400C8#32⟩
/-- POS_AMPn (R407, RWL). -/
def R.POS_AMP (n : Nat) : Reg := ⟨0x40070114 + 0x40 * n, 0x3E80200#32⟩
/-- POS_ANGOFSn (R407, RWL). -/
def R.POS_ANGOFS (n : Nat) : Reg := ⟨0x40070118 + 0x40 * n, 0x0#32⟩
/-- POS_COUNTn (R407, RO). -/
def R.POS_COUNT (n : Nat) : Reg := ⟨0x4007011C + 0x40 * n, 0x0#32⟩
/-- POS_ANGn (R407, RO). -/
def R.POS_ANG (n : Nat) : Reg := ⟨0x40070120 + 0x40 * n, 0x0#32⟩
/-- POS_SPDn (R407, RO). -/
def R.POS_SPD (n : Nat) : Reg := ⟨0x40070124 + 0x40 * n, 0x0#32⟩
/-- POS_ACCn (R407, RO). -/
def R.POS_ACC (n : Nat) : Reg := ⟨0x40070128 + 0x40 * n, 0x0#32⟩
/-- POS_IDXLATn (R407, RO). -/
def R.POS_IDXLAT (n : Nat) : Reg := ⟨0x4007012C + 0x40 * n, 0x0#32⟩
/-- POS_SLIPn (R407, RO). -/
def R.POS_SLIP (n : Nat) : Reg := ⟨0x40070130 + 0x40 * n, 0x0#32⟩
/-- POS_STATn (R407, RO, W1C). -/
def R.POS_STAT (n : Nat) : Reg := ⟨0x40070134 + 0x40 * n, 0x0#32⟩
/-- POS_ERRCNTn (R407, RC). -/
def R.POS_ERRCNT (n : Nat) : Reg := ⟨0x40070138 + 0x40 * n, 0x0#32⟩
/-- POS_TRCFG (R407, RWL). -/
def R.POS_TRCFG : Reg := ⟨0x40070800, 0x14200000#32⟩
/-- POS_WDPPk (R407, RWL). -/
def R.POS_WDPP (k : Nat) : Reg := ⟨0x40070804 + 0x4 * k, 0x0#32⟩
/-- POS_RDPP (R407, RWL). -/
def R.POS_RDPP : Reg := ⟨0x40070814, 0x0#32⟩
/-- POS_GSCFG (R407, RW). -/
def R.POS_GSCFG : Reg := ⟨0x40070818, 0x0#32⟩
/-- POS_GSRAT (R407, RW). -/
def R.POS_GSRAT : Reg := ⟨0x4007081C, 0x3E8000D#32⟩
/-- POS_GSPD (R407, RO). -/
def R.POS_GSPD : Reg := ⟨0x40070820, 0x0#32⟩
/-- POS_WSPDk (R407, RO). -/
def R.POS_WSPD (k : Nat) : Reg := ⟨0x40070824 + 0x4 * k, 0x0#32⟩
/-- POS_RSPD (R407, RO). -/
def R.POS_RSPD : Reg := ⟨0x40070834, 0x0#32⟩
/-- POS_TRSTAT (R407, RO, W1C). -/
def R.POS_TRSTAT : Reg := ⟨0x40070838, 0x0#32⟩
/-- POS_WCNTk (R407, RO). -/
def R.POS_WCNT (k : Nat) : Reg := ⟨0x40070840 + 0x4 * k, 0x0#32⟩
/-- POS_RCNT (R407, RO). -/
def R.POS_RCNT : Reg := ⟨0x40070850, 0x0#32⟩
/-- SENT_CFGm (R408, RWL). -/
def R.SENT_CFG (m : Nat) : Reg := ⟨0x40078000 + 0x40 * m, 0x301E060#32⟩
/-- SENT_FMTAm (R408, RWL). -/
def R.SENT_FMTA (m : Nat) : Reg := ⟨0x40078004 + 0x40 * m, 0x106#32⟩
/-- SENT_FMTBm (R408, RWL). -/
def R.SENT_FMTB (m : Nat) : Reg := ⟨0x40078008 + 0x40 * m, 0x0#32⟩
/-- SENT_IDm (R408, RWL). -/
def R.SENT_ID (m : Nat) : Reg := ⟨0x4007800C + 0x40 * m, 0x103#32⟩
/-- SENT_D0m (R408, RO). -/
def R.SENT_D0 (m : Nat) : Reg := ⟨0x40078010 + 0x40 * m, 0x0#32⟩
/-- SENT_D1m (R408, RO). -/
def R.SENT_D1 (m : Nat) : Reg := ⟨0x40078014 + 0x40 * m, 0x0#32⟩
/-- SENT_RAWm (R408, RO). -/
def R.SENT_RAW (m : Nat) : Reg := ⟨0x40078018 + 0x40 * m, 0x0#32⟩
/-- SENT_TICKm (R408, RO). -/
def R.SENT_TICK (m : Nat) : Reg := ⟨0x4007801C + 0x40 * m, 0x0#32⟩
/-- SENT_SFMTm (R408, RO). -/
def R.SENT_SFMT (m : Nat) : Reg := ⟨0x40078020 + 0x40 * m, 0x0#32⟩
/-- SENT_SIDm (R408, RO). -/
def R.SENT_SID (m : Nat) : Reg := ⟨0x40078024 + 0x40 * m, 0x0#32⟩
/-- SENT_STATm (R408, RO, W1C). -/
def R.SENT_STAT (m : Nat) : Reg := ⟨0x40078028 + 0x40 * m, 0x0#32⟩
/-- HNET_CTRL (R450, RW). -/
def R.HNET_CTRL : Reg := ⟨0x40080000, 0x0#32⟩
/-- HNET_CFG (R450, RWL). -/
def R.HNET_CFG : Reg := ⟨0x40080004, 0x70000#32⟩
/-- HNET_TIM (R450, RWL). -/
def R.HNET_TIM : Reg := ⟨0x40080008, 0x280504#32⟩
/-- HNET_IDS (R450, RWL). -/
def R.HNET_IDS : Reg := ⟨0x4008000C, 0x7000008#32⟩
/-- HNET_MXBASE (R450, RWL). -/
def R.HNET_MXBASE : Reg := ⟨0x40080010, 0x0#32⟩
/-- HNET_MXCNT (R450, RWL). -/
def R.HNET_MXCNT : Reg := ⟨0x40080014, 0x0#32⟩
/-- HNET_STAT (R450, RO). -/
def R.HNET_STAT : Reg := ⟨0x40080018, 0x0#32⟩
/-- HNET_EVT (R450, RO, W1C). -/
def R.HNET_EVT : Reg := ⟨0x4008001C, 0x0#32⟩
/-- HNET_OFS (R450, RO). -/
def R.HNET_OFS : Reg := ⟨0x40080020, 0x0#32⟩
/-- HNET_PATH (R450, RO). -/
def R.HNET_PATH : Reg := ⟨0x40080024, 0x0#32⟩
/-- HNET_ERRA (R450, RO). -/
def R.HNET_ERRA : Reg := ⟨0x40080028, 0x0#32⟩
/-- HNET_ERRB (R450, RO). -/
def R.HNET_ERRB : Reg := ⟨0x4008002C, 0x0#32⟩
/-- HNET_NODES (R450, RO). -/
def R.HNET_NODES : Reg := ⟨0x40080030, 0x0#32⟩
/-- HNET_PDLYM (R450, RO). -/
def R.HNET_PDLYM : Reg := ⟨0x40080034, 0x0#32⟩
/-- HNET_CNT (R450, RC). -/
def R.HNET_CNT : Reg := ⟨0x40080038, 0x0#32⟩
/-- HNET_NOAGR (R450, RC). -/
def R.HNET_NOAGR : Reg := ⟨0x4008003C, 0x0#32⟩
/-- HNET_BCFGk (R450, RWL). -/
def R.HNET_BCFG (k : Nat) : Reg := ⟨0x40081000 + 0x4 * k, 0x0#32⟩
/-- HNET_BSTk (R450, RO, W1S, W1C). -/
def R.HNET_BST (k : Nat) : Reg := ⟨0x40081100 + 0x4 * k, 0x0#32⟩
/-- HNET_BTk (R450, RO). -/
def R.HNET_BT (k : Nat) : Reg := ⟨0x40081200 + 0x4 * k, 0x0#32⟩
/-- HNET_BDk_j (R450, RW). -/
def R.HNET_BD (k j : Nat) : Reg := ⟨0x40082000 + 0x40 * k + 0x4 * j, 0x0#32⟩
/-- ISB_CTRL (R451, RW). -/
def R.ISB_CTRL : Reg := ⟨0x40090000, 0x0#32⟩
/-- ISB_CFG (R451, RWL). -/
def R.ISB_CFG : Reg := ⟨0x40090004, 0x3#32⟩
/-- ISB_NAMELO (R451, RWL). -/
def R.ISB_NAMELO : Reg := ⟨0x40090008, 0x0#32⟩
/-- ISB_NAMEHI (R451, RWL). -/
def R.ISB_NAMEHI : Reg := ⟨0x4009000C, 0x0#32⟩
/-- ISB_ADDR (R451, RWL). -/
def R.ISB_ADDR : Reg := ⟨0x40090010, 0xF780FE#32⟩
/-- ISB_ACST (R451, RO). -/
def R.ISB_ACST : Reg := ⟨0x40090014, 0xFE#32⟩
/-- ISB_EVT (R451, RO, W1C). -/
def R.ISB_EVT : Reg := ⟨0x40090018, 0x0#32⟩
/-- ISB_ERR (R451, RO). -/
def R.ISB_ERR : Reg := ⟨0x4009001C, 0x0#32⟩
/-- ISB_NEG (R451, RWL, RW, RO). -/
def R.ISB_NEG : Reg := ⟨0x40090020, 0x0#32⟩
/-- ISB_TXIDk (R451, RW). -/
def R.ISB_TXID (k : Nat) : Reg := ⟨0x40090100 + 0x10 * k, 0x0#32⟩
/-- ISB_TXCTk (R451, RW, W1S, W1C). -/
def R.ISB_TXCT (k : Nat) : Reg := ⟨0x40090104 + 0x10 * k, 0x0#32⟩
/-- ISB_TXD0k (R451, RW). -/
def R.ISB_TXD0 (k : Nat) : Reg := ⟨0x40090108 + 0x10 * k, 0x0#32⟩
/-- ISB_TXD1k (R451, RW). -/
def R.ISB_TXD1 (k : Nat) : Reg := ⟨0x4009010C + 0x10 * k, 0x0#32⟩
/-- ISB_RXFk (R451, RWL). -/
def R.ISB_RXF (k : Nat) : Reg := ⟨0x40090400 + 0x20 * k, 0x0#32⟩
/-- ISB_RXMk (R451, RWL). -/
def R.ISB_RXM (k : Nat) : Reg := ⟨0x40090404 + 0x20 * k, 0x0#32⟩
/-- ISB_RXSk (R451, RO, W1C). -/
def R.ISB_RXS (k : Nat) : Reg := ⟨0x40090408 + 0x20 * k, 0x0#32⟩
/-- ISB_RXTk (R451, RO). -/
def R.ISB_RXT (k : Nat) : Reg := ⟨0x4009040C + 0x20 * k, 0x0#32⟩
/-- ISB_RXD0k (R451, RO). -/
def R.ISB_RXD0 (k : Nat) : Reg := ⟨0x40090410 + 0x20 * k, 0x0#32⟩
/-- ISB_RXD1k (R451, RO). -/
def R.ISB_RXD1 (k : Nat) : Reg := ⟨0x40090414 + 0x20 * k, 0x0#32⟩
/-- ETH_CTRLp (R452, RW). -/
def R.ETH_CTRL (p : Nat) : Reg := ⟨0x400A0000 + 0x100 * p, 0x0#32⟩
/-- ETH_CFGp (R452, RWL). -/
def R.ETH_CFG (p : Nat) : Reg := ⟨0x400A0004 + 0x100 * p, 0x1#32⟩
/-- ETH_MACLOp (R452, RWL). -/
def R.ETH_MACLO (p : Nat) : Reg := ⟨0x400A0008 + 0x100 * p, 0x0#32⟩
/-- ETH_MACHIp (R452, RWL). -/
def R.ETH_MACHI (p : Nat) : Reg := ⟨0x400A000C + 0x100 * p, 0x0#32⟩
/-- ETH_TXBASEp (R452, RWL). -/
def R.ETH_TXBASE (p : Nat) : Reg := ⟨0x400A0010 + 0x100 * p, 0x0#32⟩
/-- ETH_TXCNTp (R452, RWL). -/
def R.ETH_TXCNT (p : Nat) : Reg := ⟨0x400A0014 + 0x100 * p, 0x2#32⟩
/-- ETH_RXBASEp (R452, RWL). -/
def R.ETH_RXBASE (p : Nat) : Reg := ⟨0x400A0018 + 0x100 * p, 0x0#32⟩
/-- ETH_RXCNTp (R452, RWL). -/
def R.ETH_RXCNT (p : Nat) : Reg := ⟨0x400A001C + 0x100 * p, 0x2#32⟩
/-- ETH_IDXp (R452, RO). -/
def R.ETH_IDX (p : Nat) : Reg := ⟨0x400A0020 + 0x100 * p, 0x0#32⟩
/-- ETH_STATp (R452, RO). -/
def R.ETH_STAT (p : Nat) : Reg := ⟨0x400A0024 + 0x100 * p, 0x0#32⟩
/-- ETH_EVTp (R452, RO, W1C). -/
def R.ETH_EVT (p : Nat) : Reg := ⟨0x400A0028 + 0x100 * p, 0x0#32⟩
/-- ETH_PHYADRp (R452, RW, W1S). -/
def R.ETH_PHYADR (p : Nat) : Reg := ⟨0x400A002C + 0x100 * p, 0x0#32⟩
/-- ETH_PHYDATp (R452, RW). -/
def R.ETH_PHYDAT (p : Nat) : Reg := ⟨0x400A0030 + 0x100 * p, 0x0#32⟩
/-- ETH_CNTp (R452, RC). -/
def R.ETH_CNT (p : Nat) : Reg := ⟨0x400A0034 + 0x100 * p, 0x0#32⟩
/-- ETH_FLOk (R452, RWL). -/
def R.ETH_FLO (k : Nat) : Reg := ⟨0x400A0200 + 0x8 * k, 0x0#32⟩
/-- ETH_FHIk (R452, RWL). -/
def R.ETH_FHI (k : Nat) : Reg := ⟨0x400A0204 + 0x8 * k, 0x0#32⟩
/-- SAFE_CTRL (R487, RWL). -/
def R.SAFE_CTRL : Reg := ⟨0x400B0000, 0x0#32⟩
/-- SAFE_OWNID (R487, RWL). -/
def R.SAFE_OWNID : Reg := ⟨0x400B0004, 0x0#32⟩
/-- SAFE_CCV (R487, RO). -/
def R.SAFE_CCV : Reg := ⟨0x400B0008, 0x0#32⟩
/-- SAFE_CMCFG (R487, RWL). -/
def R.SAFE_CMCFG : Reg := ⟨0x400B000C, 0x0#32⟩
/-- SAFE_CMST (R487, RO). -/
def R.SAFE_CMST : Reg := ⟨0x400B0010, 0x0#32⟩
/-- SAFE_EVT (R487, RO, W1C). -/
def R.SAFE_EVT : Reg := ⟨0x400B0014, 0x0#32⟩
/-- SAFE_CNT (R487, RC). -/
def R.SAFE_CNT : Reg := ⟨0x400B0018, 0x0#32⟩
/-- SAFE_SCFGs (R487, RWL). -/
def R.SAFE_SCFG (s : Nat) : Reg := ⟨0x400B1000 + 0x20 * s, 0x0#32⟩
/-- SAFE_SPIDs (R487, RWL). -/
def R.SAFE_SPID (s : Nat) : Reg := ⟨0x400B1004 + 0x20 * s, 0x0#32⟩
/-- SAFE_STEXs (R487, RWL). -/
def R.SAFE_STEX (s : Nat) : Reg := ⟨0x400B1008 + 0x20 * s, 0x3E80014#32⟩
/-- SAFE_SREACTs (R487, RWL). -/
def R.SAFE_SREACT (s : Nat) : Reg := ⟨0x400B100C + 0x20 * s, 0x0#32⟩
/-- SAFE_SCHKs (R487, RWL). -/
def R.SAFE_SCHK (s : Nat) : Reg := ⟨0x400B1010 + 0x20 * s, 0xBB80004#32⟩
/-- SAFE_SSTs (R487, RO, W1C). -/
def R.SAFE_SST (s : Nat) : Reg := ⟨0x400B1014 + 0x20 * s, 0x0#32⟩
/-- SAFE_SNEGs (R487, RO). -/
def R.SAFE_SNEG (s : Nat) : Reg := ⟨0x400B1018 + 0x20 * s, 0x0#32⟩
/-- SAFE_SERRs (R487, RC). -/
def R.SAFE_SERR (s : Nat) : Reg := ⟨0x400B101C + 0x20 * s, 0x0#32⟩
/-- SFN_CTRL (R488, RWL). -/
def R.SFN_CTRL : Reg := ⟨0x400C0000, 0x0#32⟩
/-- SFN_UCRATE (R488, RWL). -/
def R.SFN_UCRATE : Reg := ⟨0x400C0004, 0x100000#32⟩
/-- SFN_UCDIST (R488, RWL). -/
def R.SFN_UCDIST : Reg := ⟨0x400C0008, 0xC350#32⟩
/-- SFN_EVT (R488, RO, W1C). -/
def R.SFN_EVT : Reg := ⟨0x400C000C, 0x0#32⟩
/-- SFN_TRIP (R488, RO). -/
def R.SFN_TRIP : Reg := ⟨0x400C0010, 0x0#32⟩
/-- SFN_ACFGa (R488, RWL). -/
def R.SFN_ACFG (a : Nat) : Reg := ⟨0x400C0100 + 0x100 * a, 0x0#32⟩
/-- SFN_ASTATa (R488, RO, W1C). -/
def R.SFN_ASTAT (a : Nat) : Reg := ⟨0x400C0104 + 0x100 * a, 0x0#32⟩
/-- SFN_PMINa (R488, RWL). -/
def R.SFN_PMIN (a : Nat) : Reg := ⟨0x400C0108 + 0x100 * a, 0x80000000#32⟩
/-- SFN_PMAXa (R488, RWL). -/
def R.SFN_PMAX (a : Nat) : Reg := ⟨0x400C010C + 0x100 * a, 0x7FFFFFFF#32⟩
/-- SFN_RMAXa (R488, RWL). -/
def R.SFN_RMAX (a : Nat) : Reg := ⟨0x400C0110 + 0x100 * a, 0x7FFFFFFF#32⟩
/-- SFN_ACSTa (R488, RWL). -/
def R.SFN_ACST (a : Nat) : Reg := ⟨0x400C0114 + 0x100 * a, 0x3E8#32⟩
/-- SFN_AVALa (R488, RO). -/
def R.SFN_AVAL (a : Nat) : Reg := ⟨0x400C0118 + 0x100 * a, 0x0#32⟩
/-- SFN_ALIMa (R488, RO). -/
def R.SFN_ALIM (a : Nat) : Reg := ⟨0x400C011C + 0x100 * a, 0x0#32⟩
/-- SFN_ESPDk_a (R488, RWL). -/
def R.SFN_ESPD (a k : Nat) : Reg := ⟨0x400C0120 + 0x100 * a + 0x4 * k, 0x0#32⟩
/-- SFN_EANGk_a (R488, RWL). -/
def R.SFN_EANG (a k : Nat) : Reg := ⟨0x400C0140 + 0x100 * a + 0x4 * k, 0x0#32⟩
/-- SFN_ERATEk_a (R488, RWL). -/
def R.SFN_ERATE (a k : Nat) : Reg := ⟨0x400C0160 + 0x100 * a + 0x4 * k, 0x0#32⟩
/-- FIX_DGCFG (R526, RWL). -/
def R.FIX_DGCFG : Reg := ⟨0x40020400, 0x21E08AE#32⟩
/-- FIX_DGBRK (R526, RWL). -/
def R.FIX_DGBRK : Reg := ⟨0x40020404, 0x0#32⟩
/-- FIX_DGPROF (R526, RWL). -/
def R.FIX_DGPROF : Reg := ⟨0x40020408, 0x0#32⟩
/-- FIX_DGHOLD (R526, RWL). -/
def R.FIX_DGHOLD : Reg := ⟨0x4002040C, 0x20000000#32⟩
/-- FIX_DGSTAT (R526, RO). -/
def R.FIX_DGSTAT : Reg := ⟨0x40020410, 0x0#32⟩
/-- FIX_DGEVT (R526, RO, W1C). -/
def R.FIX_DGEVT : Reg := ⟨0x40020414, 0x0#32⟩
/-- FIX_SDRES (R526, RO). -/
def R.FIX_SDRES : Reg := ⟨0x40020418, 0x0#32⟩
/-- FIX_LOSTAT (R526, RO). -/
def R.FIX_LOSTAT : Reg := ⟨0x4002041C, 0x0#32⟩
/-- FIX_LOBALL (R526, RO). -/
def R.FIX_LOBALL : Reg := ⟨0x40020420, 0x0#32⟩
/-- FIX_FLTLAST (R526, RO). -/
def R.FIX_FLTLAST : Reg := ⟨0x40020424, 0x0#32⟩
/-- FIX_FLTCNT (R526, RC). -/
def R.FIX_FLTCNT : Reg := ⟨0x40020428, 0x0#32⟩
/-- PWR_STAT (R575, RO). -/
def R.PWR_STAT : Reg := ⟨0x400D0000, 0x0#32⟩
/-- PWR_MODE (R575, RO). -/
def R.PWR_MODE : Reg := ⟨0x400D0004, 0x0#32⟩
/-- PWR_MODEREQ (R575, WO). -/
def R.PWR_MODEREQ : Reg := ⟨0x400D0008, 0x0#32⟩
/-- PWR_EVT (R575, RO, W1C). -/
def R.PWR_EVT : Reg := ⟨0x400D000C, 0x0#32⟩
/-- PWR_DOM (R575, RO). -/
def R.PWR_DOM : Reg := ⟨0x400D0010, 0x0#32⟩
/-- PWR_NVMG (R575, RWL). -/
def R.PWR_NVMG : Reg := ⟨0x400D0014, 0x550#32⟩
/-- PWR_NVMST (R575, RO). -/
def R.PWR_NVMST : Reg := ⟨0x400D0018, 0x0#32⟩
/-- PWR_FEED (R575, RO). -/
def R.PWR_FEED : Reg := ⟨0x400D001C, 0x0#32⟩
/-- PWR_WAKECFG (R575, RW). -/
def R.PWR_WAKECFG : Reg := ⟨0x400D0020, 0x1#32⟩
/-- PWR_WAKESRC (R575, RO). -/
def R.PWR_WAKESRC : Reg := ⟨0x400D0024, 0x0#32⟩
/-- PWR_WUFCFG (R575, RW). -/
def R.PWR_WUFCFG : Reg := ⟨0x400D0028, 0x0#32⟩
/-- PWR_WUFID (R575, RW). -/
def R.PWR_WUFID : Reg := ⟨0x400D002C, 0x0#32⟩
/-- PWR_WUFMASK (R575, RW). -/
def R.PWR_WUFMASK : Reg := ⟨0x400D0030, 0x0#32⟩
/-- PWR_WUFDAT0 (R575, RW). -/
def R.PWR_WUFDAT0 : Reg := ⟨0x400D0034, 0x0#32⟩
/-- PWR_WUFDAT1 (R575, RW). -/
def R.PWR_WUFDAT1 : Reg := ⟨0x400D0038, 0x0#32⟩
/-- PWR_SLPHOLD (R575, RW). -/
def R.PWR_SLPHOLD : Reg := ⟨0x400D0040, 0x0#32⟩
/-- PWR_SLPST (R575, RO). -/
def R.PWR_SLPST : Reg := ⟨0x400D0044, 0x0#32⟩
/-- PWR_SSLB (R575, RO). -/
def R.PWR_SSLB : Reg := ⟨0x400D0050, 0x0#32⟩
/-- PWR_SSMB (R575, RO). -/
def R.PWR_SSMB : Reg := ⟨0x400D0054, 0x0#32⟩
/-- PWR_SSBANK (R575, RO). -/
def R.PWR_SSBANK : Reg := ⟨0x400D0058, 0x0#32⟩
/-- PWR_SSREP (R575, RO). -/
def R.PWR_SSREP : Reg := ⟨0x400D005C, 0x0#32⟩
/-- PWR_BOOTT (R575, RO). -/
def R.PWR_BOOTT : Reg := ⟨0x400D0060, 0x0#32⟩
/-- IMG_STAT (R576, RO). -/
def R.IMG_STAT : Reg := ⟨0x40110000, 0x0#32⟩
/-- IMG_GEN (R576, RO). -/
def R.IMG_GEN : Reg := ⟨0x40110004, 0x0#32⟩
/-- IMG_FLAGS (R576, RO). -/
def R.IMG_FLAGS : Reg := ⟨0x40110008, 0x0#32⟩
/-- IMG_DIG0 (R576, RO). -/
def R.IMG_DIG0 : Reg := ⟨0x4011000C, 0x0#32⟩
/-- IMG_DIG1 (R576, RO). -/
def R.IMG_DIG1 : Reg := ⟨0x40110010, 0x0#32⟩
/-- IMG_RLCNT (R576, RO). -/
def R.IMG_RLCNT : Reg := ⟨0x40110014, 0x0#32⟩
/-- IMG_LOCK_STAT (R576, RO, W1C). -/
def R.IMG_LOCK_STAT : Reg := ⟨0x40110018, 0x0#32⟩
/-- IMG_LOCK_ADDR (R576, RO). -/
def R.IMG_LOCK_ADDR : Reg := ⟨0x4011001C, 0x0#32⟩
/-- IMG_CRCCODE (R576, RO). -/
def R.IMG_CRCCODE : Reg := ⟨0x40110020, 0x0#32⟩
/-- IMG_CRCPM (R576, RO). -/
def R.IMG_CRCPM : Reg := ⟨0x40110024, 0x0#32⟩
/-- IMG_KEY (R576, RO). -/
def R.IMG_KEY : Reg := ⟨0x40110028, 0x0#32⟩
/-- IMG_SLOTREC (R576, RO). -/
def R.IMG_SLOTREC : Reg := ⟨0x4011002C, 0x0#32⟩
/-- BIN_ID (R588, RO). -/
def R.BIN_ID : Reg := ⟨0x0, 0x7340#32⟩
/-- BIN_STAT (R588, RO). -/
def R.BIN_STAT : Reg := ⟨0x4, 0x0#32⟩
/-- BIN_LOGWP (R588, RO). -/
def R.BIN_LOGWP : Reg := ⟨0x8, 0x0#32⟩
/-- BIN_LOGOLD (R588, RO). -/
def R.BIN_LOGOLD : Reg := ⟨0xC, 0x0#32⟩
/-- BIN_LOGCNT (R588, RC). -/
def R.BIN_LOGCNT : Reg := ⟨0x10, 0x0#32⟩
/-- BIN_SENSCFG (R588, RW). -/
def R.BIN_SENSCFG : Reg := ⟨0x14, 0x3C0E10#32⟩
/-- BIN_SNDCFG (R588, RW). -/
def R.BIN_SNDCFG : Reg := ⟨0x18, 0x64#32⟩
/-- BIN_TEMPd (R588, RO). -/
def R.BIN_TEMP (d : Nat) : Reg := ⟨0x20 + 0x4 * d, 0x0#32⟩
/-- BIN_FEEDx (R588, RO). -/
def R.BIN_FEED (x : Nat) : Reg := ⟨0x50 + 0x4 * x, 0x0#32⟩
/-- BIN_VKEEP (R588, RO). -/
def R.BIN_VKEEP : Reg := ⟨0x5C, 0x0#32⟩
/-- BIN_VIB0 (R588, RO). -/
def R.BIN_VIB0 : Reg := ⟨0x60, 0x0#32⟩
/-- BIN_VIB1 (R588, RO). -/
def R.BIN_VIB1 : Reg := ⟨0x64, 0x0#32⟩
/-- BIN_KEYS (R588, RO). -/
def R.BIN_KEYS : Reg := ⟨0x70, 0x0#32⟩
/-- BIN_UPDST (R588, RO). -/
def R.BIN_UPDST : Reg := ⟨0x74, 0x0#32⟩
/-- BIN_NEWCCV (R588, RO). -/
def R.BIN_NEWCCV : Reg := ⟨0x78, 0x0#32⟩
/-- BMB_CTRL (R608, RW). -/
def R.BMB_CTRL : Reg := ⟨0x400F0000, 0x0#32⟩
/-- BMB_STAT (R608, RO, W1C). -/
def R.BMB_STAT : Reg := ⟨0x400F0004, 0x0#32⟩
/-- BMB_OUTCTL (R608, WO). -/
def R.BMB_OUTCTL : Reg := ⟨0x400F0008, 0x0#32⟩
/-- BMB_INCTL (R608, WO). -/
def R.BMB_INCTL : Reg := ⟨0x400F000C, 0x0#32⟩
/-- BMB_KEYREV (R608, WO). -/
def R.BMB_KEYREV : Reg := ⟨0x400F0010, 0x0#32⟩
/-- BMB_CNT (R608, RC). -/
def R.BMB_CNT : Reg := ⟨0x400F0014, 0x0#32⟩
/-- BMB_OUTk (R608, RW). -/
def R.BMB_OUT (k : Nat) : Reg := ⟨0x400F0020 + 0x4 * k, 0x0#32⟩
/-- BMB_INk (R608, RO). -/
def R.BMB_IN (k : Nat) : Reg := ⟨0x400F0040 + 0x4 * k, 0x0#32⟩
/-- BMB_INBUFi (R608, RO). -/
def R.BMB_INBUF (i : Nat) : Reg := ⟨0x400F0400 + 0x4 * i, 0x0#32⟩
/-- SND_CTRL (R609, RW). -/
def R.SND_CTRL : Reg := ⟨0x400E0000, 0x0#32⟩
/-- SND_REQ (R609, RW, W1S). -/
def R.SND_REQ : Reg := ⟨0x400E0004, 0x0#32⟩
/-- SND_STAT (R609, RO, W1C). -/
def R.SND_STAT : Reg := ⟨0x400E0008, 0x0#32⟩
/-- SND_FADDR (R609, RO). -/
def R.SND_FADDR : Reg := ⟨0x400E000C, 0x0#32⟩
/-- SND_FBIT (R609, RO). -/
def R.SND_FBIT : Reg := ⟨0x400E0010, 0x0#32⟩
/-- SND_REP (R609, RO). -/
def R.SND_REP : Reg := ⟨0x400E0014, 0x0#32⟩
/-- SND_TIME (R609, RO). -/
def R.SND_TIME : Reg := ⟨0x400E0018, 0x0#32⟩
/-- SND_CNT (R609, RC). -/
def R.SND_CNT : Reg := ⟨0x400E001C, 0x0#32⟩
/-- DLK_DMODEn (R527, RO). -/
def R.DLK_DMODE (n : Nat) : Reg := ⟨0x40058128 + 0x100 * n, 0x0#32⟩
/-- SVC_CTRL (R451, RW). -/
def R.SVC_CTRL : Reg := ⟨0x40098000, 0x0#32⟩
/-- SVC_CFG (R451, RWL). -/
def R.SVC_CFG : Reg := ⟨0x40098004, 0x3#32⟩
/-- SVC_EVT (R451, RO, W1C). -/
def R.SVC_EVT : Reg := ⟨0x40098018, 0x0#32⟩
/-- SVC_ERR (R451, RO). -/
def R.SVC_ERR : Reg := ⟨0x4009801C, 0x0#32⟩
/-- SVC_TXIDk (R451, RW). -/
def R.SVC_TXID (k : Nat) : Reg := ⟨0x40098100 + 0x10 * k, 0x0#32⟩
/-- SVC_TXCTk (R451, RW, W1S, W1C). -/
def R.SVC_TXCT (k : Nat) : Reg := ⟨0x40098104 + 0x10 * k, 0x0#32⟩
/-- SVC_TXD0k (R451, RW). -/
def R.SVC_TXD0 (k : Nat) : Reg := ⟨0x40098108 + 0x10 * k, 0x0#32⟩
/-- SVC_TXD1k (R451, RW). -/
def R.SVC_TXD1 (k : Nat) : Reg := ⟨0x4009810C + 0x10 * k, 0x0#32⟩
/-- SVC_RXFk (R451, RWL). -/
def R.SVC_RXF (k : Nat) : Reg := ⟨0x40098400 + 0x20 * k, 0x0#32⟩
/-- SVC_RXMk (R451, RWL). -/
def R.SVC_RXM (k : Nat) : Reg := ⟨0x40098404 + 0x20 * k, 0x0#32⟩
/-- SVC_RXSk (R451, RO, W1C). -/
def R.SVC_RXS (k : Nat) : Reg := ⟨0x40098408 + 0x20 * k, 0x0#32⟩
/-- SVC_RXTk (R451, RO). -/
def R.SVC_RXT (k : Nat) : Reg := ⟨0x4009840C + 0x20 * k, 0x0#32⟩
/-- SVC_RXD0k (R451, RO). -/
def R.SVC_RXD0 (k : Nat) : Reg := ⟨0x40098410 + 0x20 * k, 0x0#32⟩
/-- SVC_RXD1k (R451, RO). -/
def R.SVC_RXD1 (k : Nat) : Reg := ⟨0x40098414 + 0x20 * k, 0x0#32⟩

def F.LANE_ID_PART_PART : Bf := ⟨0, 16⟩
def F.LANE_ID_PART_STEP : Bf := ⟨16, 4⟩
def F.LANE_ID_LANE_LETTER : Bf := ⟨0, 2⟩
def F.LANE_ID_LANE_RINGOK : Bf := ⟨2, 1⟩
def F.IRQ_CTRL_EN : Bf := ⟨0, 1⟩
def F.IRQ_CTRL_ACTIVE : Bf := ⟨1, 1⟩
def F.IRQ_CTRL_CERR : Bf := ⟨2, 1⟩
def F.IRQ_THRESH_THRESH : Bf := ⟨0, 4⟩
def F.IRQ_CLAIM_SRC : Bf := ⟨0, 8⟩
def F.IRQ_COMPLETE_SRC : Bf := ⟨0, 8⟩
def F.IRQ_INSVC_LEVELS : Bf := ⟨0, 16⟩
def F.AX_CFG_EN : Bf := ⟨0, 1⟩
def F.AX_CFG_KIND : Bf := ⟨4, 3⟩
def F.AX_BIND_FIRST : Bf := ⟨0, 4⟩
def F.AX_BIND_FIRST_V : Bf := ⟨7, 1⟩
def F.AX_BIND_SECOND : Bf := ⟨8, 4⟩
def F.AX_BIND_SECOND_V : Bf := ⟨15, 1⟩
def F.AX_PSLOT_SLOT : Bf := ⟨0, 6⟩
def F.AX_PSLOT_SLOT_V : Bf := ⟨7, 1⟩
def F.AX_STAT_ACTIVE : Bf := ⟨0, 1⟩
def F.AX_STAT_SPLIT : Bf := ⟨1, 1⟩
def F.AX_STAT_BIND_ERR : Bf := ⟨3, 1⟩
def F.AX_STAT_CAUSE : Bf := ⟨4, 4⟩
def F.AX_STAT_WREF : Bf := ⟨8, 1⟩
def F.RKN_CTRL_EN : Bf := ⟨0, 1⟩
def F.RKN_CTRL_ACTIVE : Bf := ⟨1, 1⟩
def F.RKN_CTRL_SNAP : Bf := ⟨2, 1⟩
def F.RKN_STAT_DIR : Bf := ⟨0, 16⟩
def F.RKN_STAT_RUN : Bf := ⟨16, 16⟩
def F.RKN_GT_GT_VALID : Bf := ⟨0, 1⟩
def F.RKN_GT_GT_STEP : Bf := ⟨1, 1⟩
def F.RKN_MSEL_AXIS8 : Bf := ⟨0, 4⟩
def F.RKN_MSEL_AXIS9 : Bf := ⟨8, 4⟩
def F.RKN_MSEL_AXIS10 : Bf := ⟨16, 4⟩
def F.RKN_MSEL_AXIS11 : Bf := ⟨24, 4⟩
def F.RKN_MSEL_V8 : Bf := ⟨7, 1⟩
def F.RKN_MSEL_V9 : Bf := ⟨15, 1⟩
def F.RKN_MSEL_V10 : Bf := ⟨23, 1⟩
def F.RKN_MSEL_V11 : Bf := ⟨31, 1⟩
def F.RKN_FAULT_DLF : Bf := ⟨0, 1⟩
def F.RKN_FAULT_STRICTF : Bf := ⟨1, 1⟩
def F.RKN_FAULT_TRIGDROP : Bf := ⟨2, 1⟩
def F.RKN_FAULT_WPNUM : Bf := ⟨8, 7⟩
def F.RKN_FAULT_TASK : Bf := ⟨16, 6⟩
def F.RKN_ADM_CTRL_LEAD : Bf := ⟨0, 4⟩
def F.RKN_ADM_CTRL_HORIZON : Bf := ⟨4, 12⟩
def F.RKN_ADM_STAT_QLEVEL : Bf := ⟨0, 7⟩
def F.RKN_ADM_STAT_CAUSE : Bf := ⟨8, 4⟩
def F.RKN_ADM_STAT_REFUSED : Bf := ⟨12, 1⟩
def F.RKN_ADM_STAT_DROPAX : Bf := ⟨13, 1⟩
def F.RKN_TDL_DL : Bf := ⟨0, 24⟩
def F.RKN_TDLY_DLY : Bf := ⟨0, 24⟩
def F.RKN_TMAX_MAX : Bf := ⟨0, 24⟩
def F.RKN_TSTAT_RUN : Bf := ⟨0, 1⟩
def F.RKN_TSTAT_MISS : Bf := ⟨1, 1⟩
def F.RKN_TSTAT_DROP : Bf := ⟨2, 1⟩
def F.RKN_WP_CFG_ARM : Bf := ⟨0, 1⟩
def F.RKN_WP_CFG_STRICT : Bf := ⟨1, 1⟩
def F.RKN_WP_CFG_PAIR : Bf := ⟨2, 1⟩
def F.RKN_WP_CFG_REPEAT : Bf := ⟨3, 1⟩
def F.RKN_WP_CFG_DIR : Bf := ⟨4, 2⟩
def F.RKN_WP_CFG_RKN : Bf := ⟨8, 4⟩
def F.RKN_WP_CFG_ACTION : Bf := ⟨16, 3⟩
def F.RKN_WP_ARG_ARG : Bf := ⟨0, 8⟩
def F.RKN_WP_STAT_ARMED : Bf := ⟨0, 1⟩
def F.RKN_WP_STAT_FIRED : Bf := ⟨1, 1⟩
def F.RKN_WP_STAT_LATE : Bf := ⟨2, 1⟩
def F.RKN_WP_STAT_ABORT_LATE : Bf := ⟨3, 1⟩
def F.RKN_WP_STAT_BY_PARTNER : Bf := ⟨4, 1⟩
def F.RKN_WP_STAT_BOTH : Bf := ⟨5, 1⟩
def F.RKN_WP_STAT_CFG_ERR : Bf := ⟨6, 1⟩
def F.RKN_WP_STAT_SKIP : Bf := ⟨8, 8⟩
def F.RKN_WP_STAT_COUNT : Bf := ⟨16, 16⟩
def F.FIX_CTRL_EN : Bf := ⟨0, 1⟩
def F.FIX_CTRL_ACTIVE : Bf := ⟨1, 1⟩
def F.FIX_CTRL_MAXRESYNC : Bf := ⟨8, 4⟩
def F.FIX_STAT_STA : Bf := ⟨0, 4⟩
def F.FIX_STAT_STB : Bf := ⟨4, 4⟩
def F.FIX_STAT_STC : Bf := ⟨8, 4⟩
def F.FIX_STAT_LISTERR : Bf := ⟨12, 1⟩
def F.FIX_STAT_LISTCAUSE : Bf := ⟨13, 3⟩
def F.FIX_CKP_PSEL : Bf := ⟨0, 3⟩
def F.FIX_CKP_XWIN : Bf := ⟨8, 8⟩
def F.FIX_LISTCNT_COUNT : Bf := ⟨0, 9⟩
def F.FIX_XSTAT_XWORDS : Bf := ⟨0, 12⟩
def F.FIX_XSTAT_XUS : Bf := ⟨16, 8⟩
def F.FIX_XSTAT_XLATE : Bf := ⟨24, 1⟩
def F.FIX_EVT_ODDEV : Bf := ⟨0, 1⟩
def F.FIX_EVT_RSDONE : Bf := ⟨1, 1⟩
def F.FIX_EVT_LANEOUT : Bf := ⟨2, 1⟩
def F.FIX_EVT_APPLYLATE : Bf := ⟨3, 1⟩
def F.FIX_EVT_DECOVF : Bf := ⟨4, 1⟩
def F.FIX_EVT_NOMAJ : Bf := ⟨5, 1⟩
def F.FIX_EVT_SPLITEV : Bf := ⟨6, 1⟩
def F.FIX_EVT_DBGEV : Bf := ⟨7, 1⟩
def F.FIX_EVT_ODDLANE : Bf := ⟨8, 2⟩
def F.FIX_EVT_CAUSE : Bf := ⟨12, 4⟩
def F.FIX_ODDPOS_ENTRY : Bf := ⟨0, 8⟩
def F.FIX_ODDPOS_WORD : Bf := ⟨8, 11⟩
def F.FIX_RSCNT_A : Bf := ⟨0, 8⟩
def F.FIX_RSCNT_B : Bf := ⟨8, 8⟩
def F.FIX_RSCNT_C : Bf := ⟨16, 8⟩
def F.FIX_DECSTAT_POSTED : Bf := ⟨0, 5⟩
def F.FIX_DECSTAT_AGREED : Bf := ⟨8, 5⟩
def F.FIX_DIN_DIN : Bf := ⟨0, 24⟩
def F.FIX_DINOWN_DIN : Bf := ⟨0, 24⟩
def F.FIX_WSSIZE_SIZE : Bf := ⟨0, 20⟩
def F.FIX_SPLIT_SPLITREQ : Bf := ⟨0, 1⟩
def F.FIX_SPLIT_JOINREQ : Bf := ⟨1, 1⟩
def F.FIX_SPLIT_SSTATE : Bf := ⟨4, 2⟩
def F.FIX_SPLIT_REFUSED : Bf := ⟨8, 1⟩
def F.FIX_SPLIT_RCAUSE : Bf := ⟨9, 3⟩
def F.FIX_DBG_RIG : Bf := ⟨0, 1⟩
def F.FIX_DBG_HALTED : Bf := ⟨1, 1⟩
def F.FIX_DBG_HREQ : Bf := ⟨2, 1⟩
def F.FIX_DBG_BPHIT : Bf := ⟨3, 1⟩
def F.FIX_DBG_QLEVEL : Bf := ⟨8, 4⟩
def F.FIX_AXM_M_a : Bf := ⟨0, 16⟩
def F.DLK_CTRL_ODT : Bf := ⟨0, 8⟩
def F.DLK_CFG_VLEAD : Bf := ⟨0, 8⟩
def F.DLK_CFG_HOLD : Bf := ⟨8, 4⟩
def F.DLK_WIN_EWIN : Bf := ⟨0, 12⟩
def F.DLK_WIN_VWIN : Bf := ⟨16, 12⟩
def F.DLK_LSTAT_LNK_A : Bf := ⟨0, 2⟩
def F.DLK_LSTAT_LNK_B : Bf := ⟨2, 2⟩
def F.DLK_LSTAT_LNK_C : Bf := ⟨4, 2⟩
def F.DLK_LSTAT_OFFCONF : Bf := ⟨8, 1⟩
def F.DLK_LSTAT_SPLITHOLD : Bf := ⟨9, 1⟩
def F.DLK_LAT_LAT_A : Bf := ⟨0, 8⟩
def F.DLK_LAT_LAT_B : Bf := ⟨8, 8⟩
def F.DLK_LAT_LAT_C : Bf := ⟨16, 8⟩
def F.DLK_MISS_CNTS : Bf := ⟨0, 24⟩
def F.DLK_LATE_CNTS : Bf := ⟨0, 24⟩
def F.DLK_CRC_CNTS : Bf := ⟨0, 24⟩
def F.DLK_OUTL_CNTS : Bf := ⟨0, 24⟩
def F.DLK_EVT_NOAGR : Bf := ⟨0, 1⟩
def F.DLK_EVT_HOLDOFF : Bf := ⟨1, 1⟩
def F.DLK_EVT_DIEFLT : Bf := ⟨2, 1⟩
def F.DLK_EVT_EXCL : Bf := ⟨4, 3⟩
def F.DLK_NOAGR_CNT : Bf := ⟨0, 16⟩
def F.CE_CTRL_EN : Bf := ⟨0, 1⟩
def F.CE_CTRL_ACTIVE : Bf := ⟨1, 1⟩
def F.CE_STAT_MACS : Bf := ⟨0, 4⟩
def F.CE_STAT_DEADMAC : Bf := ⟨4, 3⟩
def F.CE_STAT_CFGERR : Bf := ⟨8, 1⟩
def F.CE_STAT_PMWREF : Bf := ⟨9, 1⟩
def F.CE_STAT_PLOCK : Bf := ⟨10, 1⟩
def F.CE_FAULT_ILL : Bf := ⟨0, 1⟩
def F.CE_FAULT_ADDR : Bf := ⟨1, 1⟩
def F.CE_FAULT_HAZ : Bf := ⟨2, 1⟩
def F.CE_FAULT_PLACE : Bf := ⟨3, 1⟩
def F.CE_FAULT_PAR : Bf := ⟨4, 1⟩
def F.CE_FAULT_CASC : Bf := ⟨5, 1⟩
def F.CE_FAULT_TASK : Bf := ⟨8, 6⟩
def F.CE_FPC_ADDR : Bf := ⟨0, 13⟩
def F.CE_RUN_TASK : Bf := ⟨0, 6⟩
def F.CE_RUN_BUSY : Bf := ⟨6, 1⟩
def F.CE_RUN_LEVEL : Bf := ⟨8, 2⟩
def F.CE_RUN_BEGUN : Bf := ⟨12, 4⟩
def F.CE_LPC_LC : Bf := ⟨0, 16⟩
def F.CE_LPC_COUNT : Bf := ⟨16, 16⟩
def F.CE_LPA_LS : Bf := ⟨0, 13⟩
def F.CE_LPA_LE : Bf := ⟨16, 13⟩
def F.CE_LPA_ACT : Bf := ⟨29, 1⟩
def F.CE_LPA_OWN : Bf := ⟨30, 2⟩
def F.CE_TASK_ENTRY : Bf := ⟨0, 13⟩
def F.CE_TASK_LEVEL : Bf := ⟨16, 2⟩
def F.CE_TASK_AXIS : Bf := ⟨20, 4⟩
def F.CE_TASK_EN : Bf := ⟨24, 1⟩
def F.CE_TST_CONT : Bf := ⟨0, 13⟩
def F.CE_TST_STATE : Bf := ⟨16, 3⟩
def F.CE_OUT_VAL : Bf := ⟨0, 32⟩
def F.AX_LAW_CLEN : Bf := ⟨0, 11⟩
def F.AX_LAW_CHEN : Bf := ⟨16, 1⟩
def F.AX_BANK_ACTB : Bf := ⟨0, 1⟩
def F.AX_BANK_SWREQ : Bf := ⟨4, 1⟩
def F.AX_BANK_BUSY : Bf := ⟨8, 1⟩
def F.AX_BANK_DUE : Bf := ⟨9, 1⟩
def F.AX_BANK_SWREF : Bf := ⟨12, 1⟩
def F.AX_BANK_CPLATE : Bf := ⟨13, 1⟩
def F.AX_CHCFG_NI : Bf := ⟨0, 5⟩
def F.AX_CHCFG_NJ : Bf := ⟨8, 5⟩
def F.AX_CHCFG_INITI : Bf := ⟨16, 4⟩
def F.AX_CHCFG_INITJ : Bf := ⟨20, 4⟩
def F.AX_CHST_CURI : Bf := ⟨0, 4⟩
def F.AX_CHST_CURJ : Bf := ⟨4, 4⟩
def F.AX_CHST_REG : Bf := ⟨8, 4⟩
def F.AX_CHST_TGT : Bf := ⟨12, 4⟩
def F.AX_CHST_CHERR : Bf := ⟨16, 1⟩
def F.AX_CHST_CHCAUSE : Bf := ⟨17, 3⟩
def F.AX_RSRC_IDX : Bf := ⟨0, 17⟩
def F.AX_SPSRC_KIND : Bf := ⟨0, 3⟩
def F.AX_SPSRC_INDEX : Bf := ⟨4, 12⟩
def F.AX_SPSRC_INVLIM : Bf := ⟨16, 8⟩
def F.AX_SPSRC_SHIFT : Bf := ⟨24, 6⟩
def F.AX_SPST_INV : Bf := ⟨0, 1⟩
def F.AX_SPST_INVHELD : Bf := ⟨1, 1⟩
def F.AX_SPST_CLAMPED : Bf := ⟨2, 1⟩
def F.AX_SPST_RATELIM : Bf := ⟨3, 1⟩
def F.AX_SPST_INVCNT : Bf := ⟨8, 8⟩
def F.AX_LBCFG_EN : Bf := ⟨0, 1⟩
def F.AX_LBCFG_ACTIVE : Bf := ⟨1, 1⟩
def F.AX_LBCFG_SWTRIG : Bf := ⟨2, 1⟩
def F.AX_LBCFG_REARM : Bf := ⟨3, 1⟩
def F.AX_LBCFG_WEDGE : Bf := ⟨4, 2⟩
def F.AX_LBCFG_TTHR : Bf := ⟨6, 1⟩
def F.AX_LBCFG_FLT : Bf := ⟨8, 4⟩
def F.AX_LBMASK_MASK : Bf := ⟨0, 16⟩
def F.AX_LBBASE_BASE : Bf := ⟨0, 16⟩
def F.AX_LBLEN_LEN : Bf := ⟨0, 16⟩
def F.AX_LBPOST_POST : Bf := ⟨0, 16⟩
def F.AX_LBTHC_PROBE : Bf := ⟨0, 4⟩
def F.AX_LBTHC_DIR : Bf := ⟨4, 2⟩
def F.AX_LBST_STATE : Bf := ⟨0, 2⟩
def F.AX_LBST_WRAPPED : Bf := ⟨2, 1⟩
def F.AX_LBST_WTRIG : Bf := ⟨3, 1⟩
def F.AX_LBST_DONE : Bf := ⟨4, 1⟩
def F.AX_LBST_ABORT_LATE : Bf := ⟨5, 1⟩
def F.AX_LBST_CFGERR : Bf := ⟨6, 1⟩
def F.AX_LBST_TSRC : Bf := ⟨8, 7⟩
def F.AX_LBWP_WP : Bf := ⟨0, 16⟩
def F.AX_LBTP_TP : Bf := ⟨0, 16⟩
def F.EDG_MCTL_EN : Bf := ⟨0, 1⟩
def F.EDG_MCTL_ACTIVE : Bf := ⟨1, 1⟩
def F.EDG_MCTL_CATCHEN : Bf := ⟨2, 1⟩
def F.EDG_MCTL_STARTEN : Bf := ⟨3, 1⟩
def F.EDG_MCTL_AUTOSW : Bf := ⟨4, 1⟩
def F.EDG_MCTL_DIVERSE : Bf := ⟨5, 1⟩
def F.EDG_MCTL_PREFEST : Bf := ⟨6, 1⟩
def F.EDG_MSTAT_STATE : Bf := ⟨0, 4⟩
def F.EDG_MSTAT_SRC : Bf := ⟨4, 2⟩
def F.EDG_MSTAT_INJON : Bf := ⟨6, 1⟩
def F.EDG_MSTAT_SENSOK : Bf := ⟨7, 1⟩
def F.EDG_MSTAT_VLIM : Bf := ⟨8, 1⟩
def F.EDG_MSTAT_FLIP : Bf := ⟨9, 1⟩
def F.EDG_MSTAT_RETRY : Bf := ⟨10, 2⟩
def F.EDG_MSTAT_VERIFY : Bf := ⟨12, 1⟩
def F.EDG_MEVT_STARTF : Bf := ⟨0, 1⟩
def F.EDG_MEVT_CATCHF : Bf := ⟨1, 1⟩
def F.EDG_MEVT_OFSF : Bf := ⟨2, 1⟩
def F.EDG_MEVT_BACKJ : Bf := ⟨3, 1⟩
def F.EDG_MEVT_LOCKF : Bf := ⟨4, 1⟩
def F.EDG_MEVT_POLAMB : Bf := ⟨5, 1⟩
def F.EDG_MEVT_LOSS : Bf := ⟨6, 1⟩
def F.EDG_MEVT_RELOCK : Bf := ⟨7, 1⟩
def F.EDG_MEVT_OUTSVC : Bf := ⟨8, 1⟩
def F.EDG_MEVT_SENSF : Bf := ⟨9, 1⟩
def F.EDG_MEVT_WINDF : Bf := ⟨10, 1⟩
def F.EDG_MEVT_VLIMEV : Bf := ⟨11, 1⟩
def F.EDG_MEVT_INJSKIP : Bf := ⟨12, 1⟩
def F.EDG_MEVT_EXTOFF : Bf := ⟨13, 1⟩
def F.EDG_MEVT_CFGERR : Bf := ⟨14, 1⟩
def F.EDG_MEVT_WREF : Bf := ⟨15, 1⟩
def F.EDG_MISEL_IU : Bf := ⟨0, 6⟩
def F.EDG_MISEL_IV : Bf := ⟨8, 6⟩
def F.EDG_MISEL_VBUS : Bf := ⟨16, 6⟩
def F.EDG_MISEL_SMPPOS : Bf := ⟨24, 8⟩
def F.EDG_MVSEL_VU : Bf := ⟨0, 6⟩
def F.EDG_MVSEL_VV : Bf := ⟨8, 6⟩
def F.EDG_MVSEL_VW : Bf := ⟨16, 6⟩
def F.EDG_MVSEL_VVALID : Bf := ⟨24, 1⟩
def F.EDG_MSEN_SKIND : Bf := ⟨0, 2⟩
def F.EDG_MSEN_SIDX : Bf := ⟨4, 3⟩
def F.EDG_MSEN_SINSL : Bf := ⟨8, 6⟩
def F.EDG_MSEN_COSSL : Bf := ⟨16, 6⟩
def F.EDG_MSEN_POLES : Bf := ⟨24, 5⟩
def F.EDG_MAMP_AMPLO : Bf := ⟨0, 10⟩
def F.EDG_MAMP_AMPHI : Bf := ⟨16, 10⟩
def F.EDG_MEST_INJK : Bf := ⟨0, 5⟩
def F.EDG_MEST_BEMK : Bf := ⟨8, 5⟩
def F.EDG_MINJ_INJAMP : Bf := ⟨0, 8⟩
def F.EDG_MINJ_TALIGN : Bf := ⟨8, 8⟩
def F.EDG_MINJ_LOCKTOL : Bf := ⟨16, 5⟩
def F.EDG_MINJSW_LO : Bf := ⟨0, 10⟩
def F.EDG_MINJSW_HI : Bf := ⟨16, 10⟩
def F.EDG_MPOL_PULSEN : Bf := ⟨0, 4⟩
def F.EDG_MPOL_PULSEV : Bf := ⟨8, 8⟩
def F.EDG_MPOL_DECAY : Bf := ⟨16, 8⟩
def F.EDG_MPOL_POLMIN : Bf := ⟨24, 8⟩
def F.EDG_MSTR_BACKDET : Bf := ⟨0, 4⟩
def F.EDG_MSTR_RETRYMAX : Bf := ⟨4, 2⟩
def F.EDG_MSTR_VERIFY : Bf := ⟨8, 8⟩
def F.EDG_MXCHK_XWIN : Bf := ⟨0, 7⟩
def F.EDG_MXCHK_XCNT : Bf := ⟨8, 8⟩
def F.EDG_MCAT_CATCHMAX : Bf := ⟨0, 10⟩
def F.EDG_MCAT_VDET : Bf := ⟨16, 8⟩
def F.EDG_MCAT_BRKT : Bf := ⟨24, 8⟩
def F.EDG_MCAT2_ZVILIM : Bf := ⟨0, 16⟩
def F.EDG_MCAT2_CATCHT : Bf := ⟨16, 16⟩
def F.EDG_MLIM_VLIMFR : Bf := ⟨0, 10⟩
def F.EDG_MLIM_OFSMAX : Bf := ⟨16, 8⟩
def F.EDG_MLOSS_LOSSTH : Bf := ⟨0, 16⟩
def F.EDG_MIOFS_OFSU : Bf := ⟨0, 16⟩
def F.EDG_MIOFS_OFSV : Bf := ⟨16, 16⟩
def F.EDG_MCNT_STARTS : Bf := ⟨0, 8⟩
def F.EDG_MCNT_RETRIES : Bf := ⟨8, 8⟩
def F.EDG_MCNT_RELOCKS : Bf := ⟨16, 8⟩
def F.EDG_MCNT_CATCHES : Bf := ⟨24, 8⟩
def F.EDG_CCCFG_EN : Bf := ⟨0, 1⟩
def F.EDG_CCCFG_NPTS : Bf := ⟨8, 5⟩
def F.EDG_CCBASE_IDX : Bf := ⟨0, 17⟩
def F.EDG_CCST_ON : Bf := ⟨0, 1⟩
def F.EDG_CCST_SEG : Bf := ⟨8, 5⟩
def F.EDG_CTRL_EN : Bf := ⟨0, 1⟩
def F.EDG_CTRL_ACTIVE : Bf := ⟨1, 1⟩
def F.EDG_LOAD_BMASK : Bf := ⟨0, 8⟩
def F.EDG_LDSTAT_LAST : Bf := ⟨0, 8⟩
def F.EDG_LDSTAT_LATE : Bf := ⟨8, 8⟩
def F.EDG_TLD_TASK : Bf := ⟨0, 6⟩
def F.EDG_TLD_EN : Bf := ⟨7, 1⟩
def F.EDG_TLD_BMASK : Bf := ⟨8, 8⟩
def F.EDG_BCFG_EN : Bf := ⟨0, 1⟩
def F.EDG_BCFG_ACTIVE : Bf := ⟨1, 1⟩
def F.EDG_BCFG_DISST : Bf := ⟨2, 1⟩
def F.EDG_BCFG_SYNC : Bf := ⟨3, 1⟩
def F.EDG_BPER_PLEN : Bf := ⟨0, 20⟩
def F.EDG_BTIM_DT : Bf := ⟨0, 13⟩
def F.EDG_BTIM_MINP : Bf := ⟨16, 14⟩
def F.EDG_BREF_REFN : Bf := ⟨0, 10⟩
def F.EDG_BREF_REFW : Bf := ⟨16, 14⟩
def F.EDG_BVDS_VDSTH : Bf := ⟨0, 6⟩
def F.EDG_BVDS_HARDTH : Bf := ⟨8, 4⟩
def F.EDG_BVDS_DSBLK : Bf := ⟨16, 5⟩
def F.EDG_BBLK_TBLK : Bf := ⟨0, 2⟩
def F.EDG_BBLK_BLKLEN : Bf := ⟨8, 8⟩
def F.EDG_BSTAT_SWITCHING : Bf := ⟨0, 1⟩
def F.EDG_BSTAT_OFF : Bf := ⟨1, 1⟩
def F.EDG_BSTAT_LATCHED : Bf := ⟨2, 1⟩
def F.EDG_BSTAT_HH : Bf := ⟨3, 3⟩
def F.EDG_BSTAT_REFR : Bf := ⟨6, 3⟩
def F.EDG_BSTAT_BSTWAIT : Bf := ⟨9, 3⟩
def F.EDG_BSTAT_CFGD : Bf := ⟨12, 1⟩
def F.EDG_BSTAT_SEQ : Bf := ⟨16, 8⟩
def F.EDG_BEVT_DESAT : Bf := ⟨0, 1⟩
def F.EDG_BEVT_HARD : Bf := ⟨1, 1⟩
def F.EDG_BEVT_PHPH : Bf := ⟨2, 1⟩
def F.EDG_BEVT_ILK : Bf := ⟨3, 1⟩
def F.EDG_BEVT_BSTUV : Bf := ⟨4, 1⟩
def F.EDG_BEVT_HSSTUCK : Bf := ⟨5, 1⟩
def F.EDG_BEVT_TRIP : Bf := ⟨6, 1⟩
def F.EDG_BEVT_CLRREF : Bf := ⟨7, 1⟩
def F.EDG_BEVT_PLENERR : Bf := ⟨8, 1⟩
def F.EDG_BEVT_CFGERR : Bf := ⟨9, 1⟩
def F.EDG_BEVT_LEGS : Bf := ⟨12, 3⟩
def F.EDG_BEVT_CLASS : Bf := ⟨16, 2⟩
def F.EDG_BCLR_CLR : Bf := ⟨0, 1⟩
def F.EDG_BPEND_PEND : Bf := ⟨0, 20⟩
def F.EDG_BCNT_REFR : Bf := ⟨0, 16⟩
def F.EDG_BCNT_SUPP : Bf := ⟨16, 16⟩
def F.EDG_VCFG_EN : Bf := ⟨0, 1⟩
def F.EDG_VCFG_ACTIVE : Bf := ⟨1, 1⟩
def F.EDG_VCFG_FPWM : Bf := ⟨2, 2⟩
def F.EDG_VCFG_DFREQ : Bf := ⟨8, 9⟩
def F.EDG_VREG_KP : Bf := ⟨0, 16⟩
def F.EDG_VREG_KI : Bf := ⟨16, 16⟩
def F.EDG_VLIM_DAMP : Bf := ⟨0, 12⟩
def F.EDG_VLIM_VDEV : Bf := ⟨16, 12⟩
def F.EDG_VLIM_VDEVT : Bf := ⟨28, 4⟩
def F.EDG_VSTAT_IMEAS : Bf := ⟨0, 16⟩
def F.EDG_VSTAT_DUTY : Bf := ⟨16, 16⟩
def F.EDG_VEVT_OPEN : Bf := ⟨0, 1⟩
def F.EDG_VEVT_OVC : Bf := ⟨1, 1⟩
def F.EDG_VEVT_HSSC : Bf := ⟨2, 1⟩
def F.EDG_VEVT_DEV : Bf := ⟨3, 1⟩
def F.EDG_VEVT_OPFAIL : Bf := ⟨4, 1⟩
def F.EDG_VEVT_CLRREF : Bf := ⟨5, 1⟩
def F.EDG_VEVT_LATCHED : Bf := ⟨6, 1⟩
def F.EDG_VCLR_CLR : Bf := ⟨0, 1⟩
def F.EDG_SOCFG_EN : Bf := ⟨0, 1⟩
def F.EDG_SOCFG_ACTIVE : Bf := ⟨1, 1⟩
def F.EDG_SOCMD_ON : Bf := ⟨0, 1⟩
def F.EDG_SOSTAT_OUT : Bf := ⟨0, 1⟩
def F.EDG_SOSTAT_LATCHED : Bf := ⟨1, 1⟩
def F.EDG_SOSTAT_STUCK1 : Bf := ⟨2, 1⟩
def F.EDG_SOSTAT_STUCK2 : Bf := ⟨3, 1⟩
def F.EDG_SOSTAT_SHORT : Bf := ⟨4, 1⟩
def F.EDG_SOSTAT_OVC : Bf := ⟨5, 1⟩
def F.EDG_SOSTAT_CLRREF : Bf := ⟨6, 1⟩
def F.EDG_SOSTAT_OPOK : Bf := ⟨7, 1⟩
def F.EDG_SOCLR_CLR : Bf := ⟨0, 1⟩
def F.EDG_TRCFG_EN : Bf := ⟨0, 1⟩
def F.EDG_TRCFG_POL : Bf := ⟨1, 1⟩
def F.EDG_TRCFG_FILT : Bf := ⟨2, 4⟩
def F.EDG_TRCFG_ACTBR : Bf := ⟨8, 2⟩
def F.EDG_TRCFG_ACTVLV : Bf := ⟨10, 3⟩
def F.EDG_TRCFG_ACTSO : Bf := ⟨13, 2⟩
def F.EDG_TRSTAT_LEVEL : Bf := ⟨0, 1⟩
def F.EDG_TRSTAT_LATCH : Bf := ⟨1, 1⟩
def F.EDG_TRSTAT_CLRREF : Bf := ⟨2, 1⟩
def F.EDG_TRSTAT_BLANKED : Bf := ⟨3, 1⟩
def F.EDG_TRSTAT_TRIPEV : Bf := ⟨4, 1⟩
def F.EDG_TRCLR_CLR : Bf := ⟨0, 1⟩
def F.EDG_OPCFG_OPW : Bf := ⟨0, 9⟩
def F.EDG_OPCFG_OPINT : Bf := ⟨16, 8⟩
def F.EDG_OPSTAT_LAST : Bf := ⟨0, 3⟩
def F.EDG_OPSTAT_PASS : Bf := ⟨3, 1⟩
def F.EDG_DDSTAT_GDOK : Bf := ⟨0, 1⟩
def F.EDG_DDSTAT_CFGSYNC : Bf := ⟨1, 1⟩
def F.EDG_DDSTAT_LOCKED : Bf := ⟨2, 1⟩
def F.EDG_DDSTAT_CFGMIS : Bf := ⟨3, 1⟩
def F.EDG_DDSTAT_GDUV : Bf := ⟨4, 1⟩
def F.MEAS_CTRL_EN : Bf := ⟨0, 1⟩
def F.MEAS_CTRL_ACTIVE : Bf := ⟨1, 1⟩
def F.MEAS_STAT_CFGERR : Bf := ⟨0, 1⟩
def F.MEAS_STAT_CFGCAUSE : Bf := ⟨1, 3⟩
def F.MEAS_STAT_SPOVR : Bf := ⟨4, 1⟩
def F.MEAS_STAT_SPBUSY : Bf := ⟨5, 1⟩
def F.MEAS_STAT_REFF : Bf := ⟨6, 1⟩
def F.MEAS_STAT_REFUP : Bf := ⟨7, 1⟩
def F.MEAS_REF_EN : Bf := ⟨0, 1⟩
def F.MEAS_REF_RDY : Bf := ⟨1, 1⟩
def F.MEAS_CONV_OOS : Bf := ⟨0, 6⟩
def F.MEAS_CONV_BUSY : Bf := ⟨8, 6⟩
def F.MEAS_SPOT_CONV : Bf := ⟨0, 3⟩
def F.MEAS_SPOT_CHAN : Bf := ⟨8, 7⟩
def F.MEAS_SPOT_GO : Bf := ⟨16, 1⟩
def F.MEAS_SPOT_RES_CODE : Bf := ⟨0, 16⟩
def F.MEAS_SPOT_RES_NOTRDY : Bf := ⟨16, 1⟩
def F.MEAS_SPOT_RES_NEW : Bf := ⟨17, 1⟩
def F.MEAS_SPOT_RES_CONV : Bf := ⟨18, 3⟩
def F.MEAS_SQSTART_START : Bf := ⟨0, 16⟩
def F.MEAS_CALCMD_SLOT : Bf := ⟨0, 6⟩
def F.MEAS_CALCMD_PT : Bf := ⟨8, 1⟩
def F.MEAS_CALCMD_START : Bf := ⟨9, 1⟩
def F.MEAS_CALCMD_COMMIT : Bf := ⟨10, 1⟩
def F.MEAS_CALCMD_ABORT : Bf := ⟨11, 1⟩
def F.MEAS_CALST_BUSY : Bf := ⟨0, 1⟩
def F.MEAS_CALST_ZOK : Bf := ⟨1, 1⟩
def F.MEAS_CALST_FOK : Bf := ⟨2, 1⟩
def F.MEAS_CALST_DONE : Bf := ⟨3, 1⟩
def F.MEAS_CALST_ABORT_LATE : Bf := ⟨4, 1⟩
def F.MEAS_CALST_REFUSED : Bf := ⟨5, 1⟩
def F.MEAS_CALST_CAUSE : Bf := ⟨6, 4⟩
def F.MEAS_CALST_STOREBAD : Bf := ⟨10, 1⟩
def F.MEAS_CALST_STORING : Bf := ⟨11, 1⟩
def F.MEAS_CALST_GEN : Bf := ⟨16, 16⟩
def F.MEAS_SQCFG_FIRST : Bf := ⟨0, 6⟩
def F.MEAS_SQCFG_LEN : Bf := ⟨8, 7⟩
def F.MEAS_SQCFG_EN : Bf := ⟨16, 1⟩
def F.MEAS_SQCFG_IE : Bf := ⟨17, 1⟩
def F.MEAS_SQCFG_BRGEN : Bf := ⟨18, 1⟩
def F.MEAS_SQCFG_BRG : Bf := ⟨20, 3⟩
def F.MEAS_SQSTAT_ACTIVE : Bf := ⟨0, 1⟩
def F.MEAS_SQSTAT_RUN : Bf := ⟨1, 1⟩
def F.MEAS_SQSTAT_DONE : Bf := ⟨2, 1⟩
def F.MEAS_SQSTAT_RETRIG : Bf := ⟨3, 1⟩
def F.MEAS_SQSTAT_SKIPPED : Bf := ⟨4, 1⟩
def F.MEAS_SQSTAT_IDLESTART : Bf := ⟨5, 1⟩
def F.MEAS_SQSTAT_LAT : Bf := ⟨16, 16⟩
def F.MEAS_STEP_SLOT : Bf := ⟨0, 6⟩
def F.MEAS_STEP_SIM : Bf := ⟨7, 1⟩
def F.MEAS_SLCFG_EN : Bf := ⟨0, 1⟩
def F.MEAS_SLCFG_CONV : Bf := ⟨4, 3⟩
def F.MEAS_SLCFG_CHAN : Bf := ⟨8, 7⟩
def F.MEAS_SLCFG_AVG : Bf := ⟨16, 2⟩
def F.MEAS_SLCFG_CALREQ : Bf := ⟨18, 1⟩
def F.MEAS_SLCFG_GBEN : Bf := ⟨19, 1⟩
def F.MEAS_RAW_CODE : Bf := ⟨0, 16⟩
def F.MEAS_RAW_NOTRDY : Bf := ⟨16, 1⟩
def F.MEAS_SLST_ACTIVE : Bf := ⟨0, 1⟩
def F.MEAS_SLST_VALID : Bf := ⟨1, 1⟩
def F.MEAS_SLST_NOTRDY : Bf := ⟨2, 1⟩
def F.MEAS_SLST_UNCAL : Bf := ⟨3, 1⟩
def F.MEAS_SLST_GBST : Bf := ⟨4, 2⟩
def F.MEAS_SLST_WREF : Bf := ⟨8, 1⟩
def F.MEAS_SLST_DCNT : Bf := ⟨16, 16⟩
def F.MEAS_GBFLT_HY : Bf := ⟨0, 24⟩
def F.MEAS_GBFLT_CNT : Bf := ⟨24, 8⟩
def F.POS_CTRL_EN : Bf := ⟨0, 1⟩
def F.POS_CTRL_ACTIVE : Bf := ⟨1, 1⟩
def F.POS_AXSRC_KIND : Bf := ⟨0, 2⟩
def F.POS_AXSRC_IDX : Bf := ⟨4, 3⟩
def F.POS_CFG_EN : Bf := ⟨0, 1⟩
def F.POS_CFG_ACTIVE : Bf := ⟨1, 1⟩
def F.POS_CFG_MODE : Bf := ⟨2, 3⟩
def F.POS_CFG_COMPAT : Bf := ⟨5, 1⟩
def F.POS_CFG_AUTOCOR : Bf := ⟨6, 1⟩
def F.POS_CFG_IDXINIT : Bf := ⟨7, 1⟩
def F.POS_CFG_REV : Bf := ⟨8, 1⟩
def F.POS_CFG_FILT : Bf := ⟨12, 4⟩
def F.POS_CFG_SINSL : Bf := ⟨16, 6⟩
def F.POS_CFG_COSSL : Bf := ⟨24, 6⟩
def F.POS_CPR_CPR : Bf := ⟨0, 24⟩
def F.POS_IDXREF_IDXREF : Bf := ⟨0, 24⟩
def F.POS_TOL_IDXTOL : Bf := ⟨0, 12⟩
def F.POS_TOL_MINT : Bf := ⟨16, 12⟩
def F.POS_TOBS_BW : Bf := ⟨0, 13⟩
def F.POS_TOBS_PTMO : Bf := ⟨16, 16⟩
def F.POS_AMP_AMPLO : Bf := ⟨0, 10⟩
def F.POS_AMP_AMPHI : Bf := ⟨16, 10⟩
def F.POS_SLIP_LAST : Bf := ⟨0, 16⟩
def F.POS_SLIP_SUM : Bf := ⟨16, 16⟩
def F.POS_STAT_VALID : Bf := ⟨0, 1⟩
def F.POS_STAT_SUSPECT : Bf := ⟨1, 1⟩
def F.POS_STAT_ILLF : Bf := ⟨2, 1⟩
def F.POS_STAT_HALLF : Bf := ⟨3, 1⟩
def F.POS_STAT_MINF : Bf := ⟨4, 1⟩
def F.POS_STAT_IDXOK : Bf := ⟨5, 1⟩
def F.POS_STAT_IDXERR : Bf := ⟨6, 1⟩
def F.POS_STAT_AMPF : Bf := ⟨7, 1⟩
def F.POS_STAT_CFGERR : Bf := ⟨8, 1⟩
def F.POS_STAT_WREF : Bf := ⟨9, 1⟩
def F.POS_ERRCNT_ILL : Bf := ⟨0, 8⟩
def F.POS_ERRCNT_MINT : Bf := ⟨8, 8⟩
def F.POS_ERRCNT_IDX : Bf := ⟨16, 8⟩
def F.POS_ERRCNT_AMP : Bf := ⟨24, 8⟩
def F.POS_TRCFG_EN : Bf := ⟨0, 1⟩
def F.POS_TRCFG_ACTIVE : Bf := ⟨1, 1⟩
def F.POS_TRCFG_WEN : Bf := ⟨2, 4⟩
def F.POS_TRCFG_RADEN : Bf := ⟨6, 1⟩
def F.POS_TRCFG_PRIO : Bf := ⟨7, 1⟩
def F.POS_TRCFG_FILT : Bf := ⟨8, 4⟩
def F.POS_TRCFG_SLIPLIM : Bf := ⟨16, 8⟩
def F.POS_TRCFG_STILL : Bf := ⟨24, 8⟩
def F.POS_GSCFG_EN : Bf := ⟨0, 1⟩
def F.POS_GSCFG_ACTIVE : Bf := ⟨1, 1⟩
def F.POS_GSRAT_M : Bf := ⟨0, 16⟩
def F.POS_GSRAT_N : Bf := ⟨16, 16⟩
def F.POS_TRSTAT_WVALID : Bf := ⟨0, 4⟩
def F.POS_TRSTAT_RVALID : Bf := ⟨4, 1⟩
def F.POS_TRSTAT_SRC : Bf := ⟨5, 3⟩
def F.POS_TRSTAT_WSLIP : Bf := ⟨8, 4⟩
def F.POS_TRSTAT_FUSEF : Bf := ⟨12, 1⟩
def F.POS_TRSTAT_SRCCHG : Bf := ⟨13, 1⟩
def F.POS_TRSTAT_GSCFGERR : Bf := ⟨14, 1⟩
def F.POS_TRSTAT_WREF : Bf := ⟨15, 1⟩
def F.SENT_CFG_EN : Bf := ⟨0, 1⟩
def F.SENT_CFG_ACTIVE : Bf := ⟨1, 1⟩
def F.SENT_CFG_CRCV : Bf := ⟨2, 1⟩
def F.SENT_CFG_PAUSE : Bf := ⟨3, 1⟩
def F.SENT_CFG_NIB : Bf := ⟨4, 3⟩
def F.SENT_CFG_TICK : Bf := ⟨8, 10⟩
def F.SENT_CFG_ERRLIM : Bf := ⟨20, 4⟩
def F.SENT_CFG_FTMO : Bf := ⟨24, 8⟩
def F.SENT_FMTA_W0LEN : Bf := ⟨0, 3⟩
def F.SENT_FMTA_W0ANG : Bf := ⟨3, 1⟩
def F.SENT_FMTA_W1LEN : Bf := ⟨4, 3⟩
def F.SENT_FMTA_W1ANG : Bf := ⟨7, 1⟩
def F.SENT_FMTA_VALID : Bf := ⟨8, 1⟩
def F.SENT_FMTA_CODE : Bf := ⟨16, 12⟩
def F.SENT_FMTB_W0LEN : Bf := ⟨0, 3⟩
def F.SENT_FMTB_W0ANG : Bf := ⟨3, 1⟩
def F.SENT_FMTB_W1LEN : Bf := ⟨4, 3⟩
def F.SENT_FMTB_W1ANG : Bf := ⟨7, 1⟩
def F.SENT_FMTB_VALID : Bf := ⟨8, 1⟩
def F.SENT_FMTB_CODE : Bf := ⟨16, 12⟩
def F.SENT_ID_FMTID : Bf := ⟨0, 8⟩
def F.SENT_ID_IDID : Bf := ⟨8, 8⟩
def F.SENT_ID_FMTCHK : Bf := ⟨16, 1⟩
def F.SENT_RAW_STATUS : Bf := ⟨0, 4⟩
def F.SENT_RAW_DATA : Bf := ⟨4, 24⟩
def F.SENT_TICK_TICK : Bf := ⟨0, 24⟩
def F.SENT_SFMT_CODE : Bf := ⟨0, 12⟩
def F.SENT_SFMT_FSEL : Bf := ⟨12, 1⟩
def F.SENT_SFMT_KNOWN : Bf := ⟨13, 1⟩
def F.SENT_SID_DATA : Bf := ⟨0, 16⟩
def F.SENT_SID_ID : Bf := ⟨16, 8⟩
def F.SENT_STAT_VALID : Bf := ⟨0, 1⟩
def F.SENT_STAT_CALE : Bf := ⟨1, 1⟩
def F.SENT_STAT_NIBE : Bf := ⟨2, 1⟩
def F.SENT_STAT_CRCE : Bf := ⟨3, 1⟩
def F.SENT_STAT_TMO : Bf := ⟨4, 1⟩
def F.SENT_STAT_SCRCE : Bf := ⟨5, 1⟩
def F.SENT_STAT_FMTERR : Bf := ⟨6, 1⟩
def F.SENT_STAT_FMTCHG : Bf := ⟨7, 1⟩
def F.SENT_STAT_CFGERR : Bf := ⟨8, 1⟩
def F.SENT_STAT_WREF : Bf := ⟨9, 1⟩
def F.SENT_STAT_ERRRUN : Bf := ⟨16, 4⟩
def F.HNET_CTRL_EN : Bf := ⟨0, 1⟩
def F.HNET_CTRL_ACTIVE : Bf := ⟨1, 1⟩
def F.HNET_CFG_NODEID : Bf := ⟨0, 5⟩
def F.HNET_CFG_RANK : Bf := ⟨5, 3⟩
def F.HNET_CFG_MASTER : Bf := ⟨8, 1⟩
def F.HNET_CFG_COLDST : Bf := ⟨9, 1⟩
def F.HNET_CFG_MODE : Bf := ⟨10, 1⟩
def F.HNET_CFG_MXEXP : Bf := ⟨12, 3⟩
def F.HNET_CFG_RMASK : Bf := ⟨16, 3⟩
def F.HNET_TIM_GMARG : Bf := ⟨0, 5⟩
def F.HNET_TIM_RKDLY : Bf := ⟨8, 6⟩
def F.HNET_TIM_PDLY : Bf := ⟨16, 10⟩
def F.HNET_IDS_REFID : Bf := ⟨0, 11⟩
def F.HNET_IDS_AUXID : Bf := ⟨16, 11⟩
def F.HNET_MXCNT_CNT : Bf := ⟨0, 8⟩
def F.HNET_STAT_SYNST : Bf := ⟨0, 3⟩
def F.HNET_STAT_ISMASTER : Bf := ⟨3, 1⟩
def F.HNET_STAT_MNODE : Bf := ⟨4, 5⟩
def F.HNET_STAT_MRANK : Bf := ⟨9, 3⟩
def F.HNET_STAT_RATE : Bf := ⟨12, 2⟩
def F.HNET_STAT_CYC : Bf := ⟨16, 6⟩
def F.HNET_STAT_MXERR : Bf := ⟨22, 1⟩
def F.HNET_STAT_MXCAUSE : Bf := ⟨23, 3⟩
def F.HNET_EVT_STCHG : Bf := ⟨0, 1⟩
def F.HNET_EVT_LOST : Bf := ⟨1, 1⟩
def F.HNET_EVT_PASSEV : Bf := ⟨2, 1⟩
def F.HNET_EVT_MCHG : Bf := ⟨3, 1⟩
def F.HNET_EVT_DUPID : Bf := ⟨4, 1⟩
def F.HNET_EVT_RATECHG : Bf := ⟨5, 1⟩
def F.HNET_EVT_RATEF : Bf := ⟨6, 1⟩
def F.HNET_EVT_SWITCH : Bf := ⟨7, 1⟩
def F.HNET_EVT_GIVEA : Bf := ⟨8, 1⟩
def F.HNET_EVT_GIVEB : Bf := ⟨9, 1⟩
def F.HNET_EVT_RXFA : Bf := ⟨10, 1⟩
def F.HNET_EVT_RXFB : Bf := ⟨11, 1⟩
def F.HNET_EVT_CFGERR : Bf := ⟨12, 1⟩
def F.HNET_PATH_ACT : Bf := ⟨0, 1⟩
def F.HNET_PATH_GUA : Bf := ⟨1, 1⟩
def F.HNET_PATH_GUB : Bf := ⟨2, 1⟩
def F.HNET_PATH_RXFA : Bf := ⟨3, 1⟩
def F.HNET_PATH_RXFB : Bf := ⟨4, 1⟩
def F.HNET_PATH_DUAL : Bf := ⟨5, 1⟩
def F.HNET_ERRA_TEC : Bf := ⟨0, 8⟩
def F.HNET_ERRA_REC : Bf := ⟨8, 8⟩
def F.HNET_ERRA_RBF : Bf := ⟨16, 8⟩
def F.HNET_ERRA_BUSOFF : Bf := ⟨24, 1⟩
def F.HNET_ERRB_TEC : Bf := ⟨0, 8⟩
def F.HNET_ERRB_REC : Bf := ⟨8, 8⟩
def F.HNET_ERRB_RBF : Bf := ⟨16, 8⟩
def F.HNET_ERRB_BUSOFF : Bf := ⟨24, 1⟩
def F.HNET_PDLYM_DLY : Bf := ⟨0, 10⟩
def F.HNET_CNT_DUP : Bf := ⟨0, 16⟩
def F.HNET_CNT_SWI : Bf := ⟨16, 16⟩
def F.HNET_NOAGR_NOAGR : Bf := ⟨0, 16⟩
def F.HNET_NOAGR_LATESOF : Bf := ⟨16, 16⟩
def F.HNET_BCFG_IDENT : Bf := ⟨0, 11⟩
def F.HNET_BCFG_DLC : Bf := ⟨12, 4⟩
def F.HNET_BCFG_DIR : Bf := ⟨16, 1⟩
def F.HNET_BCFG_ARB : Bf := ⟨17, 1⟩
def F.HNET_BCFG_IE : Bf := ⟨18, 1⟩
def F.HNET_BCFG_EN : Bf := ⟨19, 1⟩
def F.HNET_BST_NEW : Bf := ⟨0, 1⟩
def F.HNET_BST_OVR : Bf := ⟨1, 1⟩
def F.HNET_BST_TXREQ : Bf := ⟨2, 1⟩
def F.HNET_BST_SENTA : Bf := ⟨3, 1⟩
def F.HNET_BST_SENTB : Bf := ⟨4, 1⟩
def F.HNET_BST_LATESOF : Bf := ⟨5, 1⟩
def F.HNET_BST_NOAGR : Bf := ⟨6, 1⟩
def F.HNET_BST_ARBLOST : Bf := ⟨7, 1⟩
def F.HNET_BST_PATH : Bf := ⟨8, 1⟩
def F.HNET_BST_SEQ : Bf := ⟨16, 8⟩
def F.HNET_BST_RDLC : Bf := ⟨24, 4⟩
def F.ISB_CTRL_EN : Bf := ⟨0, 1⟩
def F.ISB_CTRL_ACTIVE : Bf := ⟨1, 1⟩
def F.ISB_CFG_ARETX : Bf := ⟨0, 1⟩
def F.ISB_CFG_AUTOREC : Bf := ⟨1, 1⟩
def F.ISB_CFG_RATE : Bf := ⟨2, 1⟩
def F.ISB_ADDR_PREF : Bf := ⟨0, 8⟩
def F.ISB_ADDR_AMIN : Bf := ⟨8, 8⟩
def F.ISB_ADDR_AMAX : Bf := ⟨16, 8⟩
def F.ISB_ACST_SA : Bf := ⟨0, 8⟩
def F.ISB_ACST_ACSTATE : Bf := ⟨8, 2⟩
def F.ISB_EVT_CLAIMED : Bf := ⟨0, 1⟩
def F.ISB_EVT_LOSTADDR : Bf := ⟨1, 1⟩
def F.ISB_EVT_CANTCLAIM : Bf := ⟨2, 1⟩
def F.ISB_EVT_BUSOFF : Bf := ⟨3, 1⟩
def F.ISB_EVT_QFULL : Bf := ⟨4, 1⟩
def F.ISB_EVT_NOAGR : Bf := ⟨5, 1⟩
def F.ISB_EVT_VERR : Bf := ⟨6, 1⟩
def F.ISB_EVT_CFGERR : Bf := ⟨7, 1⟩
def F.ISB_ERR_TEC : Bf := ⟨0, 8⟩
def F.ISB_ERR_REC : Bf := ⟨8, 8⟩
def F.ISB_ERR_BUSOFF : Bf := ⟨16, 1⟩
def F.ISB_NEG_VMIN : Bf := ⟨0, 8⟩
def F.ISB_NEG_VMAX : Bf := ⟨8, 8⟩
def F.ISB_NEG_VPART : Bf := ⟨16, 8⟩
def F.ISB_NEG_VNEG : Bf := ⟨24, 8⟩
def F.ISB_TXID_IDENT : Bf := ⟨0, 29⟩
def F.ISB_TXID_IDE : Bf := ⟨29, 1⟩
def F.ISB_TXCT_DLC : Bf := ⟨0, 4⟩
def F.ISB_TXCT_REQ : Bf := ⟨8, 1⟩
def F.ISB_TXCT_PEND : Bf := ⟨9, 1⟩
def F.ISB_TXCT_SENT : Bf := ⟨10, 1⟩
def F.ISB_TXCT_DROP : Bf := ⟨11, 1⟩
def F.ISB_RXF_IDENT : Bf := ⟨0, 29⟩
def F.ISB_RXF_IDE : Bf := ⟨29, 1⟩
def F.ISB_RXF_IE : Bf := ⟨30, 1⟩
def F.ISB_RXF_EN : Bf := ⟨31, 1⟩
def F.ISB_RXM_MASK : Bf := ⟨0, 29⟩
def F.ISB_RXS_DLC : Bf := ⟨0, 4⟩
def F.ISB_RXS_NEW : Bf := ⟨8, 1⟩
def F.ISB_RXS_OVR : Bf := ⟨9, 1⟩
def F.ETH_CTRL_EN : Bf := ⟨0, 1⟩
def F.ETH_CTRL_ACTIVE : Bf := ⟨1, 1⟩
def F.ETH_CFG_BCAST : Bf := ⟨0, 1⟩
def F.ETH_CFG_MCAST : Bf := ⟨1, 1⟩
def F.ETH_CFG_PHYAD : Bf := ⟨8, 5⟩
def F.ETH_MACHI_ADDR : Bf := ⟨0, 16⟩
def F.ETH_TXCNT_CNT : Bf := ⟨0, 8⟩
def F.ETH_RXCNT_CNT : Bf := ⟨0, 8⟩
def F.ETH_IDX_TXI : Bf := ⟨0, 7⟩
def F.ETH_IDX_RXI : Bf := ⟨16, 7⟩
def F.ETH_STAT_REFOK : Bf := ⟨0, 1⟩
def F.ETH_STAT_RXACT : Bf := ⟨1, 1⟩
def F.ETH_EVT_TXDONE : Bf := ⟨0, 1⟩
def F.ETH_EVT_RXFRM : Bf := ⟨1, 1⟩
def F.ETH_EVT_RXOVF : Bf := ⟨2, 1⟩
def F.ETH_EVT_RXERR : Bf := ⟨3, 1⟩
def F.ETH_EVT_NOAGR : Bf := ⟨4, 1⟩
def F.ETH_EVT_FCSDROP : Bf := ⟨5, 1⟩
def F.ETH_EVT_PHYDONE : Bf := ⟨6, 1⟩
def F.ETH_EVT_REFLOST : Bf := ⟨7, 1⟩
def F.ETH_EVT_CFGERR : Bf := ⟨8, 1⟩
def F.ETH_PHYADR_REG : Bf := ⟨0, 16⟩
def F.ETH_PHYADR_DEVAD : Bf := ⟨16, 5⟩
def F.ETH_PHYADR_WR : Bf := ⟨24, 1⟩
def F.ETH_PHYADR_GO : Bf := ⟨25, 1⟩
def F.ETH_PHYADR_BUSY : Bf := ⟨26, 1⟩
def F.ETH_PHYDAT_DATA : Bf := ⟨0, 16⟩
def F.ETH_CNT_TX : Bf := ⟨0, 16⟩
def F.ETH_CNT_RX : Bf := ⟨16, 16⟩
def F.ETH_FHI_ADDR : Bf := ⟨0, 16⟩
def F.ETH_FHI_EN : Bf := ⟨16, 1⟩
def F.ETH_FHI_PATHA : Bf := ⟨17, 1⟩
def F.ETH_FHI_PATHB : Bf := ⟨18, 1⟩
def F.SAFE_CTRL_EN : Bf := ⟨0, 1⟩
def F.SAFE_CTRL_ACTIVE : Bf := ⟨1, 1⟩
def F.SAFE_CMCFG_CMSES : Bf := ⟨0, 7⟩
def F.SAFE_CMST_CONFIRMED : Bf := ⟨0, 1⟩
def F.SAFE_CMST_NOCONF : Bf := ⟨1, 3⟩
def F.SAFE_CMST_STALE : Bf := ⟨4, 1⟩
def F.SAFE_CMST_RECBAD : Bf := ⟨5, 1⟩
def F.SAFE_CMST_CHOPEN : Bf := ⟨6, 1⟩
def F.SAFE_CMST_GEN : Bf := ⟨16, 16⟩
def F.SAFE_EVT_LONE : Bf := ⟨0, 1⟩
def F.SAFE_EVT_CFGERR : Bf := ⟨1, 1⟩
def F.SAFE_EVT_CONFOK : Bf := ⟨2, 1⟩
def F.SAFE_EVT_CONFREF : Bf := ⟨3, 1⟩
def F.SAFE_CNT_UNK : Bf := ⟨0, 16⟩
def F.SAFE_CNT_LONEC : Bf := ⟨16, 16⟩
def F.SAFE_SCFG_EN : Bf := ⟨0, 1⟩
def F.SAFE_SCFG_CARRIER : Bf := ⟨1, 1⟩
def F.SAFE_SCFG_EPATH : Bf := ⟨2, 1⟩
def F.SAFE_SCFG_RXBUF : Bf := ⟨4, 6⟩
def F.SAFE_SCFG_TXBUF : Bf := ⟨10, 6⟩
def F.SAFE_SCFG_VMASK : Bf := ⟨16, 2⟩
def F.SAFE_STEX_TEXMIN : Bf := ⟨0, 10⟩
def F.SAFE_STEX_TEXMAX : Bf := ⟨16, 10⟩
def F.SAFE_SREACT_STOPR : Bf := ⟨0, 2⟩
def F.SAFE_SREACT_EXPR : Bf := ⟨2, 2⟩
def F.SAFE_SREACT_SSOMASK : Bf := ⟨4, 4⟩
def F.SAFE_SREACT_SAXMASK : Bf := ⟨16, 12⟩
def F.SAFE_SCHK_SEQWIN : Bf := ⟨0, 8⟩
def F.SAFE_SCHK_AGEMAX : Bf := ⟨16, 16⟩
def F.SAFE_SST_STATE : Bf := ⟨0, 3⟩
def F.SAFE_SST_STCHG : Bf := ⟨3, 1⟩
def F.SAFE_SST_CRCE : Bf := ⟨4, 1⟩
def F.SAFE_SST_TYPEE : Bf := ⟨5, 1⟩
def F.SAFE_SST_TSE : Bf := ⟨6, 1⟩
def F.SAFE_SST_SEQE : Bf := ⟨7, 1⟩
def F.SAFE_SST_LSEQ : Bf := ⟨16, 16⟩
def F.SAFE_SNEG_VAR : Bf := ⟨0, 2⟩
def F.SAFE_SNEG_TEXP : Bf := ⟨16, 10⟩
def F.SAFE_SERR_ERR : Bf := ⟨0, 16⟩
def F.SAFE_SERR_DUP : Bf := ⟨16, 16⟩
def F.SFN_CTRL_EN : Bf := ⟨0, 1⟩
def F.SFN_CTRL_ACTIVE : Bf := ⟨1, 1⟩
def F.SFN_UCDIST_DIST : Bf := ⟨0, 24⟩
def F.SFN_EVT_VIOL : Bf := ⟨0, 1⟩
def F.SFN_EVT_CSTOP : Bf := ⟨1, 1⟩
def F.SFN_EVT_OFF : Bf := ⟨2, 1⟩
def F.SFN_EVT_UCTRAV : Bf := ⟨3, 1⟩
def F.SFN_EVT_CFGERR : Bf := ⟨4, 1⟩
def F.SFN_TRIP_LOCKED : Bf := ⟨0, 12⟩
def F.SFN_TRIP_CSTOP : Bf := ⟨12, 12⟩
def F.SFN_ACFG_EN : Bf := ⟨0, 1⟩
def F.SFN_ACFG_PEN : Bf := ⟨1, 1⟩
def F.SFN_ACFG_REN : Bf := ⟨2, 1⟩
def F.SFN_ACFG_DEN : Bf := ⟨3, 1⟩
def F.SFN_ACFG_EEN : Bf := ⟨4, 1⟩
def F.SFN_ACFG_CMDSRC : Bf := ⟨5, 1⟩
def F.SFN_ACFG_DIR : Bf := ⟨6, 2⟩
def F.SFN_ACFG_PREACT : Bf := ⟨8, 2⟩
def F.SFN_ACFG_RREACT : Bf := ⟨10, 2⟩
def F.SFN_ACFG_DREACT : Bf := ⟨12, 2⟩
def F.SFN_ACFG_EREACT : Bf := ⟨14, 2⟩
def F.SFN_ACFG_FCNT : Bf := ⟨16, 8⟩
def F.SFN_ACFG_NEPTS : Bf := ⟨24, 4⟩
def F.SFN_ASTAT_VIOLP : Bf := ⟨0, 1⟩
def F.SFN_ASTAT_VIOLR : Bf := ⟨1, 1⟩
def F.SFN_ASTAT_VIOLD : Bf := ⟨2, 1⟩
def F.SFN_ASTAT_VIOLE : Bf := ⟨3, 1⟩
def F.SFN_ASTAT_CLAMPING : Bf := ⟨4, 1⟩
def F.SFN_ASTAT_CSTOP : Bf := ⟨5, 1⟩
def F.SFN_ASTAT_LOCKED : Bf := ⟨6, 1⟩
def F.SFN_ASTAT_INVSRC : Bf := ⟨7, 1⟩
def F.SFN_ASTAT_CSLEFT : Bf := ⟨16, 16⟩
def F.SFN_ACST_CSTOPT : Bf := ⟨0, 16⟩
def F.FIX_DGCFG_CRAWL : Bf := ⟨0, 16⟩
def F.FIX_DGCFG_LLTIME : Bf := ⟨16, 8⟩
def F.FIX_DGCFG_STILLT : Bf := ⟨24, 4⟩
def F.FIX_DGBRK_BRKAX : Bf := ⟨0, 12⟩
def F.FIX_DGPROF_PBASE : Bf := ⟨0, 17⟩
def F.FIX_DGPROF_NPTS : Bf := ⟨20, 4⟩
def F.FIX_DGSTAT_DMODE : Bf := ⟨0, 3⟩
def F.FIX_DGSTAT_LANES : Bf := ⟨4, 3⟩
def F.FIX_DGSTAT_LLPH : Bf := ⟨8, 2⟩
def F.FIX_DGSTAT_HCAUSE : Bf := ⟨12, 4⟩
def F.FIX_DGSTAT_AXLOST : Bf := ⟨16, 4⟩
def F.FIX_DGSTAT_STILL : Bf := ⟨20, 1⟩
def F.FIX_DGEVT_SDSTART : Bf := ⟨0, 1⟩
def F.FIX_DGEVT_SDEND : Bf := ⟨1, 1⟩
def F.FIX_DGEVT_LLENT : Bf := ⟨2, 1⟩
def F.FIX_DGEVT_HTENT : Bf := ⟨3, 1⟩
def F.FIX_DGEVT_LOENT : Bf := ⟨4, 1⟩
def F.FIX_DGEVT_AXLOSTEV : Bf := ⟨5, 1⟩
def F.FIX_DGEVT_RSTOK : Bf := ⟨6, 1⟩
def F.FIX_DGEVT_RSTREF : Bf := ⟨7, 1⟩
def F.FIX_DGEVT_RECBAD : Bf := ⟨8, 1⟩
def F.FIX_SDRES_FAIL : Bf := ⟨0, 5⟩
def F.FIX_SDRES_PASSLN : Bf := ⟨8, 3⟩
def F.FIX_SDRES_FAILLN : Bf := ⟨12, 3⟩
def F.FIX_LOSTAT_AXLO : Bf := ⟨0, 12⟩
def F.FIX_LOSTAT_DEV : Bf := ⟨12, 1⟩
def F.FIX_LOSTAT_AXNEW : Bf := ⟨16, 12⟩
def F.FIX_LOSTAT_DEVNEW : Bf := ⟨28, 1⟩
def F.FIX_LOBALL_LOWMS : Bf := ⟨0, 16⟩
def F.FIX_LOBALL_SEEN : Bf := ⟨16, 1⟩
def F.FIX_LOBALL_LEVEL : Bf := ⟨17, 1⟩
def F.FIX_FLTLAST_CLASS : Bf := ⟨0, 8⟩
def F.FIX_FLTLAST_LOC : Bf := ⟨8, 8⟩
def F.FIX_FLTCNT_CNT : Bf := ⟨0, 16⟩
def F.PWR_STAT_HARB : Bf := ⟨0, 1⟩
def F.PWR_STAT_DEP2 : Bf := ⟨1, 1⟩
def F.PWR_STAT_LANES0 : Bf := ⟨2, 3⟩
def F.PWR_STAT_RETOK : Bf := ⟨5, 1⟩
def F.PWR_STAT_MCAUSE : Bf := ⟨8, 4⟩
def F.PWR_STAT_DIES : Bf := ⟨12, 4⟩
def F.PWR_MODEREQ_REQ : Bf := ⟨0, 3⟩
def F.PWR_EVT_MODECHG : Bf := ⟨0, 1⟩
def F.PWR_EVT_MREF : Bf := ⟨1, 1⟩
def F.PWR_EVT_SLPABORT : Bf := ⟨2, 1⟩
def F.PWR_EVT_GUARDON : Bf := ⟨3, 1⟩
def F.PWR_EVT_GUARDOFF : Bf := ⟨4, 1⟩
def F.PWR_EVT_WRFAIL : Bf := ⟨5, 1⟩
def F.PWR_EVT_LOGDROP : Bf := ⟨6, 1⟩
def F.PWR_DOM_A : Bf := ⟨0, 4⟩
def F.PWR_DOM_B : Bf := ⟨4, 4⟩
def F.PWR_DOM_C : Bf := ⟨8, 4⟩
def F.PWR_DOM_DRV : Bf := ⟨12, 4⟩
def F.PWR_DOM_BIN_MAIN : Bf := ⟨16, 1⟩
def F.PWR_DOM_KEEP : Bf := ⟨17, 1⟩
def F.PWR_NVMG_GUARD : Bf := ⟨0, 8⟩
def F.PWR_NVMG_HYST : Bf := ⟨8, 8⟩
def F.PWR_NVMST_ACTIVE : Bf := ⟨0, 1⟩
def F.PWR_NVMST_WAITING : Bf := ⟨1, 1⟩
def F.PWR_NVMST_LOGQ : Bf := ⟨8, 8⟩
def F.PWR_NVMST_DROP : Bf := ⟨16, 8⟩
def F.PWR_FEED_FEED : Bf := ⟨0, 12⟩
def F.PWR_WAKECFG_IGNEN : Bf := ⟨0, 1⟩
def F.PWR_WAKECFG_W0EN : Bf := ⟨1, 1⟩
def F.PWR_WAKECFG_W0LVL : Bf := ⟨2, 1⟩
def F.PWR_WAKECFG_W0POL : Bf := ⟨3, 1⟩
def F.PWR_WAKECFG_W1EN : Bf := ⟨4, 1⟩
def F.PWR_WAKECFG_W1LVL : Bf := ⟨5, 1⟩
def F.PWR_WAKECFG_W1POL : Bf := ⟨6, 1⟩
def F.PWR_WAKECFG_FRMEN : Bf := ⟨7, 1⟩
def F.PWR_WAKESRC_SRC : Bf := ⟨0, 3⟩
def F.PWR_WAKESRC_LATCHED : Bf := ⟨3, 1⟩
def F.PWR_WAKESRC_FROM : Bf := ⟨4, 2⟩
def F.PWR_WAKESRC_ACT : Bf := ⟨8, 5⟩
def F.PWR_WUFCFG_IDE : Bf := ⟨0, 1⟩
def F.PWR_WUFCFG_DLC : Bf := ⟨1, 4⟩
def F.PWR_WUFCFG_DLCCHK : Bf := ⟨5, 1⟩
def F.PWR_WUFID_ID : Bf := ⟨0, 29⟩
def F.PWR_WUFMASK_MASK : Bf := ⟨0, 29⟩
def F.PWR_SLPHOLD_HOLD : Bf := ⟨0, 6⟩
def F.PWR_SLPST_STEP : Bf := ⟨0, 3⟩
def F.PWR_SLPST_RUN : Bf := ⟨3, 1⟩
def F.PWR_SLPST_REFBLK : Bf := ⟨4, 3⟩
def F.PWR_SLPST_RCAUSE : Bf := ⟨8, 3⟩
def F.PWR_SSLB_COV : Bf := ⟨0, 8⟩
def F.PWR_SSLB_PASS : Bf := ⟨8, 1⟩
def F.PWR_SSLB_TIME : Bf := ⟨16, 16⟩
def F.PWR_SSMB_TIME : Bf := ⟨0, 16⟩
def F.PWR_SSBANK_BANKS : Bf := ⟨0, 23⟩
def F.PWR_SSREP_BANKS : Bf := ⟨0, 23⟩
def F.PWR_BOOTT_MS : Bf := ⟨0, 16⟩
def F.IMG_STAT_STATE : Bf := ⟨0, 2⟩
def F.IMG_STAT_CAUSE : Bf := ⟨4, 4⟩
def F.IMG_STAT_SLOT : Bf := ⟨8, 1⟩
def F.IMG_STAT_FALLBK : Bf := ⟨9, 1⟩
def F.IMG_STAT_NOREC : Bf := ⟨10, 1⟩
def F.IMG_RLCNT_CNT : Bf := ⟨0, 13⟩
def F.IMG_RLCNT_WAITMS : Bf := ⟨16, 16⟩
def F.IMG_LOCK_STAT_LOCKED : Bf := ⟨0, 1⟩
def F.IMG_LOCK_STAT_VIOL : Bf := ⟨1, 1⟩
def F.IMG_KEY_USED : Bf := ⟨0, 2⟩
def F.IMG_KEY_PROG : Bf := ⟨4, 4⟩
def F.IMG_KEY_REVK : Bf := ⟨8, 4⟩
def F.IMG_SLOTREC_GEN : Bf := ⟨0, 16⟩
def F.IMG_SLOTREC_ACTIVE : Bf := ⟨16, 1⟩
def F.BIN_ID_PART : Bf := ⟨0, 16⟩
def F.BIN_ID_STEP : Bf := ⟨16, 4⟩
def F.BIN_STAT_DRYDOCK : Bf := ⟨0, 1⟩
def F.BIN_STAT_SCANEN : Bf := ⟨1, 1⟩
def F.BIN_STAT_DBGAUTH : Bf := ⟨2, 1⟩
def F.BIN_STAT_LINKS : Bf := ⟨4, 3⟩
def F.BIN_STAT_LOGFAIL : Bf := ⟨7, 1⟩
def F.BIN_LOGCNT_DROP : Bf := ⟨0, 16⟩
def F.BIN_LOGCNT_BAD : Bf := ⟨16, 16⟩
def F.BIN_SENSCFG_STATINT : Bf := ⟨0, 16⟩
def F.BIN_SENSCFG_VIBINT : Bf := ⟨16, 16⟩
def F.BIN_SNDCFG_SNDINT : Bf := ⟨0, 16⟩
def F.BIN_TEMP_TEMP : Bf := ⟨0, 16⟩
def F.BIN_FEED_MV : Bf := ⟨0, 16⟩
def F.BIN_FEED_MA : Bf := ⟨16, 16⟩
def F.BIN_VKEEP_MV : Bf := ⟨0, 16⟩
def F.BIN_VIB0_RMSX : Bf := ⟨0, 16⟩
def F.BIN_VIB0_RMSY : Bf := ⟨16, 16⟩
def F.BIN_VIB1_RMSZ : Bf := ⟨0, 16⟩
def F.BIN_VIB1_PEAK : Bf := ⟨16, 16⟩
def F.BIN_KEYS_PROG : Bf := ⟨0, 4⟩
def F.BIN_KEYS_REVK : Bf := ⟨4, 4⟩
def F.BIN_UPDST_STATE : Bf := ⟨0, 4⟩
def F.BIN_UPDST_CAUSE : Bf := ⟨8, 4⟩
def F.BIN_UPDST_CONFIRMED : Bf := ⟨12, 1⟩
def F.BMB_CTRL_EN : Bf := ⟨0, 1⟩
def F.BMB_CTRL_ACTIVE : Bf := ⟨1, 1⟩
def F.BMB_CTRL_LINK : Bf := ⟨2, 1⟩
def F.BMB_STAT_INPEND : Bf := ⟨0, 1⟩
def F.BMB_STAT_OFULL : Bf := ⟨1, 1⟩
def F.BMB_STAT_INTMO : Bf := ⟨2, 1⟩
def F.BMB_STAT_LINKERR : Bf := ⟨3, 1⟩
def F.BMB_STAT_KRREF : Bf := ⟨4, 1⟩
def F.BMB_STAT_OLEVEL : Bf := ⟨8, 5⟩
def F.BMB_OUTCTL_KIND : Bf := ⟨0, 3⟩
def F.BMB_OUTCTL_POST : Bf := ⟨8, 1⟩
def F.BMB_INCTL_ACCEPT : Bf := ⟨0, 1⟩
def F.BMB_INCTL_REFUSE : Bf := ⟨1, 1⟩
def F.BMB_INCTL_RCODE : Bf := ⟨8, 8⟩
def F.BMB_KEYREV_SLOT : Bf := ⟨0, 2⟩
def F.BMB_CNT_SENT : Bf := ⟨0, 16⟩
def F.BMB_CNT_REF : Bf := ⟨16, 16⟩
def F.SND_CTRL_EN : Bf := ⟨0, 1⟩
def F.SND_CTRL_ACTIVE : Bf := ⟨1, 1⟩
def F.SND_CTRL_AUTOREP : Bf := ⟨2, 1⟩
def F.SND_REQ_GO : Bf := ⟨0, 1⟩
def F.SND_REQ_ABORT : Bf := ⟨1, 1⟩
def F.SND_REQ_BASE : Bf := ⟨12, 20⟩
def F.SND_STAT_BUSY : Bf := ⟨0, 1⟩
def F.SND_STAT_PHASE : Bf := ⟨1, 2⟩
def F.SND_STAT_DONE : Bf := ⟨3, 1⟩
def F.SND_STAT_FAIL : Bf := ⟨4, 1⟩
def F.SND_STAT_ABORT_LATE : Bf := ⟨5, 1⟩
def F.SND_STAT_REFUSED : Bf := ⟨6, 1⟩
def F.SND_STAT_REPAIRED : Bf := ⟨7, 1⟩
def F.SND_STAT_NOSPARE : Bf := ⟨8, 1⟩
def F.SND_STAT_RCAUSE : Bf := ⟨9, 3⟩
def F.SND_STAT_NROWS : Bf := ⟨16, 8⟩
def F.SND_FBIT_BIT : Bf := ⟨0, 6⟩
def F.SND_FBIT_ROW : Bf := ⟨16, 9⟩
def F.SND_FBIT_BANK : Bf := ⟨25, 5⟩
def F.SND_REP_BANKS : Bf := ⟨0, 23⟩
def F.SND_TIME_TIME : Bf := ⟨0, 16⟩
def F.SND_CNT_DONE : Bf := ⟨0, 16⟩
def F.SND_CNT_FAIL : Bf := ⟨16, 16⟩
def F.DLK_DMODE_DMODE : Bf := ⟨0, 2⟩
def F.DLK_DMODE_LANES : Bf := ⟨4, 3⟩
def F.DLK_DMODE_LATCH : Bf := ⟨8, 3⟩
def F.DLK_DMODE_SILENT : Bf := ⟨12, 3⟩
def F.DLK_DMODE_CHKMIS : Bf := ⟨16, 1⟩

/-- One row of the access table: `n1` groups at stride `s1` of `n2` registers at stride `s2` from `base`, the reset value,
the bits that software writes freely (`rw`), until the safety lock (`rwl`), clears by writing 1 (`w1c`) or by reading
(`rc`), and whether the register is write-only. Every other bit is read-only or reserved (R16, R17). -/
structure RegRow where
  base : Nat
  n1 : Nat
  s1 : Nat
  n2 : Nat
  s2 : Nat
  reset : Nat
  rw : Nat
  rwl : Nat
  w1c : Nat
  rc : Nat
  wo : Bool
  deriving DecidableEq, Repr

/-- Whether a row lists an address. -/
def RegRow.covers (r : RegRow) (a : Nat) : Bool :=
  decide (r.base ≤ a) && decide ((a - r.base) / r.s1 < r.n1) && decide (((a - r.base) % r.s1) / r.s2 < r.n2)
    && decide (((a - r.base) % r.s1) % r.s2 = 0)

/-- Rows of the access table, in the order of the spec's tables. -/
def regRows0 : List RegRow := [
  ⟨0x40000000, 1, 0x10000, 1, 0x4, 0x7340, 0x0, 0x0, 0x0, 0x0, false⟩,  -- LANE_ID_PART
  ⟨0x40000004, 1, 0x10000, 1, 0x4, 0x0, 0x0, 0x0, 0x0, 0x0, false⟩,  -- LANE_ID_LANE
  ⟨0x40000008, 1, 0x10000, 1, 0x4, 0x0, 0x0, 0x0, 0x0, 0x0, false⟩,  -- LANE_ID_UID_LO
  ⟨0x4000000C, 1, 0x10000, 1, 0x4, 0x0, 0x0, 0x0, 0x0, 0x0, false⟩,  -- LANE_ID_UID_HI
  ⟨0x40000010, 1, 0x10000, 1, 0x4, 0x100, 0x0, 0x0, 0x0, 0x0, false⟩,  -- LANE_ID_CAPPTR
  ⟨0x40100000, 1, 0x10000, 1, 0x4, 0x0, 0x1, 0x0, 0x4, 0x0, false⟩,  -- IRQ_CTRL
  ⟨0x40100004, 1, 0x10000, 1, 0x4, 0x0, 0xF, 0x0, 0x0, 0x0, false⟩,  -- IRQ_THRESH
  ⟨0x40100008, 1, 0x10000, 1, 0x4, 0x0, 0x0, 0x0, 0x0, 0x0, false⟩,  -- IRQ_CLAIM
  ⟨0x4010000C, 1, 0x10000, 1, 0x4, 0x0, 0x0, 0x0, 0x0, 0x0, true⟩,  -- IRQ_COMPLETE
  ⟨0x40100010, 1, 0x10000, 1, 0x4, 0x0, 0x0, 0x0, 0x0, 0x0, false⟩,  -- IRQ_INSVC
  ⟨0x40100020, 8, 0x4, 1, 0x4, 0x0, 0x0, 0x0, 0x0, 0x0, false⟩,  -- IRQ_PENDn
  ⟨0x40100040, 1, 0x4, 1, 0x4, 0x0, 0xFFFFFFFE, 0x0, 0x0, 0x0, false⟩,  -- IRQ_ENn
  ⟨0x40100044, 7, 0x4, 1, 0x4, 0x0, 0xFFFFFFFF, 0x0, 0x0, 0x0, false⟩,  -- IRQ_ENn
  ⟨0x40100100, 1, 0x4, 1, 0x4, 0x0, 0xFFFFFFF0, 0x0, 0x0, 0x0, false⟩,  -- IRQ_LVLn
  ⟨0x40100104, 31, 0x4, 1, 0x4, 0x0, 0xFFFFFFFF, 0x0, 0x0, 0x0, false⟩,  -- IRQ_LVLn
  ⟨0x40040000, 12, 0x1000, 1, 0x4, 0x0, 0x0, 0x71, 0x0, 0x0, false⟩,  -- AX_CFG
  ⟨0x40040004, 12, 0x1000, 1, 0x4, 0x0, 0x0, 0x8F8F, 0x0, 0x0, false⟩,  -- AX_BIND
  ⟨0x40040008, 12, 0x1000, 1, 0x4, 0x0, 0x0, 0xBF, 0x0, 0x0, false⟩,  -- AX_PSLOT
  ⟨0x4004000C, 12, 0x1000, 1, 0x4, 0x0, 0x0, 0x0, 0x108, 0x0, false⟩,  -- AX_STAT
  ⟨0x40010000, 1, 0x10000, 1, 0x4, 0x0, 0x1, 0x0, 0x0, 0x0, false⟩,  -- RKN_CTRL
  ⟨0x40010004, 1, 0x10000, 1, 0x4, 0x0, 0x0, 0x0, 0x0, 0x0, false⟩,  -- RKN_STAT
  ⟨0x40010008, 1, 0x10000, 1, 0x4, 0x0, 0x0, 0x0, 0x2, 0x0, false⟩,  -- RKN_GT
  ⟨0x4001000C, 1, 0x10000, 1, 0x4, 0x0, 0x0, 0x8F8F8F8F, 0x0, 0x0, false⟩,  -- RKN_MSEL
  ⟨0x40010010, 1, 0x10000, 1, 0x4, 0x0, 0x0, 0x0, 0x7, 0x0, false⟩,  -- RKN_FAULT
  ⟨0x40010040, 16, 0x4, 1, 0x4, 0x0, 0x0, 0x0, 0x0, 0x0, false⟩,  -- RKN_VALr
  ⟨0x40010080, 16, 0x4, 1, 0x4, 0x0, 0x0, 0x0, 0x0, 0x0, false⟩,  -- RKN_SNAPr
  ⟨0x400100C0, 1, 0x10000, 1, 0x4, 0x3E82, 0x0, 0xFFFF, 0x0, 0x0, false⟩,  -- RKN_ADM_CTRL
  ⟨0x400100C4, 1, 0x10000, 1, 0x4, 0x0, 0x0, 0x0, 0x3000, 0x0, false⟩,  -- RKN_ADM_STAT
  ⟨0x400100C8, 1, 0x10000, 1, 0x4, 0x0, 0x0, 0x0, 0x0, 0xFFFFFFFF, false⟩,  -- RKN_ADM_ACC
  ⟨0x400100CC, 1, 0x10000, 1, 0x4, 0x0, 0x0, 0x0, 0x0, 0xFFFFFFFF, false⟩,  -- RKN_ADM_REF
  ⟨0x40010100, 64, 0x10, 1, 0x4, 0x0, 0x0, 0xFFFFFF, 0x0, 0x0, false⟩,  -- RKN_TDLn
  ⟨0x40010104, 64, 0x10, 1, 0x4, 0x0, 0x0, 0x0, 0x0, 0x0, false⟩,  -- RKN_TDLYn
  ⟨0x40010108, 64, 0x10, 1, 0x4, 0x0, 0x0, 0x0, 0x0, 0xFFFFFF, false⟩,  -- RKN_TMAXn
  ⟨0x4001010C, 64, 0x10, 1, 0x4, 0x0, 0x0, 0x0, 0x6, 0x0, false⟩,  -- RKN_TSTATn
  ⟨0x40011000, 128, 0x20, 1, 0x4, 0x0, 0x70F3F, 0x0, 0x0, 0x0, false⟩,  -- RKN_WP_CFGw
  ⟨0x40011004, 128, 0x20, 1, 0x4, 0x0, 0xFFFFFFFF, 0x0, 0x0, 0x0, false⟩,  -- RKN_WP_CMPw
  ⟨0x40011008, 128, 0x20, 1, 0x4, 0x0, 0xFFFFFFFF, 0x0, 0x0, 0x0, false⟩,  -- RKN_WP_STEPw
  ⟨0x4001100C, 128, 0x20, 1, 0x4, 0x0, 0xFF, 0x0, 0x0, 0x0, false⟩,  -- RKN_WP_ARGw
  ⟨0x40011010, 128, 0x20, 1, 0x4, 0x0, 0x0, 0x0, 0x4E, 0x0, false⟩,  -- RKN_WP_STATw
  ⟨0x40020000, 1, 0x10000, 1, 0x4, 0x300, 0x0, 0xF01, 0x0, 0x0, false⟩  -- FIX_CTRL
  ]

/-- Rows of the access table, in the order of the spec's tables. -/
def regRows1 : List RegRow := [
  ⟨0x40020004, 1, 0x10000, 1, 0x4, 0x0, 0x0, 0x0, 0x0, 0x0, false⟩,  -- FIX_STAT
  ⟨0x40020008, 1, 0x10000, 1, 0x4, 0x7802, 0x0, 0xFF07, 0x0, 0x0, false⟩,  -- FIX_CKP
  ⟨0x4002000C, 1, 0x10000, 1, 0x4, 0x0, 0x0, 0xFFFFFFFF, 0x0, 0x0, false⟩,  -- FIX_LISTBASE
  ⟨0x40020010, 1, 0x10000, 1, 0x4, 0x0, 0x0, 0x1FF, 0x0, 0x0, false⟩,  -- FIX_LISTCNT
  ⟨0x40020014, 1, 0x10000, 1, 0x4, 0x0, 0x0, 0x0, 0x1000000, 0x0, false⟩,  -- FIX_XSTAT
  ⟨0x40020018, 1, 0x10000, 1, 0x4, 0x0, 0x0, 0x0, 0x0, 0x0, false⟩,  -- FIX_CNUM
  ⟨0x4002001C, 1, 0x10000, 1, 0x4, 0x0, 0x0, 0x0, 0xFF, 0x0, false⟩,  -- FIX_EVT
  ⟨0x40020020, 1, 0x10000, 1, 0x4, 0x0, 0x0, 0x0, 0x0, 0x0, false⟩,  -- FIX_ODDPOS
  ⟨0x40020024, 1, 0x10000, 1, 0x4, 0x0, 0x0, 0x0, 0x0, 0x0, false⟩,  -- FIX_RSCNT
  ⟨0x40020028, 1, 0x10000, 1, 0x4, 0x0, 0x0, 0x0, 0x0, 0x0, true⟩,  -- FIX_DECPOST
  ⟨0x4002002C, 1, 0x10000, 1, 0x4, 0x0, 0x0, 0x0, 0x0, 0x0, false⟩,  -- FIX_DECSTAT
  ⟨0x40020030, 1, 0x10000, 1, 0x4, 0x0, 0x0, 0x0, 0x0, 0xFFFFFFFF, false⟩,  -- FIX_DECAGR
  ⟨0x40020034, 1, 0x10000, 1, 0x4, 0x0, 0x0, 0x0, 0x0, 0x0, false⟩,  -- FIX_DIN
  ⟨0x40020038, 1, 0x10000, 1, 0x4, 0x0, 0x0, 0x0, 0x0, 0x0, false⟩,  -- FIX_DINOWN
  ⟨0x40020040, 3, 0x4, 1, 0x4, 0x0, 0x0, 0x0, 0x0, 0x0, false⟩,  -- FIX_DIGn
  ⟨0x4002004C, 1, 0x10000, 1, 0x4, 0x0, 0x0, 0x0, 0x0, 0x0, false⟩,  -- FIX_WSIG
  ⟨0x40020050, 4, 0x8, 1, 0x4, 0x0, 0x0, 0xFFFFFFFF, 0x0, 0x0, false⟩,  -- FIX_WSBASEk
  ⟨0x40020054, 4, 0x8, 1, 0x4, 0x0, 0x0, 0xFFFFF, 0x0, 0x0, false⟩,  -- FIX_WSSIZEk
  ⟨0x40020080, 1, 0x10000, 1, 0x4, 0x0, 0x0, 0x0, 0x100, 0x0, false⟩,  -- FIX_SPLIT
  ⟨0x40020084, 1, 0x10000, 1, 0x4, 0x0, 0x0, 0x0, 0x0, 0x0, false⟩,  -- FIX_DBG
  ⟨0x40020088, 1, 0x10000, 1, 0x4, 0x0, 0x0, 0x0, 0x0, 0x0, false⟩,  -- FIX_BPADDR
  ⟨0x40020100, 12, 0x10, 1, 0x4, 0x0, 0x0, 0x0, 0x0, 0x0, false⟩,  -- FIX_AXSa
  ⟨0x40020104, 12, 0x10, 1, 0x4, 0x0, 0x0, 0x0, 0x0, 0x0, false⟩,  -- FIX_AXAPa
  ⟨0x40020108, 12, 0x10, 1, 0x4, 0x0, 0x0, 0x0, 0x0, 0x0, false⟩,  -- FIX_AXMa
  ⟨0x4002010C, 12, 0x10, 1, 0x4, 0x0, 0x0, 0x0, 0x0, 0x0, false⟩,  -- FIX_AXTa
  ⟨0x40058000, 1, 0x10000, 1, 0x4, 0x4, 0x0, 0xFF, 0x0, 0x0, false⟩,  -- DLK_CTRL
  ⟨0x40058100, 4, 0x100, 1, 0x4, 0x228, 0x0, 0xFFF, 0x0, 0x0, false⟩,  -- DLK_CFGn
  ⟨0x40058104, 4, 0x100, 1, 0x4, 0xC80050, 0x0, 0xFFF0FFF, 0x0, 0x0, false⟩,  -- DLK_WINn
  ⟨0x40058108, 4, 0x100, 1, 0x4, 0x0, 0x0, 0x0, 0x0, 0x0, false⟩,  -- DLK_LSTATn
  ⟨0x4005810C, 4, 0x100, 1, 0x4, 0x0, 0x0, 0x0, 0x0, 0x0, false⟩,  -- DLK_LATn
  ⟨0x40058110, 4, 0x100, 1, 0x4, 0x0, 0x0, 0x0, 0x0, 0xFFFFFF, false⟩,  -- DLK_MISSn
  ⟨0x40058114, 4, 0x100, 1, 0x4, 0x0, 0x0, 0x0, 0x0, 0xFFFFFF, false⟩,  -- DLK_LATEn
  ⟨0x40058118, 4, 0x100, 1, 0x4, 0x0, 0x0, 0x0, 0x0, 0xFFFFFF, false⟩,  -- DLK_CRCn
  ⟨0x4005811C, 4, 0x100, 1, 0x4, 0x0, 0x0, 0x0, 0x0, 0xFFFFFF, false⟩,  -- DLK_OUTLn
  ⟨0x40058120, 4, 0x100, 1, 0x4, 0x0, 0x0, 0x0, 0x7, 0x0, false⟩,  -- DLK_EVTn
  ⟨0x40058124, 4, 0x100, 1, 0x4, 0x0, 0x0, 0x0, 0x0, 0xFFFF, false⟩,  -- DLK_NOAGRn
  ⟨0x40030000, 1, 0x10000, 1, 0x4, 0x0, 0x1, 0x0, 0x0, 0x0, false⟩,  -- CE_CTRL
  ⟨0x40030004, 1, 0x10000, 1, 0x4, 0x8, 0x0, 0x0, 0x200, 0x0, false⟩,  -- CE_STAT
  ⟨0x40030008, 1, 0x10000, 1, 0x4, 0x0, 0x0, 0x0, 0x3F, 0x0, false⟩,  -- CE_FAULT
  ⟨0x4003000C, 1, 0x10000, 1, 0x4, 0x0, 0x0, 0x0, 0x0, 0x0, false⟩  -- CE_FPC
  ]

/-- Rows of the access table, in the order of the spec's tables. -/
def regRows2 : List RegRow := [
  ⟨0x40030010, 1, 0x10000, 1, 0x4, 0x0, 0x0, 0x0, 0x0, 0x0, false⟩,  -- CE_RUN
  ⟨0x40030014, 1, 0x10000, 1, 0x4, 0x0, 0x0, 0x0, 0x0, 0xFFFFFFFF, false⟩,  -- CE_UTIL
  ⟨0x40030018, 1, 0x10000, 1, 0x4, 0x0, 0x0, 0x0, 0xFFFFFFFF, 0x0, false⟩,  -- CE_OUTEV
  ⟨0x40030020, 2, 0x8, 1, 0x4, 0x0, 0x0, 0x0, 0x0, 0x0, false⟩,  -- CE_LPCl
  ⟨0x40030024, 2, 0x8, 1, 0x4, 0x0, 0x0, 0x0, 0x0, 0x0, false⟩,  -- CE_LPAl
  ⟨0x40030100, 64, 0x4, 1, 0x4, 0xF00000, 0x0, 0x1F31FFF, 0x0, 0x0, false⟩,  -- CE_TASKn
  ⟨0x40030200, 64, 0x4, 1, 0x4, 0x0, 0x0, 0x0, 0x0, 0x0, false⟩,  -- CE_TSTn
  ⟨0x40030300, 32, 0x4, 1, 0x4, 0x0, 0x0, 0x0, 0x0, 0x0, false⟩,  -- CE_OUTk
  ⟨0x40040010, 12, 0x1000, 1, 0x4, 0x500, 0x0, 0x107FF, 0x0, 0x0, false⟩,  -- AX_LAW
  ⟨0x40040014, 12, 0x1000, 1, 0x4, 0x0, 0x0, 0x0, 0x3000, 0x0, false⟩,  -- AX_BANK
  ⟨0x40040018, 12, 0x1000, 1, 0x4, 0x101, 0x0, 0xFF1F1F, 0x0, 0x0, false⟩,  -- AX_CHCFG
  ⟨0x4004001C, 12, 0x1000, 1, 0x4, 0x0, 0x0, 0x0, 0x10000, 0x0, false⟩,  -- AX_CHST
  ⟨0x40040020, 12, 0x1000, 1, 0x4, 0x0, 0x0, 0xFFFFFFFF, 0x0, 0x0, false⟩,  -- AX_CHMAP0
  ⟨0x40040024, 12, 0x1000, 1, 0x4, 0x0, 0x0, 0xFFFFFFFF, 0x0, 0x0, false⟩,  -- AX_CHMAP1
  ⟨0x40040040, 12, 0x1000, 15, 0x4, 0x0, 0x0, 0xFFFFFFFF, 0x0, 0x0, false⟩,  -- AX_BP0k
  ⟨0x40040080, 12, 0x1000, 15, 0x4, 0x0, 0x0, 0xFFFFFFFF, 0x0, 0x0, false⟩,  -- AX_BP1k
  ⟨0x400400C0, 12, 0x1000, 15, 0x4, 0x0, 0x0, 0xFFFFFFFF, 0x0, 0x0, false⟩,  -- AX_HY0k
  ⟨0x40040100, 12, 0x1000, 15, 0x4, 0x0, 0x0, 0xFFFFFFFF, 0x0, 0x0, false⟩,  -- AX_HY1k
  ⟨0x40040140, 12, 0x1000, 16, 0x4, 0x0, 0x0, 0x1FFFF, 0x0, 0x0, false⟩,  -- AX_RSRCr
  ⟨0x40040180, 12, 0x1000, 1, 0x4, 0x1000000, 0x0, 0x3FFFFFF7, 0x0, 0x0, false⟩,  -- AX_SPSRC
  ⟨0x40040184, 12, 0x1000, 1, 0x4, 0x0, 0x0, 0xFFFFFFFF, 0x0, 0x0, false⟩,  -- AX_SPOFS
  ⟨0x40040188, 12, 0x1000, 1, 0x4, 0x40000000, 0x0, 0xFFFFFFFF, 0x0, 0x0, false⟩,  -- AX_SPGAIN
  ⟨0x4004018C, 12, 0x1000, 1, 0x4, 0x0, 0x0, 0xFFFFFFFF, 0x0, 0x0, false⟩,  -- AX_SPDB
  ⟨0x40040190, 12, 0x1000, 1, 0x4, 0x80000000, 0x0, 0xFFFFFFFF, 0x0, 0x0, false⟩,  -- AX_SPMIN
  ⟨0x40040194, 12, 0x1000, 1, 0x4, 0x7FFFFFFF, 0x0, 0xFFFFFFFF, 0x0, 0x0, false⟩,  -- AX_SPMAX
  ⟨0x40040198, 12, 0x1000, 1, 0x4, 0x0, 0x0, 0xFFFFFFFF, 0x0, 0x0, false⟩,  -- AX_SPRATE
  ⟨0x4004019C, 12, 0x1000, 1, 0x4, 0x0, 0x0, 0xFFFFFFFF, 0x0, 0x0, false⟩,  -- AX_SPALPHA
  ⟨0x400401A0, 12, 0x1000, 1, 0x4, 0x0, 0x0, 0xFFFFFFFF, 0x0, 0x0, false⟩,  -- AX_SPSAFE
  ⟨0x400401A4, 12, 0x1000, 1, 0x4, 0x0, 0x0, 0x0, 0x0, 0x0, false⟩,  -- AX_SPRAW
  ⟨0x400401A8, 12, 0x1000, 1, 0x4, 0x0, 0x0, 0x0, 0x0, 0x0, false⟩,  -- AX_SPVAL
  ⟨0x400401AC, 12, 0x1000, 1, 0x4, 0x0, 0x0, 0x0, 0x2, 0x0, false⟩,  -- AX_SPST
  ⟨0x40040200, 12, 0x1000, 1, 0x4, 0x30, 0xF71, 0x0, 0x0, 0x0, false⟩,  -- AX_LBCFG
  ⟨0x40040204, 12, 0x1000, 1, 0x4, 0x0, 0xFFFF, 0x0, 0x0, 0x0, false⟩,  -- AX_LBMASK
  ⟨0x40040208, 12, 0x1000, 1, 0x4, 0x0, 0xFFFF, 0x0, 0x0, 0x0, false⟩,  -- AX_LBBASE
  ⟨0x4004020C, 12, 0x1000, 1, 0x4, 0x0, 0xFFFF, 0x0, 0x0, 0x0, false⟩,  -- AX_LBLEN
  ⟨0x40040210, 12, 0x1000, 1, 0x4, 0x0, 0xFFFF, 0x0, 0x0, 0x0, false⟩,  -- AX_LBPOST
  ⟨0x40040214, 12, 0x1000, 1, 0x4, 0x0, 0x3F, 0x0, 0x0, 0x0, false⟩,  -- AX_LBTHC
  ⟨0x40040218, 12, 0x1000, 1, 0x4, 0x0, 0xFFFFFFFF, 0x0, 0x0, 0x0, false⟩,  -- AX_LBTHV
  ⟨0x4004021C, 12, 0x1000, 1, 0x4, 0x0, 0x0, 0x0, 0x70, 0x0, false⟩,  -- AX_LBST
  ⟨0x40040220, 12, 0x1000, 1, 0x4, 0x0, 0x0, 0x0, 0x0, 0x0, false⟩  -- AX_LBWP
  ]

/-- Rows of the access table, in the order of the spec's tables. -/
def regRows3 : List RegRow := [
  ⟨0x40040224, 12, 0x1000, 1, 0x4, 0x0, 0x0, 0x0, 0x0, 0x0, false⟩,  -- AX_LBTP
  ⟨0x40054000, 8, 0x80, 1, 0x4, 0x34, 0x0, 0x7D, 0x0, 0x0, false⟩,  -- EDG_MCTLb
  ⟨0x40054004, 8, 0x80, 1, 0x4, 0x0, 0x0, 0x0, 0x0, 0x0, false⟩,  -- EDG_MSTATb
  ⟨0x40054008, 8, 0x80, 1, 0x4, 0x0, 0x0, 0x0, 0xFFFF, 0x0, false⟩,  -- EDG_MEVTb
  ⟨0x4005400C, 8, 0x80, 1, 0x4, 0x80000000, 0x0, 0xFF3F3F3F, 0x0, 0x0, false⟩,  -- EDG_MISELb
  ⟨0x40054010, 8, 0x80, 1, 0x4, 0x0, 0x0, 0x13F3F3F, 0x0, 0x0, false⟩,  -- EDG_MVSELb
  ⟨0x40054014, 8, 0x80, 1, 0x4, 0x1000000, 0x0, 0x1F3F3F73, 0x0, 0x0, false⟩,  -- EDG_MSENb
  ⟨0x40054018, 8, 0x80, 1, 0x4, 0x3E80200, 0x0, 0x3FF03FF, 0x0, 0x0, false⟩,  -- EDG_MAMPb
  ⟨0x4005401C, 8, 0x80, 1, 0x4, 0x0, 0x0, 0xFFFFFFFF, 0x0, 0x0, false⟩,  -- EDG_MOFSb
  ⟨0x40054020, 8, 0x80, 1, 0x4, 0x0, 0x0, 0xFFFFFFFF, 0x0, 0x0, false⟩,  -- EDG_MWOFSb
  ⟨0x40054024, 8, 0x80, 1, 0x4, 0x200, 0x0, 0x1F1F, 0x0, 0x0, false⟩,  -- EDG_MESTb
  ⟨0x40054028, 8, 0x80, 1, 0x4, 0x0, 0x0, 0xFFFFFFFF, 0x0, 0x0, false⟩,  -- EDG_MRATEDb
  ⟨0x4005402C, 8, 0x80, 1, 0x4, 0x5141A, 0x0, 0x1FFFFF, 0x0, 0x0, false⟩,  -- EDG_MINJb
  ⟨0x40054030, 8, 0x80, 1, 0x4, 0x3D0033, 0x0, 0x3FF03FF, 0x0, 0x0, false⟩,  -- EDG_MINJSWb
  ⟨0x40054034, 8, 0x80, 1, 0x4, 0x8144D04, 0x0, 0xFFFFFF0F, 0x0, 0x0, false⟩,  -- EDG_MPOLb
  ⟨0x40054038, 8, 0x80, 1, 0x4, 0x643A, 0x0, 0xFF3F, 0x0, 0x0, false⟩,  -- EDG_MSTRb
  ⟨0x4005403C, 8, 0x80, 1, 0x4, 0x81E, 0x0, 0xFF7F, 0x0, 0x0, false⟩,  -- EDG_MXCHKb
  ⟨0x40054040, 8, 0x80, 1, 0x4, 0x140A0200, 0x0, 0xFFFF03FF, 0x0, 0x0, false⟩,  -- EDG_MCATb
  ⟨0x40054044, 8, 0x80, 1, 0x4, 0x7D02000, 0x0, 0xFFFFFFFF, 0x0, 0x0, false⟩,  -- EDG_MCAT2b
  ⟨0x40054048, 8, 0x80, 1, 0x4, 0x1403EC, 0x0, 0xFF03FF, 0x0, 0x0, false⟩,  -- EDG_MLIMb
  ⟨0x4005404C, 8, 0x80, 1, 0x4, 0x1000, 0x0, 0xFFFF, 0x0, 0x0, false⟩,  -- EDG_MLOSSb
  ⟨0x40054050, 8, 0x80, 1, 0x4, 0x0, 0x0, 0x0, 0x0, 0x0, false⟩,  -- EDG_MIOFSb
  ⟨0x40054054, 8, 0x80, 1, 0x4, 0x0, 0x0, 0x0, 0x0, 0x0, false⟩,  -- EDG_MCRESb
  ⟨0x40054058, 8, 0x80, 1, 0x4, 0x0, 0x0, 0x0, 0x0, 0xFFFFFFFF, false⟩,  -- EDG_MCNTb
  ⟨0x40054400, 12, 0x20, 1, 0x4, 0x200, 0x0, 0x1F01, 0x0, 0x0, false⟩,  -- EDG_CCCFGa
  ⟨0x40054404, 12, 0x20, 1, 0x4, 0x0, 0x0, 0x1FFFF, 0x0, 0x0, false⟩,  -- EDG_CCBASEa
  ⟨0x40054408, 12, 0x20, 1, 0x4, 0x0, 0x0, 0xFFFFFFFF, 0x0, 0x0, false⟩,  -- EDG_CCONa
  ⟨0x4005440C, 12, 0x20, 1, 0x4, 0x0, 0x0, 0xFFFFFFFF, 0x0, 0x0, false⟩,  -- EDG_CCOFFa
  ⟨0x40054410, 12, 0x20, 1, 0x4, 0x0, 0x0, 0x0, 0x0, 0x0, false⟩,  -- EDG_CCSTa
  ⟨0x40054414, 12, 0x20, 1, 0x4, 0x0, 0x0, 0x0, 0x0, 0x0, false⟩,  -- EDG_CCOUTa
  ⟨0x40050000, 1, 0x10000, 1, 0x4, 0x0, 0x1, 0x0, 0x0, 0x0, false⟩,  -- EDG_CTRL
  ⟨0x40050004, 1, 0x10000, 1, 0x4, 0x0, 0x0, 0x0, 0x0, 0x0, true⟩,  -- EDG_LOAD
  ⟨0x40050008, 1, 0x10000, 1, 0x4, 0x0, 0x0, 0x0, 0xFF00, 0x0, false⟩,  -- EDG_LDSTAT
  ⟨0x40050010, 8, 0x4, 1, 0x4, 0x0, 0x0, 0xFFBF, 0x0, 0x0, false⟩,  -- EDG_TLDk
  ⟨0x40050100, 8, 0x40, 1, 0x4, 0x0, 0x0, 0xD, 0x0, 0x0, false⟩,  -- EDG_BCFGb
  ⟨0x40050104, 8, 0x40, 1, 0x4, 0x13880, 0x0, 0xFFFFF, 0x0, 0x0, false⟩,  -- EDG_BPERb
  ⟨0x40050108, 8, 0x40, 1, 0x4, 0x6400320, 0x0, 0x3FFF1FFF, 0x0, 0x0, false⟩,  -- EDG_BTIMb
  ⟨0x4005010C, 8, 0x40, 1, 0x4, 0x2800040, 0x0, 0x3FFF03FF, 0x0, 0x0, false⟩,  -- EDG_BREFb
  ⟨0x40050110, 8, 0x40, 1, 0x4, 0x80614, 0x0, 0x1F0F3F, 0x0, 0x0, false⟩,  -- EDG_BVDSb
  ⟨0x40050114, 8, 0x40, 1, 0x4, 0x1000, 0x0, 0xFF03, 0x0, 0x0, false⟩  -- EDG_BBLKb
  ]

/-- Rows of the access table, in the order of the spec's tables. -/
def regRows4 : List RegRow := [
  ⟨0x40050118, 8, 0x40, 1, 0x4, 0x0, 0x0, 0x0, 0x0, 0x0, false⟩,  -- EDG_BSTATb
  ⟨0x4005011C, 8, 0x40, 1, 0x4, 0x0, 0x0, 0x0, 0x3FF, 0x0, false⟩,  -- EDG_BEVTb
  ⟨0x40050120, 8, 0x40, 1, 0x4, 0x0, 0x0, 0x0, 0x0, 0x0, false⟩,  -- EDG_BCLRb
  ⟨0x40050124, 8, 0x40, 1, 0x4, 0x0, 0x0, 0x0, 0x0, 0x0, false⟩,  -- EDG_BCARUb
  ⟨0x40050128, 8, 0x40, 1, 0x4, 0x0, 0x0, 0x0, 0x0, 0x0, false⟩,  -- EDG_BCARVb
  ⟨0x4005012C, 8, 0x40, 1, 0x4, 0x0, 0x0, 0x0, 0x0, 0x0, false⟩,  -- EDG_BCARWb
  ⟨0x40050130, 8, 0x40, 1, 0x4, 0x13880, 0x0, 0x0, 0x0, 0x0, false⟩,  -- EDG_BPENDb
  ⟨0x40050134, 8, 0x40, 1, 0x4, 0x0, 0x0, 0x0, 0x0, 0xFFFFFFFF, false⟩,  -- EDG_BCNTb
  ⟨0x40050400, 12, 0x20, 1, 0x4, 0x6404, 0x0, 0x1FF0D, 0x0, 0x0, false⟩,  -- EDG_VCFGv
  ⟨0x40050404, 12, 0x20, 1, 0x4, 0x100100, 0x0, 0xFFFFFFFF, 0x0, 0x0, false⟩,  -- EDG_VREGv
  ⟨0x40050408, 12, 0x20, 1, 0x4, 0x41F40000, 0x0, 0xFFFF0FFF, 0x0, 0x0, false⟩,  -- EDG_VLIMv
  ⟨0x4005040C, 12, 0x20, 1, 0x4, 0x0, 0x0, 0x0, 0x0, 0x0, false⟩,  -- EDG_VSTATv
  ⟨0x40050410, 12, 0x20, 1, 0x4, 0x0, 0x0, 0x0, 0x3F, 0x0, false⟩,  -- EDG_VEVTv
  ⟨0x40050414, 12, 0x20, 1, 0x4, 0x0, 0x0, 0x0, 0x0, 0x0, false⟩,  -- EDG_VCLRv
  ⟨0x40050600, 8, 0x10, 1, 0x4, 0x0, 0x0, 0x1, 0x0, 0x0, false⟩,  -- EDG_SOCFGs
  ⟨0x40050604, 8, 0x10, 1, 0x4, 0x0, 0x1, 0x0, 0x0, 0x0, false⟩,  -- EDG_SOCMDs
  ⟨0x40050608, 8, 0x10, 1, 0x4, 0x0, 0x0, 0x0, 0x7C, 0x0, false⟩,  -- EDG_SOSTATs
  ⟨0x4005060C, 8, 0x10, 1, 0x4, 0x0, 0x0, 0x0, 0x0, 0x0, false⟩,  -- EDG_SOCLRs
  ⟨0x40050700, 8, 0x10, 1, 0x4, 0x10, 0x0, 0x7F3F, 0x0, 0x0, false⟩,  -- EDG_TRCFGt
  ⟨0x40050704, 8, 0x10, 1, 0x4, 0x0, 0x0, 0x0, 0x1C, 0x0, false⟩,  -- EDG_TRSTATt
  ⟨0x40050708, 8, 0x10, 1, 0x4, 0x0, 0x0, 0x0, 0x0, 0x0, false⟩,  -- EDG_TRCLRt
  ⟨0x40050800, 4, 0x20, 1, 0x4, 0xA00C8, 0x0, 0xFF01FF, 0x0, 0x0, false⟩,  -- EDG_OPCFGn
  ⟨0x40050804, 4, 0x20, 1, 0x4, 0x7, 0x0, 0x0, 0x0, 0x0, false⟩,  -- EDG_OPSTATn
  ⟨0x40050808, 4, 0x20, 1, 0x4, 0x0, 0x0, 0x0, 0x18, 0x0, false⟩,  -- EDG_DDSTATn
  ⟨0x40060000, 1, 0x10000, 1, 0x4, 0x0, 0x1, 0x0, 0x0, 0x0, false⟩,  -- MEAS_CTRL
  ⟨0x40060004, 1, 0x10000, 1, 0x4, 0x0, 0x0, 0x0, 0xF1, 0x0, false⟩,  -- MEAS_STAT
  ⟨0x40060008, 1, 0x10000, 1, 0x4, 0x0, 0x1, 0x0, 0x0, 0x0, false⟩,  -- MEAS_REF
  ⟨0x4006000C, 1, 0x10000, 1, 0x4, 0x0, 0x0, 0x0, 0x0, 0x0, false⟩,  -- MEAS_CONV
  ⟨0x40060010, 1, 0x10000, 1, 0x4, 0x0, 0x7F07, 0x0, 0x0, 0x0, false⟩,  -- MEAS_SPOT
  ⟨0x40060014, 1, 0x10000, 1, 0x4, 0x0, 0x0, 0x0, 0x0, 0x1FFFFF, false⟩,  -- MEAS_SPOT_RES
  ⟨0x40060018, 1, 0x10000, 1, 0x4, 0x0, 0x0, 0x0, 0x0, 0x0, false⟩,  -- MEAS_SQSTART
  ⟨0x40060020, 1, 0x10000, 1, 0x4, 0x0, 0x0, 0x0, 0xFFFFFFFF, 0x0, false⟩,  -- MEAS_GBEVT0
  ⟨0x40060024, 1, 0x10000, 1, 0x4, 0x0, 0x0, 0x0, 0xFFFFFFFF, 0x0, false⟩,  -- MEAS_GBEVT1
  ⟨0x40060030, 1, 0x10000, 1, 0x4, 0x0, 0x13F, 0x0, 0x0, 0x0, false⟩,  -- MEAS_CALCMD
  ⟨0x40060034, 1, 0x10000, 1, 0x4, 0x0, 0x0, 0x0, 0x38, 0x0, false⟩,  -- MEAS_CALST
  ⟨0x40060038, 1, 0x10000, 1, 0x4, 0x0, 0xFFFFFFFF, 0x0, 0x0, 0x0, false⟩,  -- MEAS_CALZ
  ⟨0x4006003C, 1, 0x10000, 1, 0x4, 0x0, 0xFFFFFFFF, 0x0, 0x0, 0x0, false⟩,  -- MEAS_CALFS
  ⟨0x40060040, 1, 0x10000, 1, 0x4, 0x0, 0x0, 0x0, 0x0, 0x0, false⟩,  -- MEAS_CALMZ
  ⟨0x40060044, 1, 0x10000, 1, 0x4, 0x0, 0x0, 0x0, 0x0, 0x0, false⟩,  -- MEAS_CALMF
  ⟨0x40060048, 1, 0x10000, 1, 0x4, 0x0, 0x0, 0x0, 0x0, 0x0, false⟩  -- MEAS_CALPP
  ]

/-- Rows of the access table, in the order of the spec's tables. -/
def regRows5 : List RegRow := [
  ⟨0x40060080, 6, 0x4, 1, 0x4, 0x0, 0x0, 0x0, 0x0, 0x0, false⟩,  -- MEAS_FOFSk
  ⟨0x400600A0, 6, 0x4, 1, 0x4, 0x40000000, 0x0, 0x0, 0x0, 0x0, false⟩,  -- MEAS_FGAINk
  ⟨0x40060100, 16, 0x4, 1, 0x4, 0x100, 0x0, 0x777F3F, 0x0, 0x0, false⟩,  -- MEAS_SQCFGq
  ⟨0x40060140, 16, 0x4, 1, 0x4, 0x0, 0x0, 0x0, 0x3C, 0x0, false⟩,  -- MEAS_SQSTATq
  ⟨0x40060200, 64, 0x4, 1, 0x4, 0x0, 0x0, 0xBF, 0x0, 0x0, false⟩,  -- MEAS_STEPi
  ⟨0x40061000, 64, 0x40, 1, 0x4, 0x0, 0x0, 0xF7F71, 0x0, 0x0, false⟩,  -- MEAS_SLCFGs
  ⟨0x40061004, 64, 0x40, 1, 0x4, 0x0, 0x0, 0x0, 0x0, 0x0, false⟩,  -- MEAS_RESs
  ⟨0x40061008, 64, 0x40, 1, 0x4, 0x0, 0x0, 0x0, 0x0, 0x0, false⟩,  -- MEAS_RAWs
  ⟨0x4006100C, 64, 0x40, 1, 0x4, 0x0, 0x0, 0x0, 0x100, 0x0, false⟩,  -- MEAS_SLSTs
  ⟨0x40061010, 64, 0x40, 1, 0x4, 0x7FFFFFFF, 0x0, 0xFFFFFFFF, 0x0, 0x0, false⟩,  -- MEAS_GBHIs
  ⟨0x40061014, 64, 0x40, 1, 0x4, 0x80000000, 0x0, 0xFFFFFFFF, 0x0, 0x0, false⟩,  -- MEAS_GBLOs
  ⟨0x40061018, 64, 0x40, 1, 0x4, 0x1000000, 0x0, 0xFFFFFFFF, 0x0, 0x0, false⟩,  -- MEAS_GBFLTs
  ⟨0x4006101C, 64, 0x40, 1, 0x4, 0x0, 0x0, 0x0, 0x0, 0x0, false⟩,  -- MEAS_UOFSs
  ⟨0x40061020, 64, 0x40, 1, 0x4, 0x40000000, 0x0, 0x0, 0x0, 0x0, false⟩,  -- MEAS_UGAINs
  ⟨0x40070000, 1, 0x10000, 1, 0x4, 0x0, 0x1, 0x0, 0x0, 0x0, false⟩,  -- POS_CTRL
  ⟨0x40070010, 12, 0x4, 1, 0x4, 0x0, 0x0, 0x73, 0x0, 0x0, false⟩,  -- POS_AXSRCa
  ⟨0x40070100, 8, 0x40, 1, 0x4, 0x0, 0x0, 0x3F3FF1FD, 0x0, 0x0, false⟩,  -- POS_CFGn
  ⟨0x40070104, 8, 0x40, 1, 0x4, 0x0, 0x0, 0xFFFFFF, 0x0, 0x0, false⟩,  -- POS_CPRn
  ⟨0x40070108, 8, 0x40, 1, 0x4, 0x0, 0x0, 0xFFFFFF, 0x0, 0x0, false⟩,  -- POS_IDXREFn
  ⟨0x4007010C, 8, 0x40, 1, 0x4, 0x4, 0x0, 0xFFF0FFF, 0x0, 0x0, false⟩,  -- POS_TOLn
  ⟨0x40070110, 8, 0x40, 1, 0x4, 0x6400C8, 0x0, 0xFFFF1FFF, 0x0, 0x0, false⟩,  -- POS_TOBSn
  ⟨0x40070114, 8, 0x40, 1, 0x4, 0x3E80200, 0x0, 0x3FF03FF, 0x0, 0x0, false⟩,  -- POS_AMPn
  ⟨0x40070118, 8, 0x40, 1, 0x4, 0x0, 0x0, 0xFFFFFFFF, 0x0, 0x0, false⟩,  -- POS_ANGOFSn
  ⟨0x4007011C, 8, 0x40, 1, 0x4, 0x0, 0x0, 0x0, 0x0, 0x0, false⟩,  -- POS_COUNTn
  ⟨0x40070120, 8, 0x40, 1, 0x4, 0x0, 0x0, 0x0, 0x0, 0x0, false⟩,  -- POS_ANGn
  ⟨0x40070124, 8, 0x40, 1, 0x4, 0x0, 0x0, 0x0, 0x0, 0x0, false⟩,  -- POS_SPDn
  ⟨0x40070128, 8, 0x40, 1, 0x4, 0x0, 0x0, 0x0, 0x0, 0x0, false⟩,  -- POS_ACCn
  ⟨0x4007012C, 8, 0x40, 1, 0x4, 0x0, 0x0, 0x0, 0x0, 0x0, false⟩,  -- POS_IDXLATn
  ⟨0x40070130, 8, 0x40, 1, 0x4, 0x0, 0x0, 0x0, 0x0, 0x0, false⟩,  -- POS_SLIPn
  ⟨0x40070134, 8, 0x40, 1, 0x4, 0x0, 0x0, 0x0, 0x3FE, 0x0, false⟩,  -- POS_STATn
  ⟨0x40070138, 8, 0x40, 1, 0x4, 0x0, 0x0, 0x0, 0x0, 0xFFFFFFFF, false⟩,  -- POS_ERRCNTn
  ⟨0x40070800, 1, 0x10000, 1, 0x4, 0x14200000, 0x0, 0xFFFF0FFD, 0x0, 0x0, false⟩,  -- POS_TRCFG
  ⟨0x40070804, 4, 0x4, 1, 0x4, 0x0, 0x0, 0xFFFFFFFF, 0x0, 0x0, false⟩,  -- POS_WDPPk
  ⟨0x40070814, 1, 0x10000, 1, 0x4, 0x0, 0x0, 0xFFFFFFFF, 0x0, 0x0, false⟩,  -- POS_RDPP
  ⟨0x40070818, 1, 0x10000, 1, 0x4, 0x0, 0x1, 0x0, 0x0, 0x0, false⟩,  -- POS_GSCFG
  ⟨0x4007081C, 1, 0x10000, 1, 0x4, 0x3E8000D, 0xFFFFFFFF, 0x0, 0x0, 0x0, false⟩,  -- POS_GSRAT
  ⟨0x40070820, 1, 0x10000, 1, 0x4, 0x0, 0x0, 0x0, 0x0, 0x0, false⟩,  -- POS_GSPD
  ⟨0x40070824, 4, 0x4, 1, 0x4, 0x0, 0x0, 0x0, 0x0, 0x0, false⟩,  -- POS_WSPDk
  ⟨0x40070834, 1, 0x10000, 1, 0x4, 0x0, 0x0, 0x0, 0x0, 0x0, false⟩,  -- POS_RSPD
  ⟨0x40070838, 1, 0x10000, 1, 0x4, 0x0, 0x0, 0x0, 0xF000, 0x0, false⟩  -- POS_TRSTAT
  ]

/-- Rows of the access table, in the order of the spec's tables. -/
def regRows6 : List RegRow := [
  ⟨0x40070840, 4, 0x4, 1, 0x4, 0x0, 0x0, 0x0, 0x0, 0x0, false⟩,  -- POS_WCNTk
  ⟨0x40070850, 1, 0x10000, 1, 0x4, 0x0, 0x0, 0x0, 0x0, 0x0, false⟩,  -- POS_RCNT
  ⟨0x40078000, 8, 0x40, 1, 0x4, 0x301E060, 0x0, 0xFFF3FF7D, 0x0, 0x0, false⟩,  -- SENT_CFGm
  ⟨0x40078004, 8, 0x40, 1, 0x4, 0x106, 0x0, 0xFFF01FF, 0x0, 0x0, false⟩,  -- SENT_FMTAm
  ⟨0x40078008, 8, 0x40, 1, 0x4, 0x0, 0x0, 0xFFF01FF, 0x0, 0x0, false⟩,  -- SENT_FMTBm
  ⟨0x4007800C, 8, 0x40, 1, 0x4, 0x103, 0x0, 0x1FFFF, 0x0, 0x0, false⟩,  -- SENT_IDm
  ⟨0x40078010, 8, 0x40, 1, 0x4, 0x0, 0x0, 0x0, 0x0, 0x0, false⟩,  -- SENT_D0m
  ⟨0x40078014, 8, 0x40, 1, 0x4, 0x0, 0x0, 0x0, 0x0, 0x0, false⟩,  -- SENT_D1m
  ⟨0x40078018, 8, 0x40, 1, 0x4, 0x0, 0x0, 0x0, 0x0, 0x0, false⟩,  -- SENT_RAWm
  ⟨0x4007801C, 8, 0x40, 1, 0x4, 0x0, 0x0, 0x0, 0x0, 0x0, false⟩,  -- SENT_TICKm
  ⟨0x40078020, 8, 0x40, 1, 0x4, 0x0, 0x0, 0x0, 0x0, 0x0, false⟩,  -- SENT_SFMTm
  ⟨0x40078024, 8, 0x40, 1, 0x4, 0x0, 0x0, 0x0, 0x0, 0x0, false⟩,  -- SENT_SIDm
  ⟨0x40078028, 8, 0x40, 1, 0x4, 0x0, 0x0, 0x0, 0x3FE, 0x0, false⟩,  -- SENT_STATm
  ⟨0x40080000, 1, 0x10000, 1, 0x4, 0x0, 0x1, 0x0, 0x0, 0x0, false⟩,  -- HNET_CTRL
  ⟨0x40080004, 1, 0x10000, 1, 0x4, 0x70000, 0x0, 0x777FF, 0x0, 0x0, false⟩,  -- HNET_CFG
  ⟨0x40080008, 1, 0x10000, 1, 0x4, 0x280504, 0x0, 0x3FF3F1F, 0x0, 0x0, false⟩,  -- HNET_TIM
  ⟨0x4008000C, 1, 0x10000, 1, 0x4, 0x7000008, 0x0, 0x7FF07FF, 0x0, 0x0, false⟩,  -- HNET_IDS
  ⟨0x40080010, 1, 0x10000, 1, 0x4, 0x0, 0x0, 0xFFFFFFFF, 0x0, 0x0, false⟩,  -- HNET_MXBASE
  ⟨0x40080014, 1, 0x10000, 1, 0x4, 0x0, 0x0, 0xFF, 0x0, 0x0, false⟩,  -- HNET_MXCNT
  ⟨0x40080018, 1, 0x10000, 1, 0x4, 0x0, 0x0, 0x0, 0x0, 0x0, false⟩,  -- HNET_STAT
  ⟨0x4008001C, 1, 0x10000, 1, 0x4, 0x0, 0x0, 0x0, 0x1FFF, 0x0, false⟩,  -- HNET_EVT
  ⟨0x40080020, 1, 0x10000, 1, 0x4, 0x0, 0x0, 0x0, 0x0, 0x0, false⟩,  -- HNET_OFS
  ⟨0x40080024, 1, 0x10000, 1, 0x4, 0x0, 0x0, 0x0, 0x0, 0x0, false⟩,  -- HNET_PATH
  ⟨0x40080028, 1, 0x10000, 1, 0x4, 0x0, 0x0, 0x0, 0x0, 0x0, false⟩,  -- HNET_ERRA
  ⟨0x4008002C, 1, 0x10000, 1, 0x4, 0x0, 0x0, 0x0, 0x0, 0x0, false⟩,  -- HNET_ERRB
  ⟨0x40080030, 1, 0x10000, 1, 0x4, 0x0, 0x0, 0x0, 0x0, 0x0, false⟩,  -- HNET_NODES
  ⟨0x40080034, 1, 0x10000, 1, 0x4, 0x0, 0x0, 0x0, 0x0, 0x0, false⟩,  -- HNET_PDLYM
  ⟨0x40080038, 1, 0x10000, 1, 0x4, 0x0, 0x0, 0x0, 0x0, 0xFFFFFFFF, false⟩,  -- HNET_CNT
  ⟨0x4008003C, 1, 0x10000, 1, 0x4, 0x0, 0x0, 0x0, 0x0, 0xFFFFFFFF, false⟩,  -- HNET_NOAGR
  ⟨0x40081000, 64, 0x4, 1, 0x4, 0x0, 0x0, 0xFF7FF, 0x0, 0x0, false⟩,  -- HNET_BCFGk
  ⟨0x40081100, 64, 0x4, 1, 0x4, 0x0, 0x0, 0x0, 0xFB, 0x0, false⟩,  -- HNET_BSTk
  ⟨0x40081200, 64, 0x4, 1, 0x4, 0x0, 0x0, 0x0, 0x0, 0x0, false⟩,  -- HNET_BTk
  ⟨0x40082000, 64, 0x40, 16, 0x4, 0x0, 0xFFFFFFFF, 0x0, 0x0, 0x0, false⟩,  -- HNET_BDk_j
  ⟨0x40090000, 1, 0x10000, 1, 0x4, 0x0, 0x1, 0x0, 0x0, 0x0, false⟩,  -- ISB_CTRL
  ⟨0x40090004, 1, 0x10000, 1, 0x4, 0x3, 0x0, 0x7, 0x0, 0x0, false⟩,  -- ISB_CFG
  ⟨0x40090008, 1, 0x10000, 1, 0x4, 0x0, 0x0, 0xFFFFFFFF, 0x0, 0x0, false⟩,  -- ISB_NAMELO
  ⟨0x4009000C, 1, 0x10000, 1, 0x4, 0x0, 0x0, 0xFFFFFFFF, 0x0, 0x0, false⟩,  -- ISB_NAMEHI
  ⟨0x40090010, 1, 0x10000, 1, 0x4, 0xF780FE, 0x0, 0xFFFFFF, 0x0, 0x0, false⟩,  -- ISB_ADDR
  ⟨0x40090014, 1, 0x10000, 1, 0x4, 0xFE, 0x0, 0x0, 0x0, 0x0, false⟩,  -- ISB_ACST
  ⟨0x40090018, 1, 0x10000, 1, 0x4, 0x0, 0x0, 0x0, 0xFF, 0x0, false⟩  -- ISB_EVT
  ]

/-- Rows of the access table, in the order of the spec's tables. -/
def regRows7 : List RegRow := [
  ⟨0x4009001C, 1, 0x10000, 1, 0x4, 0x0, 0x0, 0x0, 0x0, 0x0, false⟩,  -- ISB_ERR
  ⟨0x40090020, 1, 0x10000, 1, 0x4, 0x0, 0xFF0000, 0xFFFF, 0x0, 0x0, false⟩,  -- ISB_NEG
  ⟨0x40090100, 16, 0x10, 1, 0x4, 0x0, 0x3FFFFFFF, 0x0, 0x0, 0x0, false⟩,  -- ISB_TXIDk
  ⟨0x40090104, 16, 0x10, 1, 0x4, 0x0, 0xF, 0x0, 0xC00, 0x0, false⟩,  -- ISB_TXCTk
  ⟨0x40090108, 16, 0x10, 1, 0x4, 0x0, 0xFFFFFFFF, 0x0, 0x0, 0x0, false⟩,  -- ISB_TXD0k
  ⟨0x4009010C, 16, 0x10, 1, 0x4, 0x0, 0xFFFFFFFF, 0x0, 0x0, 0x0, false⟩,  -- ISB_TXD1k
  ⟨0x40090400, 32, 0x20, 1, 0x4, 0x0, 0x0, 0xFFFFFFFF, 0x0, 0x0, false⟩,  -- ISB_RXFk
  ⟨0x40090404, 32, 0x20, 1, 0x4, 0x0, 0x0, 0x1FFFFFFF, 0x0, 0x0, false⟩,  -- ISB_RXMk
  ⟨0x40090408, 32, 0x20, 1, 0x4, 0x0, 0x0, 0x0, 0x300, 0x0, false⟩,  -- ISB_RXSk
  ⟨0x4009040C, 32, 0x20, 1, 0x4, 0x0, 0x0, 0x0, 0x0, 0x0, false⟩,  -- ISB_RXTk
  ⟨0x40090410, 32, 0x20, 1, 0x4, 0x0, 0x0, 0x0, 0x0, 0x0, false⟩,  -- ISB_RXD0k
  ⟨0x40090414, 32, 0x20, 1, 0x4, 0x0, 0x0, 0x0, 0x0, 0x0, false⟩,  -- ISB_RXD1k
  ⟨0x400A0000, 2, 0x100, 1, 0x4, 0x0, 0x1, 0x0, 0x0, 0x0, false⟩,  -- ETH_CTRLp
  ⟨0x400A0004, 2, 0x100, 1, 0x4, 0x1, 0x0, 0x1F03, 0x0, 0x0, false⟩,  -- ETH_CFGp
  ⟨0x400A0008, 2, 0x100, 1, 0x4, 0x0, 0x0, 0xFFFFFFFF, 0x0, 0x0, false⟩,  -- ETH_MACLOp
  ⟨0x400A000C, 2, 0x100, 1, 0x4, 0x0, 0x0, 0xFFFF, 0x0, 0x0, false⟩,  -- ETH_MACHIp
  ⟨0x400A0010, 2, 0x100, 1, 0x4, 0x0, 0x0, 0xFFFFFFFF, 0x0, 0x0, false⟩,  -- ETH_TXBASEp
  ⟨0x400A0014, 2, 0x100, 1, 0x4, 0x2, 0x0, 0xFF, 0x0, 0x0, false⟩,  -- ETH_TXCNTp
  ⟨0x400A0018, 2, 0x100, 1, 0x4, 0x0, 0x0, 0xFFFFFFFF, 0x0, 0x0, false⟩,  -- ETH_RXBASEp
  ⟨0x400A001C, 2, 0x100, 1, 0x4, 0x2, 0x0, 0xFF, 0x0, 0x0, false⟩,  -- ETH_RXCNTp
  ⟨0x400A0020, 2, 0x100, 1, 0x4, 0x0, 0x0, 0x0, 0x0, 0x0, false⟩,  -- ETH_IDXp
  ⟨0x400A0024, 2, 0x100, 1, 0x4, 0x0, 0x0, 0x0, 0x0, 0x0, false⟩,  -- ETH_STATp
  ⟨0x400A0028, 2, 0x100, 1, 0x4, 0x0, 0x0, 0x0, 0x1FF, 0x0, false⟩,  -- ETH_EVTp
  ⟨0x400A002C, 2, 0x100, 1, 0x4, 0x0, 0x11FFFFF, 0x0, 0x0, 0x0, false⟩,  -- ETH_PHYADRp
  ⟨0x400A0030, 2, 0x100, 1, 0x4, 0x0, 0xFFFF, 0x0, 0x0, 0x0, false⟩,  -- ETH_PHYDATp
  ⟨0x400A0034, 2, 0x100, 1, 0x4, 0x0, 0x0, 0x0, 0x0, 0xFFFFFFFF, false⟩,  -- ETH_CNTp
  ⟨0x400A0200, 4, 0x8, 1, 0x4, 0x0, 0x0, 0xFFFFFFFF, 0x0, 0x0, false⟩,  -- ETH_FLOk
  ⟨0x400A0204, 4, 0x8, 1, 0x4, 0x0, 0x0, 0x7FFFF, 0x0, 0x0, false⟩,  -- ETH_FHIk
  ⟨0x400B0000, 1, 0x10000, 1, 0x4, 0x0, 0x0, 0x1, 0x0, 0x0, false⟩,  -- SAFE_CTRL
  ⟨0x400B0004, 1, 0x10000, 1, 0x4, 0x0, 0x0, 0xFFFFFFFF, 0x0, 0x0, false⟩,  -- SAFE_OWNID
  ⟨0x400B0008, 1, 0x10000, 1, 0x4, 0x0, 0x0, 0x0, 0x0, 0x0, false⟩,  -- SAFE_CCV
  ⟨0x400B000C, 1, 0x10000, 1, 0x4, 0x0, 0x0, 0x7F, 0x0, 0x0, false⟩,  -- SAFE_CMCFG
  ⟨0x400B0010, 1, 0x10000, 1, 0x4, 0x0, 0x0, 0x0, 0x0, 0x0, false⟩,  -- SAFE_CMST
  ⟨0x400B0014, 1, 0x10000, 1, 0x4, 0x0, 0x0, 0x0, 0xF, 0x0, false⟩,  -- SAFE_EVT
  ⟨0x400B0018, 1, 0x10000, 1, 0x4, 0x0, 0x0, 0x0, 0x0, 0xFFFFFFFF, false⟩,  -- SAFE_CNT
  ⟨0x400B1020, 127, 0x20, 1, 0x4, 0x0, 0x0, 0x3FFF7, 0x0, 0x0, false⟩,  -- SAFE_SCFGs
  ⟨0x400B1024, 127, 0x20, 1, 0x4, 0x0, 0x0, 0xFFFFFFFF, 0x0, 0x0, false⟩,  -- SAFE_SPIDs
  ⟨0x400B1028, 127, 0x20, 1, 0x4, 0x3E80014, 0x0, 0x3FF03FF, 0x0, 0x0, false⟩,  -- SAFE_STEXs
  ⟨0x400B102C, 127, 0x20, 1, 0x4, 0x0, 0x0, 0xFFF00FF, 0x0, 0x0, false⟩,  -- SAFE_SREACTs
  ⟨0x400B1030, 127, 0x20, 1, 0x4, 0xBB80004, 0x0, 0xFFFF00FF, 0x0, 0x0, false⟩  -- SAFE_SCHKs
  ]

/-- Rows of the access table, in the order of the spec's tables. -/
def regRows8 : List RegRow := [
  ⟨0x400B1034, 127, 0x20, 1, 0x4, 0x0, 0x0, 0x0, 0xF8, 0x0, false⟩,  -- SAFE_SSTs
  ⟨0x400B1038, 127, 0x20, 1, 0x4, 0x0, 0x0, 0x0, 0x0, 0x0, false⟩,  -- SAFE_SNEGs
  ⟨0x400B103C, 127, 0x20, 1, 0x4, 0x0, 0x0, 0x0, 0x0, 0xFFFFFFFF, false⟩,  -- SAFE_SERRs
  ⟨0x400C0000, 1, 0x10000, 1, 0x4, 0x0, 0x0, 0x1, 0x0, 0x0, false⟩,  -- SFN_CTRL
  ⟨0x400C0004, 1, 0x10000, 1, 0x4, 0x100000, 0x0, 0xFFFFFFFF, 0x0, 0x0, false⟩,  -- SFN_UCRATE
  ⟨0x400C0008, 1, 0x10000, 1, 0x4, 0xC350, 0x0, 0xFFFFFF, 0x0, 0x0, false⟩,  -- SFN_UCDIST
  ⟨0x400C000C, 1, 0x10000, 1, 0x4, 0x0, 0x0, 0x0, 0x1F, 0x0, false⟩,  -- SFN_EVT
  ⟨0x400C0010, 1, 0x10000, 1, 0x4, 0x0, 0x0, 0x0, 0x0, 0x0, false⟩,  -- SFN_TRIP
  ⟨0x400C0100, 12, 0x100, 1, 0x4, 0x0, 0x0, 0xFFFFFFF, 0x0, 0x0, false⟩,  -- SFN_ACFGa
  ⟨0x400C0104, 12, 0x100, 1, 0x4, 0x0, 0x0, 0x0, 0x8F, 0x0, false⟩,  -- SFN_ASTATa
  ⟨0x400C0108, 12, 0x100, 1, 0x4, 0x80000000, 0x0, 0xFFFFFFFF, 0x0, 0x0, false⟩,  -- SFN_PMINa
  ⟨0x400C010C, 12, 0x100, 1, 0x4, 0x7FFFFFFF, 0x0, 0xFFFFFFFF, 0x0, 0x0, false⟩,  -- SFN_PMAXa
  ⟨0x400C0110, 12, 0x100, 1, 0x4, 0x7FFFFFFF, 0x0, 0xFFFFFFFF, 0x0, 0x0, false⟩,  -- SFN_RMAXa
  ⟨0x400C0114, 12, 0x100, 1, 0x4, 0x3E8, 0x0, 0xFFFF, 0x0, 0x0, false⟩,  -- SFN_ACSTa
  ⟨0x400C0118, 12, 0x100, 1, 0x4, 0x0, 0x0, 0x0, 0x0, 0x0, false⟩,  -- SFN_AVALa
  ⟨0x400C011C, 12, 0x100, 1, 0x4, 0x0, 0x0, 0x0, 0x0, 0x0, false⟩,  -- SFN_ALIMa
  ⟨0x400C0120, 12, 0x100, 8, 0x4, 0x0, 0x0, 0xFFFFFFFF, 0x0, 0x0, false⟩,  -- SFN_ESPDk_a
  ⟨0x400C0140, 12, 0x100, 8, 0x4, 0x0, 0x0, 0xFFFFFFFF, 0x0, 0x0, false⟩,  -- SFN_EANGk_a
  ⟨0x400C0160, 12, 0x100, 8, 0x4, 0x0, 0x0, 0xFFFFFFFF, 0x0, 0x0, false⟩,  -- SFN_ERATEk_a
  ⟨0x40020400, 1, 0x10000, 1, 0x4, 0x21E08AE, 0x0, 0xFFFFFFF, 0x0, 0x0, false⟩,  -- FIX_DGCFG
  ⟨0x40020404, 1, 0x10000, 1, 0x4, 0x0, 0x0, 0xFFF, 0x0, 0x0, false⟩,  -- FIX_DGBRK
  ⟨0x40020408, 1, 0x10000, 1, 0x4, 0x0, 0x0, 0xF1FFFF, 0x0, 0x0, false⟩,  -- FIX_DGPROF
  ⟨0x4002040C, 1, 0x10000, 1, 0x4, 0x20000000, 0x0, 0xFFFFFFFF, 0x0, 0x0, false⟩,  -- FIX_DGHOLD
  ⟨0x40020410, 1, 0x10000, 1, 0x4, 0x0, 0x0, 0x0, 0x0, 0x0, false⟩,  -- FIX_DGSTAT
  ⟨0x40020414, 1, 0x10000, 1, 0x4, 0x0, 0x0, 0x0, 0x1FF, 0x0, false⟩,  -- FIX_DGEVT
  ⟨0x40020418, 1, 0x10000, 1, 0x4, 0x0, 0x0, 0x0, 0x0, 0x0, false⟩,  -- FIX_SDRES
  ⟨0x4002041C, 1, 0x10000, 1, 0x4, 0x0, 0x0, 0x0, 0x0, 0x0, false⟩,  -- FIX_LOSTAT
  ⟨0x40020420, 1, 0x10000, 1, 0x4, 0x0, 0x0, 0x0, 0x0, 0x0, false⟩,  -- FIX_LOBALL
  ⟨0x40020424, 1, 0x10000, 1, 0x4, 0x0, 0x0, 0x0, 0x0, 0x0, false⟩,  -- FIX_FLTLAST
  ⟨0x40020428, 1, 0x10000, 1, 0x4, 0x0, 0x0, 0x0, 0x0, 0xFFFF, false⟩,  -- FIX_FLTCNT
  ⟨0x400D0000, 1, 0x10000, 1, 0x4, 0x0, 0x0, 0x0, 0x0, 0x0, false⟩,  -- PWR_STAT
  ⟨0x400D0004, 1, 0x10000, 1, 0x4, 0x0, 0x0, 0x0, 0x0, 0x0, false⟩,  -- PWR_MODE
  ⟨0x400D0008, 1, 0x10000, 1, 0x4, 0x0, 0x0, 0x0, 0x0, 0x0, true⟩,  -- PWR_MODEREQ
  ⟨0x400D000C, 1, 0x10000, 1, 0x4, 0x0, 0x0, 0x0, 0x7F, 0x0, false⟩,  -- PWR_EVT
  ⟨0x400D0010, 1, 0x10000, 1, 0x4, 0x0, 0x0, 0x0, 0x0, 0x0, false⟩,  -- PWR_DOM
  ⟨0x400D0014, 1, 0x10000, 1, 0x4, 0x550, 0x0, 0xFFFF, 0x0, 0x0, false⟩,  -- PWR_NVMG
  ⟨0x400D0018, 1, 0x10000, 1, 0x4, 0x0, 0x0, 0x0, 0x0, 0x0, false⟩,  -- PWR_NVMST
  ⟨0x400D001C, 1, 0x10000, 1, 0x4, 0x0, 0x0, 0x0, 0x0, 0x0, false⟩,  -- PWR_FEED
  ⟨0x400D0020, 1, 0x10000, 1, 0x4, 0x1, 0xFF, 0x0, 0x0, 0x0, false⟩,  -- PWR_WAKECFG
  ⟨0x400D0024, 1, 0x10000, 1, 0x4, 0x0, 0x0, 0x0, 0x0, 0x0, false⟩  -- PWR_WAKESRC
  ]

/-- Rows of the access table, in the order of the spec's tables. -/
def regRows9 : List RegRow := [
  ⟨0x400D0028, 1, 0x10000, 1, 0x4, 0x0, 0x3F, 0x0, 0x0, 0x0, false⟩,  -- PWR_WUFCFG
  ⟨0x400D002C, 1, 0x10000, 1, 0x4, 0x0, 0x1FFFFFFF, 0x0, 0x0, 0x0, false⟩,  -- PWR_WUFID
  ⟨0x400D0030, 1, 0x10000, 1, 0x4, 0x0, 0x1FFFFFFF, 0x0, 0x0, 0x0, false⟩,  -- PWR_WUFMASK
  ⟨0x400D0034, 1, 0x10000, 1, 0x4, 0x0, 0xFFFFFFFF, 0x0, 0x0, 0x0, false⟩,  -- PWR_WUFDAT0
  ⟨0x400D0038, 1, 0x10000, 1, 0x4, 0x0, 0xFFFFFFFF, 0x0, 0x0, 0x0, false⟩,  -- PWR_WUFDAT1
  ⟨0x400D0040, 1, 0x10000, 1, 0x4, 0x0, 0x3F, 0x0, 0x0, 0x0, false⟩,  -- PWR_SLPHOLD
  ⟨0x400D0044, 1, 0x10000, 1, 0x4, 0x0, 0x0, 0x0, 0x0, 0x0, false⟩,  -- PWR_SLPST
  ⟨0x400D0050, 1, 0x10000, 1, 0x4, 0x0, 0x0, 0x0, 0x0, 0x0, false⟩,  -- PWR_SSLB
  ⟨0x400D0054, 1, 0x10000, 1, 0x4, 0x0, 0x0, 0x0, 0x0, 0x0, false⟩,  -- PWR_SSMB
  ⟨0x400D0058, 1, 0x10000, 1, 0x4, 0x0, 0x0, 0x0, 0x0, 0x0, false⟩,  -- PWR_SSBANK
  ⟨0x400D005C, 1, 0x10000, 1, 0x4, 0x0, 0x0, 0x0, 0x0, 0x0, false⟩,  -- PWR_SSREP
  ⟨0x400D0060, 1, 0x10000, 1, 0x4, 0x0, 0x0, 0x0, 0x0, 0x0, false⟩,  -- PWR_BOOTT
  ⟨0x40110000, 1, 0x10000, 1, 0x4, 0x0, 0x0, 0x0, 0x0, 0x0, false⟩,  -- IMG_STAT
  ⟨0x40110004, 1, 0x10000, 1, 0x4, 0x0, 0x0, 0x0, 0x0, 0x0, false⟩,  -- IMG_GEN
  ⟨0x40110008, 1, 0x10000, 1, 0x4, 0x0, 0x0, 0x0, 0x0, 0x0, false⟩,  -- IMG_FLAGS
  ⟨0x4011000C, 1, 0x10000, 1, 0x4, 0x0, 0x0, 0x0, 0x0, 0x0, false⟩,  -- IMG_DIG0
  ⟨0x40110010, 1, 0x10000, 1, 0x4, 0x0, 0x0, 0x0, 0x0, 0x0, false⟩,  -- IMG_DIG1
  ⟨0x40110014, 1, 0x10000, 1, 0x4, 0x0, 0x0, 0x0, 0x0, 0x0, false⟩,  -- IMG_RLCNT
  ⟨0x40110018, 1, 0x10000, 1, 0x4, 0x0, 0x0, 0x0, 0x2, 0x0, false⟩,  -- IMG_LOCK_STAT
  ⟨0x4011001C, 1, 0x10000, 1, 0x4, 0x0, 0x0, 0x0, 0x0, 0x0, false⟩,  -- IMG_LOCK_ADDR
  ⟨0x40110020, 1, 0x10000, 1, 0x4, 0x0, 0x0, 0x0, 0x0, 0x0, false⟩,  -- IMG_CRCCODE
  ⟨0x40110024, 1, 0x10000, 1, 0x4, 0x0, 0x0, 0x0, 0x0, 0x0, false⟩,  -- IMG_CRCPM
  ⟨0x40110028, 1, 0x10000, 1, 0x4, 0x0, 0x0, 0x0, 0x0, 0x0, false⟩,  -- IMG_KEY
  ⟨0x4011002C, 1, 0x10000, 1, 0x4, 0x0, 0x0, 0x0, 0x0, 0x0, false⟩,  -- IMG_SLOTREC
  ⟨0x400F0000, 1, 0x10000, 1, 0x4, 0x0, 0x1, 0x0, 0x0, 0x0, false⟩,  -- BMB_CTRL
  ⟨0x400F0004, 1, 0x10000, 1, 0x4, 0x0, 0x0, 0x0, 0x1E, 0x0, false⟩,  -- BMB_STAT
  ⟨0x400F0008, 1, 0x10000, 1, 0x4, 0x0, 0x0, 0x0, 0x0, 0x0, true⟩,  -- BMB_OUTCTL
  ⟨0x400F000C, 1, 0x10000, 1, 0x4, 0x0, 0x0, 0x0, 0x0, 0x0, true⟩,  -- BMB_INCTL
  ⟨0x400F0010, 1, 0x10000, 1, 0x4, 0x0, 0x0, 0x0, 0x0, 0x0, true⟩,  -- BMB_KEYREV
  ⟨0x400F0014, 1, 0x10000, 1, 0x4, 0x0, 0x0, 0x0, 0x0, 0xFFFFFFFF, false⟩,  -- BMB_CNT
  ⟨0x400F0020, 8, 0x4, 1, 0x4, 0x0, 0xFFFFFFFF, 0x0, 0x0, 0x0, false⟩,  -- BMB_OUTk
  ⟨0x400F0040, 8, 0x4, 1, 0x4, 0x0, 0x0, 0x0, 0x0, 0x0, false⟩,  -- BMB_INk
  ⟨0x400F0400, 256, 0x4, 1, 0x4, 0x0, 0x0, 0x0, 0x0, 0x0, false⟩,  -- BMB_INBUFi
  ⟨0x400E0000, 1, 0x10000, 1, 0x4, 0x0, 0x5, 0x0, 0x0, 0x0, false⟩,  -- SND_CTRL
  ⟨0x400E0004, 1, 0x10000, 1, 0x4, 0x0, 0xFFFFF000, 0x0, 0x0, 0x0, false⟩,  -- SND_REQ
  ⟨0x400E0008, 1, 0x10000, 1, 0x4, 0x0, 0x0, 0x0, 0x1F8, 0x0, false⟩,  -- SND_STAT
  ⟨0x400E000C, 1, 0x10000, 1, 0x4, 0x0, 0x0, 0x0, 0x0, 0x0, false⟩,  -- SND_FADDR
  ⟨0x400E0010, 1, 0x10000, 1, 0x4, 0x0, 0x0, 0x0, 0x0, 0x0, false⟩,  -- SND_FBIT
  ⟨0x400E0014, 1, 0x10000, 1, 0x4, 0x0, 0x0, 0x0, 0x0, 0x0, false⟩,  -- SND_REP
  ⟨0x400E0018, 1, 0x10000, 1, 0x4, 0x0, 0x0, 0x0, 0x0, 0x0, false⟩  -- SND_TIME
  ]

/-- Rows of the access table, in the order of the spec's tables. -/
def regRows10 : List RegRow := [
  ⟨0x400E001C, 1, 0x10000, 1, 0x4, 0x0, 0x0, 0x0, 0x0, 0xFFFFFFFF, false⟩,  -- SND_CNT
  ⟨0x40058128, 4, 0x100, 1, 0x4, 0x0, 0x0, 0x0, 0x0, 0x0, false⟩,  -- DLK_DMODEn
  ⟨0x40098000, 1, 0x10000, 1, 0x4, 0x0, 0x1, 0x0, 0x0, 0x0, false⟩,  -- SVC_CTRL
  ⟨0x40098004, 1, 0x10000, 1, 0x4, 0x3, 0x0, 0x7, 0x0, 0x0, false⟩,  -- SVC_CFG
  ⟨0x40098018, 1, 0x10000, 1, 0x4, 0x0, 0x0, 0x0, 0xFF, 0x0, false⟩,  -- SVC_EVT
  ⟨0x4009801C, 1, 0x10000, 1, 0x4, 0x0, 0x0, 0x0, 0x0, 0x0, false⟩,  -- SVC_ERR
  ⟨0x40098100, 8, 0x10, 1, 0x4, 0x0, 0x3FFFFFFF, 0x0, 0x0, 0x0, false⟩,  -- SVC_TXIDk
  ⟨0x40098104, 8, 0x10, 1, 0x4, 0x0, 0xF, 0x0, 0xC00, 0x0, false⟩,  -- SVC_TXCTk
  ⟨0x40098108, 8, 0x10, 1, 0x4, 0x0, 0xFFFFFFFF, 0x0, 0x0, 0x0, false⟩,  -- SVC_TXD0k
  ⟨0x4009810C, 8, 0x10, 1, 0x4, 0x0, 0xFFFFFFFF, 0x0, 0x0, 0x0, false⟩,  -- SVC_TXD1k
  ⟨0x40098400, 16, 0x20, 1, 0x4, 0x0, 0x0, 0xFFFFFFFF, 0x0, 0x0, false⟩,  -- SVC_RXFk
  ⟨0x40098404, 16, 0x20, 1, 0x4, 0x0, 0x0, 0x1FFFFFFF, 0x0, 0x0, false⟩,  -- SVC_RXMk
  ⟨0x40098408, 16, 0x20, 1, 0x4, 0x0, 0x0, 0x0, 0x300, 0x0, false⟩,  -- SVC_RXSk
  ⟨0x4009840C, 16, 0x20, 1, 0x4, 0x0, 0x0, 0x0, 0x0, 0x0, false⟩,  -- SVC_RXTk
  ⟨0x40098410, 16, 0x20, 1, 0x4, 0x0, 0x0, 0x0, 0x0, 0x0, false⟩,  -- SVC_RXD0k
  ⟨0x40098414, 16, 0x20, 1, 0x4, 0x0, 0x0, 0x0, 0x0, 0x0, false⟩  -- SVC_RXD1k
  ]

/-- The whole access table. -/
def regRows : List RegRow := regRows0 ++ regRows1 ++ regRows2 ++ regRows3 ++ regRows4 ++ regRows5 ++ regRows6 ++ regRows7 ++ regRows8 ++ regRows9 ++ regRows10

/-- The capability list at 0x100 to 0x4FC of LANE_ID (R40): read-only words. -/
def inCapList (a : Nat) : Bool := decide (0x40000100 ≤ a) && decide (a ≤ 0x400004FC) && decide (a % 4 = 0)

/-- The row that lists an address, if one does (R15). -/
def regRow (a : Nat) : Option RegRow :=
  if inCapList a then some ⟨0x40000100, 1, 0x10000, 256, 4, 0, 0, 0, 0, 0, false⟩ else regRows.find? (·.covers a)

end Sys2Proof.Machine
end

