-- ==== Sys2Proof/Machine/Datapath.lean ====
section
/-! DEFINITION. The arithmetic of the control engine (R152 to R157, R160, R166 to R168): block floating-point vectors,
accumulators and the row bank, each operation once. A result is computed exactly in the integers and narrowed at the end. -/

namespace Sys2Proof.Machine

/-- A vector register (R9, R152): 16 mantissas, of which the store lists those that are not 0, and an exponent. -/
structure Vec where
  m : Tab Word
  e : Int
  deriving DecidableEq, Repr, Inhabited

/-- An accumulator (R152): a 72-bit integer and its exponent AE. -/
structure Acc where
  a : Int
  e : Int
  deriving DecidableEq, Repr, Inhabited

/-- The row bank of a level (R152, R167): the rows, REXP and RROWS. -/
structure RowBank where
  rows : Tab Int
  rexp : Int
  rrows : Nat
  deriving DecidableEq, Repr, Inhabited

/-- Mantissa `i` as a two's-complement integer. -/
def Vec.el (v : Vec) (i : Nat) : Int := (v.m.at i).toInt

/-- A vector from its mantissas. -/
def Vec.of (f : Nat → Word) (e : Int) : Vec := ⟨(List.range 16).foldl (fun t i => t.set i (f i)) [], e⟩

/-- One mantissa replaced. -/
def Vec.setEl (v : Vec) (i : Nat) (w : Word) : Vec := { v with m := v.m.set i w }

/-- Whether an integer fits in Q1.31. -/
def fits32 (n : Int) : Bool := decide (-2147483648 ≤ n) && decide (n ≤ 2147483647)

/-- `n × 2^k`, rounded half to even where `k` is negative (R153). -/
def scaleI (n : Int) (k : Int) : Int := if k < 0 then rneShift n k.natAbs else n * 2 ^ k.natAbs

/-- A narrowing to 32 bits (R154): with `sat` it saturates, else it keeps the low bits. The Bools are SATF and WRAPF. -/
def narrow32 (sat : Bool) (n : Int) : Word × Bool × Bool :=
  if fits32 n then (wInt n, false, false)
  else if sat then (wInt (satI 32 n), true, false) else (wInt n, false, true)

/-- A vector result: the values shifted right by `sh` are its mantissas at exponent `e`. The exponent is brought into its range (R155),
each value is rounded once (R153) and saturated; the Bool is SATF. -/
def finishVec (f : Nat → Int) (sh e : Int) : Vec × Bool :=
  let ec := clampI (-128) 127 e
  let g : Nat → Int := fun i => scaleI (f i) (e - ec - sh)
  (Vec.of (fun i => wInt (satI 32 (g i))) ec, !((List.range 16).all fun i => fits32 (g i)))

/-- Mantissa `i` aligned to an exponent not below the vector's (R153). -/
def Vec.alignedEl (v : Vec) (e : Int) (i : Nat) : Int := scaleI (v.el i) (v.e - e)

/-- VADD and VSUB (R156). -/
def vecSum (sub : Bool) (x y : Vec) : Vec × Bool :=
  let e := max x.e y.e
  let f : Nat → Int := fun i => if sub then x.alignedEl e i - y.alignedEl e i else x.alignedEl e i + y.alignedEl e i
  if (List.range 16).all fun i => fits32 (f i) then finishVec f 0 e
  else finishVec f 1 (e + 1)

/-- VMUL (R160): element products, exponent Es + Et, always saturating. -/
def vecMul (x y : Vec) : Vec × Bool := finishVec (fun i => x.el i * y.el i) 31 (x.e + y.e)

/-- A 72-bit accumulation (R160): the sum and whether it saturated. -/
def acc72 (n : Int) : Int × Bool := (satI 72 n, !decide (satI 72 n = n))

/-- Products at exponent `p` added to an accumulator; with `acc` at 0 the accumulator is replaced (R160). -/
def accSum (acc : Bool) (prods : List Int) (p : Int) (old : Acc) : Acc × Bool :=
  if acc then
    let r := acc72 (prods.foldl (fun t x => t + scaleI x (p - old.e)) old.a)
    (⟨r.1, old.e⟩, r.2)
  else
    let r := acc72 (prods.foldl (fun t x => t + x) 0)
    (⟨r.1, p⟩, r.2)

/-- The 16 element products of VDOT. -/
def dotProds (x y : Vec) : List Int := (List.range 16).map fun i => x.el i * y.el i

/-- ST (R160): an accumulator narrowed to exponent `e`. -/
def accNarrow (sat : Bool) (a : Acc) (e : Int) : Word × Bool × Bool := narrow32 sat (scaleI a.a (a.e - e - 31))

/-- The redundant sign bits of a mantissa (R157). -/
def signBits (n : Int) : Nat :=
  let m := if n < 0 then (-n - 1).natAbs else n.natAbs
  31 - (if m = 0 then 0 else m.log2 + 1)

/-- NORM (R157): the fewest redundant sign bits over the elements; 31 for an all-zero vector. -/
def vecNorm (v : Vec) : Nat := (List.range 16).foldl (fun t i => min t (signBits (v.el i))) 31

/-- EXPX (R157). -/
def vecExpx (v : Vec) : Int := v.e - vecNorm v

/-- SHV (R160): a left shift by `k`, clamped to −32 to +31, the exponent lowered by it. -/
def vecShift (v : Vec) (k : Int) : Vec × Bool :=
  finishVec v.el (-clampI (-32) 31 k) (v.e - clampI (-32) 31 k)

/-- Whether `|a| × 2^ea` is above `|b| × 2^eb`. -/
def absAbove (a : Int) (ea : Int) (b : Int) (eb : Int) : Bool :=
  decide ((a.natAbs : Int) * 2 ^ (ea - min ea eb).natAbs > (b.natAbs : Int) * 2 ^ (eb - min ea eb).natAbs)

/-- VLIM (R160): each element of `x` limited to ±|y|, with the clamp mask SATM. -/
def vecLim (x y : Vec) : Vec × Nat :=
  (Vec.of (fun i => if absAbove (x.el i) x.e (y.el i) y.e then
        wInt (satI 32 (if x.el i < 0 then -(scaleI (y.el i).natAbs (y.e - x.e)) else scaleI (y.el i).natAbs (y.e - x.e)))
      else wInt (x.el i)) x.e,
   (List.range 16).foldl (fun t i => t + b2n (absAbove (x.el i) x.e (y.el i) y.e) * 2 ^ i) 0)

/-- VSEL (R160): element `i` from `y` where mask bit `i` is 1, else from `x`, at the larger exponent. -/
def vecSel (x y : Vec) (mask : Nat) : Vec :=
  let e := max x.e y.e
  Vec.of (fun i => wInt (if mask.testBit i then y.alignedEl e i else x.alignedEl e i)) e

/-- CMP (R160): N and Z from the real values. -/
def cmpReal (a : Int) (ea : Int) (b : Int) (eb : Int) : Bool × Bool :=
  let x := a * 2 ^ (ea - min ea eb).natAbs
  let y := b * 2 ^ (eb - min ea eb).natAbs
  (decide (x < y), decide (x = y))

/-- The fields of a MATVEC descriptor word (R166): exponent, rows and columns. -/
def matExp (w : Word) : Int := sext 8 w.toNat
def matRows (w : Word) : Nat := (w.toNat >>> 8) % 32
def matCols (w : Word) : Nat := (w.toNat >>> 16) % 32
/-- Whether a descriptor is legal (R166). -/
def matLegal (w : Word) : Bool :=
  decide (1 ≤ matRows w ∧ matRows w ≤ 16 ∧ 1 ≤ matCols w ∧ matCols w ≤ 16) &&
    decide (w.toNat = w.toNat % 256 + matRows w * 256 + matCols w * 65536)

/-- The row bank after a MATVEC of `r` rows with row sums given as product lists at exponent `p` (R167). The Bool is
SATF. -/
def rowLand (acc : Bool) (r : Nat) (prods : Nat → List Int) (p : Int) (b : RowBank) : RowBank × Bool :=
  let row : Nat → Int × Bool := fun i =>
    if acc then acc72 ((prods i).foldl (fun t x => t + scaleI x (p - b.rexp)) (b.rows.at i))
    else acc72 ((prods i).foldl (fun t x => t + x) 0)
  (⟨(List.range r).foldl (fun t i => t.set i (row i).1) (if acc then b.rows else []),
    if acc then b.rexp else p, if acc then max b.rrows r else r⟩,
   (List.range r).any fun i => (row i).2)

/-- A row at exponent `e` before narrowing. -/
def RowBank.at (b : RowBank) (e : Int) (i : Nat) : Int :=
  if i < b.rrows then scaleI (b.rows.at i) (b.rexp - e - 31) else 0

/-- The smallest exponent from −128 up at which every row fits in Q1.31 (R168), at most 127 (R155). -/
def RowBank.fitExp (b : RowBank) : Int :=
  match (List.range 255).find? (fun k => (List.range 16).all fun i => fits32 (b.at ((k : Int) - 128) i)) with
  | some k => (k : Int) - 128
  | none => 127

/-- MVST (R168): with `fixed` the exponent is given and the rows are narrowed under R154, else it is the fitting one. The
Bools are SATF and WRAPF. -/
def rowNarrow (b : RowBank) (fixed : Option Int) (sat : Bool) : Vec × Bool × Bool :=
  match fixed with
  | some e => (Vec.of (fun i => (narrow32 sat (b.at e i)).1) e,
      (List.range 16).any fun i => (narrow32 sat (b.at e i)).2.1, (List.range 16).any fun i => (narrow32 sat (b.at e i)).2.2)
  | none => let r := finishVec (b.at b.fitExp) 0 b.fitExp; (r.1, r.2, false)

end Sys2Proof.Machine
end

