-- ==== Sys2Proof/Machine/Types.lean ====
section
/-! DEFINITION. The plain data types that State is built of: what the spec describes beside the registers of the map, such
as an engine instance, an axis's sample count, a posted decision, a link packet, a queued record. A register's value is not
repeated here. -/

namespace Sys2Proof.Machine

/-! ### Reckoners and waypoints -/

/-- What a waypoint holds beside its registers (R62, R66, R73): the direction taken at arming, the tick of its last firing
plus 1 (0: none), and whether a backward step of reckoner 13 has taken d round to the reached side, which is no crossing. -/
structure Wp where
  back : Bool
  firedAt : Nat
  skip : Bool
  deriving DecidableEq, Repr, Inhabited

/-! ### The engine -/

/-- The event a WAIT waits for (R178). -/
inductive WaitEv where
  | seqDone (q : Nat)
  | wpFire (w : Nat)
  | elapsed (t : Nat)
  deriving DecidableEq, Repr, Inhabited

/-- An instance that has been triggered and has not ended (R175 to R178): its task, level, trigger tick, next address, status word,
whether it has begun, what it waits for, the delay slots to come with the target of the jump, whether it has issued an OUT,
whether an LPST of it awaits its LPLD, and whether it is a sample and of which axis. -/
structure Inst where
  task : Nat
  level : Nat
  trig : Nat
  pc : Nat
  status : Word
  begun : Bool
  wait : Option WaitEv
  slots : Nat
  target : Option Nat
  outDone : Bool
  saved : Bool
  sample : Bool
  axis : Nat
  deriving DecidableEq, Repr, Inhabited

/-- What an issued instruction writes when its result lands (R162). -/
inductive LandEff where
  | vec (d : Nat) (v : Vec)
  | el (d i : Nat) (w : Word)
  | exp (d : Nat) (e : Int)
  | acc (d : Nat) (add : Bool) (prods : List Int) (p : Int)
  | stat (set clr : Word)
  | memw (addr place : Nat) (w : Word)
  | loop (l : Nat) (pc pa : Word)
  | matRead (id row first : Nat) (places : List Nat) (src : Vec)
  | matLand (id rows : Nat) (add : Bool) (p : Int)
  deriving DecidableEq, Repr

/-- A result in flight: the engine cycle at which it lands, and the level, task and trigger of the instance that issued
it. -/
structure Landing where
  cyc : Nat
  level : Nat
  task : Nat
  trig : Nat
  eff : LandEff
  deriving DecidableEq, Repr

/-- The control engine (R149 to R151, R160 to R180): the instances, the running task, the next issue cycle, the cycle from
which the MAC array is free, the banks of the four levels (register `r` of level `l` at 16 × l + r, accumulator `a` at
8 × l + a), the results in flight, the products of the MATVECs in flight, the number of MATVECs issued, the tick plus 1 of the last completion of each measurement
sequence, whether RKN_FAULT.TASK has been recorded since DLF was cleared, whether EN has been cleared since
ACTIVE was set, and the words of coefficient RAM that the lane processor has written in this tick, each as its place, the cycle of the write and
the word before it (R159). -/
structure Eng where
  insts : List Inst
  run : Option Nat
  next : Nat
  macFree : Nat
  vr : Tab Vec
  ac : Tab Acc
  rb : Tab RowBank
  land : List Landing
  mprod : Tab (List Int)
  mats : Nat
  seqAt : Tab Nat
  recd : Bool
  closing : Bool
  before : List (Nat × Nat × Word)
  deriving DecidableEq, Repr, Inhabited

/-! ### Axes -/

/-- A re-centring offset waiting for its sample (R103, R104): a word to which an offset is added, saturating or modulo
2^32; for `scaled`, the offset is given at exponent `emax` and shifted to that of the exponent word at `expAddr`. -/
structure Ofs where
  addr : Nat
  add : Int
  wrap : Bool
  scaled : Bool
  emax : Int
  expAddr : Nat
  deriving DecidableEq, Repr, Inhabited

/-- The first sample after a checkpoint (R108): its number, the checkpoint, and the offsets due on it (R103). -/
structure AxDue where
  at_ : Nat
  ck : Nat
  ofs : List Ofs
  deriving DecidableEq, Repr, Inhabited

/-- An axis of a lane beside its registers (R55, R95, R108, R202 to R205, R216, R220, R223): the number of the last sample
started and of the last completed, the start ticks of the last two samples, how many have started and ended since activation,
whether it has passed its check and waits, the period of its activation, the first samples still to come with what is due there, the
sample on which it last applied; the region copy in progress with the words copied, whether
it goes to the active view, the region whose copy waits for a swap, whether no copy ran at the last capture, the region whose
swap is pending, the one whose swap is due on a first sample with the checkpoint that made it due, the checkpoint of a software swap; the
changes of the curve that are due, each with its checkpoint; whether a command of the session has been applied since its entry into RUN and carried the word; the word an IN of class 0x06
returns, the one before it and the tick of the change; the probes of the logbook, the triggers waiting for a record, the value of the threshold
probe in the previous record, the records still to follow the trigger, the tick plus 1 at which EN was cleared during a record,
the tick plus 1 of the last capture's end; whether the last sample swapped, and whether a disable waits for the end of a sample. -/
structure Ax where
  started : Nat
  done : Nat
  lastStart : Nat
  prevStart : Nat
  nStarted : Nat
  nDone : Nat
  waiting : Bool
  actSample : Option Nat
  due : List AxDue
  applied : Nat
  copy : Option Nat
  copyPos : Nat
  copyInit : Bool
  copyNext : Option Nat
  copyOk : Bool
  pend : Option Nat
  swapReady : Option (Nat × Nat)
  swSwap : Option Nat
  curveDue : List (Nat × Bool)
  cmdOk : Bool
  inVal : Word
  inOld : Word
  inAt : Nat
  probes : Tab Word
  lbTrig : Nat
  lbPrev : Option Word
  lbLeft : Nat
  lbClosing : Nat
  lbDoneAt : Nat
  swapped : Bool
  disabling : Bool
  deriving DecidableEq, Repr, Inhabited

/-! ### Checkpoints and decisions -/

/-- A posted decision word (R112 to R114): how many checkpoints it has stayed posted alone, and the interval of the post, by the number of
the capture that ends it. -/
structure Post where
  word : Word
  age : Nat
  ck : Nat
  deriving DecidableEq, Repr, Inhabited

/-- One axis's record of a capture (R95): S and the interval of its last two samples; absent axes carry 0. -/
structure AxCap where
  present : Bool
  s : Nat
  t : Nat
  deriving DecidableEq, Repr, Inhabited

/-! ### Driver links and driver dies -/

/-- A link packet (R296): the sending lane, the resource on the die (none for a die packet, 0 and 1 its bridges, 2 to 4 its
valve channels), the period or die tick it is for, its flags, and what its type carries. -/
structure Pkt where
  lane : Nat
  res : Option Nat
  seq : Nat
  en : Bool
  stop : Bool
  excl : Nat
  offreq : Bool
  split : Bool
  lock : Bool
  plen : Nat
  edges : List Nat
  iset : Nat
  soon : Nat
  clr : Nat
  cfgIdx : Nat
  cfgVal : Word
  deriving DecidableEq, Repr, Inhabited

/-- A schedule: the period length and the edges R_U, F_U, R_V, F_V, R_W, F_W, in 625 ps units (R13, R287). -/
structure Sched where
  plen : Nat
  edges : List Nat
  deriving DecidableEq, Repr, Inhabited

/-- What a die holds for every bridge and valve channel (R117 to R122, R295): the number of the period in progress, the last
valid packet of each lane for the coming vote, whether a vote has reached agreement since link bring-up, the consecutive
periods without agreement, whether the hold has run out and whether the resource was switched off for it, the flags voted
for the next period, those in force in this one, and the count of stop events; `vdone` says that the vote for the next period has
taken place. -/
structure DRes where
  seq : Nat
  vdone : Bool
  slots : Tab Pkt
  agreed : Bool
  noagr : Nat
  holdDue : Bool
  heldOff : Bool
  en : Bool
  stop : Bool
  offreq : Bool
  curEn : Bool
  curStop : Bool
  curOffreq : Bool
  stopCnt : Nat
  deriving DecidableEq, Repr, Inhabited

/-- The gates of a leg (R305, R309): which switch is on or turning on, the dead time that runs before it conducts, the side that
waits for the opposite gate to fall, and in a refresh the time in the period at which the high side is commanded off and the time
for which the low side then stays on. -/
structure LegGate where
  side : Option Side
  dead : Nat
  wait : Option Side
  off : Nat
  hold : Nat
  deriving DecidableEq, Repr, Inhabited

/-- A bridge at its die (R302 to R317): its voting state, the length of the period in progress, the last voted schedule, the
shaped edges of the coming period and of this one, the carries and those of this period, the held-high counts, the loss of the last refresh, the
legs held high, refreshed and waiting for their bootstrap, whether it switches and since how many periods, or has its low sides on (R295), its latch and
whether the latch begins with the next period, whether a low bootstrap is among its causes (R320), the legs turned off and those held low (R312, R313), the protection events and the legs and class of the
first short since the last report cleared, the last short by period, time and legs, the gates, the refreshes to report, and whether a
pulse is suppressed in this period and in the next. -/
structure DBr where
  r : DRes
  plen : Nat
  voted : Sched
  next : List (Nat × Nat)
  cur : List (Nat × Nat)
  carry : Tab Int
  carryCur : Tab Int
  hh : Tab Nat
  rloss : Tab Int
  hhMask : Nat
  refrMask : Nat
  bstMask : Nat
  switching : Bool
  lows : Bool
  since : Nat
  latched : Bool
  latchNext : Bool
  lowBst : Bool
  legsOff : Nat
  legsLow : Nat
  evt : Nat
  legs : Nat
  cls : Nat
  shortAt : Option (Nat × Nat × Nat)
  gates : Tab LegGate
  refreshes : Nat
  supp : Bool
  suppNext : Bool
  deriving DecidableEq, Repr, Inhabited

/-- A valve channel at its die (R323 to R326, R330): its voting state, the voted set-point and that of this period, the regulator's sum, the duties
of this period and the last, the mean current, the dither phase in periods, the latch and flags, the run lengths of its
slow faults, and whether the low side is off for the rest of the period. -/
structure DVl where
  r : DRes
  iset : Nat
  isetCur : Nat
  sum : Int
  duty : Nat
  dutyPrev : Nat
  imeas : Nat
  dith : Int
  phase : Nat
  switching : Bool
  latched : Bool
  flags : Nat
  openCnt : Nat
  ovcCnt : Nat
  ovcNow : Bool
  devCnt : Nat
  lsOff : Bool
  deriving DecidableEq, Repr, Inhabited

/-- A safety output at its die (R327, R328): voted on, on, latched, flags, last off-pulse result, and whether switch 2 is
tested next. -/
structure DSo where
  son : Bool
  on : Bool
  latched : Bool
  flags : Nat
  opok : Bool
  sw2 : Bool
  deriving DecidableEq, Repr, Inhabited

/-- A trip input at its die (R318, R319): filtered level, latch, flags, and whether an active level waits for the end of a
blanking window. -/
structure DTr where
  level : Bool
  latch : Bool
  flags : Nat
  pend : Bool
  deriving DecidableEq, Repr, Inhabited

/-- A bridge report (R301). -/
structure BrRep where
  seq : Nat
  switching : Bool
  off : Bool
  latched : Bool
  hh : Nat
  refr : Nat
  bst : Nat
  carry : Tab Int
  evt : Nat
  legs : Nat
  cls : Nat
  cfg : List Word
  refreshes : Nat
  suppressed : Nat
  deriving DecidableEq, Repr, Inhabited

/-- A valve report (R301). -/
structure VlRep where
  imeas : Nat
  duty : Nat
  flags : Nat
  latched : Bool
  deriving DecidableEq, Repr, Inhabited

/-- A die report (R301, R527, R628). -/
structure DieRep where
  so : Tab DSo
  tr : Tab DTr
  brRef : Nat
  vlRef : Nat
  gdok : Bool
  sync : Bool
  locked : Bool
  flags : Nat
  opLast : Nat
  opPass : Bool
  fault : Bool
  offconf : Bool
  splithold : Bool
  links : Tab Nat
  dmode : Nat
  lanes : Nat
  latch : Nat
  silent : Nat
  chkmis : Bool
  seq : Nat
  deriving DecidableEq, Repr, Inhabited

/-- A vote report (R124, R148): missing, late and CRC-failed packets and outliers per lane, no agreement, the resources switched
off by a hold-off (a mask over their numbers in `Pkt.res`) and the lanes excluded. -/
structure VoteRep where
  miss : Nat
  late : Tab Nat
  crc : Tab Nat
  outl : Nat
  noagr : Bool
  holdoff : Nat
  excl : Nat
  deriving DecidableEq, Repr, Inhabited

/-- A record on a return link (R301); the resource is numbered as in `Pkt.res`. -/
inductive Ret where
  | mark (res : Nat) (seq : Nat)
  | bridge (res : Nat) (rep : BrRep)
  | valve (res : Nat) (rep : VlRep)
  | die (rep : DieRep)
  | vote (rep : VoteRep)
  deriving DecidableEq, Repr

/-! ### Edge scheduling and commutation in a lane -/

/-- What a commutation block gives the edge scheduler for the coming period (R239, R249, R253): whether its program's leg
values pass (RUN), whether the gates are driven at all, and the leg values it supplies, or in RUN adds to the program's. -/
structure McOut where
  run : Bool
  drive : Bool
  legs : List Int
  deriving DecidableEq, Repr, Inhabited

/-- A loaded schedule (R286): a period length, 0 until the first load, and three leg values. -/
structure Load where
  plen : Nat
  legs : List Word
  deriving DecidableEq, Repr, Inhabited

/-- A lane's edge scheduler beside its registers (R286, R290 to R299, R333, R335, R497). Resources are numbered bridge b: b,
valve channel v: 8 + v, die n: 20 + n. Held are the pending leg values (3 × b + leg) and period lengths (0: none commanded),
the loaded schedules, the lane's copy of each period start (R36), the number of the period and its length, the resources seen, the coming
periods for which a packet was sent with the length it carried, the valve set-points, the clear bits for the next die packet, the bridges that passed the check of R335, the stop bits of R236 and of the safety functions, the tick
of the last record from each die, the dies taken as silent, what the commutation blocks give, the tick of the last load plus
1, the outlier periods of the lanes in this checkpoint interval (R124), the outputs that wait for software after a halt or a join
(R138, R143; safety output s: 40 + s), the disables that wait for their boundary (R48), each as the register of its enable, a resource and the
last period without the enable, whether the split bit is sent (R134), and whether the lane gives up and the lanes it knows to have failed (R504). -/
structure Edg where
  legs : Tab Word
  plen : Tab Nat
  loaded : Tab Load
  pstart : Tab Nat
  pnum : Tab Nat
  lenNow : Tab Nat
  seen : Tab Bool
  sent : Tab (List (Nat × Nat))
  iset : Tab Nat
  clr : Tab Nat
  bok : Tab Bool
  stopMc : Tab Bool
  stopSf : Tab Bool
  lastRet : Tab Nat
  silent : Tab Bool
  ovr : Tab McOut
  ldTick : Nat
  outl : Tab Nat
  held : Tab Bool
  closing : List (Nat × Nat × Nat)
  split : Bool
  giveUp : Bool
  failed : Nat
  deriving DecidableEq, Repr, Inhabited

/-- A change of winding state that the lanes agree on (R232, R234, R252, R257): the state it leaves, the one it enters and whether
½ turn is added to the angle of ALIGN; or a change of INJON. -/
inductive McChange where
  | state (src dst : Nat) (flip : Bool)
  | injon (on : Bool)
  deriving DecidableEq, Repr

/-- A commutation block beside its registers (R230 to R276). When EN was set on an active axis: 1 before the next checkpoint, 2 after
it. The period that the state governs first and its length. The agreed changes due on the first sample after the checkpoint
and those posted in this state. The slots delivered in this pass. The sums and number of the offset samples. The injection
estimates of ALIGN by tick, its result and whether there is one. The largest currents of the polarity pulses. The tick of the first entry
into CATCH, the first period of the measurement, the first and last measured angle with their ticks, the number of samples, the sum of the
angle changes, the last amplitude squared (in thirds) and the bus voltage. The last two sin/cos angles of the sensor with their ticks.
The runs of bad amplitudes, cross-check failures, winding-check failures and lost samples; whether the sensor and the back-EMF
estimate are given up. The verification window: the period after its last one (0: not known yet), the angle at the last sample, the motion since its start, the sum of the q-axis
voltages. The angle held at a failed attempt and whether the retry follows a jerk. The periods in a row held off from outside. The samples of
the axis started in this period, the leg values of this period, whether the next is chopped, and the injection of the next.
Whether EN has been cleared since the block left OFF, the periods plus 1 of the last sampling instant and of the block's last sample, and
the tick plus 1 at which it last left RUN (R509). -/
structure Mc where
  armed : Nat
  govern : Nat
  plen : Nat
  due : List (Nat × McChange)
  posted : List McChange
  got : List Nat
  sumU : Int
  sumV : Int
  nOfs : Nat
  est : List (Nat × Word)
  thetaA : Word
  iPos : Option Int
  iNeg : Option Int
  catchAt : Nat
  mStart : Nat
  ang0At : Nat
  ang1 : Word
  ang1At : Nat
  nCatch : Nat
  angSum : Int
  amp2 : Int
  bus : Int
  sensAng : Word
  sensAt : Nat
  sensOld : Word
  sensOldAt : Nat
  ampBad : Nat
  xBad : Nat
  wBad : Nat
  lost : Nat
  sensF : Bool
  bemfBad : Bool
  verEnd : Nat
  verAng : Word
  verMove : Int
  verSum : Int
  failAng : Word
  jerk : Bool
  offPer : Nat
  nSamp : Nat
  legs : List Int
  chop : Bool
  inj : List Int
  closing : Bool
  smpFor : Nat
  sampAt : Nat
  ranAt : Nat
  deriving DecidableEq, Repr, Inhabited

/-! ### The mailbox -/

/-- A queued post (R579, R583): its KIND, its eight words, FIX_CNUM at the post, and whether it waited in the retained queue
(R572). -/
structure MPost where
  kind : Nat
  words : List Word
  cnum : Word
  held : Bool
  deriving DecidableEq, Repr, Inhabited

/-! ### Ports -/

/-- A port record (R410): the sending lane, the port (1 Helm Net, 2 ISOBUS, 3 service CAN, 4 Ethernet), its flags, the die tick
and start of a window in 625 ps units, its length and margin, the CAN header, the length of an Ethernet frame, and the
data. -/
structure PortRec where
  lane : Nat
  port : Nat
  noframe : Bool
  arb : Bool
  tick : Nat
  tag : Nat
  wstart : Nat
  wlen : Nat
  gm : Nat
  ident : Nat
  ide : Bool
  fdf : Bool
  brs : Bool
  dlc : Nat
  len : Nat
  data : List Byte
  deriving DecidableEq, Repr, Inhabited

/-- A voted Helm Net window at its port fix (R411, R433, R434): the voted frame with its start, and its progress: 0 voted,
1 waiting for the bus, 2 sending. -/
structure HWin where
  frame : PortRec
  st : Nat
  deriving DecidableEq, Repr, Inhabited

/-- A voted frame of a CAN port or an Ethernet path at its port fix (R411 to R413): whether it is being sent, and for Ethernet
why it is not sent (0 it is, 1 no agreement, 2 wrong FCS). -/
structure PFrame where
  frame : PortRec
  sending : Bool
  why : Nat
  deriving DecidableEq, Repr, Inhabited

/-- A driver die (R24, R117 to R136, R294 to R335, R496 to R499): powered, links trained, die-tick number and packets, its
bridges, valve channels, safety outputs and trip inputs, its copy of the configuration words and the values in force, the words voted since link
bring-up and those that have matched since the last that did not, each as a mask over the round, the lock, the event flags, the gate rail, the checker latch, exclusion, silence and degraded voting, the split hold, the
off-pulse test, the packets on the links to it, as words with the lane of their link, and the records on the links from it, and its port fix: the port records on
the links, those that wait for their vote, the voted windows and frames, whether the bus is busy, HNx_EN, the transmit error
count, the readback failures in a row, and whether the path is given up or the port is bus-off. -/
structure Die where
  on : Bool
  sounded : Bool
  soundBad : Bool
  links : Tab Nat
  tseq : Nat
  tvoted : Bool
  tslots : Tab Pkt
  b0 : DBr
  b1 : DBr
  vl : Tab DVl
  so : Tab DSo
  tr : Tab DTr
  brRef : Nat
  vlRef : Nat
  en : Bool
  stop : Bool
  offreq : Bool
  cfg : Tab Word
  act : Tab Word
  round_ : Nat
  match_ : Nat
  lock : Bool
  flags : Nat
  railOk : Bool
  railHeld : Bool
  chk : Bool
  excl : Nat
  exclCnt : Tab Nat
  exclLatch : Nat
  quiet : Tab Nat
  split : Bool
  dmode : Nat
  dlanes : Nat
  fault : Bool
  test : Option Nat
  opLast : Nat
  opDone : Bool
  opPass : Bool
  lateCnt : Tab Nat
  crcCnt : Tab Nat
  holdRep : Nat
  tx : List (Nat × List Word)
  ret : List (Nat × Ret)
  ptx : List (Nat × List Word)
  ports : List PortRec
  wins : List HWin
  frames : List PFrame
  busBusy : Bool
  hnOpen : List Nat
  hnEn : Bool
  tec : Nat
  rb : Nat
  gaveUp : Bool
  busOff : Bool
  deriving DecidableEq, Repr, Inhabited

end Sys2Proof.Machine
end

