-- ==== Sys2Proof/Machine/Vote.lean ====
section
/-! DEFINITION. The votes of the Fix at a driver die (R92, R117 to R124, R134, R136, R295 to R300, R498, R499, R506, R510),
pulse shaping (R302, R303) and what a die holds a resource off for. Functions of one die; `n` is its number. -/

namespace Sys2Proof.Machine

/-! ### Votes over values -/

/-- A numeric vote (R102, R120): the values of the lanes with their numbers and the half-width. The result is the voted value
if there is agreement, and the outliers as a lane mask. -/
def voteNum (vals : List (Nat × Int)) (half : Nat) : Option Int × Nat :=
  match vals with
  | [(a, x), (b, y), (c, z)] =>
    let m := med3 x y z
    let out := fun (l : Nat) (v : Int) => if (v - m).natAbs > half then 2 ^ l else 0
    let mask := out a x + out b y + out c z
    if cnt [decide ((x - m).natAbs > half), decide ((y - m).natAbs > half), decide ((z - m).natAbs > half)] ≤ 1
    then (some m, mask) else (none, mask)
  | [(_, x), (_, y)] => if (x - y).natAbs ≤ half then (some (rneShift (x + y) 1), 0) else (none, 0)
  | _ => (none, 0)

/-- A bitwise 2-of-3 of three bits (R92, R121). -/
def maj3 (a b c : Bool) : Bool := (a && b) || (a && c) || (b && c)

/-- A bitwise 2-of-3 of three words. -/
def majWord (a b c : Word) : Word := (a &&& b) ||| (a &&& c) ||| (b &&& c)

/-- A field that needs two identical slots (R121, R298). -/
def voteSame {α : Type} [DecidableEq α] (l : List α) : Option α := l.find? fun x => decide (2 ≤ l.countP (fun y => decide (y = x)))

/-- How a die votes: 2-of-3, the survivor alone (R506), or degraded with its driving lanes (R510). -/
inductive VoteMode where
  | fix
  | last (l : Nat)
  | heave (lanes : Nat)
  deriving DecidableEq, Repr

/-- Whether exactly one bit of a lane mask is set, and which. -/
def onlyLane (m : Nat) : Option Nat := if m = 1 then some 0 else if m = 2 then some 1 else if m = 4 then some 2 else none

/-- The voting in force at a die (R499, R506, R510). DMODE 1 is Last Lane and 2 is Heave-to in the die mode word. -/
def Die.mode (d : Die) : VoteMode :=
  if d.dmode = 1 then (match onlyLane d.dlanes with | some l => .last l | none => .fix)
  else if d.dmode = 2 then .heave d.dlanes else .fix

/-- A lane's packet in a store of slots. -/
def slotOf (t : Tab Pkt) (l : Nat) : Option Pkt := (t.find? fun e => e.1 = l).map (·.2)

/-- Whether a lane is excluded at the die: voted, latched (R123, R498), or its link is not up (R118). -/
def Die.shut (d : Die) (l : Nat) : Bool :=
  d.excl.testBit l || d.exclLatch.testBit l || decide (d.links.at l < 2)

/-- The valid packets of the lanes for a vote (R118), by lane number. A driving lane that sets its own exclude bit does not
count in Heave-to (R510). -/
def Die.valid (d : Die) (slots : Tab Pkt) : List (Nat × Pkt) :=
  ([0, 1, 2].filterMap fun l => if d.shut l then none else (slotOf slots l).map fun p => (l, p)).filter fun e =>
    match d.mode with
    | .fix => true
    | .last l => decide (e.1 = l)
    | .heave m => m.testBit e.1 && !e.2.excl.testBit e.1

/-- A discrete bit (R121, R506, R510): `safe` is the value of a slot without a valid packet; in Heave-to the safe value wins
as soon as one driving lane asks for it. -/
def Die.bitVote (d : Die) (slots : Tab Pkt) (safe : Bool) (f : Pkt → Bool) : Bool :=
  let v := d.valid slots
  let at_ : Nat → Bool := fun l => match v.find? (fun e => e.1 = l) with | some e => f e.2 | none => safe
  match d.mode with
  | .fix => maj3 (at_ 0) (at_ 1) (at_ 2)
  | .last l => at_ l
  | .heave m =>
    let b := ([0, 1, 2].filter fun l => m.testBit l).map at_
    if safe then b.any id else (!b.isEmpty && b.all id)

/-- A field that needs two identical valid slots (R121, R298, R506, R510). -/
def Die.sameVote {α : Type} [DecidableEq α] (d : Die) (slots : Tab Pkt) (f : Pkt → α) : Option α :=
  match d.mode with
  | .last _ => ((d.valid slots).map fun e => f e.2).head?
  | _ => voteSame ((d.valid slots).map fun e => f e.2)

/-- A numeric field (R120, R506, R510). -/
def Die.numVote (d : Die) (slots : Tab Pkt) (half : Nat) (f : Pkt → Int) : Option Int × Nat :=
  let v := (d.valid slots).map fun e => (e.1, f e.2)
  match d.mode with
  | .fix => voteNum v half
  | .last _ => (v.head?.map (·.2), 0)
  | .heave m =>
    match v with
    | [(_, x), (_, y), (_, z)] => (some (med3 x y z), 0)
    | [(_, x), (_, y)] => (some (rneShift (x + y) 1), 0)
    | _ => let _ := m; (none, 0)

/-! ### What the die holds -/

/-- The die's copy of a configuration register (R333). -/
def Die.cfgOf (d : Die) (r : Reg) : Word := look d.cfg r.addr r.rst
/-- The value of a configuration register that is in force at the die: that of its copy at the last start of a period of its resource
(R334), or at the last die tick for a safety output, a trip input or the off-pulse tests (log entry 58). -/
def Die.actOf (d : Die) (r : Reg) : Word := look d.act r.addr r.rst
/-- Copies of registers put in force. -/
def Die.actNow (d : Die) (rs : List Reg) : Die := { d with act := rs.foldl (fun t r => put t r.addr (d.cfgOf r) r.rst) d.act }
/-- DLK_CFG and DLK_WIN at the die: their reset values until it has taken its first round of 28 words (R333). -/
def Die.dlkOf (d : Die) (r : Reg) : Word := if d.round_ = 2 ^ 28 - 1 then d.cfgOf r else r.rst

/-- A bridge of the die by its place, 0 or 1. -/
def Die.br (d : Die) (i : Nat) : DBr := if i = 0 then d.b0 else d.b1
def Die.setBr (d : Die) (i : Nat) (b : DBr) : Die := if i = 0 then { d with b0 := b } else { d with b1 := b }
def Die.updBr (d : Die) (i : Nat) (f : DBr → DBr) : Die := d.setBr i (f (d.br i))
def Die.updVl (d : Die) (i : Nat) (f : DVl → DVl) : Die := { d with vl := d.vl.upd i f }
def Die.updSo (d : Die) (i : Nat) (f : DSo → DSo) : Die := { d with so := d.so.upd i f }
def Die.updTr (d : Die) (i : Nat) (f : DTr → DTr) : Die := { d with tr := d.tr.upd i f }

/-- VLEAD in 625 ps units (R117), HOLD, EWIN and VWIN of the die's own copy. -/
def Die.vlead (d : Die) (n : Nat) : Nat := F.DLK_CFG_VLEAD.get (d.dlkOf (R.DLK_CFG n)) * 200
def Die.hold (d : Die) (n : Nat) : Nat := F.DLK_CFG_HOLD.get (d.dlkOf (R.DLK_CFG n))
def Die.ewin (d : Die) (n : Nat) : Nat := F.DLK_WIN_EWIN.get (d.dlkOf (R.DLK_WIN n))
def Die.vwin (d : Die) (n : Nat) : Nat := F.DLK_WIN_VWIN.get (d.dlkOf (R.DLK_WIN n))

/-- Whether a latched trip of the die names a bridge, valve channel or safety output (R318). -/
def Die.tripBr (d : Die) (n i : Nat) : Bool :=
  [0, 1].any fun t => (d.tr.at t).latch && (F.EDG_TRCFG_ACTBR.get (d.actOf (R.EDG_TRCFG (2 * n + t)))).testBit i
def Die.tripVl (d : Die) (n i : Nat) : Bool :=
  [0, 1].any fun t => (d.tr.at t).latch && (F.EDG_TRCFG_ACTVLV.get (d.actOf (R.EDG_TRCFG (2 * n + t)))).testBit i
def Die.tripSo (d : Die) (n i : Nat) : Bool :=
  [0, 1].any fun t => (d.tr.at t).latch && (F.EDG_TRCFG_ACTSO.get (d.actOf (R.EDG_TRCFG (2 * n + t)))).testBit i

/-- What holds every output of the die off: no power, the checker latch (R496), the gate rail (R307), the split hold (R134,
R136). -/
def Die.allHeld (d : Die) : Bool := !d.on || d.chk || !d.railOk || d.split

/-- Whether a bridge or valve channel switches in a period with the voted flags given (R295). -/
def Die.brMaySwitch (d : Die) (n i : Nat) : Bool :=
  let b := d.br i
  !d.allHeld && !b.latched && !b.latchNext && !d.tripBr n i && b.r.agreed && !b.r.holdDue && !b.r.heldOff
    && b.r.en && !b.r.stop && !b.r.offreq
def Die.vlMaySwitch (d : Die) (n i : Nat) : Bool :=
  let b := d.vl.at i
  !d.allHeld && !b.latched && !d.tripVl n i && b.r.agreed && !b.r.holdDue && !b.r.heldOff && b.r.en && !b.r.stop && !b.r.offreq

/-- Whether a bridge takes the disable state with every low side on (R295): EN voted 0, neither STOP nor OFFREQ, DISST 1, and
nothing holds it off. -/
def Die.brLowsOn (d : Die) (n i : Nat) : Bool :=
  let b := d.br i
  !d.allHeld && !b.latched && !b.latchNext && !d.tripBr n i && b.r.agreed && !b.r.holdDue && !b.r.heldOff
    && !b.r.en && !b.r.stop && !b.r.offreq && F.EDG_BCFG_DISST.on (d.cfgOf (R.EDG_BCFG (2 * n + i)))

/-- Whether a safety output is on (R327). -/
def Die.soMayOn (d : Die) (n i : Nat) : Bool :=
  let o := d.so.at i
  !d.allHeld && o.son && !o.latched && !d.tripSo n i && d.en && !d.stop && !d.offreq
    && F.EDG_SOCFG_EN.on (d.actOf (R.EDG_SOCFG (2 * n + i)))

/-- Every output of the die is off (R134). -/
def Die.offConf (d : Die) : Bool :=
  !(d.b0.switching || d.b1.switching) && !((d.b0.gates ++ d.b1.gates).any fun g => g.2.side.isSome || g.2.wait.isSome)
    && !((List.range 3).any fun i => (d.vl.at i).switching) && !((List.range 2).any fun i => (d.so.at i).on)

/-- A record put on the return link of every lane (R301). -/
def Die.send (d : Die) (r : Ret) : Die :=
  { d with ret := d.ret ++ ([0, 1, 2].filter fun l => decide (2 ≤ d.links.at l)).map fun l => (l, r) }

/-! ### Outputs off -/

/-- A bridge with its gates low. -/
def DBr.gatesOff (b : DBr) : DBr := { b with switching := false, lows := false, cur := [], gates := [] }

/-- A valve channel switched off, its sum cleared (R324). -/
def DVl.off (v : DVl) : DVl := { v with switching := false, sum := 0, duty := 0, dutyPrev := 0, lsOff := false }

/-- Every output of the die switched off at once; where `latch` is set, each is latched too. -/
def Die.allOff (d : Die) (latch : Bool) : Die :=
  let f := fun (b : DBr) => { b.gatesOff with latched := b.latched || latch, carry := [], next := [] }
  { d with b0 := f d.b0, b1 := f d.b1,
           vl := (List.range 3).foldl (fun t i => t.upd i fun v => { v.off with latched := v.latched || latch }) d.vl,
           so := (List.range 2).foldl (fun t i => t.upd i fun o => { o with on := false, latched := o.latched || latch }) d.so,
           test := none }

/-- A test whose resource is no longer on is abandoned without a result (R331). -/
def Die.dropTest (d : Die) : Die :=
  match d.test with
  | none => d
  | some item =>
    if (if item < 3 then (d.vl.at item).switching else (d.so.at ((item - 3) / 2)).on) then d else { d with test := none }

/-! ### Shaping (R302, R303) -/

/-- One leg shaped: the requested edges, the period length, the suppression threshold and the carry give the applied edges
and the new carry. -/
def shapeLeg (r f t s : Nat) (c : Int) : (Nat × Nat) × Int :=
  let h : Int := (f : Int) - r
  if c = 0 ∧ (h = 0 ∨ (r = 0 ∧ f = t) ∨ (h ≥ s ∧ r ≥ s ∧ (t : Int) - f ≥ s)) then ((r, f), c)
  else
    let hq := h + c
    let hc := clampI 0 t hq
    let ha : Int := if hc < s then 0 else if (t : Int) - hc < 2 * s then t else hc
    let ra := (rneShift ((t : Int) - ha) 1).toNat
    ((ra, ra + ha.toNat), clampI (-t) t (hq - ha))

/-- Whether shaping a leg suppresses its high pulse or its low stretch, rather than only working off the carry. -/
def legSuppressed (r f t s : Nat) (c : Int) : Bool :=
  let hc := clampI 0 t ((f : Int) - r + c)
  let ha : Int := (shapeLeg r f t s c).1.2 - (shapeLeg r f t s c).1.1
  (decide (ha = 0) && decide (0 < hc)) || (decide (ha = t) && decide (hc < t))

/-- The suppression threshold of a bridge (R302). -/
def Die.suppress (d : Die) (n i : Nat) : Nat :=
  max (F.EDG_BTIM_MINP.get (d.cfgOf (R.EDG_BTIM (2 * n + i)))) (F.EDG_BTIM_DT.get (d.cfgOf (R.EDG_BTIM (2 * n + i))))

/-- The coming period of a bridge shaped from its voted schedule (R302, R303), or its carries cleared where it will not switch. What a
refresh took returns once it has ended (R310). -/
def Die.shapeBr (d : Die) (n i : Nat) : Die :=
  d.updBr i fun b =>
    if d.brMaySwitch n i then
      let t := b.voted.plen
      let s := d.suppress n i
      let back := fun k => if (b.gates.at k).hold = 0 then b.rloss.at k else 0
      let c := fun k => clampI (-t) t (clampI (-t) t (b.carry.at k) + back k)
      let leg := fun k => shapeLeg (b.voted.edges.getD (2 * k) 0) (b.voted.edges.getD (2 * k + 1) 0) t s (c k)
      { b with next := (List.range 3).map fun k => (leg k).1
               carry := (List.range 3).foldl (fun m k => m.set k (leg k).2) []
               rloss := (List.range 3).foldl (fun m k => m.set k (b.rloss.at k - back k)) []
               suppNext := (List.range 3).any fun k =>
                 legSuppressed (b.voted.edges.getD (2 * k) 0) (b.voted.edges.getD (2 * k + 1) 0) t s (c k) }
    else { b with next := [], carry := [], rloss := [], suppNext := false }

/-! ### The resource vote -/

/-- A resource after a vote that agreed or not (R122): the flags are voted in any case, and the hold runs out after HOLD
periods without agreement. -/
def DRes.voted (r : DRes) (hold : Nat) (agree en stop offreq : Bool) : DRes :=
  let r := { r with en := en, stop := stop, offreq := offreq, slots := [], vdone := true }
  if agree then { r with agreed := true, noagr := 0, holdDue := false, heldOff := r.heldOff && !en }
  else if r.agreed then { r with noagr := r.noagr + 1, holdDue := r.holdDue || (decide (hold < r.noagr + 1) && !r.heldOff) }
  else r

/-- A resource after a vote under the split hold (R136): its schedule or set-point and its enable are ignored. -/
def DRes.votedSplit (r : DRes) (stop offreq : Bool) : DRes := { r with stop := stop, offreq := offreq, slots := [], vdone := true }

/-- The vote report of a resource (R118, R122, R124). -/
def Die.voteReport (d : Die) (slots : Tab Pkt) (outl : Nat) (noagr : Bool) : Die :=
  let miss := ([0, 1, 2].map fun l => if (slotOf slots l).isSome && !d.shut l then 0 else 2 ^ l).foldl (· + ·) 0
  { d.send (.vote ⟨miss, d.lateCnt, d.crcCnt, outl, noagr, d.holdRep, d.excl ||| d.exclLatch⟩) with
    lateCnt := [], crcCnt := [], holdRep := 0 }

/-- Whether bridge `i` of the die follows its neighbour (R289). -/
def Die.synced (d : Die) (n i : Nat) : Bool := decide (i = 1) && F.EDG_BCFG_SYNC.on (d.cfgOf (R.EDG_BCFG (2 * n + 1)))

/-- The schedule of a bridge that repeats it at the length of the neighbour it follows (R119, R289). -/
def Sched.atLen (s : Sched) (t : Nat) : Sched := ⟨t, s.edges.map fun e => min e t⟩

/-- The fields of a bridge voted (R117 to R122, R124, R289). -/
def Die.voteBr (d : Die) (n i : Nat) : Die :=
  let b := d.br i
  let sl := b.r.slots
  let stop := d.bitVote sl true (·.stop)
  let offr := d.bitVote sl true (·.offreq)
  if d.split then ((d.updBr i fun b => { b with r := b.r.votedSplit stop offr }).shapeBr n i).voteReport sl 0 false
  else
    let pl := if d.synced n i then (if d.b0.r.agreed then some d.b0.voted.plen else none) else d.sameVote sl (·.plen)
    let res := (List.range 6).map fun k => d.numVote sl (d.ewin n) fun p => ((min (p.edges.getD k 0) (pl.getD 0) : Nat) : Int)
    let agree := pl.isSome && res.all fun x => x.1.isSome
    let outl := if agree then res.foldl (fun m x => m ||| x.2) 0 else 0
    let d1 := d.updBr i fun b => { b with
      r := b.r.voted (d.hold n) agree (d.bitVote sl false (·.en)) stop offr
      voted := if agree then ⟨pl.getD 0, res.map fun x => (x.1.getD 0).toNat⟩
        else if d.synced n i then (match pl with | some t => b.voted.atLen t | none => b.voted) else b.voted }
    (d1.shapeBr n i).voteReport sl outl (!agree && b.r.agreed)

/-- The fields of a valve channel voted (R117 to R122, R124). -/
def Die.voteVl (d : Die) (n i : Nat) : Die :=
  let b := d.vl.at i
  let sl := b.r.slots
  let stop := d.bitVote sl true (·.stop)
  let offr := d.bitVote sl true (·.offreq)
  if d.split then (d.updVl i fun b => { b with r := b.r.votedSplit stop offr }).voteReport sl 0 false
  else
    let res := d.numVote sl (d.vwin n) fun p => (p.iset : Int)
    let agree := res.1.isSome
    let en := d.bitVote sl false (·.en)
    let d1 := d.updVl i fun b =>
      { b with r := b.r.voted (d.hold n) agree en stop offr, iset := match res.1 with | some x => x.toNat | none => b.iset }
    let d2 := if d.test = some i ∧ (en = false ∨ stop = true ∨ offr = true) then d1.updVl i (·.off) else d1
    d2.dropTest.voteReport sl (if agree then res.2 else 0) (!agree && b.r.agreed)

/-- The split hold begins (R134, R136): every output off, and the port fix of the die idle. -/
def Die.splitHold (d : Die) : Die :=
  { d.allOff false with
    split := true, hnOpen := [], hnEn := false, wins := [], frames := d.frames.map fun x => { x with sending := false }
    busBusy := d.busBusy && !(d.frames.any (·.sending) || d.wins.any fun w => decide (w.st = 2)) }

/-- The exclude and split bits of a resource vote (R121, R123): exclude by 2-of-3 with the safe value 0, split by two
identical slots. A bit that excludes a lane leaves it out from the votes that follow (log entry 59). -/
def Die.voteCommon (d : Die) (slots : Tab Pkt) : Die :=
  let ex := (List.range 3).foldl (fun m l => m + b2n (d.bitVote slots false fun p => p.excl.testBit l) * 2 ^ l) 0
  let sp := (d.sameVote slots (·.split)).getD d.split
  if sp && !d.split then { d with excl := ex }.splitHold else { d with excl := ex, split := sp }

/-- The vote of a bridge, once in each period (R117); that of a bridge which follows it takes place with it (R289). -/
def Die.voteBridge (d : Die) (n i : Nat) : Die :=
  if (d.br i).r.vdone || d.synced n i then d
  else
    let d1 := (d.voteBr n i).voteCommon (d.br i).r.slots
    if i = 0 ∧ d.synced n 1 = true then (d1.voteBr n 1).voteCommon d1.b1.r.slots else d1

/-- The vote of a valve channel, once in each period (R117). -/
def Die.voteValve (d : Die) (n i : Nat) : Die :=
  if (d.vl.at i).r.vdone then d else (d.voteVl n i).voteCommon (d.vl.at i).r.slots

/-- Hold-off of a resource whose hold has run out (R122): it is switched off and a driver-die fault is reported. -/
def Die.holdOffBr (d : Die) (i : Nat) : Die :=
  if (d.br i).r.holdDue then
    { d.updBr i (fun b => { b.gatesOff with r := { b.r with holdDue := false, heldOff := true }, next := [], carry := [] }) with
      holdRep := d.holdRep ||| 2 ^ i, fault := true }
  else d
def Die.holdOffVl (d : Die) (i : Nat) : Die :=
  if (d.vl.at i).r.holdDue then
    { d.updVl i (fun b => { b.off with r := { b.r with holdDue := false, heldOff := true } }) with
      holdRep := d.holdRep ||| 2 ^ (2 + i), fault := true }
  else d

/-! ### The arrival of a packet -/

/-- The words of a packet before its CRC (R296). -/
def Pkt.body (p : Pkt) : List Word :=
  let hdr := fun (ty res : Nat) => w32 (ty + 16 * (p.lane % 4) + 64 * (res % 4) + 256 * (p.seq % 256) + 2 ^ 16 * b2n p.en + 2 ^ 17 * b2n p.stop
    + 2 ^ 18 * (p.excl % 8) + 2 ^ 21 * b2n p.offreq + 2 ^ 22 * b2n p.split + 2 ^ 23 * b2n p.lock)
  match p.res with
  | none => [hdr 3 0, w32 (p.soon % 4 + 256 * (p.clr / 256 % 512)), w32 (p.cfgIdx % 1024), p.cfgVal]
  | some r => if r < 2 then hdr 1 r :: w32 (p.plen % 2 ^ 20) :: (List.range 6).map fun k => w32 (p.edges.getD k 0 % 2 ^ 20)
      else [hdr 2 (r - 2), w32 (p.iset % 2 ^ 16)]

/-- A packet as it goes over a driver link: its words, the last one a CRC-32C over those before it (R296). -/
def Pkt.words (p : Pkt) : List Word := p.body ++ [w32 (crc32c (wordsBytes p.body))]

/-- A packet read from the words that arrive on a lane's link; none where the CRC, TYPE, LANE or RES fails its check (R297). The number
of the period is known by its low 8 bits. -/
def readPkt (lane : Nat) (ws : List Word) : Option Pkt :=
  let h := (ws.getD 0 0).toNat
  let bit : Nat → Bool := fun k => h.testBit k
  let w : Nat → Nat := fun k => (ws.getD k 0).toNat
  let ty := h % 16
  let r := h / 64 % 4
  let p : Pkt := { (default : Pkt) with
    lane := lane, res := none, seq := h / 256 % 256, en := bit 16, stop := bit 17, excl := h / 2 ^ 18 % 8, offreq := bit 21, split := bit 22 }
  if ws.getLast? ≠ some (w32 (crc32c (wordsBytes ws.dropLast))) ∨ h / 16 % 4 ≠ lane then none
  else if ty = 1 ∧ ws.length = 9 ∧ r < 2 then
    some { p with res := some r, plen := w 1 % 2 ^ 20, edges := (List.range 6).map fun k => w (k + 2) % 2 ^ 20 }
  else if ty = 2 ∧ ws.length = 3 ∧ r < 3 then some { p with res := some (2 + r), iset := w 1 % 2 ^ 16 }
  else if ty = 3 ∧ ws.length = 5 ∧ r = 0 then
    some { p with lock := bit 23, soon := w 1 % 4, clr := w 1 / 256 % 512 * 256, cfgIdx := w 2 % 1024, cfgVal := ws.getD 3 0 }
  else none

/-- The checks of R297 on the length and the edges of a bridge packet. -/
def pktOk (p : Pkt) : Bool :=
  match p.res with
  | some r => if r < 2 then
        decide (16000 ≤ p.plen) && decide (p.plen ≤ 800000) && decide (p.edges.getD 0 0 ≤ p.edges.getD 1 0)
          && decide (p.edges.getD 2 0 ≤ p.edges.getD 3 0) && decide (p.edges.getD 4 0 ≤ p.edges.getD 5 0)
      else true
  | none => true

/-- The number of the period or die tick that the coming vote is for: the one after next, once the next has been voted. -/
def Die.votedSeq (d : Die) (res : Option Nat) : Nat :=
  let next : DRes → Nat := fun r => r.seq + 1 + b2n r.vdone
  match res with
  | none => d.tseq + 1 + b2n d.tvoted
  | some r => if r < 2 then next (d.br r).r else next (d.vl.at (r - 2)).r

/-- The slots of a resource with a lane's packet put in: the last valid one stands (R293). -/
def putSlot (t : Tab Pkt) (p : Pkt) : Tab Pkt := ins (del t p.lane) p.lane p

/-- A packet that has passed its checks, put into the slots or counted (R118, R293, R297): one for the period just voted is late. -/
def Die.takePkt (d : Die) (p : Pkt) : Die :=
  if p.seq % 256 = d.votedSeq p.res % 256 then
    match p.res with
    | none => { d with tslots := putSlot d.tslots p }
    | some r =>
      if r < 2 then d.updBr r fun b => { b with r := { b.r with slots := putSlot b.r.slots p } }
      else d.updVl (r - 2) fun b => { b with r := { b.r with slots := putSlot b.r.slots p } }
  else if (p.seq + 1) % 256 = d.votedSeq p.res % 256 then { d with lateCnt := d.lateCnt.upd p.lane (· + 1) }
  else { d with crcCnt := d.crcCnt.upd p.lane (· + 1) }

/-- Words arrive at the die on a lane's link (R118, R296, R297); `good` says that they arrived as they were sent. A packet that fails a check
counts as a CRC failure. -/
def Die.arrive (d : Die) (lane : Nat) (ws : List Word) (good : Bool) : Die :=
  if d.links.at lane < 2 then d
  else match (if good then readPkt lane ws else none) with
    | some p => if pktOk p then d.takePkt p else { d with crcCnt := d.crcCnt.upd lane (· + 1) }
    | none => { d with crcCnt := d.crcCnt.upd lane (· + 1) }

/-- The first packet of a lane on its link to the die. -/
def Die.takeTx (d : Die) (lane : Nat) : Option (List Word) × Die :=
  match d.tx.find? (fun p => p.1 = lane) with
  | none => (none, d)
  | some p => (some p.2, { d with tx := d.tx.eraseP fun p => p.1 = lane })

/-! ### Die-packet vote (R298, R300, R320, R334, R498, R499) -/

/-- The register that a configuration index names at die `n` (R333). -/
def cfgAddr (n idx : Nat) : Nat :=
  if idx = 0x3F0 then 0x40058100 + 0x100 * n else if idx = 0x3F1 then 0x40058104 + 0x100 * n else 0x40050000 + 4 * idx

/-- The configuration words of die `n` in ascending CFGIDX (R333): 28 of them. -/
def cfgWords (n : Nat) : List (Nat × Reg) :=
  ([2 * n, 2 * n + 1].flatMap fun b => [R.EDG_BCFG b, R.EDG_BPER b, R.EDG_BTIM b, R.EDG_BREF b, R.EDG_BVDS b, R.EDG_BBLK b]).map
      (fun r => ((r.addr - 0x40050000) / 4, r))
    ++ ([3 * n, 3 * n + 1, 3 * n + 2].flatMap fun v => [R.EDG_VCFG v, R.EDG_VREG v, R.EDG_VLIM v]).map
      (fun r => ((r.addr - 0x40050000) / 4, r))
    ++ ([R.EDG_SOCFG (2 * n), R.EDG_SOCFG (2 * n + 1), R.EDG_TRCFG (2 * n), R.EDG_TRCFG (2 * n + 1), R.EDG_OPCFG n].map
      fun r => ((r.addr - 0x40050000) / 4, r))
    ++ [(0x3F0, R.DLK_CFG n), (0x3F1, R.DLK_WIN n)]

/-- A voted configuration word at the die (R334): taken into the copy until the lock, and compared with it. A word that differs begins the
round of CFGSYNC anew (log entry 58). -/
def Die.takeCfg (d : Die) (n idx : Nat) (v : Word) : Die :=
  match (cfgWords n).findIdx? (fun e => e.1 = idx), (cfgWords n).find? (fun e => e.1 = idx) with
  | some k, some (_, r) =>
    let d1 := { d with round_ := d.round_ ||| 2 ^ k }
    if d.cfgOf r = v then { d1 with match_ := d.match_ ||| 2 ^ k }
    else if d.lock then { d1 with flags := F.EDG_DDSTAT_CFGMIS.mask.toNat ||| d.flags, fault := true, match_ := 0 }
    else { d1 with cfg := put d.cfg r.addr v r.rst, match_ := 0 }
  | _, _ => d

/-- The die mode word (R499, R506): taken by two identical slots, or from the survivor alone. -/
def Die.takeMode (d : Die) (v : Word) : Die :=
  { d with dmode := (v.toNat) % 4, dlanes := (v.toNat / 16) % 8 }

/-- Whether a lane alone may move the die to Last Lane (R506). -/
def Die.soleMode (d : Die) : Option Word :=
  (([0, 1, 2] : List Nat).findSome? fun l =>
    match slotOf d.tslots l with
    | some p =>
      if p.cfgIdx = 0x3FF ∧ p.cfgVal.toNat % 4 = 1 ∧ (p.cfgVal.toNat / 16) % 8 = 2 ^ l ∧ !d.shut l
          ∧ ([0, 1, 2].all fun k => decide (k = l) || d.exclLatch.testBit k || decide (8 ≤ d.quiet.at k)) = true
      then some p.cfgVal else none
    | none => none)

/-- The latches of the die's resources cleared: the causes that the die still sees refuse the clear (R320, R496). `bst` is the mask of the
die's bridges whose bootstrap is below 8.0 V, which counts for a bridge that a low bootstrap latched. -/
def Die.clearBr (d : Die) (i : Nat) (bst : Nat) : Die :=
  let b := d.br i
  if b.latched || b.latchNext then
    if d.chk || d.railHeld || !d.railOk || (b.lowBst && bst.testBit i) then { d with brRef := d.brRef ||| 2 ^ i }
    else d.setBr i { b with latched := false, latchNext := false, lowBst := false }
  else d
def Die.clearVl (d : Die) (i : Nat) : Die :=
  let b := d.vl.at i
  if b.latched then
    if d.chk || d.railHeld || !d.railOk then { d with vlRef := d.vlRef ||| 2 ^ i }
    else d.updVl i fun b => { b with latched := false, openCnt := 0, ovcCnt := 0, devCnt := 0 }
  else d
def Die.clearSo (d : Die) (i : Nat) : Die :=
  let b := d.so.at i
  if b.latched then
    if d.chk || d.railHeld || !d.railOk then d.updSo i fun o => { o with flags := o.flags ||| F.EDG_SOSTAT_CLRREF.mask.toNat }
    else d.updSo i fun o => { o with latched := false }
  else d
def Die.clearTr (d : Die) (i : Nat) : Die :=
  let b := d.tr.at i
  if b.latch then
    if b.level then d.updTr i fun o => { o with flags := o.flags ||| F.EDG_TRSTAT_CLRREF.mask.toNat }
    else d.updTr i fun o => { o with latch := false }
  else d

/-- The clear bits voted in a die packet (R296, R320). -/
def Die.clears (d : Die) (clr bst : Nat) : Die :=
  let ap := fun (d : Die) (bit : Nat) (f : Die → Die) => if clr.testBit bit then f d else d
  let d := ap d 15 (·.clearTr 0)
  let d := ap d 16 (·.clearTr 1)
  let d := ap d 8 (·.clearBr 0 bst)
  let d := ap d 9 (·.clearBr 1 bst)
  let d := ap d 10 (·.clearVl 0)
  let d := ap d 11 (·.clearVl 1)
  let d := ap d 12 (·.clearVl 2)
  let d := ap d 13 (·.clearSo 0)
  ap d 14 (·.clearSo 1)

/-- The exclusion latches after a die tick (R498): set after 8 voted exclusions in a row, cleared by two valid packets that
carry the bit at 0. -/
def Die.exclLatches (d : Die) (slots : Tab Pkt) : Die :=
  let v := d.valid slots
  (List.range 3).foldl (fun d l =>
    let c := if d.excl.testBit l then d.exclCnt.at l + 1 else 0
    let zero := decide (2 ≤ v.countP fun e => !e.2.excl.testBit l)
    let on := if zero then false else d.exclLatch.testBit l || decide (8 ≤ c)
    { d with exclCnt := d.exclCnt.set l (min c 8)
             exclLatch := (d.exclLatch &&& (7 - 2 ^ l)) + (if on then 2 ^ l else 0) }) d

/-- The vote of a die tick, once in each tick (R298, R300). Under the split hold the enables are ignored (R136). -/
def Die.votePacket (d : Die) (n bst : Nat) : Die :=
  if d.tvoted then d
  else
    let sl := d.tslots
    let quiet := (List.range 3).foldl (fun q l =>
      q.set l (if (slotOf sl l).isSome && !d.shut l then 0 else min 8 (d.quiet.at l + 1))) d.quiet
    let clr := (List.range 17).foldl (fun m i => m + b2n (d.bitVote sl false fun p => p.clr.testBit i) * 2 ^ i) 0
    let son := fun i => d.bitVote sl false fun p => p.soon.testBit i
    let d1 := { d.voteCommon sl with
      quiet := quiet
      tvoted := true
      tslots := []
      en := if d.split then d.en else d.bitVote sl false (·.en)
      stop := d.bitVote sl true (·.stop)
      offreq := d.bitVote sl true (·.offreq)
      lock := d.lock || (d.sameVote sl (·.lock)).getD false }
    let d2 := (d1.exclLatches sl).clears clr bst
    let d3 := match d.sameVote sl (fun p => (p.cfgIdx, p.cfgVal)) with
      | some (idx, v) => if idx = 0x3FF then d2.takeMode v else d2.takeCfg n idx v
      | none => match d.soleMode with | some v => d2.takeMode v | none => d2
    let d3 := match d3.mode with
      | .heave m => { d3 with dlanes := ([0, 1, 2].foldl (fun a l => match slotOf sl l with
          | some p => if m.testBit l && p.excl.testBit l then a - 2 ^ l else a
          | none => a) m) }
      | _ => d3
    let d4 := if d.split then d3 else (List.range 2).foldl (fun d i => d.updSo i fun o => { o with son := son i }) d3
    Die.dropTest ((List.range 2).foldl (fun d i => let on := d.soMayOn n i; d.updSo i fun o => { o with on := on }) d4)

end Sys2Proof.Machine
end

