-- ==== Sys2Proof/Machine/DieOps.lean ====
section
/-! DEFINITION. A driver die beside its votes: the start of a period with its reports (R36, R295, R301, R308, R313), valve
regulation (R323 to R326), gate drive and bootstrap (R305 to R313), short-circuit detection (R314 to R317), trip inputs and
blanking (R318, R319), safety outputs (R327, R328), off-pulse tests (R329 to R331), the checker (R496) and the die tick
(R300, R301, R527, R628). Functions of one die; `n` is its number. -/

namespace Sys2Proof.Machine

/-- A bridge switched off at once and latched, with events added to its report. -/
def DBr.latchNow (b : DBr) (ev : Nat) : DBr :=
  { b.gatesOff with latched := true, latchNext := false, carry := [], next := [], evt := b.evt ||| ev }

/-- A valve channel or a safety output switched off at once and latched. -/
def DVl.latchNow (v : DVl) (ev : Nat) : DVl := { v.off with latched := true, flags := v.flags ||| ev }
def DSo.latchNow (o : DSo) (ev : Nat) : DSo := { o with on := false, latched := true, flags := o.flags ||| ev }

/-! ### Bridges -/

/-- The bridge report of the period that has ended (R301, R335). -/
def Die.brReport (d : Die) (n i : Nat) : BrRep :=
  let b := d.br i
  ⟨b.r.seq, b.switching, !b.switching && (b.r.curStop || b.r.curOffreq || !b.r.curEn), b.latched || b.latchNext, b.hhMask,
   b.refrMask, b.bstMask, b.carryCur, b.evt, b.legs, b.cls,
   [R.EDG_BCFG, R.EDG_BPER, R.EDG_BTIM, R.EDG_BREF, R.EDG_BVDS, R.EDG_BBLK].map fun r => d.cfgOf (r (2 * n + i)),
   b.refreshes, b2n b.supp⟩

/-- The length of the period that starts: that of the bridge it follows (R289), else that of the voted schedule, and before any vote
that of EDG_BPERb (R288). -/
def Die.brLen (d : Die) (n i : Nat) : Nat :=
  let own : Nat → Nat := fun k => if (d.br k).voted.plen = 0 then F.EDG_BPER_PLEN.get (d.cfgOf (R.EDG_BPER (2 * n + k))) else (d.br k).voted.plen
  if d.synced n i then own 0 else own i

/-- A leg commanded to a side (R305): a switch that is on stays on; the opposite one is turned off and its gate must fall first; with both
gates low the dead time runs. -/
def LegGate.turnTo (g : LegGate) (dt : Nat) (s : Side) : LegGate :=
  if g.side = some s then ⟨some s, g.dead, none, 0, 0⟩
  else if g.side.isSome || decide (g.wait = some s) then ⟨none, 0, some s, 0, 0⟩
  else ⟨some s, dt, none, 0, 0⟩

/-- The dead time of a bridge (R305). -/
def Die.dt (d : Die) (n i : Nat) : Nat := F.EDG_BTIM_DT.get (d.actOf (R.EDG_BTIM (2 * n + i)))
/-- The configuration registers of a bridge and of a valve channel of the die. -/
def brCfg (n i : Nat) : List Reg := [R.EDG_BCFG, R.EDG_BPER, R.EDG_BTIM, R.EDG_BREF, R.EDG_BVDS, R.EDG_BBLK].map fun r => r (2 * n + i)
def vlCfg (n i : Nat) : List Reg := [R.EDG_VCFG, R.EDG_VREG, R.EDG_VLIM].map fun r => r (3 * n + i)
/-- Those that belong to no resource with a period of its own. -/
def dieCfg (n : Nat) : List Reg := [R.EDG_SOCFG (2 * n), R.EDG_SOCFG (2 * n + 1), R.EDG_TRCFG (2 * n), R.EDG_TRCFG (2 * n + 1), R.EDG_OPCFG n]

/-- A resource at the start of its period (R295): the voted flags come into force, and the next vote is to come. -/
def DRes.start (r : DRes) : DRes :=
  { r with seq := r.seq + 1, vdone := false, slots := [], curEn := r.en, curStop := r.stop, curOffreq := r.offreq
           stopCnt := if r.stop then r.stopCnt + 1 else r.stopCnt }

/-- The legs of a schedule that are high for the whole period (R308), and those that are high at its start. -/
def highAll (cur : List (Nat × Nat)) (t k : Nat) : Bool := match cur[k]? with | some (r, f) => decide (r = 0) && decide (f = t) && decide (0 < t) | none => false
def highFirst (cur : List (Nat × Nat)) (k : Nat) : Bool := match cur[k]? with | some (r, f) => decide (r = 0) && decide (0 < f) | none => false

/-- The start of a bridge's period (R36, R295, R302, R308, R334): the shaped schedule is driven, or the bridge takes its disable state or is
off; the legs held high for the whole period count towards a refresh. A bridge whose latch a clear has released since the vote takes up the
voted schedule (R320). -/
def Die.startBr (d : Die) (n i : Nat) : Die :=
  let rep := d.brReport n i
  let go := d.brMaySwitch n i
  let lows := d.brLowsOn n i
  let t := d.brLen n i
  let d0 := d.actNow (brCfg n i)
  let d0 := if go && (d.br i).next.isEmpty && (d.br i).cur.isEmpty then d0.shapeBr n i else d0
  let dt := d0.dt n i
  let d1 := d0.updBr i fun b =>
    let cur := if go then (if b.next.isEmpty then b.cur else b.next) else []
    let turn : (Nat → Side) → Tab LegGate := fun side => (List.range 3).foldl (fun g k => Tab.set g k ((b.gates.at k).turnTo dt (side k))) []
    { b with
      r := b.r.start, plen := t, cur := cur, next := [], switching := go, lows := lows, since := (if go then b.since + 1 else 0),
      latched := (b.latched || b.latchNext), latchNext := false,
      legsOff := 0, legsLow := 0, carry := if go then b.carry else [], carryCur := if go then b.carry else [],
      hh := (List.range 3).foldl (fun h k => h.set k (if highAll cur t k then b.hh.at k + 1 else 0)) [],
      hhMask := (List.range 3).foldl (fun m k => m + b2n (highAll cur t k) * 2 ^ k) 0, refrMask := 0, bstMask := 0,
      gates := if go then turn (fun k => if highFirst cur k then .high else .low) else if lows then turn (fun _ => .low) else [],
      evt := 0, legs := 0, cls := 0, refreshes := 0, supp := go && b.suppNext, suppNext := false }
  (d1.send (.bridge i rep)).send (.mark i ((d.br i).r.seq + 1))

/-- PERIOD_START of a bridge: one that follows its neighbour starts at the same instant, and not on its own (R289). -/
def Die.startBridge (d : Die) (n i : Nat) : Die :=
  if d.synced n i then d
  else
    let d1 := d.startBr n i
    if i = 0 ∧ d.synced n 1 = true then d1.startBr n 1 else d1

/-- The opposite gate has fallen (R305): the dead time runs and the switch turns on at its end, where the schedule, the disable state with
the low sides on (R295) or a refresh (R309) turns it on. -/
def Die.gateFall (d : Die) (n i : Nat) (leg : Leg) (side : Side) : Die :=
  let dt := d.dt n i
  d.updBr i fun b =>
    let g := b.gates.at leg.num
    if !b.legsOff.testBit leg.num && (decide (side = .low) || !b.legsLow.testBit leg.num) && (b.switching || (b.lows && decide (side = .low))) then
      let g1 : LegGate := if 0 < g.hold ∧ side = .low then ⟨some .low, dt, some .high, g.off, g.hold⟩ else ⟨some side, dt, none, 0, 0⟩
      { b with gates := b.gates.set leg.num g1 }
    else b

/-- An interlock fault (R306). -/
def Die.interlock (d : Die) (i : Nat) (leg : Leg) : Die :=
  if (d.br i).switching || (d.br i).lows then
    d.updBr i fun b => { b.latchNow F.EDG_BEVT_ILK.mask.toNat with legsOff := 2 ^ leg.num }
  else d

/-- A bootstrap refresh (R309, R310), in the period in which the leg's count has reached REFN: the high side goes off at
T ÷ 2 − REFW ÷ 2 − DT, and the low side comes on for REFW once the high gate has fallen; `rloss` is the time measured. -/
def Die.refresh (d : Die) (n i : Nat) (leg : Leg) (rloss : Nat) : Die :=
  let b := d.br i
  let k := leg.num
  if b.switching ∧ F.EDG_BREF_REFN.get (d.actOf (R.EDG_BREF (2 * n + i))) ≤ b.hh.at k ∧ 0 < b.hh.at k
      ∧ b.legsOff.testBit k = false ∧ b.legsLow.testBit k = false then
    let w := F.EDG_BREF_REFW.get (d.actOf (R.EDG_BREF (2 * n + i)))
    d.setBr i { b with hh := b.hh.set k 0, rloss := b.rloss.set k rloss, refrMask := b.refrMask ||| 2 ^ k, refreshes := min 0xFFFF (b.refreshes + 1)
                       gates := b.gates.set k ⟨none, 0, some .low, b.plen / 2 - w / 2 - d.dt n i, w⟩ }
  else d

/-- The high side of a leg does not open (R311). -/
def Die.hsStuck (d : Die) (i : Nat) (leg : Leg) : Die :=
  if (d.br i).switching then d.updBr i fun b => { b.latchNow F.EDG_BEVT_HSSTUCK.mask.toNat with legsOff := 2 ^ leg.num } else d

/-- A leg held low for the rest of its period (R312, R313), which ends its run of periods held high (R308). -/
def DBr.legLow (b : DBr) (dt k : Nat) : DBr :=
  { b with legsLow := b.legsLow ||| 2 ^ k, gates := b.gates.set k ((b.gates.at k).turnTo dt .low), hh := b.hh.set k 0
           hhMask := if b.hhMask.testBit k then b.hhMask - 2 ^ k else b.hhMask }

/-- The bootstrap of a leg is below 8.0 V (R312, R313); `on` says that the high side is on, not only due. -/
def Die.bootstrap (d : Die) (n i : Nat) (leg : Leg) (on : Bool) : Die :=
  let b := d.br i
  let k := leg.num
  if !b.switching || b.legsOff.testBit k || b.legsLow.testBit k then d
  else if !on && decide (b.since ≤ 8) then d.setBr i { b.legLow (d.dt n i) k with bstMask := b.bstMask ||| 2 ^ k }
  else d.setBr i { b.legLow (d.dt n i) k with evt := b.evt ||| F.EDG_BEVT_BSTUV.mask.toNat, latchNext := true, lowBst := true }

/-- Whether a switch is on, so that the short-circuit tiers compare it (R314). -/
def Die.swOn (d : Die) (i : Nat) (leg : Leg) (side : Side) : Bool := decide (((d.br i).gates.at leg.num).side = some side)

/-- A short found by either tier (R314 to R317): `ev` is its event, `t` the time in the period in 625 ps units. A second leg
within 500 ns, which is 800 units, makes it phase to phase. -/
def Die.short (d : Die) (i : Nat) (leg : Leg) (side : Side) (t ev : Nat) : Die :=
  if !d.swOn i leg side then d
  else
    let b := d.br i
    let cls := if side = .high then 1 else 2
    let second := match b.shortAt with
      | some (sq, t0, m) => decide (sq = b.r.seq) && decide (t ≤ t0 + 800) && !m.testBit leg.num
      | none => false
    if second then
      let m := (match b.shortAt with | some (_, _, m) => m | none => 0) ||| 2 ^ leg.num
      d.setBr i { b.latchNow (ev ||| F.EDG_BEVT_PHPH.mask.toNat) with legs := m, cls := 3, shortAt := some (b.r.seq, t, m) }
    else
      d.setBr i { b with evt := b.evt ||| ev, latchNext := true, legsOff := b.legsOff ||| 2 ^ leg.num
                         gates := b.gates.set leg.num default
                         legs := if b.legs = 0 then 2 ^ leg.num else b.legs, cls := if b.legs = 0 then cls else b.cls
                         shortAt := some (b.r.seq, t, 2 ^ leg.num) }

/-! ### Valve channels -/

/-- The regulation frequency in Hz (R324). -/
def Die.fpwm (d : Die) (n i : Nat) : Nat := 1000 * (F.EDG_VCFG_FPWM.get (d.cfgOf (R.EDG_VCFG (3 * n + i))) + 1)

/-- The dither of a period (R325): a triangle of peak DAMP at DFREQ. -/
def Die.dither (d : Die) (n i : Nat) : Int :=
  let f := F.EDG_VCFG_DFREQ.get (d.cfgOf (R.EDG_VCFG (3 * n + i)))
  let a : Int := F.EDG_VLIM_DAMP.get (d.cfgOf (R.EDG_VLIM (3 * n + i)))
  let p := d.fpwm n i
  if f = 0 then 0
  else
    let x : Nat := ((d.vl.at i).phase * f) % p
    let tri : Int := if 4 * x ≤ p then 4 * x else if 4 * x ≤ 3 * p then 2 * p - 4 * x else 4 * x - 4 * p
    divNear (a * tri) p

/-- The duty of a period from the voted set-point, the dither and the current measured over the last one (R324). -/
def valveDuty (kp ki : Nat) (iset : Nat) (dith : Int) (imeas dutyPrev : Nat) (sum : Int) : Nat × Int :=
  let e : Int := iset + dith - imeas
  let s := if (dutyPrev = 65535 ∧ e > 0) ∨ (dutyPrev = 0 ∧ e < 0) then sum else sum + e
  ((clampI 0 65535 ((kp * e + ki * s).fdiv 4096)).toNat, s)

/-- The start of a valve channel's period (R36, R295, R301, R324, R326, R334): `imeas` is the mean current of the period that has
ended, which is held against that period's set-point and dither. -/
def Die.startValve (d : Die) (n i imeas : Nat) : Die :=
  let v := d.vl.at i
  let rep : VlRep := ⟨imeas, v.duty, v.flags, v.latched⟩
  let go := d.vlMaySwitch n i
  let kp := F.EDG_VREG_KP.get (d.cfgOf (R.EDG_VREG (3 * n + i)))
  let ki := F.EDG_VREG_KI.get (d.cfgOf (R.EDG_VREG (3 * n + i)))
  let frozen := d.test = some i
  let dith := d.dither n i
  let reg := valveDuty kp ki v.iset dith imeas v.duty v.sum
  let open_ := v.switching && decide (20 * imeas < v.isetCur) && decide (1000 < v.isetCur) && decide (58982 < v.duty)
  let dev := v.switching
    && decide (((imeas : Int) - (v.isetCur + v.dith)).natAbs > F.EDG_VLIM_VDEV.get (d.actOf (R.EDG_VLIM (3 * n + i))))
  let d1 := (d.actNow (vlCfg n i)).updVl i fun v =>
    let v := { v with
      r := v.r.start, isetCur := v.iset
      imeas := imeas, phase := v.phase + 1, dith := dith, lsOff := false, flags := 0
      openCnt := if open_ then v.openCnt + 1 else 0, devCnt := if dev then v.devCnt + 1 else 0
      ovcCnt := if v.ovcNow then v.ovcCnt else 0, ovcNow := false }
    if !go then v.off
    else if frozen then { v with switching := true, dutyPrev := v.duty }
    else { v with switching := true, dutyPrev := v.duty, duty := reg.1, sum := reg.2 }
  (d1.dropTest.send (.valve (2 + i) rep)).send (.mark (2 + i) (v.r.seq + 1))

/-- The slow and fast valve faults (R326). The low side of a channel under test stays on (R330). -/
def Die.valveOpen (d : Die) (i : Nat) : Die :=
  if 10 ≤ (d.vl.at i).openCnt then d.updVl i (·.latchNow F.EDG_VEVT_OPEN.mask.toNat) else d
def Die.valveLowOvc (d : Die) (i : Nat) : Die :=
  let v := d.vl.at i
  if !v.switching || v.ovcNow then d
  else if 3 ≤ v.ovcCnt + 1 then d.updVl i fun v => { v.latchNow F.EDG_VEVT_OVC.mask.toNat with ovcCnt := 0 }
  else let tested := d.test = some i; d.updVl i fun v => { v with lsOff := !tested, ovcNow := true, ovcCnt := v.ovcCnt + 1 }
def Die.valveMainOvc (d : Die) (i : Nat) : Die :=
  if (d.vl.at i).switching then d.updVl i (·.latchNow F.EDG_VEVT_HSSC.mask.toNat) else d
def Die.valveDev (d : Die) (n i : Nat) : Die :=
  if 8 * F.EDG_VLIM_VDEVT.get (d.actOf (R.EDG_VLIM (3 * n + i))) ≤ (d.vl.at i).devCnt ∧ 0 < (d.vl.at i).devCnt
  then d.updVl i (·.latchNow F.EDG_VEVT_DEV.mask.toNat) else d

/-! ### Safety outputs, trips, rail, checker -/

/-- Whether safety output `i` is in an off-pulse (R330). -/
def Die.soTested (d : Die) (i : Nat) : Bool := match d.test with | some k => decide (3 ≤ k ∧ (k - 3) / 2 = i) | none => false

/-- A safety output shorted or overloaded (R328): a low readback in its own off-pulse is no short. -/
def Die.soFault (d : Die) (i ev : Nat) : Die :=
  if (d.so.at i).on && !(decide (ev = F.EDG_SOSTAT_SHORT.mask.toNat) && d.soTested i) then d.updSo i (·.latchNow ev) else d

/-- The resources of a latched trip switched off at once (R318). -/
def Die.tripOff (d : Die) (n : Nat) : Die :=
  let d := (List.range 2).foldl (fun d i => if d.tripBr n i then
    d.updBr i fun b => { b.gatesOff with carry := [], next := [], evt := b.evt ||| F.EDG_BEVT_TRIP.mask.toNat } else d) d
  let d := (List.range 3).foldl (fun d i => if d.tripVl n i then d.updVl i (·.off) else d) d
  (List.range 2).foldl (fun d i => if d.tripSo n i then d.updSo i fun o => { o with on := false } else d) d

/-- A trip latches (R318). -/
def Die.tripLatch (d : Die) (n i : Nat) : Die :=
  (d.updTr i fun t => { t with latch := true, pend := false, flags := t.flags ||| F.EDG_TRSTAT_TRIPEV.mask.toNat }).tripOff n

/-- A filtered active level begins (R318, R319); `blank` says that a blanking window is open on the input. -/
def Die.tripActive (d : Die) (n i : Nat) (blank : Bool) : Die :=
  if !F.EDG_TRCFG_EN.on (d.actOf (R.EDG_TRCFG (2 * n + i))) then d
  else
    let sel := [0, 1].any fun b => (F.EDG_BBLK_TBLK.get (d.actOf (R.EDG_BBLK (2 * n + b)))).testBit i
    let d := d.updTr i fun t => { t with level := true }
    if blank && sel then d.updTr i fun t => { t with pend := true } else d.tripLatch n i

/-- A filtered active level ends (R319). -/
def Die.tripInactive (d : Die) (i : Nat) : Die :=
  d.updTr i fun t => { t with
    level := false, pend := false, flags := if t.pend then t.flags ||| F.EDG_TRSTAT_BLANKED.mask.toNat else t.flags }

/-- The end of a blanking window (R319): a level that has lasted beyond it latches the trip. -/
def Die.windowEnd (d : Die) (n i : Nat) : Die :=
  if (d.tr.at i).pend && (d.tr.at i).level then d.tripLatch n i else d

/-- The gate rail falls below 10.5 V for 1 µs (R307). -/
def Die.railFall (d : Die) : Die :=
  { d.allOff true with railOk := false, railHeld := true, flags := d.flags ||| F.EDG_DDSTAT_GDUV.mask.toNat, fault := true }

/-- The gate rail has been above 11.0 V for 100 µs (R307): its latches may be cleared. -/
def Die.railUp (d : Die) : Die := { d with railOk := true, railHeld := false }

/-- A mismatch of the main voter and the checker (R496). -/
def Die.checker (d : Die) : Die := { d.allOff true with chk := true, fault := true }

/-! ### Off-pulse tests (R329 to R331) -/

/-- Whether an item can be tested now: 0 to 2 a switching valve channel with a set-point, 3 to 6 the switch of a safety
output that is on and whose turn it is. -/
def Die.testable (d : Die) (item : Nat) : Bool :=
  if item < 3 then (d.vl.at item).switching && decide (0 < (d.vl.at item).isetCur)
  else (d.so.at ((item - 3) / 2)).on && decide ((d.so.at ((item - 3) / 2)).sw2 = decide ((item - 3) % 2 = 1))

/-- The start of a test: one at a time (R329, R330). -/
def Die.testStart (d : Die) (item : Nat) : Die :=
  if d.test = none ∧ item < 7 ∧ d.testable item = true then { d with test := some item } else d

/-- The end of a test (R330, R331): `pass` says that the ball fell below 25 % in the first half of the pulse and rose above
75 % within 50 µs of its end. -/
def Die.testEnd (d : Die) (pass : Bool) : Die :=
  match d.test with
  | none => d
  | some item =>
    let d := { d with test := none, opLast := item, opDone := true, opPass := pass }
    if item < 3 then (if pass then d else d.updVl item (·.latchNow F.EDG_VEVT_OPFAIL.mask.toNat))
    else
      let i := (item - 3) / 2
      let d := d.updSo i fun o => { o with opok := pass, sw2 := !o.sw2 }
      if pass then d
      else d.updSo i (·.latchNow (if (item - 3) % 2 = 0 then F.EDG_SOSTAT_STUCK1.mask.toNat else F.EDG_SOSTAT_STUCK2.mask.toNat))

/-! ### The die tick -/

/-- The die report (R301, R527, R628). A safety output reads back off in its off-pulse (R330). -/
def Die.report (d : Die) : DieRep :=
  ⟨(List.range 2).foldl (fun t i => t.upd i fun o => { o with on := o.on && !d.soTested i }) d.so, d.tr, d.brRef, d.vlRef, d.railOk && d.on, decide (d.match_ = 2 ^ 28 - 1), d.lock, d.flags, if d.opDone then d.opLast else 7,
   d.opPass, d.fault, d.offConf, d.split, (List.range 3).foldl (fun t l =>
     t.set l (if d.links.at l = 2 && (d.excl ||| d.exclLatch).testBit l then 3 else d.links.at l)) [],
   d.dmode, if d.dmode = 0 then 0 else d.dlanes, d.exclLatch,
   (List.range 3).foldl (fun m l => m + b2n (decide (8 ≤ d.quiet.at l)) * 2 ^ l) 0, d.chk, d.tseq⟩

/-- A die tick (R300): the report of the state so far goes out on all three return links, and the events it carries start
afresh. -/
def Die.tick (d : Die) (n : Nat) : Die :=
  if !d.on then d
  else
    let d := (d.send (.die d.report)).actNow (dieCfg n)
    { d with tseq := d.tseq + 1, tvoted := false, tslots := [], fault := false, brRef := 0, vlRef := 0, flags := 0,
             so := (List.range 2).foldl (fun t i => t.upd i fun o => { o with flags := 0 }) d.so,
             tr := (List.range 2).foldl (fun t i => t.upd i fun o => { o with flags := 0 }) d.tr }

/-- A die right after DRV_n has switched on (R531): links down, nothing voted, its gate rail up (DEDUCED: the die's own rail
comes up with it; GATE_RAIL_UNDERVOLTAGE says when it does not). -/
def Die.powerOn : Die := { (default : Die) with on := true, railOk := true, soundBad := false }

end Sys2Proof.Machine
end

