-- ==== Sys2Proof/Machine/Types2.lean ====
section
/-! DEFINITION. The plain data types of the measurement, position, SENT and travel blocks of a lane beside their registers. -/

namespace Sys2Proof.Machine

/-! ### Measurement -/

/-- Conversions of a slot under way (R342, R349): the slot, the sequence, the converter, the tick of the first conversion, and
their number. -/
structure MConv where
  slot : Nat
  seq : Nat
  conv : Nat
  start : Nat
  n : Nat
  deriving DecidableEq, Repr, Inhabited

/-- A pass of a sequence (R354 to R357): the next step, the end of its steps, the tick of its start, its deliveries to come,
whether it runs, and whether the sequence's EN has been cleared since it began (R49). -/
structure MRun where
  run : Bool
  next : Nat
  stop : Nat
  startAt : Nat
  left : Nat
  closing : Bool
  deriving DecidableEq, Repr, Inhabited

/-- A slot beside its registers (R352, R360): the tick plus 1 of its last delivery with the result and validity before it, the
guard-band state that deliveries count towards and the count. -/
structure MSlot where
  tick : Nat
  prev : Word
  prevValid : Bool
  gbTo : Nat
  gbCnt : Nat
  deriving DecidableEq, Repr, Inhabited

/-- The measurement block (R346 to R370): conversions under way, passes, slots, the tick from which each converter is free,
the tick from which the reference has been good, those of the last setting and clearing of RDY plus 1, whether a spot
conversion waits, the tick plus 1 at which it started and its converter, the spot register, overrun flag and tick plus 1 of the last spot
result, the capture in progress with its point, the values captured, the result awaiting a commit, the results that take
effect with the slot's next delivery, the store copy in force, the slot and values of the store write in progress, the tick plus 1 of the capture's
last delivery, and whether MEAS_CTRL.EN has been cleared and the block has not stopped (R49). -/
structure Meas where
  flight : List MConv
  runs : Tab MRun
  slots : Tab MSlot
  free : Tab Nat
  refAt : Nat
  rdySet : Nat
  rdyClr : Nat
  spot : Bool
  spotAt : Nat
  spotConv : Nat
  spotChan : Nat
  spotOld : Word
  spotOvr : Bool
  spotTick : Nat
  cap : Option Nat
  capSlot : Nat
  capN : Nat
  capSum : Int
  capMin : Int
  capMax : Int
  calRes : Option (Word × Word)
  calNew : Tab (Word × Word)
  calCopy : Option Nat
  calWrite : Option (Nat × Word × Word)
  capEnd : Nat
  closing : Bool
  deriving DecidableEq, Repr, Inhabited

/-! ### Position, SENT and travel -/

/-- A position interface beside its registers (R375 to R390): the accepted levels of A, B and I (or H1 to H3), the tick plus 1
of the last accepted edge, whether the next index is the first, the correction for the next tick with the tick of its latch,
the tracking observer's angle, speed in binary-angle steps per second and acceleration, the tick of its last update, the tick
plus 1 of the last sin/cos pair, the phase of the last pair used and whether there is one, whether the last pair was outside
its window and whether it was used, the tick plus 1 of the last rising pulse edge, and whether a full cycle has followed. -/
structure PosIf where
  lev : Nat
  edge : Nat
  first : Bool
  corr : Int
  corrAt : Nat
  th : Word
  om : Int
  al : Int
  obsAt : Nat
  pairAt : Nat
  ph : Word
  havePh : Bool
  badPair : Bool
  pairOk : Bool
  rise : Nat
  pulseOk : Bool
  deriving DecidableEq, Repr, Inhabited

/-- A SENT input beside its registers (R391 to R397): the tick of the last accepted frame or of the enable, the learned tick of
the last accepted frame, the slow-channel bits of the frames of the message in progress (oldest first, bit 3 as 2 and bit 2
as 1), whether a format is in force and one that the next accepted frame switches to, whether the last code was unknown,
whether a frame has been accepted since the fault, and the angles of the last two good frames with their ticks. -/
structure SentIn where
  last : Nat
  learned : Nat
  slow : List Nat
  known : Bool
  swTo : Option Nat
  unknown : Bool
  ok : Bool
  ang0 : Word
  at0 : Nat
  ang1 : Word
  at1 : Nat
  deriving DecidableEq, Repr, Inhabited

/-- Travel (R398 to R404): for each source (0 to 3 the wheels, 4 the radar) the tick plus 1 of its last pulse, the distance
and interval of its last two pulses (0: none), and whether it stands still; the fused distance and the radar's own distance
in 2^−16 of 0.1 mm, the unwrapped values of reckoners 12 and 15, the tick of the last advance of reckoner 12, the ground-speed accumulator and its bit, whether the
generator's enable was accepted, whether a disable of it waits for the next apply instant (R49, R404), and whether one of travel by POS_CTRL does (R48, R625). -/
structure Trav where
  last : Tab Nat
  iv : Tab (Nat × Nat)
  still : Tab Bool
  d12 : Nat
  d15 : Nat
  pos12 : Nat
  pos15 : Nat
  adv : Nat
  g : Nat
  bit : Bool
  gsOk : Bool
  gsClosing : Bool
  closing : Bool
  deriving DecidableEq, Repr, Inhabited

end Sys2Proof.Machine
end

