-- ==== Sys2Proof/Machine/Types3.lean ====
section
/-! DEFINITION. The plain data types of a lane's network controllers beside their registers. -/

namespace Sys2Proof.Machine

/-- A frame that has ended whole on a path (R438): the path, the frame, the tick, the window's kind (4 for none), and whether it
entered a buffer. -/
structure HnRx where
  path : Nat
  frame : CanFrame
  at_ : Nat
  kind : Nat
  entry : Nat
  taken : Bool
  deriving DecidableEq, Repr, Inhabited

/-- A receive buffer's latched view and the contents before the last frame (R422). -/
structure HnView where
  time : Word
  words : List Word
  deriving DecidableEq, Repr, Inhabited

/-- A lane's Helm Net controller beside its registers (R414 to R438): the sequence counts of the transmit buffers, the basic
cycle plus 1 in which each matrix entry was last copied, the latched views, for each receive buffer the tick plus 1 of its
last frame and what it held before, the tick of entry into the state, that of the last SOF, reckoner 13 at the last SOF of
each path, the last reference taken for time (its node, TSOF and CYC), the tick of the last reference, the references within
GMARG ÷ 4 in a row, whether the cold-start frame is out and its correction, the tick plus 1 of its send, the back-off count,
the last basic and matrix cycle begun plus 1, whether the node sends in its windows, the rate announced for the next matrix
cycle, the nodes' masks with the matrix cycle in which each was heard, the nodes heard in this matrix cycle, the frames ended
in the last time, for each path the basic cycle plus 1 of its last reference SOF and of its last whole reference, the healthy
cycles of each path in a row and whether this cycle missed a frame there, the delays measured, reckoner 13 at the own probe,
the answers to send (requester and t2), whether a disable waits, the basic cycle plus 1 in which the node sent its own
reference message, the paths on which each arbitrating buffer's request has been served, and the basic cycle plus 1 in which
the capability frame and the probe were sent. -/
structure Hn where
  seq : Tab Nat
  copied : Tab Nat
  view : Tab HnView
  rxAt : Tab Nat
  rxOld : Tab HnView
  latched : Tab Bool
  stAt : Nat
  sofTick : Nat
  sofAt : Tab Nat
  ref : Option (Nat × Nat × Nat)
  refTick : Nat
  near : Nat
  cold : Bool
  coldAdd : Nat
  coldAt : Nat
  coldTs : Nat
  ownSof : Bool
  boff : Nat
  cyc : Nat
  mcyc : Nat
  tx : Bool
  rate : Option Nat
  masks : Tab (Nat × Nat)
  heard : Nat
  recent : List HnRx
  refSof : Tab Nat
  refWhole : Tab Nat
  good : Tab Nat
  miss : Tab Bool
  delays : List Int
  probe : Nat
  answers : List (Nat × Nat)
  closing : Bool
  ownRef : Nat
  txMask : Tab Nat
  auxDone : Nat
  deriving DecidableEq, Repr, Inhabited

/-- A lane's ISOBUS or service CAN controller beside its registers (R439 to R442): the running frame count, the transmit
buffers waiting in the order of their requests, the TAGs out with their buffers (16 for address management), the addresses
that other nodes claim, the tick of the last own claim, and whether a disable waits. -/
structure CanCtl where
  tag : Nat
  queue : List Nat
  out : Tab Nat
  others : List Nat
  claimAt : Nat
  closing : Bool
  deriving DecidableEq, Repr, Inhabited

/-- A lane's Ethernet path beside its registers (R444): the running frame count and the TAGs out with their descriptors,
whether a disable waits, and the PHY access that waits for its vote (R446): register, device, write and data. -/
structure EthCtl where
  tag : Nat
  out : Tab Nat
  closing : Bool
  phy : Option (Nat × Nat × Bool × Nat)
  deriving DecidableEq, Repr, Inhabited

end Sys2Proof.Machine
end

