-- ==== Sys2Proof/Machine/Types4.lean ====
section
/-! DEFINITION. The plain data types of the safety layer, the checkpoint exchange, the degraded modes, start-up and the power states
of a lane beside their registers. -/

namespace Sys2Proof.Machine

/-! ### The safety layer (R454 to R471) -/

/-- A safety PDU as a lane received it (R455, R456): on Ethernet or Helm Net, its path or buffer, the source address, the arrival
time by reckoner 13, and the bytes from its header on. -/
structure RxPdu where
  eth : Bool
  chan : Nat
  src : Nat
  time : Nat
  bytes : List Byte
  deriving DecidableEq, Repr, Inhabited

/-- A PDU that a lane has accepted (R454, R462): its header, payload and CRC, the arrival interval, the source address, whether the
exchange has reported it, and how many checkpoints it has waited for a second lane. -/
structure Pdu where
  sess : Nat
  ty : Nat
  seq : Nat
  ts : Nat
  adl : Nat
  words : List Word
  crc : Nat
  j : Nat
  src : Nat
  age : Nat
  deriving DecidableEq, Repr, Inhabited

/-- A session beside its registers (R460, R464, R466): the arrival time of the last accepted PDU, the reply counter, the Ethernet
address for replies, whether its check has passed, whether an expiry has been posted, the axes that the session has locked out, and the dies that it
stops. -/
structure Sess where
  last : Nat
  reply : Nat
  src : Nat
  ok : Bool
  expired : Bool
  locks : Nat
  dies : Nat
  deriving DecidableEq, Repr, Inhabited

/-- A post of the queue of R115: a change of winding state (R232), a session's reaction to a STOP or an expiry with its code (R468),
an axis's reaction code (R468), a travel source (R400), or the revocation of a key slot that the image decides on (R581). -/
inductive Trip where
  | mc (b : Nat) (ch : McChange)
  | sess (n : Nat) (stop : Bool) (code : Nat)
  | axis (a : Nat) (code : Nat)
  | travel (src : Nat)
  | keyrev (slot : Nat)
  deriving DecidableEq, Repr

/-- A posted entry with the checkpoints it has stayed posted alone and the tick of the post. -/
structure TripPost where
  trip : Trip
  age : Nat
  tick : Nat
  deriving DecidableEq, Repr

/-- An axis's monitor beside its registers (R219, R473 to R475): whether its functions passed their check, the position and tick of the
previous sample, the consecutive samples in which each function's condition has held, the set-point that the axis follows, the last command of OUT class 0x04, the checkpoint of a controlled stop that is agreed and waits for
its first sample, and the tick at which a running one ends. -/
structure SfnAx where
  on : Bool
  prev : Option Word
  prevAt : Nat
  nP : Nat
  nR : Nat
  nD : Nat
  nE : Nat
  sp : Option Int
  cmd : Option Word
  due : Option Nat
  cend : Option Nat
  deriving DecidableEq, Repr, Inhabited

/-- The safety layer of a lane beside its registers: PDUs received and not yet checked, PDUs accepted and not yet agreed, sessions,
monitors, the challenge and its tick, the CONFIRM and the RESET being carried out with what is to be answered, the results of the
lane's own record writes, the sessions whose EN has been cleared, whether the limit of R485 has been passed, the technician
identity to write, and whether a later PDU of the session is the one answered. -/
structure Safe where
  rx : List RxPdu
  acc : List Pdu
  sess : Tab Sess
  mon : Tab SfnAx
  chal : Option Word
  chalAt : Nat
  conf : Option (Nat × Nat)
  confId : Word
  confRes : Option Bool
  rel : Option (Nat × Nat × Nat)
  relRes : Option Bool
  ucDone : Bool
  mute : Bool
  closing : Bool
  deriving DecidableEq, Repr, Inhabited

/-! ### Checkpoints (R94 to R116) -/

/-- A command admitted and not yet applied (R89): the session, the checkpoint t, the payload, and the axes still to apply it. -/
structure Adm where
  sess : Nat
  t : Nat
  words : List Word
  axes : Nat
  deriving DecidableEq, Repr, Inhabited

/-- What a lane captures at a checkpoint (R95, R97, R105 to R107) and what its exchange carries besides: the number, the words of KIND
0, 1 and 3 entries in list order, those of KIND 2, the signature, the mode word, the samples applied, S and the interval of every
axis, the discrete inputs, the reading of LOCKOUT_RST_N, the posted words and entries, the accepted PDUs, the fused distance, the self-diagnosis result, whether the commissioning record confirms, the lock-outs of the
record with its validity, the sleep step's answer (0 acknowledged, else the cause), the image digest once step 9 is passed, the
results of the record writes, and whether the catch-up of the lane is complete. -/
structure Cap where
  num : Nat
  words : List Word
  disc : List Word
  sig : Word
  mode0 : Word
  mode1 : Word
  applied : List Word
  ax : List AxCap
  din : Word
  ball : Bool
  posts : List Post
  trips : List Trip
  pdus : List Pdu
  dist : Nat
  sd : Option Bool
  conf : Bool
  lo : Word
  loBad : Bool
  slp : Option (Nat × Nat)
  img : Option (Word × Word)
  confRes : Option Bool
  relRes : Option Bool
  caught : Bool
  deriving DecidableEq, Repr

/-- Another lane's capture as received (R96, R116): whether the tap showed other data, and by how many 5 ns steps its capture
instant lay after this lane's. -/
structure CapRx where
  cap : Cap
  tap : Bool
  skew : Int
  deriving DecidableEq, Repr

/-- A lane's checkpoints beside the FIX registers: the number of the last checkpoint captured plus 1, the capture with the axes whose
running sample it waits for, the captures received, whether it has been applied, the void checkpoints in a row, the posted
words, the agreed words not yet read, the agreed words that a lane has not posted and must still post, the entries of R115 posted, the
entries of R115 that a lane has not posted and that were agreed, the signature of the interval in progress, the admission queue, the tick of the lane's declaration as odd, that of the split
agreement and of the join request, whether a split is agreed and not entered, whether catch-up is complete, and whether a debug step ends at the next apply instant. -/
structure Ck where
  last : Nat
  cap : Option Cap
  wait : List Nat
  rx : List (Nat × CapRx)
  done : Bool
  voids : Nat
  dec : List Post
  agreed : List Word
  owe : List (Nat × Word)
  trips : List TripPost
  oweT : List (Nat × Trip)
  sig : Word
  adm : List Adm
  oddAt : Nat
  splitAt : Nat
  splitDue : Bool
  caught : Bool
  stepOne : Bool
  deriving DecidableEq, Repr, Inhabited

/-! ### Degraded modes (R500 to R523) -/

/-- The degraded modes of a lane beside the FIX registers: the result of its own self-diagnosis, the tick plus 1 at which it began to
give up, the ticks at which the crawl phase and the stop profile began, whether a stop profile runs, whether standstill without a source has
been taken, what the lock-out record said at start-up and whether it could not be read, the class of the last
entry, the entries being released, and whether the crawl speed has been passed. -/
structure Dg where
  sdRes : Option Bool
  giveUp : Nat
  crawlAt : Nat
  profAt : Nat
  prof : Bool
  still : Bool
  early : Word
  earlyBad : Bool
  cls : Nat
  releasing : Nat
  hold : Bool
  deriving DecidableEq, Repr, Inhabited

/-! ### Power, start-up and images (R528 to R572) -/

/-- A lane's start-up and power beside the PWR and IMG registers: whether its feed has started it since the wake, whether it has left
reset, whether it is held off until the next wake, whether logic BIST, memory BIST and the image read are done, whether ring bring-up
is, whether the signature is verified, whether the other slot is tried, the slot being loaded, the entries of the register-load list still
to apply, the tick of the last one, the tick at which a WAIT ends, the µs of the WAITs, whether step 9 is passed, the tick of the reset
release and its µs from the wake event, the key hashes of the OTP, the tick at which the running sleep step began, this lane's answer to
it, the request that the sleep goes to, whether it is being undone, the ticks plus 1 since which record writes run or wait, the
slot-record copy in force, whether the lanes missing have been named, and whether the lane reloads for a join. -/
structure Pw where
  on : Bool
  up : Bool
  heldOff : Bool
  lbist : Bool
  mbist : Bool
  read : Bool
  ring : Bool
  verified : Bool
  second : Bool
  slot : Nat
  list : List (Word × Word)
  rlAt : Nat
  waitEnd : Option Nat
  waitUs : Nat
  step9 : Bool
  relAt : Nat
  wakeUs : Nat
  keys : List (List Byte)
  slpAt : Nat
  slpAns : Option (Nat × Nat)
  slpReq : Nat
  slpUndo : Bool
  nvmAt : Tab Nat
  slotCopy : Option Nat
  lone : Bool
  joining : Bool
  deriving DecidableEq, Repr, Inhabited

end Sys2Proof.Machine
end

