-- ==== Sys2Proof/Machine/Types5.lean ====
section
/-! DEFINITION. The plain data types of the Binnacle, the KEEP domain, the runtime soundings and the debug replay queue. -/

namespace Sys2Proof.Machine

/-- The runtime sounding of a lane beside the SND registers (R597 to R603): the tick of its start, the region's base, the failing
words of TEST (word and bit), whether TEST was cut short, the tick plus 1 of the last completion, and the spare rows that each
bank has used (R544, R602). -/
structure Snd where
  start : Nat
  base : Nat
  fails : List (Nat × Nat)
  cut : Bool
  doneAt : Nat
  spares : Tab Nat
  deriving DecidableEq, Repr, Inhabited

/-- An action of the debug replay queue (R141 to R145). -/
inductive DbgAct where
  | halt
  | step
  | resume
  | write (addr : Word) (v : Word)
  deriving DecidableEq, Repr

/-- A queued debug action with the lanes that have still to carry it out. -/
structure DbgEnt where
  act : DbgAct
  lanes : List Nat
  deriving DecidableEq, Repr

/-- A request of the Binnacle (R581): its OP, TAG, arguments IN1 to IN3, and the words of BMB_INBUF. -/
structure MReq where
  op : Nat
  tag : Nat
  in1 : Word
  in2 : Word
  in3 : Word
  buf : List Word
  deriving DecidableEq, Repr, Inhabited

/-- A request sent to a lane as the Binnacle follows it: in the lane's mailbox, accepted and not replied to, or ended with the
result given (RESULT of the reply, RCODE, or 0xFF). -/
inductive ReqSt where
  | sent
  | taken
  | ended (code : Nat) (words : List Word)
  deriving DecidableEq, Repr

/-- A lane's request as the Binnacle holds it. -/
structure ReqEnt where
  lane : Nat
  req : MReq
  st : ReqSt
  deriving DecidableEq, Repr

/-- A post of KIND 2, 3 or 4 at the Binnacle (R580): the lane, the post, the ms of its arrival, whether it has been matched and acted upon,
and the RESULT and value of the register read that it asked for. -/
structure BPost where
  lane : Nat
  post : MPost
  ms : Nat
  acted : Bool
  res : Nat
  val : Word
  deriving DecidableEq, Repr

/-- A transfer of UDS (R589, R591): download with the bytes expected, or upload with the first record and the bytes asked
for; the bytes transferred so far and the last block number. -/
structure Xfer where
  down : Bool
  first : Nat
  total : Nat
  got : Nat
  blk : Nat
  deriving DecidableEq, Repr, Inhabited

/-- The extremes and sums of the sensors over the present intervals (R587): highest temperature with its sensor, lowest
temperature, lowest and highest feed voltages, highest sum of the feed currents; the number of acceleration samples, their
sums and sums of squares by axis, the largest magnitude squared, and the samples above 4 g. -/
structure SensSt where
  hot : Option (Nat × Int)
  cold : Option Int
  vLow : Tab Nat
  vHigh : Tab Nat
  iHigh : Nat
  n : Nat
  sum : Tab Int
  sq : Tab Nat
  peak2 : Nat
  over4g : Nat
  deriving DecidableEq, Repr, Inhabited

/-- The Binnacle (R577 to R606): whether BIN_MAIN is on, ms since the wake by its own clock, its registers by offset, the posts that wait for a
match, the diagnostic messages being joined by port with the number of the next segment, the messages joined and not yet served, the
requests waiting to be sent to each lane and those sent, the next TAG; the records in SRAM, those dropped and not yet recorded, the log flash, the
words of each lane's last STATUS, the sensors' statistics; the UDS session, the port of its tester, the ms of its last request, whether it is
unlocked, the seed out, the wrong keys, the ms at which the delay began, the transfer; whether 0x10 0x02 waits for STATUS, the round of requests that the update waits for, the words of the staged image sent
so far, the length of the staged image, the first sector of the staging area, whether an image is staged and verified; the next lane and
region for a sounding and whether a reply is awaited; the key hashes of its OTP, the authentication key's working copy, whether OTP reads
of it are blocked, the key in the OTP, the unit identity; the instruction in force at the test access port, the data register that it shows, and the seed of the debug
authentication; the number of free values taken. -/
structure Bin where
  on : Bool
  ms : Nat
  regs : Tab Word
  posts : List BPost
  segs : Tab (Nat × List Byte)
  msgs : List (Nat × List Byte)
  sendq : List (Nat × MReq)
  reqs : List ReqEnt
  tag : Nat
  sram : List (List Word)
  dropped : Nat
  flash : List Host.Cell
  stat : Tab (List Word)
  sens : SensSt
  session : Nat
  port : Nat
  lastReq : Nat
  unlocked : Bool
  seed : Option (List Byte)
  wrong : Nat
  delay : Option Nat
  xfer : Option Xfer
  progWait : Option Nat
  round : Option Nat
  sentW : Nat
  imgLen : Nat
  stage : Nat
  staged : Bool
  sndLane : Nat
  sndReg : Tab Nat
  sndWait : Option Nat
  keys : List (List Byte)
  auth : List Byte
  authBlocked : Bool
  authOtp : List Byte
  uid : BitVec 64
  ir : Nat
  dr : Word
  dbgSeed : Option (List Byte)
  free : Nat
  deriving DecidableEq, Repr, Inhabited

/-- The phases of the KEEP domain (R534, R566 to R570): no supply yet, the device awake, the entry sequence,
asleep, RESET_N held. -/
inductive KPhase where
  | unpowered
  | awake
  | entry
  | asleep
  | held
  deriving DecidableEq, Repr, Inhabited

/-- The KEEP domain (R532, R563 to R570): its phase, the mode it is in or goes to (1 Moored, 2 Anchor), the wake configuration with the
frame registers, the last-wake record, the wake count, the levels of WAKE_IGN, WAKE_0 and WAKE_1, the wake sources latched
during an entry, and whether Anchor was entered completely (R547). -/
structure Keep where
  ph : KPhase
  mode : Nat
  cfg : Word
  wuf : List Word
  wakeRec : Word
  wakes : Nat
  levels : Nat
  latched : Nat
  anchored : Bool
  deriving DecidableEq, Repr, Inhabited

end Sys2Proof.Machine
end

