-- ==== Sys2Proof/Machine/State.lean ====
section
/-! DEFINITION. The state of the device: three lanes, four driver dies, the Binnacle, the KEEP domain, the debug replay queue and the queue of
commands; the fault and refusal types; and the state before the first power-on. -/

namespace Sys2Proof.Machine

/-- The faults of the model. There is none: every error that the spec gives is a state that follows (log entry 1). -/
inductive Fault where
  deriving DecidableEq, Repr

/-- The refusals of the model. -/
inductive Refusal where
  /-- A command whose meaning is not modelled, by its mnemonic. Raised by an arm of `exec` alone. Safe: nothing follows
  from it. -/
  | notModelled (mnemonic : String)
  deriving DecidableEq, Repr

/-- A lane (R24): its position on the ring (0 to 2), whether the device is a GDZ-7320, its registers, its memories (R38), the words of
engine program memory whose parity is wrong, the result of the last bus access with its error and address, the bits that
hardware has set in this tick (R18) and those that software has set in it (R19), the sources pending at the start of this tick (R46) and those in service (R44); reckoner 14 (the number
of ticks), the free values taken, reckoner 13 with the slews of Helm Net and of the other lanes and the ticks since their
last step; the reckoners' values, rates, the source and the stamp of the last estimate, and fractions; the waypoints, and whether RKN_CTRL.EN was cleared and the unit has not stopped;
the engine, the axes, the edge scheduler, the commutation blocks; the mailbox queue and the retained one, the tick of the request's arrival and
that of its withdrawal plus 1; the flash, the record writes
that wait for the NVM guard; measurement, position, SENT, travel; the network controllers; the safety layer; checkpoints,
degraded modes, start-up and power, the runtime sounding; and what the lane's part of the present step puts on its links. -/
structure Lane where
  me : Nat
  small : Bool
  regs : Tab Word
  mem : List Host.Cell
  pmPar : Tab Bool
  rdata : Word
  busErr : Bool
  busAddr : Nat
  setNow : Tab Nat
  w1sNow : Tab Nat
  irqPrev : List Nat
  inSvc : List Nat
  ticks : Nat
  free : Nat
  gt : Nat
  slewHelm : Int
  slewLane : Int
  slewWait : Nat
  rkn : Tab Word
  rate : Tab Int
  est : Tab (Nat × Nat)
  frac : Tab Nat
  wp : Tab Wp
  rknClosing : Bool
  eng : Eng
  ax : Tab Ax
  edg : Edg
  mc : Tab Mc
  posts : List MPost
  retained : List MPost
  reqAt : Nat
  goneAt : Nat
  flash : List Host.Cell
  nvmWait : List Nat
  meas : Meas
  posIf : Tab PosIf
  sent : Tab SentIn
  trav : Trav
  hn : Hn
  isb : CanCtl
  svc : CanCtl
  eth : Tab EthCtl
  safe : Safe
  ck : Ck
  dg : Dg
  pw : Pw
  snd : Snd
  outP : List (Nat × Pkt)
  outR : List (Nat × PortRec)
  deriving DecidableEq, Repr, Inhabited

/-- The device, with the commands that wait, first in, first out. -/
structure State where
  a : Lane
  b : Lane
  c : Lane
  d0 : Die
  d1 : Die
  d2 : Die
  d3 : Die
  bin : Bin
  keep : Keep
  dbgq : List DbgEnt
  pending : List Instr
  deriving DecidableEq, Repr, Inhabited

/-- A lane without power: every register at its reset value, the lane letter by its straps (R25), empty memories. -/
def Lane.off (me : Nat) : Lane := { (default : Lane) with
  me := me
  regs := if me = 0 then [] else [(R.LANE_ID_LANE.addr, BitVec.ofNat 32 me)] }

/-- The machine before the first power-on of KEEP (R566): no domain on, every register at its reset value, no command waiting. -/
def State.reset : State := { (default : State) with
  a := Lane.off 0
  b := Lane.off 1
  c := Lane.off 2 }

end Sys2Proof.Machine
end

