-- ==== Sys2Proof/Machine/Ops.lean ====
section
/-! DEFINITION. The named operations on registers, memory and lanes that every meaning is written over: reading and writing a
register and its fields (R14 to R18), the lane's memories through the bank views of R195, write signatures (R106), free
values, and the lanes and dies of State. -/

namespace Sys2Proof.Machine

/-! ### Registers -/

/-- The value a register holds. -/
def Lane.rd (L : Lane) (r : Reg) : Word := look L.regs r.addr r.rst
/-- A register set by hardware. -/
def Lane.wr (L : Lane) (r : Reg) (v : Word) : Lane := { L with regs := put L.regs r.addr v r.rst }
/-- A field of a register. -/
def Lane.fld (L : Lane) (r : Reg) (f : Bf) : Nat := f.get (L.rd r)
/-- Whether a field is not 0. -/
def Lane.on (L : Lane) (r : Reg) (f : Bf) : Bool := f.on (L.rd r)
/-- A field set by hardware. -/
def Lane.setF (L : Lane) (r : Reg) (f : Bf) (n : Nat) : Lane := L.wr r (f.set (L.rd r) n)
/-- A flag raised by hardware: all bits of the field are set, and a clear that software writes in the same tick does not
clear them (R18). -/
def Lane.raise (L : Lane) (r : Reg) (f : Bf) : Lane :=
  { L.setF r f (2 ^ f.wid - 1) with setNow := L.setNow.set r.addr (L.setNow.at r.addr ||| f.mask.toNat) }
/-- One bit of a field raised. -/
def Lane.raiseBit (L : Lane) (r : Reg) (i : Nat) : Lane := L.raise r ⟨i, 1⟩
/-- A W1S field that software sets. -/
def Lane.setW1s (L : Lane) (r : Reg) (f : Bf) : Lane :=
  { L.setF r f (2 ^ f.wid - 1) with w1sNow := L.w1sNow.set r.addr (L.w1sNow.at r.addr ||| f.mask.toNat) }
/-- A W1S field that hardware clears: one that software sets in the same tick ends set (R19). -/
def Lane.dropW1s (L : Lane) (r : Reg) (f : Bf) : Lane := if L.w1sNow.at r.addr &&& f.mask.toNat = 0 then L.setF r f 0 else L
/-- A count in a field that stops at the field's largest value. -/
def Lane.bump (L : Lane) (r : Reg) (f : Bf) (n : Nat) : Lane := L.setF r f (min (2 ^ f.wid - 1) (L.fld r f + n))
/-- Bits raised that a report brings, as a mask over the register. -/
def Lane.raiseMask (L : Lane) (r : Reg) (m : Nat) : Lane :=
  { L.wr r (L.rd r ||| w32 m) with setNow := L.setNow.set r.addr (L.setNow.at r.addr ||| m) }
/-- A register as a two's-complement number. -/
def Lane.rdI (L : Lane) (r : Reg) : Int := (L.rd r).toInt

/-! ### Memory (R38, R195) -/

/-- The bytes of coefficient RAM that a word index names through the views of the axis areas (R193, R195): a view of bank 1
while ACTB is 1 shows the words of the other view's place. -/
def Lane.coefIdx (L : Lane) (w : Nat) : Nat :=
  if 0x10000 ≤ w ∧ w < 0x1C000 then
    let o := w % 0x1000
    if F.AX_BANK_ACTB.on (L.rd (R.AX_BANK ((w - 0x10000) / 0x1000))) then
      if 0x200 ≤ o ∧ o < 0x700 then w + 0x600 else if 0x800 ≤ o ∧ o < 0xD00 then w - 0x600 else w
    else w
  else w

/-- The place in the store of a byte address: coefficient RAM goes through its views. -/
def Lane.place (L : Lane) (a : Nat) : Nat :=
  if 0x30000000 ≤ a ∧ a < 0x30080000 then 0x30000000 + 4 * L.coefIdx ((a - 0x30000000) / 4) + a % 4 else a

/-- One byte of a lane's memory; a byte that nothing has written reads 0 (log entry 6). -/
def Lane.byte (L : Lane) (a : Nat) : Byte := look L.mem (L.place a) 0#8
def Lane.setByte (L : Lane) (a : Nat) (b : Byte) : Lane := { L with mem := put L.mem (L.place a) b 0#8 }

/-- The word at a byte address, least significant byte first. -/
def Lane.memW (L : Lane) (a : Nat) : Word :=
  w32 ((L.byte a).toNat + 256 * (L.byte (a + 1)).toNat + 65536 * (L.byte (a + 2)).toNat + 16777216 * (L.byte (a + 3)).toNat)
def Lane.setMemW (L : Lane) (a : Nat) (w : Word) : Lane :=
  (((L.setByte a (byteOf w.toNat 0)).setByte (a + 1) (byteOf w.toNat 1)).setByte (a + 2) (byteOf w.toNat 2)).setByte (a + 3)
    (byteOf w.toNat 3)

/-- A word of coefficient RAM by its index. -/
def Lane.coef (L : Lane) (w : Nat) : Word := L.memW (0x30000000 + 4 * w)
def Lane.setCoef (L : Lane) (w : Nat) (v : Word) : Lane := L.setMemW (0x30000000 + 4 * w) v

/-- The signature contribution of a word written into a window (R106): the CRC-32C of the address and the data. -/
def sigOf (a : Nat) (w : Word) : Nat := crc32c (leBytes 4 a ++ leBytes 4 w.toNat)

/-- Whether a byte address lies in an enabled write-signature window (R106). -/
def Lane.inWindow (L : Lane) (a : Nat) : Bool :=
  (List.range 4).any fun k =>
    decide ((L.rd (R.FIX_WSBASE k)).toNat ≤ a) && decide (a < (L.rd (R.FIX_WSBASE k)).toNat + L.fld (R.FIX_WSSIZE k) F.FIX_WSSIZE_SIZE)

/-- What the lane processor, the engine or a debugger replay writes to an address counts in the signature of the interval where the address lies
in a window (R106). -/
def Lane.signW (L : Lane) (a : Nat) (w : Word) : Lane :=
  { L with ck := { L.ck with sig := if L.inWindow a then w32 (L.ck.sig.toNat + sigOf a w) else L.ck.sig } }
/-- A word written to memory by the lane processor, the engine or a debugger replay (R106). -/
def Lane.storeW (L : Lane) (a : Nat) (w : Word) : Lane := (L.setMemW a w).signW a w

/-- The start of axis a's area, as a word index of coefficient RAM (R193). -/
def axArea (a : Nat) : Nat := 0x10000 + a * 0x1000

/-! ### Flash (R550) -/

/-- A byte of the lane's flash; a byte that nothing has written reads 0xFF (log entry 7). -/
def Lane.flashByte (L : Lane) (a : Nat) : Byte := look L.flash a 0xFF#8
def Lane.flashW (L : Lane) (a : Nat) : Word :=
  w32 (leNat [L.flashByte a, L.flashByte (a + 1), L.flashByte (a + 2), L.flashByte (a + 3)])
/-- Bytes programmed from an address on. -/
def Lane.flashBytes (L : Lane) (a : Nat) : List Byte → Lane
  | [] => L
  | b :: t => Lane.flashBytes { L with flash := put L.flash a b 0xFF#8 } (a + 1) t
/-- A 4 KiB sector erased. -/
def Lane.flashErase (L : Lane) (a : Nat) : Lane := { L with flash := L.flash.filter fun e => e.1 < a || a + 0x1000 ≤ e.1 }
/-- A sector erased and words programmed from its start. -/
def Lane.flashWords (L : Lane) (a : Nat) (ws : List Word) : Lane :=
  (L.flashErase a).flashBytes a (ws.flatMap fun w => leBytes 4 w.toNat)

/-! ### Free values -/

/-- A free value taken by a lane; `who` is the lane's number. -/
def Lane.takeFree (L : Lane) (who : Nat) : Word × Lane := (Config.freeValue who L.free, { L with free := L.free + 1 })

/-- `n` words that the spec does not give, in the flash: what programming that fails its verify leaves. -/
def Lane.flashNoise (L : Lane) (a n : Nat) : Lane :=
  { L.flashBytes a ((List.range n).flatMap fun i => leBytes 4 (Config.freeValue L.me (L.free + i)).toNat) with free := L.free + n }
/-- A sector erased and left so. -/
def Lane.flashFree (L : Lane) (a n : Nat) : Lane := (L.flashErase a).flashNoise a n

/-! ### Axes, lanes and dies -/

def Lane.updAx (L : Lane) (a : Nat) (f : Ax → Ax) : Lane := { L with ax := L.ax.upd a f }
def Lane.updMc (L : Lane) (b : Nat) (f : Mc → Mc) : Lane := { L with mc := L.mc.upd b f }
def Lane.updWp (L : Lane) (w : Nat) (f : Wp → Wp) : Lane := { L with wp := L.wp.upd w f }

/-- Whether an axis is active (R55). -/
def Lane.axActive (L : Lane) (a : Nat) : Bool := L.on (R.AX_STAT a) F.AX_STAT_ACTIVE
def Lane.axKind (L : Lane) (a : Nat) : Nat := L.fld (R.AX_CFG a) F.AX_CFG_KIND

/-- Whether an axis of kind steering, feel, brake actuator or pump binds a bridge (R52), and whether a valve axis binds a
valve channel. -/
def Lane.bindsBridge (L : Lane) (a b : Nat) : Bool :=
  let w := L.rd (R.AX_BIND a)
  decide (1 ≤ L.axKind a ∧ L.axKind a ≤ 4) &&
    ((F.AX_BIND_FIRST_V.on w && decide (F.AX_BIND_FIRST.get w = b)) || (F.AX_BIND_SECOND_V.on w && decide (F.AX_BIND_SECOND.get w = b)))
def Lane.bindsValve (L : Lane) (a v : Nat) : Bool :=
  let w := L.rd (R.AX_BIND a)
  decide (L.axKind a = 5) &&
    ((F.AX_BIND_FIRST_V.on w && decide (F.AX_BIND_FIRST.get w = v)) || (F.AX_BIND_SECOND_V.on w && decide (F.AX_BIND_SECOND.get w = v)))

/-- The active axis that binds a bridge or a valve channel. -/
def Lane.axisOfBridge (L : Lane) (b : Nat) : Option Nat := (List.range 12).find? fun a => L.axActive a && L.bindsBridge a b
def Lane.axisOfValve (L : Lane) (v : Nat) : Option Nat := (List.range 12).find? fun a => L.axActive a && L.bindsValve a v

def State.lane (s : State) : LaneId → Lane
  | .A => s.a
  | .B => s.b
  | .C => s.c
def State.setLane (s : State) (l : LaneId) (L : Lane) : State :=
  match l with
  | .A => { s with a := L }
  | .B => { s with b := L }
  | .C => { s with c := L }
/-- One lane changed. -/
def State.onLane (s : State) (l : LaneId) (f : Lane → Lane) : State := s.setLane l (f (s.lane l))
/-- Every lane changed. -/
def State.onLanes (s : State) (f : LaneId → Lane → Lane) : State := { s with a := f .A s.a, b := f .B s.b, c := f .C s.c }

/-- A driver die by its number. -/
def State.die (s : State) (n : Nat) : Die := match n with | 0 => s.d0 | 1 => s.d1 | 2 => s.d2 | _ => s.d3
def State.setDie (s : State) (n : Nat) (d : Die) : State :=
  match n with
  | 0 => { s with d0 := d }
  | 1 => { s with d1 := d }
  | 2 => { s with d2 := d }
  | _ => { s with d3 := d }
/-- One die changed. -/
def State.onDie (s : State) (n : Nat) (f : Die → Die) : State := s.setDie n (f (s.die n))

end Sys2Proof.Machine
end

