-- ==== Sys2Proof/Machine/Log.lean ====
section
/-! DEFINITION. The mailbox queue of a lane (R572, R579), the log records that a lane's hardware posts (R524, R538, R584),
and the record of a detected fault (R489, R524). -/

namespace Sys2Proof.Machine

/-- The queue levels that the registers show. -/
def Lane.showPosts (L : Lane) : Lane :=
  (L.setF R.BMB_STAT F.BMB_STAT_OLEVEL L.posts.length).setF R.PWR_NVMST F.PWR_NVMST_LOGQ L.retained.length

/-- A post (R579): refused while 16 are queued, while EN reads 0 or while the link is down; one of KIND 0 waits in the
retained area while the NVM guard is active (R572). -/
def Lane.post (L : Lane) (kind : Nat) (ws : List Word) : Lane :=
  if kind = 0 ∧ L.on R.PWR_NVMST F.PWR_NVMST_ACTIVE = true then
    if L.retained.length < 256 then
      Lane.showPosts { L with retained := L.retained ++ [⟨kind, ws, L.rd R.FIX_CNUM, true⟩] }
    else (L.bump R.PWR_NVMST F.PWR_NVMST_DROP 1).raise R.PWR_EVT F.PWR_EVT_LOGDROP
  else if !L.on R.BMB_CTRL F.BMB_CTRL_EN || !L.on R.BMB_CTRL F.BMB_CTRL_LINK || decide (16 ≤ L.posts.length) then
    (L.bump R.BMB_CNT F.BMB_CNT_REF 1).raise R.BMB_STAT F.BMB_STAT_OFULL
  else Lane.showPosts { L with posts := L.posts ++ [⟨kind, ws, L.rd R.FIX_CNUM, false⟩] }

/-- A log record of the given type and payload (R584). -/
def Lane.logRec (L : Lane) (ty : Nat) (p0 p1 p2 p3 : Word) : Lane := L.post 0 [w32 ty, p0, p1, p2, p3, 0, 0, 0]

/-- A record that the lane's hardware posts whether or not the image has enabled the mailbox and the link is up (R25, R584, log entry 53): it
waits in the queue for the link. -/
def Lane.reportRec (L : Lane) (ty : Nat) (p0 p1 p2 p3 : Word) : Lane :=
  if L.on R.PWR_NVMST F.PWR_NVMST_ACTIVE || decide (16 ≤ L.posts.length) then L.logRec ty p0 p1 p2 p3
  else Lane.showPosts { L with posts := L.posts ++ [⟨0, [w32 ty, p0, p1, p2, p3, 0, 0, 0], L.rd R.FIX_CNUM, false⟩] }

/-- A fault that a lane detects (R489, R524): its class and location, the count, and the log record. -/
def Lane.fault (L : Lane) (cls loc : Nat) : Lane :=
  let L1 := ((L.setF R.FIX_FLTLAST F.FIX_FLTLAST_CLASS cls).setF R.FIX_FLTLAST F.FIX_FLTLAST_LOC loc).bump R.FIX_FLTCNT
    F.FIX_FLTCNT_CNT 1
  L1.logRec 1 (L1.rd R.FIX_FLTLAST) (L1.rd R.FIX_FLTCNT) 0 0

/-- A fault recorded where a condition holds. -/
def Lane.faultIf (L : Lane) (c : Bool) (cls loc : Nat) : Lane := if c then L.fault cls loc else L

/-- The state of lane `k` in FIX_STAT (R126). -/
def Lane.laneSt (L : Lane) (k : Nat) : Nat :=
  L.fld R.FIX_STAT (if k = 0 then F.FIX_STAT_STA else if k = 1 then F.FIX_STAT_STB else F.FIX_STAT_STC)

/-- The adopted base mode (R533): 1 Harbour, 2 Run. -/
def Lane.base (L : Lane) : Nat := (L.rd R.PWR_MODE).toNat % 4
/-- The degraded state (R526). -/
def Lane.dmode (L : Lane) : Nat := L.fld R.FIX_DGSTAT F.FIX_DGSTAT_DMODE

end Sys2Proof.Machine
end

