-- ==== Sys2Proof/Machine/Edge.lean ====
section
/-! DEFINITION. The edge scheduler of a lane and its driver-link end: leg values and loads (R286 to R293), packet flags and
packets (R294, R296, R299, R300, R504, R537), the lane's copy of a period start (R36), the reports from the dies (R124, R148,
R301, R341, R527, R628), silent dies (R497), clears (R322) and the bridge check (R335). `me` is the lane's number. A packet
goes out as a pair of a die number and the packet. -/

namespace Sys2Proof.Machine

/-! ### Resources -/

/-- The key of a resource in `Edg`, its die, and its place in a packet (R296). -/
def resKey : Res → Nat
  | .bridge b => b.val
  | .valve v => 8 + v.val
def resDie : Res → Nat
  | .bridge b => b.val / 2
  | .valve v => v.val / 3
def resPlace : Res → Nat
  | .bridge b => b.val % 2
  | .valve v => 2 + v.val % 3
/-- The key of the resource at a place of a die. -/
def placeKey (n r : Nat) : Nat := if r < 2 then 2 * n + r else 8 + 3 * n + (r - 2)
def dieKey (n : Nat) : Nat := 20 + n

def Lane.updEdg (L : Lane) (f : Edg → Edg) : Lane := { L with edg := f L.edg }

/-! ### Schedules -/

/-- The pending period length of a bridge (R286, R288): EDG_BPERb.PLEN until the first period command. -/
def Lane.pendLen (L : Lane) (b : Nat) : Nat :=
  if L.edg.plen.at b = 0 then L.fld (R.EDG_BPER b) F.EDG_BPER_PLEN else L.edg.plen.at b

/-- The period length of a bridge by the lane's own loads (R288, R289): an odd bridge with SYNC follows its neighbour. -/
def Lane.brLen (L : Lane) (b : Nat) : Nat :=
  let own : Nat → Nat := fun k => if (L.edg.loaded.at k).plen = 0 then L.fld (R.EDG_BPER k) F.EDG_BPER_PLEN else (L.edg.loaded.at k).plen
  if b % 2 = 1 ∧ L.on (R.EDG_BCFG b) F.EDG_BCFG_SYNC = true then own (b - 1) else own b

/-- The period of a resource in 625 ps units: of a bridge, of a valve channel (R324), of a die tick (R300). -/
def Lane.resLen (L : Lane) (key : Nat) : Nat :=
  if key < 8 then L.brLen key
  else if key < 20 then 1600000 / (L.fld (R.EDG_VCFG (key - 8)) F.EDG_VCFG_FPWM + 1)
  else 80000

/-- The die of a resource key. -/
def keyDie (key : Nat) : Nat := if key < 8 then key / 2 else if key < 20 then (key - 8) / 3 else key - 20

/-- The bridge whose length and start a bridge's periods have: an odd bridge with SYNC has those of its neighbour (R289). -/
def Lane.lead (L : Lane) (key : Nat) : Nat := if key % 2 = 1 ∧ key < 8 ∧ L.on (R.EDG_BCFG key) F.EDG_BCFG_SYNC = true then key - 1 else key

/-- The length of the `j`-th period after the one in progress, as the lane knows it (R117, R291): that of the period in progress, then those
it has sent packets for, then that of the loaded schedule. -/
def Lane.lenAt (L : Lane) (key j : Nat) : Nat :=
  if j = 0 then (if L.edg.lenNow.at key = 0 then L.resLen key else L.edg.lenNow.at key)
  else match (L.edg.sent.at (L.lead key)).find? fun e => e.1 = L.edg.pnum.at (L.lead key) + j with
    | some e => e.2
    | none => L.resLen key

/-- The vote instant in the `j`-th period after the one in progress, by the lane's own copy of the period start, in its ticks of 5 ns: VLEAD
before the end of that period, at most half its length (R117). -/
def Lane.voteAt (L : Lane) (key j : Nat) : Nat :=
  let t := L.lenAt key j
  let past := (List.range j).foldl (fun n i => n + L.lenAt key i) 0
  L.edg.pstart.at key + (past + (t - min (L.fld (R.DLK_CFG (keyDie key)) F.DLK_CFG_VLEAD * 200) (t / 2))) / 8
/-- The vote instant for the period that follows the one in progress. -/
def Lane.voteTick (L : Lane) (key : Nat) : Nat := L.voteAt key 0

/-- One leg's edges from its value (R287): the high time, rise and fall, each rounded half to even. -/
def legEdges (d : Int) (t : Nat) : Nat × Nat :=
  let h := rneShift (max 0 d * t) 31
  let r := rneShift ((t : Int) - h) 1
  (r.toNat, (r + h).toNat)

/-- The leg values that a packet carries: the program's in RUN, with what the block adds, else the block's (R239, R249). -/
def Lane.legValues (L : Lane) (b : Nat) : List Int :=
  let o := L.edg.ovr.at b
  let l := L.edg.loaded.at b
  (List.range 3).map fun k =>
    if o.run then satI 32 ((l.legs.getD k 0).toInt + o.legs.getD k 0) else o.legs.getD k 0

/-- An OUT to a bridge (R286, R288, R239): `idx` 0 to 2 a leg value, passed only in RUN; 3 the period length. -/
def Lane.outBridge (L : Lane) (b idx : Nat) (w : Word) : Lane :=
  if idx < 3 then
    if (L.edg.ovr.at b).run then L.updEdg fun e => { e with legs := e.legs.set (3 * b + idx) w } else L
  else
    let s := max (L.fld (R.EDG_BTIM b) F.EDG_BTIM_MINP) (L.fld (R.EDG_BTIM b) F.EDG_BTIM_DT)
    if 16000 ≤ w.toNat ∧ w.toNat ≤ 800000 ∧ 4 * s ≤ w.toNat then L.updEdg fun e => { e with plen := e.plen.set b w.toNat }
    else L.raise (R.EDG_BEVT b) F.EDG_BEVT_PLENERR

/-- An OUT to a valve channel (R299): the set-point in 0.1 mA. -/
def Lane.outValve (L : Lane) (v : Nat) (w : Word) : Lane :=
  L.updEdg fun e => { e with iset := e.iset.set v (clampI 0 30000 (w.toInt.fdiv 65536)).toNat }

/-! ### Packets -/

/-- Whether the lane sends packets (R127, R504, R569): not while it is off, odd, sounding, receiving or out, and not once the
power-down is agreed. -/
def Lane.sends (L : Lane) (me : Nat) : Bool :=
  let c := L.laneSt me
  decide (c = 1 ∨ c = 2 ∨ c = 3 ∨ c = 7 ∨ c = 8) && !decide (L.pw.slpAns = some (7, 0))

/-- Whether every packet carries EN 0, STOP 1 and OFFREQ 1 (R134, R143, R504). -/
def Lane.allOffPkts (L : Lane) : Bool := L.edg.split || L.edg.giveUp || L.on R.FIX_DBG F.FIX_DBG_HALTED

/-- The exclude bits (R123, R504): the lanes declared odd and not yet back, those that are out, and on giving up the own bit
and those known to have failed. -/
def Lane.exclBits (L : Lane) (me : Nat) : Nat :=
  let m := (List.range 3).foldl (fun m k => m ||| (if [4, 5, 6, 9].contains (L.laneSt k) then 2 ^ k else 0)) 0
  m ||| L.edg.failed ||| (if L.edg.giveUp then 2 ^ me else 0)

/-- Whether an enable counts in the packets for a period of a resource: a disable that waits for its boundary is not cancelled (R48, R49). -/
def Lane.enFor (L : Lane) (r : Reg) (key seq : Nat) : Bool :=
  L.on r F.EDG_CTRL_EN && !L.edg.closing.any fun e => decide (e.1 = r.addr) && decide (e.2.1 = key) && decide (seq ≤ e.2.2)

/-- Outputs that wait for software, by their keys: bridges, valve channels from 8, safety outputs from 40. -/
def Lane.holdKeys (L : Lane) (p : Nat → Bool) : Lane :=
  L.updEdg fun e => { e with held := ((List.range 20 ++ (List.range 8).map (· + 40)).filter p).foldl (fun t k => t.set k true) e.held }
/-- Every output waits for software (R138, R143). -/
def Lane.holdOutputs (L : Lane) : Lane := L.holdKeys fun _ => true

/-- EN, STOP and OFFREQ of a resource's packet for a period (R294, R497, R517, R537). -/
def Lane.resFlags (L : Lane) (key seq : Nat) : Bool × Bool × Bool :=
  if L.allOffPkts then (false, true, true)
  else
    let hold := decide (L.base ≠ 2) || L.edg.silent.at (keyDie key)
    let lo := decide (L.dmode = 4)
    if key < 8 then
      (L.enFor R.EDG_CTRL key seq && L.enFor (R.EDG_BCFG key) key seq && L.edg.bok.at key && !L.edg.held.at key,
       lo || L.edg.stopMc.at key || L.edg.stopSf.at key,
       hold || (L.axisOfBridge key).isNone || !(L.edg.ovr.at key).drive)
    else
      (L.enFor R.EDG_CTRL key seq && L.enFor (R.EDG_VCFG (key - 8)) key seq && !L.edg.held.at key,
       lo || L.edg.stopSf.at key, hold || (L.axisOfValve (key - 8)).isNone)

/-- The packet of a bridge or valve channel for a period (R294, R296). -/
def Lane.resPkt (L : Lane) (me key seq : Nat) : Pkt :=
  let f := L.resFlags key seq
  let t := L.resLen key
  let place := if key < 8 then key % 2 else 2 + (key - 8) % 3
  { (default : Pkt) with
    lane := me, res := some place, seq := seq, en := f.1, stop := f.2.1, offreq := f.2.2, excl := L.exclBits me
    split := L.edg.split
    plen := if key < 8 then (if (L.edg.loaded.at key).plen = 0 then L.fld (R.EDG_BPER key) F.EDG_BPER_PLEN else (L.edg.loaded.at key).plen) else 0
    edges := if key < 8 then (L.legValues key).flatMap fun d => [(legEdges d t).1, (legEdges d t).2] else []
    iset := if key < 8 then 0 else L.edg.iset.at (key - 8) }

/-- A packet sent for a period, with the length it carries. -/
def Lane.served (L : Lane) (key seq : Nat) : Lane :=
  L.updEdg fun e => { e with sent := e.sent.upd key fun l => (l.filter fun x => decide (x.1 ≠ seq)) ++ [(seq, L.resLen key)] }
/-- Whether a packet has been sent for a period. -/
def Lane.hasSent (L : Lane) (key seq : Nat) : Bool := (L.edg.sent.at key).any fun x => decide (x.1 = seq)

/-- A packet put on the link: the period is marked as served. -/
def Lane.sendRes (L : Lane) (me key seq : Nat) : Lane × List (Nat × Pkt) :=
  if L.sends me && L.edg.seen.at key then (L.served key seq, [(keyDie key, L.resPkt me key seq)]) else (L, [])

/-- The configuration word in its turn, or the die mode word in Last Lane and in Heave-to (R333, R499). The turn goes by the number of the die
tick, so that every lane sends the same word; the first tick after link bring-up begins the round (log entry 58). -/
def Lane.cfgWord (L : Lane) (n seq : Nat) : Nat × Word :=
  let dm := L.dmode
  if dm = 2 ∨ (dm = 3 ∧ L.fld R.FIX_DGSTAT F.FIX_DGSTAT_HCAUSE = 1) then
    (0x3FF, w32 ((dm - 1) + 16 * L.fld R.FIX_DGSTAT F.FIX_DGSTAT_LANES))
  else
    let ws := cfgWords n
    match ws[(seq - 1) % ws.length]? with
    | some (i, r) =>
      let act := decide (i < 0x3F0) && ([R.EDG_BCFG (2 * n), R.EDG_BCFG (2 * n + 1), R.EDG_VCFG (3 * n), R.EDG_VCFG (3 * n + 1),
        R.EDG_VCFG (3 * n + 2), R.EDG_SOCFG (2 * n), R.EDG_SOCFG (2 * n + 1)]).any fun q => q.addr = r.addr
      (i, if act then L.rd r &&& ~~~2#32 else L.rd r)
    | none => (0, 0)

/-- The die packet for a die tick (R294, R296, R300, R322). -/
def Lane.diePkt (L : Lane) (me n seq : Nat) : Pkt :=
  let c := L.cfgWord n seq
  let off := L.allOffPkts
  let hold := decide (L.base ≠ 2)
  let on : Nat → Nat := fun i => b2n (!hold && !off && !L.edg.silent.at n && !L.edg.held.at (40 + 2 * n + i) && L.on (R.EDG_SOCMD (2 * n + i)) F.EDG_SOCMD_ON)
  { (default : Pkt) with
    lane := me, res := none, seq := seq, en := !off && L.enFor R.EDG_CTRL (dieKey n) seq
    stop := off || decide (L.dmode = 4) || L.edg.stopSf.at (dieKey n), offreq := off || hold
    excl := L.exclBits me, split := L.edg.split, lock := L.on R.IMG_LOCK_STAT F.IMG_LOCK_STAT_LOCKED
    soon := on 0 + 2 * on 1, clr := L.edg.clr.at n, cfgIdx := c.1, cfgVal := c.2 }

def Lane.sendDie (L : Lane) (me n seq : Nat) : Lane × List (Nat × Pkt) :=
  if L.sends me && L.edg.seen.at (dieKey n) then
    ((L.served (dieKey n) seq).updEdg fun e => { e with clr := e.clr.set n 0 }, [(n, L.diePkt me n seq)])
  else (L, [])

/-- The first coming period whose vote instant lies at least `lead` ticks ahead: 0 is the period after the one in progress. -/
def Lane.aheadBy (L : Lane) (key lead : Nat) : Nat :=
  let v := L.voteAt key 1
  let len := max 1 (L.resLen key / 8)
  if L.ticks + lead ≤ L.voteAt key 0 then 0
  else if L.ticks + lead ≤ v then 1
  else 1 + (L.ticks + lead - v + (len - 1)) / len

/-- A load (R290, R291): the pending values become the loaded schedule of every bridge in the mask, and a packet goes out at
once for the first period whose vote instant lies at least 2.0 µs ahead. -/
def Lane.loadEdges (L : Lane) (me mask : Nat) : Lane × List (Nat × Pkt) :=
  let last := if L.edg.ldTick = L.ticks + 1 then L.fld R.EDG_LDSTAT F.EDG_LDSTAT_LAST ||| mask else mask
  let L0 := (L.setF R.EDG_LDSTAT F.EDG_LDSTAT_LAST last).updEdg fun e => { e with ldTick := L.ticks + 1 }
  (List.range 8).foldl (fun (acc : Lane × List (Nat × Pkt)) b =>
    if mask.testBit b then
      let ld : Load := ⟨acc.1.pendLen b, (List.range 3).map fun k => acc.1.edg.legs.at (3 * b + k)⟩
      let L1 := acc.1.updEdg fun e => { e with loaded := e.loaded.set b ld }
      let late := L1.edg.seen.at b && decide (L1.aheadBy b 400 ≠ L1.aheadBy b 1)
      let L2 := if late then L1.raiseBit R.EDG_LDSTAT (8 + b) else L1
      let r := L2.sendRes me b (L2.edg.pnum.at b + 1 + L2.aheadBy b 400)
      (r.1, acc.2 ++ r.2)
    else acc) (L0, [])

/-- The packets sent at once for a stop of the safety functions (R467): every bridge and valve channel of a list and every die
of another. -/
def Lane.stopNow (L : Lane) (me : Nat) (keys dies : List Nat) : Lane × List (Nat × Pkt) :=
  let r := keys.foldl (fun (acc : Lane × List (Nat × Pkt)) k =>
    let x := acc.1.sendRes me k (acc.1.edg.pnum.at k + 1 + acc.1.aheadBy k 400); (x.1, acc.2 ++ x.2)) (L, [])
  dies.foldl (fun acc n =>
    let x := acc.1.sendDie me n (acc.1.edg.pnum.at (dieKey n) + 1 + acc.1.aheadBy (dieKey n) 400); (x.1, acc.2 ++ x.2)) r

/-- The deadline 2.5 µs before a vote instant (R292, R299): a packet for a resource for which none has been sent for that
period. -/
def Lane.sendDeadline (L : Lane) (me key : Nat) : Lane × List (Nat × Pkt) :=
  if L.edg.seen.at key ∧ L.voteTick key ≤ L.ticks + 500 ∧ L.hasSent key (L.edg.pnum.at key + 1) = false
  then L.sendRes me key (L.edg.pnum.at key + 1) else (L, [])

/-- The die packet 2.5 µs before the lane's copy of a die tick's vote instant (R300). -/
def Lane.buildDie (L : Lane) (me n : Nat) : Lane × List (Nat × Pkt) :=
  if L.edg.seen.at (dieKey n) ∧ L.voteTick (dieKey n) ≤ L.ticks + 500 ∧ L.hasSent (dieKey n) (L.edg.pnum.at (dieKey n) + 1) = false
  then L.sendDie me n (L.edg.pnum.at (dieKey n) + 1) else (L, [])

/-- Packets put on the links as their words, each where its link is up (R118, R296). -/
def State.putPkts (s : State) (ps : List (Nat × Pkt)) : State :=
  ps.foldl (fun s p => s.onDie p.1 fun d => if d.on && decide (2 ≤ d.links.at p.2.lane) then { d with tx := d.tx ++ [(p.2.lane, p.2.words)] } else d) s

/-- A lane's action that sends packets. -/
def State.laneSend (s : State) (l : LaneId) (f : Lane → Lane × List (Nat × Pkt)) : State :=
  let r := f (s.lane l)
  (s.setLane l r.1).putPkts r.2

/-! ### Returns -/

/-- The first record for a lane on a die's return links that `p` accepts. -/
def Die.takeRet {α : Type} (d : Die) (me : Nat) (p : Ret → Option α) : Option α × Die :=
  match d.ret.find? (fun e => e.1 = me && (p e.2).isSome) with
  | none => (none, d)
  | some e => (p e.2, { d with ret := d.ret.eraseP fun e => e.1 = me && (p e.2).isSome })

/-- A record has come from die `n` (R497); a report ends its silence. -/
def Lane.heard (L : Lane) (n : Nat) (report : Bool) : Lane :=
  L.updEdg fun e => { e with lastRet := e.lastRet.set n L.ticks, silent := if report then e.silent.set n false else e.silent }

/-- The link latency of the lane's link to a die (R36, R148), in its ticks. -/
def Lane.latency (L : Lane) (me n : Nat) : Nat :=
  L.fld (R.DLK_LAT n) (if me = 0 then F.DLK_LAT_LAT_A else if me = 1 then F.DLK_LAT_LAT_B else F.DLK_LAT_LAT_C)

/-! ### Disables that wait for a boundary (R47 to R49) -/

/-- A disable of a resource begins: it takes effect with the first period for which no packet has been sent. -/
def Lane.closeKey (L : Lane) (r : Reg) (key : Nat) : Lane :=
  let from_ := (L.edg.sent.at key).foldl (fun m e => max m e.1) (L.edg.pnum.at key) + 1
  L.updEdg fun e => { e with closing := e.closing ++ [(r.addr, key, from_)] }
/-- Whether a disable of an enable still waits. -/
def Lane.closes (L : Lane) (r : Reg) : Bool := L.edg.closing.any fun e => decide (e.1 = r.addr)
/-- The register whose enable a bridge or a valve channel has. -/
def keyCfg (key : Nat) : Reg := if key < 8 then R.EDG_BCFG key else R.EDG_VCFG (key - 8)
/-- The disables of a resource that have reached their period leave; ACTIVE falls with the last one of its register, and an enable that software has
set again takes effect at the next boundary. -/
def Lane.closeAt (L : Lane) (key seq : Nat) : Lane :=
  let past : Nat × Nat × Nat → Bool := fun e => decide (e.2.1 = key) && decide (e.2.2 ≤ seq)
  let ended := L.edg.closing.filter past
  let L0 := if L.on R.EDG_CTRL F.EDG_CTRL_EN && !L.closes R.EDG_CTRL then L.setF R.EDG_CTRL F.EDG_CTRL_ACTIVE 1 else L
  let L1 := L0.updEdg fun e => { e with closing := e.closing.filter fun x => !past x }
  let L2 := if (ended.any fun e => decide (e.1 = R.EDG_CTRL.addr)) && !L1.closes R.EDG_CTRL then L1.setF R.EDG_CTRL F.EDG_CTRL_ACTIVE 0 else L1
  if key < 20 ∧ (ended.any fun e => decide (e.1 = (keyCfg key).addr)) = true then L2.setF (keyCfg key) F.EDG_CTRL_ACTIVE 0 else L2
/-- The disables of a die that has gone silent end: no boundary of its periods can be seen (R497, log entry 60). -/
def Lane.closeDie (L : Lane) (n : Nat) : Lane :=
  (List.range 24).foldl (fun X key => if keyDie key = n then X.closeAt key (X.edg.closing.foldl (fun m e => max m e.2.2) 0) else X) L

/-- A period-start mark time-stamped (R36): the lane's copy of the period start, the period's number and its length. -/
def Lane.mark (L : Lane) (me n place seq : Nat) : Lane :=
  let key := placeKey n place
  let len := if L.lead key = key then (match (L.edg.sent.at key).find? fun e => e.1 = seq with | some e => e.2 | none => L.resLen key)
    else L.edg.lenNow.at (L.lead key)
  let L1 := (L.heard n false).updEdg fun e => { e with
    pstart := e.pstart.set key (L.ticks - L.latency me n), pnum := e.pnum.set key seq, lenNow := e.lenNow.set key len
    sent := e.sent.upd key fun l => l.filter fun x => decide (seq < x.1), seen := e.seen.set key true }
  let L2 := if 8 ≤ key ∧ L1.closes (keyCfg key) = false then L1.setF (keyCfg key) F.EDG_VCFG_ACTIVE (L1.fld (keyCfg key) F.EDG_VCFG_EN) else L1
  L2.closeAt key seq

/-- A bridge report shown (R301, R335, R341). -/
def Lane.bridgeReport (L : Lane) (n place : Nat) (rep : BrRep) : Lane :=
  let b := 2 * n + place
  let mine := [R.EDG_BCFG b, R.EDG_BPER b, R.EDG_BTIM b, R.EDG_BREF b, R.EDG_BVDS b, R.EDG_BBLK b]
  let cfgd := decide (rep.cfg = mine.map fun r => if r.addr = (R.EDG_BCFG b).addr then L.rd r &&& ~~~2#32 else L.rd r)
  let st := F.EDG_BSTAT_SWITCHING.set 0 (b2n rep.switching)
  let st := F.EDG_BSTAT_OFF.set st (b2n rep.off)
  let st := F.EDG_BSTAT_LATCHED.set st (b2n rep.latched)
  let st := F.EDG_BSTAT_HH.set st rep.hh
  let st := F.EDG_BSTAT_REFR.set st rep.refr
  let st := F.EDG_BSTAT_BSTWAIT.set st rep.bst
  let st := F.EDG_BSTAT_CFGD.set st (b2n cfgd)
  let st := F.EDG_BSTAT_SEQ.set st rep.seq
  let L1 := (L.heard n true).wr (R.EDG_BSTAT b) st
  let L1 := ((L1.wr (R.EDG_BCARU b) (wInt (rep.carry.at 0))).wr (R.EDG_BCARV b) (wInt (rep.carry.at 1))).wr (R.EDG_BCARW b)
    (wInt (rep.carry.at 2))
  let L1 := (L1.bump (R.EDG_BCNT b) F.EDG_BCNT_REFR rep.refreshes).bump (R.EDG_BCNT b) F.EDG_BCNT_SUPP rep.suppressed
  let first := decide (L1.fld (R.EDG_BEVT b) F.EDG_BEVT_CLASS = 0)
  let L1 := if first && decide (rep.cls ≠ 0) then
      (L1.setF (R.EDG_BEVT b) F.EDG_BEVT_LEGS rep.legs).setF (R.EDG_BEVT b) F.EDG_BEVT_CLASS rep.cls else L1
  let L1 := L1.raiseMask (R.EDG_BEVT b) (rep.evt % 1024)
  let L1 := if L.closes (R.EDG_BCFG b) then L1
    else L1.setF (R.EDG_BCFG b) F.EDG_BCFG_ACTIVE (b2n (L.on (R.EDG_BCFG b) F.EDG_BCFG_EN && L.edg.bok.at b && cfgd))
  let power := F.EDG_BEVT_DESAT.mask.toNat ||| F.EDG_BEVT_HARD.mask.toNat ||| F.EDG_BEVT_PHPH.mask.toNat
  let drive := F.EDG_BEVT_ILK.mask.toNat ||| F.EDG_BEVT_BSTUV.mask.toNat ||| F.EDG_BEVT_HSSTUCK.mask.toNat
  (L1.faultIf (decide (rep.evt &&& power ≠ 0)) 8 b).faultIf (decide (rep.evt &&& drive ≠ 0)) 6 n

/-- A valve report shown (R301, R341). -/
def Lane.valveReport (L : Lane) (n place : Nat) (rep : VlRep) : Lane :=
  let v := 3 * n + (place - 2)
  let L1 := (L.heard n true).wr (R.EDG_VSTAT v) (F.EDG_VSTAT_DUTY.set (F.EDG_VSTAT_IMEAS.set 0 rep.imeas) rep.duty)
  let L1 := (L1.raiseMask (R.EDG_VEVT v) (rep.flags % 64)).setF (R.EDG_VEVT v) F.EDG_VEVT_LATCHED (b2n rep.latched)
  (L1.faultIf (decide (rep.flags % 16 ≠ 0)) 8 v).faultIf (rep.flags.testBit 4) 7 v

/-- The readback and flags of a safety output shown. -/
def Lane.soReport (L : Lane) (s : Nat) (o : DSo) : Lane :=
  let L1 := (L.raiseMask (R.EDG_SOSTAT s) o.flags).setF (R.EDG_SOSTAT s) F.EDG_SOSTAT_OUT (b2n o.on)
  let L1 := L1.setF (R.EDG_SOSTAT s) F.EDG_SOSTAT_LATCHED (b2n o.latched)
  let L1 := L1.setF (R.EDG_SOSTAT s) F.EDG_SOSTAT_OPOK (b2n o.opok)
  let L1 := L1.setF (R.EDG_SOCFG s) F.EDG_SOCFG_ACTIVE (L.fld (R.EDG_SOCFG s) F.EDG_SOCFG_EN)
  let stuck := F.EDG_SOSTAT_STUCK1.mask.toNat ||| F.EDG_SOSTAT_STUCK2.mask.toNat
  let shrt := F.EDG_SOSTAT_SHORT.mask.toNat ||| F.EDG_SOSTAT_OVC.mask.toNat
  (L1.faultIf (decide (o.flags &&& shrt ≠ 0)) 8 s).faultIf (decide (o.flags &&& stuck ≠ 0)) 7 s

/-- The state of a trip input shown. -/
def Lane.trReport (L : Lane) (t : Nat) (o : DTr) : Lane :=
  let L1 := (L.raiseMask (R.EDG_TRSTAT t) o.flags).setF (R.EDG_TRSTAT t) F.EDG_TRSTAT_LEVEL (b2n o.level)
  L1.setF (R.EDG_TRSTAT t) F.EDG_TRSTAT_LATCH (b2n o.latch)

/-- A die report shown (R148, R301, R341, R527), and a driver-die fault recorded (R628). -/
def Lane.dieReport (L : Lane) (n : Nat) (r : DieRep) : Lane :=
  let key := dieKey n
  let L1 := Lane.closeAt ((L.heard n true).updEdg fun e => { e with
    pstart := e.pstart.set key (L.ticks - L.latency L.me n), pnum := e.pnum.set key (r.seq + 1), lenNow := e.lenNow.set key (L.resLen key)
    sent := e.sent.upd key fun l => l.filter fun x => decide (r.seq + 1 < x.1), seen := e.seen.set key true }) key (r.seq + 1)
  let L1 := (L1.soReport (2 * n) (r.so.at 0)).soReport (2 * n + 1) (r.so.at 1)
  let L1 := (L1.trReport (2 * n) (r.tr.at 0)).trReport (2 * n + 1) (r.tr.at 1)
  let L1 := (List.range 2).foldl (fun L i => if r.brRef.testBit i then L.raise (R.EDG_BEVT (2 * n + i)) F.EDG_BEVT_CLRREF else L) L1
  let L1 := (List.range 3).foldl (fun L i => if r.vlRef.testBit i then L.raise (R.EDG_VEVT (3 * n + i)) F.EDG_VEVT_CLRREF else L) L1
  let L1 := (L1.raiseMask (R.EDG_DDSTAT n) r.flags).setF (R.EDG_DDSTAT n) F.EDG_DDSTAT_GDOK (b2n r.gdok)
  let L1 := L1.setF (R.EDG_DDSTAT n) F.EDG_DDSTAT_CFGSYNC (b2n r.sync)
  let L1 := L1.setF (R.EDG_DDSTAT n) F.EDG_DDSTAT_LOCKED (b2n r.locked)
  let L1 := L1.wr (R.EDG_OPSTAT n) (F.EDG_OPSTAT_PASS.set (F.EDG_OPSTAT_LAST.set 0 r.opLast) (b2n r.opPass))
  let ls := F.DLK_LSTAT_LNK_C.set (F.DLK_LSTAT_LNK_B.set (F.DLK_LSTAT_LNK_A.set 0 (r.links.at 0)) (r.links.at 1)) (r.links.at 2)
  let L1 := L1.wr (R.DLK_LSTAT n) (F.DLK_LSTAT_SPLITHOLD.set (F.DLK_LSTAT_OFFCONF.set ls (b2n r.offconf)) (b2n r.splithold))
  let dm := F.DLK_DMODE_LATCH.set (F.DLK_DMODE_LANES.set (F.DLK_DMODE_DMODE.set 0 r.dmode) r.lanes) r.latch
  let L1 := L1.wr (R.DLK_DMODE n) (F.DLK_DMODE_CHKMIS.set (F.DLK_DMODE_SILENT.set dm r.silent) (b2n r.chkmis))
  if r.fault then (L1.raise (R.DLK_EVT n) F.DLK_EVT_DIEFLT).fault 6 n else L1

/-- Add to a count of lane `k` in one of the counters of R148, which stop at 255. -/
def Lane.laneCount (L : Lane) (r : Reg) (k n : Nat) : Lane := L.bump r ⟨8 * k, 8⟩ n

/-- A vote report counted and shown (R118, R122 to R124, R148). -/
def Lane.voteReported (L : Lane) (n : Nat) (r : VoteRep) : Lane :=
  let L1 := (List.range 3).foldl (fun L k =>
    let L := L.laneCount (R.DLK_MISS n) k (b2n (r.miss.testBit k))
    let L := L.laneCount (R.DLK_LATE n) k (r.late.at k)
    let L := L.laneCount (R.DLK_CRC n) k (r.crc.at k)
    L.laneCount (R.DLK_OUTL n) k (b2n (r.outl.testBit k))) (L.heard n true)
  let L1 := L1.updEdg fun e => { e with
    outl := (List.range 3).foldl (fun t k => if r.outl.testBit k then t.upd k (· + 1) else t) e.outl }
  let L1 := if r.noagr then (L1.raise (R.DLK_EVT n) F.DLK_EVT_NOAGR).bump (R.DLK_NOAGR n) F.DLK_NOAGR_CNT 1 else L1
  let L1 := if r.holdoff ≠ 0 then L1.raise (R.DLK_EVT n) F.DLK_EVT_HOLDOFF else L1
  L1.setF (R.DLK_EVT n) F.DLK_EVT_EXCL r.excl

/-- 100 µs without a period-start mark or a die report from die `n` (R497): the die is taken as silent. -/
def Lane.dieSilent (L : Lane) (n : Nat) : Lane :=
  if L.edg.seen.at (dieKey n) ∧ L.edg.lastRet.at n + 20000 ≤ L.ticks ∧ L.edg.silent.at n = false
  then (L.updEdg fun e => { e with silent := e.silent.set n true }).closeDie n else L

/-! ### Clears and enables -/

/-- A clear bit for the next die packet (R322). -/
def Lane.addClear (L : Lane) (n bit : Nat) : Lane :=
  L.updEdg fun e => { e with clr := e.clr.upd n fun m => m ||| 2 ^ bit }

/-- The check of a bridge that is being enabled (R335). -/
def Lane.bridgeOk (L : Lane) (b : Nat) : Bool :=
  let dt := L.fld (R.EDG_BTIM b) F.EDG_BTIM_DT
  let mp := L.fld (R.EDG_BTIM b) F.EDG_BTIM_MINP
  let rw := L.fld (R.EDG_BREF b) F.EDG_BREF_REFW
  let rn := L.fld (R.EDG_BREF b) F.EDG_BREF_REFN
  let pl := L.fld (R.EDG_BPER b) F.EDG_BPER_PLEN
  let vd := L.fld (R.EDG_BVDS b) F.EDG_BVDS_VDSTH
  let hd := L.fld (R.EDG_BVDS b) F.EDG_BVDS_HARDTH
  let bl := L.fld (R.EDG_BVDS b) F.EDG_BVDS_DSBLK
  let bk := L.fld (R.EDG_BBLK b) F.EDG_BBLK_BLKLEN
  decide (dt + rw ≤ mp) && decide (4 * max mp dt ≤ pl) && decide (vd * 50 < hd * 1000)
    && decide (80 ≤ dt ∧ dt ≤ 8000) && decide (160 ≤ mp ∧ mp ≤ 16000) && decide (1 ≤ rn) && decide (640 ≤ rw ∧ rw ≤ 16000)
    && decide (16000 ≤ pl ∧ pl ≤ 800000) && decide (2 ≤ vd) && decide (2 ≤ hd) && decide (2 ≤ bl) && decide (1 ≤ bk)

/-- EDG_BCFGb.EN has changed from 0 to 1 (R335). -/
def Lane.bridgeEnabled (L : Lane) (b : Nat) : Lane :=
  let ok := L.bridgeOk b
  let L1 := L.updEdg fun e => { e with bok := e.bok.set b ok }
  if ok then L1 else L1.raise (R.EDG_BEVT b) F.EDG_BEVT_CFGERR

end Sys2Proof.Machine
end

