-- ==== Sys2Proof/Machine/PortFix.lean ====
section
/-! DEFINITION. The port fixes on the driver dies (R29, R410 to R413, R433, R434, R437): the votes over port records, the voted
windows and frames, the bus guardian and fault confinement. Die 0 serves Helm Net and Ethernet path A, die 1 path B, die 2
ISOBUS, die 3 the service CAN. What a port fix reports reaches every lane in the step in which it happens. -/

namespace Sys2Proof.Machine

/-- Data bytes of a DLC. -/
def dlcBytes (d : Nat) : Nat := ([0, 1, 2, 3, 4, 5, 6, 7, 8, 12, 16, 20, 24, 32, 48, 64] : List Nat).getD d 64

/-- TF of R417 in 625 ps units for `n` data bytes at a data rate in Mbit/s. -/
def frameTime (n rate : Nat) : Nat :=
  let bd := (5 * (5 + 8 * n) + 3) / 4 + (if n ≤ 16 then 28 else 33)
  52800 + bd * 1600 / rate

/-- A data rate by its code (R423), 1 Mbit/s without bit-rate switch. -/
def rateOf (code : Nat) (brs : Bool) : Nat := if brs then (if code = 0 then 2 else if code = 1 then 4 else 5) else 1

/-! ### Port records as words (R410) -/

/-- Bytes of data of a record: the length code of a CAN frame, the length of an Ethernet frame. -/
def PortRec.bytes (r : PortRec) : Nat :=
  if r.port = 4 then r.len else if r.noframe then 0 else if r.fdf then dlcBytes r.dlc else min 8 r.dlc

/-- The words of a record before its CRC. -/
def PortRec.body (r : PortRec) : List Word :=
  [w32 (r.port % 16 + 16 * (r.lane % 4) + 64 * b2n r.noframe + 128 * b2n r.arb + 256 * (r.tick % 256) + 2 ^ 16 * (r.tag % 65536)),
    w32 (r.wstart % 2 ^ 20), w32 (r.wlen % 2 ^ 14 + 2 ^ 16 * (r.gm % 32)),
    w32 (r.ident % 2 ^ 29 + 2 ^ 29 * b2n r.ide + 2 ^ 30 * b2n r.fdf + 2 ^ 31 * b2n r.brs), w32 (r.dlc % 16 + 2 ^ 16 * (r.len % 2048))]
  ++ (List.range ((r.bytes + 3) / 4)).map fun i => w32 (leNat ((r.data.drop (4 * i)).take 4))

/-- A record as it goes over a driver link: its words, the last one a CRC-32C over those before it. -/
def PortRec.words (r : PortRec) : List Word := r.body ++ [w32 (crc32c (wordsBytes r.body))]

/-- A record read from the words that arrive on a lane's link; none where the CRC or LANE fails its check. -/
def readRec (lane : Nat) (ws : List Word) : Option PortRec :=
  let w : Nat → Nat := fun k => (ws.getD k 0).toNat
  let r : PortRec := {
    lane := lane, port := w 0 % 16, noframe := (w 0).testBit 6, arb := (w 0).testBit 7, tick := w 0 / 256 % 256, tag := w 0 / 2 ^ 16,
    wstart := w 1 % 2 ^ 20, wlen := w 2 % 2 ^ 14, gm := w 2 / 2 ^ 16 % 32, ident := w 3 % 2 ^ 29, ide := (w 3).testBit 29,
    fdf := (w 3).testBit 30, brs := (w 3).testBit 31, dlc := w 4 % 16, len := w 4 / 2 ^ 16 % 2048, data := [] }
  if ws.getLast? ≠ some (w32 (crc32c (wordsBytes ws.dropLast))) ∨ w 0 / 16 % 4 ≠ lane then none
  else some { r with data := (wordsBytes (ws.dropLast.drop 5)).take r.bytes }

/-! ### Votes over port records (R411) -/

def majN (a b c : Nat) : Nat := (a &&& b) ||| (a &&& c) ||| (b &&& c)

/-- The bitwise 2-of-3 of three records; their data has the length that two of them have. -/
def majRec (a b c : PortRec) : PortRec :=
  { lane := 0, port := a.port, noframe := false, arb := maj3 a.arb b.arb c.arb, tick := majN a.tick b.tick c.tick, tag := a.tag,
    wstart := 0, wlen := majN a.wlen b.wlen c.wlen, gm := majN a.gm b.gm c.gm, ident := majN a.ident b.ident c.ident,
    ide := maj3 a.ide b.ide c.ide, fdf := maj3 a.fdf b.fdf c.fdf, brs := maj3 a.brs b.brs c.brs, dlc := majN a.dlc b.dlc c.dlc,
    len := majN a.len b.len c.len,
    data := (List.range (med3 a.data.length b.data.length c.data.length).toNat).map fun i =>
      (a.data.getD i 0 &&& b.data.getD i 0) ||| (a.data.getD i 0 &&& c.data.getD i 0) ||| (b.data.getD i 0 &&& c.data.getD i 0) }

/-- A record without what may differ between lanes. -/
def PortRec.core (r : PortRec) : PortRec := { r with lane := 0, wstart := 0 }

/-- The vote over the valid records of one frame: the voted frame with its start time, the outlier lanes, and whether no
agreement is reported. Only Helm Net compares start times. -/
def voteRecs (rs : List PortRec) : Option PortRec × Nat × Bool :=
  let p := rs.filter fun r => !r.noframe
  let helm := p.any fun r => decide (r.port = 1)
  let out := fun (v : PortRec) (ws : Nat) => rs.foldl (fun m r =>
    if r.noframe || decide (r.core ≠ v.core) || (helm && decide (400 < ((r.wstart : Int) - ws).natAbs)) then m ||| 2 ^ r.lane else m) 0
  match p with
  | [a, b, c] =>
    let v := majRec a b c
    let ws := (med3 a.wstart b.wstart c.wstart).toNat
    let near := cnt ([a, b, c].map fun r => decide (((r.wstart : Int) - ws).natAbs ≤ 400))
    if !helm || decide (2 ≤ near) then (some { v with wstart := ws }, out v ws, false) else (none, 0, true)
  | [a, b] =>
    if a.core = b.core ∧ (helm = false ∨ ((a.wstart : Int) - b.wstart).natAbs ≤ 400) then
      let ws := (rneShift ((a.wstart : Int) + b.wstart) 1).toNat
      (some { a.core with wstart := ws }, out a ws, false)
    else (none, rs.foldl (fun m r => if r.noframe then m ||| 2 ^ r.lane else m) 0, true)
  | _ => (none, 0, true)

/-! ### What the port fixes report to the lanes -/

/-- Outliers of a die's port votes counted in every lane (R124, R411). -/
def State.portOutl (s : State) (n mask : Nat) : State :=
  s.onLanes fun _ L => (List.range 3).foldl (fun L k =>
    if mask.testBit k then (L.laneCount (R.DLK_OUTL n) k 1).updEdg fun e => { e with outl := e.outl.upd k (· + 1) } else L) L

/-- The buffer of a matrix entry (R415). -/
def Lane.mxWord (L : Lane) (e i : Nat) : Word := L.memW ((L.rd R.HNET_MXBASE).toNat + 8 * e + 4 * i)
def Lane.mxBuf (L : Lane) (e : Nat) : Option Nat :=
  let w := (L.mxWord e 1).toNat
  if 128 ≤ e ∨ w.testBit 7 = true then none else some (w % 64)

/-- A flag of the buffer of a Helm Net TAG. -/
def Lane.hnFlag (L : Lane) (tag : Nat) (f : Bf) : Lane :=
  match L.mxBuf tag with | some k => L.raise (R.HNET_BST k) f | none => L

/-- The error counters of a Helm Net path shown (R437, R450). -/
def Lane.hnErr (L : Lane) (p : Nat) (d : Die) : Lane :=
  let w := F.HNET_ERRA_RBF.set (F.HNET_ERRA_TEC.set (L.rd (if p = 0 then R.HNET_ERRA else R.HNET_ERRB)) (min 255 d.tec)) d.rb
  L.wr (if p = 0 then R.HNET_ERRA else R.HNET_ERRB) (F.HNET_ERRA_BUSOFF.set w (b2n d.busOff))

/-- The error counters of ISOBUS or the service CAN shown, and BUSOFF set once. -/
def Lane.canErr (L : Lane) (n : Nat) (d : Die) (was : Bool) : Lane :=
  let r := if n = 2 then R.ISB_ERR else R.SVC_ERR
  let L1 := L.wr r (F.ISB_ERR_BUSOFF.set (F.ISB_ERR_TEC.set (L.rd r) (min 255 d.tec)) (b2n d.busOff))
  if d.busOff && !was then L1.raise (if n = 2 then R.ISB_EVT else R.SVC_EVT) F.ISB_EVT_BUSOFF else L1

def Lane.canCtl (L : Lane) (n : Nat) : CanCtl := if n = 2 then L.isb else L.svc
def Lane.updCan (L : Lane) (n : Nat) (f : CanCtl → CanCtl) : Lane :=
  if n = 2 then { L with isb := f L.isb } else { L with svc := f L.svc }

/-- A CAN controller whose disable has waited for its frames goes inactive (R48). -/
def Lane.canClose (L : Lane) (n : Nat) : Lane :=
  if (L.canCtl n).closing && (L.canCtl n).out.isEmpty then
    let L1 := (L.updCan n fun c => { c with closing := false }).setF (if n = 2 then R.ISB_CTRL else R.SVC_CTRL) F.ISB_CTRL_ACTIVE 0
    if n = 2 then L1.wr R.ISB_ACST 0xFE#32 else L1
  else L

/-- A CAN frame has left its transmit buffer (R412, R439, R441): sent, or dropped. A request made in the same tick stands, and waits anew (R19). -/
def Lane.canOut (L : Lane) (n tag : Nat) (sent : Bool) : Lane :=
  match (L.canCtl n).out.find? fun e => e.1 = tag with
  | none => L
  | some (_, k) =>
    let L1 := L.updCan n fun c => { c with out := del c.out tag }
    let r := if n = 2 then R.ISB_TXCT k else R.SVC_TXCT k
    let L2 := if 16 ≤ k then L1
      else
        let X := ((L1.setF r F.ISB_TXCT_PEND 0).dropW1s r F.ISB_TXCT_REQ).raise r (if sent then F.ISB_TXCT_SENT else F.ISB_TXCT_DROP)
        if X.on r F.ISB_TXCT_REQ then (X.setF r F.ISB_TXCT_PEND 1).updCan n fun c => { c with queue := c.queue ++ [k] } else X
    L2.canClose n

/-! ### CAN engines -/

/-- The voted frame of a CAN port that is sent next: the lowest identifier first (R412). -/
def canKey (f : PortRec) : Nat := if f.ide then f.ident * 2 + 1 else f.ident * 2 ^ 18 * 2
def Die.nextCan (d : Die) : Option PFrame := d.frames.find? fun x => d.frames.all fun y => decide (canKey x.frame ≤ canKey y.frame)

/-- A CAN port starts its next frame where the bus is free. -/
def Die.startCan (d : Die) : Die :=
  if d.busBusy || d.busOff || d.split || (d.frames.any fun x => x.sending) then d
  else match d.nextCan with
    | some x => { d with frames := d.frames.map fun y => if y = x then { y with sending := true } else y, busBusy := true }
    | none => d

/-- Transmit error counting of ISO 11898-1 (R412): +8 for an error, −1 for a frame sent, bus-off above 255 (PRESUMED, log
entry 15). -/
def Die.tecError (d : Die) : Die := { d with tec := min 256 (d.tec + 8), busOff := d.busOff || decide (248 ≤ d.tec) }
def Die.tecGood (d : Die) : Die := { d with tec := d.tec - 1 }

/-! ### Votes of the records present -/

/-- The records of one port and TAG at a die, and the die without them. -/
def Die.recsOf (d : Die) (port tag : Nat) : List PortRec := d.ports.filter fun r => decide (r.port = port) && decide (r.tag = tag)
def Die.dropRecs (d : Die) (port tag : Nat) : Die :=
  { d with ports := d.ports.filter fun r => !(decide (r.port = port) && decide (r.tag = tag)) }

/-- The frame check sequence of an Ethernet frame, whose last four bytes carry it (R413). -/
def fcsOk (bs : List Byte) : Bool :=
  decide (4 ≤ bs.length) && decide (leNat (bs.drop (bs.length - 4)) = crc32 (bs.take (bs.length - 4)))

/-- ISOBUS, service CAN and Ethernet: the records of a TAG voted (R411 to R413). -/
def State.portVote (s : State) (n port tag : Nat) : State :=
  let d := s.die n
  let rs := d.recsOf port tag
  let v := voteRecs rs
  let s1 := (s.onDie n fun d => d.dropRecs port tag).portOutl n v.2.1
  match v.1 with
  | none =>
    if port = 4 then s1.onDie n fun d => { d with frames := d.frames ++ [⟨{ (default : PortRec) with port := 4, tag := tag }, false, 1⟩] }
    else s1.onLanes fun _ L => (L.raise (if n = 2 then R.ISB_EVT else R.SVC_EVT) F.ISB_EVT_NOAGR).canOut n tag false
  | some f =>
    if port = 4 then s1.onDie n fun d => { d with frames := d.frames ++ [⟨f, false, if fcsOk f.data then 0 else 2⟩] }
    else if 8 ≤ d.frames.length then
      s1.onLanes fun _ L => (L.raise (if n = 2 then R.ISB_EVT else R.SVC_EVT) F.ISB_EVT_QFULL).canOut n tag false
    else s1.onDie n fun d => Die.startCan { d with frames := d.frames ++ [⟨f, false, 0⟩] }

/-- A port record arrives (R410, R411): `good` says that its words arrived as they were sent. While a lane is split the port fix is idle
(R136). -/
def State.portArrive (s : State) (n : Nat) (l : LaneId) (good : Bool) : State :=
  let d := s.die n
  match d.ptx.find? fun p => p.1 = l.num with
  | none => s
  | some p =>
    let s1 := s.onDie n fun d => { d with ptx := d.ptx.eraseP fun p => p.1 = l.num }
    match (if good && !d.split then readRec l.num p.2 else none) with
    | none => s1
    | some r =>
      let s2 := s1.onDie n fun d => { d with
        ports := d.ports.filter (fun x => !(decide (x.lane = r.lane) && decide (x.port = r.port) && decide (x.tag = r.tag))) ++ [r] }
      if r.port ≠ 1 ∧ ((s2.die n).recsOf r.port r.tag).length = 3 then s2.portVote n r.port r.tag else s2

/-- 20 µs after the first record of a TAG (R411). -/
def State.portTimeout (s : State) (n port tag : Nat) : State :=
  if port ≠ 1 ∧ ((s.die n).recsOf port tag).isEmpty = false then s.portVote n port tag else s

/-- The ball GSPD_OUT (R29, R136, R405): high when two lanes present a high bit, low on a GDZ-7320, without D3 and under a split. -/
def State.gspdOut (s : State) : Bool :=
  s.d3.on && !s.a.small && !s.d3.split && maj3 s.a.trav.bit s.b.trav.bit s.c.trav.bit

/-! ### Helm Net at a port fix (R411, R433, R434, R437) -/

/-- A window's records voted at the vote instant of the die tick that they name. -/
def State.windowVote (s : State) (n tag : Nat) : State :=
  let d := s.die n
  let rs := (d.recsOf 1 tag).filter fun r => decide (r.tick = (d.tseq + 1) % 256)
  if rs.isEmpty then s
  else
    let v := voteRecs rs
    let s1 := (s.onDie n fun d => d.dropRecs 1 tag).portOutl n v.2.1
    match v.1 with
    | some f => if d.gaveUp || d.split then s1 else s1.onDie n fun d => { d with wins := (d.wins.filter fun w => w.frame.tag ≠ tag) ++ [⟨f, 0⟩] }
    | none =>
      if v.2.2 then s1.onLanes fun _ L => (L.hnFlag tag F.HNET_BST_NOAGR).bump R.HNET_NOAGR F.HNET_NOAGR_NOAGR 1 else s1

/-- A window given up without a frame. -/
def Die.dropWin (d : Die) (tag : Nat) : Die := { d with wins := d.wins.filter fun w => w.frame.tag ≠ tag }
def Die.setWin (d : Die) (tag st : Nat) : Die :=
  { d with wins := d.wins.map fun w => if w.frame.tag = tag then { w with st := st } else w, busBusy := d.busBusy || decide (st = 2) }

/-- Whether a window's frame may still start `since` units after the window start (R434): an exclusive one within the margin
GM, another where the frame ends before the window does. -/
def mayStart (f : PortRec) (since rate : Nat) : Bool :=
  if f.arb then decide (since + frameTime (dlcBytes f.dlc) (rateOf rate f.brs) < f.wlen * 200) else decide (since ≤ f.gm * 1600)

/-- A register as two lanes have it: what a port fix goes by where its rule names a register of the lanes (log entry 65). -/
def State.majRd (s : State) (r : Reg) : Word := majWord (s.a.rd r) (s.b.rd r) (s.c.rd r)
/-- The data rate that the port fixes go by. -/
def State.hnRate (s : State) : Nat := F.HNET_STAT_RATE.get (s.majRd R.HNET_STAT)

/-- LATESOF reported. -/
def State.lateSof (s : State) (tag : Nat) : State :=
  s.onLanes fun _ L => (L.hnFlag tag F.HNET_BST_LATESOF).bump R.HNET_NOAGR F.HNET_NOAGR_LATESOF 1

/-- The start of a voted window: `busy` says that the bus is busy then. -/
def State.windowStart (s : State) (n tag : Nat) (busy : Bool) : State :=
  let d := s.die n
  match d.wins.find? fun w => w.frame.tag = tag && w.st = 0 with
  | none => s
  | some w =>
    if d.gaveUp || d.split then s.onDie n fun d => d.dropWin tag
    else if busy then s.onDie n fun d => d.setWin tag 1
    else if mayStart w.frame 0 s.hnRate then s.onDie n fun d => d.setWin tag 2
    else (s.onDie n fun d => d.dropWin tag).lateSof tag

/-- The bus of a Helm Net path becomes idle `since` units after the start of the window that waits. -/
def State.helmIdle (s : State) (n since : Nat) : State :=
  let s1 := s.onDie n fun d => { d with busBusy := false }
  let d := s1.die n
  match d.wins.find? fun w => w.st = 1 with
  | none => s1
  | some w =>
    if d.gaveUp || d.split then s1.onDie n fun d => d.dropWin w.frame.tag
    else if mayStart w.frame since s.hnRate then s1.onDie n fun d => d.setWin w.frame.tag 2
    else (s1.onDie n fun d => d.dropWin w.frame.tag).lateSof w.frame.tag

/-- The bus guardian at an edge of its window (R433): the transmitter stays enabled while any window is open. -/
def Die.guardian (d : Die) (tag : Nat) (open_ : Bool) : Die :=
  let may := open_ && !d.gaveUp && !d.split && d.on && d.wins.any fun w => decide (w.frame.tag = tag)
  let o := (d.hnOpen.filter fun t => t ≠ tag) ++ (if may then [tag] else [])
  { d with hnOpen := o, hnEn := !o.isEmpty }

/-- A request of buffer `k` in an arbitrating window ends once its frame has been sent on every path that has not been given up (R19, R420). -/
def Lane.hnReqEnd (L : Lane) (k : Nat) : Lane :=
  let m := L.hn.txMask.at k
  if m ≠ 0 ∧ (m.testBit 0 || L.on R.HNET_PATH F.HNET_PATH_GUA) = true ∧ (m.testBit 1 || L.on R.HNET_PATH F.HNET_PATH_GUB) = true then
    { L.dropW1s (R.HNET_BST k) F.HNET_BST_TXREQ with hn := { L.hn with txMask := L.hn.txMask.set k 0, seq := L.hn.seq.set k ((L.hn.seq.at k + 1) % 256) } }
  else L

/-- A path given up (R437): every lane sees it. -/
def State.giveUpPath (s : State) (n : Nat) : State :=
  let s1 := s.onDie n fun d => { d with gaveUp := true, hnOpen := [], hnEn := false, wins := [] }
  s1.onLanes fun _ L =>
    if L.on R.HNET_PATH (if n = 0 then F.HNET_PATH_GUA else F.HNET_PATH_GUB) then L
    else
      let X := ((L.setF R.HNET_PATH (if n = 0 then F.HNET_PATH_GUA else F.HNET_PATH_GUB) 1).raise R.HNET_EVT
        (if n = 0 then F.HNET_EVT_GIVEA else F.HNET_EVT_GIVEB)).fault 9 n
      (List.range 64).foldl Lane.hnReqEnd X

end Sys2Proof.Machine
end

