-- ==== Sys2Proof/Machine/Hnet.lean ====
section
/-! DEFINITION. The Helm Net controller of a lane (R414 to R438): the matrix and its check, the copy of transmit buffers into port
records, received frames and their buffers, reference messages and global time, the synchronisation states, the two paths.
`me` is the lane's number; a port record goes out as a pair of a die number and the record. -/

namespace Sys2Proof.Machine

def Lane.updHn (L : Lane) (f : Hn → Hn) : Lane := { L with hn := f L.hn }

/-! ### The matrix (R414, R415, R418) -/

/-- One entry of the matrix. -/
structure MxEntry where
  start : Nat
  len : Nat
  bc : Nat
  rep : Nat
  kind : Nat
  buf : Nat
  tx : Bool
  nobuf : Bool
  deriving DecidableEq, Repr, Inhabited

def Lane.mx (L : Lane) (e : Nat) : MxEntry :=
  let a := (L.mxWord e 0).toNat
  let b := (L.mxWord e 1).toNat
  ⟨a % 1024, (a / 1024) % 1024, (a / 2 ^ 20) % 64, (a / 2 ^ 26) % 8, (a / 2 ^ 29) % 4, b % 64, b.testBit 6, b.testBit 7⟩

def Lane.mxCount (L : Lane) : Nat := L.fld R.HNET_MXCNT F.HNET_MXCNT_CNT
def Lane.mxexp (L : Lane) : Nat := L.fld R.HNET_CFG F.HNET_CFG_MXEXP
def Lane.nodeId (L : Lane) : Nat := L.fld R.HNET_CFG F.HNET_CFG_NODEID
def Lane.rkdly (L : Lane) : Nat := L.fld R.HNET_TIM F.HNET_TIM_RKDLY
def Lane.gmarg (L : Lane) : Nat := L.fld R.HNET_TIM F.HNET_TIM_GMARG
def Lane.rmask (L : Lane) : Nat := L.fld R.HNET_CFG F.HNET_CFG_RMASK

/-- Whether an entry occurs in a basic cycle with count `cyc`. -/
def MxEntry.inCycle (m : MxEntry) (cyc : Nat) : Bool := decide (cyc % 2 ^ m.rep = m.bc)

/-- Whether two entries overlap in some basic cycle. -/
def MxEntry.overlaps (x y : MxEntry) : Bool :=
  decide (x.bc % 2 ^ min x.rep y.rep = y.bc % 2 ^ min x.rep y.rep) && decide (x.start < y.start + y.len) && decide (y.start < x.start + x.len)

/-- Whether some pair of a list is related. -/
def anyPair {α : Type} (r : α → α → Bool) : List α → Bool
  | [] => false
  | x :: t => (t.any fun y => r x y) || anyPair r t

/-- The cause of a failed matrix check, 0 for none. -/
def Lane.mxCause (L : Lane) : Nat :=
  let n := L.mxCount
  let base := (L.rd R.HNET_MXBASE).toNat
  if n = 0 ∨ 128 < n ∨ base % 4 ≠ 0 ∨ base < 0x20000000 ∨ 0x20100000 < base + 8 * n then 1
  else
    let es := (List.range n).map L.mx
    let low := if L.rmask.testBit 0 then 0 else if L.rmask.testBit 1 then 1 else 2
    let refs := es.filter fun m => decide (m.kind = 3)
    let goodRef := match refs with
      | [m] => decide (m.start = 0 ∧ m.rep = 0 ∧ 8 * L.rkdly + 148 + L.gmarg ≤ m.len)
      | _ => false
    if es.any (fun m => decide (1000 < m.start + m.len) || decide (m.len = 0) || decide (L.mxexp < m.rep) || decide (2 ^ m.rep ≤ m.bc)) then 2
    else if anyPair MxEntry.overlaps es then 3
    else if !goodRef then 4
    else if es.any (fun m => decide (m.kind = 0 ∧ L.rmask ≠ 0) && m.tx && !m.nobuf
        && decide (m.len * 1600 < frameTime (dlcBytes (L.fld (R.HNET_BCFG m.buf) F.HNET_BCFG_DLC)) (rateOf low true) + 2 * L.gmarg * 1600)) then 5
    else if es.any (fun m => (m.tx || !m.nobuf) && (!L.on (R.HNET_BCFG m.buf) F.HNET_BCFG_EN
        || (m.tx && !L.on (R.HNET_BCFG m.buf) F.HNET_BCFG_DIR))) then 6
    else if L.rmask = 0 then 7
    else 0

/-! ### Time and states (R423 to R432) -/

def Lane.synst (L : Lane) : Nat := L.fld R.HNET_STAT F.HNET_STAT_SYNST
def Lane.isMaster (L : Lane) : Bool := L.on R.HNET_STAT F.HNET_STAT_ISMASTER
/-- The basic cycle in progress and the time within it. -/
def Lane.bcyc (L : Lane) : Nat := L.gt / 200000
def Lane.boff (L : Lane) : Nat := L.gt % 200000
def Lane.cycNow (L : Lane) : Nat := L.bcyc % 2 ^ L.mxexp

/-- A state entered (R430, R432). -/
def Lane.setSyn (L : Lane) (st : Nat) : Lane :=
  if L.synst = st then L
  else
    let L1 := (L.setF R.HNET_STAT F.HNET_STAT_SYNST st).raise R.HNET_EVT F.HNET_EVT_STCHG
    let L1 := if st = 5 then L1.raise R.HNET_EVT F.HNET_EVT_PASSEV else L1
    let L1 := L1.setF R.RKN_GT F.RKN_GT_GT_VALID (b2n (decide (st = 4 ∨ st = 5)))
    let L1 := if st = 4 ∨ st = 5 then L1 else L1.setF R.HNET_STAT F.HNET_STAT_ISMASTER 0
    L1.updHn fun h => { h with stAt := L.ticks, cold := false, ownSof := false, tx := h.tx && (decide (st = 4 ∨ st = 5)) }

/-- The waypoints on reckoner 13 that a backward step takes from before their compare value round to its other side: the step fires none
of them (R62). -/
def Lane.stepSkips (L : Lane) (g : Word) : Tab Wp :=
  (List.range 128).foldl (fun t w =>
    let c := L.rd (R.RKN_WP_CMP w)
    if L.fld (R.RKN_WP_CFG w) F.RKN_WP_CFG_RKN = 13 ∧ (w32 L.gt - c).toInt < 0 ∧ 0 ≤ (g - c).toInt then t.upd w fun x => { x with skip := true } else t)
    L.wp

/-- Reckoner 13 stepped (R61, R62): a step back beyond 0 wraps. -/
def Lane.stepGt (L : Lane) (d : Int) : Lane :=
  let g := (L.gt : Int) + d
  let g := if g < 0 then (g % 2 ^ 32).toNat else g.toNat
  let L1 := if d < 0 then { L.setF R.RKN_STAT ⟨13, 1⟩ 1 with wp := L.stepSkips (w32 g) } else L
  { L1 with gt := g, slewHelm := 0 }.raise R.RKN_GT F.RKN_GT_GT_STEP

/-- The back-off (R430): a random count from 1 to 16, a free value. -/
def Lane.backoff (L : Lane) (me : Nat) : Lane :=
  let r := L.takeFree me
  ((r.2.setSyn 6).raise R.HNET_EVT F.HNET_EVT_DUPID).updHn fun h => { h with boff := r.1.toNat % 16 + 1 }

/-- HNET_CTRL.EN has been set (R418, R430). -/
def Lane.hnEnable (L : Lane) : Lane :=
  let c := L.mxCause
  if c ≠ 0 then
    (((L.setF R.HNET_STAT F.HNET_STAT_MXERR 1).setF R.HNET_STAT F.HNET_STAT_MXCAUSE c).raise R.HNET_EVT F.HNET_EVT_CFGERR)
  else
    let L1 := (L.setF R.HNET_CTRL F.HNET_CTRL_ACTIVE 1).setF R.HNET_STAT F.HNET_STAT_MXERR 0
    let L1 := L1.updHn fun h => { (default : Hn) with seq := h.seq, sofTick := L.ticks, refTick := L.ticks }
    (L1.setF R.HNET_PATH F.HNET_PATH_ACT 0).setSyn 1

/-- The controller goes OFF (R48, R430). -/
def Lane.hnOff (L : Lane) : Lane :=
  ((L.setSyn 0).setF R.HNET_CTRL F.HNET_CTRL_ACTIVE 0).updHn fun h => { h with closing := false, tx := false }

/-- A stop that has waited for a frame boundary is complete; with EN set again meanwhile the controller starts afresh (R49), but for a stop of the
sleep sequence (R567). -/
def Lane.hnClosed (L : Lane) : Lane :=
  if L.on R.HNET_CTRL F.HNET_CTRL_EN && !L.on R.PWR_SLPST F.PWR_SLPST_RUN then L.hnOff.hnEnable else L.hnOff

/-! ### Port records (R410, R419, R420, R423) -/

/-- The window part of a record: TICK, WSTART in 625 ps units, for a window that starts `ahead` ticks from now, at die `n`, and in which
the guardian opens `gm` µs before the start (R410, R433). -/
def Lane.winAt (L : Lane) (n ahead gm : Nat) : Nat × Nat :=
  let open_ := L.ticks + ahead - gm * 200
  let k := (open_ - L.edg.pstart.at (dieKey n)) / 10000
  ((L.edg.pnum.at (dieKey n) + k) % 256, (L.ticks + ahead - (L.edg.pstart.at (dieKey n) + k * 10000)) * 8)

/-- A Helm Net record to both port fixes. -/
def Lane.hnRecs (L : Lane) (me tag ahead wlen : Nat) (arb : Bool) (f : Option (CanFrame × Bool)) : List (Nat × PortRec) :=
  [0, 1].map fun n =>
    let w := L.winAt n ahead (if arb then 0 else L.gmarg)
    let base := { (default : PortRec) with lane := me, port := 1, tag := tag, arb := arb, noframe := f.isNone, tick := w.1, wstart := w.2, wlen := wlen / 25, gm := L.gmarg }
    match f with
    | some (c, brs) => (n, { base with ident := c.ident, ide := c.ide, fdf := true, brs := brs, dlc := c.dlc, data := c.data })
    | none => (n, base)

/-- Port records put on the links of dies that have power. -/
def State.putRecs (s : State) (rs : List (Nat × PortRec)) : State :=
  rs.foldl (fun s p => s.onDie p.1 fun d => if d.on && decide (2 ≤ d.links.at p.2.lane) then { d with ptx := d.ptx ++ [(p.2.lane, p.2.words)] } else d) s

/-- A lane's action that hands over port records. -/
def State.laneRecs (s : State) (l : LaneId) (f : Lane → Lane × List (Nat × PortRec)) : State :=
  let r := f (s.lane l)
  (s.setLane l r.1).putRecs r.2

/-- The highest rate that this node and every node heard lately accept, as a code (R429). -/
def Lane.bestRate (L : Lane) : Nat :=
  let m := L.hn.masks.foldl (fun m e => if L.hn.mcyc ≤ e.2.2 + 8 then m &&& e.2.1 else m) L.rmask
  if m.testBit 2 then 2 else if m.testBit 1 then 1 else 0

/-- The identifier of the node's own reference message (R423). -/
def Lane.refIdent (L : Lane) : Nat :=
  let r := L.rd R.HNET_IDS
  if L.on R.HNET_CFG F.HNET_CFG_MODE then F.HNET_IDS_REFID.get r + 8 + L.nodeId
  else F.HNET_IDS_REFID.get r + L.fld R.HNET_CFG F.HNET_CFG_RANK

/-- A reference or cold-start frame for a global time (R423). -/
def Lane.refFrame (L : Lane) (cold : Bool) (tsof : Nat) : CanFrame :=
  let b1 := (tsof / 200000) % 2 ^ L.mxexp + 64 * b2n cold + 128 * L.fld R.HNET_CFG F.HNET_CFG_MODE
  let b2 := L.fld R.HNET_CFG F.HNET_CFG_RANK + 8 * L.nodeId
  let rate := match L.hn.rate with | some r => r | none => L.fld R.HNET_STAT F.HNET_STAT_RATE
  ⟨L.refIdent, false, 8, [BitVec.ofNat 8 (L.hn.seq.at 64 + 1), BitVec.ofNat 8 b1, BitVec.ofNat 8 b2, BitVec.ofNat 8 (L.mxexp + 8 * rate)]
    ++ leBytes 4 tsof⟩

/-- A transmit buffer's frame with its sequence byte (R419). -/
def Lane.bufFrame (L : Lane) (k : Nat) : CanFrame :=
  let c := L.rd (R.HNET_BCFG k)
  let n := dlcBytes (F.HNET_BCFG_DLC.get c)
  let bs := ((List.range 16).flatMap fun j => leBytes 4 (L.rd (R.HNET_BD k j)).toNat).take n
  ⟨F.HNET_BCFG_IDENT.get c, false, F.HNET_BCFG_DLC.get c, match bs with | [] => [] | _ :: t => BitVec.ofNat 8 (L.hn.seq.at k + 1) :: t⟩

/-- The auxiliary frames that the first arbitrating window of the node's own basic cycle carries, and the answers that the next
arbitrating window carries (R428, R429). -/
def Lane.auxFrames (L : Lane) (k t3 : Nat) : List (Nat × CanFrame) :=
  let aux := L.fld R.HNET_IDS F.HNET_IDS_AUXID
  let mine := decide (k % 2 ^ L.mxexp = L.nodeId % 2 ^ L.mxexp) && decide (L.hn.auxDone ≠ k + 1)
  let cap : List (Nat × CanFrame) := if mine then [(128, ⟨aux + L.nodeId, false, 2, [BitVec.ofNat 8 (L.hn.seq.at 65 + 1), BitVec.ofNat 8 L.rmask]⟩)] else []
  let probe : List (Nat × CanFrame) := if mine && L.on R.HNET_CFG F.HNET_CFG_MODE && !L.isMaster then
      [(129, ⟨aux + 32 + L.nodeId, false, 1, [BitVec.ofNat 8 (L.hn.seq.at 65 + 1)]⟩)] else []
  let ans := L.hn.answers.map fun a =>
    (132 + a.1, (⟨aux + 64 + a.1, false, 9, [BitVec.ofNat 8 (L.hn.seq.at 65 + 1)] ++ leBytes 4 a.2 ++ leBytes 4 t3 ++ [0, 0, 0]⟩ : CanFrame))
  cap ++ probe ++ ans

/-- The copy of a window's transmit buffer 120 µs before its start (R420, R427, R432): due once reckoner 13 is that close. The current
master's reference window does not wait for the next matrix cycle (R424). -/
def Lane.txCopy (L : Lane) (me e : Nat) : Lane × List (Nat × PortRec) :=
  let m := L.mx e
  let t := L.gt + 24000
  let k := t / 200000
  let o := t % 200000
  if L.mxCount ≤ e ∨ ¬ (L.synst = 4 ∨ L.synst = 5) ∨ m.inCycle (k % 2 ^ L.mxexp) = false ∨ o < m.start * 200 ∨ (m.start + m.len) * 200 ≤ o
      ∨ L.hn.copied.at e = k + 1 ∨ (L.hn.tx = false ∧ m.kind ≠ 3) ∨ m.kind = 2 then (L, [])
  else
    let ahead := 24000 + m.start * 200 - o
    let wlen := m.len * 200
    let L1 := L.updHn fun h => { h with copied := h.copied.set e (k + 1) }
    let quiet := decide (L.synst = 5)
    if m.kind = 3 then
      if L.isMaster && !quiet then
        (L1.updHn fun h => { h with seq := h.seq.set 64 ((h.seq.at 64 + 1) % 256), ownRef := k + 1 },
         L1.hnRecs me e ahead wlen true (some (L1.refFrame false (k * 200000), false)))
      else (L1, [])
    else
      let aux := if m.kind = 1 && !quiet then L1.auxFrames k ((k * 200000 + m.start * 200) % 2 ^ 32) else []
      let L2 := if aux.isEmpty then L1 else L1.updHn fun h => { h with
        seq := h.seq.set 65 ((h.seq.at 65 + 1) % 256), answers := []
        auxDone := if aux.any (fun a => a.1 = 128) then k + 1 else h.auxDone
        probe := if aux.any (fun a => a.1 = 129) then k * 200000 + m.start * 200 else h.probe }
      let auxRecs := aux.flatMap fun a => L1.hnRecs me a.1 ahead wlen true (some (a.2, false))
      if !m.tx || m.nobuf then (L2, auxRecs)
      else
        let en := L.on (R.HNET_BCFG m.buf) F.HNET_BCFG_EN
        let go := !quiet && en && (decide (m.kind = 0) || L.on (R.HNET_BST m.buf) F.HNET_BST_TXREQ)
        let f := if go then some (L2.bufFrame m.buf, true) else none
        let L3 := if go && decide (m.kind = 0) then L2.updHn fun h => { h with seq := h.seq.set m.buf ((h.seq.at m.buf + 1) % 256) } else L2
        (L3, auxRecs ++ L2.hnRecs me e ahead wlen (decide (m.kind = 1)) f)

/-- A reference or cold-start frame sent outside the copies (R424, R431): its window starts as soon as a vote can come. -/
def Lane.sendRef (L : Lane) (me : Nat) (cold : Bool) (tsof : Nat) : Lane × List (Nat × PortRec) :=
  (L.updHn fun h => { h with seq := h.seq.set 64 ((h.seq.at 64 + 1) % 256) },
   L.hnRecs me 131 20000 40000 true (some (L.refFrame cold tsof, false)))

/-- The node's place for the order of potential masters (R424). -/
def Lane.refRank (L : Lane) : Nat :=
  if L.on R.HNET_CFG F.HNET_CFG_MODE then
    let m := (L.rd R.HNET_NODES).toNat ||| 2 ^ L.nodeId
    cnt ((List.range L.nodeId).map fun i => m.testBit i)
  else L.fld R.HNET_CFG F.HNET_CFG_RANK

/-- No SOF by the node's turn in the reference window (R424): TSOF is the time at which the record's window starts. -/
def Lane.refTurn (L : Lane) (me : Nat) : Lane × List (Nat × PortRec) :=
  if L.synst = 4 ∧ L.on R.HNET_CFG F.HNET_CFG_MASTER = true ∧ L.isMaster = false ∧ (L.refRank + 1) * L.rkdly * 200 ≤ L.boff
      ∧ L.hn.sofTick + L.boff < L.ticks + 1 ∧ L.hn.ownRef ≠ L.bcyc + 1 then
    (L.updHn fun h => { h with ownRef := L.bcyc + 1 }).sendRef me false (L.gt + 20000)
  else (L, [])

/-- The cold-start frame (R431). -/
def Lane.coldSend (L : Lane) (me : Nat) : Lane × List (Nat × PortRec) :=
  if L.synst = 2 ∧ L.hn.cold = false ∧ L.hn.stAt + L.nodeId * 4000 ≤ L.ticks then
    let ts := (L.gt + 199999) / 200000 * 200000
    (L.updHn fun h => { h with cold := true, coldAdd := ts - L.gt, coldTs := ts, coldAt := L.ticks }).sendRef me true ts
  else (L, [])

/-- The cold-start frame is not acknowledged and repeats 1 ms later (R430). -/
def Lane.coldRepeat (L : Lane) (me : Nat) : Lane × List (Nat × PortRec) :=
  if L.synst = 2 ∧ L.hn.cold = true ∧ L.hn.coldAt + 200000 ≤ L.ticks then
    let ts := (L.gt + 199999) / 200000 * 200000
    (L.updHn fun h => { h with coldAdd := ts - L.gt, coldTs := ts, coldAt := L.ticks, ownSof := false }).sendRef me true ts
  else (L, [])

/-- The node becomes the current master. -/
def Lane.becomeMaster (L : Lane) : Lane :=
  let L1 := ((L.setF R.HNET_STAT F.HNET_STAT_ISMASTER 1).setF R.HNET_STAT F.HNET_STAT_MNODE L.nodeId).setF R.HNET_STAT
    F.HNET_STAT_MRANK (L.fld R.HNET_CFG F.HNET_CFG_RANK)
  L1.raise R.HNET_EVT F.HNET_EVT_MCHG

/-- The cold-start frame is acknowledged (R431): by how much reckoner 13 steps forward is the second result. -/
def Lane.coldAck (L : Lane) : Lane × Nat :=
  if L.synst = 2 ∧ L.hn.cold = true then ((L.setSyn 4).becomeMaster.stepGt L.hn.coldAdd, L.hn.coldAdd) else (L, 0)

def Lane.backoffEnd (L : Lane) : Lane :=
  if L.synst = 6 ∧ L.hn.stAt + 20000 * L.hn.boff ≤ L.ticks then L.setSyn 1 else L

def Lane.listenTimeout (L : Lane) : Lane :=
  if L.synst = 1 ∧ L.on R.HNET_CFG F.HNET_CFG_COLDST = true ∧ L.on R.HNET_CFG F.HNET_CFG_MASTER = true
      ∧ max L.hn.stAt L.hn.sofTick + 2 * 2 ^ L.mxexp * 200000 ≤ L.ticks then L.setSyn 2 else L

def Lane.refTimeout (L : Lane) : Lane :=
  if (L.synst = 3 ∨ L.synst = 4 ∨ L.synst = 5) ∧ L.isMaster = false ∧ max L.hn.refTick L.hn.stAt + 400000 ≤ L.ticks then
    let L1 := if L.synst = 3 then L else L.raise R.HNET_EVT F.HNET_EVT_LOST
    L1.setSyn 1
  else L

/-- An SOF on a path (R430, R431, R438). That of the own cold-start frame fixes by how much its TSOF lies ahead of reckoner 13; one of another node
before it ends the cold start. -/
def Lane.sof (L : Lane) (p : Nat) (own : Bool) : Lane :=
  let L1 := L.updHn fun h => { h with
    sofTick := L.ticks, sofAt := h.sofAt.set p L.gt
    refSof := if L.boff < 9 * L.rkdly * 200 then h.refSof.set p (L.bcyc + 1) else h.refSof }
  if L.synst ≠ 2 then L1
  else if own then
    if L.hn.cold then
      L1.updHn fun h => { h with ownSof := true, coldAdd := (if L.gt ≤ h.coldTs then h.coldTs else (L.gt + 199999) / 200000 * 200000) - L.gt }
    else L1
  else if L.hn.ownSof then L1 else L1.setSyn 3

/-- The offset of a reference message (R425). -/
def Lane.refOffset (L : Lane) (p tsof : Nat) : Int :=
  let dly := if L.on R.HNET_CFG F.HNET_CFG_MODE then L.fld R.HNET_PDLYM F.HNET_PDLYM_DLY else L.fld R.HNET_TIM F.HNET_TIM_PDLY
  (w32 (tsof + dly) - w32 (L.hn.sofAt.at p)).toInt

/-- The global time of a master whose reference carries only its low 32 bits: where TSOF is the start of a basic cycle, CYC says which multiple
of 2^32 lies under it, and the lane's basic cycles start with the master's (R414, R423; log entry 68). -/
def Lane.liftGt (L : Lane) (tsof cyc : Nat) : Lane :=
  match (List.range 3125).find? fun j => decide ((tsof + j * 2 ^ 32) % 200000 = 0) && decide ((tsof + j * 2 ^ 32) / 200000 % 2 ^ L.mxexp = cyc) with
  | none => L
  | some j => { L with gt := tsof + j * 2 ^ 32 + (L.gt + 2 ^ 32 - tsof % 2 ^ 32) % 2 ^ 32 }

/-- A reference message received whole on a path (R425, R427, R429, R430): the second result is how far reckoner 13 steps
forward. -/
def Lane.refReceive (L : Lane) (me p : Nat) (f : CanFrame) : Lane × Nat :=
  let b := fun (i : Nat) => (f.data.getD i 0).toNat
  let node := b 2 / 8
  let rank := b 2 % 8
  let cyc := b 1 % 64
  let rate := (b 3 / 8) % 4
  let tsof := leNat (f.data.drop 4)
  let L0 := L.updHn fun h => { h with refWhole := h.refWhole.set p (L.bcyc + 1), refTick := L.ticks, heard := h.heard ||| 2 ^ node }
  if L.synst = 0 ∨ L.synst = 6 ∨ L.hn.ref = some (node, tsof, cyc) then (L0, 0)
  else if L.synst = 2 then (if f.ident = L.refIdent then (L0.backoff me, 0) else ((L0.updHn fun h => { h with ref := some (node, tsof, cyc) }).setSyn 3, 0))
  else
    let off := L.refOffset p tsof
    let L1 := (L0.wr R.HNET_OFS (wInt off)).updHn fun h => { h with ref := some (node, tsof, cyc) }
    let newM := decide (L.fld R.HNET_STAT F.HNET_STAT_MNODE ≠ node) || L.isMaster
    let L2 := ((L1.setF R.HNET_STAT F.HNET_STAT_MNODE node).setF R.HNET_STAT F.HNET_STAT_MRANK rank).setF R.HNET_STAT F.HNET_STAT_ISMASTER 0
    let L2 := if newM then L2.raise R.HNET_EVT F.HNET_EVT_MCHG else L2
    let rateOk := L.rmask.testBit rate
    let L2 := L2.updHn fun h => { h with rate := if rate = L.fld R.HNET_STAT F.HNET_STAT_RATE then none else some rate }
    let L2 := if rateOk then L2 else L2.raise R.HNET_EVT F.HNET_EVT_RATEF
    if L.synst = 1 then (L2.setSyn 3, 0)
    else if L.synst = 3 then
      match L.hn.ref with
      | some (n0, t0, c0) =>
        if n0 = node ∧ tsof = (t0 + 200000) % 2 ^ 32 ∧ cyc = (c0 + 1) % 2 ^ L.mxexp then (((L2.stepGt off).liftGt tsof cyc).setSyn 4, off.toNat) else (L2, 0)
      | none => (L2, 0)
    else
      let near := if L.gmarg * 100 < off.natAbs then 0 else if 2 ≤ L.hn.near then L.hn.near else if off.natAbs ≤ L.gmarg * 50 then L.hn.near + 1 else 0
      if newM && decide (2000 ≤ off.natAbs) then
        let X := (L2.stepGt off).liftGt tsof cyc
        (if rateOk then X else (X.setSyn 5).updHn fun h => { h with near := 2 }, off.toNat)
      else
        let X : Lane := { L2 with slewHelm := off }
        if L.synst = 4 then
          if L.gmarg * 100 < off.natAbs then ((X.setSyn 5).updHn fun h => { h with near := 0 }, 0)
          else if !rateOk then ((X.setSyn 5).updHn fun h => { h with near := 2 }, 0)
          else (X, 0)
        else
          let Y := X.updHn fun h => { h with near := near }
          if 2 ≤ near ∧ rateOk = true then (Y.setSyn 4, 0) else (Y, 0)

/-! ### Cycles (R414, R429, R432, R438) -/

/-- Whether two frames ended on different paths with the same identifier and sequence byte. -/
def HnRx.twin (r q : HnRx) : Bool :=
  decide (q.path ≠ r.path) && decide (q.frame.ident = r.frame.ident) && decide (q.frame.data.head? = r.frame.data.head?)

/-- Whether a reference or exclusive frame ended on the other path `age` ago with no match on this one within `age` of it. -/
def Lane.pathMissed (L : Lane) (p age : Nat) : Bool :=
  L.hn.recent.any fun r => decide (r.path ≠ p) && decide (r.kind = 0 ∨ r.kind = 3) && decide (r.at_ + age ≤ L.ticks)
    && !(L.hn.recent.any fun q => r.twin q && decide (q.at_ ≤ r.at_ + age) && decide (r.at_ ≤ q.at_ + age))

/-- Whether a reference or exclusive frame ended whole on the other path and not on this one; a frame for which 2 × RKDLY has not passed
is judged in the next basic cycle. -/
def Lane.pathLacked (L : Lane) (p : Nat) : Bool :=
  L.hn.recent.any fun r => decide (r.path ≠ p) && decide (r.kind = 0 ∨ r.kind = 3) && decide (r.at_ + 400 * L.rkdly ≤ L.ticks)
    && !L.hn.recent.any r.twin

/-- The frames that the next basic cycle still looks at: those of the last 2 × RKDLY, without those that have ended on both paths. -/
def Lane.stillRecent (L : Lane) : List HnRx :=
  L.hn.recent.filter fun r => decide (L.ticks < r.at_ + 400 * L.rkdly) && (decide (r.kind = 1 ∨ r.kind = 2) || !L.hn.recent.any r.twin)

/-- The flags of a path. -/
def rxfBit (p : Nat) : Bf := if p = 0 then F.HNET_PATH_RXFA else F.HNET_PATH_RXFB
def guBit (p : Nat) : Bf := if p = 0 then F.HNET_PATH_GUA else F.HNET_PATH_GUB

/-- A basic cycle starts (R414, R438). -/
def Lane.basicCycle (L : Lane) : Lane :=
  if L.synst = 0 ∨ L.hn.cyc = L.bcyc + 1 then L
  else
    let L1 := (L.setF R.HNET_STAT F.HNET_STAT_CYC L.cycNow).setF R.HNET_PATH F.HNET_PATH_DUAL 0
    let L2 := [0, 1].foldl (fun X p =>
      let g := if L.pathLacked p then 0 else min 8 (L.hn.good.at p + 1)
      let X := X.updHn fun h => { h with good := h.good.set p g }
      if 8 ≤ g ∧ X.on R.HNET_PATH (guBit p) = false then X.setF R.HNET_PATH (rxfBit p) 0 else X) L1
    L2.updHn fun h => { h with cyc := L.bcyc + 1, recent := L.stillRecent }

/-- A matrix cycle starts (R429, R432). -/
def Lane.matrixCycle (L : Lane) : Lane :=
  if ¬ (L.synst = 4 ∨ L.synst = 5) ∨ L.cycNow ≠ 0 ∨ L.hn.mcyc = L.bcyc / 2 ^ L.mxexp + 1 then L
  else
    let L1 := (L.wr R.HNET_NODES (w32 L.hn.heard)).updHn fun h => { h with mcyc := L.bcyc / 2 ^ L.mxexp + 1, heard := 0, tx := true }
    let L2 := match L.hn.rate with
      | some r => ((L1.setF R.HNET_STAT F.HNET_STAT_RATE r).raise R.HNET_EVT F.HNET_EVT_RATECHG).updHn fun h => { h with rate := none }
      | none => L1
    if L.isMaster && decide (L2.bestRate ≠ L2.fld R.HNET_STAT F.HNET_STAT_RATE) then L2.updHn fun h => { h with rate := some L2.bestRate } else L2

/-! ### Received frames (R421, R422) -/

/-- The entry whose window the present time lies in. -/
def Lane.windowNow (L : Lane) : Option Nat :=
  (List.range L.mxCount).find? fun e =>
    let m := L.mx e
    m.inCycle L.cycNow && decide (m.start * 200 ≤ L.boff) && decide (L.boff < (m.start + m.len) * 200)

/-- The buffer that a frame goes to. -/
def Lane.rxBuf (L : Lane) (kind entry : Nat) (f : CanFrame) : Option Nat :=
  let fits := fun (k : Nat) => L.on (R.HNET_BCFG k) F.HNET_BCFG_EN && !L.on (R.HNET_BCFG k) F.HNET_BCFG_DIR
    && decide (L.fld (R.HNET_BCFG k) F.HNET_BCFG_IDENT = f.ident) && !f.ide
  if kind = 0 ∨ kind = 3 then
    let m := L.mx entry
    if !m.nobuf && fits m.buf then some m.buf else none
  else (List.range 64).find? fun k => fits k && L.on (R.HNET_BCFG k) F.HNET_BCFG_ARB

def Lane.bufView (L : Lane) (k : Nat) : HnView := ⟨L.rd (R.HNET_BT k), (List.range 16).map fun j => L.rd (R.HNET_BD k j)⟩

/-- A frame written to a buffer or discarded as a duplicate (R421, R422). -/
def Lane.takeFrame (L : Lane) (p kind entry : Nat) (f : CanFrame) : Lane :=
  match L.rxBuf kind entry f with
  | none => L
  | some k =>
    let seq := (f.data.getD 0 0).toNat
    if 0 < L.hn.rxAt.at k ∧ L.fld (R.HNET_BST k) F.HNET_BST_SEQ = seq then L.bump R.HNET_CNT F.HNET_CNT_DUP 1
    else
      let n := dlcBytes f.dlc
      let old := L.bufView k
      let L1 := L.updHn fun h => { h with rxAt := h.rxAt.set k (L.ticks + 1), rxOld := h.rxOld.set k old }
      let L1 := (List.range ((n + 3) / 4)).foldl (fun X j => X.wr (R.HNET_BD k j) (w32 (leNat ((f.data.drop (4 * j)).take 4)))) L1
      let L1 := L1.wr (R.HNET_BT k) (w32 L.gt)
      let L1 := if L.on (R.HNET_BST k) F.HNET_BST_NEW then L1.raise (R.HNET_BST k) F.HNET_BST_OVR else L1
      let L1 := L1.raise (R.HNET_BST k) F.HNET_BST_NEW
      ((L1.setF (R.HNET_BST k) F.HNET_BST_PATH p).setF (R.HNET_BST k) F.HNET_BST_SEQ seq).setF (R.HNET_BST k) F.HNET_BST_RDLC f.dlc

/-- A good frame ends on a path (R421, R438): the buffers take it from the active path, or from both after a switch. In COLDSTART one with the
own reference identifier comes from a node with the same rank (R430). -/
def Lane.frameEnd (L : Lane) (p : Nat) (f : CanFrame) : Lane :=
  if L.synst = 2 ∧ f.ide = false ∧ f.ident = L.refIdent then L.backoff L.me
  else if ¬ (L.synst = 4 ∨ L.synst = 5) then L
  else
    let w := L.windowNow
    let kind := match w with | some e => (L.mx e).kind | none => 2
    let e := w.getD 0
    let acc := decide (L.fld R.HNET_PATH F.HNET_PATH_ACT = p) || L.on R.HNET_PATH F.HNET_PATH_DUAL
    let L1 := L.updHn fun h => { h with recent := h.recent ++ [⟨p, f, L.ticks, kind, e, acc⟩] }
    if acc then L1.takeFrame p kind e f else L1

/-- A read of HNET_BSTk latches the buffer's view (R422). -/
def Lane.bstLatch (L : Lane) (k : Nat) : Lane :=
  if L.on (R.HNET_BCFG k) F.HNET_BCFG_DIR then L
  else
    let v := if L.hn.rxAt.at k = L.ticks + 1 then L.hn.rxOld.at k else L.bufView k
    L.updHn fun h => { h with view := h.view.set k v, latched := h.latched.set k true }

/-- The active path fails: the other becomes active and its last frames are taken (R438). -/
def Lane.switchPath (L : Lane) : Lane :=
  let p := 1 - L.fld R.HNET_PATH F.HNET_PATH_ACT
  let L1 := (L.setF R.HNET_PATH F.HNET_PATH_ACT p).setF R.HNET_PATH F.HNET_PATH_DUAL 1
  let L1 := (L1.raise R.HNET_EVT F.HNET_EVT_SWITCH).bump R.HNET_CNT F.HNET_CNT_SWI 1
  L.hn.recent.foldl (fun X r => if r.path = p ∧ r.taken = false ∧ L.ticks ≤ r.at_ + 400 * L.rkdly then X.takeFrame p r.kind r.entry r.frame else X) L1

/-- A path fails for reception (R438). -/
def Lane.pathFail (L : Lane) (p : Nat) : Lane :=
  let lateRef := decide (9 * L.rkdly * 200 ≤ L.boff) && decide (L.hn.refSof.at p ≠ L.bcyc + 1) && decide (L.hn.refWhole.at (1 - p) = L.bcyc + 1)
  if ¬ (L.synst = 4 ∨ L.synst = 5) then L
  else if L.pathMissed p (400 * L.rkdly) || lateRef || L.on R.HNET_PATH (guBit p) then
    let bad := fun (q : Nat) => L.on R.HNET_PATH (guBit q) || L.on R.HNET_PATH (rxfBit q)
    let L1 := if L.on R.HNET_PATH (rxfBit p) then L
      else (((L.setF R.HNET_PATH (rxfBit p) 1).raise R.HNET_EVT (if p = 0 then F.HNET_EVT_RXFA else F.HNET_EVT_RXFB)).fault 9 p).updHn
        fun h => { h with good := h.good.set p 0 }
    if L.fld R.HNET_PATH F.HNET_PATH_ACT = p ∧ bad (1 - p) = false then L1.switchPath else L1
  else L

/-! ### Delay and capability frames (R428, R429) -/

/-- A probe arrives at the master: it is answered in the next arbitrating window. -/
def Lane.delayProbe (L : Lane) (p node : Nat) : Lane :=
  if L.isMaster && L.on R.HNET_CFG F.HNET_CFG_MODE then
    L.updHn fun h => { h with answers := h.answers ++ [(node, L.hn.sofAt.at p % 2 ^ 32)], heard := h.heard ||| 2 ^ node }
  else L

/-- The master's answer: the delay is averaged over the last eight. -/
def Lane.delayAnswer (L : Lane) (p t2 t3 : Nat) : Lane :=
  if !L.on R.HNET_CFG F.HNET_CFG_MODE || decide (L.hn.probe = 0) then L
  else
    let d := rneShift (((w32 (L.hn.sofAt.at p) - w32 L.hn.probe).toInt) - (w32 t3 - w32 t2).toInt) 1
    let ds := (L.hn.delays ++ [d]).drop (L.hn.delays.length + 1 - 8)
    let avg := rneDiv (ds.foldl (· + ·) 0) ds.length
    (L.setF R.HNET_PDLYM F.HNET_PDLYM_DLY (clampI 0 1023 avg).toNat).updHn fun h => { h with delays := ds, probe := 0 }

/-- A node's capability frame. -/
def Lane.capability (L : Lane) (node mask : Nat) : Lane :=
  L.updHn fun h => { h with heard := h.heard ||| 2 ^ node, masks := ins (del h.masks node) node (mask % 8, h.mcyc) }

/-! ### The end of a frame that a port fix sends (R412, R420, R430, R434, R437) -/

/-- A transmitted frame of a path, by its TAG, in one lane: 131 a reference message of its own turn, 129 a delay probe, whose SOF is t1 of R428. -/
def Lane.hnSent (L : Lane) (p tag : Nat) : Lane :=
  if tag = 131 then
    (if L.synst = 4 ∧ L.isMaster = false ∧ L.hn.ownRef = L.bcyc + 1 then L.becomeMaster else L)
  else if tag = 129 then
    (if L.fld R.HNET_PATH F.HNET_PATH_ACT = p ∧ L.hn.probe ≠ 0 then L.updHn fun h => { h with probe := h.sofAt.at p } else L)
  else match L.mxBuf tag with
    | none => L
    | some k =>
      let L1 := L.raise (R.HNET_BST k) (if p = 0 then F.HNET_BST_SENTA else F.HNET_BST_SENTB)
      if (L.mx tag).kind ≠ 1 then L1
      else (L1.updHn fun h => { h with txMask := h.txMask.set k (h.txMask.at k ||| 2 ^ p) }).hnReqEnd k

/-- A Helm Net frame of die `n` ends. -/
def State.helmDone (s : State) (n : Nat) (e : CanEnd) : State :=
  let d := s.die n
  match d.wins.find? fun w => w.st = 2 with
  | none => s
  | some w =>
    let tag := w.frame.tag
    let s1 := match e with
      | .sent => (s.onDie n fun d => { (d.dropWin tag).tecGood with rb := 0 }).onLanes fun _ L => L.hnSent n tag
      | .lost =>
        if tag = 131 then (s.onDie n fun d => d.dropWin tag).onLanes fun _ L => if L.synst = 2 then L.setSyn 3 else L
        else (s.onDie n fun d => d.setWin tag 1).onLanes fun _ L => L.hnFlag tag F.HNET_BST_ARBLOST
      | .error =>
        let s2 := s.onDie n fun d => { (d.dropWin tag).tecError with rb := min 255 (d.rb + 1) }
        let s2 := if tag = 131 then s2.onLanes fun l L => if L.synst = 2 then L.backoff l.num else L else s2
        if 3 ≤ (s2.die n).rb ∨ (s2.die n).busOff = true then s2.giveUpPath n else s2
      | .noAck =>
        let s2 := s.onDie n fun d => { (d.dropWin tag).tecError with rb := 0 }
        if (s2.die n).busOff then s2.giveUpPath n else s2
    let s3 := s1.onDie n fun d => { d with busBusy := true }
    let d3 := s3.die n
    let sending := (s3.d0.wins ++ s3.d1.wins).any fun w => decide (w.st = 2)
    s3.onLanes fun _ L =>
      let X := L.hnErr n d3
      let X := if X.on R.HNET_PATH (guBit n) && decide (X.fld R.HNET_PATH F.HNET_PATH_ACT = n) then X.pathFail n else X
      if X.hn.closing && !sending then X.hnClosed else X

/-- A frame of ISOBUS (die 2) or the service CAN (die 3) ends. -/
def State.canDone (s : State) (n : Nat) (e : CanEnd) : State :=
  let d := s.die n
  match d.frames.find? fun x => x.sending with
  | none => s
  | some x =>
    let cfg := s.majRd (if n = 2 then R.ISB_CFG else R.SVC_CFG)
    let gone : Die → Die := fun d => { d with frames := d.frames.erase x }
    let again : Die → Die := fun d => { d with frames := d.frames.map fun y => if y = x then { y with sending := false } else y }
    let keep := F.ISB_CFG_ARETX.on cfg
    let s1 := match e with
      | .sent => (s.onDie n fun d => (gone d).tecGood).onLanes fun _ L => L.canOut n x.frame.tag true
      | .lost => if keep then s.onDie n again else (s.onDie n gone).onLanes fun _ L => L.canOut n x.frame.tag false
      | _ => if keep then s.onDie n fun d => (again d).tecError
        else (s.onDie n fun d => (gone d).tecError).onLanes fun _ L => L.canOut n x.frame.tag false
    let d1 := s1.die n
    s1.onLanes fun _ L => L.canErr n d1 d.busOff

/-- A CAN frame that a port fix sends ends (R412). -/
def State.frameDone (s : State) (n : Nat) (e : CanEnd) : State := if n < 2 then s.helmDone n e else s.canDone n e

/-- The bus of a port becomes idle (R434): for Helm Net `since` is the time from the start of the window that waits. -/
def State.busIdle (s : State) (n since : Nat) : State :=
  if n < 2 then s.helmIdle n since else s.onDie n fun d => Die.startCan { d with busBusy := false }

/-- A port leaves bus-off (R412, R451). -/
def State.busRecover (s : State) (n : Nat) : State :=
  let cfg := s.majRd (if n = 2 then R.ISB_CFG else R.SVC_CFG)
  if n < 2 ∨ F.ISB_CFG_AUTOREC.on cfg = false ∨ (s.die n).busOff = false then s
  else
    let s1 := s.onDie n fun d => Die.startCan { d with busOff := false, tec := 0, frames := d.frames.map fun y => { y with sending := false } }
    let d1 := s1.die n
    s1.onLanes fun _ L => L.canErr n d1 true

end Sys2Proof.Machine
end

