-- ==== Sys2Proof/Machine/Can.lean ====
section
/-! DEFINITION. The ISOBUS and service CAN controllers of a lane (R439 to R442, R447, R451): address claims, transmit requests and
receive buffers. Controller 2 is ISOBUS and 3 the service CAN, as their dies are numbered. `me` is the lane's number; a record for a
port fix goes out as a pair of a die number and the record. -/

namespace Sys2Proof.Machine

def canCtrl (n : Nat) : Reg := if n = 2 then R.ISB_CTRL else R.SVC_CTRL
def canTxct (n k : Nat) : Reg := if n = 2 then R.ISB_TXCT k else R.SVC_TXCT k
def canTxid (n k : Nat) : Reg := if n = 2 then R.ISB_TXID k else R.SVC_TXID k
def canTxd (n k j : Nat) : Reg := match n, j with
  | 2, 0 => R.ISB_TXD0 k
  | 2, _ => R.ISB_TXD1 k
  | _, 0 => R.SVC_TXD0 k
  | _, _ => R.SVC_TXD1 k

def Lane.acstate (L : Lane) : Nat := L.fld R.ISB_ACST F.ISB_ACST_ACSTATE
def Lane.isbSa (L : Lane) : Nat := L.fld R.ISB_ACST F.ISB_ACST_SA
def Lane.setAcst (L : Lane) (st sa : Nat) : Lane := L.wr R.ISB_ACST (w32 (sa + 256 * st))
/-- The 64-bit NAME (R440). -/
def Lane.isbName (L : Lane) : Nat := (L.rd R.ISB_NAMELO).toNat + 2 ^ 32 * (L.rd R.ISB_NAMEHI).toNat

/-- A frame handed to the port fix with the next TAG (R410, R441); `k` is its transmit buffer, 16 for address management. -/
def Lane.canSend (L : Lane) (me n k : Nat) (f : CanFrame) : Lane × List (Nat × PortRec) :=
  let tag := (L.canCtl n).tag
  (L.updCan n fun c => { c with tag := (c.tag + 1) % 65536, out := ins (del c.out tag) tag k },
   [(n, { (default : PortRec) with lane := me, port := n, tag := tag, ident := f.ident, ide := f.ide, dlc := f.dlc, data := f.data })])

/-- The present claim, or Cannot Claim from address 254 (R440; the identifier and content of ISO 11783-5, log entry 16). -/
def Lane.sendClaim (L : Lane) (me : Nat) : Lane × List (Nat × PortRec) :=
  L.canSend me 2 16 ⟨0x18EEFF00 + L.isbSa, true, 8, leBytes 8 L.isbName⟩

/-- The frame of a transmit buffer; ISOBUS writes its address into the identifier (R441). -/
def Lane.canBufFrame (L : Lane) (n k : Nat) : CanFrame :=
  let id := L.fld (canTxid n k) F.ISB_TXID_IDENT
  let dlc := L.fld (canTxct n k) F.ISB_TXCT_DLC
  let ide := L.on (canTxid n k) F.ISB_TXID_IDE
  ⟨if n = 2 then id / 256 * 256 + L.isbSa else if ide then id else id % 2048, ide, dlc,
   (leBytes 4 (L.rd (canTxd n k 0)).toNat ++ leBytes 4 (L.rd (canTxd n k 1)).toNat).take dlc⟩

/-- A request that is not sent (R439, R441). -/
def Lane.canDrop (L : Lane) (n k : Nat) : Lane :=
  ((L.setF (canTxct n k) F.ISB_TXCT_PEND 0).setF (canTxct n k) F.ISB_TXCT_REQ 0).raise (canTxct n k) F.ISB_TXCT_DROP

/-- The requests that wait are handed over in the order in which software made them, dropped, or held (R441). -/
def Lane.canFlush (L : Lane) (me n : Nat) : Lane × List (Nat × PortRec) :=
  if !L.on (canCtrl n) F.ISB_CTRL_ACTIVE || (L.canCtl n).closing then (L, [])
  else
    let q := (L.canCtl n).queue
    let L0 := L.updCan n fun c => { c with queue := [] }
    if n = 2 ∧ L.acstate = 3 then (q.foldl (fun X k => X.canDrop 2 k) L0, [])
    else if n = 2 ∧ L.acstate ≠ 2 then (L, [])
    else q.foldl (fun (p : Lane × List (Nat × PortRec)) k =>
      let r := p.1.canSend me n k (p.1.canBufFrame n k)
      (r.1, p.2 ++ r.2)) (L0, [])

/-- A write of REQ (R439, R441, R451); `was` is the register before the write, and a request while PEND reads 1 is ignored. -/
def Lane.canRequest (L : Lane) (me n k : Nat) (was : Word) : Lane × List (Nat × PortRec) :=
  if !L.on (canTxct n k) F.ISB_TXCT_REQ || F.ISB_TXCT_PEND.on was then (L, [])
  else if n = 2 ∧ L.on (canTxid 2 k) F.ISB_TXID_IDE = false then (L.canDrop 2 k, [])
  else ((L.setF (canTxct n k) F.ISB_TXCT_PEND 1).updCan n fun c => { c with queue := c.queue ++ [k] }).canFlush me n

/-- EN written: the controller starts, ISOBUS with its claim (R440), or stops once its frames are out (R47 to R49). -/
def Lane.canEnable (L : Lane) (me n : Nat) (was : Word) : Lane × List (Nat × PortRec) :=
  let en := L.on (canCtrl n) F.ISB_CTRL_EN
  if en = F.ISB_CTRL_EN.on was then (L, [])
  else if en then
    if L.on (canCtrl n) F.ISB_CTRL_ACTIVE then (L, [])
    else
      let L1 := L.setF (canCtrl n) F.ISB_CTRL_ACTIVE 1
      if n = 2 then ((L1.setAcst 1 (L.fld R.ISB_ADDR F.ISB_ADDR_PREF)).updCan 2 fun c => { c with others := [], claimAt := L.ticks }).sendClaim me
      else L1.canFlush me 3
  else if L.on (canCtrl n) F.ISB_CTRL_ACTIVE then ((L.updCan n fun c => { c with closing := true }).canClose n, [])
  else (L, [])

/-- A controller enabled again while its disable waited starts afresh once it is inactive (R49). -/
def Lane.canAgain (L : Lane) (me n : Nat) : Lane × List (Nat × PortRec) :=
  if L.on (canCtrl n) F.ISB_CTRL_EN && !L.on (canCtrl n) F.ISB_CTRL_ACTIVE then L.canEnable me n 0 else (L, [])

/-- The address is lost to a lower NAME (R440). -/
def Lane.loseAddr (L : Lane) (me : Nat) : Lane × List (Nat × PortRec) :=
  let L1 := L.raise R.ISB_EVT F.ISB_EVT_LOSTADDR
  let lo := L.fld R.ISB_ADDR F.ISB_ADDR_AMIN
  let hi := L.fld R.ISB_ADDR F.ISB_ADDR_AMAX
  let free := (List.range (hi + 1 - lo)).find? fun i => !(L.isb.others.contains (lo + i))
  match (if L.isbName.testBit 63 then free else none) with
  | some i => ((L1.setAcst 1 (lo + i)).updCan 2 fun c => { c with claimAt := L.ticks }).sendClaim me
  | none =>
    let r := ((L1.setAcst 3 254).raise R.ISB_EVT F.ISB_EVT_CANTCLAIM).sendClaim me
    let f := r.1.canFlush me 2
    (f.1, r.2 ++ f.2)

/-- Another node's claim of address `sa` with a NAME (R440). -/
def Lane.claimReceive (L : Lane) (me sa name : Nat) : Lane × List (Nat × PortRec) :=
  if !L.on R.ISB_CTRL F.ISB_CTRL_ACTIVE then (L, [])
  else
    let L1 := L.updCan 2 fun c => { c with others := if c.others.contains sa then c.others else c.others ++ [sa] }
    if (L.acstate = 1 ∨ L.acstate = 2) ∧ sa = L.isbSa then
      if name < L.isbName then L1.loseAddr me
      else if L.isbName < name then (L1.updCan 2 fun c => { c with claimAt := L.ticks }).sendClaim me
      else (L1, [])
    else (L1, [])

/-- A request for Address Claimed (R440). -/
def Lane.claimRequest (L : Lane) (me : Nat) : Lane × List (Nat × PortRec) :=
  if L.on R.ISB_CTRL F.ISB_CTRL_ACTIVE && decide (L.acstate ≠ 0) then L.sendClaim me else (L, [])

/-- 250 ms without a contest (R440). -/
def Lane.claimTimeout (L : Lane) (me : Nat) : Lane × List (Nat × PortRec) :=
  if L.on R.ISB_CTRL F.ISB_CTRL_ACTIVE && decide (L.acstate = 1) && decide (L.isb.claimAt + 50000000 ≤ L.ticks) then
    ((L.setAcst 2 L.isbSa).raise R.ISB_EVT F.ISB_EVT_CLAIMED).canFlush me 2
  else (L, [])

/-- A received frame goes to the lowest-numbered enabled buffer that it matches (R442, R451). -/
def Lane.canReceive (L : Lane) (n : Nat) (f : CanFrame) : Lane :=
  let rxf := fun (k : Nat) => if n = 2 then R.ISB_RXF k else R.SVC_RXF k
  let rxm := fun (k : Nat) => if n = 2 then R.ISB_RXM k else R.SVC_RXM k
  let fits := fun (k : Nat) => L.on (rxf k) F.ISB_RXF_EN && decide (L.on (rxf k) F.ISB_RXF_IDE = f.ide)
    && decide ((L.fld (rxf k) F.ISB_RXF_IDENT ^^^ f.ident) &&& L.fld (rxm k) F.ISB_RXM_MASK = 0)
  if !L.on (canCtrl n) F.ISB_CTRL_ACTIVE || (decide (n = 2) && !f.ide) then L
  else match (List.range (if n = 2 then 32 else 16)).find? fits with
    | none => L
    | some k =>
      let rxs := if n = 2 then R.ISB_RXS k else R.SVC_RXS k
      let L1 := if L.on rxs F.ISB_RXS_NEW then L.raise rxs F.ISB_RXS_OVR else L
      let L2 := (L1.raise rxs F.ISB_RXS_NEW).setF rxs F.ISB_RXS_DLC f.dlc
      let L3 := L2.wr (if n = 2 then R.ISB_RXT k else R.SVC_RXT k) (w32 L.gt)
      let L4 := L3.wr (if n = 2 then R.ISB_RXD0 k else R.SVC_RXD0 k) (w32 (leNat (f.data.take 4)))
      L4.wr (if n = 2 then R.ISB_RXD1 k else R.SVC_RXD1 k) (w32 (leNat ((f.data.drop 4).take 4)))

/-- VPART written (R447). -/
def Lane.negotiate (L : Lane) : Lane :=
  let p := L.fld R.ISB_NEG F.ISB_NEG_VPART
  let L1 := L.setF R.ISB_NEG F.ISB_NEG_VNEG (min p (L.fld R.ISB_NEG F.ISB_NEG_VMAX))
  if p < L.fld R.ISB_NEG F.ISB_NEG_VMIN then L1.raise R.ISB_EVT F.ISB_EVT_VERR else L1

end Sys2Proof.Machine
end

