-- ==== Sys2Proof/Machine/Meas.lean ====
section
/-! DEFINITION. The measurement block (R342 to R373): the reference buffer, slots and their results, sequences, spot
conversions, guard bands, the compass swing and the calibration store, and the configuration check. Functions of one lane;
`me` is its number. -/

namespace Sys2Proof.Machine

def Lane.updMeas (L : Lane) (f : Meas → Meas) : Lane := { L with meas := f L.meas }

/-! ### Reference (R346 to R348) -/

/-- Whether RDY read 1 at a tick, from its last setting and clearing. -/
def Lane.rdyAt (L : Lane) (t : Nat) : Bool :=
  let s := L.meas.rdySet
  let c := L.meas.rdyClr
  if s ≤ t + 1 ∧ c ≤ t + 1 then decide (c < s) else if s ≤ t + 1 then decide (0 < s) else if c ≤ t + 1 then false else decide (c < s)

/-- RDY cleared. -/
def Lane.refOff (L : Lane) : Lane :=
  if L.on R.MEAS_REF F.MEAS_REF_RDY then (L.setF R.MEAS_REF F.MEAS_REF_RDY 0).updMeas fun m => { m with rdyClr := L.ticks + 1 } else L

/-- MEAS_REF.EN has been written (R346). -/
def Lane.refWritten (L : Lane) (was : Bool) : Lane :=
  if L.on R.MEAS_REF F.MEAS_REF_EN then (if was then L else L.updMeas fun m => { m with refAt := L.ticks }) else L.refOff

/-- The reference has stayed within ±0.1 % for 2.0 ms (R346, R348). -/
def Lane.refReady (L : Lane) : Lane :=
  if L.on R.MEAS_REF F.MEAS_REF_EN ∧ L.on R.MEAS_REF F.MEAS_REF_RDY = false ∧ L.meas.refAt + 400000 ≤ L.ticks then
    ((L.setF R.MEAS_REF F.MEAS_REF_RDY 1).raise R.MEAS_STAT F.MEAS_STAT_REFUP).updMeas fun m => { m with rdySet := L.ticks + 1 }
  else L

/-- The reference has left ±0.5 % (R348). -/
def Lane.refFault (L : Lane) (me : Nat) : Lane :=
  if L.on R.MEAS_REF F.MEAS_REF_EN then
    ((L.refOff.raise R.MEAS_STAT F.MEAS_STAT_REFF).updMeas fun m => { m with refAt := L.ticks }).fault 1 me
  else L

/-! ### The calibration store (R368 to R370) -/

/-- The place of a copy of the calibration store in the flash (R550). -/
def calBase (copy : Nat) : Nat := 0x802000 + 0x1000 * copy

/-- Whether a copy has its layout mark, the lane's letter and a good CRC. -/
def Lane.calGood (L : Lane) (copy : Nat) : Bool :=
  let ws := (List.range 130).map fun i => L.flashW (calBase copy + 4 * i)
  decide ((ws.getD 0 0).toNat % 65536 = 0xCA1B) && decide ((ws.getD 1 0).toNat % 4 = (L.rd R.LANE_ID_LANE).toNat % 4)
    && decide ((L.flashW (calBase copy + 520)).toNat = crc32c (wordsBytes ws))

/-- The generation of a copy. -/
def Lane.calGen (L : Lane) (copy : Nat) : Nat := (L.flashW (calBase copy)).toNat / 65536

/-- The later of two good copies: generations compare as a 16-bit two's-complement difference. -/
def laterCopy (g0 g1 : Bool) (gen0 gen1 : Nat) : Option Nat :=
  if g0 && g1 then (if sext 16 (gen1 + 65536 - gen0) > 0 then some 1 else some 0)
  else if g0 then some 0 else if g1 then some 1 else none

/-- The stored entry of a slot: UOFS and UGAIN, 0 for not calibrated. -/
def Lane.calEntry (L : Lane) (s : Nat) : Word × Word :=
  match L.meas.calCopy with
  | some c => (L.flashW (calBase c + 8 + 8 * s), L.flashW (calBase c + 12 + 8 * s))
  | none => (0, 0)

/-- The store loaded at start-up (R370). -/
def Lane.calLoad (L : Lane) : Lane :=
  let c := laterCopy (L.calGood 0) (L.calGood 1) (L.calGen 0) (L.calGen 1)
  let L1 := L.updMeas fun m => { m with calCopy := c }
  let L2 := match c with
    | some c => (L1.setF R.MEAS_CALST F.MEAS_CALST_GEN (L.calGen c)).setF R.MEAS_CALST F.MEAS_CALST_STOREBAD 0
    | none => L1.setF R.MEAS_CALST F.MEAS_CALST_STOREBAD 1
  (List.range 64).foldl (fun L s =>
    let e := L.calEntry s
    if e.2 = 0 then (L.wr (R.MEAS_UOFS s) 0).wr (R.MEAS_UGAIN s) 0x40000000
    else (L.wr (R.MEAS_UOFS s) e.1).wr (R.MEAS_UGAIN s) e.2) L2

/-! ### Slots -/

/-- Whether a slot lacks a calibration that it requires (R351). -/
def Lane.uncal (L : Lane) (s : Nat) : Bool := L.on (R.MEAS_SLCFG s) F.MEAS_SLCFG_CALREQ && decide ((L.calEntry s).2 = 0)

/-- A slot becomes active (R351, R353): its deliveries count anew. -/
def Lane.slotOn (L : Lane) (s : Nat) : Lane :=
  let st := F.MEAS_SLST_ACTIVE.set (L.rd (R.MEAS_SLST s) &&& (F.MEAS_SLST_WREF.mask ||| F.MEAS_SLST_NOTRDY.mask)) 1
  (L.wr (R.MEAS_SLST s) st).updMeas fun m => { m with slots := m.slots.upd s fun x => { x with gbTo := 0, gbCnt := 0 } }

/-- A compass-swing capture refused (R363 to R367). -/
def Lane.calRefuse (L : Lane) (cause : Nat) : Lane :=
  (L.raise R.MEAS_CALST F.MEAS_CALST_REFUSED).setF R.MEAS_CALST F.MEAS_CALST_CAUSE cause

/-- A running capture aborted (R51, R367). -/
def Lane.calStop (L : Lane) : Lane :=
  (((L.setF R.MEAS_CALST F.MEAS_CALST_BUSY 0).setF R.MEAS_CALST F.MEAS_CALST_ABORT_LATE 0).updMeas fun m => { m with cap := none }).calRefuse 0xA

/-- A slot becomes inactive (R351, R361, R367). -/
def Lane.slotOff (L : Lane) (s : Nat) : Lane :=
  let L1 := ((L.setF (R.MEAS_SLST s) F.MEAS_SLST_ACTIVE 0).setF (R.MEAS_SLST s) F.MEAS_SLST_VALID 0).setF (R.MEAS_SLST s)
    F.MEAS_SLST_GBST 0
  let L1 := L1.updMeas fun m => { m with slots := m.slots.upd s fun x => { x with gbTo := 0, gbCnt := 0 } }
  if L1.meas.cap.isSome && decide (L1.meas.capSlot = s) && decide (L1.meas.capN < 256) then L1.calStop else L1

def Lane.slotBusy (L : Lane) (s : Nat) : Bool := L.meas.flight.any fun c => decide (c.slot = s)

/-! ### The configuration check (R371) -/

def Lane.slotCause (L : Lane) (s : Nat) : Nat :=
  let c := L.rd (R.MEAS_SLCFG s)
  let hy : Int := F.MEAS_GBFLT_HY.get (L.rd (R.MEAS_GBFLT s)) * 256
  if 6 ≤ F.MEAS_SLCFG_CONV.get c then 1
  else if 0x4E ≤ F.MEAS_SLCFG_CHAN.get c then 2
  else if F.MEAS_SLCFG_GBEN.on c ∧ ¬ (L.rdI (R.MEAS_GBLO s) + hy < L.rdI (R.MEAS_GBHI s) - hy) then 7
  else 0

/-- The step numbers of a sequence. -/
def Lane.seqSteps (L : Lane) (q : Nat) : List Nat :=
  (List.range (L.fld (R.MEAS_SQCFG q) F.MEAS_SQCFG_LEN)).map (· + L.fld (R.MEAS_SQCFG q) F.MEAS_SQCFG_FIRST)

def Lane.stepSlot (L : Lane) (i : Nat) : Nat := L.fld (R.MEAS_STEP i) F.MEAS_STEP_SLOT
def Lane.stepSim (L : Lane) (i : Nat) : Bool := L.on (R.MEAS_STEP i) F.MEAS_STEP_SIM
def Lane.slotConv (L : Lane) (s : Nat) : Nat := L.fld (R.MEAS_SLCFG s) F.MEAS_SLCFG_CONV

/-- The group that step `i` opens in a list of steps: the step and those after it with SIM at 1. -/
def Lane.groupOf (L : Lane) : List Nat → List Nat
  | [] => []
  | i :: t => i :: t.takeWhile fun j => L.stepSim j

/-- Whether two steps of one group name slots on the same converter: `seen` holds the converters of the present group. -/
def Lane.groupClash (L : Lane) : List Nat → List Nat → Bool
  | _, [] => false
  | seen, i :: t =>
    let c := L.slotConv (L.stepSlot i)
    if L.stepSim i then (seen.contains c || L.groupClash (c :: seen) t) else L.groupClash [c] t

def Lane.seqCause (L : Lane) (q : Nat) : Nat :=
  let c := L.rd (R.MEAS_SQCFG q)
  let len := F.MEAS_SQCFG_LEN.get c
  let st := L.seqSteps q
  if len = 0 ∨ 63 < F.MEAS_SQCFG_FIRST.get c + len - 1 then 3
  else if L.stepSim (st.headD 0) then 4
  else if L.groupClash [] st then 5
  else if F.MEAS_SQCFG_BRGEN.on c ∧ ((List.range 16).any fun p => decide (p ≠ q) && L.on (R.MEAS_SQCFG p) F.MEAS_SQCFG_EN
      && L.on (R.MEAS_SQCFG p) F.MEAS_SQCFG_BRGEN && decide (L.fld (R.MEAS_SQCFG p) F.MEAS_SQCFG_BRG = F.MEAS_SQCFG_BRG.get c)) = true then 6
  else 0

/-- A failed check shown. -/
def Lane.measCfgErr (L : Lane) (cause : Nat) : Lane :=
  if cause = 0 then L else (L.raise R.MEAS_STAT F.MEAS_STAT_CFGERR).setF R.MEAS_STAT F.MEAS_STAT_CFGCAUSE cause

def minCause (a b : Nat) : Nat := if a = 0 then b else if b = 0 then a else min a b

/-- The block enabled (R371). -/
def Lane.measStart (L : Lane) : Lane :=
  let sl := (List.range 64).filter fun s => L.on (R.MEAS_SLCFG s) F.MEAS_SLCFG_EN
  let sq := (List.range 16).filter fun q => L.on (R.MEAS_SQCFG q) F.MEAS_SQCFG_EN
  let cause := (sl.map L.slotCause ++ sq.map L.seqCause).foldl minCause 0
  let L1 := (L.setF R.MEAS_CTRL F.MEAS_CTRL_ACTIVE 1).measCfgErr cause
  let L2 := sl.foldl (fun X s => if L.slotCause s = 0 then X.slotOn s else X) L1
  sq.foldl (fun X q => if L.seqCause q = 0 then X.setF (R.MEAS_SQSTAT q) F.MEAS_SQSTAT_ACTIVE 1 else X) L2

/-- MEAS_CTRL.EN has been written (R48, R49, R371): a disable waits for the conversions under way, and no further one starts meanwhile. -/
def Lane.measWritten (L : Lane) (was : Bool) : Lane :=
  if L.on R.MEAS_CTRL F.MEAS_CTRL_EN then (if was || L.meas.closing then L else L.measStart)
  else if L.on R.MEAS_CTRL F.MEAS_CTRL_ACTIVE then L.updMeas fun m => { m with closing := true }
  else L

/-- The block disabled once no conversion is under way (R48); EN set meanwhile starts it afresh (R49). -/
def Lane.measSettle (L : Lane) : Lane :=
  if L.meas.closing = true ∧ L.on R.MEAS_CTRL F.MEAS_CTRL_ACTIVE ∧ L.meas.flight.isEmpty = true then
    let L1 := (List.range 64).foldl (fun X s => if X.on (R.MEAS_SLST s) F.MEAS_SLST_ACTIVE then X.slotOff s else X) L
    let L2 := (List.range 16).foldl (fun X q =>
      (X.setF (R.MEAS_SQSTAT q) F.MEAS_SQSTAT_ACTIVE 0).setF (R.MEAS_SQSTAT q) F.MEAS_SQSTAT_RUN 0) L1
    let L3 := (L2.setF R.MEAS_CTRL F.MEAS_CTRL_ACTIVE 0).updMeas fun m => { m with runs := [], closing := false }
    if L3.on R.MEAS_CTRL F.MEAS_CTRL_EN then L3.measStart else L3
  else L

/-- A slot's EN has been written (R48, R353, R371). -/
def Lane.slotWritten (L : Lane) (s : Nat) (was : Bool) : Lane :=
  if L.on (R.MEAS_SLCFG s) F.MEAS_SLCFG_EN then
    if was then L
    else if L.slotCause s ≠ 0 then L.measCfgErr (L.slotCause s)
    else if L.on R.MEAS_CTRL F.MEAS_CTRL_ACTIVE then L.slotOn s else L
  else if L.on (R.MEAS_SLST s) F.MEAS_SLST_ACTIVE && !L.slotBusy s then L.slotOff s
  else L

/-- A sequence enabled (R371). -/
def Lane.seqOn (L : Lane) (q : Nat) : Lane :=
  if L.seqCause q ≠ 0 then L.measCfgErr (L.seqCause q)
  else if L.on R.MEAS_CTRL F.MEAS_CTRL_ACTIVE then L.setF (R.MEAS_SQSTAT q) F.MEAS_SQSTAT_ACTIVE 1 else L

/-- A sequence's EN has been written (R49, R357, R371): a pass under way ends before the sequence stops or starts afresh. -/
def Lane.seqWritten (L : Lane) (q : Nat) (was : Bool) : Lane :=
  if L.on (R.MEAS_SQCFG q) F.MEAS_SQCFG_EN then (if was || (L.meas.runs.at q).closing then L else L.seqOn q)
  else if (L.meas.runs.at q).run then L.updMeas fun m => { m with runs := m.runs.upd q fun r => { r with closing := true } }
  else L.setF (R.MEAS_SQSTAT q) F.MEAS_SQSTAT_ACTIVE 0

/-! ### Sequences (R354 to R357) -/

/-- The completion of a sequence seen by the engine: a WAIT on it completes in the following tick (R178, R357). -/
def Lane.wakeSeq (L : Lane) (q : Nat) : Lane := { L with eng := { L.eng with seqAt := L.eng.seqAt.set q (L.ticks + 1) } }

/-- A sequence complete: every step has run and its last delivery is written. -/
def Lane.seqDone (L : Lane) (q : Nat) : Lane :=
  let r := L.meas.runs.at q
  if r.run && decide (r.stop ≤ r.next) && decide (r.left = 0) then
    let L1 := (L.raise (R.MEAS_SQSTAT q) F.MEAS_SQSTAT_DONE).setF (R.MEAS_SQSTAT q) F.MEAS_SQSTAT_LAT (min 0xFFFF (L.ticks - r.startAt))
    let L2 := (L1.setF (R.MEAS_SQSTAT q) F.MEAS_SQSTAT_RUN 0).updMeas fun m => { m with
      runs := m.runs.upd q fun r => { r with run := false, closing := false } }
    let L3 := if !r.closing then L2
      else
        let X := L2.setF (R.MEAS_SQSTAT q) F.MEAS_SQSTAT_ACTIVE 0
        if X.on (R.MEAS_SQCFG q) F.MEAS_SQCFG_EN then X.seqOn q else X
    L3.wakeSeq q
  else L

/-- A start of a sequence from any source (R355). -/
def Lane.seqStart (L : Lane) (q : Nat) : Lane :=
  let r := L.meas.runs.at q
  if !L.on (R.MEAS_SQSTAT q) F.MEAS_SQSTAT_ACTIVE then L.raise (R.MEAS_SQSTAT q) F.MEAS_SQSTAT_IDLESTART
  else if r.run then (if r.startAt = L.ticks then L else L.raise (R.MEAS_SQSTAT q) F.MEAS_SQSTAT_RETRIG)
  else
    let f := L.fld (R.MEAS_SQCFG q) F.MEAS_SQCFG_FIRST
    (L.setF (R.MEAS_SQSTAT q) F.MEAS_SQSTAT_RUN 1).updMeas fun m => { m with
      runs := m.runs.set q ⟨true, f, f + L.fld (R.MEAS_SQCFG q) F.MEAS_SQCFG_LEN, L.ticks, 0, false⟩ }

def Lane.seqStarts (L : Lane) (mask : Nat) : Lane :=
  (List.range 16).foldl (fun X q => if mask.testBit q then X.seqStart q else X) L

/-- Whether a step is skipped (R357): no conversion starts on a slot that is being disabled either (R48). -/
def Lane.stepSkip (L : Lane) (i : Nat) : Bool :=
  let s := L.stepSlot i
  !L.on (R.MEAS_SLST s) F.MEAS_SLST_ACTIVE || !L.on (R.MEAS_SLCFG s) F.MEAS_SLCFG_EN || (L.fld R.MEAS_CONV F.MEAS_CONV_OOS).testBit (L.slotConv s)

/-- The steps of the next group of a running sequence. -/
def Lane.nextGroup (L : Lane) (q : Nat) : List Nat :=
  let r := L.meas.runs.at q
  if r.run then L.groupOf ((List.range (r.stop - r.next)).map (· + r.next)) else []

/-- The converters that the next group of a sequence waits for. -/
def Lane.groupConvs (L : Lane) (q : Nat) : List Nat :=
  ((L.nextGroup q).filter fun i => !L.stepSkip i).map fun i => L.slotConv (L.stepSlot i)

def Lane.convFree (L : Lane) (c : Nat) : Bool := decide (L.meas.free.at c ≤ L.ticks)

/-- The rank of a sequence in the order of R356. -/
def Lane.seqRank (L : Lane) (q : Nat) : Nat :=
  if L.on (R.MEAS_SQCFG q) F.MEAS_SQCFG_BRGEN then L.fld (R.MEAS_SQCFG q) F.MEAS_SQCFG_BRG else 8 + q

/-- Whether a sequence has a group to start (R354): none starts while the block is being disabled (R48). -/
def Lane.groupWaits (L : Lane) (q : Nat) : Bool := !L.meas.closing && !(L.nextGroup q).isEmpty

/-- Whether the next group of a sequence can start now (R354, R356): every converter of it is free, and none is one that a group before it in the order
waits for, whether or not that group can start (log entry 64). -/
def Lane.groupMayStart (L : Lane) (q : Nat) : Bool :=
  L.groupWaits q && (L.groupConvs q).all L.convFree && !((List.range 16).any fun p => decide (p ≠ q) && L.groupWaits p && decide (L.seqRank p < L.seqRank q)
    && (L.groupConvs p).any fun c => (L.groupConvs q).contains c)

/-- The next group of a sequence starts its conversions (R354, R357). -/
def Lane.groupStart (L : Lane) (q : Nat) : Lane :=
  if L.groupMayStart q then
    let g := L.nextGroup q
    let go := g.filter fun i => !L.stepSkip i
    let cs : List MConv := go.map fun i =>
      let s := L.stepSlot i
      ⟨s, q, L.slotConv s, L.ticks, 2 ^ L.fld (R.MEAS_SLCFG s) F.MEAS_SLCFG_AVG⟩
    let L1 := if go.length < g.length then L.raise (R.MEAS_SQSTAT q) F.MEAS_SQSTAT_SKIPPED else L
    (L1.updMeas fun m => { m with
      flight := m.flight ++ cs
      free := cs.foldl (fun t c => t.set c.conv (L.ticks + 50 * c.n)) m.free
      runs := m.runs.upd q fun r => { r with next := r.next + g.length, left := r.left + cs.length } }).seqDone q
  else L

/-! ### Deliveries (R344, R350 to R352, R360, R361, R364) -/

/-- The word of a code (R344). -/
def codeWord (chan c : Nat) : Int := if chan < 0x18 then sext 16 c * 65536 else (c % 65536 : Nat) * 32768

/-- The code that a conversion of a channel gives: 0 on the channels that a GDZ-7320 does not have (R343, R344). -/
def Lane.codeOf (L : Lane) (chan c : Nat) : Nat :=
  if L.small && ((decide (0x3C ≤ chan) && decide (chan ≤ 0x47)) || decide (chan = 0x4A) || decide (chan = 0x4B)) then 0 else c

/-- The trimmed value and the result of a delivery (R350). -/
def Lane.trim (L : Lane) (s : Nat) (codes : List Nat) (avg : Nat) : Int × Int :=
  let c := L.slotConv s
  let w := rneShift ((codes.map (codeWord (L.fld (R.MEAS_SLCFG s) F.MEAS_SLCFG_CHAN))).foldl (· + ·) 0) avg
  let x1 := satI 32 (rneShift ((w - L.rdI (R.MEAS_FOFS c)) * (L.rd (R.MEAS_FGAIN c)).toNat) 30)
  (x1, satI 32 (rneShift ((x1 - L.rdI (R.MEAS_UOFS s)) * (L.rd (R.MEAS_UGAIN s)).toNat) 30))

/-- The guard-band state that a result calls for, from a state: 0 IN, 1 HIGH, 2 LOW (R360). -/
def bandWants (st : Nat) (x lo hi hy : Int) : Nat :=
  if st = 0 then (if x > hi then 1 else if x < lo then 2 else 0)
  else if st = 1 then (if x < lo then 2 else if x ≤ hi - hy then 0 else 1)
  else (if x > hi then 1 else if x ≥ lo + hy then 0 else 2)

/-- The guard band after a delivery (R360). -/
def Lane.band (L : Lane) (s : Nat) (x : Int) : Lane :=
  if !L.on (R.MEAS_SLCFG s) F.MEAS_SLCFG_GBEN then L
  else
    let st := L.fld (R.MEAS_SLST s) F.MEAS_SLST_GBST
    let hy : Int := L.fld (R.MEAS_GBFLT s) F.MEAS_GBFLT_HY * 256
    let want := bandWants st x (L.rdI (R.MEAS_GBLO s)) (L.rdI (R.MEAS_GBHI s)) hy
    let m := L.meas.slots.at s
    let setSlot : Nat → Nat → Lane → Lane := fun g n X =>
      X.updMeas fun y => { y with slots := y.slots.upd s fun z => { z with gbTo := g, gbCnt := n } }
    if want = st then setSlot 0 0 L
    else
      let n := if m.gbTo = want ∧ 0 < m.gbCnt then m.gbCnt + 1 else 1
      if max 1 (L.fld (R.MEAS_GBFLT s) F.MEAS_GBFLT_CNT) ≤ n then
        let L1 := setSlot 0 0 (L.setF (R.MEAS_SLST s) F.MEAS_SLST_GBST want)
        if want = 0 then L1
        else if s < 32 then L1.raiseBit R.MEAS_GBEVT0 s else L1.raiseBit R.MEAS_GBEVT1 (s - 32)
      else setSlot want n L

/-- A write to a slot's limits or filter (R361). -/
def Lane.bandWritten (L : Lane) (s : Nat) : Lane :=
  L.updMeas fun y => { y with slots := y.slots.upd s fun z => { z with gbTo := 0, gbCnt := 0 } }

/-- A delivery of the slot joins a capture (R364). -/
def Lane.capture (L : Lane) (s : Nat) (x1 : Int) : Lane :=
  if L.meas.cap.isSome && decide (L.meas.capSlot = s) && decide (L.meas.capN < 256) then
    L.updMeas fun m => { m with
      capN := m.capN + 1, capSum := m.capSum + x1, capEnd := L.ticks + 1
      capMin := if m.capN = 0 then x1 else min m.capMin x1, capMax := if m.capN = 0 then x1 else max m.capMax x1 }
  else L

/-- The conversions of a slot that are due for their delivery: the last conversion ended 50 ns ago. -/
def Lane.dueConv (L : Lane) (s : Nat) : Option MConv :=
  L.meas.flight.find? fun c => decide (c.slot = s) && decide (c.start + 50 * c.n + 10 ≤ L.ticks)

/-- A slot's conversions end (R347, R349 to R352): `codes` are the codes measured, as many as the slot averages. -/
def Lane.deliver (L : Lane) (s : Nat) (codes : List Nat) : Lane :=
  match L.dueConv s with
  | none => L
  | some c =>
    if codes.length ≠ c.n then L
    else
      let nr := (List.range c.n).map fun i => !L.rdyAt (c.start + 50 * i)
      let codes := codes.map (L.codeOf (L.fld (R.MEAS_SLCFG s) F.MEAS_SLCFG_CHAN))
      let last := codes.getLastD 0
      let L0 := L.updMeas fun m => { m with flight := m.flight.erase c, runs := m.runs.upd c.seq fun r => { r with left := r.left - 1 } }
      let L0 := L0.wr (R.MEAS_RAW s) (F.MEAS_RAW_NOTRDY.set (F.MEAS_RAW_CODE.set 0 last) (b2n (nr.getLastD false)))
      let L1 :=
        if nr.any id then (L0.setF (R.MEAS_SLST s) F.MEAS_SLST_NOTRDY 1).setF (R.MEAS_SLST s) F.MEAS_SLST_VALID 0
        else
          let X := match L0.meas.calNew.find? (fun e => e.1 = s) with
            | some (_, u, g) => ((L0.wr (R.MEAS_UOFS s) u).wr (R.MEAS_UGAIN s) g).updMeas fun m => { m with calNew := del m.calNew s }
            | none => L0
          let v := X.trim s codes (Nat.log2 c.n)
          let old := X.rd (R.MEAS_RES s)
          let oldV := X.on (R.MEAS_SLST s) F.MEAS_SLST_VALID
          let X := X.updMeas fun m => { m with slots := m.slots.upd s fun z => { z with tick := L.ticks + 1, prev := old, prevValid := oldV } }
          let X := X.wr (R.MEAS_RES s) (wInt v.2)
          let X := X.setF (R.MEAS_SLST s) F.MEAS_SLST_NOTRDY 0
          let X := X.setF (R.MEAS_SLST s) F.MEAS_SLST_VALID (b2n (!X.uncal s))
          let X := X.setF (R.MEAS_SLST s) F.MEAS_SLST_DCNT (X.fld (R.MEAS_SLST s) F.MEAS_SLST_DCNT + 1)
          (X.band s v.2).capture s v.1
      let L2 := if L1.on (R.MEAS_SLCFG s) F.MEAS_SLCFG_EN || L1.slotBusy s then L1 else L1.slotOff s
      (L2.seqDone c.seq).measSettle

/-- What an IN of a slot returns and whether it is valid (R351, R352). -/
def Lane.slotIn (L : Lane) (s : Nat) : Word × Bool :=
  let m := L.meas.slots.at s
  if m.tick = L.ticks + 1 then (m.prev, m.prevValid) else (L.rd (R.MEAS_RES s), L.on (R.MEAS_SLST s) F.MEAS_SLST_VALID)

/-! ### Spot conversions (R358, R359) -/

/-- MEAS_SPOT has been written with GO at 1. -/
def Lane.spotGo (L : Lane) : Lane :=
  let c := L.fld R.MEAS_SPOT F.MEAS_SPOT_CONV
  if L.meas.spot || decide (6 ≤ c) || (L.fld R.MEAS_CONV F.MEAS_CONV_OOS).testBit c
      || decide (0x4E ≤ L.fld R.MEAS_SPOT F.MEAS_SPOT_CHAN) then L.raise R.MEAS_STAT F.MEAS_STAT_SPBUSY
  else L.updMeas fun m => { m with spot := true, spotAt := 0, spotConv := c, spotChan := L.fld R.MEAS_SPOT F.MEAS_SPOT_CHAN }

/-- The spot conversion starts in the first tick in which its converter is free and no group waits for it (R356, R358). -/
def Lane.spotTry (L : Lane) : Lane :=
  let c := L.meas.spotConv
  if L.meas.spot && decide (L.meas.spotAt = 0) && L.convFree c
      && !((List.range 16).any fun q => L.groupWaits q && (L.groupConvs q).contains c) then
    L.updMeas fun m => { m with spotAt := L.ticks + 1, free := m.free.set c (L.ticks + 50) }
  else L

/-- A spot conversion ends (R359): `code` is the code measured. -/
def Lane.spotResult (L : Lane) (code : Nat) : Lane :=
  if L.meas.spot && decide (0 < L.meas.spotAt) && decide (L.meas.spotAt + 49 ≤ L.ticks) then
    let old := L.rd R.MEAS_SPOT_RES
    let ovr := F.MEAS_SPOT_RES_NEW.on old
    let v := F.MEAS_SPOT_RES_NOTRDY.set (F.MEAS_SPOT_RES_CODE.set 0 (L.codeOf L.meas.spotChan code)) (b2n (!L.rdyAt (L.meas.spotAt - 1)))
    let v := F.MEAS_SPOT_RES_CONV.set (F.MEAS_SPOT_RES_NEW.set v 1) L.meas.spotConv
    let L1 := (L.wr R.MEAS_SPOT_RES v).updMeas fun m => { m with spot := false, spotAt := 0, spotOld := old, spotTick := L.ticks + 1, spotOvr := ovr && !L.on R.MEAS_STAT F.MEAS_STAT_SPOVR }
    if ovr then L1.raise R.MEAS_STAT F.MEAS_STAT_SPOVR else L1
  else L

/-- A lane-processor read of MEAS_SPOT_RES (R20, R359): the value read and the lane after it. -/
def Lane.spotRead (L : Lane) : Word × Lane :=
  if L.meas.spotTick = L.ticks + 1 then
    let L1 := if L.meas.spotOvr then L.setF R.MEAS_STAT F.MEAS_STAT_SPOVR 0 else L
    (L.meas.spotOld, L1.updMeas fun m => { m with spotOld := 0, spotOvr := false })
  else (L.rd R.MEAS_SPOT_RES, L.wr R.MEAS_SPOT_RES 0)

/-! ### Compass swing (R363 to R369) -/

/-- A capture begins or is refused (R363). -/
def Lane.calStart (L : Lane) : Lane :=
  let s := L.fld R.MEAS_CALCMD F.MEAS_CALCMD_SLOT
  if L.base ≠ 1 then L.calRefuse 1
  else if !L.on (R.MEAS_SLST s) F.MEAS_SLST_ACTIVE then L.calRefuse 2
  else if !L.on R.MEAS_REF F.MEAS_REF_RDY then L.calRefuse 3
  else if L.meas.cap.isSome || L.on R.MEAS_CALST F.MEAS_CALST_STORING then L.calRefuse 4
  else
    let L1 := if L.meas.capSlot = s then L
      else (L.setF R.MEAS_CALST F.MEAS_CALST_ZOK 0).setF R.MEAS_CALST F.MEAS_CALST_FOK 0
    (L1.setF R.MEAS_CALST F.MEAS_CALST_BUSY 1).updMeas fun m => { m with
      cap := some (L.fld R.MEAS_CALCMD F.MEAS_CALCMD_PT), capSlot := s, capN := 0, capSum := 0, capMin := 0, capMax := 0
      calRes := none }

/-- The calibration computed once both points are held (R365). -/
def Lane.calCompute (L : Lane) : Lane :=
  if L.on R.MEAS_CALST F.MEAS_CALST_ZOK && L.on R.MEAS_CALST F.MEAS_CALST_FOK then
    let mz := L.rdI R.MEAS_CALMZ
    let mf := L.rdI R.MEAS_CALMF
    let rz := L.rdI R.MEAS_CALZ
    let rf := L.rdI R.MEAS_CALFS
    let g := rneDiv ((rf - rz) * 2 ^ 30) (mf - mz)
    let o := mz - rneDiv (rz * 2 ^ 30) g
    if (mf - mz).natAbs < 2 ^ 27 ∨ ¬ ((0 < mf - mz ∧ 0 < rf - rz) ∨ (mf - mz < 0 ∧ rf - rz < 0)) then L.calRefuse 6
    else if g < 0x20000000 ∨ 0x7FFFFFFF < g then L.calRefuse 7
    else if 2 ^ 30 < o.natAbs then L.calRefuse 8
    else (L.raise R.MEAS_CALST F.MEAS_CALST_DONE).updMeas fun m => { m with calRes := some (wInt o, wInt g) }
  else L

/-- 256 deliveries have been captured (R364); a refused point is not held, nor is one held before it, whose mean has gone (log entry 64). -/
def Lane.calPoint (L : Lane) : Lane :=
  match L.meas.cap with
  | none => L
  | some pt =>
    if L.meas.capN < 256 then L
    else
      let m := L.meas
      let L1 := (L.setF R.MEAS_CALST F.MEAS_CALST_BUSY 0).updMeas fun m => { m with cap := none }
      let L1 := L1.wr (if pt = 0 then R.MEAS_CALMZ else R.MEAS_CALMF) (wInt (rneShift m.capSum 8))
      let L1 := L1.wr R.MEAS_CALPP (wInt (m.capMax - m.capMin))
      if m.capMax - m.capMin > 2 ^ 23 then (L1.setF R.MEAS_CALST (if pt = 0 then F.MEAS_CALST_ZOK else F.MEAS_CALST_FOK) 0).calRefuse 5
      else (L1.setF R.MEAS_CALST (if pt = 0 then F.MEAS_CALST_ZOK else F.MEAS_CALST_FOK) 1).calCompute

/-- Whether the capture's last delivery falls in this tick and is still to come: the slot's conversions have ended and were ready. -/
def Lane.calLast (L : Lane) : Bool :=
  L.meas.cap.isSome && decide (L.meas.capN = 255) && (match L.dueConv L.meas.capSlot with
    | some c => (List.range c.n).all fun i => L.rdyAt (c.start + 50 * i)
    | none => false)
/-- ABORT is written (R50, R51, R367): in the tick of the capture's last delivery it comes too late, and later there is nothing to abort. -/
def Lane.calAbort (L : Lane) : Lane :=
  if 256 ≤ L.meas.capN then (if L.meas.capEnd = L.ticks + 1 then L.raise R.MEAS_CALST F.MEAS_CALST_ABORT_LATE else L)
  else if L.calLast then L.raise R.MEAS_CALST F.MEAS_CALST_ABORT_LATE
  else if L.meas.cap.isSome then L.calStop else L

/-- A record write that begins, or waits for the NVM guard (R572); `k` names the record: 1 calibration, 2 commissioning, 3 lock-out,
4 slot record. -/
def Lane.nvmBegin (L : Lane) (k : Nat) : Lane :=
  let L1 := { L with pw := { L.pw with nvmAt := L.pw.nvmAt.set k (L.ticks + 1) } }
  if L.on R.PWR_NVMST F.PWR_NVMST_ACTIVE then
    { L1.setF R.PWR_NVMST F.PWR_NVMST_WAITING 1 with nvmWait := L.nvmWait ++ [k] }
  else L1

/-- Whether a record write runs or waits, and its end. -/
def Lane.nvmBusy (L : Lane) (k : Nat) : Bool := decide (L.pw.nvmAt.at k ≠ 0)
def Lane.nvmEnd (L : Lane) (k : Nat) : Lane :=
  let w := L.nvmWait.filter fun x => decide (x ≠ k)
  { L.setF R.PWR_NVMST F.PWR_NVMST_WAITING (b2n !w.isEmpty) with nvmWait := w, pw := { L.pw with nvmAt := L.pw.nvmAt.set k 0 } }

/-- COMMIT is written (R366, R369). -/
def Lane.calCommit (L : Lane) : Lane :=
  match L.meas.calRes with
    | some (o, g) =>
      if L.on R.MEAS_CALST F.MEAS_CALST_DONE then
        ((L.setF R.MEAS_CALST F.MEAS_CALST_STORING 1).updMeas fun m => { m with calWrite := some (m.capSlot, o, g), calRes := none }).nvmBegin 1
      else L.calRefuse 0xB
    | none => L.calRefuse 0xB

/-- The words of the store copy that a commit writes (R368, R369). -/
def Lane.calWords (L : Lane) (s : Nat) (o g : Word) : List Word :=
  let gen := match L.meas.calCopy with | some c => (L.calGen c + 1) % 65536 | none => 1
  let body := [w32 (0xCA1B + 65536 * gen), w32 ((L.rd R.LANE_ID_LANE).toNat % 4)]
    ++ (List.range 64).flatMap fun k => if k = s then [o, g] else [(L.calEntry k).1, (L.calEntry k).2]
  body ++ [w32 (crc32c (wordsBytes body))]

/-- The store write ends (R366, R369): `ok` says that the copy read back right; what a copy that failed its verify then holds is free (log entry 4). -/
def Lane.calStored (L : Lane) (ok : Bool) : Lane :=
  match L.meas.calWrite with
  | none => L
  | some (s, o, g) =>
    if L.nvmWait.contains 1 then L
    else
      let L0 := ((L.setF R.MEAS_CALST F.MEAS_CALST_STORING 0).updMeas fun m => { m with calWrite := none }).nvmEnd 1
      let dst := match L.meas.calCopy with | some c => 1 - c | none => 0
      if !ok then (L0.flashFree (calBase dst) 131).calRefuse 9
      else
        let L1 := (L0.flashWords (calBase dst) (L.calWords s o g)).updMeas fun m => { m with calCopy := some dst, calNew := m.calNew.set s (o, g) }
        (L1.setF R.MEAS_CALST F.MEAS_CALST_GEN (L1.calGen dst)).setF R.MEAS_CALST F.MEAS_CALST_STOREBAD 0

/-- The three commands of MEAS_CALCMD (R363, R366, R367). -/
def Lane.calCmd (L : Lane) (v : Word) : Lane :=
  let L1 := if F.MEAS_CALCMD_ABORT.on v then L.calAbort else L
  let L2 := if F.MEAS_CALCMD_START.on v then L1.calStart else L1
  if F.MEAS_CALCMD_COMMIT.on v then L2.calCommit else L2

end Sys2Proof.Machine
end

