-- ==== Sys2Proof/Machine/Pos.lean ====
section
/-! DEFINITION. Position interfaces (R374 to R390), SENT inputs (R391 to R397) and travel (R398 to R405, R625). Functions of one
lane. Levels and edges are accepted ones: the input filter of R375 lies before them. -/

namespace Sys2Proof.Machine

def Lane.updPos (L : Lane) (n : Nat) (f : PosIf → PosIf) : Lane := { L with posIf := L.posIf.upd n f }
def Lane.posMode (L : Lane) (n : Nat) : Nat := L.fld (R.POS_CFG n) F.POS_CFG_MODE
def Lane.posActive (L : Lane) (n : Nat) : Bool := L.on (R.POS_CFG n) F.POS_CFG_ACTIVE

/-! ### Results -/

/-- The measured angle (R387). -/
def Lane.posTheta (L : Lane) (n : Nat) : Word :=
  let c := L.fld (R.POS_CPR n) F.POS_CPR_CPR
  if c = 0 then wInt (L.rdI (R.POS_COUNT n) * 65536) else wInt (rneDiv (L.rdI (R.POS_COUNT n) * 2 ^ 32) c)

/-- Whether the interface reports a valid value (R385, R386, R390). -/
def Lane.posValid (L : Lane) (n : Nat) : Bool :=
  L.posActive n && !L.on (R.POS_STAT n) F.POS_STAT_SUSPECT
    && (if L.posMode n = 3 then (L.posIf.at n).pairOk else if L.posMode n = 4 then (L.posIf.at n).pulseOk else true)

/-- The angle, speed and acceleration registers from the observer (R389): rates are rounded half to even (log entry 13). -/
def Lane.posShow (L : Lane) (n : Nat) : Lane :=
  let p := L.posIf.at n
  let L1 := L.wr (R.POS_ANG n) (p.th + L.rd (R.POS_ANGOFS n))
  let L1 := L1.wr (R.POS_SPD n) (wInt (satI 32 (rneDiv (p.om * 256 * 5) 1000000000)))
  L1.wr (R.POS_ACC n) (wInt (satI 32 (rneDiv (p.al * 256 * 5) 1000000000000)))

/-- The count moved (R376). -/
def Lane.posStep (L : Lane) (n : Nat) (d : Int) : Lane :=
  let d' := if L.on (R.POS_CFG n) F.POS_CFG_REV then -d else d
  L.wr (R.POS_COUNT n) (L.rd (R.POS_COUNT n) + wInt d')

/-! ### Enabling (R407, R625) -/

def Lane.posCause (L : Lane) (n : Nat) : Bool :=
  let c := L.rd (R.POS_CFG n)
  let m := F.POS_CFG_MODE.get c
  let cpr := L.fld (R.POS_CPR n) F.POS_CPR_CPR
  let bw := L.fld (R.POS_TOBS n) F.POS_TOBS_BW
  decide (5 ≤ m) || decide (m = 1 ∧ (cpr = 0 ∨ cpr ≤ 2 * L.fld (R.POS_TOL n) F.POS_TOL_IDXTOL))
    || decide (m = 3 ∧ F.POS_CFG_SINSL.get c = F.POS_CFG_COSSL.get c) || decide (bw < 10 ∨ 5000 < bw)
    || decide (L.fld (R.POS_AMP n) F.POS_AMP_AMPHI ≤ L.fld (R.POS_AMP n) F.POS_AMP_AMPLO)

/-- An interface starts: the count and the results from 0, the observer at the measured angle. -/
def Lane.posOn (L : Lane) (n : Nat) : Lane :=
  let L1 := ((L.setF (R.POS_CFG n) F.POS_CFG_ACTIVE 1).wr (R.POS_COUNT n) 0).setF (R.POS_STAT n) F.POS_STAT_SUSPECT 0
  (L1.updPos n fun p => { (default : PosIf) with lev := p.lev, first := true, obsAt := L.ticks }).posShow n

def Lane.posOff (L : Lane) (n : Nat) : Lane := L.setF (R.POS_CFG n) F.POS_CFG_ACTIVE 0

/-- POS_CFGn.EN has been written. -/
def Lane.posWritten (L : Lane) (n : Nat) (was : Bool) : Lane :=
  if L.on (R.POS_CFG n) F.POS_CFG_EN then
    if was then L
    else if L.posCause n then L.raise (R.POS_STAT n) F.POS_STAT_CFGERR
    else if L.on R.POS_CTRL F.POS_CTRL_ACTIVE then L.posOn n else L
  else L.posOff n

/-- Travel and the generator leave their work (R48). -/
def Lane.travelOff (L : Lane) : Lane :=
  (((L.setF R.POS_TRCFG F.POS_TRCFG_ACTIVE 0).setF R.POS_TRSTAT F.POS_TRSTAT_WVALID 0).setF R.POS_TRSTAT F.POS_TRSTAT_RVALID 0).setF
    R.POS_TRSTAT F.POS_TRSTAT_WSLIP 0
def Lane.gsOff (L : Lane) : Lane :=
  { L.setF R.POS_GSCFG F.POS_GSCFG_ACTIVE 0 with trav := { L.trav with bit := false } }

/-- POS_CTRL.EN has been written (R48, R625): the interfaces stop at once, travel and the generator at the next apply instant. -/
def Lane.posCtrlWritten (L : Lane) (was : Bool) : Lane :=
  if L.on R.POS_CTRL F.POS_CTRL_EN then
    if was then L
    else (List.range 8).foldl (fun X n => if X.on (R.POS_CFG n) F.POS_CFG_EN && !X.posCause n then X.posOn n else X)
      (L.setF R.POS_CTRL F.POS_CTRL_ACTIVE 1)
  else
    let X := (List.range 8).foldl (fun X n => X.posOff n) (L.setF R.POS_CTRL F.POS_CTRL_ACTIVE 0)
    { X with trav := { X.trav with
      closing := X.trav.closing || X.on R.POS_TRCFG F.POS_TRCFG_ACTIVE, gsOk := false
      gsClosing := X.trav.gsClosing || X.on R.POS_GSCFG F.POS_GSCFG_ACTIVE } }

/-! ### Edges (R377 to R381) -/

def Lane.posErr (L : Lane) (n : Nat) (flag cnt : Bf) : Lane := (L.raise (R.POS_STAT n) flag).bump (R.POS_ERRCNT n) cnt 1

/-- Whether an edge now follows the previous one too fast (R379). -/
def Lane.tooFast (L : Lane) (n : Nat) : Bool :=
  let p := L.posIf.at n
  L.on (R.POS_CFG n) F.POS_CFG_COMPAT && decide (0 < p.edge) && decide (L.ticks + 1 < p.edge + L.fld (R.POS_TOL n) F.POS_TOL_MINT)

/-- New accepted levels of A and B (R377, R379). -/
def Lane.quadEdge (L : Lane) (n : Nat) (a b : Bool) : Lane :=
  let p := L.posIf.at n
  let oa := p.lev.testBit 0
  let ob := p.lev.testBit 1
  let L1 := L.updPos n fun p => { p with lev := b2n a + 2 * b2n b + 4 * b2n (p.lev.testBit 2), edge := if a = oa ∧ b = ob then p.edge else L.ticks + 1 }
  if !L.posActive n || decide (1 < L.posMode n) || (decide (a = oa) && decide (b = ob)) then L1
  else
    let fast := L.tooFast n
    let L2 := if fast then L1.posErr n F.POS_STAT_MINF F.POS_ERRCNT_MINT else L1
    if a ≠ oa ∧ b ≠ ob then L2.posErr n F.POS_STAT_ILLF F.POS_ERRCNT_ILL
    else if fast then L2
    else if a ≠ oa then L2.posStep n (if a ≠ b then 1 else -1)
    else L2.posStep n (if b = a then 1 else -1)

/-- The place of a Hall state in its sequence (R378). -/
def hallPlace : Nat → Option Nat
  | 1 => some 0
  | 3 => some 1
  | 2 => some 2
  | 6 => some 3
  | 4 => some 4
  | 5 => some 5
  | _ => none

/-- New accepted levels of the Hall lines (R378, R379). -/
def Lane.hallEdge (L : Lane) (n h : Nat) : Lane :=
  let p := L.posIf.at n
  let L1 := L.updPos n fun p => { p with lev := h % 8, edge := if h % 8 = p.lev then p.edge else L.ticks + 1 }
  if !L.posActive n || decide (L.posMode n ≠ 2) || decide (h % 8 = p.lev) then L1
  else
    let fast := L.tooFast n
    let L2 := if fast then L1.posErr n F.POS_STAT_MINF F.POS_ERRCNT_MINT else L1
    let lines := cnt ((List.range 3).map fun i => decide (p.lev.testBit i ≠ h.testBit i))
    match hallPlace p.lev, hallPlace (h % 8) with
    | some x, some y =>
      if 1 < lines then L2.raise (R.POS_STAT n) F.POS_STAT_HALLF
      else if fast then L2
      else L2.posStep n (if y = (x + 1) % 6 then 1 else -1)
    | _, none => L2.raise (R.POS_STAT n) F.POS_STAT_HALLF
    | none, some _ => if 1 < lines then L2.raise (R.POS_STAT n) F.POS_STAT_HALLF else L2

/-- An index (R380, R381): the edges of its tick come before it. -/
def Lane.indexEdge (L : Lane) (n : Nat) : Lane :=
  if !L.posActive n || decide (L.posMode n ≠ 1) then L
  else
    let cpr : Int := L.fld (R.POS_CPR n) F.POS_CPR_CPR
    let c := L.rdI (R.POS_COUNT n)
    let L1 := L.wr (R.POS_IDXLAT n) (wInt c)
    if (L.posIf.at n).first ∧ L.on (R.POS_CFG n) F.POS_CFG_IDXINIT = true then
      ((L1.setF (R.POS_IDXREF n) F.POS_IDXREF_IDXREF (c.emod cpr).toNat).raise (R.POS_STAT n) F.POS_STAT_IDXOK).updPos n
        fun p => { p with first := false }
    else
      let m := (c - L.fld (R.POS_IDXREF n) F.POS_IDXREF_IDXREF).emod cpr
      let d := if m ≥ cpr - cpr / 2 then m - cpr else m
      let L1 := L1.updPos n fun p => { p with first := false }
      if d.natAbs ≤ L.fld (R.POS_TOL n) F.POS_TOL_IDXTOL then
        let L2 := L1.raise (R.POS_STAT n) F.POS_STAT_IDXOK
        if d = 0 then L2
        else
          let sum := satI 16 (sext 16 (L.fld (R.POS_SLIP n) F.POS_SLIP_SUM) + d)
          let L3 := (L2.setF (R.POS_SLIP n) F.POS_SLIP_LAST (wInt d).toNat).setF (R.POS_SLIP n) F.POS_SLIP_SUM (wInt sum).toNat
          if L.on (R.POS_CFG n) F.POS_CFG_AUTOCOR then L3.updPos n fun p => { p with corr := d, corrAt := L.ticks } else L3
      else
        (L1.posErr n F.POS_STAT_IDXERR F.POS_ERRCNT_IDX).raise (R.POS_STAT n) F.POS_STAT_SUSPECT

/-- The correction of an index, in the tick after its latch (R381); the observer's angle shifts with it. -/
def Lane.posCorrect (L : Lane) (n : Nat) : Lane :=
  let p := L.posIf.at n
  if p.corr ≠ 0 ∧ p.corrAt < L.ticks then
    let cpr := L.fld (R.POS_CPR n) F.POS_CPR_CPR
    ((L.wr (R.POS_COUNT n) (L.rd (R.POS_COUNT n) - wInt p.corr)).updPos n fun p => { p with
      corr := 0, th := p.th - wInt (if cpr = 0 then p.corr * 65536 else rneDiv (p.corr * 2 ^ 32) cpr) }).posShow n
  else L

/-! ### Sin/cos and pulses (R382 to R386) -/

/-- A new pair of values, once both slots have delivered since the last (R382 to R384). -/
def Lane.sincosPair (L : Lane) (n : Nat) : Lane :=
  let c := L.rd (R.POS_CFG n)
  let s := F.POS_CFG_SINSL.get c
  let k := F.POS_CFG_COSSL.get c
  let p := L.posIf.at n
  if !L.posActive n || decide (L.posMode n ≠ 3) || decide ((L.meas.slots.at s).tick ≤ p.pairAt) || decide ((L.meas.slots.at k).tick ≤ p.pairAt) then L
  else
    let L0 := L.updPos n fun p => { p with pairAt := max (L.meas.slots.at s).tick (L.meas.slots.at k).tick }
    if !L.on (R.MEAS_SLST s) F.MEAS_SLST_VALID || !L.on (R.MEAS_SLST k) F.MEAS_SLST_VALID then
      L0.updPos n fun p => { p with pairOk := false }
    else
      let x := L.rdI (R.MEAS_RES s)
      let y := L.rdI (R.MEAS_RES k)
      let a2 := x * x + y * y
      let lo : Int := L.fld (R.POS_AMP n) F.POS_AMP_AMPLO * 2 ^ 21
      let hi : Int := L.fld (R.POS_AMP n) F.POS_AMP_AMPHI * 2 ^ 21
      let bad := decide (a2 < lo * lo) || decide (hi * hi < a2)
      let ph := Config.angleOf (L.rd (R.MEAS_RES s)) (L.rd (R.MEAS_RES k))
      if bad then
        let L1 := L0.updPos n fun p => { p with badPair := true, pairOk := false }
        if p.badPair then (L1.posErr n F.POS_STAT_AMPF F.POS_ERRCNT_AMP).raise (R.POS_STAT n) F.POS_STAT_SUSPECT else L1
      else
        let L1 := if p.havePh then L0.posStep n (rneShift (ph - p.ph).toInt 22) else L0
        L1.updPos n fun p => { p with ph := ph, havePh := true, badPair := false, pairOk := true }

/-- A rising edge of a pulse input (R385): `high` is the high time of the cycle that ends, in 5 ns steps. -/
def Lane.pulseEdge (L : Lane) (n high : Nat) : Lane :=
  if !L.posActive n || decide (L.posMode n ≠ 4) then L
  else
    let p := L.posIf.at n
    let L1 := (L.posStep n 1).updPos n fun p => { p with rise := L.ticks + 1, pulseOk := p.rise != 0 }
    if p.rise = 0 ∨ L.ticks + 1 = p.rise then L1
    else
      let t := L.ticks + 1 - p.rise
      let f := min 0xFFFFFFFF (rneDiv 200000000000 t).toNat
      (L1.wr (R.POS_SPD n) (w32 f)).wr (R.POS_ACC n) (wInt (satI 32 (rneDiv (high * 2 ^ 31 : Nat) t)))

/-- No rising edge for PTMO × 10 µs, nor an enable (R386): `level` is the level of the input. -/
def Lane.pulseTimeout (L : Lane) (n : Nat) (level : Bool) : Lane :=
  let p := L.posIf.at n
  if L.posActive n && decide (L.posMode n = 4) && decide (max p.rise (p.obsAt + 1) + L.fld (R.POS_TOBS n) F.POS_TOBS_PTMO * 2000 ≤ L.ticks + 1) then
    ((L.wr (R.POS_SPD n) 0).wr (R.POS_ACC n) (if level then 0x7FFFFFFF else 0)).updPos n fun p => { p with rise := 0, pulseOk := false }
  else L

/-- An update of the tracking observer (R388, R390). -/
def Lane.posObserve (L : Lane) (n : Nat) : Lane :=
  let p := L.posIf.at n
  if !L.posActive n || decide (4 ≤ L.posMode n) || decide (L.ticks < p.obsAt + 200) then L
  else if !L.posValid n then (L.updPos n fun p => { p with om := 0, al := 0, obsAt := L.ticks }).posShow n
  else
    let bw := L.fld (R.POS_TOBS n) F.POS_TOBS_BW
    let e := (L.posTheta n - p.th).toInt
    let om := p.om + Config.obsSpeed bw e
    (L.updPos n fun p => { p with th := p.th + Config.obsAngle bw om e, om := om, al := p.al + Config.obsAccel bw e p.al, obsAt := L.ticks }).posShow n

/-- What an IN of class 0x02 returns: the count, the speed, or the acceleration, and whether it is valid (R389, R390). -/
def Lane.posIn (L : Lane) (n idx : Nat) : Word × Bool :=
  (L.rd (if idx = 0 then R.POS_COUNT n else if idx = 1 then R.POS_SPD n else R.POS_ACC n), L.posValid n)

/-! ### SENT (R391 to R397) -/

def Lane.updSent (L : Lane) (m : Nat) (f : SentIn → SentIn) : Lane := { L with sent := L.sent.upd m f }

/-- The enable check (R408). -/
def Lane.sentCause (L : Lane) (m : Nat) : Bool :=
  let c := L.rd (R.SENT_CFG m)
  let nib := F.SENT_CFG_NIB.get c
  let tk := F.SENT_CFG_TICK.get c
  let a := L.rd (R.SENT_FMTA m)
  let b := L.rd (R.SENT_FMTB m)
  decide (nib = 0 ∨ 6 < nib) || decide (tk < 30 ∨ 900 < tk) || !F.SENT_FMTA_VALID.on a
    || decide (F.SENT_FMTA_W0LEN.get a + F.SENT_FMTA_W1LEN.get a ≠ nib)
    || (F.SENT_FMTB_VALID.on b && decide (F.SENT_FMTB_W0LEN.get b + F.SENT_FMTB_W1LEN.get b ≠ nib))

/-- A SENT input stops (R48). -/
def Lane.sentOff (L : Lane) (m : Nat) : Lane := (L.setF (R.SENT_CFG m) F.SENT_CFG_ACTIVE 0).setF (R.SENT_STAT m) F.SENT_STAT_VALID 0

/-- SENT_CFGm.EN has been written (R48, R397, R408): with FMTCHK at 0 format A is in force from the enable. -/
def Lane.sentWritten (L : Lane) (m : Nat) (was : Bool) : Lane :=
  if L.on (R.SENT_CFG m) F.SENT_CFG_EN then
    if was then L
    else if L.sentCause m then L.raise (R.SENT_STAT m) F.SENT_STAT_CFGERR
    else
      let known := !L.on (R.SENT_ID m) F.SENT_ID_FMTCHK
      let L1 := (L.setF (R.SENT_CFG m) F.SENT_CFG_ACTIVE 1).setF (R.SENT_STAT m) F.SENT_STAT_VALID 0
      let L1 := (L1.setF (R.SENT_STAT m) F.SENT_STAT_ERRRUN 0).setF (R.SENT_SFMT m) F.SENT_SFMT_KNOWN (b2n known)
      (L1.setF (R.SENT_SFMT m) F.SENT_SFMT_FSEL 0).updSent m fun _ => { (default : SentIn) with last := L.ticks, known := known }
  else L.sentOff m

/-- The CRC nibble of SAE J2716 over data nibbles; the recommended variant adds a zero nibble (PRESUMED, log entry 14). -/
def crc4Table : List Nat := [0, 13, 7, 10, 14, 3, 9, 4, 1, 12, 6, 11, 15, 2, 8, 5]
def crc4 (legacy : Bool) (ns : List Nat) : Nat :=
  let c := ns.foldl (fun c n => n ^^^ crc4Table.getD c 0) 5
  if legacy then c else crc4Table.getD c 0

/-- The CRC of an enhanced serial message of SAE J2716 over its 24 bits (PRESUMED, log entry 14). -/
def crc6 (bits : List Nat) : Nat :=
  (bits ++ [0, 0, 0, 0, 0, 0]).foldl (fun c b => if 32 ≤ c then (2 * c + b) % 64 ^^^ 0x19 else 2 * c + b) 0x15

/-- A frame rejected (R392, R393, R395, R396). -/
def Lane.sentReject (L : Lane) (m : Nat) (flag : Bf) : Lane :=
  let e := min 15 (L.fld (R.SENT_STAT m) F.SENT_STAT_ERRRUN + 1)
  let L1 := ((L.raise (R.SENT_STAT m) flag).setF (R.SENT_STAT m) F.SENT_STAT_ERRRUN e).updSent m fun x => { x with slow := [] }
  if max 1 (L.fld (R.SENT_CFG m) F.SENT_CFG_ERRLIM) ≤ e then L1.setF (R.SENT_STAT m) F.SENT_STAT_VALID 0 else L1

/-- A word of a frame from its nibbles (R394). -/
def sentWord (ns : List Nat) (ang : Bool) : Word :=
  let v := ns.foldl (fun a n => 16 * a + n) 0
  let w := 4 * ns.length
  w32 (v <<< ((if ang then 32 else 31) - w))

/-- A format code received in an accepted frame (R397): after an unknown code, one that selects the format in force makes the input valid again. -/
def Lane.sentCode (L : Lane) (m code : Nat) : Lane :=
  let L1 := L.setF (R.SENT_SFMT m) F.SENT_SFMT_CODE code
  if !L.on (R.SENT_ID m) F.SENT_ID_FMTCHK then L1
  else
    let a := L.rd (R.SENT_FMTA m)
    let b := L.rd (R.SENT_FMTB m)
    let sel : Option Nat :=
      if F.SENT_FMTA_VALID.on a && decide (F.SENT_FMTA_CODE.get a = code) then some 0
      else if F.SENT_FMTB_VALID.on b && decide (F.SENT_FMTB_CODE.get b = code) then some 1 else none
    match sel with
    | none => ((L1.raise (R.SENT_STAT m) F.SENT_STAT_FMTERR).setF (R.SENT_STAT m) F.SENT_STAT_VALID 0).updSent m fun x => { x with unknown := true }
    | some f =>
      if !(L.sent.at m).known then
        ((L1.setF (R.SENT_SFMT m) F.SENT_SFMT_KNOWN 1).setF (R.SENT_SFMT m) F.SENT_SFMT_FSEL f).updSent m fun x => { x with known := true, unknown := false }
      else
        let same := decide (f = L.fld (R.SENT_SFMT m) F.SENT_SFMT_FSEL)
        let L2 := L1.updSent m fun x => { x with unknown := false, swTo := if same then none else some f }
        if (L.sent.at m).unknown && same then L2.setF (R.SENT_STAT m) F.SENT_STAT_VALID 1 else L2

/-- A whole slow message (R396). -/
def Lane.sentSlow (L : Lane) (m id data : Nat) : Lane :=
  let L1 := if id = L.fld (R.SENT_ID m) F.SENT_ID_FMTID then L.sentCode m (data % 4096) else L
  if id = L.fld (R.SENT_ID m) F.SENT_ID_IDID then
    L1.wr (R.SENT_SID m) (F.SENT_SID_ID.set (F.SENT_SID_DATA.set 0 data) id) else L1

/-- A number from bits, the first as most significant. -/
def ofBits (l : List Nat) : Nat := l.foldl (fun a b => 2 * a + b % 2) 0

/-- The slow channel after a status nibble (R396): 16 frames of a short message, or 18 of an enhanced one. -/
def Lane.slowStep (L : Lane) (m status : Nat) : Lane :=
  let h := (L.sent.at m).slow ++ [(status / 4) % 2 + 2 * (status / 8)]
  let b3 := h.map (· / 2)
  let b2 := h.map (· % 2)
  let enh := decide (b3.length ≥ 18) && decide ((b3.drop (b3.length - 18)).take 7 = [1, 1, 1, 1, 1, 1, 0])
    && decide ((b3.drop (b3.length - 18)).getD 12 1 = 0) && decide ((b3.drop (b3.length - 18)).getD 17 1 = 0)
  let shrt := decide (b3.length ≥ 16) && decide (b3.drop (b3.length - 16) = 1 :: List.replicate 15 0)
  if enh then
    let x3 := b3.drop (b3.length - 18)
    let x2 := b2.drop (b2.length - 18)
    let L0 := L.updSent m fun x => { x with slow := [] }
    let bits := (List.range 12).flatMap fun i => [x2.getD (6 + i) 0, x3.getD (6 + i) 0]
    if crc6 bits ≠ ofBits (x2.take 6) then L0.raise (R.SENT_STAT m) F.SENT_STAT_SCRCE
    else
      let hi := ofBits ((x3.drop 8).take 4)
      let lo := ofBits ((x3.drop 13).take 4)
      let d := ofBits (x2.drop 6)
      if x3.getD 7 0 = 0 then L0.sentSlow m (16 * hi + lo) d else L0.sentSlow m hi (4096 * lo + d)
  else if shrt then
    let x2 := b2.drop (b2.length - 16)
    let L0 := L.updSent m fun x => { x with slow := [] }
    let id := ofBits (x2.take 4)
    let d := ofBits ((x2.drop 4).take 8)
    if crc4 false [id, d / 16, d % 16] ≠ ofBits (x2.drop 12) then L0.raise (R.SENT_STAT m) F.SENT_STAT_SCRCE else L0.sentSlow m id d
  else L.updSent m fun x => { x with slow := h.drop (h.length - 17) }

/-- A frame received whole (R392 to R397): the duration of the calibration pulse and of the pulses that follow it, in 5 ns
steps. -/
def Lane.sentFrame (L : Lane) (m cal : Nat) (pulses : List Nat) : Lane :=
  if !L.on (R.SENT_CFG m) F.SENT_CFG_ACTIVE then L
  else
    let c := L.rd (R.SENT_CFG m)
    let nib := F.SENT_CFG_NIB.get c
    let tick := (rneDiv (cal * 256 : Nat) 56).toNat
    let nom := F.SENT_CFG_TICK.get c * 20 * 256
    let x := L.sent.at m
    let far := decide (5 * ((tick : Int) - nom).natAbs > nom)
      || (decide (0 < x.learned) && decide (64 * ((tick : Int) - x.learned).natAbs > x.learned))
    let L := L.wr (R.SENT_TICK m) (F.SENT_TICK_TICK.set 0 tick)
    if far then L.sentReject m F.SENT_STAT_CALE
    else
      let ns : List Nat := (pulses.take (nib + 2)).map fun p => (divNear (p * 256 : Nat) tick).toNat
      let extra := pulses.length - (nib + 2)
      if ns.length < nib + 2 ∨ (ns.any fun n => decide (n < 12) || decide (27 < n)) = true ∨ extra > (if F.SENT_CFG_PAUSE.on c then 1 else 0)
      then L.sentReject m F.SENT_STAT_NIBE
      else
        let v := ns.map (· - 12)
        let status := v.headD 0
        let data := (v.drop 1).take nib
        if crc4 (F.SENT_CFG_CRCV.on c) data ≠ v.getD (nib + 1) 0 then L.sentReject m F.SENT_STAT_CRCE
        else
          let L1 := L.setF (R.SENT_STAT m) F.SENT_STAT_ERRRUN 0
          let L1 := L1.wr (R.SENT_RAW m) (F.SENT_RAW_STATUS.set (F.SENT_RAW_DATA.set 0 (data.foldl (fun a n => 16 * a + n) 0)) status)
          let L1 := L1.updSent m fun x => { x with last := L.ticks, learned := tick }
          let L1 := match x.swTo with
            | some f => ((L1.setF (R.SENT_SFMT m) F.SENT_SFMT_FSEL f).raise (R.SENT_STAT m) F.SENT_STAT_FMTCHG).updSent m fun x => { x with swTo := none }
            | none => L1
          let L2 :=
            if x.known then
              let f := L1.rd (if L1.fld (R.SENT_SFMT m) F.SENT_SFMT_FSEL = 0 then R.SENT_FMTA m else R.SENT_FMTB m)
              let n0 := F.SENT_FMTA_W0LEN.get f
              let w0 := sentWord (data.take n0) (F.SENT_FMTA_W0ANG.on f)
              let w1 := sentWord ((data.drop n0).take (F.SENT_FMTA_W1LEN.get f)) (F.SENT_FMTA_W1ANG.on f)
              let X := (L1.wr (R.SENT_D0 m) w0).wr (R.SENT_D1 m) w1
              let X := X.updSent m fun x => { x with ang0 := x.ang1, at0 := x.at1, ang1 := w0, at1 := L.ticks + 1 }
              if x.unknown then X else X.setF (R.SENT_STAT m) F.SENT_STAT_VALID 1
            else L1
          L2.slowStep m status

/-- No frame accepted for FTMO × 0.1 ms (R395). -/
def Lane.sentTimeout (L : Lane) (m : Nat) : Lane :=
  if L.on (R.SENT_CFG m) F.SENT_CFG_ACTIVE ∧ (L.sent.at m).last + L.fld (R.SENT_CFG m) F.SENT_CFG_FTMO * 20000 ≤ L.ticks then
    (L.raise (R.SENT_STAT m) F.SENT_STAT_TMO).setF (R.SENT_STAT m) F.SENT_STAT_VALID 0
  else L

/-- What an IN of class 0x05 returns (R395). -/
def Lane.sentIn (L : Lane) (m idx : Nat) : Word × Bool :=
  (L.rd (if idx = 0 then R.SENT_D0 m else R.SENT_D1 m), L.on (R.SENT_STAT m) F.SENT_STAT_VALID)

/-- The angle and angle rate of axis a's source (R391), and whether they are valid: rates are rate words of R241. -/
def Lane.axisAngle (L : Lane) (a : Nat) : Word × Int × Bool :=
  let c := L.rd (R.POS_AXSRC a)
  let i := F.POS_AXSRC_IDX.get c
  if F.POS_AXSRC_KIND.get c = 1 then (L.rd (R.POS_ANG i), L.rdI (R.POS_SPD i), L.posValid i)
  else if F.POS_AXSRC_KIND.get c = 2 then
    let x := L.sent.at i
    let dt := x.at1 - x.at0
    (L.rd (R.SENT_D0 i), if x.at0 = 0 ∨ dt = 0 then 0 else rneDiv ((x.ang1 - x.ang0).toInt * 256) dt, L.on (R.SENT_STAT i) F.SENT_STAT_VALID)
  else (0, 0, false)

/-- The source and the stamp of the last estimate of a position interface and of a SENT input, 0 for none (R60). -/
def Lane.posEst (L : Lane) (n : Nat) : Nat × Nat := (1 + n, (L.posIf.at n).obsAt + 1)
def Lane.sentEst (L : Lane) (m : Nat) : Nat × Nat := (65 + m, (L.sent.at m).at1)
/-- Those of axis a's source. -/
def Lane.axisEst (L : Lane) (a : Nat) : Nat × Nat :=
  let i := L.fld (R.POS_AXSRC a) F.POS_AXSRC_IDX
  if L.fld (R.POS_AXSRC a) F.POS_AXSRC_KIND = 1 then L.posEst i else L.sentEst i

/-! ### Travel (R398 to R402, R625) -/

def Lane.updTrav (L : Lane) (f : Trav → Trav) : Lane := { L with trav := f L.trav }

/-- The distance per pulse of a source, in 2^−16 of 0.1 mm. -/
def Lane.dpp (L : Lane) (src : Nat) : Nat := if src < 4 then (L.rd (R.POS_WDPP src)).toNat else (L.rd R.POS_RDPP).toNat

def Lane.travOn (L : Lane) : Bool := L.on R.POS_TRCFG F.POS_TRCFG_ACTIVE

/-- The speed of a source as distance per ticks, 0 at standstill (R398). -/
def Lane.srcSpeed (L : Lane) (src : Nat) : Nat × Nat :=
  let v := L.trav.iv.at src
  if v.2 = 0 ∨ L.trav.still.at src = true then (0, 1) else v

/-- A speed in mm/s. -/
def mmps (v : Nat × Nat) : Nat := (rneDiv (v.1 * 20000000 : Nat) (65536 * v.2 : Nat)).toNat

def Lane.srcValid (L : Lane) (src : Nat) : Bool := L.travOn && decide ((L.trav.iv.at src).2 ≠ 0)
def Lane.srcEnabled (L : Lane) (src : Nat) : Bool :=
  if src < 4 then (L.fld R.POS_TRCFG F.POS_TRCFG_WEN).testBit src else L.on R.POS_TRCFG F.POS_TRCFG_RADEN

/-- Whether one speed is at most another. -/
def spdLe (x y : Nat × Nat) : Bool := decide (x.1 * y.2 ≤ y.1 * x.2)

/-- The reference speed (R399). -/
def Lane.refSpeed (L : Lane) : Nat × Nat :=
  if L.srcEnabled 4 && L.srcValid 4 then L.srcSpeed 4
  else
    let ws := ((List.range 4).filter L.srcValid).map L.srcSpeed
    let rank := fun (x : Nat × Nat) => ws.countP fun y => spdLe y x
    -- the lower middle value: the least speed that at least half of the wheels do not exceed
    let mids := ws.filter fun x => decide (ws.length ≤ 2 * rank x)
    match mids.find? fun x => mids.all fun y => spdLe x y with
    | some x => x
    | none => (0, 1)

/-- Whether a wheel slips (R399). -/
def Lane.slips (L : Lane) (w : Nat) : Bool :=
  let r := L.refSpeed
  let v := L.srcSpeed w
  let d := ((v.1 * r.2 : Nat) : Int) - (r.1 * v.2 : Nat)
  L.srcValid w && decide (500 * 65536 * r.2 < r.1 * 20000000)
    && decide (L.fld R.POS_TRCFG F.POS_TRCFG_SLIPLIM * (r.1 * v.2) < 256 * d.natAbs)

def Lane.usable (L : Lane) (src : Nat) : Bool := L.srcEnabled src && L.srcValid src && (decide (src = 4) || !L.slips src)

/-- The order of the sources that PRIO selects. -/
def Lane.prio (L : Lane) : List Nat := if L.on R.POS_TRCFG F.POS_TRCFG_PRIO then [0, 1, 2, 3, 4] else [4, 0, 1, 2, 3]

/-- The candidate source, 7 for none (R400). -/
def Lane.candidate (L : Lane) : Nat := ((L.prio).find? L.usable).getD 7

def Lane.travSrc (L : Lane) : Nat := L.fld R.POS_TRSTAT F.POS_TRSTAT_SRC

/-- The travel registers and flags after a change. -/
def Lane.travShow (L : Lane) : Lane :=
  let wv := (List.range 4).foldl (fun m w => m + b2n (L.srcValid w) * 2 ^ w) 0
  let ws := (List.range 4).foldl (fun m w => m + b2n (L.slips w) * 2 ^ w) 0
  let L1 := ((L.setF R.POS_TRSTAT F.POS_TRSTAT_WVALID wv).setF R.POS_TRSTAT F.POS_TRSTAT_WSLIP ws).setF R.POS_TRSTAT
    F.POS_TRSTAT_RVALID (b2n (L.srcValid 4))
  let L1 := (List.range 4).foldl (fun X w => X.wr (R.POS_WSPD w) (w32 (mmps (L.srcSpeed w)))) L1
  let L1 := L1.wr R.POS_RSPD (w32 (if L.srcValid 4 then mmps (L.srcSpeed 4) else 0))
  let L1 := L1.wr R.POS_GSPD (w32 (if L.travSrc = 7 then 0 else mmps (L.srcSpeed L.travSrc)))
  if L.travOn && decide (L.travSrc ≠ 7) && decide (L.candidate = 7) && !L.on R.POS_TRSTAT F.POS_TRSTAT_FUSEF
  then L1.raise R.POS_TRSTAT F.POS_TRSTAT_FUSEF else L1

/-- A pulse of a source (R398, R401). -/
def Lane.travPulse (L : Lane) (src : Nat) : Lane :=
  if !L.travOn then L
  else
    let r := if src < 4 then R.POS_WCNT src else R.POS_RCNT
    let last := L.trav.last.at src
    let L1 := (L.wr r (L.rd r + 1)).updTrav fun t => { t with
      last := t.last.set src (L.ticks + 1), still := t.still.set src false
      iv := if last = 0 ∨ L.ticks + 1 ≤ last then t.iv else t.iv.set src (L.dpp src, L.ticks + 1 - last) }
    let L2 := if src = 4 then L1.updTrav fun t => { t with d15 := t.d15 + L.dpp 4 } else L1
    let L3 := if src = L2.travSrc ∧ L2.candidate ≠ 7 then L2.updTrav fun t => { t with d12 := t.d12 + L.dpp src } else L2
    L3.travShow

/-- No pulse for STILL × 10 ms (R398). -/
def Lane.travStill (L : Lane) (src : Nat) : Lane :=
  let last := L.trav.last.at src
  if L.travOn ∧ 0 < last ∧ last + L.fld R.POS_TRCFG F.POS_TRCFG_STILL * 2000000 ≤ L.ticks + 1 ∧ L.trav.still.at src = false then
    let L1 := L.updTrav fun t => if src < 4 then { t with still := t.still.set src true }
      else { t with still := t.still.set 4 true, iv := t.iv.set 4 (0, 0), last := t.last.set 4 0 }
    L1.travShow
  else L

/-- The estimate of a distance between pulses (R401), in 2^−16 of 0.1 mm: D plus the source's speed since its last pulse, at
most a step less than D plus a pulse. -/
def Lane.travEst (L : Lane) (d src : Nat) : Nat :=
  let v := L.srcSpeed src
  let p := L.dpp src
  let e := d + v.1 * (L.ticks + 1 - L.trav.last.at src) / v.2
  if v.1 = 0 then d else max d (min e (d + p - 65536))

/-- What an apply instant does to travel and the generator (R404, R625). -/
def Lane.travApply (L : Lane) (pos12 : Nat) : Lane :=
  let ctl := L.on R.POS_CTRL F.POS_CTRL_ACTIVE
  let en := L.on R.POS_TRCFG F.POS_TRCFG_EN
  let L1 :=
    if ctl && en && !L.travOn then
      let X := ((L.setF R.POS_TRCFG F.POS_TRCFG_ACTIVE 1).setF R.POS_TRSTAT F.POS_TRSTAT_SRC 7).wr R.POS_RCNT 0
      let X := (List.range 4).foldl (fun X w => X.wr (R.POS_WCNT w) 0) X
      (X.updTrav fun t => { t with last := [], iv := [], still := [], d12 := pos12 * 65536, d15 := t.pos15 * 65536, closing := false }).travShow
    else if (!en || L.trav.closing) && L.travOn then L.travelOff.updTrav fun t => { t with closing := false }
    else L
  if L1.trav.gsClosing then L1.gsOff.updTrav fun t => { t with gsClosing := false }
  else if ctl && L1.on R.POS_GSCFG F.POS_GSCFG_EN && L1.trav.gsOk then
    (L1.setF R.POS_GSCFG F.POS_GSCFG_ACTIVE 1).updTrav fun t => { t with g := 0, bit := false, gsOk := false }
  else L1

/-- A write of POS_GSCFG (R49, R404): an enable that is not refused takes effect at the next apply instant, once a disable written before it has; a
refused one leaves EN as it was. -/
def Lane.gsWritten (L : Lane) (was : Bool) : Lane :=
  if L.on R.POS_GSCFG F.POS_GSCFG_EN then
    let m := L.fld R.POS_GSRAT F.POS_GSRAT_M
    if decide (m = 0) || decide (L.fld R.POS_GSRAT F.POS_GSRAT_N < 2 * m) then
      (L.raise R.POS_TRSTAT F.POS_TRSTAT_GSCFGERR).setF R.POS_GSCFG F.POS_GSCFG_EN (b2n was)
    else L.updTrav fun t => { t with gsOk := true }
  else L.updTrav fun t => { t with gsOk := false, gsClosing := t.gsClosing || L.on R.POS_GSCFG F.POS_GSCFG_ACTIVE }

/-- The generator over `steps` steps of reckoner 12 (R403). -/
def gsRun : Nat → Nat → Nat → Nat × Bool → Nat × Bool
  | 0, _, _, x => x
  | k + 1, m, n, (g, b) => gsRun k m n (if n ≤ g + 2 * m then (g + 2 * m - n, !b) else (g + 2 * m, b))

/-- Reckoner 12 has moved forward by `steps`. -/
def Lane.gsAdvance (L : Lane) (steps : Nat) : Lane :=
  if L.on R.POS_GSCFG F.POS_GSCFG_ACTIVE then
    let r := gsRun steps (L.fld R.POS_GSRAT F.POS_GSRAT_M) (L.fld R.POS_GSRAT F.POS_GSRAT_N) (L.trav.g, L.trav.bit)
    L.updTrav fun t => { t with g := r.1, bit := r.2 }
  else L

end Sys2Proof.Machine
end

