-- ==== Sys2Proof/Machine/Out.lean ====
section
/-! DEFINITION. What a lane puts on its links in a step: packets and port records gather in the lane while its part of the step runs and
go onto the links at its end. -/

namespace Sys2Proof.Machine

def Lane.emit (r : Lane × List (Nat × Pkt)) : Lane := { r.1 with outP := r.1.outP ++ r.2 }
def Lane.emitR (r : Lane × List (Nat × PortRec)) : Lane := { r.1 with outR := r.1.outR ++ r.2 }

/-- A lane's part of a step, and what it put on its links. -/
def State.run (s : State) (l : LaneId) (f : Lane → Lane) : State :=
  let L := f (s.lane l)
  ((s.setLane l { L with outP := [], outR := [] }).putPkts L.outP).putRecs L.outR

end Sys2Proof.Machine
end

