-- ==== Sys2Proof/Machine/Eth.lean ====
section
/-! DEFINITION. The Ethernet paths of a lane (R443 to R446, R452, R456): enable check, descriptor rings, receive filters and PHY
accesses. Path `p` ends at the port fix of die `p`. -/

namespace Sys2Proof.Machine

def Lane.updEth (L : Lane) (p : Nat) (f : EthCtl → EthCtl) : Lane := { L with eth := L.eth.upd p f }

/-- A byte stored by the MAC, where the address lies in data RAM (R444). -/
def Lane.dma (L : Lane) (a : Nat) (b : Byte) : Lane := if 0x20000000 ≤ a ∧ a < 0x20100000 then L.setByte a b else L
def Lane.dmaBytes (L : Lane) (a : Nat) : List Byte → Lane
  | [] => L
  | b :: t => Lane.dmaBytes (L.dma a b) (a + 1) t

/-- Word `i` of descriptor `k` of a ring at `base`. -/
def Lane.desc (L : Lane) (base k i : Nat) : Word := L.memW (base + 8 * k + 4 * i)

/-- Bits of word 1 of a descriptor. -/
def D.LEN : Bf := ⟨0, 11⟩
def D.DROP : Bf := ⟨30, 1⟩
def D.OWN : Bf := ⟨31, 1⟩

/-- A ring that the enable check accepts (R452). -/
def ringOk (base n : Nat) : Bool :=
  decide (base % 4 = 0) && decide (0x20000000 ≤ base) && decide (base + 8 * n ≤ 0x20100000) && decide (2 ≤ n) && decide (n ≤ 128)

/-- ETH_CTRLp.EN has been written (R47 to R49, R452). -/
def Lane.ethEnable (L : Lane) (p : Nat) (was : Word) : Lane :=
  let en := L.on (R.ETH_CTRL p) F.ETH_CTRL_EN
  let act := L.on (R.ETH_CTRL p) F.ETH_CTRL_ACTIVE
  if en = F.ETH_CTRL_EN.on was then L
  else if en then
    if act then L
    else if ringOk (L.rd (R.ETH_TXBASE p)).toNat (L.fld (R.ETH_TXCNT p) F.ETH_TXCNT_CNT)
        && ringOk (L.rd (R.ETH_RXBASE p)).toNat (L.fld (R.ETH_RXCNT p) F.ETH_RXCNT_CNT) && L.on (R.ETH_STAT p) F.ETH_STAT_REFOK then
      (L.setF (R.ETH_CTRL p) F.ETH_CTRL_ACTIVE 1).wr (R.ETH_IDX p) 0
    else L.raise (R.ETH_EVT p) F.ETH_EVT_CFGERR
  else if act then
    if (L.eth.at p).out.isEmpty then L.setF (R.ETH_CTRL p) F.ETH_CTRL_ACTIVE 0 else L.updEth p fun c => { c with closing := true }
  else L

/-- A disable that waited for the frames on their way is complete (R48), and a new enable then starts afresh (R49). -/
def Lane.ethClose (L : Lane) (p : Nat) : Lane :=
  if (L.eth.at p).closing && (L.eth.at p).out.isEmpty then
    let L1 := (L.updEth p fun c => { c with closing := false }).setF (R.ETH_CTRL p) F.ETH_CTRL_ACTIVE 0
    if L1.on (R.ETH_CTRL p) F.ETH_CTRL_EN then L1.ethEnable p 0 else L1
  else L

/-- A frame handed to the port fix with its FCS and the next running count; `k` is its descriptor, 255 for a reply. -/
def Lane.ethSend (L : Lane) (p k : Nat) (bytes : List Byte) : Lane :=
  let tag := (L.eth.at p).tag
  let data := bytes ++ leBytes 4 (crc32 bytes)
  Lane.emitR (L.updEth p fun c => { c with tag := (tag + 1) % 65536, out := ins (del c.out tag) tag k },
    [(p, { (default : PortRec) with lane := L.me, port := 4, tag := tag, len := data.length, data := data })])

/-- The MAC takes the next transmit descriptor (R444). -/
def Lane.txTake (L : Lane) (p : Nat) : Lane :=
  let base := (L.rd (R.ETH_TXBASE p)).toNat
  let k := L.fld (R.ETH_IDX p) F.ETH_IDX_TXI
  let w := L.desc base k 1
  if !L.on (R.ETH_CTRL p) F.ETH_CTRL_ACTIVE || (L.eth.at p).closing || !D.OWN.on w || ((L.eth.at p).out.any fun e => e.2 = k) then L
  else
    let buf := (L.desc base k 0).toNat
    let bytes := (List.range (D.LEN.get w)).map fun i => L.byte (buf + i)
    (L.setF (R.ETH_IDX p) F.ETH_IDX_TXI ((k + 1) % max 1 (L.fld (R.ETH_TXCNT p) F.ETH_TXCNT_CNT))).ethSend p k bytes

/-- The port fix reports a frame sent (0), without agreement (1) or with a wrong FCS (2) (R411, R413, R444). -/
def Lane.txDone (L : Lane) (p tag why : Nat) : Lane :=
  match (L.eth.at p).out.find? fun e => e.1 = tag with
  | none => L
  | some (_, k) =>
    let L0 := L.updEth p fun c => { c with out := del c.out tag }
    let L1 := if why = 0 then L0.bump (R.ETH_CNT p) F.ETH_CNT_TX 1
      else L0.raise (R.ETH_EVT p) (if why = 1 then F.ETH_EVT_NOAGR else F.ETH_EVT_FCSDROP)
    let L2 := if k = 255 then L1
      else
        let a := (L.rd (R.ETH_TXBASE p)).toNat + 8 * k + 4
        let w := D.DROP.set (D.OWN.set (L1.memW a) 0) (b2n (decide (why ≠ 0)))
        (L1.dmaBytes a (leBytes 4 w.toNat)).raise (R.ETH_EVT p) F.ETH_EVT_TXDONE
    L2.ethClose p

/-- Whether `a` was handed over before `b` by the running count. -/
def tagBefore (a b : Nat) : Bool := decide (a ≠ b) && decide ((b + 65536 - a) % 65536 < 32768)

/-- The frame of an Ethernet port fix that leaves next, or is dropped next: frames leave in TAG order (R413). -/
def Die.nextEth (d : Die) : Option PFrame :=
  d.frames.find? fun x => (d.frames.all fun y => !tagBefore y.frame.tag x.frame.tag)
    && (d.ports.all fun r => decide (r.port ≠ 4) || !tagBefore r.tag x.frame.tag)

/-- The port fix of path `p` reports its next frame to every lane. -/
def State.ethDone (s : State) (p : Nat) : State :=
  match (s.die p).nextEth with
  | none => s
  | some x =>
    if x.why = 0 ∧ (s.die p).split = true then s
    else (s.onDie p fun d => { d with frames := d.frames.erase x }).onLanes fun _ L => L.txDone p x.frame.tag x.why

/-- Whether a destination passes the receive filters of a path (R445). -/
def Lane.ethPass (L : Lane) (p : Nat) (dst : List Byte) : Bool :=
  let d := leNat dst
  let own := (L.rd (R.ETH_MACLO p)).toNat + 2 ^ 32 * L.fld (R.ETH_MACHI p) F.ETH_MACHI_ADDR
  decide (d = own) || (decide (d = 2 ^ 48 - 1) && L.on (R.ETH_CFG p) F.ETH_CFG_BCAST)
    || (d.testBit 0 && decide (d ≠ 2 ^ 48 - 1) && L.on (R.ETH_CFG p) F.ETH_CFG_MCAST)
    || (List.range 4).any fun k => L.on (R.ETH_FHI k) F.ETH_FHI_EN && L.on (R.ETH_FHI k) (if p = 0 then F.ETH_FHI_PATHA else F.ETH_FHI_PATHB)
      && decide (d = (L.rd (R.ETH_FLO k)).toNat + 2 ^ 32 * L.fld (R.ETH_FHI k) F.ETH_FHI_ADDR)

/-- A received frame, without its FCS (R444, R445, R456); `good`: its FCS is right and RMII reported no error. -/
def Lane.ethReceive (L : Lane) (p : Nat) (bytes : List Byte) (good : Bool) : Lane :=
  if !L.on (R.ETH_CTRL p) F.ETH_CTRL_ACTIVE then L
  else if !good then L.raise (R.ETH_EVT p) F.ETH_EVT_RXERR
  else
    let own := (L.rd (R.ETH_MACLO p)).toNat + 2 ^ 32 * L.fld (R.ETH_MACHI p) F.ETH_MACHI_ADDR
    if L.on R.SAFE_CTRL F.SAFE_CTRL_ACTIVE && decide (leNat (bytes.take 6) = own) && decide (beNat ((bytes.drop 12).take 2) = 0x88B5) then
      { L with safe := { L.safe with rx := L.safe.rx ++ [⟨true, p, leNat ((bytes.drop 6).take 6), L.gt, bytes.drop 14⟩] } }
    else if !L.ethPass p (bytes.take 6) then L
    else
      let base := (L.rd (R.ETH_RXBASE p)).toNat
      let k := L.fld (R.ETH_IDX p) F.ETH_IDX_RXI
      if !D.OWN.on (L.desc base k 1) then L.raise (R.ETH_EVT p) F.ETH_EVT_RXOVF
      else
        let L1 := L.dmaBytes (L.desc base k 0).toNat bytes
        let L2 := L1.dmaBytes (base + 8 * k + 4) (leBytes 4 (bytes.length % 2048))
        let L3 := (L2.setF (R.ETH_IDX p) F.ETH_IDX_RXI ((k + 1) % max 1 (L.fld (R.ETH_RXCNT p) F.ETH_RXCNT_CNT)))
        (L3.raise (R.ETH_EVT p) F.ETH_EVT_RXFRM).bump (R.ETH_CNT p) F.ETH_CNT_RX 1

/-- GO written (R446, R452); `was` is the register before the write. -/
def Lane.phyGo (L : Lane) (p : Nat) (was : Word) : Lane :=
  let r := R.ETH_PHYADR p
  if !L.on r F.ETH_PHYADR_GO || F.ETH_PHYADR_BUSY.on was then L
  else
    let wr := L.on r F.ETH_PHYADR_WR
    (L.setF r F.ETH_PHYADR_BUSY 1).updEth p fun c => { c with phy := some (L.fld r F.ETH_PHYADR_REG, L.fld r F.ETH_PHYADR_DEVAD, wr, if wr then L.fld (R.ETH_PHYDAT p) F.ETH_PHYDAT_DATA else 0) }

/-- The vote over the accesses that are present: register, device, direction and write data, bitwise 2-of-3 or two identical ones (R411, R446). -/
def votePhy : List (Nat × Nat × Bool × Nat) → Option (Nat × Nat × Bool × Nat)
  | [a, b, c] => some (majN a.1 b.1 c.1, majN a.2.1 b.2.1 c.2.1, maj3 a.2.2.1 b.2.2.1 c.2.2.1, majN a.2.2.2 b.2.2.2 c.2.2.2)
  | [a, b] => if a = b then some a else none
  | _ => none

/-- The PHY accesses of the lanes are voted and carried out (R411, R446): `data` is what each lane reads through its own buffer. -/
def State.phyDone (s : State) (p : Nat) (data : LaneId → Nat) : State :=
  let accs := [LaneId.A, .B, .C].filterMap fun l => ((s.lane l).eth.at p).phy.map fun x => (l.num, x)
  if accs.isEmpty then s
  else
    let v := votePhy (accs.map fun x => x.2)
    let odd := match v with | some x => accs.foldl (fun m y => if y.2 = x then m else m ||| 2 ^ y.1) 0 | none => 0
    (s.portOutl p odd).onLanes fun l L =>
      match (L.eth.at p).phy with
      | none => L
      | some _ =>
        let L1 := ((L.updEth p fun c => { c with phy := none }).setF (R.ETH_PHYADR p) F.ETH_PHYADR_BUSY 0).dropW1s (R.ETH_PHYADR p) F.ETH_PHYADR_GO
        let L3 := match v with
          | some a =>
            let L2 := L1.raise (R.ETH_EVT p) F.ETH_EVT_PHYDONE
            if a.2.2.1 then L2 else L2.setF (R.ETH_PHYDAT p) F.ETH_PHYDAT_DATA (data l)
          | none => L1.raise (R.ETH_EVT p) F.ETH_EVT_NOAGR
        -- GO written in the same tick ends set (R19): the access that it asks for follows
        L3.phyGo p 0

/-- REF_CLK disappears or returns (R452). -/
def Lane.refclk (L : Lane) (p : Nat) (ok : Bool) : Lane :=
  if L.on (R.ETH_STAT p) F.ETH_STAT_REFOK = ok then L
  else
    let L1 := L.setF (R.ETH_STAT p) F.ETH_STAT_REFOK (b2n ok)
    if ok then L1 else L1.raise (R.ETH_EVT p) F.ETH_EVT_REFLOST

end Sys2Proof.Machine
end

