-- ==== Sys2Proof/Machine/Safe.lean ====
section
/-! DEFINITION. The safety layer of a lane (R453 to R471, R477 to R485): PDUs and their checks, sessions, replies, reactions with their
stop bits and lock-outs, commissioning. -/

namespace Sys2Proof.Machine

def Lane.updSafe (L : Lane) (f : Safe → Safe) : Lane := { L with safe := f L.safe }
def Lane.sessOf (L : Lane) (n : Nat) : Sess := L.safe.sess.at n
def Lane.updSess (L : Lane) (n : Nat) (f : Sess → Sess) : Lane := L.updSafe fun s => { s with sess := s.sess.upd n f }
def Lane.updMon (L : Lane) (a : Nat) (f : SfnAx → SfnAx) : Lane := L.updSafe fun s => { s with mon := s.mon.upd a f }
def Lane.updCk (L : Lane) (f : Ck → Ck) : Lane := { L with ck := f L.ck }
/-- The number of the checkpoint captured last, to which the agreements of its apply instant belong. -/
def Lane.ckNum (L : Lane) : Nat := match L.ck.cap with | some c => c.num | none => 0
def Lane.updDg (L : Lane) (f : Dg → Dg) : Lane := { L with dg := f L.dg }
def Lane.updPw (L : Lane) (f : Pw → Pw) : Lane := { L with pw := f L.pw }

/-- The checkpoint period P and the exchange window in 5 ns steps (R93, R99). -/
def Lane.ckP (L : Lane) : Nat := 50000 * 2 ^ min 4 (L.fld R.FIX_CKP F.FIX_CKP_PSEL)
def Lane.xwin (L : Lane) : Nat := min (L.fld R.FIX_CKP F.FIX_CKP_XWIN * 200) (L.ckP / 2)

/-! ### Reading and checking a PDU (R454 to R458) -/

def pduSess (bs : List Byte) : Nat := (bs.getD 0 0).toNat % 128
def pduType (bs : List Byte) : Nat := (bs.getD 1 0).toNat % 16
def pduNw (bs : List Byte) : Nat := (bs.getD 1 0).toNat / 16
def pduSeq (bs : List Byte) : Nat := leNat ((bs.drop 2).take 2)
def pduTs (bs : List Byte) : Nat := leNat ((bs.drop 4).take 4)
def pduAdl (bs : List Byte) : Nat := leNat ((bs.drop 8).take 2)
def pduWords (bs : List Byte) : List Word := (List.range (pduNw bs)).map fun i => w32 (leNat ((bs.drop (10 + 4 * i)).take 4))
def pduCrc (bs : List Byte) : Nat := leNat ((bs.drop (10 + 4 * pduNw bs)).take 4)

/-- The CRC of a PDU without its CRC field (R457). -/
def crcOf (sender receiver : Word) (var sess : Nat) (bs : List Byte) : Nat :=
  crc32c (leBytes 4 sender.toNat ++ leBytes 4 receiver.toNat ++ (if var = 2 then leBytes 4 sess else []) ++ bs)

def Lane.sessSt (L : Lane) (n : Nat) : Nat := L.fld (R.SAFE_SST n) F.SAFE_SST_STATE
/-- The axes whose set-point comes from a session (R214, R217) have no valid word until the session's next command. -/
def Lane.cmdStale (L : Lane) (n : Nat) : Lane :=
  (List.range 12).foldl (fun X a =>
    let c := X.rd (R.AX_SPSRC a)
    if F.AX_SPSRC_KIND.get c = 5 ∧ F.AX_SPSRC_INDEX.get c % 128 = n then X.updAx a fun x => { x with cmdOk := false } else X) L
def Lane.setSess (L : Lane) (n st : Nat) : Lane :=
  if L.sessSt n = st then L else (((L.setF (R.SAFE_SST n) F.SAFE_SST_STATE st).raise (R.SAFE_SST n) F.SAFE_SST_STCHG)).cmdStale n

/-- The types that a session takes in a state (R459). -/
def pduAllowed (st ty : Nat) : Bool :=
  match st with
  | 1 => decide (ty = 1)
  | 2 => decide (2 ≤ ty ∧ ty ≤ 7)
  | 3 | 4 => decide (ty = 1 ∨ ty = 5 ∨ ty = 6 ∨ ty = 7)
  | _ => false

/-- A PDU discarded with a flag of its session (R458). -/
def Lane.pduBad (L : Lane) (n : Nat) (flag : Bf) : Lane := (L.raise (R.SAFE_SST n) flag).bump (R.SAFE_SERR n) F.SAFE_SERR_ERR 1

/-! ### Reactions and stop bits (R466 to R471) -/

def Lane.saxmask (L : Lane) (n : Nat) : Nat := L.fld (R.SAFE_SREACT n) F.SAFE_SREACT_SAXMASK
def Lane.axLo (L : Lane) : Nat := L.fld R.FIX_LOSTAT F.FIX_LOSTAT_AXLO
def Lane.devLo (L : Lane) : Bool := L.on R.FIX_LOSTAT F.FIX_LOSTAT_DEV

/-- The axes and dies whose stop bits a lane sets: those locked out, and those of its own code 2 posts. -/
def Lane.stopAxes (L : Lane) : Nat :=
  L.ck.trips.foldl (fun m p => match p.trip with
    | .sess n _ c => if 2 ≤ c then m ||| L.saxmask n else m
    | .axis a c => if 2 ≤ c then m ||| 2 ^ a else m
    | _ => m) L.axLo
def Lane.stopDies (L : Lane) : Nat :=
  L.ck.trips.foldl (fun m p => match p.trip with
    | .sess n _ c => if 2 ≤ c then m ||| L.fld (R.SAFE_SREACT n) F.SAFE_SREACT_SSOMASK else m
    | _ => m) (L.safe.sess.foldl (fun m e => m ||| e.2.dies) 0)

/-- Whether the stop bit of a resource is set for the safety functions. -/
def Lane.stopKey (L : Lane) (axes dies key : Nat) : Bool :=
  L.devLo || (if key < 8 then (List.range 12).any fun a => axes.testBit a && L.bindsBridge a key
    else if key < 20 then (List.range 12).any fun a => axes.testBit a && L.bindsValve a (key - 8)
    else dies.testBit (key - 20))

/-- The stop bits brought up to date; packets for those newly set go out at once (R467). -/
def Lane.updStops (L : Lane) : Lane :=
  let axes := L.stopAxes
  let dies := L.stopDies
  let keys := List.range 24
  let fresh := keys.filter fun k => L.stopKey axes dies k && !L.edg.stopSf.at k
  let L1 := L.updEdg fun e => { e with stopSf := keys.foldl (fun t k => t.set k (L.stopKey axes dies k)) e.stopSf }
  if fresh.isEmpty then L1
  else Lane.emit (L1.stopNow L.me (fresh.filter fun k => decide (k < 20)) ((fresh.filter fun k => decide (20 ≤ k)).map (· - 20)))

/-- A lock-out entered for axes and, if so, for the device (R517, R518). -/
def Lane.lockOut (L : Lane) (axes : Nat) (dev : Bool) : Lane :=
  let new := axes &&& (0xFFF ^^^ L.axLo)
  if new = 0 ∧ (dev = false ∨ L.devLo = true) then L
  else
    let L1 := (L.setF R.FIX_LOSTAT F.FIX_LOSTAT_AXLO (L.axLo ||| axes)).setF R.FIX_LOSTAT F.FIX_LOSTAT_AXNEW
      (L.fld R.FIX_LOSTAT F.FIX_LOSTAT_AXNEW ||| new)
    let L2 := if dev && !L.devLo then (L1.setF R.FIX_LOSTAT F.FIX_LOSTAT_DEV 1).setF R.FIX_LOSTAT F.FIX_LOSTAT_DEVNEW 1 else L1
    let L3 := (List.range 12).foldl (fun X a =>
      if new.testBit a then
        let Y := ((X.setF (R.SFN_ASTAT a) F.SFN_ASTAT_LOCKED 1).setF (R.SFN_ASTAT a) F.SFN_ASTAT_CSTOP 0).setF (R.SFN_ASTAT a) F.SFN_ASTAT_CSLEFT 0
        ((Y.setF R.SFN_TRIP ⟨a, 1⟩ 1).setF R.SFN_TRIP ⟨12 + a, 1⟩ 0).updMon a fun m => { m with due := none, cend := none }
      else X) L2
    let L4 := if new = 0 then L3 else L3.raise R.SFN_EVT F.SFN_EVT_OFF
    ((L4.raise R.FIX_DGEVT F.FIX_DGEVT_LOENT).updDg fun d => { d with cls := L.fld R.FIX_FLTLAST F.FIX_FLTLAST_CLASS }).nvmBegin 3

/-- A reaction takes effect on an axis (R466, R469, R470). -/
def Lane.axisReact (L : Lane) (a code : Nat) : Lane :=
  if L.axLo.testBit a || decide (code = 0) then L
  else if 2 ≤ code then L.lockOut (2 ^ a) false
  else if L.on (R.SFN_ASTAT a) F.SFN_ASTAT_CSTOP then L
  else L.updMon a fun m => { m with due := some (m.due.getD L.ckNum) }

/-- Every axis of a mask. -/
def Lane.axesReact (L : Lane) (mask code : Nat) : Lane :=
  (List.range 12).foldl (fun X a => if mask.testBit a then X.axisReact a code else X) L

/-- An agreed reaction (R459, R466, R468). -/
def Lane.reactAgreed (L : Lane) : Trip → Lane
  | .sess n stop code =>
    if L.sessSt n = 2 ∨ (L.sessSt n = 3 ∧ stop = true) then
      let L1 := (L.setSess n (if stop then 4 else 3)).updSess n fun e => { e with
        expired := false
        locks := if 2 ≤ code then e.locks ||| L.saxmask n else e.locks
        dies := if 2 ≤ code then e.dies ||| L.fld (R.SAFE_SREACT n) F.SAFE_SREACT_SSOMASK else e.dies }
      (L1.axesReact (L.saxmask n) code).updStops
    else L
  | .axis a code => (L.axisReact a code).updStops
  | _ => L

/-- Whether a lane carries out its own reactions without agreement (R502, R505, R510). -/
def Lane.alone (L : Lane) : Bool :=
  decide (L.dmode = 1 ∨ L.dmode = 2) || (decide (L.dmode = 3) && decide (L.fld R.FIX_DGSTAT F.FIX_DGSTAT_HCAUSE = 1))

/-- A post in the queue of R115; the same entry is posted once. -/
def Lane.postTrip (L : Lane) (t : Trip) : Lane :=
  if L.ck.trips.any fun p => decide (p.trip = t) then L
  else L.updCk fun c => { c with trips := c.trips ++ [⟨t, 0, L.ticks⟩] }

/-- A reaction found by this lane: stop bits from this tick on, and the post (R467, R468). -/
def Lane.react (L : Lane) (t : Trip) : Lane := if L.alone then L.reactAgreed t else (L.postTrip t).updStops

/-- A session's reaction; a STOP in the tick of the expiry takes the higher code of the two (R469), whichever the lane finds first: `both` says that
the time expectation runs out in the tick of the STOP. -/
def Lane.sessReact (L : Lane) (n : Nat) (stop both : Bool) : Lane :=
  let code : Bool → Nat := fun s => L.fld (R.SAFE_SREACT n) (if s then F.SAFE_SREACT_STOPR else F.SAFE_SREACT_EXPR)
  let same := L.ck.trips.find? fun p => match p.trip with | .sess m s _ => decide (m = n) && decide (s ≠ stop) && decide (p.tick = L.ticks) | _ => false
  match same with
  | some p => ((L.updCk fun c => { c with trips := c.trips.filter fun q => !decide (q.trip = p.trip) }).react (.sess n true (max (code true) (code false))))
  | none => L.react (.sess n stop (if both then max (code true) (code false) else code stop))

/-- Whether a session's time expectation runs out (R460). -/
def Lane.sessDue (L : Lane) (n : Nat) : Bool :=
  decide (L.sessSt n = 2) && !(L.sessOf n).expired && decide ((L.sessOf n).last + L.fld (R.SAFE_SNEG n) F.SAFE_SNEG_TEXP * 200000 ≤ L.gt)

/-- The watchdog of a session (R460). -/
def Lane.sessExpire (L : Lane) (n : Nat) : Lane :=
  if L.sessDue n then (L.updSess n fun e => { e with expired := true }).sessReact n false false else L

/-- A PDU accepted by this lane (R458, R460, R462, R466). -/
def Lane.pduTake (L : Lane) (r : RxPdu) (age : Int) : Lane :=
  let bs := r.bytes
  let n := pduSess bs
  let p : Pdu := ⟨n, pduType bs, pduSeq bs, ((r.time : Int) - age).toNat, pduAdl bs, pduWords bs, pduCrc bs, (r.time + 400) / L.ckP, r.src, 0⟩
  let L1 := (L.setF (R.SAFE_SST n) F.SAFE_SST_LSEQ p.seq).updSess n fun e => { e with last := r.time, src := if r.eth then r.src else e.src }
  let L2 := L1.updSafe fun s => { s with acc := s.acc ++ [p] }
  if p.ty = 4 then L2.sessReact n true (L.sessDue n) else L2

/-- The front PDU checked (R458). -/
def Lane.pduCheck (L0 : Lane) : Lane :=
  match L0.safe.rx with
  | [] => L0
  | r :: rest =>
    let L := L0.updSafe fun s => { s with rx := rest }
    let bs := r.bytes
    let n := pduSess bs
    let ty := pduType bs
    let cfg := L.rd (R.SAFE_SCFG n)
    let here := decide (1 ≤ n) && F.SAFE_SCFG_EN.on cfg && decide (F.SAFE_SCFG_CARRIER.on cfg = r.eth)
      && decide ((if r.eth then F.SAFE_SCFG_EPATH.get cfg else F.SAFE_SCFG_RXBUF.get cfg) = r.chan)
    let var := if ty = 1 then 1 else L.fld (R.SAFE_SNEG n) F.SAFE_SNEG_VAR
    let age := (w32 r.time - w32 (pduTs bs)).toInt
    let ahead := (pduSeq bs + 65536 - L.fld (R.SAFE_SST n) F.SAFE_SST_LSEQ) % 65536
    if !L.on R.SAFE_CTRL F.SAFE_CTRL_ACTIVE then L
    else if !here then L.bump R.SAFE_CNT F.SAFE_CNT_UNK 1
    else if crcOf (L.rd (R.SAFE_SPID n)) (L.rd R.SAFE_OWNID) var n (bs.take (10 + 4 * pduNw bs)) ≠ pduCrc bs then L.pduBad n F.SAFE_SST_CRCE
    else if !pduAllowed (L.sessSt n) ty || decide (12 < pduNw bs) then L.pduBad n F.SAFE_SST_TYPEE
    else if !L.on R.RKN_GT F.RKN_GT_GT_VALID || decide (age < -400) || decide ((L.fld (R.SAFE_SCHK n) F.SAFE_SCHK_AGEMAX : Int) * 200 < age) then
      L.pduBad n F.SAFE_SST_TSE
    else if ty = 1 then L.pduTake r age
    else if ahead = 0 then L.bump (R.SAFE_SERR n) F.SAFE_SERR_DUP 1
    else if L.fld (R.SAFE_SCHK n) F.SAFE_SCHK_SEQWIN < ahead then L.pduBad n F.SAFE_SST_SEQE
    else L.pduTake r age

/-- The front PDU checked where it is of a type. -/
def Lane.pduCheckTy (L : Lane) (ty : Nat) : Lane :=
  match L.safe.rx with
  | [] => L
  | r :: _ => if pduType r.bytes = ty then L.pduCheck else L

/-- A frame that has entered a buffer of an enabled session goes to the safety layer (R455, R458, R626). -/
def Lane.helmPdu (L : Lane) (k : Nat) (f : CanFrame) : Lane :=
  if L.on R.SAFE_CTRL F.SAFE_CTRL_ACTIVE && (List.range 127).any fun i =>
      let c := L.rd (R.SAFE_SCFG (i + 1))
      F.SAFE_SCFG_EN.on c && !F.SAFE_SCFG_CARRIER.on c && decide (F.SAFE_SCFG_RXBUF.get c = k) then
    L.updSafe fun s => { s with rx := s.rx ++ [⟨false, k, 0, L.gt, f.data.drop 1⟩] }
  else L

/-! ### Replies (R464) -/

/-- A REPLY to a PDU at checkpoint `c`. -/
def Lane.reply (L : Lane) (c n seq ty result : Nat) (w1 w2 : Word) : Lane :=
  if L.safe.mute then L else
  let e := L.sessOf n
  let hdr := [BitVec.ofNat 8 n, 0x48#8] ++ leBytes 2 e.reply ++ leBytes 4 (c * L.ckP) ++ [0, 0]
  let body := hdr ++ leBytes 4 (seq + 65536 * ty + 2 ^ 24 * result) ++ leBytes 4 w1.toNat ++ leBytes 4 w2.toNat
    ++ leBytes 4 (L.fld R.SFN_TRIP ⟨0, 24⟩)
  let var := if ty = 1 then 1 else L.fld (R.SAFE_SNEG n) F.SAFE_SNEG_VAR
  let bs := body ++ leBytes 4 (crcOf (L.rd R.SAFE_OWNID) (L.rd (R.SAFE_SPID n)) var n body)
  let L1 := L.updSess n fun e => { e with reply := (e.reply + 1) % 65536 }
  let cfg := L.rd (R.SAFE_SCFG n)
  if F.SAFE_SCFG_CARRIER.on cfg then
    let p := F.SAFE_SCFG_EPATH.get cfg
    let own := (L.rd (R.ETH_MACLO p)).toNat + 2 ^ 32 * L.fld (R.ETH_MACHI p) F.ETH_MACHI_ADDR
    L1.ethSend p 255 (leBytes 6 e.src ++ leBytes 6 own ++ [0x88#8, 0xB5#8] ++ bs ++ List.replicate (46 - bs.length) 0#8)
  else
    let k := F.SAFE_SCFG_TXBUF.get cfg
    let d := [0#8] ++ bs
    let L2 := (List.range 16).foldl (fun X j => X.wr (R.HNET_BD k j) (w32 (leNat ((d.drop (4 * j)).take 4)))) L1
    L2.setF (R.HNET_BST k) F.HNET_BST_TXREQ 1

/-! ### Enable checks (R477) -/

/-- Whether some enabled entry of the matrix serves a receive buffer exclusively. -/
def Lane.exclBuf (L : Lane) (k : Nat) : Bool :=
  !L.on (R.HNET_BCFG k) F.HNET_BCFG_ARB && (List.range L.mxCount).any fun e =>
    decide ((L.mx e).kind = 0) && !(L.mx e).nobuf && !(L.mx e).tx && decide ((L.mx e).buf = k)

/-- Whether the check of a session fails. -/
def Lane.sessFails (L : Lane) (n : Nat) : Bool :=
  let cfg := L.rd (R.SAFE_SCFG n)
  let lo := L.fld (R.SAFE_STEX n) F.SAFE_STEX_TEXMIN
  let hi := L.fld (R.SAFE_STEX n) F.SAFE_STEX_TEXMAX
  let eth := F.SAFE_SCFG_CARRIER.on cfg
  let rx := F.SAFE_SCFG_RXBUF.get cfg
  let reacts := decide (L.fld (R.SAFE_SREACT n) F.SAFE_SREACT_STOPR ≠ 0 ∨ L.fld (R.SAFE_SREACT n) F.SAFE_SREACT_EXPR ≠ 0)
  decide (L.rd (R.SAFE_SPID n) = 0) || decide (L.rd R.SAFE_OWNID = 0) || decide (hi < lo) || decide (lo < 2) || decide (1000 < hi)
    || (reacts && !eth && !L.exclBuf rx)
    || (!eth && (L.on (R.HNET_BCFG rx) F.HNET_BCFG_DIR || !L.on (R.HNET_BCFG (F.SAFE_SCFG_TXBUF.get cfg)) F.HNET_BCFG_DIR))
    || decide (F.SAFE_SCFG_VMASK.get cfg = 0)

/-- SAFE_SCFGs.EN has been written: a failed check leaves the session inactive (R477). The session leaves OFF at an apply
instant. -/
def Lane.sessEnable (L : Lane) (n : Nat) (was : Word) : Lane :=
  if L.on (R.SAFE_SCFG n) F.SAFE_SCFG_EN && !F.SAFE_SCFG_EN.on was then
    if L.sessFails n then (L.updSess n fun e => { e with ok := false }).raise R.SAFE_EVT F.SAFE_EVT_CFGERR
    else L.updSess n fun e => { e with ok := true }
  else L

/-- SAFE_CTRL.EN has been written (R47 to R49, R626): a disable is complete at the apply instant that returns the sessions to OFF. -/
def Lane.safeWritten (L : Lane) (was : Bool) : Lane :=
  let en := L.on R.SAFE_CTRL F.SAFE_CTRL_EN
  if en = was then L
  else if en then (if L.safe.closing then L else L.setF R.SAFE_CTRL F.SAFE_CTRL_ACTIVE 1)
  else if (List.range 127).all fun i => decide (L.sessSt (i + 1) = 0) then L.setF R.SAFE_CTRL F.SAFE_CTRL_ACTIVE 0
  else L.updSafe fun s => { s with closing := true }

/-- At an apply instant, enabled sessions leave OFF and disabled ones return to it (R459, R626). -/
def Lane.sessApply (L : Lane) : Lane :=
  let act := L.on R.SAFE_CTRL F.SAFE_CTRL_ACTIVE && !L.safe.closing
  let L1 := (List.range 127).foldl (fun X i =>
    let n := i + 1
    let en := X.on (R.SAFE_SCFG n) F.SAFE_SCFG_EN
    if X.sessSt n = 0 then
      if en && act && (X.sessOf n).ok then X.setSess n 1 else X
    else if !en || !act then ((X.setSess n 0).updSess n fun e => { e with expired := false, dies := 0 }).updStops
    else X) L
  if L.safe.closing then
    (L1.updSafe fun s => { s with closing := false }).setF R.SAFE_CTRL F.SAFE_CTRL_ACTIVE (L.fld R.SAFE_CTRL F.SAFE_CTRL_EN)
  else L1

/-! ### Device acceptance (R461 to R463, R483, R484, R521) -/

/-- A HELLO accepted by the device: its result (R461). -/
def Lane.helloAgreed (L : Lane) (c : Nat) (p : Pdu) : Lane :=
  let n := p.sess
  let st := L.sessSt n
  let mask := (p.words.getD 0 0).toNat % 4 &&& L.fld (R.SAFE_SCFG n) F.SAFE_SCFG_VMASK
  let texp := max ((p.words.getD 1 0).toNat % 1024) (L.fld (R.SAFE_STEX n) F.SAFE_STEX_TEXMIN)
  let locked := decide ((L.sessOf n).locks &&& L.axLo ≠ 0)
  if ¬ (st = 1 ∨ st = 3 ∨ st = 4) ∨ (st ≠ 1 ∧ locked = true) then L.reply c n p.seq 1 8 0 0
  else if mask = 0 ∨ L.fld (R.SAFE_STEX n) F.SAFE_STEX_TEXMAX < texp then L.reply c n p.seq 1 9 0 0
  else
    let var := if mask.testBit 1 then 2 else 1
    let L1 := ((L.setSess n 2).setF (R.SAFE_SNEG n) F.SAFE_SNEG_VAR var).setF (R.SAFE_SNEG n) F.SAFE_SNEG_TEXP texp
    let mine := decide (L.fld (R.SAFE_SST n) F.SAFE_SST_LSEQ = p.seq)
    let L2 := (L1.setF (R.SAFE_SST n) F.SAFE_SST_LSEQ p.seq).updSess n fun e => { e with
      expired := false, dies := 0, locks := 0, src := if p.src = 0 then e.src else p.src, last := if mine then e.last else L.gt }
    (L2.updStops).reply c n p.seq 1 0 (w32 (var + 65536 * texp)) 0

/-- A QUERY accepted by the device (R483). -/
def Lane.queryAgreed (L : Lane) (c : Nat) (p : Pdu) : Lane :=
  if L.fld R.SAFE_CMCFG F.SAFE_CMCFG_CMSES = p.sess then
    let L1 := (L.updSafe fun s => { s with chal := some (w32 c), chalAt := L.ticks }).setF R.SAFE_CMST F.SAFE_CMST_CHOPEN 1
    L1.reply c p.sess p.seq 6 0 (L.rd R.SAFE_CCV) (w32 c)
  else L.reply c p.sess p.seq 6 8 0 0

/-- Whether the device is in Harbour and at standstill for 1 s (R484, R515). -/
def Lane.atRest (L : Lane) : Bool := decide (L.base = 1) && decide (L.dmode = 0) && decide (L.trav.adv + 200000000 ≤ L.ticks)

/-- A CONFIRM accepted by the device (R484): refused, or the record is written. -/
def Lane.confirmAgreed (L : Lane) (c : Nat) (p : Pdu) : Lane :=
  let res : Nat :=
    if L.fld R.SAFE_CMCFG F.SAFE_CMCFG_CMSES ≠ p.sess then 8
    else if p.words.getD 0 0 ≠ L.rd R.SAFE_CCV then 0xA
    else if L.safe.chal ≠ some (p.words.getD 1 0) then 0xB
    else if !L.atRest then 0xC else 0
  if res ≠ 0 then (L.raise R.SAFE_EVT F.SAFE_EVT_CONFREF).reply c p.sess p.seq 7 res 0 0
  else ((L.updSafe fun s => { s with conf := some (p.sess, p.seq), confId := p.words.getD 2 0, confRes := none, chal := none }).setF R.SAFE_CMST
    F.SAFE_CMST_CHOPEN 0).nvmBegin 2

/-- Whether the machine is at standstill (R515): with a travel source, reckoner 12 has not advanced for 1 s; without one, once
the wait after the stop profile is over. -/
def Lane.still (L : Lane) : Bool :=
  if L.fld R.POS_TRSTAT F.POS_TRSTAT_SRC = 7 then L.dg.still else decide (L.trav.adv + 200000000 ≤ L.ticks)

/-- A release agreed by a RESET or the ball, for axes in [11:0] and the device in [16]; whether R520 allows it. -/
def Lane.relOk (L : Lane) (mask : Nat) : Bool :=
  L.still && decide (mask % 4096 &&& L.fld R.FIX_LOSTAT F.FIX_LOSTAT_AXNEW = 0)
    && !(mask.testBit 16 && L.on R.FIX_LOSTAT F.FIX_LOSTAT_DEVNEW)

/-- A release begins: each lane writes its record without the released entries (R523). -/
def Lane.relBegin (L : Lane) (mask sess seq : Nat) : Lane :=
  ((L.updSafe fun s => { s with rel := some (mask, sess, seq), relRes := none }).updDg fun d => { d with releasing := mask }).nvmBegin 3

/-- A RESET accepted by the device (R520, R521). -/
def Lane.resetAgreed (L : Lane) (c : Nat) (p : Pdu) : Lane :=
  let w := (p.words.getD 0 0).toNat
  let mask := w % 4096 + 65536 * (w / 65536 % 2)
  let mine := decide (mask % 4096 &&& (0xFFF ^^^ L.saxmask p.sess) = 0)
    && (!mask.testBit 16 || decide (L.fld R.SAFE_CMCFG F.SAFE_CMCFG_CMSES = p.sess))
  if mine && L.relOk mask && L.safe.rel.isNone then L.relBegin mask p.sess p.seq
  else (if mine then L.raise R.FIX_DGEVT F.FIX_DGEVT_RSTREF else L).reply c p.sess p.seq 5 0xE 0 0

/-! ### Records in flash (R480, R481, R484, R518, R519) -/

/-- The place of a copy of the commissioning and of the lock-out record (R550). -/
def comBase (copy : Nat) : Nat := 0x804000 + 0x1000 * copy
def loBase (copy : Nat) : Nat := 0x806000 + 0x1000 * copy

/-- Whether a copy of a record with `n` words before its CRC has its layout mark and a good CRC. -/
def Lane.recGood (L : Lane) (base n mark : Nat) : Bool :=
  decide ((L.flashW base).toNat % 65536 = mark)
    && decide ((L.flashW (base + 4 * n)).toNat = crc32c ((List.range (4 * n)).map fun i => L.flashByte (base + i)))
/-- The copy in force. -/
def Lane.recCopy (L : Lane) (base : Nat → Nat) (n mark : Nat) (ok : Nat → Bool) : Option Nat :=
  laterCopy (L.recGood (base 0) n mark && ok (base 0)) (L.recGood (base 1) n mark && ok (base 1))
    ((L.flashW (base 0)).toNat / 65536) ((L.flashW (base 1)).toNat / 65536)
/-- A record written to its other copy with the next generation (R369): the words after word 0, before the CRC. -/
def Lane.recWrite (L : Lane) (base : Nat → Nat) (mark : Nat) (cur : Option Nat) (ws : List Word) : Lane :=
  let dst := match cur with | some c => 1 - c | none => 0
  let gen := match cur with | some c => ((L.flashW (base c)).toNat / 65536 + 1) % 65536 | none => 1
  let body := w32 (mark + 65536 * gen) :: ws
  L.flashWords (base dst) (body ++ [w32 (crc32c (wordsBytes body))])

/-- A failed write of a record leaves free values in the `n` words of the copy that it was written to (log entry 4). -/
def Lane.recSpoil (L : Lane) (base : Nat → Nat) (n : Nat) (cur : Option Nat) : Lane :=
  L.flashFree (base (match cur with | some c => 1 - c | none => 0)) n

/-- The commissioning record: the copy in force for this lane's letter (R480). -/
def Lane.comCopy (L : Lane) : Option Nat := L.recCopy comBase 7 0xC3A1 fun b => decide ((L.flashW (b + 24)).toNat / 2 % 4 = L.me)
def Lane.comWrite (L : Lane) (id cp : Word) (ccv : Word) : Lane :=
  L.recWrite comBase 0xC3A1 L.comCopy
    [ccv, L.rd R.LANE_ID_UID_LO, L.rd R.LANE_ID_UID_HI, id, cp, w32 (2 * L.me)]

/-- Whether the lane reads its record as confirming at start-up (R481). -/
def Lane.confirming (L : Lane) : Bool :=
  match L.comCopy with
  | none => false
  | some c => decide (L.flashW (comBase c + 4) = L.rd R.SAFE_CCV) && decide (L.flashW (comBase c + 8) = L.rd R.LANE_ID_UID_LO)
    && decide (L.flashW (comBase c + 12) = L.rd R.LANE_ID_UID_HI) && !(bitOf (L.flashW (comBase c + 24)) 0)

/-- The commissioning record read at start-up and shown (R480, R487). -/
def Lane.comLoad (L : Lane) : Lane :=
  match L.comCopy with
  | none => L.setF R.SAFE_CMST F.SAFE_CMST_RECBAD 1
  | some c => ((L.setF R.SAFE_CMST F.SAFE_CMST_RECBAD 0).setF R.SAFE_CMST F.SAFE_CMST_STALE (b2n (bitOf (L.flashW (comBase c + 24)) 0))).setF
      R.SAFE_CMST F.SAFE_CMST_GEN ((L.flashW (comBase c)).toNat / 65536)

/-- A compass swing committed on a slot with CALREQ makes the record stale (R482). -/
def Lane.comStale (L : Lane) : Lane :=
  match L.comCopy with
  | none => L
  | some c => L.recWrite comBase 0xC3A1 L.comCopy (((List.range 5).map fun i => L.flashW (comBase c + 4 + 4 * i)) ++ [L.flashW (comBase c + 24) ||| 1])

/-- The commissioning record written and verified, or not (R484). -/
def Lane.comDone (L : Lane) (ok : Bool) : Lane :=
  match L.safe.conf with
  | none => L
  | some _ =>
    if L.safe.confRes.isSome || L.nvmWait.contains 2 then L
    else
      let L1 := if ok then L.comWrite L.safe.confId (L.rd R.FIX_CNUM) (L.rd R.SAFE_CCV) else L.recSpoil comBase 8 L.comCopy
      (L1.comLoad.nvmEnd 2).updSafe fun s => { s with confRes := some ok }

/-- The challenge closes 60 s after it opened (R483). -/
def Lane.chalExpire (L : Lane) : Lane :=
  if L.safe.chal.isSome && decide (L.safe.chalAt + 12000000000 ≤ L.ticks) then
    (L.updSafe fun s => { s with chal := none }).setF R.SAFE_CMST F.SAFE_CMST_CHOPEN 0
  else L

/-- The lock-out record: its copy in force and what it says at start-up (R518, R519). -/
def Lane.loCopy (L : Lane) : Option Nat := L.recCopy loBase 6 0x10C7 fun b => decide ((L.flashW (b + 20)).toNat / 256 % 4 = L.me)
def Lane.loLoad (L : Lane) : Lane :=
  match L.loCopy with
  | some c => L.updDg fun d => { d with early := w32 ((L.flashW (loBase c + 4)).toNat % 8192), earlyBad := false }
  | none =>
    let blank := (List.range 14).all fun i => decide (L.flashW (loBase (i / 7) + 4 * (i % 7)) = 0xFFFFFFFF#32)
    L.updDg fun d => { d with early := 0, earlyBad := !blank }

/-- The lock-out record written (R518, R523): without the entries being released where the write is for a release. -/
def Lane.loDone (L : Lane) (ok : Bool) : Lane :=
  if L.nvmWait.contains 3 || !L.nvmBusy 3 then L
  else
    let rel := L.dg.releasing
    let axes := L.axLo &&& (0xFFF ^^^ rel % 4096)
    let dev := L.devLo && !rel.testBit 16
    let L1 := if ok then L.recWrite loBase 0x10C7 L.loCopy
      [w32 (axes + 4096 * b2n dev), L.rd R.LANE_ID_UID_LO, L.rd R.LANE_ID_UID_HI, L.rd R.FIX_CNUM, w32 (L.dg.cls % 256 + 256 * L.me)] else L.recSpoil loBase 7 L.loCopy
    if L.safe.rel.isSome && L.safe.relRes.isNone then (L1.nvmEnd 3).updSafe fun s => { s with relRes := some ok } else L1.nvmEnd 3

/-- Whether a resource belongs to an axis of a mask, or the mask releases the device. -/
def Lane.relKey (L : Lane) (mask key : Nat) : Bool :=
  mask.testBit 16 || (List.range 12).any fun a => mask.testBit a &&
    (if key < 8 then L.bindsBridge a key else if key < 20 then L.bindsValve a (key - 8) else false)

/-- A release takes effect (R523): the outputs concerned stay off until software enables each. -/
def Lane.relTake (L : Lane) (mask : Nat) : Lane :=
  let ax := mask % 4096
  let keep := 0xFFF ^^^ ax
  let L1 := ((L.setF R.FIX_LOSTAT F.FIX_LOSTAT_AXLO (L.axLo &&& keep)).setF R.FIX_LOSTAT F.FIX_LOSTAT_DEV (b2n (L.devLo && !mask.testBit 16)))
  let L2 := (List.range 12).foldl (fun X a => if ax.testBit a then
      ((X.setF (R.SFN_ASTAT a) F.SFN_ASTAT_LOCKED 0).setF R.SFN_TRIP ⟨a, 1⟩ 0).setF R.SFN_TRIP ⟨12 + a, 1⟩ 0 else X) L1
  let L3 := if mask.testBit 16 && decide (L.dmode = 4) then L2.setF R.FIX_DGSTAT F.FIX_DGSTAT_DMODE 0 else L2
  (((L3.holdKeys (L.relKey mask)).raise R.FIX_DGEVT F.FIX_DGEVT_RSTOK).updDg fun d => { d with releasing := 0 }).updStops

end Sys2Proof.Machine
end

