-- ==== Sys2Proof/Machine/Sfn.lean ====
section
/-! DEFINITION. The safely limited functions (R473 to R477, R485) and the limits of the degraded modes on an axis's set-point (R507,
R511, R513). -/

namespace Sys2Proof.Machine

def Lane.monOf (L : Lane) (a : Nat) : SfnAx := L.safe.mon.at a

/-! ### The envelope (R476) -/

/-- A value of the envelope between its points, for points (speed, value) with rising speeds. -/
def envBetween (s : Int) : List (Int × Int) → Int
  | [] => 0
  | [(_, y)] => y
  | (x0, y0) :: (x1, y1) :: t =>
    if s ≤ x0 then y0 else if s < x1 then rneDiv (y0 * (x1 - x0) + (s - x0) * (y1 - y0)) (x1 - x0) else envBetween s ((x1, y1) :: t)

def Lane.nepts (L : Lane) (a : Nat) : Nat := L.fld (R.SFN_ACFG a) F.SFN_ACFG_NEPTS
def Lane.gspd (L : Lane) : Int := (L.rd R.POS_GSPD).toNat

/-- The envelope angle and rate at the present ground speed. -/
def Lane.envelope (L : Lane) (a : Nat) : Int × Int :=
  let pts : (Nat → Reg) → List (Int × Int) := fun r =>
    (List.range (min 8 (L.nepts a))).map fun k => (((L.rd (R.SFN_ESPD a k)).toNat : Int), ((L.rd (r k)).toNat : Int))
  (envBetween L.gspd (pts (R.SFN_EANG a)), envBetween L.gspd (pts (R.SFN_ERATE a)))

/-! ### The check (R477) -/

def rising : List Nat → Bool
  | a :: b :: t => decide (a < b) && rising (b :: t)
  | _ => true

/-- Whether the check of an axis's functions fails. -/
def Lane.sfnFails (L : Lane) (a : Nat) : Bool :=
  let c := L.rd (R.SFN_ACFG a)
  let clamp := (F.SFN_ACFG_PEN.on c && decide (F.SFN_ACFG_PREACT.get c = 0)) || (F.SFN_ACFG_REN.on c && decide (F.SFN_ACFG_RREACT.get c = 0))
    || (F.SFN_ACFG_DEN.on c && decide (F.SFN_ACFG_DREACT.get c = 0)) || (F.SFN_ACFG_EEN.on c && decide (F.SFN_ACFG_EREACT.get c = 0))
  let n := L.nepts a
  let k := L.fld (R.POS_AXSRC a) F.POS_AXSRC_KIND
  (F.SFN_ACFG_PEN.on c && decide (L.rdI (R.SFN_PMAX a) ≤ L.rdI (R.SFN_PMIN a)))
    || (F.SFN_ACFG_DEN.on c && decide (F.SFN_ACFG_DIR.get c = 0 ∨ F.SFN_ACFG_DIR.get c = 3))
    || (F.SFN_ACFG_EEN.on c && (decide (n < 2 ∨ 8 < n) || !rising ((List.range n).map fun i => (L.rd (R.SFN_ESPD a i)).toNat)))
    || (clamp && F.SFN_ACFG_CMDSRC.on c) || (!F.SFN_ACFG_CMDSRC.on c && decide (k ≠ 1 ∧ k ≠ 2))

/-- SFN_ACFGa.EN has been written. -/
def Lane.sfnEnable (L : Lane) (a : Nat) (was : Word) : Lane :=
  let en := L.on (R.SFN_ACFG a) F.SFN_ACFG_EN
  if en = F.SFN_ACFG_EN.on was then L
  else if en && L.sfnFails a then (L.updMon a fun m => { m with on := false }).raise R.SFN_EVT F.SFN_EVT_CFGERR
  else L.updMon a fun m => { m with on := en, prev := none, nP := 0, nR := 0, nD := 0, nE := 0 }

/-! ### Evaluation in a sample (R473 to R475) -/

/-- The monitored position and rate, and whether the source is valid; `dt` is the interval from the previous sample. -/
def Lane.monitored (L : Lane) (a dt : Nat) : Word × Int × Bool :=
  if L.on (R.SFN_ACFG a) F.SFN_ACFG_CMDSRC then
    match (L.monOf a).cmd with
    | none => (0, 0, false)
    | some p => (p, match (L.monOf a).prev with | some q => if dt = 0 then 0 else rneDiv ((p - q).toInt * 256) dt | none => 0, true)
  else L.axisAngle a

/-- A function's condition counted; whether the function is violated (R474). -/
def Lane.counted (L : Lane) (a n : Nat) : Bool := decide (L.fld (R.SFN_ACFG a) F.SFN_ACFG_FCNT < n)

/-- A set-point limited in its change from the one before it. -/
def limitStep (prev : Option Int) (x up dn : Int) : Int := match prev with | some y => clampI (y - dn) (y + up) x | none => x

/-- The monitor of an axis in the trigger tick of a sample (R473 to R475): `sp` is the shaped set-point and `dt` the interval from the
previous sample; the result is the set-point that the clamps leave. -/
def Lane.monitor (L : Lane) (a dt : Nat) (sp : Int) : Lane × Int :=
  let c := L.rd (R.SFN_ACFG a)
  let m := L.monOf a
  if !L.on R.SFN_CTRL F.SFN_CTRL_ACTIVE || !m.on then (L.setF (R.SFN_ASTAT a) F.SFN_ASTAT_CLAMPING 0, sp)
  else
    let src := L.monitored a dt
    let p := src.1.toInt
    let v := src.2.1
    let bad := !src.2.2
    let env := L.envelope a
    let dir := F.SFN_ACFG_DIR.get c
    let cP := F.SFN_ACFG_PEN.on c && (bad || decide (p < L.rdI (R.SFN_PMIN a) ∨ L.rdI (R.SFN_PMAX a) < p))
    let cR := F.SFN_ACFG_REN.on c && (bad || decide ((L.rd (R.SFN_RMAX a)).toNat < v.natAbs))
    let cD := F.SFN_ACFG_DEN.on c && (bad || decide ((0 < v ∧ dir = 2) ∨ (v < 0 ∧ dir = 1)))
    let cE := F.SFN_ACFG_EEN.on c && (bad || decide (env.1 < p.natAbs ∨ env.2 < v.natAbs))
    let up : Bool → Nat → Nat := fun b n => if b then min 256 (n + 1) else 0
    let m1 := { m with nP := up cP m.nP, nR := up cR m.nR, nD := up cD m.nD, nE := up cE m.nE, prev := some src.1 }
    let vP := L.counted a m1.nP
    let vR := L.counted a m1.nR
    let vD := L.counted a m1.nD
    let vE := L.counted a m1.nE
    let codes := [(vP, F.SFN_ACFG_PREACT.get c), (vR, F.SFN_ACFG_RREACT.get c), (vD, F.SFN_ACFG_DREACT.get c), (vE, F.SFN_ACFG_EREACT.get c)]
    let code := codes.foldl (fun k x => if x.1 then max k (min 2 x.2) else k) 0
    let flag : Lane → Bool → Bf → Lane := fun X b f => if b then X.raise (R.SFN_ASTAT a) f else X
    let L1 := (L.updMon a fun _ => m1).wr (R.SFN_AVAL a) src.1
    let L1 := L1.wr (R.SFN_ALIM a) (if F.SFN_ACFG_EEN.on c then wInt env.1 else 0)
    let L1 := flag (flag (flag (flag (flag L1 vP F.SFN_ASTAT_VIOLP) vR F.SFN_ASTAT_VIOLR) vD F.SFN_ASTAT_VIOLD) vE F.SFN_ASTAT_VIOLE) bad F.SFN_ASTAT_INVSRC
    let L1 := if vP || vR || vD || vE then L1.raise R.SFN_EVT F.SFN_EVT_VIOL else L1
    let x0 := sp
    let x1 := if vP ∧ F.SFN_ACFG_PREACT.get c = 0 then clampI (L.rdI (R.SFN_PMIN a)) (L.rdI (R.SFN_PMAX a)) x0 else x0
    let x2 := if vE ∧ F.SFN_ACFG_EREACT.get c = 0 then clampI (-env.1) env.1 x1 else x1
    let step := rneShift (((L.rd (R.SFN_RMAX a)).toNat : Int) * dt) 8
    let x3 := if vR ∧ F.SFN_ACFG_RREACT.get c = 0 then limitStep m.sp x2 step step else x2
    let x4 := if vD ∧ F.SFN_ACFG_DREACT.get c = 0 then
        (match m.sp with | some y => if dir = 1 then max y x3 else min y x3 | none => x3) else x3
    let L2 := L1.setF (R.SFN_ASTAT a) F.SFN_ASTAT_CLAMPING (b2n (codes.any fun x => x.1 && decide (x.2 = 0)))
    let L3 := if code = 0 ∨ L.axLo.testBit a = true ∨ (code = 1 ∧ ((L.on (R.SFN_ASTAT a) F.SFN_ASTAT_CSTOP) = true ∨ m.due.isSome = true)) then L2
      else L2.react (.axis a code)
    (L3, x4)

/-! ### Controlled stops (R470) and Unconfirmed (R485) -/

/-- A controlled stop agreed at a checkpoint up to `ck` takes effect on an axis's first sample after it (R470). -/
def Lane.cstopStart (L : Lane) (a ck : Nat) : Lane :=
  if (L.monOf a).due.any (fun c => decide (c ≤ ck)) then
    let t := L.fld (R.SFN_ACST a) F.SFN_ACST_CSTOPT
    let L1 := (L.updMon a fun m => { m with due := none, cend := some (L.ticks + t * 200000) })
    ((L1.setF (R.SFN_ASTAT a) F.SFN_ASTAT_CSTOP 1).setF R.SFN_TRIP ⟨12 + a, 1⟩ 1).raise R.SFN_EVT F.SFN_EVT_CSTOP
  else L

/-- CSTOPT has passed (R470). -/
def Lane.cstopEnd (L : Lane) (a : Nat) : Lane :=
  match (L.monOf a).cend with
  | some t => if t ≤ L.ticks then (L.updMon a fun m => { m with cend := none }).react (.axis a 2) else L
  | none => L

/-- The milliseconds left in a controlled stop, as SFN_ASTATa.CSLEFT shows them. -/
def Lane.csLeft (L : Lane) (a : Nat) : Nat := match (L.monOf a).cend with | some t => (t - L.ticks + 199999) / 200000 | none => 0

def Lane.unconf (L : Lane) : Bool := bitOf (L.rd R.PWR_MODE) 2

/-- Travel beyond SFN_UCDIST in Unconfirmed (R485). -/
def Lane.ucCheck (L : Lane) : Lane :=
  if L.unconf && !L.safe.ucDone && decide (L.fld R.SFN_UCDIST F.SFN_UCDIST_DIST < L.trav.pos12) then
    let L1 := (L.updSafe fun s => { s with ucDone := true }).raise R.SFN_EVT F.SFN_EVT_UCTRAV
    (List.range 12).foldl (fun X a => if X.axActive a then X.react (.axis a 2) else X) L1
  else L

/-! ### The stop profile and the degraded limits (R507, R511, R513) -/

/-- Point `k` of the stop profile: its time in ms and its demand. -/
def Lane.profPt (L : Lane) (k : Nat) : Int × Int :=
  let b := L.fld R.FIX_DGPROF F.FIX_DGPROF_PBASE
  (((L.coef (b + 2 * k)).toNat % 2 ^ 20 : Nat), (L.coef (b + 2 * k + 1)).toInt)
def Lane.profN (L : Lane) : Nat := L.fld R.FIX_DGPROF F.FIX_DGPROF_NPTS

/-- The demand of the stop profile now, with times in 5 ns steps. -/
def Lane.profDemand (L : Lane) : Int :=
  envBetween ((L.ticks - L.dg.profAt : Nat) : Int) ((List.range L.profN).map fun k => ((L.profPt k).1 * 200000, (L.profPt k).2))

/-- The brake demand in force (R507, R511). -/
def Lane.brakeDemand (L : Lane) : Option Int :=
  if L.dmode = 2 then
    (if L.fld R.FIX_DGSTAT F.FIX_DGSTAT_LLPH = 1 then (if L.dg.hold then some (L.rdI R.FIX_DGHOLD) else none) else some L.profDemand)
  else if L.dmode = 3 then some L.profDemand else none

/-- The set-point of an axis under the limits of Last Lane and Heave-to. -/
def Lane.degraded (L : Lane) (a dt : Nat) (sp : Int) : Int :=
  if ¬ (L.dmode = 2 ∨ L.dmode = 3) then sp
  else
    let x :=
      if L.axKind a = 1 then
        if 2 ≤ L.nepts a then
          let env := L.envelope a
          let step := rneShift (env.2 * dt) 8
          limitStep (L.monOf a).sp (clampI (-env.1) env.1 sp) step step
        else clampI (L.rdI (R.SFN_PMIN a)) (L.rdI (R.SFN_PMAX a)) sp
      else sp
    match L.brakeDemand with
    | some d => if L.fld R.FIX_DGBRK ⟨a, 1⟩ = 1 then max x (rneShift (d * L.rdI (R.AX_SPMAX a)) 31) else x
    | none => x

end Sys2Proof.Machine
end

