-- ==== Sys2Proof/Machine/Degr.lean ====
section
/-! DEFINITION. The mode word (R533, R538), self-diagnosis, Last Lane, Heave-to, standstill and Lock-out in a lane (R500 to R523), and
the states of the lanes (R126). -/

namespace Sys2Proof.Machine

/-! ### Lane states and the mode word -/

def staOf (k : Nat) : Bf := if k = 0 then F.FIX_STAT_STA else if k = 1 then F.FIX_STAT_STB else F.FIX_STAT_STC
/-- The state of lane `k` shown by a lane (R126); FIX_CTRL.ACTIVE shows whether the lane itself is in FIX. -/
def Lane.setSta (L : Lane) (k st : Nat) : Lane :=
  let L1 := L.setF R.FIX_STAT (staOf k) st
  let L1 := if st = 9 ∧ L.laneSt k ≠ 9 then L1.raise R.FIX_EVT F.FIX_EVT_LANEOUT else L1
  if k = L.me then L1.setF R.FIX_CTRL F.FIX_CTRL_ACTIVE (b2n (decide (st = 3))) else L1
def Lane.mySt (L : Lane) : Nat := L.laneSt L.me
/-- The state of a lane changes, and every lane shows it. -/
def State.setSta (s : State) (k st : Nat) : State := s.onLanes fun _ L => L.setSta k st

/-- The lanes in FIX, as a mask. -/
def Lane.inFix (L : Lane) : Nat := (List.range 3).foldl (fun m k => if L.laneSt k = 3 then m + 2 ^ k else m) 0

/-- Word 0 of the mode word adopted; a change is reported (R533, R538). -/
def Lane.adoptMode (L : Lane) (w : Word) : Lane :=
  let old := L.rd R.PWR_MODE
  if old = w then L else ((L.wr R.PWR_MODE w).raise R.PWR_EVT F.PWR_EVT_MODECHG).logRec 2 old w 0 0

/-- The degraded state changes (R526, R533). -/
def Lane.setDmode (L : Lane) (d : Nat) : Lane :=
  let L1 := L.setF R.FIX_DGSTAT F.FIX_DGSTAT_DMODE d
  L1.adoptMode (Bf.set ⟨4, 3⟩ (L.rd R.PWR_MODE) d)

/-! ### Self-diagnosis (R500 to R503) -/

/-- Self-diagnosis starts at an apply instant (R500). -/
def Lane.sdStart (L : Lane) : Lane :=
  let L1 := (List.range 3).foldl (fun X k =>
    let c := L.laneSt k
    if c = 3 then X.setSta k 8 else if c = 4 ∨ c = 5 ∨ c = 6 then X.setSta k 9 else X) L
  ((L1.setDmode 1).raise R.FIX_DGEVT F.FIX_DGEVT_SDSTART).updDg fun d => { d with sdRes := none }

/-- The CRC of code RAM and that of engine program memory (R557). -/
def Lane.crcCode (L : Lane) : Nat := crc32c ((List.range 0x100000).map L.byte)
def Lane.crcPm (L : Lane) : Nat := crc32c ((List.range 0x10000).map fun i => L.byte (0x32000000 + i))

/-- A lane's own tests end (R501): `bad` holds the failed tests. -/
def Lane.sdEnd (L : Lane) (bad : Nat) : Lane :=
  if L.mySt = 8 ∧ L.dg.sdRes = none then
    (L.setF R.FIX_SDRES F.FIX_SDRES_FAIL bad).updDg fun d => { d with sdRes := some (decide (bad = 0)) }
  else L

/-- A lane begins to give up (R504): `failed` names the other lanes that it knows to have failed or to be out. -/
def Lane.giveUp (L : Lane) (failed : Nat) : Lane :=
  (L.updEdg fun e => { e with giveUp := true, failed := e.failed ||| failed }).updDg fun d => { d with giveUp := L.ticks + 1 }

/-- Last Lane entered (R505, R507) at a phase; the stop profile starts unless it keeps running. -/
def Lane.enterLast (L : Lane) (ph : Nat) (keep : Bool) : Lane :=
  let L1 := ((L.setF R.FIX_DGSTAT F.FIX_DGSTAT_LANES (2 ^ L.me)).setF R.FIX_DGSTAT F.FIX_DGSTAT_LLPH ph).raise R.FIX_DGEVT F.FIX_DGEVT_LLENT
  (L1.setDmode 2).updDg fun d => if keep then d else { d with profAt := L.ticks, prof := true, still := false }

/-- Heave-to entered (R503, R509). -/
def Lane.enterHeave (L : Lane) (cause lanes : Nat) : Lane :=
  let L1 := ((L.setF R.FIX_DGSTAT F.FIX_DGSTAT_LANES lanes).setF R.FIX_DGSTAT F.FIX_DGSTAT_HCAUSE cause).raise R.FIX_DGEVT F.FIX_DGEVT_HTENT
  (L1.setDmode 3).updDg fun d => { d with profAt := L.ticks, prof := true, still := false }

/-- The outcome of self-diagnosis at an apply instant (R503): `pass` is the mask of the lanes that passed. -/
def Lane.sdOutcome (L : Lane) (pass : Nat) : Lane :=
  let diag := (List.range 3).foldl (fun m k => if L.laneSt k = 8 then m + 2 ^ k else m) 0
  let fail := diag &&& (7 ^^^ pass)
  let L0 := ((L.setF R.FIX_SDRES F.FIX_SDRES_PASSLN pass).setF R.FIX_SDRES F.FIX_SDRES_FAILLN fail).raise R.FIX_DGEVT F.FIX_DGEVT_SDEND
  let out := (List.range 3).foldl (fun m k => if L.laneSt k = 9 then m + 2 ^ k else m) 0
  let L1 := (List.range 3).foldl (fun X k => if pass.testBit k then X.setSta k 3 else X) L0
  if pass.testBit L.me then
    let L2 := L1.updEdg fun e => { e with failed := fail }
    if cnt ((List.range 3).map pass.testBit) = 1 then L2.enterLast 0 false else L2.enterHeave 1 pass
  else if diag.testBit L.me then L1.giveUp (fail ||| out)
  else L1

/-- Give-up packets have gone out for 8 die ticks (R504): the device lock-out is written where the flash answers, and the lane goes
out. -/
def Lane.giveUpEnd (L : Lane) (flash : Bool) : Lane :=
  if L.edg.giveUp && decide (0 < L.dg.giveUp) && decide (L.dg.giveUp + 80000 ≤ L.ticks + 1) then
    let L1 := if flash then L.recWrite loBase 0x10C7 L.loCopy
      [w32 (L.axLo + 4096), L.rd R.LANE_ID_UID_LO, L.rd R.LANE_ID_UID_HI, L.rd R.FIX_CNUM,
       w32 (L.fld R.FIX_FLTLAST F.FIX_FLTLAST_CLASS + 256 * L.me)] else L
    (L1.updEdg fun e => { e with giveUp := false }).updDg fun d => { d with giveUp := 0 }
  else L

/-- Whether a lane's own detection makes it give up (R508, R512). -/
def Lane.mayGiveUp (L : Lane) : Bool :=
  decide (L.mySt = 3) && !L.edg.giveUp
    && (decide (L.dmode = 2) || (decide (L.dmode = 3) && decide (L.fld R.FIX_DGSTAT F.FIX_DGSTAT_HCAUSE = 1)))

/-- Another driving lane gives up (R512): the rest continue. -/
def Lane.otherGone (L : Lane) (k : Nat) : Lane :=
  if L.dmode = 3 ∧ L.mySt = 3 ∧ L.edg.giveUp = false then
    let left := L.fld R.FIX_DGSTAT F.FIX_DGSTAT_LANES &&& (7 ^^^ 2 ^ k)
    let L1 := (L.updEdg fun e => { e with failed := e.failed ||| 2 ^ k }).setF R.FIX_DGSTAT F.FIX_DGSTAT_LANES left
    if left = 2 ^ L.me then L1.enterLast 2 true else L1
  else L

/-! ### Phases and standstill (R507, R515, R517) -/

/-- Device Lock-out entered (R517). -/
def Lane.enterLock (L : Lane) : Lane := ((L.setDmode 4).lockOut 0 true).updStops

/-- What a sample does to the degraded modes (R507, R517). -/
def Lane.dgSample (L : Lane) : Lane :=
  if ¬ (L.dmode = 2 ∨ L.dmode = 3) then L
  else if L.still then L.enterLock
  else if L.dmode = 2 then
    let s := (L.rd R.POS_GSPD).toNat
    let c := L.fld R.FIX_DGCFG F.FIX_DGCFG_CRAWL
    let ph := L.fld R.FIX_DGSTAT F.FIX_DGSTAT_LLPH
    if ph = 0 then
      if s ≤ c then (L.setF R.FIX_DGSTAT F.FIX_DGSTAT_LLPH 1).updDg fun d => { d with crawlAt := L.ticks, hold := false, prof := false } else L
    else if ph = 1 then L.updDg fun d => { d with hold := if c < s then true else if 8 * s < 7 * c then false else d.hold }
    else L
  else L

/-- LLTIME has passed in the crawl phase (R507). -/
def Lane.crawlEnd (L : Lane) : Lane :=
  if L.dmode = 2 ∧ L.fld R.FIX_DGSTAT F.FIX_DGSTAT_LLPH = 1 ∧ L.dg.crawlAt + L.fld R.FIX_DGCFG F.FIX_DGCFG_LLTIME * 200000000 ≤ L.ticks then
    (L.setF R.FIX_DGSTAT F.FIX_DGSTAT_LLPH 2).updDg fun d => { d with profAt := L.ticks, prof := true, still := false }
  else L

/-- STILLT after the last point of the stop profile, without a travel source (R515, R517). -/
def Lane.stillWait (L : Lane) : Lane :=
  if L.fld R.POS_TRSTAT F.POS_TRSTAT_SRC = 7 ∧ L.dg.prof = true ∧ L.dg.still = false
      ∧ L.dg.profAt + (L.profPt (L.profN - 1)).1.toNat * 200000 + max 1 (L.fld R.FIX_DGCFG F.FIX_DGCFG_STILLT) * 200000000 ≤ L.ticks then
    let L1 := L.updDg fun d => { d with still := true }
    if L.dmode = 2 ∨ L.dmode = 3 then L1.enterLock else L1
  else L

/-- Whether an axis that has had a winding in RUN has had none for 20 ms (R509, log entry 69). -/
def Lane.noWinding (L : Lane) (a : Nat) : Bool :=
  let bs := (List.range 8).filter (L.bindsBridge a)
  (bs.all fun b => decide (L.fld (R.EDG_MSTAT b) F.EDG_MSTAT_STATE ≠ 6) && decide ((L.mc.at b).ranAt + 4000000 ≤ L.ticks + 1))
    && bs.any fun b => decide ((L.mc.at b).ranAt ≠ 0)

/-- A steering axis has lost its last winding (R509). -/
def Lane.axisLost (L : Lane) (a : Nat) : Lane :=
  if L.axActive a && decide (L.axKind a = 1) && L.noWinding a && decide (L.dmode = 0) && decide (L.mySt = 3) then
    ((L.setF R.FIX_DGSTAT F.FIX_DGSTAT_AXLOST a).raise R.FIX_DGEVT F.FIX_DGEVT_AXLOSTEV).enterHeave 2 L.inFix
  else L

/-! ### The stop profile's check (R514) -/

def Lane.profFails (L : Lane) : Bool :=
  let n := L.profN
  let ts := (List.range n).map fun k => (L.profPt k).1.toNat
  decide (n < 2 ∨ 8 < n) || !rising ts || decide (ts.headD 1 ≠ 0)
    || (List.range n).any (fun k => decide ((L.profPt k).2 < 0))
    || decide (0x20000 < L.fld R.FIX_DGPROF F.FIX_DGPROF_PBASE + 2 * n)
    || (List.range 12).any fun a => decide (L.fld R.FIX_DGBRK ⟨a, 1⟩ = 1) && !decide (L.axKind a = 3 ∨ L.axKind a = 5)

end Sys2Proof.Machine
end

