-- ==== Sys2Proof/Machine/Reck.lean ====
section
/-! DEFINITION. The reckoners of a lane (R58 to R63, R401): their values, following an estimate and holding, and what a tick does to those
that follow an angle. -/

namespace Sys2Proof.Machine

/-- The present value of reckoner `r` (R59): 0 to 11 are held, 12 to 15 read the travelled path, global time, the chronometer and the
radar path. -/
def Lane.rknVal (L : Lane) (r : Nat) : Word :=
  if r < 12 then L.rkn.at r
  else if r = 12 then w32 L.trav.pos12
  else if r = 13 then w32 L.gt
  else if r = 14 then w32 L.ticks
  else w32 L.trav.pos15

/-- RKN_STAT after a reckoner has moved by `d`: DIR keeps the direction of the last move. -/
def Lane.rknDir (L : Lane) (r : Nat) (d : Int) : Lane :=
  if d = 0 then L else L.setF R.RKN_STAT ⟨r, 1⟩ (b2n (decide (d < 0)))
def Lane.rknRun (L : Lane) (r : Nat) (b : Bool) : Lane := L.setF R.RKN_STAT ⟨16 + r, 1⟩ (b2n b)

/-- A new estimate of reckoner `r` (R60): it moves to the angle in this tick and goes on at the rate, a rate word of R241. -/
def Lane.rknFollow (L : Lane) (r : Nat) (ang : Word) (rate : Int) : Lane :=
  let L1 := (L.rknDir r (ang - L.rkn.at r).toInt).rknRun r true
  { L1 with rkn := L1.rkn.set r ang, rate := L1.rate.set r rate, frac := L1.frac.set r 0, est := L1.est.set r (0, 0) }

/-- The same for an estimate of a stamped source: `id` is its source and stamp. -/
def Lane.rknTake (L : Lane) (r : Nat) (id : Nat × Nat) (ang : Word) (rate : Int) : Lane :=
  let L1 := L.rknFollow r ang rate
  { L1 with est := L1.est.set r id }

/-- Reckoner `r` holds its value (R59). -/
def Lane.rknHold (L : Lane) (r : Nat) : Lane :=
  let L1 := L.rknRun r false
  { L1 with rate := L1.rate.set r 0, frac := L1.frac.set r 0, est := L1.est.set r (0, 0) }

/-- A source that reports no valid value (R390): its speed is 0, and the reckoner that follows it stands still. -/
def Lane.rknStill (L : Lane) (r : Nat) : Lane :=
  let L1 := L.rknRun r true
  { L1 with rate := L1.rate.set r 0, frac := L1.frac.set r 0, est := L1.est.set r (0, 0) }

/-- One tick between two estimates (R60): the speed last estimated, in 2^−8 steps per tick. -/
def Lane.rknStep (L : Lane) (r : Nat) : Lane :=
  let x : Int := (L.frac.at r : Int) + L.rate.at r
  let d := x.fdiv 256
  let L1 := L.rknDir r d
  { L1 with rkn := L1.rkn.set r (L1.rkn.at r + wInt d), frac := L1.frac.set r (x - d * 256).toNat }

/-- The source of reckoner `r` shows its last estimate, `id` naming source and stamp: a new one is taken, else the reckoner goes on
(R60). -/
def Lane.rknSource (L : Lane) (r : Nat) (id : Nat × Nat) (ang : Word) (rate : Int) : Lane :=
  if L.est.at r = id then L.rknStep r else L.rknTake r id ang rate

/-- The selection of reckoners 8 to 11 (R59, RKN_MSEL): the axis followed, where it is valid and active. -/
def Lane.rknAxis (L : Lane) (r : Nat) : Option Nat :=
  let w := L.rd R.RKN_MSEL
  let a := Bf.get ⟨8 * (r - 8), 4⟩ w
  if Bf.on ⟨8 * (r - 8) + 7, 1⟩ w && decide (a < 12) && L.axActive a then some a else none

/-- A tick of a mechanical reckoner. -/
def Lane.rknMech (L : Lane) (r : Nat) : Lane :=
  match L.rknAxis r with
  | none => L.rknHold r
  | some a =>
    let x := L.axisAngle a
    if x.2.2 then L.rknSource r (L.axisEst a) x.1 x.2.1 else L.rknStill r

/-- The travelled path moves up (R59, R401); it holds while the estimate lies behind it. -/
def Lane.rknPath (L : Lane) (r pos : Nat) (run : Bool) : Lane :=
  let old := if r = 12 then L.trav.pos12 else L.trav.pos15
  let L1 := L.rknRun r (run && decide (old ≤ pos))
  if pos ≤ old then L1
  else
    let L2 := L1.setF R.RKN_STAT ⟨r, 1⟩ 0
    if r = 12 then (L2.updTrav fun t => { t with pos12 := pos, adv := L.ticks }).gsAdvance (pos - old) else L2.updTrav fun t => { t with pos15 := pos }

/-- The tick of the travelled paths (R401): reckoner 12 at the floor of the fused estimate, reckoner 15 at that of the radar. -/
def Lane.rknTravel (L : Lane) : Lane :=
  let use := L.travOn && decide (L.travSrc ≠ 7) && decide (L.candidate ≠ 7)
  let L1 := L.rknPath 12 (if use then L.travEst L.trav.d12 L.travSrc / 65536 else 0) use
  let rad := L1.srcValid 4
  L1.rknPath 15 (if rad then L1.travEst L1.trav.d15 4 / 65536 else 0) rad

/-- RKN_CTRL.SNAP (R63). -/
def Lane.rknSnap (L : Lane) : Lane := (List.range 16).foldl (fun X r => X.wr (R.RKN_SNAP r) (L.rknVal r)) L

end Sys2Proof.Machine
end

