-- ==== Sys2Proof/Machine/Commut.lean ====
section
/-! DEFINITION. The commutation block of a bridge in a lane (R229 to R278): the start and its check, angle sources, current and offset
samples, injection, the winding states with their timed and agreed changes, catching, the polarity test, verification, loss of the rotor,
two windings; and command curves (R279 to R282). -/

namespace Sys2Proof.Machine

def Lane.mcOf (L : Lane) (b : Nat) : Mc := L.mc.at b
def Lane.mcSt (L : Lane) (b : Nat) : Nat := L.fld (R.EDG_MSTAT b) F.EDG_MSTAT_STATE
def Lane.mcEn (L : Lane) (b : Nat) : Bool := L.on (R.EDG_MCTL b) F.EDG_MCTL_EN
def Lane.mcFlag (L : Lane) (b : Nat) (f : Bf) : Lane := L.raise (R.EDG_MEVT b) f

/-- The windings of the axis that binds a bridge: the first and the second (R274). -/
def Lane.mcFirst (L : Lane) (b : Nat) : Option Nat :=
  match L.axisOfBridge b with
  | some a => let w := L.rd (R.AX_BIND a); if F.AX_BIND_FIRST_V.on w then some (F.AX_BIND_FIRST.get w) else none
  | none => none
def Lane.mcSecond (L : Lane) (b : Nat) : Option Nat :=
  match L.axisOfBridge b with
  | some a => let w := L.rd (R.AX_BIND a); if F.AX_BIND_SECOND_V.on w then some (F.AX_BIND_SECOND.get w) else none
  | none => none
/-- The first winding, where this bridge carries the second. -/
def Lane.mcLead (L : Lane) (b : Nat) : Option Nat :=
  match L.mcFirst b with
  | some f => if f = b then none else some f
  | none => none

/-! ### Periods (R232) -/

/-- The number of periods that a time in 5 ns steps stands for, with the period length of the first period that the state governs. -/
def Lane.mcPeriods (L : Lane) (b t : Nat) : Nat :=
  let p := if (L.mcOf b).plen = 0 then L.lenAt b 1 else (L.mcOf b).plen
  (8 * t + p - 1) / max 1 p
def ms (n : Nat) : Nat := n * 200000

/-- Whether the period in progress is the last of `n` periods that begin with period `from_`, or a later one; whether those periods have
ended. -/
def Lane.mcLast (L : Lane) (b from_ n : Nat) : Bool := decide (from_ + n ≤ L.edg.pnum.at b + 1)
def Lane.mcOver (L : Lane) (b from_ n : Nat) : Bool := decide (from_ + n ≤ L.edg.pnum.at b)

/-! ### Angle sources (R242 to R248, R253) -/

/-- Whether an angle differs by more than `deg` degrees, `d` being the difference. -/
def beyond (d : Int) (deg : Nat) : Bool := decide (deg * 2 ^ 32 < d.natAbs * 360)
/-- Of an angle and the angle plus ½ turn, the one nearer to another (R246). -/
def halfNear (x cur : Word) : Word := if (x + 0x80000000 - cur).toInt.natAbs < (x - cur).toInt.natAbs then x + 0x80000000 else x

def Lane.sensKind (L : Lane) (b : Nat) : Nat := L.fld (R.EDG_MSEN b) F.EDG_MSEN_SKIND
def Lane.poles (L : Lane) (b : Nat) : Nat := L.fld (R.EDG_MSEN b) F.EDG_MSEN_POLES

/-- The mechanical angle of the sensor, its rate as a rate word, and whether its source reports a valid value (R242). -/
def Lane.sensMech (L : Lane) (b : Nat) : Word × Int × Bool :=
  let i := L.fld (R.EDG_MSEN b) F.EDG_MSEN_SIDX
  let m := L.mcOf b
  match L.sensKind b with
  | 1 => (L.rd (R.POS_ANG i), L.rdI (R.POS_SPD i), L.posValid i)
  | 2 =>
    let x := L.sent.at i
    (L.rd (R.SENT_D0 i), if x.at0 = 0 ∨ x.at1 ≤ x.at0 then 0 else rneDiv ((x.ang1 - x.ang0).toInt * 256) (x.at1 - x.at0 : Nat),
      L.on (R.SENT_STAT i) F.SENT_STAT_VALID)
  | 3 =>
    (m.sensAng, if m.sensOldAt = 0 ∨ m.sensAt ≤ m.sensOldAt then 0 else rneDiv ((m.sensAng - m.sensOld).toInt * 256) (m.sensAt - m.sensOldAt : Nat),
      decide (0 < m.sensAt) && L.on (R.MEAS_SLST (L.fld (R.EDG_MSEN b) F.EDG_MSEN_SINSL)) F.MEAS_SLST_VALID
        && L.on (R.MEAS_SLST (L.fld (R.EDG_MSEN b) F.EDG_MSEN_COSSL)) F.MEAS_SLST_VALID && decide (m.ampBad < 2))
  | _ => (0, 0, false)

/-- The electrical angle and rate of the sensor. -/
def Lane.sensElec (L : Lane) (b : Nat) : Word × Int :=
  let x := L.sensMech b
  (w32 (L.poles b) * x.1 + L.rd (R.EDG_MOFS b), L.poles b * x.2.1)

/-- The source and the stamp of the sensor's last estimate (R60). -/
def Lane.sensEst (L : Lane) (b : Nat) : Nat × Nat :=
  let i := L.fld (R.EDG_MSEN b) F.EDG_MSEN_SIDX
  match L.sensKind b with
  | 1 => L.posEst i
  | 2 => L.sentEst i
  | _ => (129, (L.mcOf b).sensAt)

/-- Whether the sensor is valid (R244). -/
def Lane.sensOk (L : Lane) (b : Nat) : Bool := decide (L.sensKind b ≠ 0) && (L.sensMech b).2.2 && !(L.mcOf b).sensF

def Lane.injOn (L : Lane) (b : Nat) : Bool := L.on (R.EDG_MSTAT b) F.EDG_MSTAT_INJON

/-- The source that reckoner b follows (R247, R253): 1 sensor, 2 injection estimate, 3 back-EMF estimate, 0 none of these. -/
def Lane.mcSrc (L : Lane) (b : Nat) : Nat :=
  let s := L.sensOk b
  if s && !L.on (R.EDG_MCTL b) F.EDG_MCTL_PREFEST then 1
  else if L.mcSt b = 6 then
    (if !L.injOn b && !((L.mcOf b).bemfBad && s) then 3 else if s then 1 else 2)
  else if L.mcSt b = 4 then 2
  else 0

/-- What a tick does to reckoner b (R59, R60, R240, R253): it follows the sensor wherever that is the source. -/
def Lane.mcTick (L : Lane) (b : Nat) : Lane :=
  if (L.axisOfBridge b).isNone then L.rknHold b
  else
    let src := L.mcSrc b
    let st := L.mcSt b
    if src = 1 then L.rknSource b (L.sensEst b) (L.sensElec b).1 (L.sensElec b).2
    else if src = 0 ∧ (st = 0 ∨ st = 1 ∨ st = 5 ∨ st = 7 ∨ st = 9) then L.rknHold b
    else (L.rknRun b true).rknStep b

/-- The angle rate in use (R252, R263). -/
def Lane.mcRate (L : Lane) (b : Nat) : Int := if L.mcSrc b = 1 then (L.sensElec b).2 else L.rate.at b

/-- An OUT of class 0x05 with X[2] at 1 has written CE_OUTk (R245): a new estimate of every bridge whose angle word it is. -/
def Lane.mcEstimate (L : Lane) (k : Nat) : Lane :=
  (List.range 8).foldl (fun X b =>
    let w := X.rd (R.EDG_MEST b)
    let inj := decide (F.EDG_MEST_INJK.get w = k)
    let bemf := decide (F.EDG_MEST_BEMK.get w = k)
    let ang := X.rd (R.CE_OUT k)
    let rate := X.rdI (R.CE_OUT (k + 1))
    let src := X.mcSrc b
    let X1 := if inj && decide (X.mcSt b = 4) then
        X.updMc b fun m => { m with est := m.est.filter (fun e => decide (X.ticks ≤ e.1 + ms 2)) ++ [(X.ticks, ang)] } else X
    if (X1.axisOfBridge b).isNone then X1
    else if src = 2 && inj then X1.rknFollow b (halfNear ang (X1.rkn.at b)) rate
    else if src = 3 && bemf then X1.rknFollow b ang rate
    else X1) L

/-! ### Injection and the leg values (R249 to R253, R257, R264) -/

/-- The angles of the three legs, ⅓ turn apart. -/
def legAngle (k : Nat) : Word := if k = 0 then 0 else if k = 1 then 0x55555555 else 0xAAAAAAAB

/-- (2 ÷ 3) × v ÷ 256 × cos(θ − φ) of each leg, as leg values (R249, R257); v may be negative. -/
def vecLegs (v : Int) (th : Word) : List Int :=
  (List.range 3).map fun k => rneDiv (2 * v * (Config.cosOf (th - legAngle k)).toInt) 768

/-- Whether a block would inject in period `p` were it alone (R249, R253): in ALIGN, in RUN with INJON, and once RETRYWAIT has ended. -/
def Lane.mcWants (L : Lane) (b p : Nat) : Bool :=
  let m := L.mcOf b
  (decide (m.govern ≤ p) && (decide (L.mcSt b = 4) || (decide (L.mcSt b = 6) && L.injOn b)))
    || (decide (L.mcSt b = 7) && decide (m.govern + L.mcPeriods b (ms 50) ≤ p))

/-- Whether a block injects in period `p` (R249, R275): of two windings the first while it is in RUN, otherwise the second; the first in its ALIGN
injects while the second does not (log entry 62). -/
def Lane.mcInjAt (L : Lane) (b p : Nat) : Bool :=
  L.mcWants b p && (match L.mcFirst b, L.mcSecond b with
    | some f, some b2 => f = b2 || (if f = b then decide (L.mcSt b = 6) || !L.mcWants b2 p else decide (L.mcSt f ≠ 6))
    | _, _ => true)

def halfLegs (add : List Int) : List Int := (List.range 3).map fun k => 0x40000000 + add.getD k 0

/-- The bridge outputs of period `p` (R232, R233, R253, R254, R257, R264). -/
def Lane.mcOutFor (L : Lane) (b p : Nat) : McOut :=
  let m := L.mcOf b
  let none_ : McOut := ⟨false, false, []⟩
  if !L.mcEn b || m.closing || (L.axisOfBridge b).isNone then none_
  else match L.mcSt b with
    | 6 => ⟨true, true, m.inj⟩
    | 4 => ⟨false, true, halfLegs m.inj⟩
    | 3 => if m.govern + L.mcPeriods b (ms (L.fld (R.EDG_MCAT b) F.EDG_MCAT_BRKT)) ≤ p then none_ else ⟨false, !m.chop, [0, 0, 0]⟩
    | 7 => if m.govern + L.mcPeriods b (ms 50) ≤ p then ⟨false, true, halfLegs m.inj⟩ else none_
    | 5 =>
      let c := L.rd (R.EDG_MPOL b)
      let n := F.EDG_MPOL_PULSEN.get c
      let d := F.EDG_MPOL_DECAY.get c
      let k := p - m.govern
      let v : Int := F.EDG_MPOL_PULSEV.get c
      if k < n then ⟨false, true, halfLegs (vecLegs v m.thetaA)⟩
      else if n + d ≤ k ∧ k < 2 * n + d then ⟨false, true, halfLegs (vecLegs v (m.thetaA + 0x80000000))⟩
      else none_
    | _ => none_

/-- The outputs for the coming period handed to the edge scheduler. -/
def Lane.mcOut (L : Lane) (b : Nat) : Lane :=
  L.updEdg fun e => { e with ovr := e.ovr.set b (L.mcOutFor b (L.edg.pnum.at b + 1)) }

/-! ### State changes (R230 to R234, R254, R258, R261, R265, R275) -/

/-- A change posted by this lane, once in a state (R115, R232). -/
def Lane.mcPost (L : Lane) (b : Nat) (c : McChange) : Lane :=
  if (L.mcOf b).posted.contains c then L else (L.updMc b fun m => { m with posted := m.posted ++ [c] }).postTrip (.mc b c)
def Lane.mcGo (L : Lane) (b dst : Nat) : Lane := L.mcPost b (.state (L.mcSt b) dst false)
/-- Whether a change of state has been posted and may still be agreed. -/
def Lane.mcPosted (L : Lane) (b : Nat) : Bool := (L.mcOf b).posted.any fun c => match c with | .state .. => true | .injon _ => false

/-- At rest (R263): RUN with a valid sensor, else ALIGN, else OUT. -/
def Lane.mcRest (L : Lane) (b : Nat) : Lane :=
  if L.sensOk b then L.mcGo b 6
  else if L.on (R.EDG_MCTL b) F.EDG_MCTL_STARTEN then L.mcGo b 4
  else (L.mcFlag b F.EDG_MEVT_STARTF).mcGo b 9

/-- OFSCHK has ended (R238): its 16 periods have, or the last of them has given its sample; the mean is that of the samples taken, one at least
(log entry 62). -/
def Lane.mcOfsDone (L : Lane) (b : Nat) : Bool :=
  let m := L.mcOf b
  decide (L.mcSt b = 1) && decide (0 < m.nOfs)
    && (L.mcOver b m.govern 16 || (L.mcLast b m.govern 16 && decide (m.sampAt = L.edg.pnum.at b + 1)))

/-- The end of OFSCHK (R238, R253, R275). -/
def Lane.mcOfsEnd (L : Lane) (b : Nat) : Lane :=
  let m := L.mcOf b
  if !L.mcOfsDone b || L.mcPosted b then L
  else
    let u := rneDiv m.sumU m.nOfs
    let v := rneDiv m.sumV m.nOfs
    let up : Int → Nat := fun x => ((wInt x).toNat / 65536)
    let L1 := L.wr (R.EDG_MIOFS b) (F.EDG_MIOFS_OFSV.set (F.EDG_MIOFS_OFSU.set 0 (up u)) (up v))
    let lim := L.fld (R.EDG_MLIM b) F.EDG_MLIM_OFSMAX * 2 ^ 31
    if lim < u.natAbs * 1024 ∨ lim < v.natAbs * 1024 then (L1.mcFlag b F.EDG_MEVT_OFSF).mcGo b 9
    else
      let waits := match L1.mcLead b with | some f => decide (L1.mcSt f ≠ 9) | none => false
      if waits then L1 else if L1.on (R.EDG_MCTL b) F.EDG_MCTL_CATCHEN then L1.mcGo b 2 else L1.mcRest b

/-- The first winding is in OUT (R275): the second, where it waits for the first in OFSCHK, carries out its own CATCH and start. -/
def Lane.mcOther (L : Lane) (b : Nat) : Lane :=
  match L.mcFirst b, L.mcSecond b with
  | some f, some b2 => if f = b ∧ b2 ≠ b then L.mcOfsEnd b2 else L
  | _, _ => L

/-- A state entered; it governs from period `from_`. -/
def Lane.mcSet (L : Lane) (b st from_ : Nat) : Lane :=
  let old := L.mcSt b
  let L1 := (L.setF (R.EDG_MSTAT b) F.EDG_MSTAT_STATE st).setF (R.EDG_MCTL b) F.EDG_MCTL_ACTIVE (b2n (decide (st ≠ 0)))
  let L1 := ((L1.setF (R.EDG_MSTAT b) F.EDG_MSTAT_INJON 0).setF (R.EDG_MSTAT b) F.EDG_MSTAT_VLIM 0).setF (R.EDG_MSTAT b) F.EDG_MSTAT_VERIFY 0
  let L1 := L1.updMc b fun m => { m with
    govern := from_, mStart := from_, plen := 0, posted := [], got := [], est := [], iPos := none, iNeg := none, nCatch := 0, angSum := 0
    xBad := 0, wBad := 0, lost := 0, bemfBad := false, offPer := 0, chop := false, inj := [], verEnd := 0
    catchAt := if st = 2 ∧ old ≠ 3 then L.ticks else m.catchAt, ranAt := if old = 6 ∧ st ≠ 6 then L.ticks + 1 else m.ranAt }
  let L1 := L1.updEdg fun e => { e with stopMc := e.stopMc.set b false }
  let L1 := match st with
    | 2 => L1.bump (R.EDG_MCNT b) F.EDG_MCNT_CATCHES 1
    | 3 => L1.rknFollow b (L1.rkn.at b) (L1.rdI (R.EDG_MCRES b))
    | 7 => (L1.setF (R.EDG_MSTAT b) F.EDG_MSTAT_RETRY (L1.fld (R.EDG_MSTAT b) F.EDG_MSTAT_RETRY + 1)).bump (R.EDG_MCNT b) F.EDG_MCNT_RETRIES 1
    | 9 => L1.mcFlag b F.EDG_MEVT_OUTSVC
    | _ => L1
  let L2 := L1.mcOut b
  if st = 9 then L2.mcOther b else L2

/-- The reckoner at the entry into RUN (R258, R265, R272): from ALIGN and POLTEST the agreed polarity, from RELOCK the measured angle and rate, else
the sensor's or the measured ones. The verification window has its length once its first period has begun (R232). -/
def Lane.mcRunAngle (L : Lane) (b old : Nat) (flip : Bool) : Lane :=
  let m := L.mcOf b
  if old = 4 ∨ old = 5 then
    let th := if flip then m.thetaA + 0x80000000 else m.thetaA
    let L1 := (L.rknFollow b th 0).setF (R.EDG_MSTAT b) F.EDG_MSTAT_FLIP (b2n flip)
    (L1.setF (R.EDG_MSTAT b) F.EDG_MSTAT_VERIFY 1).updMc b fun m => { m with jerk := false, verAng := th, verMove := 0, verSum := 0 }
  else if old = 8 then
    let rate := L.rdI (R.EDG_MCRES b)
    let th := if L.mcSrc b = 1 then m.ang1 + wInt (rneShift (rate * (L.ticks - m.ang1At : Nat)) 8) else L.rkn.at b
    ((L.rknFollow b th rate).mcFlag b F.EDG_MEVT_RELOCK).bump (R.EDG_MCNT b) F.EDG_MCNT_RELOCKS 1
  else if L.sensOk b then L.rknFollow b (L.sensElec b).1 (L.sensElec b).2
  else L.rknFollow b (L.rkn.at b) (L.rdI (R.EDG_MCRES b))

/-- An agreed change takes effect on a sample; it governs from the period that follows. RUN is left for RETRYWAIT after a backward jerk alone, and the
value of the reckoner then is that at the end of the failed attempt (R261). -/
def Lane.mcEnter (L : Lane) (b dst : Nat) (flip : Bool) : Lane :=
  let old := L.mcSt b
  let L0 := if dst = 7 then L.updMc b fun m => { m with jerk := decide (old = 6), failAng := if old = 6 then L.rkn.at b else m.failAng } else L
  let L1 := L0.mcSet b dst (L.edg.pnum.at b + 1)
  if dst ≠ 6 then L1
  else
    let L2 := L1.mcRunAngle b old flip
    -- the second winding of a start comes into RUN with the first (R275)
    match L2.mcFirst b, L2.mcSecond b with
    | some f, some b2 =>
      if f = b ∧ b2 ≠ b ∧ L2.mcSt b2 = 1 then
        (L2.mcSet b2 6 (L2.edg.pnum.at b2 + 1)).rknFollow b2 (L2.rkn.at b + L2.rd (R.EDG_MWOFS b2)) (L2.rate.at b)
      else L2
    | _, _ => L2

/-- The order of targets of R234. -/
def mcOrder : List Nat := [9, 7, 2, 8, 6, 3, 4, 5, 1, 0]

/-- Whether INJON stays 0 (R252): with DIVERSE at 0, while the sensor is the source in use. -/
def Lane.mcQuiet (L : Lane) (b : Nat) : Bool := !L.on (R.EDG_MCTL b) F.EDG_MCTL_DIVERSE && decide (L.mcSrc b = 1)

/-- The agreed changes due on the first sample after checkpoint `ck` (R232, R234). -/
def Lane.mcDue (L : Lane) (b ck : Nat) : Lane :=
  let due := ((L.mcOf b).due.filter fun e => decide (e.1 ≤ ck)).map (·.2)
  let L1 := L.updMc b fun m => { m with due := m.due.filter fun e => decide (ck < e.1) }
  let pick := mcOrder.findSome? fun t => due.findSome? fun c => match c with
    | .state s d f => if s = L.mcSt b ∧ d = t then some (d, f) else none
    | .injon _ => none
  match pick with
  | some (d, f) => L1.mcEnter b d f
  | none => due.foldl (fun X c => match c with
      | .injon on =>
        if X.mcSt b = 6 then (X.setF (R.EDG_MSTAT b) F.EDG_MSTAT_INJON (b2n (on && !X.mcQuiet b))).updMc b fun m => { m with posted := m.posted.filter fun q => !decide (q = c) }
        else X
      | .state .. => X) L1

/-- A failed attempt of a start (R261): a retry, or OUT with STARTF where none remains. -/
def Lane.mcRetry (L : Lane) (b : Nat) : Lane :=
  if L.fld (R.EDG_MSTAT b) F.EDG_MSTAT_RETRY < L.fld (R.EDG_MSTR b) F.EDG_MSTR_RETRYMAX then L.mcGo b 7
  else (L.mcFlag b F.EDG_MEVT_STARTF).mcGo b 9

/-! ### Start (R230, R231) -/

/-- Whether the start check fails. -/
def Lane.mcBad (L : Lane) (b : Nat) : Bool :=
  let i := L.fld (R.EDG_MEST b) F.EDG_MEST_INJK
  let k := L.fld (R.EDG_MEST b) F.EDG_MEST_BEMK
  decide (30 < i) || decide (29 < k) || decide (i ≤ k + 2 ∧ k ≤ i + 1)
    || (decide (L.sensKind b = 3) && decide (L.fld (R.EDG_MSEN b) F.EDG_MSEN_SINSL = L.fld (R.EDG_MSEN b) F.EDG_MSEN_COSSL))
    || decide (L.poles b = 0) || decide (L.rd (R.EDG_MRATED b) = 0)
    || decide (L.fld (R.EDG_MINJSW b) F.EDG_MINJSW_HI ≤ L.fld (R.EDG_MINJSW b) F.EDG_MINJSW_LO)

/-- The block starts on a sample. -/
def Lane.mcStart (L : Lane) (b : Nat) : Lane :=
  if L.mcBad b then (L.updMc b fun m => { m with armed := 0 }).mcFlag b F.EDG_MEVT_CFGERR
  else
    let L1 := (L.updMc b fun m => { (default : Mc) with nSamp := m.nSamp, smpFor := m.smpFor, ranAt := m.ranAt }).setF (R.EDG_MSTAT b) F.EDG_MSTAT_RETRY 0
    ((L1.setF (R.EDG_MSTAT b) F.EDG_MSTAT_FLIP 0).bump (R.EDG_MCNT b) F.EDG_MCNT_STARTS 1).mcSet b 1 (L.edg.pnum.at b + 1)

/-- EDG_MCTLb has been written: EN set while the axis is active starts the block on the first sample after the next checkpoint; EN cleared ends
the block at the next period boundary, whatever software writes until then (R49, R254). -/
def Lane.mcWritten (L : Lane) (b : Nat) (was : Bool) : Lane :=
  let L1 :=
    if L.mcEn b then
      (if was ∨ L.mcSt b ≠ 0 ∨ (L.axisOfBridge b).isNone = true then L else L.updMc b fun m => { m with armed := 1 })
    else L.updMc b fun m => { m with armed := 0, closing := m.closing || decide (L.mcSt b ≠ 0) }
  L1.mcOut b

/-! ### Periods -/

/-- The lane time-stamps a period start of bridge b (R36): the leg values of the period, the voltage limit (R267), a period without its
injection (R251), and OFF after EN was cleared or the axis stopped (R254), with a start to come where EN is 1 again (R49). -/
def Lane.mcMark (L : Lane) (b : Nat) : Lane :=
  let m := L.mcOf b
  let legs := L.legValues b
  let p := L.edg.pnum.at b
  let L0 := if L.mcInjAt b p && decide (m.nSamp ≠ 1) then L.mcFlag b F.EDG_MEVT_INJSKIP else L
  let L1 := L0.updMc b fun m => { m with
    legs := legs, nSamp := 0, inj := [], got := [], plen := if m.plen = 0 ∧ m.govern ≤ p then L.edg.lenNow.at b else m.plen }
  let L1 := if L1.on (R.EDG_MSTAT b) F.EDG_MSTAT_VERIFY ∧ (L1.mcOf b).verEnd = 0 ∧ m.govern ≤ p then
      L1.updMc b fun m => { m with verEnd := m.govern + L1.mcPeriods b (ms (L1.fld (R.EDG_MSTR b) F.EDG_MSTR_VERIFY)) } else L1
  if L1.mcSt b = 0 then L1.mcOut b
  else if !L1.mcEn b || m.closing || (L1.axisOfBridge b).isNone then
    let L2 := (L1.mcSet b 0 p).updMc b fun m => { m with closing := false }
    if L2.mcEn b && (L2.axisOfBridge b).isSome then L2.updMc b fun m => { m with armed := 1 } else L2
  else if L1.mcSt b = 6 then
    let v := legs.map (max 0)
    let span := v.foldl max 0 - v.foldl min (v.headD 0)
    let lim := decide ((L1.fld (R.EDG_MLIM b) F.EDG_MLIM_VLIMFR : Int) * 2 ^ 31 ≤ span * 1024)
    let L2 := if lim && !L1.on (R.EDG_MSTAT b) F.EDG_MSTAT_VLIM then L1.mcFlag b F.EDG_MEVT_VLIMEV else L1
    (L2.setF (R.EDG_MSTAT b) F.EDG_MSTAT_VLIM (b2n lim)).mcOut b
  else L1.mcOut b

/-- A timed change (R232): the end of BRAKE and of RETRYWAIT. -/
def Lane.mcTimed (L : Lane) (b : Nat) : Lane :=
  let m := L.mcOf b
  if L.mcSt b = 3 ∧ L.mcOver b m.govern (L.mcPeriods b (ms (L.fld (R.EDG_MCAT b) F.EDG_MCAT_BRKT))) = true then
    (L.mcSet b 2 (L.edg.pnum.at b)).updMc b fun m => { m with plen := L.edg.lenNow.at b }
  else if L.mcSt b = 7 ∧ L.mcOver b m.govern (L.mcPeriods b (ms 50)) = true then
    (L.mcSet b 4 (L.edg.pnum.at b)).updMc b fun m => { m with plen := L.edg.lenNow.at b }
  else L

/-- 20 ms in RELOCK (R273). -/
def Lane.mcRelockOut (L : Lane) (b : Nat) : Lane :=
  if L.mcSt b = 8 ∧ L.mcOver b (L.mcOf b).govern (L.mcPeriods b (ms 20)) = true then L.mcSet b 9 (L.edg.pnum.at b) else L

/-- The verification window closes without a jerk (R261). -/
def Lane.mcVerEnd (L : Lane) (b : Nat) : Lane :=
  if L.on (R.EDG_MSTAT b) F.EDG_MSTAT_VERIFY ∧ 0 < (L.mcOf b).verEnd ∧ (L.mcOf b).verEnd ≤ L.edg.pnum.at b ∧ L.mcPosted b = false then
    (L.setF (R.EDG_MSTAT b) F.EDG_MSTAT_VERIFY 0).setF (R.EDG_MSTAT b) F.EDG_MSTAT_RETRY 0
  else L

/-! ### What samples read (R237, R238, R243, R248, R252, R257, R259, R262, R264, R269 to R271, R276)

Where a rule reads the results of slots in each sample (R243, R262, R264), the block does so when the conversions of the period have been delivered;
the other rules act in the samples of the axis (log entry 62). -/

/-- The last results of the current slots, less the offsets. -/
def Lane.mcCur (L : Lane) (b : Nat) : Int × Int :=
  let m := L.mcOf b
  let of : Int → Int := fun s => if m.nOfs = 0 then 0 else rneDiv s m.nOfs
  (L.rdI (R.MEAS_RES (L.fld (R.EDG_MISEL b) F.EDG_MISEL_IU)) - of m.sumU, L.rdI (R.MEAS_RES (L.fld (R.EDG_MISEL b) F.EDG_MISEL_IV)) - of m.sumV)

/-- The slots that the block reads. -/
def Lane.mcSlots (L : Lane) (b : Nat) : List Nat :=
  let c := L.rd (R.EDG_MISEL b)
  let v := L.rd (R.EDG_MVSEL b)
  let s := L.rd (R.EDG_MSEN b)
  [F.EDG_MISEL_IU.get c, F.EDG_MISEL_IV.get c, F.EDG_MISEL_VBUS.get c]
    ++ (if F.EDG_MVSEL_VVALID.on v then [F.EDG_MVSEL_VU.get v, F.EDG_MVSEL_VV.get v, F.EDG_MVSEL_VW.get v] else [])
    ++ (if F.EDG_MSEN_SKIND.get s = 3 then [F.EDG_MSEN_SINSL.get s, F.EDG_MSEN_COSSL.get s] else [])

/-- The sin and cos of SKIND 3 read in a sample (R242, R243). -/
def Lane.mcSinCos (L : Lane) (b : Nat) : Lane :=
  if L.sensKind b ≠ 3 then L
  else
    let ss := L.fld (R.EDG_MSEN b) F.EDG_MSEN_SINSL
    let cs := L.fld (R.EDG_MSEN b) F.EDG_MSEN_COSSL
    let s := L.rdI (R.MEAS_RES ss)
    let c := L.rdI (R.MEAS_RES cs)
    let a2 := (s * s + c * c) * 1024 ^ 2
    let lim : Bf → Int := fun f => ((L.fld (R.EDG_MAMP b) f : Int) * 2 ^ 31) ^ 2
    let bad := decide (a2 < lim F.EDG_MAMP_AMPLO) || decide (lim F.EDG_MAMP_AMPHI < a2)
    let ok := L.on (R.MEAS_SLST ss) F.MEAS_SLST_VALID && L.on (R.MEAS_SLST cs) F.MEAS_SLST_VALID
    let L1 := L.updMc b fun m => { m with ampBad := if bad then min 2 (m.ampBad + 1) else 0 }
    if ok && decide ((L1.mcOf b).ampBad < 2) then
      let L2 := L1.updMc b fun m => { m with
        sensOld := m.sensAng, sensOldAt := m.sensAt, sensAng := Config.angleOf (L.rd (R.MEAS_RES ss)) (L.rd (R.MEAS_RES cs)), sensAt := L.ticks + 1 }
      if L2.mcSrc b = 1 then L2.rknTake b (L2.sensEst b) (L2.sensElec b).1 (L2.sensElec b).2 else L2
    else L1

/-- A catch or re-lock sample (R262, R272). -/
def Lane.mcLine (L : Lane) (b : Nat) : Lane :=
  let c := L.rd (R.EDG_MVSEL b)
  if !F.EDG_MVSEL_VVALID.on c then L
  else
    let u := L.rdI (R.MEAS_RES (F.EDG_MVSEL_VU.get c))
    let v := L.rdI (R.MEAS_RES (F.EDG_MVSEL_VV.get c))
    let w := L.rdI (R.MEAS_RES (F.EDG_MVSEL_VW.get c))
    let ang := Config.lineAngle (2 * u - v - w) (v - w) - 0x40000000
    let m := L.mcOf b
    let d := (ang - m.ang1).toInt
    let L1 := L.updMc b fun m => { m with
      ang0At := if m.nCatch = 0 then L.ticks else m.ang0At, ang1 := ang, ang1At := L.ticks, nCatch := m.nCatch + 1
      angSum := if m.nCatch = 0 then 0 else m.angSum + d, amp2 := 4 * (u * u + v * v + w * w - u * v - v * w - u * w)
      bus := L.rdI (R.MEAS_RES (L.fld (R.EDG_MISEL b) F.EDG_MISEL_VBUS)) }
    if L1.mcSrc b = 1 then L1
    else L1.rknFollow b ang (if m.nCatch = 0 ∨ L.ticks ≤ m.ang1At then 0 else rneDiv (d * 256) (L.ticks - m.ang1At : Nat))

/-- Three times the square of a current vector's magnitude, and three times its d-axis part in 2^−31. -/
def curSq (u v : Int) : Int := 4 * (u * u + u * v + v * v)
def dAxis (th : Word) (u v : Int) : Int :=
  let c : Nat → Int := fun k => (Config.cosOf (th - legAngle k)).toInt
  2 * (u * c 0 + v * c 1 + (-(u + v)) * c 2)
/-- The q-axis part of leg voltages, scaled. -/
def qAxis (th : Word) (legs : List Int) : Int :=
  (List.range 3).foldl (fun t k => t - legs.getD k 0 * (Config.sinOf (th - legAngle k)).toInt) 0

/-- A pulse current of POLTEST (R257). -/
def Lane.mcPulse (L : Lane) (b : Nat) : Lane :=
  let m := L.mcOf b
  let k := L.edg.pnum.at b - m.govern
  let n := L.fld (R.EDG_MPOL b) F.EDG_MPOL_PULSEN
  let d := L.fld (R.EDG_MPOL b) F.EDG_MPOL_DECAY
  let i := dAxis m.thetaA (L.mcCur b).1 (L.mcCur b).2
  let up : Option Int → Int → Option Int := fun o x => some (match o with | some y => max x y | none => x)
  if k < n then L.updMc b fun m => { m with iPos := up m.iPos i }
  else if n + d ≤ k ∧ k < 2 * n + d then L.updMc b fun m => { m with iNeg := up m.iNeg (i.natAbs : Int) }
  else L

/-- The sensorless estimate of R247 step 2 or 4, compared with the sensor (R248). -/
def Lane.mcCross (L : Lane) (b : Nat) : Lane :=
  let n := L.fld (R.EDG_MXCHK b) F.EDG_MXCHK_XCNT
  if n = 0 ∨ L.sensOk b = false then L.updMc b fun m => { m with xBad := 0 }
  else
    let s := (L.sensElec b).1
    let e := if L.injOn b then halfNear (L.rd (R.CE_OUT (L.fld (R.EDG_MEST b) F.EDG_MEST_INJK))) s
      else L.rd (R.CE_OUT (L.fld (R.EDG_MEST b) F.EDG_MEST_BEMK))
    let bad := beyond (s - e).toInt (L.fld (R.EDG_MXCHK b) F.EDG_MXCHK_XWIN)
    let k := if bad then (L.mcOf b).xBad + 1 else 0
    let used := decide (L.mcSrc b = 1)
    let L1 := L.updMc b fun m => { m with xBad := k }
    if k < n then L1
    else
      let L2 := (L1.updMc b fun m => { m with sensF := true, xBad := 0 }).mcFlag b F.EDG_MEVT_SENSF
      if used && !L.on (R.EDG_MCTL b) F.EDG_MCTL_AUTOSW then L2.mcGo b 9 else L2

/-- The winding cross-check of R276, for the first winding. -/
def Lane.mcWindings (L : Lane) (b : Nat) : Lane :=
  match L.mcFirst b, L.mcSecond b with
  | some f, some b2 =>
    let n := L.fld (R.EDG_MXCHK f) F.EDG_MXCHK_XCNT
    if f ≠ b ∨ n = 0 then L
    else if L.mcSt b2 ≠ 6 then L.updMc b fun m => { m with wBad := 0 }
    else
      let d := (L.rkn.at b2 - L.rkn.at b - L.rd (R.EDG_MWOFS b2)).toInt
      let k := if beyond d (L.fld (R.EDG_MXCHK f) F.EDG_MXCHK_XWIN) then (L.mcOf b).wBad + 1 else 0
      let L1 := L.updMc b fun m => { m with wBad := min k n }
      if n ≤ k then (L1.mcFlag b F.EDG_MEVT_WINDF).mcFlag b2 F.EDG_MEVT_WINDF else L1
  | _, _ => L

/-- INJON by the angle rate in use (R252). -/
def Lane.mcInjSwitch (L : Lane) (b : Nat) : Lane :=
  let r := (L.mcRate b).natAbs * 1024
  let rated := (L.rd (R.EDG_MRATED b)).toNat
  if L.mcQuiet b then L.setF (R.EDG_MSTAT b) F.EDG_MSTAT_INJON 0
  else if !L.injOn b && decide (r < L.fld (R.EDG_MINJSW b) F.EDG_MINJSW_LO * rated) then L.mcPost b (.injon true)
  else if L.injOn b && decide (L.fld (R.EDG_MINJSW b) F.EDG_MINJSW_HI * rated < r) then L.mcPost b (.injon false)
  else L

/-- The block's own stop bit (R236). -/
def Lane.mcStop (L : Lane) (b : Nat) : Lane := L.updEdg fun e => { e with stopMc := e.stopMc.set b true }

/-- Loss of the rotor (R269 to R271). -/
def Lane.mcLoss (L : Lane) (b : Nat) : Lane :=
  if L.mcSrc b ≠ 3 then L.updMc b fun m => { m with lost := 0 }
  else
    let inn := L.rdI (R.CE_OUT (L.fld (R.EDG_MEST b) F.EDG_MEST_BEMK + 2))
    let k := if (L.fld (R.EDG_MLOSS b) F.EDG_MLOSS_LOSSTH : Int) * 65536 < inn then (L.mcOf b).lost + 1 else 0
    let L1 := L.updMc b fun m => { m with lost := min 3 k }
    if k < 3 then L1
    else
      let L2 := L1.mcFlag b F.EDG_MEVT_LOSS
      if L2.sensOk b && L2.on (R.EDG_MCTL b) F.EDG_MCTL_AUTOSW then L2.updMc b fun m => { m with bemfBad := true }
      else if L2.on (R.EDG_MVSEL b) F.EDG_MVSEL_VVALID then (L2.mcStop b).mcGo b 8
      else (L2.mcStop b).mcGo b 9

/-- The verification window (R259): the motion of the reckoner since RUN was entered is the sum of its motions from sample to sample. -/
def Lane.mcJerk (L : Lane) (b : Nat) : Lane :=
  if !L.on (R.EDG_MSTAT b) F.EDG_MSTAT_VERIFY then L
  else
    let sum := (L.mcOf b).verSum + qAxis (L.rkn.at b) (L.mcOf b).legs
    let d := (L.mcOf b).verMove + (L.rkn.at b - (L.mcOf b).verAng).toInt
    let L1 := L.updMc b fun m => { m with verSum := sum, verAng := L.rkn.at b, verMove := d }
    if ((0 < sum ∧ d < 0) ∨ (sum < 0 ∧ 0 < d)) ∧ beyond d (L.fld (R.EDG_MSTR b) F.EDG_MSTR_BACKDET) = true then
      ((L1.mcFlag b F.EDG_MEVT_BACKJ).mcStop b).mcRetry b
    else L1

/-- A sample of the block in a period. -/
def Lane.mcSample (L : Lane) (b : Nat) : Lane :=
  let st := L.mcSt b
  if st = 0 then L
  else
    let L1 := (L.mcSinCos b).updMc b fun m => { m with sampAt := L.edg.pnum.at b + 1 }
    let gov := decide ((L.mcOf b).govern ≤ L.edg.pnum.at b)
    if !gov then L1
    else match st with
      | 1 =>
        if L.mcOver b (L.mcOf b).govern 16 = false then
          L1.updMc b fun m => { m with
            nOfs := m.nOfs + 1, sumU := m.sumU + L.rdI (R.MEAS_RES (L.fld (R.EDG_MISEL b) F.EDG_MISEL_IU))
            sumV := m.sumV + L.rdI (R.MEAS_RES (L.fld (R.EDG_MISEL b) F.EDG_MISEL_IV)) }
        else L1
      | 2 | 8 => L1.mcLine b
      | 3 =>
        let z : Int := (L.fld (R.EDG_MCAT2 b) F.EDG_MCAT2_ZVILIM : Int) * 65536
        (L1.updMc b fun m => { m with chop := decide (3 * (z * z) < curSq (L.mcCur b).1 (L.mcCur b).2) }).mcOut b
      | 5 => L1.mcPulse b
      | _ => L1

/-- A slot that the block reads has been delivered by the sequence bound to the bridge (R355): the sample is complete once all those of
its slots have come that the sequence contains. -/
def Lane.mcGot (L : Lane) (b q s : Nat) : Lane :=
  let has := (L.seqSteps q).map L.stepSlot
  let need := (L.mcSlots b).filter fun x => has.contains x
  if !need.contains s || (L.mcOf b).got.contains s then L
  else
    let L1 := L.updMc b fun m => { m with got := m.got ++ [s] }
    if need.all fun x => (L1.mcOf b).got.contains x then L1.mcSample b else L1

/-- Whether the sampling instant of the period in progress has come, SMPPOS ÷ 256 of its length after the lane's copy of its start (R237), and has not
been taken. -/
def Lane.mcSmpDue (L : Lane) (b : Nat) : Bool :=
  L.edg.seen.at b && decide ((L.mcOf b).smpFor ≠ L.edg.pnum.at b + 1)
    && decide (L.fld (R.EDG_MISEL b) F.EDG_MISEL_SMPPOS * L.lenAt b 0 ≤ 2048 * (L.ticks - L.edg.pstart.at b))

/-- The sampling instant of a period (R237, R355): every sequence bound to the bridge starts; a block none of whose slots such a
sequence contains takes its sample at once. -/
def Lane.mcInstant (L : Lane) (b : Nat) : Lane :=
  if L.mcSt b = 0 ∨ L.mcSmpDue b = false then L
  else
    let qs := (List.range 16).filter fun q => L.on (R.MEAS_SQCFG q) F.MEAS_SQCFG_BRGEN && decide (L.fld (R.MEAS_SQCFG q) F.MEAS_SQCFG_BRG = b)
    let L1 := qs.foldl (fun X q => X.seqStart q) (L.updMc b fun m => { m with got := [], smpFor := L.edg.pnum.at b + 1 })
    let fed := qs.any fun q => L1.on (R.MEAS_SQSTAT q) F.MEAS_SQSTAT_ACTIVE && ((L1.seqSteps q).map L1.stepSlot).any fun s => (L1.mcSlots b).contains s
    if fed then L1 else L1.mcSample b

/-! ### The axis's samples (R230, R232, R248, R249, R251, R252, R259, R269, R276) -/

/-- What a block in RUN checks in each sample of the axis: the sensor, the other winding, the rate, the rotor, the verification window. -/
def Lane.mcChecks (L : Lane) (b : Nat) : Lane :=
  if L.mcSt b = 6 ∧ (L.mcOf b).govern ≤ L.edg.pnum.at b then ((((L.mcCross b).mcWindings b).mcInjSwitch b).mcLoss b).mcJerk b else L

/-- Sample `n` of the axis starts: `act` is its first since activation, `first` names the checkpoint after which it is the first. -/
def Lane.mcAxis (L : Lane) (b n : Nat) (act : Bool) (first : Option Nat) : Lane :=
  let arm := (L.mcOf b).armed
  let L1 := match first with | some ck => L.mcDue b ck | none => L
  let L2 := if L1.mcSt b = 0 ∧ L1.mcEn b = true ∧ (act = true ∨ (first.isSome = true ∧ arm = 2)) then L1.mcStart b else L1
  let L3 := L2.mcChecks b
  let k := (L3.mcOf b).nSamp + 1
  let s : Int := if n % 4 < 2 then 1 else -1
  let inj := if k = 1 ∧ L3.mcInjAt b (L3.edg.pnum.at b + 1) = true then vecLegs (s * L3.fld (R.EDG_MINJ b) F.EDG_MINJ_INJAMP) (L3.rkn.at b) else []
  (L3.updMc b fun m => { m with nSamp := k, inj := inj }).mcOut b

/-! ### The ends of the timed parts (R238, R256, R257, R263, R272) -/

/-- The spread of injection estimates modulo ½ turn. -/
def spread (es : List (Nat × Word)) : Nat :=
  let r := (es.headD (0, 0)).2
  let ds := es.map fun e => sext 31 ((e.2 - r).toNat)
  (ds.foldl max 0 - ds.foldl min 0).natAbs

/-- The end of ALIGN (R256, R261). -/
def Lane.mcAlignEnd (L : Lane) (b : Nat) : Lane :=
  let m := L.mcOf b
  if L.mcSt b ≠ 4 ∨ L.mcLast b m.govern (L.mcPeriods b (ms (L.fld (R.EDG_MINJ b) F.EDG_MINJ_TALIGN))) = false ∨ L.mcPosted b = true then L
  else
    let es := m.est.filter fun e => decide (L.ticks ≤ e.1 + ms 2)
    match es.getLast? with
    | some e =>
      if spread es * 360 ≤ L.fld (R.EDG_MINJ b) F.EDG_MINJ_LOCKTOL * 2 ^ 32 then
        let L1 := L.updMc b fun m => { m with thetaA := e.2 }
        if m.jerk then
          let want := m.failAng + 0x80000000
          let flip := decide ((e.2 + 0x80000000 - want).toInt.natAbs < (e.2 - want).toInt.natAbs)
          L1.mcPost b (.state 4 6 flip)
        else L1.mcGo b 5
      else (L.mcFlag b F.EDG_MEVT_LOCKF).mcRetry b
    | none => (L.mcFlag b F.EDG_MEVT_LOCKF).mcRetry b

/-- The end of POLTEST (R257). -/
def Lane.mcPolEnd (L : Lane) (b : Nat) : Lane :=
  let m := L.mcOf b
  let c := L.rd (R.EDG_MPOL b)
  let n := 2 * (F.EDG_MPOL_PULSEN.get c + F.EDG_MPOL_DECAY.get c)
  if L.mcSt b ≠ 5 ∨ L.mcLast b m.govern n = false ∨ L.mcPosted b = true then L
  else
    let p := m.iPos.getD 0
    let q := m.iNeg.getD 0
    let d := (F.EDG_MPOL_POLMIN.get c : Int) * max p q
    if d ≤ 256 * (p - q) then L.mcPost b (.state 5 6 false)
    else if d ≤ 256 * (q - p) then L.mcPost b (.state 5 6 true)
    else (L.mcFlag b F.EDG_MEVT_POLAMB).mcRetry b

/-- The rate of a catch or re-lock measurement written to EDG_MCRESb (R262). -/
def Lane.mcMeasured (L : Lane) (b : Nat) : Lane :=
  let m := L.mcOf b
  L.wr (R.EDG_MCRES b) (if m.ang1At ≤ m.ang0At ∨ m.nCatch < 2 then 0 else wInt (satI 32 (rneDiv (m.angSum * 256) (m.ang1At - m.ang0At : Nat))))

/-- Whether the induced amplitude is at least VDET (R263, R272). -/
def Lane.mcTurns (L : Lane) (b : Nat) : Bool :=
  let m := L.mcOf b
  let v := (L.fld (R.EDG_MCAT b) F.EDG_MCAT_VDET : Int) * m.bus
  L.on (R.EDG_MVSEL b) F.EDG_MVSEL_VVALID && decide (0 < m.nCatch) && decide (3 * (v * v) ≤ m.amp2 * 1024 ^ 2)

/-- The end of a catch measurement (R263). -/
def Lane.mcCatchEnd (L : Lane) (b : Nat) : Lane :=
  let m := L.mcOf b
  if L.mcSt b ≠ 2 ∨ L.mcLast b m.govern (L.mcPeriods b (ms 2)) = false ∨ L.mcPosted b = true then L
  else
    let L1 := L.mcMeasured b
    let sens := L1.sensOk b
    let rated := (L1.rd (R.EDG_MRATED b)).toNat
    let rate := if sens then (L1.sensElec b).2 else L1.rdI (R.EDG_MCRES b)
    let turning := if sens then decide (L1.fld (R.EDG_MINJSW b) F.EDG_MINJSW_LO * rated ≤ rate.natAbs * 1024) else L1.mcTurns b
    if m.catchAt + ms (L1.fld (R.EDG_MCAT2 b) F.EDG_MCAT2_CATCHT) ≤ L1.ticks then (L1.mcFlag b F.EDG_MEVT_CATCHF).mcGo b 9
    else if turning then
      (if L1.fld (R.EDG_MCAT b) F.EDG_MCAT_CATCHMAX * rated < rate.natAbs * 1024 then L1.mcGo b 3 else L1.mcGo b 6)
    else L1.mcRest b

/-- The end of a re-lock measurement (R272). -/
def Lane.mcRelockEnd (L : Lane) (b : Nat) : Lane :=
  let m := L.mcOf b
  if L.mcSt b ≠ 8 ∨ L.mcLast b m.mStart (L.mcPeriods b (ms 1)) = false ∨ L.mcPosted b = true then L
  else
    let L1 := L.mcMeasured b
    if L1.mcTurns b then L1.mcGo b 6
    else L1.updMc b fun m => { m with mStart := L.edg.pnum.at b + 1, nCatch := 0, angSum := 0 }

/-! ### Holds from outside (R255) -/

/-- A report of a period of the bridge: periods in RUN in which it did not switch other than by the block's own stop bit. -/
def Lane.mcReport (L : Lane) (b : Nat) (rep : BrRep) : Lane :=
  let m := L.mcOf b
  if L.mcSt b = 6 ∧ m.govern ≤ rep.seq ∧ rep.switching = false ∧ L.edg.stopMc.at b = false then L.updMc b fun m => { m with offPer := min 3 (m.offPer + 1) }
  else L.updMc b fun m => { m with offPer := 0 }

def Lane.mcHeld (L : Lane) (b : Nat) : Lane :=
  if L.mcSt b = 6 ∧ 2 < (L.mcOf b).offPer ∧ L.mcPosted b = false then (L.mcGo b 2).mcFlag b F.EDG_MEVT_EXTOFF else L

/-! ### Command curves (R279 to R282) -/

def Lane.ccN (L : Lane) (a : Nat) : Nat := L.fld (R.EDG_CCCFG a) F.EDG_CCCFG_NPTS
def Lane.ccX (L : Lane) (a i : Nat) : Int := (L.coef ((L.rd (R.EDG_CCBASE a)).toNat % 0x20000 + i)).toInt
def Lane.ccY (L : Lane) (a i : Nat) : Int := (L.coef ((L.rd (R.EDG_CCBASE a)).toNat % 0x20000 + 32 + i)).toInt

/-- Whether words of coefficient RAM reach beyond its end or overlap a view of an axis area (R201, R279). -/
def overViews (base n : Nat) : Bool :=
  decide (0x20000 < base + n) || (List.range 12).any fun a =>
    let o := axArea a
    (decide (base < o + 0x700) && decide (o + 0x200 < base + n)) || (decide (base < o + 0xD00) && decide (o + 0x800 < base + n))

/-- Whether the curve of an axis fails the check of R279. -/
def Lane.ccFails (L : Lane) (a : Nat) : Bool :=
  let n := L.ccN a
  L.on (R.EDG_CCCFG a) F.EDG_CCCFG_EN && (decide (L.axKind a < 4 ∨ 5 < L.axKind a) || decide (n < 2 ∨ 32 < n)
    || (List.range (n - 1)).any (fun i => decide (L.ccX a (i + 1) ≤ L.ccX a i))
    || decide (L.rdI (R.EDG_CCON a) ≤ L.rdI (R.EDG_CCOFF a)) || overViews ((L.rd (R.EDG_CCBASE a)).toNat % 0x20000) 64)

/-- The state of the curve at the apply instant of checkpoint `c`, from the adopted word 0x009 (R280): due on the first sample after the
checkpoint. -/
def Lane.ccApply (L : Lane) (c a : Nat) (adopted : Option Int) : Lane :=
  match adopted with
  | none => L
  | some v =>
    if !L.on (R.EDG_CCCFG a) F.EDG_CCCFG_EN then L
    else if L.rdI (R.EDG_CCON a) < v then L.updAx a fun x => { x with curveDue := x.curveDue ++ [(c, true)] }
    else if v < L.rdI (R.EDG_CCOFF a) then L.updAx a fun x => { x with curveDue := x.curveDue ++ [(c, false)] }
    else L

/-- The curve of a sample, on the shaped set-point (R281); `first` names the checkpoint after which the sample is the first. -/
def Lane.ccSample (L : Lane) (a : Nat) (first : Option Nat) (x : Int) : Lane :=
  if !L.on (R.EDG_CCCFG a) F.EDG_CCCFG_EN then L
  else
    let now : Nat × Bool → Bool := fun e => first.any fun ck => decide (e.1 ≤ ck)
    let L1 := match ((L.ax.at a).curveDue.filter now).getLast? with
      | some e => (L.setF (R.EDG_CCST a) F.EDG_CCST_ON (b2n e.2)).updAx a fun y => { y with curveDue := y.curveDue.filter fun e => !now e }
      | none => L
    if !L1.on (R.EDG_CCST a) F.EDG_CCST_ON then L1.wr (R.EDG_CCOUT a) 0
    else
      let n := L1.ccN a
      let i := ((List.range n).filter fun k => decide (L1.ccX a k ≤ x)).length
      if i = 0 then (L1.wr (R.EDG_CCOUT a) (wInt (L1.ccY a 0))).setF (R.EDG_CCST a) F.EDG_CCST_SEG 0
      else if n ≤ i then (L1.wr (R.EDG_CCOUT a) (wInt (L1.ccY a (n - 1)))).setF (R.EDG_CCST a) F.EDG_CCST_SEG (n - 2)
      else
        let j := i - 1
        let dx := L1.ccX a i - L1.ccX a j
        let y := rneDiv (L1.ccY a j * dx + (x - L1.ccX a j) * (L1.ccY a i - L1.ccY a j)) dx
        (L1.wr (R.EDG_CCOUT a) (wInt (satI 32 y))).setF (R.EDG_CCST a) F.EDG_CCST_SEG j

end Sys2Proof.Machine
end

