-- ==== Sys2Proof/Machine/CkList.lean ====
section
/-! DEFINITION. The checkpoint list of a lane (R97, R100, R101), the copying of its words (R95) and the posting of decisions (R112). -/

namespace Sys2Proof.Machine

/-- An entry of the checkpoint list (R100): KIND 0 numeric, 1 block floating-point, 2 discrete, 3 scheduling; axis 15 for none. -/
structure LEntry where
  addr : Nat
  count : Nat
  kind : Nat
  axis : Nat
  width : Nat
  wexp : Int
  wrap : Bool
  deriving DecidableEq, Repr, Inhabited

def Lane.listBase (L : Lane) : Nat := (L.rd R.FIX_LISTBASE).toNat
def Lane.listCount (L : Lane) : Nat := L.fld R.FIX_LISTCNT F.FIX_LISTCNT_COUNT

def Lane.lentry (L : Lane) (i : Nat) : LEntry :=
  let w : Nat → Nat := fun k => (L.memW (L.listBase + 16 * i + 4 * k)).toNat
  ⟨w 0, w 1 % 4096, Bf.get ⟨16, 3⟩ (w32 (w 1)), Bf.get ⟨20, 4⟩ (w32 (w 1)), w 2, sext 8 (w 3), (w 3).testBit 8⟩

/-- The entries of the list, of which at most 256 count. -/
def Lane.lentries (L : Lane) : List LEntry := (List.range (min 256 L.listCount)).map L.lentry

/-- Whether an entry's words are exchanged (R97, R105). -/
def LEntry.num (e : LEntry) : Bool := decide (e.kind ≠ 2)

/-- The words that a checkpoint exchanges (R97). -/
def Lane.xwords (L : Lane) : Nat := (L.lentries.filter LEntry.num).foldl (fun n e => n + e.count) 0 + 48

def inRam (a n : Nat) : Bool :=
  decide (a % 4 = 0) && ((decide (0x20000000 ≤ a) && decide (a + 4 * n ≤ 0x20100000)) || (decide (0x30000000 ≤ a) && decide (a + 4 * n ≤ 0x30080000)))

/-- Whether two entries of a list overlap. -/
def overlaps : List LEntry → Bool
  | [] => false
  | e :: t => (t.any fun f => decide (e.addr < f.addr + 4 * f.count) && decide (f.addr < e.addr + 4 * e.count)) || overlaps t

/-- The cause of a failed list check, 0 for none (R101, R627). -/
def Lane.listCause (L : Lane) : Nat :=
  let es := L.lentries
  if L.listBase % 4 ≠ 0 ∨ L.listBase < 0x20000000 ∨ 0x20100000 < L.listBase + 16 * L.listCount ∨ 256 < L.listCount then 1
  else if es.any fun e => !inRam e.addr e.count then 2
  else if es.any fun e => decide (e.kind = 1) && decide (e.count % 17 ≠ 0) then 3
  else if es.any fun e => decide (4 ≤ e.kind) || decide (12 ≤ e.axis ∧ e.axis ≤ 14) then 4
  else if 2048 < L.xwords then 5
  else if overlaps es then 6
  else 0

/-- Whether the list names a word of axis a's area with a kind and the axis (R201). -/
def Lane.listed (L : Lane) (a kind off : Nat) : Bool :=
  let w := 0x30000000 + 4 * (axArea a + off)
  L.lentries.any fun e => decide (e.kind = kind) && decide (e.axis = a) && decide (e.addr ≤ w) && decide (w < e.addr + 4 * e.count)

/-- The words of an entry now. -/
def Lane.entryWords (L : Lane) (e : LEntry) : List Word := (List.range e.count).map fun k => L.memW (e.addr + 4 * k)

/-- The captured words with those of the entries of one axis copied now; `ws` holds the words of the entries `es` in order. -/
def Lane.recopy (L : Lane) (a : Nat) : List LEntry → List Word → List Word
  | [], _ => []
  | e :: t, ws => (if e.axis = a then L.entryWords e else ws.take e.count) ++ L.recopy a t (ws.drop e.count)

/-- The period of the resource in AX_BIND.FIRST, and the key of that resource (R36). -/
def Lane.axKey (L : Lane) (a : Nat) : Nat :=
  let f := F.AX_BIND_FIRST.get (L.rd (R.AX_BIND a))
  if L.axKind a = 5 then 8 + f else f

/-- S and the interval of an axis (R95). -/
def Lane.axCap (L : Lane) (a : Nat) : AxCap :=
  let x := L.ax.at a
  let per := L.resLen (L.axKey a) / 8
  if L.axActive a then ⟨true, x.done, if x.nDone < 2 then per else x.lastStart - x.prevStart⟩
  else if x.waiting then ⟨true, L.edg.pnum.at (L.axKey a), per⟩
  else ⟨false, 0, 0⟩

/-- A sample of axis a ends: a capture that waited for it copies the axis's words, S and interval (R95). -/
def Lane.capAxis (L : Lane) (a : Nat) : Lane :=
  match L.ck.cap with
  | some c =>
    if L.ck.wait.contains a then
      let es := L.lentries
      L.updCk fun k => { k with
        wait := k.wait.erase a
        cap := some { c with
          words := L.recopy a (es.filter LEntry.num) c.words, disc := L.recopy a (es.filter fun e => !e.num) c.disc
          ax := (List.range 12).map fun i => if i = a then L.axCap a else c.ax.getD i default } }
    else L
  | none => L

/-- A decision word posted (R112): the same word once in an interval, 16 posts at most. -/
def Lane.decPost (L : Lane) (w : Word) : Lane :=
  if w = 0 ∨ (L.ck.dec.any fun p => decide (p.word = w) && decide (p.ck = L.ck.last)) = true then L
  else if 16 ≤ L.ck.dec.length then L.raise R.FIX_EVT F.FIX_EVT_DECOVF
  else L.updCk fun c => { c with dec := c.dec ++ [⟨w, 0, c.last⟩] }

end Sys2Proof.Machine
end

