-- ==== Sys2Proof/Machine/Lbook.lean ====
section
/-! DEFINITION. The logbook of an axis (R220 to R226). -/

namespace Sys2Proof.Machine

def Lane.lbSt (L : Lane) (a : Nat) : Nat := L.fld (R.AX_LBST a) F.AX_LBST_STATE

/-- A state entered (R222); ACTIVE reads 1 in Pre-trigger and Post-trigger. -/
def Lane.lbSet (L : Lane) (a st : Nat) : Lane :=
  (L.setF (R.AX_LBST a) F.AX_LBST_STATE st).setF (R.AX_LBCFG a) F.AX_LBCFG_ACTIVE (b2n (decide (st = 1 ∨ st = 2)))

/-- The probes logged, and the words of a record (R221). -/
def Lane.lbProbes (L : Lane) (a : Nat) : List Nat := (List.range 16).filter fun p => bitOf (L.rd (R.AX_LBMASK a)) p
def Lane.lbWords (L : Lane) (a : Nat) : Nat := 1 + (L.lbProbes a).length
def Lane.lbBase (L : Lane) (a : Nat) : Nat := (L.rd (R.AX_LBBASE a)).toNat % 65536
def Lane.lbLen (L : Lane) (a : Nat) : Nat := (L.rd (R.AX_LBLEN a)).toNat % 65536
def Lane.lbPost (L : Lane) (a : Nat) : Nat := (L.rd (R.AX_LBPOST a)).toNat % 65536

/-- Whether the check of R225 fails. -/
def Lane.lbFails (L : Lane) (a : Nat) : Bool :=
  let n := L.lbLen a * L.lbWords a
  decide ((L.rd (R.AX_LBMASK a)).toNat % 65536 = 0) || decide (L.lbLen a < 2) || decide (L.lbLen a ≤ L.lbPost a)
    || decide (65536 < L.lbBase a + n)
    || (List.range 12).any fun b => decide (b ≠ a) && decide (L.lbSt b = 1 ∨ L.lbSt b = 2)
        && decide (L.lbBase b < L.lbBase a + n) && decide (L.lbBase a < L.lbBase b + L.lbLen b * L.lbWords b)

/-- Pre-trigger entered (R222). -/
def Lane.lbStart (L : Lane) (a : Nat) : Lane :=
  let L1 := ((L.lbSet a 1).wr (R.AX_LBWP a) 0).setF (R.AX_LBST a) F.AX_LBST_WRAPPED 0
  L1.updAx a fun x => { x with lbTrig := 0, lbPrev := none, lbLeft := 0, lbClosing := 0, lbDoneAt := 0 }

/-- Whether a sample of axis a is in progress: an instance of its task that counts as a sample. -/
def Lane.axRunning (L : Lane) (a : Nat) : Bool :=
  L.eng.insts.any fun i => i.sample && decide (i.axis = a)

/-- A trigger event (R223): `src` is its bit in TSRC. -/
def Lane.lbEvent (L : Lane) (a src : Nat) : Lane :=
  if L.lbSt a = 1 then L.updAx a fun x => { x with lbTrig := x.lbTrig ||| 2 ^ src } else L

/-- A trigger event of the faults that FLT enables: 0 deadline, 1 trip, 2 odd lane, 3 protection. -/
def Lane.lbFault (L : Lane) (a k : Nat) : Lane :=
  if (L.fld (R.AX_LBCFG a) F.AX_LBCFG_FLT).testBit k then L.lbEvent a (3 + k) else L

/-- The waypoint toggle of axis a (R71, R223). -/
def Lane.lbToggle (L : Lane) (a : Nat) : Lane :=
  let up := !L.on (R.AX_LBST a) F.AX_LBST_WTRIG
  let L1 := L.setF (R.AX_LBST a) F.AX_LBST_WTRIG (b2n up)
  let e := L.fld (R.AX_LBCFG a) F.AX_LBCFG_WEDGE
  if (e = 0 ∧ up = true) ∨ (e = 1 ∧ up = false) ∨ e = 2 then L1.lbEvent a 0 else L1

/-- A protection event or HOLDOFF on a bridge or a valve channel, or on a whole die. -/
def Lane.lbProtBridge (L : Lane) (b : Nat) : Lane := match L.axisOfBridge b with | some a => L.lbFault a 3 | none => L
def Lane.lbProtValve (L : Lane) (v : Nat) : Lane := match L.axisOfValve v with | some a => L.lbFault a 3 | none => L

/-- Whether the threshold probe crosses its value between the previous record and this one (R223). -/
def Lane.lbCrosses (L : Lane) (a : Nat) (old new : Word) : Bool :=
  let v := L.rdI (R.AX_LBTHV a)
  let d := L.fld (R.AX_LBTHC a) F.AX_LBTHC_DIR
  let up := decide (old.toInt < v ∧ v ≤ new.toInt)
  let dn := decide (v < old.toInt ∧ new.toInt ≤ v)
  (decide (d = 0 ∨ d = 2) && up) || (decide (d = 1 ∨ d = 2) && dn)

/-- EN has changed from 0 to 1 with nothing in progress: the check of R225, then Pre-trigger. -/
def Lane.lbEnable (L : Lane) (a : Nat) : Lane := if L.lbFails a then L.raise (R.AX_LBST a) F.AX_LBST_CFGERR else L.lbStart a

/-- The record of a sample (R220 to R222, R224). -/
def Lane.lbRecord (L : Lane) (a : Nat) (abandoned : Bool) : Lane :=
  if ¬ (L.lbSt a = 1 ∨ L.lbSt a = 2) then L
  else
    let x := L.ax.at a
    let th := x.probes.at (L.fld (R.AX_LBTHC a) F.AX_LBTHC_PROBE)
    let cross := L.on (R.AX_LBCFG a) F.AX_LBCFG_TTHR && (match x.lbPrev with | some p => L.lbCrosses a p th | none => false)
    let src := if L.lbSt a = 1 then x.lbTrig ||| (if cross then 2 else 0) else 0
    let trig := decide (src ≠ 0)
    let k := (L.rd (R.AX_LBWP a)).toNat % 65536
    let hdr := x.started % 2 ^ 28 + b2n trig * 2 ^ 28 + b2n (L.on (R.AX_SPST a) F.AX_SPST_INV) * 2 ^ 29 + b2n x.swapped * 2 ^ 30 + b2n abandoned * 2 ^ 31
    let at_ := 0x31000000 + 4 * (L.lbBase a + k * L.lbWords a)
    let ws := w32 hdr :: (L.lbProbes a).map fun p => x.probes.at p
    let L1 := (List.range ws.length).foldl (fun X i => X.setMemW (at_ + 4 * i) (ws.getD i 0)) L
    let wrap := decide (L.lbLen a ≤ k + 1)
    let L1 := L1.wr (R.AX_LBWP a) (w32 (if wrap then 0 else k + 1))
    let L1 := if wrap then L1.setF (R.AX_LBST a) F.AX_LBST_WRAPPED 1 else L1
    let L1 := L1.updAx a fun y => { y with lbPrev := some th, lbTrig := 0 }
    let done : Lane → Lane := fun X => ((X.lbSet a 3).raise (R.AX_LBST a) F.AX_LBST_DONE).updAx a fun y => { y with lbDoneAt := L.ticks + 1 }
    let L2 :=
      if trig then
        let X := ((L1.lbSet a 2).setF (R.AX_LBST a) F.AX_LBST_TSRC src).wr (R.AX_LBTP a) (w32 k)
        if L.lbPost a = 0 then done X else X.updAx a fun y => { y with lbLeft := L.lbPost a }
      else if L.lbSt a = 2 then
        (if x.lbLeft ≤ 1 then done L1 else L1.updAx a fun y => { y with lbLeft := y.lbLeft - 1 })
      else L1
    if x.lbClosing = 0 then L2
    else
      -- a capture that completes in the tick of the clear has completed (R50, R224)
      let late := decide (L2.lbSt a = 3) && decide (x.lbClosing = L.ticks + 1)
      let X := (if late then L2.raise (R.AX_LBST a) F.AX_LBST_ABORT_LATE else L2.lbSet a 0).updAx a fun y => { y with lbClosing := 0 }
      -- EN set again meanwhile starts afresh (R49)
      if X.on (R.AX_LBCFG a) F.AX_LBCFG_EN then X.lbEnable a else X

/-- AX_LBCFG has been written (R222 to R225): EN, SWTRIG and REARM, with EN's earlier value. -/
def Lane.lbWritten (L : Lane) (a : Nat) (was swtrig rearm : Bool) : Lane :=
  let en := L.on (R.AX_LBCFG a) F.AX_LBCFG_EN
  let L1 :=
    if en && !was then
      (if (L.ax.at a).lbClosing ≠ 0 then L else L.lbEnable a)
    else if !en && was then
      (if L.lbSt a = 3 ∧ (L.ax.at a).lbDoneAt = L.ticks + 1 then L.raise (R.AX_LBST a) F.AX_LBST_ABORT_LATE
       else
        let X := L.setF (R.AX_LBST a) F.AX_LBST_ABORT_LATE 0
        if (X.lbSt a = 1 ∨ X.lbSt a = 2) ∧ X.axRunning a = true then X.updAx a fun y => { y with lbClosing := L.ticks + 1 } else X.lbSet a 0)
    else L
  let L2 := if rearm ∧ L1.lbSt a = 3 then L1.lbStart a else L1
  if swtrig then L2.lbEvent a 2 else L2

end Sys2Proof.Machine
end

