-- ==== Sys2Proof/Machine/Axis.lean ====
section
/-! DEFINITION. The axes of a lane: enabling and its checks (R54 to R57, R201, R202, R215), region charts and bank swaps (R198 to R210),
set-point sources and shaping (R214 to R219), and what the start and the end of a sample do (R95, R108, R219, R220). -/

namespace Sys2Proof.Machine

/-! ### Binding (R54 to R57) -/

/-- The resources an axis binds: the keys of its bridges or valve channels. -/
def Lane.axKeys (L : Lane) (a : Nat) : List Nat :=
  let w := L.rd (R.AX_BIND a)
  let o := if L.axKind a = 5 then 8 else 0
  (if F.AX_BIND_FIRST_V.on w then [o + F.AX_BIND_FIRST.get w] else []) ++ (if F.AX_BIND_SECOND_V.on w then [o + F.AX_BIND_SECOND.get w] else [])

/-- AX_STAT.SPLIT by what AX_CFG and AX_BIND hold (R53): two resources of the axis's kind are bound and lie on different dies. -/
def Lane.axSplit (L : Lane) (a : Nat) : Lane :=
  let w := L.rd (R.AX_BIND a)
  let k := L.axKind a
  let top := if k = 5 then 12 else 8
  let i := F.AX_BIND_FIRST.get w
  let j := F.AX_BIND_SECOND.get w
  L.setF (R.AX_STAT a) F.AX_STAT_SPLIT (b2n (decide (1 ≤ k ∧ k ≤ 5) && F.AX_BIND_FIRST_V.on w && F.AX_BIND_SECOND_V.on w
    && decide (i < top ∧ j < top) && decide (i / (top / 4) ≠ j / (top / 4))))

/-- Whether an axis holds its resources: it has passed its check. -/
def Lane.axHolds (L : Lane) (a : Nat) : Bool := L.axActive a || (L.ax.at a).waiting

/-- The conditions of the binding check with their causes (R54, R215, R279); a resource of a die that failed its sounding is absent (R545). -/
def Lane.axCauses (L : Lane) (a : Nat) : List (Nat × Bool) :=
  let w := L.rd (R.AX_BIND a)
  let k := L.axKind a
  let ks := L.axKeys a
  let nums := (if F.AX_BIND_FIRST_V.on w then [F.AX_BIND_FIRST.get w] else []) ++ (if F.AX_BIND_SECOND_V.on w then [F.AX_BIND_SECOND.get w] else [])
  let top := if k = 5 then 12 else 8
  let c := L.rd (R.AX_SPSRC a)
  let kind := F.AX_SPSRC_KIND.get c
  let i := F.AX_SPSRC_INDEX.get c
  let bad := match kind with
    | 1 => decide (64 ≤ i)
    | 2 => decide (i ≠ i % 8 + 256 * (i / 256 % 2))
    | 3 => decide (i ≠ i % 8 + 256 * (i / 256 % 4)) || decide (2 ≤ i / 256 % 4)
    | 4 => decide (i ≠ i % 8 + 256 * (i / 256 % 2))
    | 5 => decide (i % 128 = 0) || decide (12 ≤ i / 256) || decide (i / 128 % 2 = 1)
    | 6 => decide (32 ≤ i)
    | 7 => true
    | _ => false
  [(1, nums.any fun n => decide (n < top) && ((L.small && decide (top / 2 ≤ n))
      || decide (L.fld R.PWR_STAT ⟨12 + n / (top / 4), 1⟩ = 0))),
   (2, (List.range a).any fun b => L.axHolds b && (L.axKeys b).any ks.contains),
   (3, nums.any fun n => decide (top ≤ n)),
   (4, decide (k = 0 ∨ 6 ≤ k)),
   (5, decide (k = 5) && !L.on (R.AX_PSLOT a) F.AX_PSLOT_SLOT_V),
   (6, !F.AX_BIND_FIRST_V.on w),
   (7, F.AX_BIND_SECOND_V.on w && decide (F.AX_BIND_SECOND.get w = F.AX_BIND_FIRST.get w)),
   (8, bad || decide (L.rdI (R.AX_SPMAX a) < L.rdI (R.AX_SPMIN a))),
   (9, L.ccFails a)]

/-- The lowest code among conditions that hold (R627), 0 for none. -/
def lowCause (l : List (Nat × Bool)) : Nat := match l.find? (·.2) with | some x => x.1 | none => 0

/-! ### Charts (R198 to R206) -/

def Lane.chen (L : Lane) (a : Nat) : Bool := L.on (R.AX_LAW a) F.AX_LAW_CHEN
def Lane.chNI (L : Lane) (a : Nat) : Nat := L.fld (R.AX_CHCFG a) F.AX_CHCFG_NI
def Lane.chNJ (L : Lane) (a : Nat) : Nat := L.fld (R.AX_CHCFG a) F.AX_CHCFG_NJ
/-- The region of a cell (R198). -/
def Lane.chRegion (L : Lane) (a cell : Nat) : Nat :=
  Bf.get ⟨4 * (cell % 8), 4⟩ (L.rd (if cell < 8 then R.AX_CHMAP0 a else R.AX_CHMAP1 a))
def Lane.rsrc (L : Lane) (a r : Nat) : Nat := (L.rd (R.AX_RSRC a r)).toNat % 0x20000
def Lane.clen (L : Lane) (a : Nat) : Nat := L.fld (R.AX_LAW a) F.AX_LAW_CLEN

/-- Whether breakpoints along one variable are out of order (R201). -/
def bpBad (n : Nat) (bp hy : Nat → Int) : Bool :=
  (List.range (n - 2)).any fun k => decide (bp (k + 1) ≤ bp k) || decide (bp (k + 1) - hy (k + 1) ≤ bp k + hy k)

/-- The cause of a failed chart check, 0 for none (R201). -/
def Lane.chCause (L : Lane) (a : Nat) : Nat :=
  let ni := L.chNI a
  let nj := L.chNJ a
  let hy : (Nat → Reg) → Nat → Int := fun r k => ((L.rd (r k)).toNat : Int)
  if !L.chen a then 0
  else lowCause
    [(1, decide (ni = 0 ∨ 16 < ni ∨ nj = 0 ∨ 16 < nj ∨ 16 < ni * nj)),
     (2, decide (ni ≤ L.fld (R.AX_CHCFG a) F.AX_CHCFG_INITI ∨ nj ≤ L.fld (R.AX_CHCFG a) F.AX_CHCFG_INITJ)),
     (3, bpBad (min 16 ni) (fun k => L.rdI (R.AX_BP0 a k)) (hy (R.AX_HY0 a)) || bpBad (min 16 nj) (fun k => L.rdI (R.AX_BP1 a k)) (hy (R.AX_HY1 a))),
     (4, (List.range (min 16 (ni * nj))).any fun c => overViews (L.rsrc a (L.chRegion a c)) (L.clen a)),
     (5, decide (L.clen a = 0 ∨ 1280 < L.clen a)),
     (6, !(L.listed a 2 0 && L.listed a 3 0x10 && L.listed a 3 0x11))]

/-- The index of a cell moved by an adopted value (R199). -/
def chMove (n : Nat) (bp hy : Nat → Int) (v : Int) (i : Nat) : Nat :=
  let up := (List.range n).foldl (fun i _ => if i + 1 < n ∧ bp i + hy i < v then i + 1 else i) i
  (List.range n).foldl (fun i _ => if 0 < i ∧ v < bp (i - 1) - hy (i - 1) then i - 1 else i) up

/-- REGW and the registers that show it (R206), and DUE. -/
def Lane.regw (L : Lane) (a : Nat) : Lane :=
  let c := L.rd (R.AX_CHST a)
  let w := F.AX_CHST_REG.get c + 16 * F.AX_CHST_TGT.get c + 256 * L.fld (R.AX_BANK a) F.AX_BANK_ACTB + 4096 * F.AX_CHST_CURI.get c
    + 65536 * F.AX_CHST_CURJ.get c
  let x := L.ax.at a
  (L.setF (R.AX_BANK a) F.AX_BANK_DUE (b2n (x.pend.isSome || x.swapReady.isSome || x.swSwap.isSome))).setCoef (axArea a) (w32 w)

/-- A region copy starts (R202, R203). -/
def Lane.copyStart (L : Lane) (a r : Nat) (init : Bool) : Lane :=
  (L.setF (R.AX_BANK a) F.AX_BANK_BUSY 1).updAx a fun x => { x with copy := some r, copyPos := 0, copyInit := init }

/-- The next words of a region copy in progress, `n` at most (R203, R207): each is read as it stands now, and goes under the shadow view, or under
the active one before activation. -/
def Lane.copyWords (L : Lane) (a n : Nat) : Lane :=
  let x := L.ax.at a
  match x.copy with
  | some r =>
    let dst := axArea a + (if x.copyInit then 0x200 else 0x800)
    let m := min n (min 1280 (L.clen a) - x.copyPos)
    let L1 := (List.range m).foldl (fun X i => X.setCoef (dst + x.copyPos + i) (X.coef (L.rsrc a r + x.copyPos + i))) L
    L1.updAx a fun x => { x with copyPos := x.copyPos + m }
  | none => L
/-- A tick of a region copy: one word, and two while no engine task runs (log entry 21). -/
def Lane.copyTick (L : Lane) (a : Nat) : Lane := L.copyWords a (if L.eng.run.isNone then 2 else 1)
/-- A region copy ends (R203) with the words still to come. -/
def Lane.copyDone (L : Lane) (a : Nat) : Lane :=
  if (L.ax.at a).copy.isSome then
    ((L.copyWords a 1280).setF (R.AX_BANK a) F.AX_BANK_BUSY 0).updAx a fun x => { x with copy := none }
  else L

/-- The chart at the apply instant of checkpoint `c`, from the adopted SV0 and SV1 (R200, R204, R205); a swap pending from an earlier checkpoint
is due now where its copy had ended at the capture. A word for which the lanes found no majority moves no index (log entry 61). -/
def Lane.chApply (L : Lane) (c a : Nat) (v0 v1 : Option Int) : Lane :=
  if !L.chen a || !L.axActive a then L.regw a
  else
    let x := L.ax.at a
    let L1 := match x.pend with
      | some g => if x.copyOk then L.updAx a fun x => { x with swapReady := some (g, c), pend := none } else L
      | none => L
    let hy : (Nat → Reg) → Nat → Int := fun r k => ((L.rd (r k)).toNat : Int)
    let i0 := L.fld (R.AX_CHST a) F.AX_CHST_CURI
    let j0 := L.fld (R.AX_CHST a) F.AX_CHST_CURJ
    let i := match v0 with | some v => chMove (min 16 (L.chNI a)) (fun k => L.rdI (R.AX_BP0 a k)) (hy (R.AX_HY0 a)) v i0 | none => i0
    let j := match v1 with | some v => chMove (min 16 (L.chNJ a)) (fun k => L.rdI (R.AX_BP1 a k)) (hy (R.AX_HY1 a)) v j0 | none => j0
    let g := L.chRegion a (j * L.chNI a + i)
    let L2 := (L1.setF (R.AX_CHST a) F.AX_CHST_CURI i).setF (R.AX_CHST a) F.AX_CHST_CURJ j
    let L3 :=
      if g = L.fld (R.AX_CHST a) F.AX_CHST_TGT then L2
      else
        let X := (L2.setF (R.AX_CHST a) F.AX_CHST_TGT g).updAx a fun x => { x with pend := some g }
        if (X.ax.at a).swapReady.isSome then X.updAx a fun x => { x with copyNext := some g } else X.copyStart a g false
    L3.regw a

/-- The banks of an axis swap in the trigger tick of the first sample after checkpoint `ck`, where a swap is due there (R196, R204, R208). -/
def Lane.swapNow (L : Lane) (a ck : Nat) : Lane :=
  let x := L.ax.at a
  let region := x.swapReady.filter fun g => decide (g.2 ≤ ck)
  if region.isNone && !x.swSwap.any (fun c => decide (c ≤ ck)) then L.updAx a fun x => { x with swapped := false }
  else
    let L1 := (L.setF (R.AX_BANK a) F.AX_BANK_ACTB (1 - L.fld (R.AX_BANK a) F.AX_BANK_ACTB)).updAx a fun x => { x with swapped := true, swSwap := none }
    let L2 := match region with
      | some g => (L1.setF (R.AX_CHST a) F.AX_CHST_REG g.1).updAx a fun x => { x with swapReady := none }
      | none => L1
    let L3 := match x.copyNext with
      | some g => (L2.updAx a fun x => { x with copyNext := none }).copyStart a g false
      | none => L2
    L3.regw a

/-- AX_BANK.SWREQ (R208, R210). -/
def Lane.swReq (L : Lane) (a : Nat) : Lane :=
  if L.chen a || !L.axActive a || L.on (R.AX_BANK a) F.AX_BANK_BUSY || L.on (R.AX_BANK a) F.AX_BANK_DUE
  then L.raise (R.AX_BANK a) F.AX_BANK_SWREF else L.decPost (w32 (0xFFFFFF00 + a))

/-! ### Enable and disable (R48, R49, R54, R55, R57, R202) -/

/-- An accepted command loses an axis (R88, R89). -/
def Lane.admDrop (L : Lane) (a : Nat) : Lane :=
  let hit := L.ck.adm.any fun e => e.axes.testBit a
  let rest := (L.ck.adm.map fun e => if e.axes.testBit a then { e with axes := e.axes - 2 ^ a } else e).filter fun e => decide (e.axes ≠ 0)
  let L1 := (L.updCk fun c => { c with adm := rest }).setF R.RKN_ADM_STAT F.RKN_ADM_STAT_QLEVEL rest.length
  if hit then L1.raise R.RKN_ADM_STAT F.RKN_ADM_STAT_DROPAX else L1

/-- An axis without samples; its logbook goes on. -/
def Ax.fresh (x : Ax) : Ax := { (default : Ax) with
  probes := x.probes, lbTrig := x.lbTrig, lbPrev := x.lbPrev, lbLeft := x.lbLeft, lbClosing := x.lbClosing, lbDoneAt := x.lbDoneAt }

/-- The axis checked and, where it passes, waiting for activation. -/
def Lane.axTry (L : Lane) (a : Nat) : Lane :=
  let c := lowCause (L.axCauses a)
  let ch := L.chCause a
  let L1 := if c = 0 then L else (L.raise (R.AX_STAT a) F.AX_STAT_BIND_ERR).setF (R.AX_STAT a) F.AX_STAT_CAUSE c
  let L1 := if ch = 0 then L1 else (L1.raise (R.AX_CHST a) F.AX_CHST_CHERR).setF (R.AX_CHST a) F.AX_CHST_CHCAUSE ch
  if c ≠ 0 ∨ ch ≠ 0 then L1
  else
    let ks := L.axKeys a
    let dies := ks.map keyDie
    let two := decide (ks.length = 2) && decide (dies.headD 0 ≠ dies.getLastD 0)
    let L2 := L1.updAx a fun x => { x.fresh with waiting := true }
    -- higher-numbered axes lose the resource
    let L3 := (List.range 12).foldl (fun X b =>
      if a < b ∧ X.axHolds b = true ∧ (X.axKeys b).any ks.contains = true then
        let Y := (X.raise (R.AX_STAT b) F.AX_STAT_BIND_ERR).setF (R.AX_STAT b) F.AX_STAT_CAUSE 2
        if X.axActive b then Y.updAx b fun x => { x with disabling := true } else Y.updAx b fun x => { x with waiting := false, actSample := none }
      else X) L2
    let L4 := if L.axKind a = 1 ∧ two = false then L3.logRec 6 (w32 a) (L.rd (R.AX_BIND a)) 0 0 else L3
    if L.chen a then
      let i := L.fld (R.AX_CHCFG a) F.AX_CHCFG_INITI
      let j := L.fld (R.AX_CHCFG a) F.AX_CHCFG_INITJ
      let g := L.chRegion a (j * L.chNI a + i)
      let st := F.AX_CHST_TGT.set (F.AX_CHST_REG.set (F.AX_CHST_CURJ.set (F.AX_CHST_CURI.set (L4.rd (R.AX_CHST a)) i) j) g) g
      (L4.wr (R.AX_CHST a) st).copyStart a g true
    else L4

/-- The axis stops at its sample boundary (R48). -/
def Lane.axOff (L : Lane) (a : Nat) : Lane :=
  let L1 := (L.setF (R.AX_STAT a) F.AX_STAT_ACTIVE 0).admDrop a
  let L2 := ((L1.setF (R.AX_BANK a) F.AX_BANK_BUSY 0).updAx a Ax.fresh).setF (R.AX_BANK a) F.AX_BANK_DUE 0
  -- EN set again meanwhile starts afresh (R49)
  if L2.on (R.AX_CFG a) F.AX_CFG_EN then L2.axTry a else L2

/-- AX_CFG.EN has been written: set from 0 to 1, or cleared. -/
def Lane.axWritten (L : Lane) (a : Nat) (was : Bool) : Lane :=
  let en := L.on (R.AX_CFG a) F.AX_CFG_EN
  if en && !was then (if L.axActive a then L else L.axTry a)
  else if !en && was then
    (if L.axActive a then (if L.axRunning a then L.updAx a fun x => { x with disabling := true } else L.axOff a)
     else (L.setF (R.AX_BANK a) F.AX_BANK_BUSY 0).updAx a fun x => { x with waiting := false, actSample := none, copy := none })
  else L

/-- Resources taken by a lower-numbered axis: axes without a running sample stop at once. -/
def Lane.axTaken (L : Lane) : Lane :=
  (List.range 12).foldl (fun X a => if (X.ax.at a).disabling && !X.axRunning a then X.axOff a else X) L

/-- A period start of the resource in FIRST is time-stamped: a waiting axis whose period has come becomes active (R55),
and none of its windings has been in RUN yet (R509). -/
def Lane.axMark (L : Lane) (key : Nat) : Lane :=
  (List.range 12).foldl (fun X a =>
    let x := X.ax.at a
    match x.actSample with
    | some n =>
      if x.waiting && decide (X.axKey a = key) && decide (n ≤ X.edg.pnum.at key) then
        let p := X.edg.pnum.at key
        let Y := (X.setF (R.AX_STAT a) F.AX_STAT_ACTIVE 1).updAx a fun x => { x with
          waiting := false, actSample := none, started := p - 1, done := p - 1, nStarted := 0, nDone := 0 }
        (List.range 8).foldl (fun Y b => if Y.bindsBridge a b then Y.updMc b fun m => { m with ranAt := 0 } else Y) Y
      else X
    | none => X) L

/-! ### Set-point sources and shaping (R214 to R219) -/

/-- The raw input of an axis and whether its source is valid (R214, R216, R217). -/
def Lane.spRaw (L : Lane) (a : Nat) : Word × Bool :=
  let c := L.rd (R.AX_SPSRC a)
  let i := F.AX_SPSRC_INDEX.get c
  match F.AX_SPSRC_KIND.get c with
  | 1 => L.slotIn (i % 64)
  | 2 => L.posIn (i % 8) (if i / 256 % 2 = 1 then 1 else 2)
  | 3 => L.posIn (i % 8) (i / 256 % 4)
  | 4 => L.sentIn (i % 8) (i / 256 % 2)
  | 5 => (L.rd (R.AX_SPRAW a), decide (L.sessSt (i % 128) = 2) && (L.ax.at a).cmdOk)
  | 6 => (L.rd (R.CE_OUT (i % 32)), true)
  | _ => (0, true)

/-- The shaping stage (R218): the limited input, the rate limiter's and the filter's output, and whether the limits acted. -/
def Lane.shape (L : Lane) (a : Nat) (raw : Word) (ro fo : Int) : Int × Int × Bool × Bool :=
  let sh := sext 6 (L.fld (R.AX_SPSRC a) F.AX_SPSRC_SHIFT)
  let x := satI 32 (scaleI ((raw.toInt - L.rdI (R.AX_SPOFS a)) * L.rdI (R.AX_SPGAIN a)) (sh - 31))
  let db := L.rdI (R.AX_SPDB a)
  let x := if (x.natAbs : Int) ≤ db then 0 else if x < 0 then x + db else x - db
  let y := min (max x (L.rdI (R.AX_SPMIN a))) (L.rdI (R.AX_SPMAX a))
  let rate := L.rdI (R.AX_SPRATE a)
  let ro1 := if rate ≠ 0 then satI 32 (ro + min (max (y - ro) (-rate)) rate) else y
  let al := L.rdI (R.AX_SPALPHA a)
  let fo1 := if al ≠ 0 then satI 32 (fo + rneShift ((ro1 - fo) * al) 31) else ro1
  (ro1, fo1, decide (y ≠ x), decide (rate ≠ 0) && decide (rate < ((y - ro).natAbs : Int)))

/-- The set-point of a sample (R216 to R219): its result goes to words 0x008 and 0x009 and to AX_SPVAL. -/
def Lane.spSample (L : Lane) (a : Nat) : Lane :=
  let r := L.spRaw a
  let c := L.rd (R.AX_SPSRC a)
  let st := L.rd (R.AX_SPST a)
  let n := if r.2 then 0 else min 255 (F.AX_SPST_INVCNT.get st + 1)
  let lim := F.AX_SPSRC_INVLIM.get c
  let held := !r.2 && decide (lim ≠ 0) && decide (lim ≤ n)
  let raw := if r.2 then r.1 else L.rd (R.AX_SPRAW a)
  let safe := held || L.on (R.SFN_ASTAT a) F.SFN_ASTAT_CSTOP || L.axLo.testBit a
  let o := axArea a
  let s := L.shape a (if safe then L.rd (R.AX_SPSAFE a) else raw) (L.coef (o + 8)).toInt (L.coef (o + 9)).toInt
  let st := F.AX_SPST_INVCNT.set (F.AX_SPST_INV.set st (b2n !r.2)) n
  let st := F.AX_SPST_RATELIM.set (F.AX_SPST_CLAMPED.set st (b2n s.2.2.1)) (b2n s.2.2.2)
  let L1 := ((L.wr (R.AX_SPRAW a) raw).wr (R.AX_SPST a) st).wr (R.AX_SPVAL a) (wInt s.2.1)
  let L1 := if held then L1.raise (R.AX_SPST a) F.AX_SPST_INVHELD else L1
  (L1.setCoef (o + 8) (wInt s.1)).setCoef (o + 9) (wInt s.2.1)

/-- A command applied on an axis (R88, R216). -/
def Lane.cmdApply (L : Lane) (a : Nat) (e : Adm) : Lane :=
  let c := L.rd (R.AX_SPSRC a)
  let i := F.AX_SPSRC_INDEX.get c
  if F.AX_SPSRC_KIND.get c = 5 ∧ i % 128 = e.sess then
    match e.words[i / 256]? with
    | some w => (L.wr (R.AX_SPRAW a) w).updAx a fun x => { x with cmdOk := true }
    | none => L.updAx a fun x => { x with cmdOk := false }
  else L

/-- The admitted commands due on the first sample after checkpoint `ck`, those of the checkpoints before it among them (R88, R89, R98). -/
def Lane.admApply (L : Lane) (a ck : Nat) : Lane :=
  let due : Adm → Bool := fun e => e.axes.testBit a && decide (e.t ≤ ck)
  let L1 := (L.ck.adm.filter due).foldl (fun X e => X.cmdApply a e) L
  let rest := (L.ck.adm.map fun e => if due e then { e with axes := e.axes - 2 ^ a } else e).filter fun e => decide (e.axes ≠ 0)
  (L1.updCk fun c => { c with adm := rest }).setF R.RKN_ADM_STAT F.RKN_ADM_STAT_QLEVEL rest.length

/-! ### Re-centring offsets (R103, R104) -/

/-- An offset added to its live word. -/
def Lane.addOfs (L : Lane) (o : Ofs) : Lane :=
  let add := if o.scaled then scaleI o.add (o.emax - sext 8 (L.memW o.expAddr).toNat) else o.add
  let v := (L.memW o.addr).toInt + add
  L.setMemW o.addr (if o.wrap then wInt v else wInt (satI 32 v))

/-! ### Samples -/

/-- Whether a function of axis a is violated on this sample (R474). -/
def Lane.violated (L : Lane) (a : Nat) : Bool :=
  let m := L.monOf a
  L.on R.SFN_CTRL F.SFN_CTRL_ACTIVE && m.on && (L.counted a m.nP || L.counted a m.nR || L.counted a m.nD || L.counted a m.nE)

/-- A sample of axis a starts in the trigger tick of its instance: as the first after a checkpoint it carries out what that checkpoint, or one
before it, made due (R88, R103, R108, R204, R208, R280, R470). -/
def Lane.axStart (L : Lane) (a : Nat) : Lane :=
  let x := L.ax.at a
  let n := x.started + 1
  let fired := x.due.filter fun d => decide (d.at_ ≤ n)
  let later := x.due.filter fun d => decide (n < d.at_)
  let ck := fired.foldl (fun m d => max m d.ck) 0
  let first := if fired.isEmpty then none else some ck
  let dt := L.ticks - x.lastStart
  let L0 := L.updAx a fun x => { x with started := n, prevStart := x.lastStart, lastStart := L.ticks, nStarted := x.nStarted + 1 }
  let L1 :=
    if fired.isEmpty then L0.updAx a fun x => { x with swapped := false }
    else
      let X := (fired.flatMap (·.ofs)).foldl Lane.addOfs (L0.updAx a fun x => { x with due := later, applied := n })
      let X := if later.isEmpty then X.wr (R.FIX_AXAP a) (w32 n) else X
      ((X.swapNow a ck).admApply a ck).cstopStart a ck
  let L2 := L1.spSample a
  let m := L2.monitor a dt (L2.coef (axArea a + 9)).toInt
  let sp := m.1.degraded a dt m.2
  let L3 := (m.1.updMon a fun m => { m with sp := some sp, prevAt := L.ticks }).ccSample a first sp
  let out := if L3.on (R.EDG_CCCFG a) F.EDG_CCCFG_EN then L3.rd (R.EDG_CCOUT a) else wInt sp
  let L4 := L3.updAx a fun x => { x with inOld := x.inVal, inVal := out, inAt := L.ticks }
  let L4 := if L4.violated a then L4.lbFault a 1 else L4
  let L5 := L4.ucCheck.dgSample
  (L5.axKeys a).foldl (fun X k => if k < 8 then X.mcAxis k n (decide (x.nStarted = 0)) first else X) L5

/-- A sample of axis a ends (R95, R220). -/
def Lane.axEnd (L : Lane) (a : Nat) (abandoned : Bool) : Lane :=
  let L1 := L.updAx a fun x => { x with done := x.started, nDone := x.nDone + 1 }
  let L2 := (L1.lbRecord a abandoned).capAxis a
  if (L2.ax.at a).disabling then L2.axOff a else L2

end Sys2Proof.Machine
end

