-- ==== Sys2Proof/Machine/Ckpt.lean ====
section
/-! DEFINITION. The checkpoint of a lane: the capture (R94, R95, R105 to R107), the comparison of the lanes' data (R102 to R105,
R109), what is adopted, and the agreement on posted words, trips and PDUs (R86, R113 to R115, R462). -/

namespace Sys2Proof.Machine

/-! ### Capture -/

/-- Whether a lane takes part in checkpoints (R126, R136, R137, R143). -/
def Lane.ckRuns (L : Lane) : Bool :=
  let c := L.mySt
  (decide (c = 2 ∨ c = 3 ∨ c = 6 ∨ c = 8) || (decide (c = 7) && decide (L.fld R.FIX_SPLIT F.FIX_SPLIT_SSTATE = 3)))
    && !L.on R.FIX_DBG F.FIX_DBG_HALTED

/-- The number of the last checkpoint that reckoner 13 has passed (R93, R94). -/
def Lane.ckNow (L : Lane) : Nat := L.gt / L.ckP

/-- Whether a lane has reached a checkpoint that it has not captured (R94). -/
def Lane.ckDue (L : Lane) : Bool := L.ckRuns && decide (L.ck.last ≤ L.ckNow)

/-- The travel source's post (R400). -/
def Lane.travPost (L : Lane) : Lane :=
  let c := L.candidate
  if L.travOn && decide (c ≠ 7) && decide (c ≠ L.travSrc) then L.postTrip (.travel c) else L

/-- The steps of the sleep sequence that this lane can answer at a capture (R567): none, 0 for acknowledged, or the cause. -/
def Lane.sleepAns (L : Lane) : Option (Nat × Nat) :=
  let k := L.fld R.PWR_SLPST F.PWR_SLPST_STEP
  if !L.on R.PWR_SLPST F.PWR_SLPST_RUN || L.pw.slpUndo || decide (k = 0) then none
  else if L.pw.slpAns.isSome then L.pw.slpAns
  else if L.fld R.PWR_SLPHOLD ⟨k - 1, 1⟩ = 1 then some (k, 1)
  else
    let off (r : Reg) (f : Bf) : Bool := !L.on r f
    let ok : Bool :=
      if k = 1 then off R.SAFE_CTRL F.SAFE_CTRL_ACTIVE && off R.HNET_CTRL F.HNET_CTRL_ACTIVE && off R.ISB_CTRL F.ISB_CTRL_ACTIVE && off R.SVC_CTRL F.ISB_CTRL_ACTIVE
        && (List.range 2).all fun p => off (R.ETH_CTRL p) F.ETH_CTRL_ACTIVE
      else if k = 2 then off R.CE_CTRL F.CE_CTRL_ACTIVE && off R.RKN_CTRL F.RKN_CTRL_ACTIVE
      else if k = 3 then (List.range 16).all (fun q => off (R.MEAS_SQSTAT q) F.MEAS_SQSTAT_ACTIVE)
        && (List.range 8).all (fun n => !L.posActive n && off (R.SENT_CFG n) F.SENT_CFG_ACTIVE) && off R.MEAS_REF F.MEAS_REF_RDY
      else if k = 4 then L.pw.nvmAt.isEmpty
      else if k = 5 then (List.range 4).all fun n => decide (L.fld R.PWR_STAT ⟨12 + n, 1⟩ = 0) || L.on (R.DLK_LSTAT n) F.DLK_LSTAT_OFFCONF
      else false
    if ok then some (k, 0)
    else if k = 4 ∧ L.nvmWait ≠ [] then some (4, 3)
    else if k = 5 then some (5, 4)
    else none

/-- The blocks of the running sleep step stop once what is in flight has ended (R48, R567). -/
def Lane.sleepStop (L : Lane) : Lane :=
  let k := L.fld R.PWR_SLPST F.PWR_SLPST_STEP
  if !L.on R.PWR_SLPST F.PWR_SLPST_RUN || L.pw.slpUndo || decide (L.fld R.PWR_SLPHOLD ⟨k - 1, 1⟩ = 1) then L
  else if k = 1 then
    let L0 := L.setF R.SAFE_CTRL F.SAFE_CTRL_ACTIVE 0
    let L1 := if L.on R.HNET_CTRL F.HNET_CTRL_ACTIVE then L0.updHn fun h => { h with closing := true } else L0
    let L2 := if L1.isb.out.isEmpty then L1.setF R.ISB_CTRL F.ISB_CTRL_ACTIVE 0 else L1
    let L3 := if L2.svc.out.isEmpty then L2.setF R.SVC_CTRL F.ISB_CTRL_ACTIVE 0 else L2
    (List.range 2).foldl (fun X p => if (X.eth.at p).out.isEmpty then X.setF (R.ETH_CTRL p) F.ETH_CTRL_ACTIVE 0 else X) L3
  else if k = 2 then
    let L1 := if L.eng.insts.all fun i => !i.begun then L.setF R.CE_CTRL F.CE_CTRL_ACTIVE 0 else L
    L1.setF R.RKN_CTRL F.RKN_CTRL_ACTIVE 0
  else if k = 3 then
    let L1 := if L.meas.flight.isEmpty then (List.range 16).foldl (fun X q =>
      (X.setF (R.MEAS_SQSTAT q) F.MEAS_SQSTAT_ACTIVE 0).setF (R.MEAS_SQSTAT q) F.MEAS_SQSTAT_RUN 0) L else L
    (((List.range 8).foldl (fun X n => (X.posOff n).sentOff n) L1).travelOff.gsOff).refOff
  else L

/-- What a lane captures (R95, R97, R105 to R107). -/
def Lane.capOf (L : Lane) (din : Nat) (ball : Bool) : Cap :=
  let es := L.lentries
  let c := L.ckNow
  { num := c
    words := (es.filter LEntry.num).flatMap L.entryWords
    disc := (es.filter fun e => !e.num).flatMap L.entryWords
    sig := L.ck.sig
    mode0 := L.rd R.PWR_MODE
    mode1 := L.rd R.SAFE_CCV
    applied := ((List.range 12).filter L.axActive).map fun a => w32 (L.ax.at a).applied
    ax := (List.range 12).map L.axCap
    din := w32 din
    ball := ball
    posts := L.ck.dec
    trips := L.ck.trips.map (·.trip)
    pdus := L.safe.acc.filter fun p => decide (p.j + 1 ≤ c)
    dist := L.trav.d12
    sd := L.dg.sdRes
    conf := L.confirming
    lo := L.dg.early
    loBad := L.dg.earlyBad
    slp := L.sleepAns
    img := if L.pw.step9 then some (L.rd R.IMG_DIG0, L.rd R.IMG_DIG1) else none
    confRes := L.safe.confRes
    relRes := L.safe.relRes
    caught := L.ck.caught }

/-- Whether the region copy of an axis has ended at a capture (R202, R205): one that a swap or the activation waits for and that runs on sets CPLATE. -/
def Lane.copyCheck (L : Lane) (a : Nat) : Lane :=
  let x := L.ax.at a
  let ok := x.copy.isNone && x.copyNext.isNone
  let L1 := L.updAx a fun x => { x with copyOk := ok }
  if !ok && (x.pend.isSome || (x.waiting && L.chen a)) then L1.raise (R.AX_BANK a) F.AX_BANK_CPLATE else L1

/-- The capture of a checkpoint (R94, R95, R97): XUS is the exchange time in whole microseconds, rounded up (log entry 61). `din` is the reading of DIN0 to DIN23 and `ball` that of LOCKOUT_RST_N. -/
def Lane.capture_ (L0 : Lane) (din : Nat) (ball : Bool) : Lane :=
  if !L0.ckDue then L0
  else
    let L := (L0.travPost).sleepStop
    let c := L.capOf din ball
    let L1 := ((L.wr R.FIX_CNUM (w32 c.num)).wr R.FIX_DINOWN (w32 din)).wr R.FIX_WSIG c.sig
    let L2 := (List.range 12).foldl (fun X a => (X.wr (R.FIX_AXS a) (w32 (c.ax.getD a default).s)).copyCheck a) L1
    let n := L.xwords
    let L3 := (L2.setF R.FIX_XSTAT F.FIX_XSTAT_XWORDS (min 4095 n)).setF R.FIX_XSTAT F.FIX_XSTAT_XUS (min 255 ((3000 + 50 * n + 999) / 1000))
    L3.updCk fun k => { k with
      last := c.num + 1, cap := some c, wait := (List.range 12).filter L.axRunning, rx := [], done := false, sig := 0 }

/-- The data of another lane (R96, R116): `tap` says that the tap showed other data, `skew` how many 5 ns steps after this lane's
its capture instant lay. -/
def Lane.takeData (L : Lane) (k : Nat) (cap : Cap) (tap : Bool) (skew : Int) : Lane :=
  match L.ck.cap with
  | some own =>
    if own.num = cap.num ∧ L.ck.done = false then
      L.updCk fun c => { c with rx := c.rx.filter (fun e => e.1 ≠ k) ++ [(k, ⟨cap, tap, skew⟩)] }
    else L
  | none => L

/-! ### Comparison -/

/-- The median, or with two values their mean rounded half to even. -/
def median (vs : List Int) : Int :=
  match vs with
  | [a, b, c] => med3 a b c
  | [a, b] => rneDiv (a + b) 2
  | [a] => a
  | _ => 0

/-- The values of one word against a cocked hat of half-width `w` (R102): the value adopted, the lanes that lie outside, and whether
there is no majority. -/
def hat (w : Int) (vs : List (Nat × Int)) : Option Int × List Nat × Bool :=
  let m := median (vs.map (·.2))
  match vs with
  | [x, y] => if (x.2 - y.2).natAbs ≤ w.toNat then (some m, [], false) else (none, [], true)
  | _ =>
    let outl := (vs.filter fun v => decide (w < (v.2 - m).natAbs)).map (·.1)
    if outl.length ≤ 1 then (some m, outl, false) else (none, [], true)

/-- The same over binary angles (R102): differences from the value of the lowest-lettered lane. -/
def hatWrap (w : Int) (vs : List (Nat × Int)) : Option Int × List Nat × Bool :=
  let ref := (vs.headD (0, 0)).2
  let r := hat w (vs.map fun v => (v.1, (wInt (v.2 - ref)).toInt))
  (r.1.map (· + ref), r.2)

/-- What the numeric comparison gives: offsets by axis (15 for none), adopted values by address, the lanes outside with the first
entry and word, and whether there is no majority. -/
structure NumRes where
  ofs : List (Nat × Ofs)
  adopted : List (Nat × Int)
  odd : List Nat
  pos : Option (Nat × Nat)
  nomaj : Bool
  deriving DecidableEq, Repr, Inhabited

/-- One word's outcome added: `own` is this lane's captured value. -/
def NumRes.add (n : NumRes) (own : Int) (i k : Nat) (r : Option Int × List Nat × Bool) (axis : Nat) (mk : Int → Ofs) : NumRes :=
  { ofs := match r.1 with | some x => (if x = own then n.ofs else n.ofs ++ [(axis, mk (x - own))]) | none => n.ofs
    adopted := n.adopted
    odd := n.odd ++ r.2.1
    pos := if n.pos.isNone && (!r.2.1.isEmpty || r.2.2) then some (i, k) else n.pos
    nomaj := n.nomaj || r.2.2 }

/-- The words of one entry compared (R102 to R104): `ws` holds the words of the entry in each lane of the Fix, `own` those of this lane, which is one of
these or the lane that rejoins (R130). -/
def NumRes.entry (n : NumRes) (i : Nat) (e : LEntry) (own : List Word) (ws : List (Nat × List Word)) : NumRes :=
  let val : List Word → Nat → Int := fun l k => (l.getD k 0).toInt
  if e.kind = 1 then
    (List.range (e.count / 17)).foldl (fun n g =>
      let ex : List Word → Int := fun l => sext 8 (l.getD (17 * g + 16) 0).toNat
      let emax := ws.foldl (fun m x => max m (ex x.2)) (-128)
      let d := e.wexp - emax
      let w := if 0 ≤ d then (e.width : Int) * 2 ^ d.toNat else rneShift e.width (-d).toNat
      (List.range 16).foldl (fun n k =>
        let vs := ws.map fun x => (x.1, rneShift (val x.2 (17 * g + k)) (emax - ex x.2).toNat)
        let mk : Int → Ofs := fun o => ⟨e.addr + 4 * (17 * g + k), o, false, true, emax, e.addr + 4 * (17 * g + 16)⟩
        n.add (scaleI (val own (17 * g + k)) (ex own - emax)) i (17 * g + k) (hat w vs) e.axis mk) n) n
  else
    (List.range e.count).foldl (fun n k =>
      let vs := ws.map fun x => (x.1, val x.2 k)
      let r := if e.wrap then hatWrap e.width vs else hat e.width vs
      let n1 := n.add (val own k) i k r e.axis fun o => ⟨e.addr + 4 * k, o, e.wrap, false, 0, 0⟩
      match r.1 with
      | some x => { n1 with adopted := n1.adopted ++ [(e.addr + 4 * k, (wInt x).toInt)] }
      | none => n1) n

/-- All numeric entries compared, with the entry numbers of the list. -/
def numWalk : List (Nat × LEntry) → List Word → List (Nat × List Word) → NumRes → NumRes
  | [], _, _, n => n
  | (i, e) :: t, own, ws, n =>
    if e.num then
      numWalk t (own.drop e.count) (ws.map fun x => (x.1, x.2.drop e.count))
        (n.entry i e (own.take e.count) (ws.map fun x => (x.1, x.2.take e.count)))
    else numWalk t own ws n

/-- Values of which two must be equal (R105, R106): the lane that differs, and whether there is no majority. -/
def oddOne (vs : List (Nat × Nat)) : List Nat × Bool :=
  match vs with
  | [x, y, z] =>
    if x.2 = y.2 ∧ y.2 = z.2 then ([], false)
    else if x.2 = y.2 then ([z.1], false)
    else if x.2 = z.2 then ([y.1], false)
    else if y.2 = z.2 then ([x.1], false)
    else ([], true)
  | [x, y] => ([], decide (x.2 ≠ y.2))
  | _ => ([], false)

/-- The digest of a capture (R105). -/
def Cap.digest (c : Cap) : Nat := crc32c (wordsBytes (c.disc ++ [c.mode0, c.mode1] ++ c.applied))

/-- Bits agreed 2-of-3, or by both of two lanes where others keep the value held (R107). -/
def agreeBits (held : Nat) (vs : List Nat) : Nat :=
  match vs with
  | [a, b, c] => (a &&& b) ||| (a &&& c) ||| (b &&& c)
  | [a, b] => (a &&& b) ||| (held &&& (a ^^^ b))
  | [a] => a
  | _ => held

/-- How many lanes hold an element, by a list for each. -/
def holders {α : Type} [DecidableEq α] (x : α) (ls : List (List α)) : Nat := (ls.filter fun l => l.contains x).length

/-- Every element of the lists, once each, in order. -/
def pool {α : Type} [DecidableEq α] (ls : List (List α)) : List α :=
  ls.flatten.foldl (fun acc x => if acc.contains x then acc else acc ++ [x]) []

/-- What identifies a PDU in the exchange (R462): session, SEQ and CRC. -/
def Pdu.key (p : Pdu) : Nat × Nat × Nat := (p.sess, p.seq, p.crc)

/-! ### Agreement (R112 to R115) -/

/-- One lane's posts against what it owes (R114): a late post of an element already agreed is discarded, the oldest one; the rest, and what the
lane owes on. -/
def payOwed {β : Type} (hit : β → Bool) (ps : List β) : List β × Bool := (ps.eraseP hit, !ps.any hit)
def payAll {α β : Type} [DecidableEq α] (f : β → α) (owed : List α) (ps : List β) : List β × List α :=
  owed.foldl (fun r w => let x := payOwed (fun p => decide (f p = w)) r.1; (x.1, if x.2 then r.2 ++ [w] else r.2)) (ps, [])
/-- The lanes' posts once what they owe is paid. -/
def paid {α β : Type} [DecidableEq α] (f : β → α) (owe : List (Nat × α)) (ls : List (Nat × List β)) : List (Nat × List β × List α) :=
  ls.map fun x => (x.1, payAll f ((owe.filter fun o => decide (o.1 = x.1)).map (·.2)) x.2)
/-- The elements that `need` lanes post. -/
def agreedOf {α β : Type} [DecidableEq α] (f : β → α) (need : Nat) (ps : List (Nat × List β × List α)) : List α :=
  let ws := ps.map fun x => x.2.1.map f
  (pool ws).filter fun w => decide (need ≤ holders w ws)
/-- One post of each agreed element leaves a lane's posts, the oldest one. -/
def consume {α β : Type} [DecidableEq α] (f : β → α) (ags : List α) (ps : List β) : List β :=
  ags.foldl (fun ps w => ps.eraseP fun p => decide (f p = w)) ps
/-- What the lanes owe after an agreement: the agreed elements that they have not posted. -/
def owedNext {α β : Type} [DecidableEq α] (f : β → α) (ags : List α) (ps : List (Nat × List β × List α)) : List (Nat × α) :=
  ps.flatMap fun x => (ags.filter fun w => !x.2.1.any fun p => decide (f p = w)).map fun w => (x.1, w)

/-- The PDUs that two lanes have reported, each with the agreed interval (R86): the median, or the later of two. -/
def pduAgreed (need : Nat) (ls : List (List Pdu)) : List (Pdu × Nat) :=
  let ks := pool (ls.map fun l => l.map Pdu.key)
  ks.filterMap fun k =>
    let ps := ls.filterMap fun l => l.find? fun p => decide (p.key = k)
    match ps with
    | [] => none
    | p :: _ =>
      if ps.length < need then none
      else some (p, match ps with | [a, b, c] => (med3 a.j b.j c.j).toNat | _ => ps.foldl (fun m q => max m q.j) 0)

/-! ### Admission (R86 to R89, R463) -/

/-- The target axes of a session's commands: those whose set-point comes from it (R216). -/
def Lane.targets (L : Lane) (n : Nat) : Nat :=
  (List.range 12).foldl (fun m a =>
    let c := L.rd (R.AX_SPSRC a)
    if F.AX_SPSRC_KIND.get c = 5 ∧ F.AX_SPSRC_INDEX.get c % 128 = n then m + 2 ^ a else m) 0

/-- A COMMAND offered to admission at checkpoint `c` with arrival interval `j`. -/
def Lane.admitPdu (L : Lane) (c : Nat) (p : Pdu) (j : Nat) : Lane :=
  let a := p.ts + p.adl * 20000
  let t := (a + L.ckP - 1) / L.ckP
  let lead := max 2 (L.fld R.RKN_ADM_CTRL F.RKN_ADM_CTRL_LEAD)
  let hor := min (max 16 (L.fld R.RKN_ADM_CTRL F.RKN_ADM_CTRL_HORIZON)) (2000000000 / L.ckP)
  let axes := L.targets p.sess
  let cause : Nat :=
    if t < j + lead then 1
    else if j + hor < t then 2
    else if 64 ≤ L.ck.adm.length then 3
    else if !L.on R.RKN_GT F.RKN_GT_GT_VALID then 4
    else if (List.range 12).any (fun i => axes.testBit i && !L.axActive i) then 5
    else 0
  if cause ≠ 0 then
    (((L.setF R.RKN_ADM_STAT F.RKN_ADM_STAT_CAUSE cause).raise R.RKN_ADM_STAT F.RKN_ADM_STAT_REFUSED).bump R.RKN_ADM_REF ⟨0, 32⟩ 1).reply
      c p.sess p.seq 2 cause (w32 t) 0
  else
    let q := if axes = 0 then L.ck.adm else L.ck.adm ++ [⟨p.sess, t, p.words, axes⟩]
    ((((L.updCk fun k => { k with adm := q }).setF R.RKN_ADM_STAT F.RKN_ADM_STAT_QLEVEL q.length).bump R.RKN_ADM_ACC ⟨0, 32⟩ 1).reply
      c p.sess p.seq 2 0 (w32 t) 0)

/-- A PDU that the device has accepted (R461 to R464, R483, R484, R521); only the last one of its session is answered. -/
def Lane.pduDevice (L : Lane) (c : Nat) (last : Bool) (p : Pdu) (j : Nat) : Lane :=
  let L0 := L.updSafe fun s => { s with mute := !last }
  let L1 :=
    if p.ty = 1 then L0.helloAgreed c p
    else if p.ty = 2 then L0.admitPdu c p j
    else if p.ty = 5 then L0.resetAgreed c p
    else if p.ty = 6 then L0.queryAgreed c p
    else if p.ty = 7 then L0.confirmAgreed c p
    else L0.reply c p.sess p.seq p.ty 0 0 0
  L1.updSafe fun s => { s with mute := false }

/-- The agreed PDUs, in order. -/
def Lane.pdusDevice (L : Lane) (c : Nat) : List (Pdu × Nat) → Lane
  | [] => L
  | (p, j) :: t => (L.pduDevice c (!t.any fun q => decide (q.1.sess = p.sess)) p j).pdusDevice c t

/-- The PDUs of this lane after a checkpoint that is not void (R86, R462): the agreed ones leave, and one that no second lane has
reported by the second checkpoint is dropped. -/
def Lane.pduRest (L : Lane) (c : Nat) (ags : List (Pdu × Nat)) : Lane :=
  let done : Pdu → Bool := fun p => ags.any fun q => decide (q.1.key = p.key)
  let lone : Pdu → Bool := fun p => decide (p.j + 1 ≤ c) && decide (1 ≤ p.age) && !done p
  let rest := (L.safe.acc.filter fun p => !done p && !lone p).map fun p => if p.j + 1 ≤ c then { p with age := p.age + 1 } else p
  let L1 := L.updSafe fun s => { s with acc := rest }
  if L.safe.acc.any lone then L1.raise R.SAFE_EVT F.SAFE_EVT_LONE else L1

end Sys2Proof.Machine
end

