-- ==== Sys2Proof/Machine/Engine.lean ====
section
/-! DEFINITION. The control engine of a lane (R149 to R187): instances and their levels, the pipeline with its landings, the instruction
word, and what each opcode does. -/

namespace Sys2Proof.Machine

def Lane.updEng (L : Lane) (f : Eng → Eng) : Lane := { L with eng := f L.eng }

/-! ### Instances (R175 to R180) -/

def Lane.instOf (L : Lane) (n : Nat) : Option Inst := L.eng.insts.find? fun i => decide (i.task = n)
def Lane.updInst (L : Lane) (n : Nat) (f : Inst → Inst) : Lane :=
  L.updEng fun e => { e with insts := e.insts.map fun i => if i.task = n then f i else i }
def Lane.dropInst (L : Lane) (n : Nat) : Lane :=
  L.updEng fun e => { e with insts := e.insts.filter fun i => !decide (i.task = n), run := if e.run = some n then none else e.run }

/-- Whether an instance may run: it does not wait, and no other instance of its level has begun (R177). -/
def Lane.instReady (L : Lane) (i : Inst) : Bool :=
  i.wait.isNone && !L.eng.insts.any fun j => j.begun && decide (j.level = i.level) && decide (j.task ≠ i.task)

/-- The order of R177: level, then trigger tick, then task number. -/
def instBefore (i j : Inst) : Bool :=
  decide (j.level < i.level) || (decide (i.level = j.level) && (decide (i.trig < j.trig) || (decide (i.trig = j.trig) && decide (i.task < j.task))))

/-- The instance that the engine runs next. -/
def Lane.bestInst (L : Lane) : Option Inst :=
  let r := L.eng.insts.filter L.instReady
  r.find? fun i => r.all fun j => decide (i.task = j.task) || instBefore i j

/-- The engine's clocks in a tick of 5 ns and its cycles (R149, R184): on seven MAC units every eighth clock issues nothing. -/
def Lane.macs7 (L : Lane) : Bool := decide (L.fld R.CE_STAT F.CE_STAT_MACS = 7)
def Lane.cycOf (L : Lane) (clk : Nat) : Nat := if L.macs7 then clk - clk / 8 else clk
def Lane.clkIdle (L : Lane) (clk : Nat) : Bool := L.macs7 && decide (clk % 8 = 7)
/-- The first engine cycle of the present tick that is at least `n`. -/
def Lane.cycleNow (L : Lane) (n : Nat) : Option Nat :=
  ([2 * L.ticks, 2 * L.ticks + 1].filter fun c => !L.clkIdle c && decide (n ≤ L.cycOf c)).head?.map L.cycOf

/-- The engine takes up an instance, if it runs none (R177). -/
def Lane.engPick (L : Lane) : Lane :=
  match L.eng.run with
  | some _ => L
  | none => match L.bestInst with
    | some i => (L.updEng fun e => { e with run := some i.task }).updInst i.task fun i => { i with begun := true }
    | none => L

/-- Whether a ready instance of a higher level takes over at a cycle at which the MAC array is free (R180). -/
def Lane.engPreempts (L : Lane) (cyc : Nat) : Option Inst :=
  match L.eng.run with
  | none => none
  | some n => match L.instOf n, L.bestInst with
    | some r, some i => if r.level < i.level ∧ L.eng.macFree ≤ cyc then some i else none
    | _, _ => none

/-- Whether the engine is stopped by a halt (R143). -/
def Lane.engHalted (L : Lane) : Bool := L.on R.FIX_DBG F.FIX_DBG_HALTED

/-- The pre-emption itself: the new instance's first instruction issues two cycles later (R180). A stopped engine pre-empts nothing (R143). -/
def Lane.engPreempt (L : Lane) : Lane :=
  match L.cycleNow L.eng.next with
  | none => L
  | some c => match (if L.engHalted then none else L.engPreempts c) with
    | none => L
    | some i => (L.updEng fun e => { e with run := some i.task, next := c + 2 }).updInst i.task fun i => { i with begun := true }

/-- Whether the event of a WAIT has occurred (R178). -/
def Lane.waitOver (L : Lane) (i : Inst) : WaitEv → Bool
  | .seqDone q => decide (i.trig < L.eng.seqAt.at q) && decide (L.eng.seqAt.at q ≤ L.ticks)
  | .wpFire w => decide (i.trig < (L.wp.at w).firedAt)
  | .elapsed t => decide (i.trig + t ≤ L.ticks)

/-- A waiting instance becomes ready. -/
def Lane.waitDone (L : Lane) (n : Nat) : Lane :=
  match L.instOf n with
  | some i => match i.wait with
    | some e => if L.waitOver i e then L.updInst n fun i => { i with wait := none } else L
    | none => L
  | none => L

/-! ### Ends and faults (R83, R179, R182, R183, R187) -/

/-- The engine stops once EN has been cleared and no begun instance is left (R187); EN set meanwhile starts it afresh (R49). -/
def Lane.engBad (L : Lane) : Bool :=
  let ts := (List.range 64).filter fun n => L.on (R.CE_TASK n) F.CE_TASK_EN
  let ax : Nat → Nat := fun n => L.fld (R.CE_TASK n) F.CE_TASK_AXIS
  ts.any fun n => decide (12 ≤ ax n ∧ ax n ≤ 14) || (decide (ax n < 12) && ts.any fun m => decide (m ≠ n) && decide (ax m = ax n))

def Lane.engStart (L : Lane) : Lane :=
  if L.engBad then L.setF R.CE_STAT F.CE_STAT_CFGERR 1 else (L.setF R.CE_STAT F.CE_STAT_CFGERR 0).setF R.CE_CTRL F.CE_CTRL_ACTIVE 1

/-- `closing` says that EN has been cleared since ACTIVE was set. -/
def Lane.engSettle (L : Lane) : Lane :=
  if L.eng.closing && L.on R.CE_CTRL F.CE_CTRL_ACTIVE && L.eng.insts.all fun i => !i.begun then
    let L1 := (L.setF R.CE_CTRL F.CE_CTRL_ACTIVE 0).updEng fun e => { e with closing := false }
    if L1.on R.CE_CTRL F.CE_CTRL_EN then L1.engStart else L1
  else L

/-- An instance ends in cycle `c`, whatever its state; the next instruction of any instance issues three cycles later (R180). -/
def Lane.instEnd (L : Lane) (i : Inst) (c : Nat) (abandoned : Bool) : Lane :=
  let L1 := (L.dropInst i.task).updEng fun e => { e with next := max e.next (c + 3) }
  let L2 := if i.sample then L1.axEnd i.axis abandoned else L1
  L2.engSettle

/-- RKN_FAULT.TASK names the first task since DLF was cleared (R91). -/
def Lane.recTask (L : Lane) (n : Nat) : Lane :=
  if L.eng.recd then L else (L.setF R.RKN_FAULT F.RKN_FAULT_TASK n).updEng fun e => { e with recd := true }

/-- A deadline fault of a task (R83): the records, the lane fault, and the logbook's trigger. -/
def Lane.deadlineFault (L : Lane) (n : Nat) : Lane :=
  let L1 := ((L.recTask n).raise R.RKN_FAULT F.RKN_FAULT_DLF).raise (R.RKN_TSTAT n) F.RKN_TSTAT_MISS
  let a := L.fld (R.CE_TASK n) F.CE_TASK_AXIS
  let L2 := if a < 12 then L1.lbFault a 0 else L1
  L2.fault 1 L.me

/-- The engine cause of a fault (R182). -/
def Lane.ceFault (L : Lane) (n pc : Nat) (f : Bf) : Lane :=
  let first := decide ((L.rd R.CE_FAULT).toNat % 64 = 0)
  let L1 := if first then (L.setF R.CE_FAULT F.CE_FAULT_TASK n).setF R.CE_FPC F.CE_FPC_ADDR pc else L
  L1.raise R.CE_FAULT f

/-- An instance abandoned in cycle `c` (R83, R182, R183): with an LPST outstanding, both loops are cleared and every begun instance of
a lower level goes too. -/
def Lane.abandon (L : Lane) (i : Inst) (c : Nat) : Lane :=
  let L1 := (L.deadlineFault i.task).instEnd i c true
  if !i.saved then L1
  else
    let L2 := (L1.setF (R.CE_LPA 0) F.CE_LPA_ACT 0).setF (R.CE_LPA 1) F.CE_LPA_ACT 0
    let low := L2.eng.insts.filter fun j => j.begun && decide (j.level < i.level)
    low.foldl (fun X j => ((X.ceFault j.task j.pc F.CE_FAULT_CASC).deadlineFault j.task).instEnd j c true) L2

/-- The cycle in which something outside the pipeline happens in this tick. -/
def Lane.cycleAny (L : Lane) : Nat := L.cycOf (2 * L.ticks)

/-- A deadline expires (R83); a stopped engine abandons nothing before it resumes (R143). -/
def Lane.deadlineExpire (L : Lane) (n : Nat) : Lane :=
  match L.instOf n with
  | some i => if L.engHalted = false ∧ i.trig + L.fld (R.RKN_TDL n) F.RKN_TDL_DL ≤ L.ticks then L.abandon i L.cycleAny else L
  | none => L

/-- A trigger of a task by a waypoint (R82, R84, R176); the Bool is CFG_ERR for the waypoint. -/
def Lane.taskTrigger (L : Lane) (n : Nat) : Lane × Bool :=
  let c := L.rd (R.CE_TASK n)
  if !L.on R.CE_CTRL F.CE_CTRL_EN || !L.on R.CE_CTRL F.CE_CTRL_ACTIVE || L.eng.closing || !F.CE_TASK_EN.on c
      || decide (L.fld (R.RKN_TDL n) F.RKN_TDL_DL = 0) then (L, true)
  else if (L.instOf n).isSome then
    let a := F.CE_TASK_AXIS.get c
    let L1 := ((L.recTask n).raise R.RKN_FAULT F.RKN_FAULT_TRIGDROP).raise (R.RKN_TSTAT n) F.RKN_TSTAT_DROP
    let L2 := if a < 12 then L1.lbFault a 0 else L1
    (L2.fault 1 L.me, false)
  else
    let a := F.CE_TASK_AXIS.get c
    let s := decide (a < 12) && L.axActive a
    let i : Inst := { (default : Inst) with
      task := n, level := F.CE_TASK_LEVEL.get c, trig := L.ticks, pc := L.fld (R.CE_TST n) F.CE_TST_CONT, sample := s, axis := a }
    let L1 := L.updEng fun e => { e with insts := e.insts ++ [i] }
    (if s then L1.axStart a else L1, false)

/-- CE_CTRL.EN has been written (R175, R187): instances that have not begun when it is cleared never start. -/
def Lane.engWritten (L : Lane) (was : Bool) : Lane :=
  let en := L.on R.CE_CTRL F.CE_CTRL_EN
  if en && !was then (if L.on R.CE_CTRL F.CE_CTRL_ACTIVE then L else L.engStart)
  else if !en && was then
    let fresh := L.eng.insts.filter fun i => !i.begun
    let L1 := fresh.foldl (fun X i => let Y := X.dropInst i.task; if i.sample then Y.axEnd i.axis true else Y) L
    if L1.on R.CE_CTRL F.CE_CTRL_ACTIVE then (L1.updEng fun e => { e with closing := true }).engSettle else L1
  else L

/-! ### Landings (R162, R163) -/

/-- A word stored by the engine at the place its view had at issue (R106, R196). -/
def Lane.landWord (L : Lane) (addr place : Nat) (w : Word) : Lane :=
  let put1 : Lane → Nat → Lane := fun X k => { X with mem := put X.mem (place + k) (byteOf w.toNat k) 0#8 }
  let L1 := ((List.range 4).foldl put1 L).updEng fun e => { e with before := e.before.filter fun x => decide (x.1 ≠ place) }
  L1.signW addr w

/-- The word at a place of coefficient RAM. -/
def Lane.placeW (L : Lane) (p : Nat) : Word := w32 (leNat ((List.range 4).map fun k => look L.mem (p + k) 0#8))
/-- What an engine read of a place in a cycle returns: the word from before a write of the lane processor that falls in that cycle or a later one of
the tick (R159). -/
def Lane.engAt (L : Lane) (c p : Nat) : Word :=
  match L.eng.before.find? fun x => decide (x.1 = p) && decide (c ≤ x.2.1) with
  | some x => x.2.2
  | none => L.placeW p
/-- The place of a word of coefficient RAM through its axis's views, and an engine read through them. -/
def Lane.coefPlace (L : Lane) (w : Nat) : Nat := L.place (0x30000000 + 4 * w)
def Lane.engCoef (L : Lane) (c w : Nat) : Word := L.engAt c (L.coefPlace w)
/-- A word of coefficient RAM that the lane processor is about to write (R159): the write falls in the cycle of the tick in which the engine may issue
next, or in its last (log entry 63). -/
def Lane.noteWrite (L : Lane) (a : Nat) : Lane :=
  if 0x30000000 ≤ a ∧ a < 0x30080000 then
    let p := L.place (a - a % 4)
    let c := (L.cycleNow L.eng.next).getD (L.cycOf (2 * L.ticks + 1))
    L.updEng fun e => { e with before := e.before ++ [(p, c, L.placeW p)] }
  else L

def Lane.vreg (L : Lane) (lv r : Nat) : Vec := L.eng.vr.at (16 * lv + r)
def Lane.areg (L : Lane) (lv r : Nat) : Acc := L.eng.ac.at (8 * lv + r)
def Lane.setVreg (L : Lane) (lv r : Nat) (v : Vec) : Lane := L.updEng fun e => { e with vr := e.vr.set (16 * lv + r) v }

/-- Status bits of the instance that issued the result, if it still runs. -/
def Lane.landStat (L : Lane) (l : Landing) (set clr : Word) : Lane :=
  L.updEng fun e => { e with insts := e.insts.map fun i => if i.task = l.task ∧ i.trig = l.trig then { i with status := (i.status &&& ~~~clr) ||| set } else i }

/-- The bit SATF as a word. -/
def satf (b : Bool) : Word := if b then 4 else 0
def wrapf (b : Bool) : Word := if b then 8 else 0

/-- A result lands. -/
def Lane.landOne (L : Lane) (l : Landing) : Lane :=
  match l.eff with
  | .vec d v => L.setVreg l.level d v
  | .el d i w => L.setVreg l.level d ((L.vreg l.level d).setEl i w)
  | .exp d e => L.setVreg l.level d { L.vreg l.level d with e := e }
  | .acc d add prods p =>
    let r := accSum add prods p (L.areg l.level d)
    (L.updEng fun e => { e with ac := e.ac.set (8 * l.level + d) r.1 }).landStat l (satf r.2) 0
  | .stat s c => L.landStat l s c
  | .memw a p w => L.landWord a p w
  | .loop k pc pa => (L.wr (R.CE_LPC k) pc).wr (R.CE_LPA k) pa
  | .matRead id row first ws src =>
    let ps := (List.range ws.length).map fun k => (L.engAt l.cyc (ws.getD k 0)).toInt * src.el (first + k)
    L.updEng fun e => { e with mprod := e.mprod.upd (16 * id + row) fun q => q ++ ps }
  | .matLand id rows add p =>
    let r := rowLand add rows (fun i => L.eng.mprod.at (16 * id + i)) p (L.eng.rb.at l.level)
    (L.updEng fun e => { e with
      rb := e.rb.set l.level r.1, mprod := e.mprod.filter fun x => decide (x.1 < 16 * id ∨ 16 * id + 16 ≤ x.1) }).landStat l (satf r.2) 0

/-- Whether a landing reads a row in its cycle: it comes after the writes that land there. -/
def Landing.reads (l : Landing) : Bool := match l.eff with | .matRead .. => true | _ => false

/-- The landings of one cycle. -/
def Lane.landCyc (L : Lane) (c : Nat) : Lane :=
  let now := L.eng.land.filter fun l => decide (l.cyc = c)
  let L1 := L.updEng fun e => { e with land := e.land.filter fun l => !decide (l.cyc = c) }
  (now.filter Landing.reads).foldl Lane.landOne ((now.filter fun l => !l.reads).foldl Lane.landOne L1)

/-- The landings up to a cycle, in the order of their cycles; `fuel` bounds the distinct cycles. -/
def Lane.landUpto : Nat → Lane → Nat → Lane
  | 0, L, _ => L
  | fuel + 1, L, c =>
    match (L.eng.land.filter fun l => decide (l.cyc ≤ c)).map (·.cyc) with
    | [] => L
    | x :: t => Lane.landUpto fuel (L.landCyc (t.foldl min x)) c
def Lane.landTo (L : Lane) (c : Nat) : Lane := Lane.landUpto L.eng.land.length L c

/-! ### The instruction word (R158 to R160) -/

def insOp (w : BitVec 64) : Nat := w.toNat >>> 58
def insD (w : BitVec 64) : Nat := (w.toNat >>> 54) % 16
def insS (w : BitVec 64) : Nat := (w.toNat >>> 50) % 16
def insT (w : BitVec 64) : Nat := (w.toNat >>> 46) % 16
def insEl (w : BitVec 64) : Nat := (w.toNat >>> 42) % 16
def insSat (w : BitVec 64) : Bool := w.getLsbD 41
def insAcc (w : BitVec 64) : Bool := w.getLsbD 40
def insX (w : BitVec 64) : Nat := (w.toNat >>> 36) % 16
def insImm (w : BitVec 64) : Nat := w.toNat % 2 ^ 32

/-- The bits that an opcode uses (R158, R160), without OP; none for an opcode that R160 does not list. A jump's IMM is used whole: its
target may lie above 8,191 (R182). -/
def opBits (op : Nat) : Option Nat :=
  let d := 0xF * 2 ^ 54
  let da := 7 * 2 ^ 54
  let s := 0xF * 2 ^ 50
  let sa := 7 * 2 ^ 50
  let t := 0xF * 2 ^ 46
  let el := 0xF * 2 ^ 42
  let sat := 2 ^ 41
  let acc := 2 ^ 40
  let x := 0xF * 2 ^ 36
  let x1 := 2 ^ 36
  let x2 := 3 * 2 ^ 36
  let imm := 2 ^ 32 - 1
  match op with
  | 0x00 | 0x01 | 0x02 => some 0
  | 0x03 => some imm
  | 0x04 => some (x + imm)
  | 0x05 => some (x2 + s + el + (2 ^ 29 - 1))
  | 0x06 | 0x07 => some (x2 + (2 ^ 17 - 1))
  | 0x08 => some (x2 + imm)
  | 0x10 => some (d + x + imm)
  | 0x11 => some (s + x + imm)
  | 0x12 => some (d + s)
  | 0x13 => some (d + el + x + imm)
  | 0x14 => some (s + el + x + imm)
  | 0x15 => some (d + el + imm)
  | 0x16 => some (d + 0xFF)
  | 0x17 => some (d + el + x + imm)
  | 0x18 => some (s + el + x + imm)
  | 0x20 | 0x21 | 0x22 => some (d + s + t)
  | 0x23 => some (da + s + t + acc)
  | 0x24 => some (da + s + t + el + x + acc)
  | 0x25 => some (d + el + sa + sat)
  | 0x26 => some (s + acc + x + imm)
  | 0x27 => some (d + x1 + 0xFF + sat)
  | 0x28 | 0x29 => some (d + el + s)
  | 0x2A => some (d + s + t + el)
  | 0x2B => some (d + s + t)
  | 0x2C => some (d + s + t + x1 + 0xFFFF)
  | 0x2D => some (s + el + t + x)
  | _ => none

/-- Whether an instruction is illegal by its word alone (R158, R159, R161, R173, R174, R178). -/
def insIll (w : BitVec 64) : Bool :=
  let op := insOp w
  match opBits op with
  | none => true
  | some m =>
    decide ((w.toNat % 2 ^ 58) ≠ (w.toNat % 2 ^ 58) &&& m)
      || (decide (op = 4) && decide (10 ≤ insX w)) || (decide (op = 8) && decide (insX w = 3))
      || ([0x10, 0x11, 0x13, 0x14, 0x17, 0x18, 0x26].contains op && decide (insX w % 4 = 3))

/-- The word of program memory at an instruction address (R185). -/
def Lane.progWord (L : Lane) (i : Nat) : BitVec 64 :=
  (L.memW (0x32000000 + 8 * i + 4) ++ L.memW (0x32000000 + 8 * i) : BitVec 64)

/-! ### Loops (R169 to R172) -/

def Lane.lpc (L : Lane) (k : Nat) (f : Bf) : Nat := L.fld (R.CE_LPC k) f
def Lane.lpa (L : Lane) (k : Nat) (f : Bf) : Nat := L.fld (R.CE_LPA k) f
/-- Whether a loop level is active for a running level. -/
def Lane.lpOn (L : Lane) (k lv : Nat) : Bool := L.on (R.CE_LPA k) F.CE_LPA_ACT && decide (L.lpa k F.CE_LPA_OWN = lv)
/-- The iteration index (R169). -/
def Lane.iter (L : Lane) (k lv : Nat) : Nat := if L.lpOn k lv then L.lpc k F.CE_LPC_COUNT - L.lpc k F.CE_LPC_LC else 0
/-- The index that a mode adds, times a stride. -/
def Lane.modeAdd (L : Lane) (x lv str : Nat) : Nat := if x % 4 = 1 then str * L.iter 0 lv else if x % 4 = 2 then str * L.iter 1 lv else 0
/-- The effective index of a memory operand (R159). -/
def Lane.memIdx (L : Lane) (w : BitVec 64) (lv : Nat) : Nat := insImm w % 2 ^ 17 + L.modeAdd (insX w) lv (insImm w / 2 ^ 17)

/-- The checks after a fetch from `a` (R171): level 1, then level 0. -/
def Lane.loopChecks (L : Lane) (a lv : Nat) : Lane × Option Nat :=
  let hit : Lane → Nat → Bool := fun X k => X.lpOn k lv && decide (X.lpa k F.CE_LPA_LE = a)
  let one : Lane → Nat → Lane × Option Nat := fun X k =>
    if !hit X k then (X, none)
    else if 1 < X.lpc k F.CE_LPC_LC then (X.setF (R.CE_LPC k) F.CE_LPC_LC (X.lpc k F.CE_LPC_LC - 1), some (X.lpa k F.CE_LPA_LS))
    else (X.setF (R.CE_LPA k) F.CE_LPA_ACT 0, none)
  match one L 1 with
  | (X, some t) => (X, some t)
  | (X, none) => one X 0

/-! ### Issue -/

/-- What an opcode does at issue: the lane with what takes effect at once, the address to go on at where it is not the next, and a
fault. -/
inductive Iss where
  | go (L : Lane) (next : Option Nat)
  | fault (f : Bf)
  | ends (yield : Bool)
  | waits (ev : WaitEv)

/-- Results put in flight. -/
def Lane.fly (L : Lane) (i : Inst) (c : Nat) (es : List LandEff) : Lane :=
  L.updEng fun e => { e with land := e.land ++ es.map fun x => ⟨c, i.level, i.task, i.trig, x⟩ }
/-- An occupancy of the MAC array (R164). -/
def Lane.hold (L : Lane) (c n : Nat) : Lane := L.updEng fun e => { e with macFree := max e.macFree (c + n) }
/-- A result of latency `k` issued in cycle `c`. -/
def Lane.res (L : Lane) (i : Inst) (c k : Nat) (es : List LandEff) : Iss := .go (L.fly i (c + k) es) none
/-- A vector result with its SATF. -/
def Lane.resV (L : Lane) (i : Inst) (c k d : Nat) (r : Vec × Bool) : Iss := L.res i c k [.vec d r.1, .stat (satf r.2) 0]

/-- The words that a store puts in memory from a word index on, at the places of the views now. -/
def Lane.storeEffs (L : Lane) (idx : Nat) (ws : List Word) : List LandEff :=
  (List.range ws.length).map fun k => let a := 0x30000000 + 4 * (idx + k); .memw a (L.place a) (ws.getD k 0)

/-- The lane source of an IN (R173): its word and validity; none outside the ranges. `n` is the instance field with what the mode adds, `sub` the index
above it. -/
def Lane.inSource (L : Lane) (i : Inst) (cls n sub : Nat) : Option (Word × Bool) :=
  match cls with
  | 1 => if n < 64 ∧ sub = 0 then some (L.slotIn n) else none
  | 2 => if n < 8 ∧ sub < 3 then some (L.posIn n sub) else none
  | 3 => if n < 16 ∧ sub = 0 then some (L.rknVal n, decide (8 ≤ n) || decide (L.mcSt n = 6)) else none
  | 4 =>
    if sub ≠ 0 then none
    else if n = 0 then some (w32 (L.ticks - i.trig), true)
    else if n = 1 then some (L.rd (R.RKN_TDLY i.task), true)
    else if n = 2 then some (w32 i.trig, true) else none
  | 5 => if n < 8 ∧ sub < 2 then some (L.sentIn n sub) else none
  | 6 =>
    if n < 12 ∧ sub < 3 then
      let x := L.ax.at n
      some (if sub = 0 then (if x.inAt + 8 ≤ L.ticks then x.inVal else x.inOld) else if sub = 1 then w32 x.started else L.rd (R.FIX_AXAP n), true)
    else none
  | _ => none

/-- The first OUT of an instance (R85). -/
def Lane.firstOut (L : Lane) (i : Inst) : Lane :=
  if i.outDone then L
  else
    let d := min (2 ^ 24 - 1) (L.ticks - i.trig)
    let L1 := (L.updInst i.task fun i => { i with outDone := true }).setF (R.RKN_TDLY i.task) F.RKN_TDLY_DLY d
    if L1.fld (R.RKN_TMAX i.task) F.RKN_TMAX_MAX < d then L1.setF (R.RKN_TMAX i.task) F.RKN_TMAX_MAX d else L1

/-- An OUT to a destination (R174); none outside the ranges. `raw` is X[2]. -/
def Lane.outDest (L : Lane) (cls n sub : Nat) (w : Word) (raw : Bool) : Option Lane :=
  match cls with
  | 1 => if n < 8 ∧ sub < 4 then some (if L.small && decide (4 ≤ n) then L else L.outBridge n sub w) else none
  | 2 => if n < 12 ∧ sub = 0 then some (if L.small && decide (6 ≤ n) then L else L.outValve n w) else none
  | 3 => if n < 12 ∧ sub < 16 then some (L.updAx n fun x => { x with probes := x.probes.set sub w }) else none
  | 4 => if n < 12 ∧ sub = 0 then some (L.updMon n fun m => { m with cmd := some w }) else none
  | 5 =>
    if n < 32 ∧ sub = 0 then
      let L1 := (L.wr (R.CE_OUT n) w).raiseBit R.CE_OUTEV n
      some (if raw then L1.mcEstimate n else L1)
    else none
  | _ => none

/-- The index of an IN or OUT (R173, R174): the instance field, IMM[7:0], with what its mode adds, and the bits above that field. An instance beyond the
field's last one carries into nothing and lies out of range. The timing words of class 4 are taken as instances (log entry 63). -/
def Lane.ioInst (L : Lane) (w : BitVec 64) (lv : Nat) : Nat := insImm w % 256 + L.modeAdd (insX w) lv 1
def ioSub (w : BitVec 64) : Nat := insImm w / 256 % 2 ^ 16
/-- Bits of an instance's status word set at once. -/
def Lane.statNow (L : Lane) (n : Nat) (set : Word) : Lane := L.updInst n fun i => { i with status := i.status ||| set }
/-- The bridges that the END of a task loads (R290): the masks of the enabled entries that name it. -/
def Lane.endLoads (L : Lane) (n : Nat) : Nat :=
  (List.range 4).foldl (fun m k =>
    let w := L.rd (R.EDG_TLD k)
    if F.EDG_TLD_EN.on w && decide (F.EDG_TLD_TASK.get w = n) then m ||| F.EDG_TLD_BMASK.get w else m) 0

/-- The conditions of BRC (R161). -/
def brcHolds (x : Nat) (st : Word) : Bool :=
  let n := bitOf st 0
  let z := bitOf st 1
  match x with
  | 0 => true
  | 1 => n
  | 2 => !n
  | 3 => z
  | 4 => !z
  | 5 => n || z
  | 6 => !(n || z)
  | 7 => bitOf st 2
  | 8 => bitOf st 4
  | 9 => decide (65536 ≤ st.toNat)
  | _ => false

/-- Whether an address lies among the last three of the body of an active loop of the level (R165). -/
def Lane.nearEnd (L : Lane) (a lv : Nat) : Bool :=
  [0, 1].any fun k => L.lpOn k lv && decide (L.lpa k F.CE_LPA_LS ≤ a) && decide (a ≤ L.lpa k F.CE_LPA_LE) && decide (L.lpa k F.CE_LPA_LE ≤ a + 2)

/-- The issue of the instruction at the program counter: `op` is the opcode of the command, and `w` the word it names. An instruction
other than that is no such event. `f` gives the opcode's own effect. Every fetch is followed by the loop checks of R171, also that of an END, a YIELD or an
instruction that faults; a LOOP that skips its body goes on after it whatever they redirect (log entry 63). A fetch that has run past instruction 8,191 is an
address fault (log entry 63). -/
def Lane.engIssue (L : Lane) (w : BitVec 64) (f : Lane → Inst → Nat → Iss) : Lane :=
  match L.cycleNow L.eng.next with
  | none => L
  | some c =>
    let L1 := (L.landTo c).engPick
    match L1.eng.run with
    | none => L
    | some n => match L1.instOf n with
      | none => L
      | some i =>
        if L.engHalted = true ∨ (L1.engPreempts c).isSome ∨ (i.pc < 8192 ∧ L1.progWord i.pc ≠ w) ∨ i.trig + L1.fld (R.RKN_TDL n) F.RKN_TDL_DL < L1.ticks then L
        else
          let bad : Bf → Lane := fun fl => ((L1.loopChecks i.pc i.level).1.ceFault n i.pc fl).abandon i c
          let jump := decide (insOp w = 3 ∨ insOp w = 4)
          if 8192 ≤ i.pc then bad F.CE_FAULT_ADDR
          else if L1.pmPar.at i.pc then bad F.CE_FAULT_PAR
          else if insIll w then bad F.CE_FAULT_ILL
          else if (jump ∨ insOp w = 5) ∧ 0 < i.slots then bad F.CE_FAULT_PLACE
          else if jump ∧ L1.nearEnd i.pc i.level = true then bad F.CE_FAULT_PLACE
          else match f L1 i c with
            | .fault fl => bad fl
            | .ends y =>
              let L2 := ((L1.bump R.CE_UTIL ⟨0, 32⟩ 1).updEng fun e => { e with next := c + 1 }).loopChecks i.pc i.level |>.1
              let cont := if y then i.pc + 1 else L2.fld (R.CE_TASK n) F.CE_TASK_ENTRY
              let L3 := (L2.setF (R.CE_TST n) F.CE_TST_CONT cont).instEnd i c false
              let m := if y then 0 else L3.endLoads n
              if m = 0 then L3 else Lane.emit (L3.loadEdges L3.me m)
            | .waits ev =>
              let L2 := (L1.bump R.CE_UTIL ⟨0, 32⟩ 1).updEng fun e => { e with next := c + 1 }
              let k := L2.loopChecks i.pc i.level
              let pc := k.2.getD (i.pc + 1)
              let last := decide (i.slots = 1)
              let L3 := k.1.updInst n fun i => { i with pc := if last then i.target.getD pc else pc, slots := i.slots - 1 }
              if L3.waitOver i ev then L3
              else (L3.updInst n fun i => { i with wait := some ev }).updEng fun e => { e with run := none, next := c + 3 }
            | .go L2 nx =>
              let L3 := (L2.bump R.CE_UTIL ⟨0, 32⟩ 1).updEng fun e => { e with next := c + 1 }
              let k := L3.loopChecks i.pc i.level
              let pc := nx.getD (k.2.getD (i.pc + 1))
              if jump then k.1.updInst n fun i => { i with pc := pc }
              else
                let last := decide (i.slots = 1)
                k.1.updInst n fun j => { j with pc := if last then j.target.getD pc else pc, slots := j.slots - 1, target := if last then none else j.target }

/-! ### What each opcode does (R160) -/

def issNop (L : Lane) : Iss := .go L none

/-- JMP and BRC (R161, R165): the target is taken after two delay slots. -/
def issJump (w : BitVec 64) (L : Lane) (i : Inst) (take : Bool) : Iss :=
  if 8191 < insImm w then .fault F.CE_FAULT_ADDR
  else .go (L.updInst i.task fun i => { i with slots := 2, target := if take then some (insImm w) else none }) none

/-- LOOP (R170). -/
def issLoop (w : BitVec 64) (L : Lane) (i : Inst) : Iss :=
  let e := insImm w / 65536
  let n : Int := if insX w / 2 % 2 = 1 then min 65535 ((L.vreg i.level (insS w)).el (insEl w)) else (insImm w % 65536 : Nat)
  if e < i.pc + 1 then .fault F.CE_FAULT_PLACE
  else if n ≤ 0 then .go L (some (e + 1))
  else
    let k := insX w % 2
    let pc := F.CE_LPC_COUNT.set (F.CE_LPC_LC.set 0 n.toNat) n.toNat
    let pa := F.CE_LPA_OWN.set (F.CE_LPA_ACT.set (F.CE_LPA_LE.set (F.CE_LPA_LS.set 0 (i.pc + 1)) e) 1) i.level
    .go ((L.wr (R.CE_LPC k) pc).wr (R.CE_LPA k) pa) none

/-- The levels that a mask names. -/
def lpLevels (w : BitVec 64) : List Nat := [0, 1].filter fun k => (insX w).testBit k
def lpFails (w : BitVec 64) : Bool := (lpLevels w).any fun k => decide (131072 < insImm w + 2 * k + 2)

/-- LPST and LPLD (R172, R183). -/
def issLpst (w : BitVec 64) (L : Lane) (i : Inst) (c : Nat) : Iss :=
  if lpFails w then .fault F.CE_FAULT_ADDR
  else (L.updInst i.task fun i => { i with saved := true }).res i c 2
    ((lpLevels w).flatMap fun k => L.storeEffs (insImm w + 2 * k) [L.rd (R.CE_LPC k), L.rd (R.CE_LPA k)])
def issLpld (w : BitVec 64) (L : Lane) (i : Inst) (c : Nat) : Iss :=
  if lpFails w then .fault F.CE_FAULT_ADDR
  else (L.updInst i.task fun i => { i with saved := false }).res i c 2
    ((lpLevels w).map fun k => .loop k (L.engCoef c (insImm w + 2 * k)) (L.engCoef c (insImm w + 2 * k + 1) &&& 0xFFFF1FFF))

/-- WAIT (R178). -/
def issWait (w : BitVec 64) : Iss :=
  match insX w with
  | 0 => .waits (.seqDone (insImm w % 16))
  | 1 => .waits (.wpFire (insImm w % 128))
  | _ => .waits (.elapsed (insImm w % 2 ^ 24))

def Lane.idxBad (L : Lane) (w : BitVec 64) (lv n : Nat) : Bool := decide (131072 < L.memIdx w lv + n)

/-- VLD and ELD. -/
def issVld (w : BitVec 64) (L : Lane) (i : Inst) (c : Nat) : Iss :=
  let x := L.memIdx w i.level
  if L.idxBad w i.level 17 then .fault F.CE_FAULT_ADDR
  else L.res i c 4 [.vec (insD w) (Vec.of (fun k => L.engCoef c (x + k)) (sext 8 (L.engCoef c (x + 16)).toNat))]
def issEld (w : BitVec 64) (L : Lane) (i : Inst) (c : Nat) : Iss :=
  if L.idxBad w i.level 1 then .fault F.CE_FAULT_ADDR
  else L.res i c 4 [.el (insD w) (insEl w) (L.engCoef c (L.memIdx w i.level))]

/-- VST and EST. -/
def issVst (w : BitVec 64) (L : Lane) (i : Inst) (c : Nat) : Iss :=
  let v := L.vreg i.level (insS w)
  if L.idxBad w i.level 17 then .fault F.CE_FAULT_ADDR
  else L.res i c 2 (L.storeEffs (L.memIdx w i.level) (((List.range 16).map fun k => v.m.at k) ++ [w32 ((wInt v.e).toNat % 256)]))
def issEst (w : BitVec 64) (L : Lane) (i : Inst) (c : Nat) : Iss :=
  if L.idxBad w i.level 1 then .fault F.CE_FAULT_ADDR
  else L.res i c 2 (L.storeEffs (L.memIdx w i.level) [(L.vreg i.level (insS w)).m.at (insEl w)])

/-- IN (R173). -/
def issIn (w : BitVec 64) (L : Lane) (i : Inst) (c : Nat) : Iss :=
  match L.inSource i (insImm w / 2 ^ 24) (L.ioInst w i.level) (ioSub w) with
  | none => .fault F.CE_FAULT_ADDR
  | some r => L.res i c 4 [.el (insD w) (insEl w) r.1, .stat (if r.2 then 0 else 16) 0]

/-- OUT (R154, R174): the conversion to exponent 0 saturates. -/
def issOut (w : BitVec 64) (L : Lane) (i : Inst) : Iss :=
  let v := L.vreg i.level (insS w)
  let raw := decide (insX w / 4 % 2 = 1)
  let q := scaleI (v.el (insEl w)) v.e
  let x := if raw then v.m.at (insEl w) else wInt (satI 32 q)
  match L.outDest (insImm w / 2 ^ 24) (L.ioInst w i.level) (ioSub w) x raw with
  | none => .fault F.CE_FAULT_ADDR
  | some X => .go ((X.firstOut i).statNow i.task (satf (!raw && decide (satI 32 q ≠ q)))) none

/-- A product of two vectors: hazard while the array is held, else held for `n` cycles (R164). -/
def Lane.macs (L : Lane) (c n : Nat) (r : Lane → Iss) : Iss := if c < L.eng.macFree then .fault F.CE_FAULT_HAZ else r (L.hold c n)

def issVmul (w : BitVec 64) (L : Lane) (i : Inst) (c : Nat) : Iss :=
  L.macs c 2 fun X => X.resV i c 4 (insD w) (vecMul (L.vreg i.level (insS w)) (L.vreg i.level (insT w)))
def issVdot (w : BitVec 64) (L : Lane) (i : Inst) (c : Nat) : Iss :=
  let x := L.vreg i.level (insS w)
  let y := L.vreg i.level (insT w)
  L.macs c 2 fun X => X.res i c 4 [.acc (insD w) (insAcc w) (dotProds x y) (x.e + y.e)]
def issMacs (w : BitVec 64) (L : Lane) (i : Inst) (c : Nat) : Iss :=
  let x := L.vreg i.level (insS w)
  let y := L.vreg i.level (insT w)
  L.macs c 1 fun X => X.res i c 3 [.acc (insD w) (insAcc w) [x.el (insEl w) * y.el (insX w)] (x.e + y.e)]

/-- ST. -/
def issSt (w : BitVec 64) (L : Lane) (i : Inst) (c : Nat) : Iss :=
  let r := accNarrow (insSat w) (L.areg i.level (insS w)) (L.vreg i.level (insD w)).e
  L.res i c 2 [.el (insD w) (insEl w) r.1, .stat (satf r.2.1 ||| wrapf r.2.2) 0]

/-- MATVEC (R166, R167): its rows are read at the places that its axis's views show at issue (R196). -/
def issMatvec (w : BitVec 64) (L : Lane) (i : Inst) (c : Nat) : Iss :=
  let b := L.memIdx w i.level
  if 131071 < b then .fault F.CE_FAULT_ADDR
  else
    let d := L.engCoef c b
    let r := matRows d
    let n := matCols d
    if !matLegal d then .fault F.CE_FAULT_ILL
    else if 131071 < b + r * n then .fault F.CE_FAULT_ADDR
    else
      let g := (n + 7) / 8
      let src := L.vreg i.level (insS w)
      let id := L.eng.mats
      L.macs c (r * g) fun X =>
        let reads : List Landing := (List.range (r * g)).map fun k =>
          let first := 8 * (k % g)
          ⟨c + k, i.level, i.task, i.trig, .matRead id (k / g) first
            ((List.range (min n (first + 8) - first)).map fun j => X.coefPlace (b + 1 + (k / g) * n + first + j)) src⟩
        let fin : Landing := ⟨c + r * g + 3, i.level, i.task, i.trig, .matLand id r (insAcc w) (matExp d + src.e)⟩
        let Y := X.updEng fun e => { e with mats := id + 1, land := e.land ++ reads ++ [fin] }
        .go (Y.landTo c) none

/-- MVST (R168). -/
def issMvst (w : BitVec 64) (L : Lane) (i : Inst) (c : Nat) : Iss :=
  let r := rowNarrow (L.eng.rb.at i.level) (if insX w % 2 = 1 then some (sext 8 (insImm w)) else none) (insSat w)
  L.res i c 3 [.vec (insD w) r.1, .stat (satf r.2.1 ||| wrapf r.2.2) 0]

/-- SHV. -/
def issShv (w : BitVec 64) (L : Lane) (i : Inst) (c : Nat) : Iss :=
  L.resV i c 2 (insD w) (vecShift (L.vreg i.level (insS w)) ((L.vreg i.level (insT w)).el (insEl w)))

/-- VLIM, with SATM in the status word's upper half. -/
def issVlim (w : BitVec 64) (L : Lane) (i : Inst) (c : Nat) : Iss :=
  let r := vecLim (L.vreg i.level (insS w)) (L.vreg i.level (insT w))
  L.res i c 2 [.vec (insD w) r.1, .stat (w32 (r.2 * 65536)) 0xFFFF0000]

/-- VSEL. -/
def issVsel (w : BitVec 64) (L : Lane) (i : Inst) (c : Nat) : Iss :=
  let m := if insX w % 2 = 1 then i.status.toNat / 65536 else insImm w % 65536
  L.res i c 1 [.vec (insD w) (vecSel (L.vreg i.level (insS w)) (L.vreg i.level (insT w)) m)]

/-- CMP. -/
def issCmp (w : BitVec 64) (L : Lane) (i : Inst) (c : Nat) : Iss :=
  let x := L.vreg i.level (insS w)
  let y := L.vreg i.level (insT w)
  let r := cmpReal (x.el (insEl w)) x.e (y.el (insX w)) y.e
  L.res i c 2 [.stat (w32 (b2n r.1 + 2 * b2n r.2)) 3]

/-! ### Task configuration and program memory (R179, R185, R186) -/

/-- CE_TASKn has been written. -/
def Lane.taskWritten (L : Lane) (n : Nat) : Lane := L.setF (R.CE_TST n) F.CE_TST_CONT (L.fld (R.CE_TASK n) F.CE_TASK_ENTRY)

/-- The state that CE_TSTn shows: 0 idle, 1 ready, 2 running, 3 pre-empted, 4 waiting. -/
def Lane.taskState (L : Lane) (n : Nat) : Nat :=
  match L.instOf n with
  | none => 0
  | some i => if i.wait.isSome then 4 else if L.eng.run = some n then 2 else if i.begun then 3 else 1

/-- Whether the safety lock holds program memory (R186, CE_STAT.PLOCK), and whether a lane-processor write to it is refused. -/
def Lane.pmSafe (L : Lane) : Bool := L.on R.IMG_LOCK_STAT F.IMG_LOCK_STAT_LOCKED && !L.on R.FIX_DBG F.FIX_DBG_RIG
def Lane.pmLocked (L : Lane) : Bool := L.on R.CE_CTRL F.CE_CTRL_ACTIVE || L.pmSafe

end Sys2Proof.Machine
end

