-- ==== Sys2Proof/Machine/Way.lean ====
section
/-! DEFINITION. The waypoints of a lane (R65 to R81, R623): arming, firing with its action, repeats and pairs. -/

namespace Sys2Proof.Machine

def Lane.wpCfg (L : Lane) (w : Nat) : Word := L.rd (R.RKN_WP_CFG w)
def Lane.wpArmed (L : Lane) (w : Nat) : Bool := L.on (R.RKN_WP_STAT w) F.RKN_WP_STAT_ARMED
def Lane.wpRkn (L : Lane) (w : Nat) : Nat := F.RKN_WP_CFG_RKN.get (L.wpCfg w)
def Lane.wpRepeat (L : Lane) (w : Nat) : Bool := F.RKN_WP_CFG_REPEAT.on (L.wpCfg w)
def Lane.wpBack (L : Lane) (w : Nat) : Bool := (L.wp.at w).back
def Lane.wpUnit (L : Lane) : Bool := L.on R.RKN_CTRL F.RKN_CTRL_ACTIVE

/-- The even waypoint of a pair that `w` belongs to (R78). -/
def Lane.wpPair (L : Lane) (w : Nat) : Option Nat :=
  let k := w - w % 2
  if F.RKN_WP_CFG_PAIR.on (L.wpCfg k) then some k else none
def wpOther (w : Nat) : Nat := if w % 2 = 0 then w + 1 else w - 1

/-- Whether an armed waypoint is held by its pair (R78). -/
def Lane.wpHeld (L : Lane) (w : Nat) : Bool := (L.wpPair w).isSome && !L.wpArmed (wpOther w)

/-- d of R67: reckoner minus compare, as two's complement. -/
def Lane.wpD (L : Lane) (w : Nat) : Int := (L.rknVal (L.wpRkn w) - L.rd (R.RKN_WP_CMP w)).toInt
/-- Whether the reckoner has reached the compare value. -/
def Lane.wpReached (L : Lane) (w : Nat) : Bool := !(L.wp.at w).skip && if L.wpBack w then decide (L.wpD w ≤ 0) else decide (0 ≤ L.wpD w)
/-- Whether a waypoint is due to fire; none fires while the lanes are halted (R143). -/
def Lane.wpDue (L : Lane) (w : Nat) : Bool := L.wpUnit && !L.on R.FIX_DBG F.FIX_DBG_HALTED && L.wpArmed w && !L.wpHeld w && L.wpReached w

/-- The action of a waypoint (R71, R72): the waypoint takes CFG_ERR where the task refuses the trigger (R82, R176). An axis of 12 to 15 in
ACTION 4, for which the spec states nothing, toggles no trigger (DESIGN CHOICE, log entry 56). -/
def Lane.wpAction (L : Lane) (w : Nat) : Lane :=
  let arg := L.fld (R.RKN_WP_ARG w) F.RKN_WP_ARG_ARG
  match F.RKN_WP_CFG_ACTION.get (L.wpCfg w) with
  | 1 =>
    let n := arg % 64
    let same := match L.instOf n with | some i => decide (i.trig = L.ticks) | none => false
    if same then L
    else
      let r := L.taskTrigger n
      if r.2 then r.1.raise (R.RKN_WP_STAT w) F.RKN_WP_STAT_CFG_ERR else r.1
  | 2 => L.seqStart (arg % 16)
  | 3 => Lane.emit (L.loadEdges L.me arg)
  | 4 => if arg % 16 < 12 then L.lbToggle (arg % 16) else L
  | _ => L

/-- The further steps after an advance (R76): `x` is how far the compare lies behind, at least 0, and `s` the step. With the step
rewritten to 0 no step leads ahead: the compare stays, and x + 1 steps count as skipped (DESIGN CHOICE, log entry 56). -/
def furtherSteps (x : Nat) (s : Nat) : Nat :=
  if s ≤ 2 ^ 31 then x / max 1 s + 1 else (2 ^ 31 - x + (2 ^ 32 - s) - 1) / (2 ^ 32 - s)

/-- A firing recorded: FIRED, COUNT, LATE with the strict fault of R81, and the advance or the end of arming (R75, R76); `adv` false
discards the advance (R74). -/
def Lane.wpRecord (L : Lane) (w : Nat) (late adv : Bool) : Lane :=
  let L1 := ((L.raise (R.RKN_WP_STAT w) F.RKN_WP_STAT_FIRED).setF (R.RKN_WP_STAT w) F.RKN_WP_STAT_COUNT
    (L.fld (R.RKN_WP_STAT w) F.RKN_WP_STAT_COUNT + 1)).updWp w fun x => { x with firedAt := L.ticks + 1 }
  let step := L.rd (R.RKN_WP_STEP w)
  let cmp := L.rd (R.RKN_WP_CMP w)
  let rep := L.wpRepeat w
  let next := if L.wpBack w then cmp - step else cmp + step
  let d := (L.rknVal (L.wpRkn w) - next).toInt
  let behind : Int := if L.wpBack w then -d else d
  let k := if adv ∧ rep ∧ 0 ≤ behind then furtherSteps behind.toNat step.toNat else 0
  let L2 :=
    if rep && !adv then L1
    else if rep then
      let c := if L.wpBack w then next - w32 k * step else next + w32 k * step
      (L1.wr (R.RKN_WP_CMP w) c).setF (R.RKN_WP_STAT w) F.RKN_WP_STAT_SKIP (min 255 k)
    else L1.setF (R.RKN_WP_STAT w) F.RKN_WP_STAT_ARMED 0
  if late || decide (0 < k) then
    let L3 := L2.raise (R.RKN_WP_STAT w) F.RKN_WP_STAT_LATE
    if F.RKN_WP_CFG_STRICT.on (L.wpCfg w) then
      let L4 := if L3.on R.RKN_FAULT F.RKN_FAULT_STRICTF then L3 else L3.setF R.RKN_FAULT F.RKN_FAULT_WPNUM w
      (L4.raise R.RKN_FAULT F.RKN_FAULT_STRICTF).fault 1 L.me
    else L3
  else L2

/-- The other waypoint of a pair moves its compare to its reckoner's value plus its own step (R79). -/
def Lane.wpFollow (L : Lane) (w : Nat) : Lane :=
  let v := L.rknVal (L.wpRkn w)
  let s := L.rd (R.RKN_WP_STEP w)
  L.wr (R.RKN_WP_CMP w) (if L.wpBack w then v - s else v + s)

/-- Waypoint `w` fires, with the other of its pair where that is due too (R79, R80): the action runs once. `late` says of a waypoint that
it fires late, `adv` that its advance stands. -/
def Lane.wpFire (L : Lane) (w : Nat) (late adv : Nat → Bool) : Lane :=
  match L.wpPair w with
  | none => (L.wpRecord w (late w) (adv w)).wpAction w
  | some k =>
    let both := L.wpDue (wpOther w)
    let L1 :=
      if both then (L.wpRecord k (late k) (adv k)).wpRecord (k + 1) (late (k + 1)) (adv (k + 1))
      else (L.wpRecord w (late w) (adv w)).wpFollow (wpOther w)
    let L2 := (L1.setF (R.RKN_WP_STAT k) F.RKN_WP_STAT_BOTH (b2n both)).setF (R.RKN_WP_STAT k) F.RKN_WP_STAT_BY_PARTNER
      (b2n (!both && decide (w ≠ k)))
    L2.wpAction k

/-- Waypoints checked in ascending order: those reached fire, the two of a pair together. -/
def Lane.wpCheck (L : Lane) (ws : List Nat) (late : Lane → Nat → Bool) : Lane :=
  let due := ws.filter L.wpDue
  due.foldl (fun X w =>
    let done := (L.wpPair w).isSome && decide (w % 2 = 1) && due.contains (wpOther w)
    if done then X else X.wpFire w (fun x => ws.contains x && late L x) (fun _ => true)) L

/-- Late at arming: behind the present position (R68). -/
def Lane.wpBehind (L : Lane) (w : Nat) : Bool := decide (L.wpD w ≠ 0)

/-- Whether an arming is refused (R66, R69, R71, R77). -/
def Lane.wpBad (L : Lane) (w : Nat) : Bool :=
  let c := L.wpCfg w
  let dir := F.RKN_WP_CFG_DIR.get c
  let back := decide (dir = 1) || (decide (dir = 2) && bitOf (L.rd R.RKN_STAT) (L.wpRkn w))
  decide (dir = 3) || (back && decide (12 ≤ L.wpRkn w)) || (L.wpRepeat w && decide (L.rd (R.RKN_WP_STEP w) = 0))
    || decide (6 ≤ F.RKN_WP_CFG_ACTION.get c)

/-- A new arming (R66, R68, R69, R77, R78). A refused one ends the earlier arming of the waypoint (DESIGN CHOICE, log entry 56). -/
def Lane.wpArm (L : Lane) (w : Nat) : Lane :=
  if L.wpBad w then (L.setF (R.RKN_WP_STAT w) F.RKN_WP_STAT_ARMED 0).raise (R.RKN_WP_STAT w) F.RKN_WP_STAT_CFG_ERR
  else
    let dir := F.RKN_WP_CFG_DIR.get (L.wpCfg w)
    let was := L.wpArmed w
    let L1 := (L.setF (R.RKN_WP_STAT w) F.RKN_WP_STAT_ARMED 1).updWp w fun x => { x with
      back := decide (dir = 1) || (decide (dir = 2) && bitOf (L.rd R.RKN_STAT) (L.wpRkn w)), skip := false }
    match L1.wpPair w with
    | none => L1.wpCheck [w] Lane.wpBehind
    | some k =>
      if !L1.wpArmed (wpOther w) then L1
      else if !L1.wpRepeat k || !L1.wpRepeat (k + 1) then
        ((L1.setF (R.RKN_WP_STAT k) F.RKN_WP_STAT_ARMED 0).setF (R.RKN_WP_STAT (k + 1)) F.RKN_WP_STAT_ARMED 0).raise (R.RKN_WP_STAT k)
          F.RKN_WP_STAT_CFG_ERR
      else L1.wpCheck (if was then [w] else [k, k + 1]) Lane.wpBehind

/-- ARM written 0 (R51, R73); `due` says that the waypoint fires in this cycle. -/
def Lane.wpDisarm (L : Lane) (w : Nat) (due : Bool) : Lane :=
  let L1 := if due then L.wpFire w (fun _ => false) (fun _ => true) else L
  let L2 := L1.setF (R.RKN_WP_STAT w) F.RKN_WP_STAT_ARMED 0
  if due ∨ (L.wp.at w).firedAt = L.ticks + 1 then L2.raise (R.RKN_WP_STAT w) F.RKN_WP_STAT_ABORT_LATE
  else L2.setF (R.RKN_WP_STAT w) F.RKN_WP_STAT_ABORT_LATE 0

/-- A write of RKN_WP_CFGw (R66, R73); PAIR of an odd waypoint reads 0 (R78). `old` is the lane before the write. -/
def Lane.wpCfgWritten (L old : Lane) (w : Nat) : Lane :=
  let L0 := if w % 2 = 1 then L.setF (R.RKN_WP_CFG w) F.RKN_WP_CFG_PAIR 0 else L
  if F.RKN_WP_CFG_ARM.on (L0.wpCfg w) then L0.wpArm w
  else if F.RKN_WP_CFG_ARM.on (old.wpCfg w) then
    -- a firing in this cycle completes on the configuration that it was armed with
    (if old.wpDue w then ((old.wpDisarm w true).wr (R.RKN_WP_CFG w) (L0.wpCfg w)) else L0.wpDisarm w false)
  else L0

/-- A write of RKN_WP_CMPw (R66, R74): `v` is the value written, and a waypoint due in this cycle fires on the old one first. -/
def Lane.wpCmpWrite (L : Lane) (w : Nat) (v : Word) : Lane :=
  let L1 := if L.wpDue w then L.wpFire w (fun _ => false) (fun x => decide (x ≠ w)) else L
  let L2 := L1.wr (R.RKN_WP_CMP w) v
  if F.RKN_WP_CFG_ARM.on (L2.wpCfg w) then L2.wpArm w else L2

/-- Every waypoint's place is judged afresh, as at an arming. -/
def Lane.wpFresh (L : Lane) : Lane := { L with wp := L.wp.map fun e => (e.1, { e.2 with skip := false }) }
/-- A waypoint that lies before its compare value again fires on its next crossing (R62). -/
def Lane.wpSettle (L : Lane) : Lane :=
  { L with wp := L.wp.map fun e => if e.2.skip && decide (L.wpD e.1 < 0) then (e.1, { e.2 with skip := false }) else e }

/-- The unit becomes active: every armed waypoint that is not held is checked as if armed in this tick (R623). -/
def Lane.rknStart (L : Lane) : Lane := (L.wpFresh.setF R.RKN_CTRL F.RKN_CTRL_ACTIVE 1).wpCheck (List.range 128) Lane.wpBehind

/-- RKN_CTRL.EN has been written (R623); a disable ends with the tick (R48). -/
def Lane.rknWritten (L : Lane) (was : Bool) : Lane :=
  let en := L.on R.RKN_CTRL F.RKN_CTRL_EN
  if en && !was then (if L.wpUnit then L else L.rknStart)
  else if !en && was && L.wpUnit then { L with rknClosing := true }
  else L

/-- The tick ends a disable; EN set again meanwhile starts the unit afresh (R48, R49). -/
def Lane.rknSettle (L : Lane) : Lane :=
  if L.rknClosing then
    let L1 := { L with rknClosing := false }.setF R.RKN_CTRL F.RKN_CTRL_ACTIVE 0
    if L1.on R.RKN_CTRL F.RKN_CTRL_EN then L1.rknStart else L1
  else L

/-- A waypoint's crossing (R67, R72): it fires where it is due and no lower-numbered one of another pair is. -/
def Lane.wpCross (L : Lane) (w : Nat) : Lane :=
  let both := (L.wpPair w).isSome && L.wpDue (wpOther w)
  let first := if both then w - w % 2 else w
  if L.wpDue w && !(List.range first).any L.wpDue then L.wpFire w (fun _ => false) (fun _ => true) else L

/-- A forward step of reckoner 13 has crossed waypoints (R62): they fire in that tick and are late. -/
def Lane.wpStep13 (L : Lane) : Lane :=
  if L.wpUnit then L.wpCheck ((List.range 128).filter fun w => decide (L.wpRkn w = 13)) (fun _ _ => true) else L

/-- On a debug resume, every armed waypoint that was passed during the halt fires at once and is late (R143). -/
def Lane.wpResume (L : Lane) : Lane := if L.wpUnit then L.wpFresh.wpCheck (List.range 128) Lane.wpBehind else L

end Sys2Proof.Machine
end

