-- ==== Sys2Proof/Machine/CkApply.lean ====
section
/-! DEFINITION. The apply instant of a lane (R94, R98, R108 to R116, R123, R126 to R138, R500, R503, R505, R510, R522, R523, R535 to R541,
R567, R568): what is adopted, agreed and declared there, checkpoint zero, the split and the join, and the sleep steps. -/

namespace Sys2Proof.Machine

/-! ### Odd lanes (R98, R101 to R116, R127) -/

/-- The count of a lane in FIX_RSCNT. -/
def rsBf (k : Nat) : Bf := ⟨8 * k, 8⟩

/-- A lane is declared odd (R126, R127, R489): `cause` is that of FIX_EVT.CAUSE. -/
def Lane.declareOdd (L : Lane) (k cause : Nat) : Lane :=
  let L1 := ((L.raise R.FIX_EVT F.FIX_EVT_ODDEV).setF R.FIX_EVT F.FIX_EVT_ODDLANE k).setF R.FIX_EVT F.FIX_EVT_CAUSE cause
  let L2 := (L1.setSta k 4).bump R.FIX_RSCNT (rsBf k) 1
  let L3 := L2.fault (if cause = 6 then 2 else if cause = 9 then 3 else if cause = 7 then 4 else 1) k
  let L4 := (List.range 12).foldl (fun X a => X.lbFault a 2) L3
  let L5 := if k = L.me then L4.updCk fun c => { c with oddAt := L.ticks } else L4
  if L.fld R.FIX_CTRL F.FIX_CTRL_MAXRESYNC = 0 then L5.setSta k 9 else L5

/-! ### Modes and sleep (R535, R536, R567, R568) -/

/-- A block stopped for sleep is restarted where its enable still reads 1 (R568). -/
def Lane.sleepRestart (L : Lane) (k : Nat) : Lane :=
  if k = 1 then
    let L0 := L.setF R.SAFE_CTRL F.SAFE_CTRL_ACTIVE (L.fld R.SAFE_CTRL F.SAFE_CTRL_EN)
    let L1 := if L0.on R.HNET_CTRL F.HNET_CTRL_EN && !L0.on R.HNET_CTRL F.HNET_CTRL_ACTIVE then L0.hnEnable else L0
    let L2 := if L1.on R.ISB_CTRL F.ISB_CTRL_EN then Lane.emitR (L1.canEnable L.me 2 0) else L1
    let L3 := if L2.on R.SVC_CTRL F.ISB_CTRL_EN then Lane.emitR (L2.canEnable L.me 3 0) else L2
    (List.range 2).foldl (fun X p => if X.on (R.ETH_CTRL p) F.ETH_CTRL_EN then X.ethEnable p 0 else X) L3
  else if k = 2 then
    let L1 := if L.on R.CE_CTRL F.CE_CTRL_EN then L.engStart else L
    if L1.on R.RKN_CTRL F.RKN_CTRL_EN then L1.rknStart else L1
  else if k = 3 then
    let L1 := ((if L.on R.MEAS_REF F.MEAS_REF_EN then L.refWritten false else L).measWritten false).posCtrlWritten false
    (List.range 8).foldl (fun X m => if X.on (R.SENT_CFG m) F.SENT_CFG_EN && !X.on (R.SENT_CFG m) F.SENT_CFG_ACTIVE then X.sentWritten m false else X) L1
  else L

/-- The cause of a refused mode request (R536), 0 for none; `wake` says that a level wake source is active. -/
def Lane.modeCause (L : Lane) (req : Nat) (wake : Bool) : Nat :=
  if req ≠ 2 ∧ L.still = false then 1
  else if req = 2 ∧ L.devLo = true then 2
  else if req = 2 ∧ L.on R.PWR_STAT F.PWR_STAT_DEP2 = true ∧ L.fld R.IMG_FLAGS ⟨1, 1⟩ = 0 then 3
  else if 1 ≤ L.dmode ∧ L.dmode ≤ 3 then 4
  else if 4 ≤ req ∧ wake = true then 5
  else if 4 ≤ req ∧ L.base = 2 then 6
  else if L.fld R.FIX_SPLIT F.FIX_SPLIT_SSTATE ≠ 0 then 7
  else 0

/-- A sleep step begins. -/
def Lane.sleepStep (L : Lane) (k : Nat) : Lane :=
  (L.setF R.PWR_SLPST F.PWR_SLPST_STEP k).updPw fun p => { p with slpAt := L.ticks, slpAns := none }

/-- An agreed mode request (R535, R536). -/
def Lane.modeReq (L : Lane) (req : Nat) (wake : Bool) : Lane :=
  if req = L.base ∨ ¬ (req = 1 ∨ req = 2 ∨ req = 4 ∨ req = 5) then L
  else
    let c := L.modeCause req wake
    if c ≠ 0 then (L.raise R.PWR_EVT F.PWR_EVT_MREF).setF R.PWR_STAT F.PWR_STAT_MCAUSE c
    else if req ≤ 2 then L.adoptMode (Bf.set ⟨0, 2⟩ (L.rd R.PWR_MODE) req)
    else if L.on R.PWR_SLPST F.PWR_SLPST_RUN then L
    else ((L.setF R.PWR_SLPST F.PWR_SLPST_RUN 1).sleepStep 1).updPw fun p => { p with slpReq := req, slpUndo := false }

/-- A sleep step is refused (R568). -/
def Lane.sleepAbort (L : Lane) (k cause : Nat) : Lane :=
  let L1 := (L.setF R.PWR_SLPST F.PWR_SLPST_REFBLK k).setF R.PWR_SLPST F.PWR_SLPST_RCAUSE cause
  let L2 := (L1.raise R.PWR_EVT F.PWR_EVT_SLPABORT).updPw fun p => { p with slpUndo := true, slpAns := none }
  L2.logRec 7 (L2.rd R.PWR_SLPST) 0 0 0

/-- The sleep sequence at an apply instant: `as` holds what the lanes report, `need` how many must agree. -/
def Lane.sleepApply (L : Lane) (need : Nat) (as : List (Option (Nat × Nat))) : Lane :=
  let k := L.fld R.PWR_SLPST F.PWR_SLPST_STEP
  if !L.on R.PWR_SLPST F.PWR_SLPST_RUN then L
  else if L.pw.slpUndo then
    let L1 := (L.sleepRestart (k - 1)).setF R.PWR_SLPST F.PWR_SLPST_STEP (k - 1)
    if k ≤ 1 then (L1.setF R.PWR_SLPST F.PWR_SLPST_RUN 0).updPw fun p => { p with slpUndo := false } else L1
  else
    let mine := as.filterMap fun a => match a with | some (s, c) => if s = k then some c else none | none => none
    let acks := mine.countP fun c => decide (c = 0)
    let refs := mine.filter fun c => decide (c ≠ 0)
    if need ≤ acks then
      if k = 6 then L.updPw fun p => { p with slpAns := some (7, 0) } else L.sleepStep (k + 1)
    else if need ≤ refs.length then L.sleepAbort k (refs.foldl min 7)
    else L

/-- A sleep step has had no agreed acknowledgement for 10 ms (R567). -/
def Lane.sleepTimeout (L : Lane) : Lane :=
  let k := L.fld R.PWR_SLPST F.PWR_SLPST_STEP
  if L.on R.PWR_SLPST F.PWR_SLPST_RUN ∧ L.pw.slpUndo = false ∧ 0 < k ∧ L.pw.slpAns ≠ some (7, 0) ∧ L.pw.slpAt + 2000000 ≤ L.ticks then
    L.updPw fun p => { p with slpAns := some (k, 2) }
  else L

/-- A wake source becomes active during the sequence (R568). -/
def Lane.sleepWake (L : Lane) : Lane :=
  let k := L.fld R.PWR_SLPST F.PWR_SLPST_STEP
  if L.on R.PWR_SLPST F.PWR_SLPST_RUN ∧ L.pw.slpUndo = false ∧ L.pw.slpAns ≠ some (7, 0) then
    L.updPw fun p => { p with slpAns := some (k, 6) }
  else L

/-! ### Split and join (R133 to R138) -/

def Lane.setSplit (L : Lane) (st : Nat) : Lane :=
  if L.fld R.FIX_SPLIT F.FIX_SPLIT_SSTATE = st then L
  else (L.setF R.FIX_SPLIT F.FIX_SPLIT_SSTATE st).raise R.FIX_EVT F.FIX_EVT_SPLITEV

/-- A split is refused. -/
def Lane.splitRefuse (L : Lane) (cause : Nat) : Lane :=
  let L1 := ((L.setF R.FIX_SPLIT F.FIX_SPLIT_REFUSED 1).setF R.FIX_SPLIT F.FIX_SPLIT_RCAUSE cause).setF R.FIX_SPLIT F.FIX_SPLIT_SSTATE 0
  (L1.raise R.FIX_EVT F.FIX_EVT_SPLITEV).updEdg fun e => { e with split := false }

/-- The decision word of a split request, which no write of FIX_DECPOST posts (R133, R209, log entry 61). -/
def splitWord : Word := 0xFFFFFFFF
/-- FIX_SPLIT.SPLITREQ is written: the decision is posted (R112, R133), also by a lane that comes late with it (R114). -/
def Lane.splitRequest (L : Lane) : Lane :=
  let late := L.ck.owe.contains (L.me, splitWord)
  if L.mySt ≠ 3 ∨ (L.fld R.FIX_SPLIT F.FIX_SPLIT_SSTATE ≠ 0 ∧ late = false) then L
  else
    let L1 := L.decPost splitWord
    if !late && L1.ck.dec.any fun p => decide (p.word = splitWord) then L1.setSplit 1 else L1

/-- Every present die reports OFFCONF (R134, R135). -/
def Lane.offConf (L : Lane) : Bool :=
  (List.range 4).all fun n => decide (L.fld R.PWR_STAT ⟨12 + n, 1⟩ = 0) || L.on (R.DLK_LSTAT n) F.DLK_LSTAT_OFFCONF

/-- A split is agreed. -/
def Lane.splitAgree (L : Lane) : Lane :=
  if L.base ≠ 1 then L.splitRefuse 1
  else (L.setSplit 1).updEdg (fun e => { e with split := true }) |>.updCk fun c => { c with splitAt := L.ticks, splitDue := true }

/-- At an apply instant that follows that of the agreement, the lanes enter SPLIT once every die has confirmed (R135). -/
def Lane.splitApply (L : Lane) : Lane :=
  if L.ck.splitDue && L.offConf then
    ((List.range 3).foldl (fun X k => if X.laneSt k = 3 then X.setSta k 7 else X) L).setSplit 2 |>.updCk fun c => { c with splitDue := false }
  else L

/-- A die has not reported OFFCONF within 2 ms (R135). -/
def Lane.splitTimeout (L : Lane) : Lane :=
  if L.ck.splitDue && !L.offConf && decide (L.ck.splitAt + 400000 ≤ L.ticks) then
    (L.splitRefuse 2).updCk fun c => { c with splitDue := false }
  else L

/-! ### Keys (R595) -/

/-- BMB_KEYREV is written: the slot is revoked in the lane's OTP. -/
def Lane.keyRevoke (L : Lane) (slot : Nat) : Lane :=
  if L.base = 1 ∧ slot ≠ L.fld R.IMG_KEY F.IMG_KEY_USED then L.setF R.IMG_KEY ⟨8 + slot, 1⟩ 1 else L.raise R.BMB_STAT F.BMB_STAT_KRREF

/-! ### Travel (R400, R402) -/

/-- An agreed travel source takes effect. -/
def Lane.travTake (L : Lane) (src : Nat) : Lane :=
  if L.travOn then
    ((L.setF R.POS_TRSTAT F.POS_TRSTAT_SRC src).raise R.POS_TRSTAT F.POS_TRSTAT_SRCCHG).travShow
  else L

/-! ### Trips and decisions (R113 to R115) -/

/-- An agreed entry of the queue of R115, but for the travel sources. -/
def Lane.tripAgreed (L : Lane) : Trip → Lane
  | .mc b ch => L.updMc b fun m => { m with due := m.due ++ [(L.ckNum, ch)] }
  | .sess n stop code => L.reactAgreed (.sess n stop code)
  | .axis a code => L.reactAgreed (.axis a code)
  | .travel _ => L
  | .keyrev slot => L.keyRevoke slot

/-- An entry of this lane that no other lane has posted by the next checkpoint is dropped (R115, R468). -/
def Lane.tripLone (L : Lane) : Trip → Lane
  | .mc b ch => L.updMc b fun m => { m with posted := m.posted.erase ch }
  | .sess n _ _ => ((L.updSess n fun e => { e with expired := false }).raise R.SAFE_EVT F.SAFE_EVT_LONE).bump R.SAFE_CNT F.SAFE_CNT_LONEC 1
  | .axis _ _ => (L.raise R.SAFE_EVT F.SAFE_EVT_LONE).bump R.SAFE_CNT F.SAFE_CNT_LONEC 1
  | _ => L

/-- The queue of R115 at a checkpoint that is not void: `mine` holds this lane's entries as captured, `ls` those of the lanes that take part. -/
def Lane.tripsApply (L : Lane) (need : Nat) (mine : List Trip) (ls : List (Nat × List Trip)) : Lane :=
  let ps := paid id L.ck.oweT ls
  let ags := agreedOf id need ps
  let late := mine.filter fun t => L.ck.oweT.contains (L.me, t)
  let left : TripPost → Bool := fun p => mine.contains p.trip && !late.contains p.trip && !ags.contains p.trip
  let lone := (L.ck.trips.filter fun p => left p && decide (1 ≤ p.age)).map (·.trip)
  let L1 := L.updCk fun c => { c with
    oweT := owedNext id ags ps
    trips := (c.trips.filter fun p => !mine.contains p.trip || (left p && decide (p.age = 0))).map fun p =>
      if mine.contains p.trip then { p with age := p.age + 1 } else p }
  let L2 := lone.foldl Lane.tripLone (ags.foldl Lane.tripAgreed L1)
  -- a post that came late is discarded, because its change has been agreed
  let L3 := late.foldl (fun X t => match t with | .mc b ch => X.updMc b fun m => { m with posted := m.posted.erase ch } | _ => X) L2
  let src := L3.prio.find? fun s => ags.contains (.travel s)
  let L4 := match src with | some s => L3.travTake s | none => L3
  L4.updStops

/-- An agreed decision word (R113): those that the device consumes take effect, the others wait to be read. -/
def Lane.wordAgreed (L : Lane) (wake : Bool) (w : Word) : Lane :=
  let n := w.toNat
  if w = splitWord then L.splitAgree
  else if 0xFFFFFE00 ≤ n ∧ n ≤ 0xFFFFFEFF then L.modeReq (n - 0xFFFFFE00) wake
  else if 0xFFFFFF00 ≤ n ∧ n ≤ 0xFFFFFF0B then
    let a := n - 0xFFFFFF00
    if L.axActive a then (L.updAx a fun x => { x with swSwap := some L.ckNum }).regw a else L
  else L.updCk fun c => { c with agreed := c.agreed ++ [w] }

/-- The agreed words in ascending order. -/
def sortWords (ws : List Word) : List Word := ws.insertionSort fun a b => a.toNat ≤ b.toNat

/-- Lanes made odd by their posts (R114): one alone with a word for a second checkpoint, or one that owes a word it has not posted. -/
def postOdd (ags : List Word) (ps : List (Nat × List Post × List Word)) : List Nat :=
  (ps.filter fun x => !x.2.2.isEmpty || (consume Post.word ags x.2.1).any fun p => decide (1 ≤ p.age)).map (·.1)

/-- The posted words after a checkpoint (R114): of those captured the late and the agreed ones leave, and so does one alone for a second
checkpoint; the rest age. Words posted since the capture stay. -/
def Lane.postRest (L : Lane) (mine : List Post) (ags : List Word) (ps : List (Nat × List Post × List Word)) : Lane :=
  let left := match ps.find? fun x => decide (x.1 = L.me) with | some x => consume Post.word ags x.2.1 | none => mine
  let lone := left.filter fun p => decide (1 ≤ p.age)
  let aged := (left.filter fun p => decide (p.age = 0)).map fun p => { p with age := 1 }
  let L1 := L.updCk fun c => { c with dec := aged ++ c.dec.drop mine.length, owe := owedNext Post.word ags ps }
  if lone.any fun p => decide (p.word = splitWord) then L1.splitRefuse 3 else L1

/-! ### Axes at an apply instant (R108 to R111, R200, R280) -/

/-- S_med, T_med and M of an axis from the lanes' captures: none where no lane holds it. -/
def axMed (xw : Nat) (cs : List AxCap) : Option (Nat × Nat × Nat) :=
  let on := cs.filter (·.present)
  let st : Option (Nat × Nat) := match on with
    | [x, y, z] => some ((med3 x.s y.s z.s).toNat, (med3 x.t y.t z.t).toNat)
    | [x, y] => some (max x.s y.s, min x.t y.t)
    | [x] => some (x.s, x.t)
    | _ => none
  st.map fun (s, t) => (s, t, if t = 0 then 2 else max 2 (1 + (xw + t - 1) / t))

/-- The first sample after checkpoint `c` on one axis, with the offsets due there (R103, R108, R110, R111). An axis that waits is activated there
(R55), but not before a checkpoint whose capture found its region copy ended (R202). -/
def Lane.axApply (L : Lane) (c a : Nat) (own : AxCap) (cs : List AxCap) (ofs : List Ofs) : Lane :=
  match axMed L.xwin cs with
  | none => L
  | some (s, t, m) =>
    let x := L.ax.at a
    let act := L.axActive a
    if !act && !(x.waiting && own.present) then L
    else
      let L1 := (L.wr (R.FIX_AXM a) (w32 (m % 65536))).wr (R.FIX_AXT a) (w32 t)
      if L.ckP - L.xwin < t then L1.raise R.FIX_EVT F.FIX_EVT_APPLYLATE
      else if !act && L.chen a && !x.copyOk then L1
      else
        let begun := if act then x.started else L.edg.pnum.at (L.axKey a)
        let late := decide (s + m ≤ begun)
        let f := if late then begun + 1 else s + m
        let L2 := if late then L1.raise R.FIX_EVT F.FIX_EVT_APPLYLATE else L1
        (L2.wr (R.FIX_AXAP a) (w32 f)).updAx a fun x => { x with
          due := x.due ++ [⟨f, c, ofs⟩], actSample := if act then x.actSample else some (x.actSample.getD f) }

/-- The adopted value of a word of coefficient RAM (R200, R280): none where the lanes found no majority for it, and the live word where the list does not
name it. -/
def Lane.adoptedAt (L : Lane) (adopted : List (Nat × Int)) (w : Nat) : Option Int :=
  let ad := 0x30000000 + 4 * w
  match adopted.find? fun x => decide (x.1 = ad) with
  | some x => some x.2
  | none => if L.lentries.any fun e => e.num && decide (e.addr ≤ ad) && decide (ad < e.addr + 4 * e.count) then none else some (L.memW ad).toInt

/-- The charts and curves from the adopted scheduling words (R200, R280). -/
def Lane.chartApply (L : Lane) (c : Nat) (adopted : List (Nat × Int)) (a : Nat) : Lane :=
  let at_ (o : Nat) : Option Int := L.adoptedAt adopted (axArea a + o)
  (L.chApply c a (at_ 0x10) (at_ 0x11)).ccApply c a (at_ 9)

/-- What every apply instant with the data of two lanes brings (R103, R107, R108, R200, R280), whatever becomes of the agreement: the discrete inputs,
the offsets, where values are re-centred, of entries without an axis, the first samples with the offsets of theirs, the charts and curves. `caps` holds the captures
of the lanes whose data count. -/
def Lane.common (L : Lane) (own : Cap) (caps : List (Nat × Cap)) (num : NumRes) (centre : Bool) : Lane :=
  let ofs := if centre then num.ofs else []
  let L1 := L.wr R.FIX_DIN (w32 (agreeBits (L.rd R.FIX_DIN).toNat (caps.map fun x => x.2.din.toNat)))
  let L2 := (ofs.filter fun o => decide (12 ≤ o.1)).foldl (fun X o => X.addOfs o.2) L1
  let L3 := (List.range 12).foldl (fun X a =>
    X.axApply own.num a (own.ax.getD a default) (caps.map fun x => x.2.ax.getD a default) ((ofs.filter fun o => decide (o.1 = a)).map (·.2))) L2
  (List.range 12).foldl (fun X a => X.chartApply own.num num.adopted a) L3

/-- The fused distances of the lanes adopted (R402): the adopted value less this lane's captured one is added. -/
def Lane.distAdopt (L : Lane) (own : Cap) (caps : List (Nat × Cap)) : Lane :=
  L.updTrav fun t => { t with d12 := ((t.d12 : Int) + median (caps.map fun x => (x.2.dist : Int)) - own.dist).toNat }

/-- The numeric words of the captures compared (R102 to R104). -/
def Lane.numRes (L : Lane) (own : Cap) (caps : List (Nat × Cap)) : NumRes :=
  numWalk (L.lentries.zipIdx.map fun x => (x.2, x.1)) own.words (caps.map fun x => (x.1, x.2.words)) default

/-! ### Releases and record writes (R484, R522, R523) -/

/-- LOCKOUT_RST_N at an apply instant (R522): `low` and `high` say that the lanes agree on that level. -/
def Lane.ballApply (L : Lane) (low high : Bool) : Lane :=
  if high then
    ((L.setF R.FIX_LOBALL F.FIX_LOBALL_SEEN 1).setF R.FIX_LOBALL F.FIX_LOBALL_LOWMS 0).setF R.FIX_LOBALL F.FIX_LOBALL_LEVEL 1
  else if low then
    let us := L.ckP / 200
    let old := L.fld R.FIX_LOBALL F.FIX_LOBALL_LOWMS
    let ck := L.ck.last
    let ms := if 1000 ≤ us then us / 1000 else b2n (decide (ck % (1000 / us) = 0))
    let L1 := (L.setF R.FIX_LOBALL F.FIX_LOBALL_LOWMS (min 65535 (old + ms))).setF R.FIX_LOBALL F.FIX_LOBALL_LEVEL 0
    let mask := L.axLo + 65536 * b2n L.devLo
    if old < 3000 ∧ 3000 ≤ old + ms ∧ L.on R.FIX_LOBALL F.FIX_LOBALL_SEEN = true ∧ mask ≠ 0 then
      if L1.relOk mask && L1.safe.rel.isNone then L1.relBegin mask 0 0 else L1.raise R.FIX_DGEVT F.FIX_DGEVT_RSTREF
    else L1
  else L

/-- Replies and effects that waited for every lane's record (R484, R523); `cf` and `rl` hold the lanes' results. -/
def Lane.recApply (L : Lane) (c : Nat) (cf rl : List (Option Bool)) : Lane :=
  let L1 := match L.safe.conf with
    | some (n, seq) =>
      if cf.all Option.isSome then
        let ok := cf.all fun r => decide (r = some true)
        ((L.raise R.SAFE_EVT (if ok then F.SAFE_EVT_CONFOK else F.SAFE_EVT_CONFREF)).updSafe fun s => { s with conf := none, confRes := none }).reply
          c n seq 7 (if ok then 0 else 0xD) 0 0
      else L
    | none => L
  match L1.safe.rel with
  | some (mask, n, seq) =>
    if rl.all Option.isSome then
      let ok := rl.all fun r => decide (r = some true)
      let L2 := L1.updSafe fun s => { s with rel := none, relRes := none }
      let L3 := if ok then
          let X := L2.relTake mask
          if mask.testBit 16 && decide (L.dmode = 4) then X.adoptMode (Bf.set ⟨4, 3⟩ (Bf.set ⟨0, 2⟩ (X.rd R.PWR_MODE) 1) 0) else X
        else L2.updDg fun d => { d with releasing := 0 }
      if n = 0 then L3 else L3.reply c n seq 5 (if ok then 0 else 0xD) 0 0
    else L1
  | none => L1

/-! ### Checkpoint zero (R137, R138, R481, R519, R541, R548) -/

/-- The start-up sounding record (R584). -/
def Lane.soundRec (L : Lane) : Lane := L.reportRec 4 (L.rd R.PWR_SSLB) (L.rd R.PWR_SSMB) (L.rd R.PWR_SSBANK) (L.rd R.PWR_SSREP)

/-- Ms from the wake event (R542, R583). -/
def Lane.wakeMs (L : Lane) : Nat := (L.pw.wakeUs + (L.ticks - L.pw.relAt) / 200) / 1000

/-- The Fix forms of the lanes in `fix` (R541): `cs` holds their captures. -/
def Lane.zeroForm (L : Lane) (fix : List Nat) (cs : List Cap) (join : Bool) : Lane :=
  let mask := fix.foldl (fun m k => m + 2 ^ k) 0
  let L1 := fix.foldl (fun X k => X.setSta k 3) L
  let conf := cs.all (·.conf)
  let noconf := (fix.zip cs).foldl (fun m x => if x.2.conf then m else m + 2 ^ x.1) 0
  let lo := cs.foldl (fun m c => m ||| c.lo.toNat) 0
  let bad := cs.any (·.loBad)
  let dev := lo.testBit 12 || bad
  let L2 := (L1.setF R.SAFE_CMST F.SAFE_CMST_CONFIRMED (b2n conf)).setF R.SAFE_CMST F.SAFE_CMST_NOCONF noconf
  let L3 := (L2.setF R.FIX_LOSTAT F.FIX_LOSTAT_AXLO (lo % 4096)).setF R.FIX_LOSTAT F.FIX_LOSTAT_DEV (b2n dev)
  let L4 := (List.range 12).foldl (fun X a => if lo.testBit a then (X.setF (R.SFN_ASTAT a) F.SFN_ASTAT_LOCKED 1).setF R.SFN_TRIP ⟨a, 1⟩ 1 else X) L3
  let L5 := if bad then L4.raise R.FIX_DGEVT F.FIX_DGEVT_RECBAD else L4
  let dm := if dev then 4 else 0
  let L6 := (L5.setF R.FIX_DGSTAT F.FIX_DGSTAT_DMODE dm).adoptMode (w32 (1 + 4 * b2n (!conf) + 16 * dm))
  let L7 := if join then ((L6.setSplit 0).updEdg fun e => { e with split := false }).holdOutputs
    else
      ((L6.setF R.PWR_STAT F.PWR_STAT_HARB 1).setF R.PWR_STAT F.PWR_STAT_LANES0 mask).wr R.PWR_BOOTT (w32 (min 65535 L.wakeMs)) |>.soundRec
  let L8 := if fix.length = 2 then L7.setF R.PWR_STAT F.PWR_STAT_DEP2 1 else if join then L7 else L7.setF R.PWR_STAT F.PWR_STAT_DEP2 0
  (L8.updPw fun p => { p with joining := false }).updStops

/-- What an apply instant does in a lane that is not in the Fix (R137, R138, R541): `all` holds the captures of the lanes whose data is
complete, this lane's included. -/
def Lane.zeroApply (L : Lane) (all_ : List (Nat × Cap)) : Lane :=
  let join := decide (L.mySt = 7)
  let img : Nat → Option (Word × Word) := fun k => match all_.find? fun x => decide (x.1 = k) with | some x => x.2.img | none => none
  match img L.me with
  | none => L
  | some d =>
    let inFix := all_.filter fun x => decide (L.laneSt x.1 = 3)
    let out (X : Lane) (k : Nat) : Lane :=
      let Y := X.setSta k 9
      if k = L.me then (if join then Y.setF R.FIX_SPLIT F.FIX_SPLIT_RCAUSE 4 |>.setSplit 0 else Y.soundRec) else Y
    if !inFix.isEmpty then
      if inFix.all fun x => decide (x.2.img = some d) then
        let X := (L.setSta L.me 6).updCk fun c => { c with oddAt := L.ticks, caught := false }
        if join then ((X.setSplit 0).updEdg fun e => { e with split := false }).holdOutputs else X
      else out L L.me
    else
      let cand := all_.filter fun x => x.2.img.isSome && decide (L.laneSt x.1 = 2 ∨ L.laneSt x.1 = 7)
      let same := cand.filter fun x => decide (x.2.img = some d)
      let twin := cand.any fun x => decide ((cand.filter fun y => decide (y.2.img = x.2.img)).length ≥ 2)
      if same.length ≥ 2 then
        let L1 := L.zeroForm (same.map (·.1)) (same.map (·.2)) join
        (cand.filter fun x => decide (x.2.img ≠ some d)).foldl (fun X x => out X x.1) L1
      else if twin then out L L.me
      else L

/-! ### The apply instant -/

/-- Reckoner 13 slews toward the median of the lanes' capture instants (R116): `sk` says how far each lay after this lane's, and a lane that
captured before the median is ahead and slows down. -/
def Lane.slewSet (L : Lane) (sk : List Int) : Lane := { L with slewLane := if 2 ≤ sk.length then -median sk else 0 }

/-- Void checkpoints (R98): nothing is agreed; a second in a row starts self-diagnosis where it may (R500). -/
def Lane.voidApply (L : Lane) : Lane :=
  let L1 := (L.raise R.FIX_XSTAT F.FIX_XSTAT_XLATE).updCk fun c => { c with voids := c.voids + 1 }
  if 1 ≤ L.ck.voids ∧ L.dmode = 0 then L1.sdStart else L1

/-- The agreements of a checkpoint that is not void, in a lane of the Fix: `cs` holds the captures of the lanes that take part. -/
def Lane.agreeApply (L : Lane) (c : Nat) (wake : Bool) (own : Cap) (cs : List (Nat × Cap)) : Lane :=
  let need := if L.dmode = 2 then 1 else 2
  let caps := cs.map (·.2)
  let ps := paid Post.word L.ck.owe (cs.map fun x => (x.1, x.2.posts))
  let ags := sortWords (agreedOf Post.word need ps)
  let pds := pduAgreed need (caps.map (·.pdus))
  let L1 := L.postRest own.posts ags ps
  let L2 := L1.tripsApply need own.trips (cs.map fun x => (x.1, x.2.trips))
  let L3 := (L2.pdusDevice c pds).pduRest c pds
  let L4 := ags.foldl (fun X w => X.wordAgreed wake w) L3
  let balls := caps.map (·.ball)
  let L5 := L4.ballApply (decide (need ≤ balls.countP (!·))) (decide (need ≤ balls.countP id))
  (L5.recApply c (caps.map (·.confRes)) (caps.map (·.relRes))).sleepApply need (caps.map (·.slp))

/-- A lane of the Fix at an apply instant with data of the lanes `cs`, all complete. A lane that one comparison finds odd is odd whatever another finds
(R92); there is no majority where a comparison has none. -/
def Lane.fixApply (L : Lane) (c : Nat) (wake : Bool) (own : Cap) (cs : List (Nat × CapRx)) : Lane :=
  let caps := cs.map fun x => (x.1, x.2.cap)
  let solo := L.dmode = 2
  let free := L.dmode = 3 ∧ L.fld R.FIX_DGSTAT F.FIX_DGSTAT_HCAUSE = 1
  let num := L.numRes own (if free then [(L.me, own)] else caps)
  let digs := caps.map fun x => (x.1, x.2.digest)
  let dg := oddOne digs
  let sg := oddOne (caps.map fun x => (x.1, x.2.sig.toNat))
  let mid := median (cs.map fun x => x.2.skew)
  let ps := paid Post.word L.ck.owe (caps.map fun x => (x.1, x.2.posts))
  let sOdd := (List.range 12).flatMap fun a =>
    match axMed L.xwin (caps.map fun x => x.2.ax.getD a default) with
    | some (s, _, _) => (caps.filter fun x =>
        let e := x.2.ax.getD a default
        e.present && decide (1 < ((e.s : Int) - s).natAbs)).map (·.1)
    | none => []
  let dist := caps.map fun x => (x.1, (x.2.dist : Int))
  let dmid := median (dist.map (·.2))
  let three := decide (cs.length = 3)
  let odt := L.fld R.DLK_CTRL F.DLK_CTRL_ODT
  let odds : List (Nat × Nat) :=
    (num.odd.map fun k => (k, 1)) ++ (dg.1.map fun k => (k, 2)) ++ (sg.1.map fun k => (k, 3))
    ++ ((postOdd (agreedOf Post.word 2 ps) ps).map fun k => (k, 4))
    ++ ((cs.filter fun x => x.2.tap).map fun x => (x.1, 5))
    ++ ((if three then cs.filter fun x => decide (400 < (x.2.skew - mid).natAbs) else []).map fun x => (x.1, 6))
    ++ (((List.range 3).filter fun k => decide (odt < L.edg.outl.at k)).map fun k => (k, 7))
    ++ ((if three ∧ L.travSrc ≠ 7 then dist.filter fun x => decide (2 * L.dpp L.travSrc < (x.2 - dmid).natAbs) else []).map fun x => (x.1, 8))
    ++ (((List.range 3).filter fun k => decide (L.laneSt k = 3) && !cs.any fun x => decide (x.1 = k)).map fun k => (k, 9))
    ++ (sOdd.map fun k => (k, 0xA))
  let odds := if solo ∨ free then [] else odds.filter fun x => decide (L.laneSt x.1 = 3)
  let who := pool [odds.map (·.1)]
  let nomaj := !decide (solo ∨ free) && (num.nomaj || dg.2 || sg.2)
  -- what the registers show
  let L1 := digs.foldl (fun X x => X.wr (R.FIX_DIG x.1) (w32 x.2)) L
  let L1 := match num.pos with
    | some (i, k) => (L1.setF R.FIX_ODDPOS F.FIX_ODDPOS_ENTRY i).setF R.FIX_ODDPOS F.FIX_ODDPOS_WORD k
    | none => L1
  let L2 := if nomaj then L1.raise R.FIX_EVT F.FIX_EVT_NOMAJ else L1
  let L3 := L2.common own caps num !nomaj
  let L4 := if free then L3 else L3.distAdopt own caps
  if nomaj ∧ L.dmode = 0 then L4.sdStart
  else
    let L5 := L4.agreeApply c wake own caps
    who.foldl (fun X k => X.declareOdd k ((odds.find? fun o => decide (o.1 = k)).getD (k, 1)).2) L5

/-- A lane in self-diagnosis at an apply instant (R502, R503): nothing is re-centred or agreed, and a checkpoint with the data of fewer than two lanes
is void. A lane whose result is missing where another's is there counts as failed. What stayed posted is agreed by the lanes that go on, at the apply
instant of the outcome. -/
def Lane.diagApply (L : Lane) (wake : Bool) (own : Cap) (got : List (Nat × Cap)) : Lane :=
  let diag := got.filter fun x => decide (L.laneSt x.1 = 8)
  let L1 := if diag.length < 2 then L.voidApply else (L.updCk fun c => { c with voids := 0 }).common own diag (L.numRes own diag) false
  if diag.any fun x => x.2.sd.isSome then
    let pass := diag.filter fun x => decide (x.2.sd = some true)
    let L2 := L1.sdOutcome (pass.foldl (fun m x => m + 2 ^ x.1) 0)
    if L2.mySt = 3 then L2.agreeApply own.num wake own pass else L2
  else L1

/-- The lane that has received the transfer rejoins (R130): it adopts and agrees what the lanes in the Fix do, whose captures `fix` holds. -/
def Lane.rejoin (L : Lane) (wake : Bool) (own : Cap) (fix : List (Nat × Cap)) : Lane :=
  let L1 := ((L.common own fix (L.numRes own fix) true).distAdopt own fix).setSta L.me 3
  let L2 := (L1.raise R.FIX_EVT F.FIX_EVT_RSDONE).updCk fun c => { c with caught := false }
  L2.agreeApply own.num wake own fix

/-- The apply instant of the last capture (R94, R98): `wake` says that a level wake source is active. -/
def Lane.apply_ (L : Lane) (wake : Bool) : Lane :=
  match L.ck.cap with
  | none => L
  | some own =>
    if L.ck.done || L.on R.FIX_DBG F.FIX_DBG_HALTED || decide (L.gt < own.num * L.ckP + L.xwin) then L
    else
      let mine : List (Nat × CapRx) := if L.ck.wait.isEmpty then [(L.me, ⟨own, false, 0⟩)] else []
      let got := (mine ++ L.ck.rx).insertionSort fun x y => x.1 ≤ y.1
      let st := L.mySt
      let skews := (L.me, 0) :: L.ck.rx.map fun x => (x.1, x.2.skew)
      let L0 := (L.updCk fun c => { c with done := true }).slewSet (skews.map (·.2))
      let fix := got.filter fun x => decide (L.laneSt x.1 = 3)
      let L1 :=
        if st = 3 then
          if L.dmode = 2 then L0.fixApply own.num wake own mine
          else if fix.length < 2 then L0.voidApply
          else (L0.updCk fun c => { c with voids := 0 }).fixApply own.num wake own fix
        else if st = 8 then L0.diagApply wake own (got.map fun x => (x.1, x.2.cap))
        else if st = 6 then
          (if own.caught ∧ mine ≠ [] ∧ 2 ≤ fix.length then L0.rejoin wake own (fix.map fun x => (x.1, x.2.cap)) else L0)
        else L0.zeroApply (got.map fun x => (x.1, x.2.cap))
      -- another lane rejoins (R123, R130)
      let L2 := if st = 3 ∧ 2 ≤ fix.length then
          got.foldl (fun X x => if L.laneSt x.1 = 6 ∧ x.2.cap.caught then (X.setSta x.1 3).raise R.FIX_EVT F.FIX_EVT_RSDONE else X) L1
        else L1
      let L3 := L2.updEdg fun e => { e with outl := [] }
      let L4 := (List.range 8).foldl (fun X b => if (X.mcOf b).armed = 1 then X.updMc b fun m => { m with armed := 2 } else X) L3
      let L5 := if L4.mySt = 3 then ((L4.travApply L4.trav.pos12).sessApply) else L4
      if st = 3 ∧ L.ck.splitDue = true then L5.splitApply else L5

end Sys2Proof.Machine
end

