-- ==== Sys2Proof/Machine/Sound.lean ====
section
/-! DEFINITION. The lane's mailbox as its software uses it (R579, R581, R595), and the runtime soundings of a lane (R597 to R603). -/

namespace Sys2Proof.Machine

/-! ### Mailbox (R579, R581) -/

/-- BMB_CTRL has been written: the mailbox runs while EN reads 1. -/
def Lane.mailWritten (L : Lane) : Lane := L.setF R.BMB_CTRL F.BMB_CTRL_ACTIVE (L.fld R.BMB_CTRL F.BMB_CTRL_EN)
/-- The words of the next post. -/
def Lane.outWords (L : Lane) : List Word := (List.range 8).map fun k => L.rd (R.BMB_OUT k)
/-- BMB_OUTCTL is written: a post, where POST is 1. -/
def Lane.outCtl (L : Lane) (v : Word) : Lane :=
  if F.BMB_OUTCTL_POST.on v then L.post (F.BMB_OUTCTL_KIND.get v) L.outWords else L
/-- The answer that a write of BMB_INCTL gives: 0 to accept, else the RCODE with bit 8 set; a write with both bits is a refusal. -/
def inAnswer (v : Word) : Option Nat :=
  if F.BMB_INCTL_REFUSE.on v then some (256 + F.BMB_INCTL_RCODE.get v) else if F.BMB_INCTL_ACCEPT.on v then some 0 else none
/-- Whether an answer written now counts: a request waits, or was withdrawn in this tick (R50, R581). -/
def Lane.inOpen (L : Lane) : Bool := L.on R.BMB_STAT F.BMB_STAT_INPEND || decide (L.goneAt = L.ticks + 1)
/-- BMB_INCTL is written. -/
def Lane.inCtl (L : Lane) (v : Word) : Lane :=
  if L.inOpen && (inAnswer v).isSome then
    let L1 := L.setF R.BMB_STAT F.BMB_STAT_INPEND 0
    { (if L.goneAt = L.ticks + 1 then L1.setF R.BMB_STAT F.BMB_STAT_INTMO 0 else L1) with goneAt := 0 }
  else L

/-! ### Memory banks (R544) -/

/-- The bank of a byte address, numbered as PWR_SSBANK: code RAM, data RAM, coefficient RAM, logbook RAM and engine program memory. -/
def memBank (a : Nat) : Option Nat :=
  if a < 0x100000 then some (a / 0x20000)
  else if 0x20000000 ≤ a ∧ a < 0x20100000 then some (8 + (a - 0x20000000) / 0x20000)
  else if 0x30000000 ≤ a ∧ a < 0x30080000 then some (16 + (a - 0x30000000) / 0x20000)
  else if 0x31000000 ≤ a ∧ a < 0x31040000 then some (20 + (a - 0x31000000) / 0x20000)
  else if 0x32000000 ≤ a ∧ a < 0x32010000 then some 22
  else none
/-- The address of a bank's first byte. -/
def bankBase (b : Nat) : Nat :=
  if b < 8 then b * 0x20000 else if b < 16 then 0x20000000 + (b - 8) * 0x20000
  else if b < 20 then 0x30000000 + (b - 16) * 0x20000 else if b < 22 then 0x31000000 + (b - 20) * 0x20000 else 0x32000000
/-- Whether memory BIST has marked the bank of an address unusable. -/
def Lane.bankOut (L : Lane) (a : Nat) : Bool := match memBank a with | some b => bitOf (L.rd R.PWR_SSBANK) b | none => false

/-! ### Soundings -/

/-- SND_CTRL has been written: a sounding under way completes first (R48). -/
def Lane.sndWritten (L : Lane) : Lane :=
  L.setF R.SND_CTRL F.SND_CTRL_ACTIVE (b2n (L.on R.SND_CTRL F.SND_CTRL_EN || L.on R.SND_STAT F.SND_STAT_BUSY))
/-- The cause of a refused start, 0 for none (R597). -/
def Lane.sndCause (L : Lane) (base : Nat) : Nat :=
  if !L.on R.SND_CTRL F.SND_CTRL_EN || L.on R.SND_STAT F.SND_STAT_BUSY then 1
  else if L.mySt ≠ 3 ∨ L.dmode ≠ 0 then 2
  else if memBank base = none then 3
  else if L.bankOut base then 4 else 0
def Lane.sndPhase (L : Lane) (n : Nat) : Lane := L.setF R.SND_STAT F.SND_STAT_PHASE n
/-- GO is written (R597). -/
def Lane.sndGo (L : Lane) (base : Nat) : Lane :=
  let c := L.sndCause base
  if c ≠ 0 then (L.raise R.SND_STAT F.SND_STAT_REFUSED).setF R.SND_STAT F.SND_STAT_RCAUSE c
  else
    { (L.setF R.SND_STAT F.SND_STAT_BUSY 1).sndPhase 1 with snd := { L.snd with start := L.ticks, base := base, fails := [], cut := false } }
/-- ABORT is written (R50, R51, R600): TEST ends at once, and one that has not begun is left out. -/
def Lane.sndAbort (L : Lane) : Lane :=
  if L.on R.SND_STAT F.SND_STAT_BUSY then
    let ph := L.fld R.SND_STAT F.SND_STAT_PHASE
    let L1 := if ph < 3 then L.setF R.SND_STAT F.SND_STAT_ABORT_LATE 0 else L
    if ph = 1 then { L1 with snd := { L1.snd with cut := true } } else if ph = 2 then L1.sndPhase 3 else L1
  else if L.snd.doneAt = L.ticks + 1 then L.raise R.SND_STAT F.SND_STAT_ABORT_LATE
  else L
/-- SND_REQ has been written. -/
def Lane.sndReq (L : Lane) (v : Word) : Lane :=
  let L1 := if F.SND_REQ_GO.on v then L.sndGo (F.SND_REQ_BASE.get v * 0x1000) else L
  if F.SND_REQ_ABORT.on v then L1.sndAbort else L1
/-- SAVE has ended (R598). -/
def Lane.sndSaved (L : Lane) : Lane :=
  if L.fld R.SND_STAT F.SND_STAT_PHASE = 1 then L.sndPhase (if L.snd.cut then 3 else 2) else L
/-- The row of a failing word within its bank (R601). -/
def rowOf (a : Nat) : Nat := match memBank a with | some b => (a - bankBase b) / 256 | none => 0
/-- TEST has ended (R601): `fails` names the failing words of the region, by their index and a failing bit, in the order of the march. -/
def Lane.sndTested (L : Lane) (fails : List (Nat × Nat)) : Lane :=
  if L.fld R.SND_STAT F.SND_STAT_PHASE ≠ 2 then L
  else
    let fs := (fails.filter fun f => decide (f.1 < 1024) && decide (f.2 < 39)).map fun f => (L.snd.base + 4 * f.1, f.2)
    let L1 := { L.sndPhase 3 with snd := { L.snd with fails := fs } }
    let L2 := L1.setF R.SND_STAT F.SND_STAT_NROWS (pool [fs.map fun f => rowOf f.1]).length
    match fs with
    | [] => L2
    | f :: _ =>
      let L3 := (L2.raise R.SND_STAT F.SND_STAT_FAIL).wr R.SND_FADDR (w32 f.1)
      L3.wr R.SND_FBIT (F.SND_FBIT_BANK.set (F.SND_FBIT_ROW.set (F.SND_FBIT_BIT.set 0 f.2) (rowOf f.1)) ((memBank f.1).getD 0))
/-- A failing row at the end of RESTORE (R602, R603): repaired by a spare, or restored in place. -/
def Lane.sndRow (L : Lane) (b : Nat) : Lane :=
  let n := L.snd.spares.at b
  if L.on R.SND_CTRL F.SND_CTRL_AUTOREP && decide (n < 8) then
    { (L.raise R.SND_STAT F.SND_STAT_REPAIRED).setF R.SND_REP ⟨b, 1⟩ 1 with snd := { L.snd with spares := L.snd.spares.set b (n + 1) } }
  else L.raise R.SND_STAT F.SND_STAT_NOSPARE
/-- RESTORE has ended (R600 to R603). -/
def Lane.sndRestored (L : Lane) : Lane :=
  if L.fld R.SND_STAT F.SND_STAT_PHASE ≠ 3 then L
  else
    let b := (memBank L.snd.base).getD 0
    let rows := pool [L.snd.fails.map fun f => rowOf f.1]
    let L1 := rows.foldl (fun X _ => X.sndRow b) L
    let left := L.on R.SND_CTRL F.SND_CTRL_AUTOREP = false ∨ 8 < L.snd.spares.at b + rows.length
    let L2 := if rows ≠ [] ∧ left then L1.fault 1 L.me else L1
    let L3 := ((L2.setF R.SND_STAT F.SND_STAT_BUSY 0).sndPhase 0).raise R.SND_STAT F.SND_STAT_DONE
    let L4 := (L3.wr R.SND_TIME (w32 (min 65535 (L.ticks - L.snd.start)))).bump R.SND_CNT F.SND_CNT_DONE 1
    let L5 := if L.snd.fails.isEmpty then L4 else L4.bump R.SND_CNT F.SND_CNT_FAIL 1
    { L5 with snd := { L5.snd with doneAt := L.ticks + 1, fails := [] } }.sndWritten

end Sys2Proof.Machine
end

