-- ==== Sys2Proof/Machine/Boot.lean ====
section
/-! DEFINITION. Start-up (R539 to R562): the resets of a lane, the image in flash and its checks, the register-load list, step 9 with SAFE_CCV
and the capability list, and the joining of a split lane (R137). -/

namespace Sys2Proof.Machine

/-! ### Resets (R127, R129, R137, R575) -/

/-- Registers that hold what the lane's own hardware and OTP give: they outlast every loss of power (R362, R576). -/
def otpReg (k : Nat) : Bool :=
  decide (k / 0x10000 = 0x4000) && decide (k % 0x10000 < 0x10) && decide (k ≠ R.LANE_ID_LANE.addr)
    || decide (k = R.IMG_KEY.addr) || (List.range 6).any fun c => decide (k = (R.MEAS_FOFS c).addr ∨ k = (R.MEAS_FGAIN c).addr)
/-- The wake registers, which LANE_RET holds (R575). -/
def wakeReg (k : Nat) : Bool := decide (R.PWR_WAKECFG.addr ≤ k) && decide (k ≤ R.PWR_WUFDAT1.addr) && decide (k ≠ R.PWR_WAKESRC.addr)
/-- Registers that a reset of the lane logic die leaves (R129), with those that show the lanes and the wake cycle (log entry 30). -/
def keptReg (k : Nat) : Bool :=
  otpReg k || wakeReg k || decide (k / 0x10000 = 0x4000) || decide (k / 0x10000 = 0x400F)
    || [R.FIX_STAT, R.FIX_RSCNT, R.FIX_SPLIT, R.MEAS_CONV, R.MEAS_CALST, R.CE_STAT, R.SND_REP, R.PWR_STAT, R.PWR_MODE, R.PWR_DOM,
        R.PWR_NVMST, R.PWR_FEED, R.PWR_WAKESRC, R.PWR_SSLB, R.PWR_SSMB, R.PWR_SSBANK, R.PWR_SSREP, R.PWR_BOOTT].any (fun r => decide (k = r.addr))
    || (List.range 4).any (fun n => decide (k = (R.DLK_LAT n).addr)) || (List.range 64).any fun s => decide (k = (R.MEAS_UOFS s).addr ∨ k = (R.MEAS_UGAIN s).addr)
/-- The retained area (R532). -/
def retArea (a : Nat) : Bool := decide (0x200F0000 ≤ a) && decide (a < 0x20100000)

/-- A lane without power: its flash, its OTP and, where `ret`, what LANE_RET holds stay (R532, R575); of LANE_ID_LANE, the letter that its straps
give (R40). -/
def Lane.powerOff (L : Lane) (ret : Bool) : Lane := { Lane.off L.me with
  small := L.small
  flash := L.flash
  free := L.free
  regs := put (L.regs.filter fun e => otpReg e.1 || (ret && wakeReg e.1)) R.LANE_ID_LANE.addr (L.rd R.LANE_ID_LANE &&& F.LANE_ID_LANE_LETTER.mask)
    R.LANE_ID_LANE.rst
  mem := if ret then L.mem.filter fun e => retArea e.1 else []
  retained := if ret then L.retained else []
  pw := { (default : Pw) with keys := L.pw.keys } }

/-- A reset of the lane logic die (R127, R137): its clocks go on (log entry 30) and its memories keep their contents. -/
def Lane.resetDie (L : Lane) : Lane :=
  let X := { Lane.off L.me with
    small := L.small
    regs := L.regs.filter fun e => keptReg e.1
    mem := L.mem
    pmPar := L.pmPar
    ticks := L.ticks
    free := L.free
    gt := L.gt
    flash := L.flash
    posts := L.posts
    retained := L.retained
    reqAt := L.reqAt
    ck := { (default : Ck) with last := L.ck.last, oddAt := L.ck.oddAt }
    dg := default
    meas := { (default : Meas) with calCopy := L.meas.calCopy }
    snd := { (default : Snd) with spares := L.snd.spares }
    pw := { L.pw with read := false, verified := false, second := false, list := [], waitEnd := none, waitUs := 0, step9 := false, slpAns := none,
                      slpUndo := false, nvmAt := [] } }
  (X.wr R.MEAS_CALST (L.rd R.MEAS_CALST &&& (F.MEAS_CALST_GEN.mask ||| F.MEAS_CALST_STOREBAD.mask))).wr R.CE_STAT
    (L.rd R.CE_STAT &&& (F.CE_STAT_MACS.mask ||| F.CE_STAT_DEADMAC.mask))

/-- Engine program memory and the RAMs cleared by memory BIST (R539), the retained area kept where `ret`. -/
def Lane.clearMem (L : Lane) (ret : Bool) : Lane := { L with mem := L.mem.filter (fun e => ret && retArea e.1), pmPar := [] }

/-! ### Images (R550 to R556) -/

def slotBase (slot : Nat) : Nat := slot * 0x400000
/-- A word of an image slot. -/
def Lane.imgW (L : Lane) (slot ofs : Nat) : Word := L.flashW (slotBase slot + ofs)
def Lane.imgLen (L : Lane) (slot : Nat) : Nat := (L.imgW slot 8).toNat
/-- A header that meets R552, by its bytes from MAGIC to PART, for this part and a stepping. -/
def headerOk (w : Nat → Word) (step : Nat) : Bool :=
  decide (w 0 = 0x4D454459#32) && decide (w 4 = 0x01400001#32) && decide ((w 8).toNat % 4 = 0) && decide (0x140 ≤ (w 8).toNat)
    && decide ((w 8).toNat ≤ 0x3FFF80) && decide ((w 0x14).toNat % 65536 = 0x7340) && bitOf (w 0x14) (16 + step)
def Lane.headOk (L : Lane) (slot : Nat) : Bool := headerOk (L.imgW slot) (L.fld R.LANE_ID_PART F.LANE_ID_PART_STEP)
/-- The sections of an image: source, destination and length. -/
def Lane.sections (L : Lane) (slot : Nat) : List (Nat × Nat × Nat) :=
  (List.range ((L.imgW slot 0x18).toNat % 32)).map fun i =>
    ((L.imgW slot (0x40 + 16 * i)).toNat, (L.imgW slot (0x44 + 16 * i)).toNat, (L.imgW slot (0x48 + 16 * i)).toNat)
/-- Whether a destination lies in a memory that a section may fill, with every bank usable. -/
def Lane.destOk (L : Lane) (a n : Nat) : Bool :=
  [(0, 0x100000), (0x20000000, 0x100000), (0x30000000, 0x80000), (0x32000000, 0x10000)].any (fun m => decide (m.1 ≤ a) && decide (a + n ≤ m.1 + m.2))
    && (List.range 23).all fun b =>
      let lo := bankBase b
      let hi := lo + if b = 22 then 0x10000 else 0x20000
      decide (a + n ≤ lo) || decide (hi ≤ a) || !bitOf (L.rd R.PWR_SSBANK) b
/-- The check of R553. -/
def Lane.sectOk (L : Lane) (slot : Nat) : Bool :=
  let ss := L.sections slot
  decide (1 ≤ ss.length) && decide (ss.length ≤ 16)
    && (ss.all fun s => decide (s.1 % 4 = 0) && decide (s.2.1 % 4 = 0) && decide (s.2.2 % 4 = 0) && decide (s.2.2 ≠ 0)
        && decide (s.1 + s.2.2 ≤ L.imgLen slot) && L.destOk s.2.1 s.2.2)
    && !anyPair (fun x y => decide (x.2.1 < y.2.1 + y.2.2) && decide (y.2.1 < x.2.1 + x.2.2)) ss
/-- One byte of a section copied from flash. -/
def Lane.copyBytes : Nat → Lane → Nat → Nat → Lane
  | 0, L, _, _ => L
  | n + 1, L, src, dst => Lane.copyBytes n (L.setByte dst (L.flashByte src)) (src + 1) (dst + 1)
/-- The sections copied to their destinations; the parity of engine program memory is right afterwards (R185). -/
def Lane.copySections (L : Lane) (slot : Nat) : Lane :=
  { (L.sections slot).foldl (fun X s => Lane.copyBytes s.2.2 X (slotBase slot + s.1) s.2.1) L with pmPar := [] }
/-- The signed bytes of a slot and their digest (R555, R557). -/
def Lane.imgBytes (L : Lane) (slot n : Nat) : List Byte := (List.range n).map fun i => L.flashByte (slotBase slot + i)
def Lane.imgDigest (L : Lane) (slot : Nat) : List Byte := sha256 (L.imgBytes slot (L.imgLen slot))
/-- The signature block of a slot. -/
def Lane.sigBlock (L : Lane) (slot : Nat) : List Byte := (List.range 128).map fun i => L.flashByte (slotBase slot + L.imgLen slot + i)

/-- The slot of a programmed key that is not revoked and whose hash is that of a public key (R555). -/
def keySlot (keys : List (List Byte)) (revk : Nat) (pub : List Byte) : Option Nat :=
  (List.range 4).find? fun k => decide (keys.getD k [] = sha256 pub) && !revk.testBit k
/-- The cause of a failed signature check of an image with a digest: 0 for none (R555). -/
def sigCause (keys : List (List Byte)) (revk : Nat) (block digest : List Byte) : Nat :=
  match keySlot keys revk (block.take 64) with
  | none => 3
  | some _ => if ecdsaVerify (block.take 64) digest (block.drop 64) then 0 else 4

/-- The slot record (R556). -/
def slotRecBase (copy : Nat) : Nat := 0x800000 + 0x1000 * copy
def Lane.slotRecCopy (L : Lane) : Option Nat :=
  L.recCopy slotRecBase 2 0x5107 fun b => decide ((L.flashW (b + 4)).toNat / 2 % 4 = L.fld R.LANE_ID_LANE F.LANE_ID_LANE_LETTER)
/-- The slot record read at start-up, and the slot to load first. -/
def Lane.slotRecLoad (L : Lane) : Lane :=
  let L0 := ((L.setF R.IMG_STAT F.IMG_STAT_FALLBK 0).updPw fun p => { p with second := false, slotCopy := L.slotRecCopy })
  match L.slotRecCopy with
  | some c =>
    let act := (L.flashW (slotRecBase c + 4)).toNat % 2
    (((L0.setF R.IMG_SLOTREC F.IMG_SLOTREC_GEN ((L.flashW (slotRecBase c)).toNat / 65536)).setF R.IMG_SLOTREC F.IMG_SLOTREC_ACTIVE act).setF
      R.IMG_STAT F.IMG_STAT_SLOT act).updPw fun p => { p with slot := act }
  | none => ((L0.setF R.IMG_STAT F.IMG_STAT_NOREC 1).setF R.IMG_STAT F.IMG_STAT_SLOT 0).updPw fun p => { p with slot := 0 }
/-- The slot record's other copy written with ACTIVE naming a slot (R591, step 9). -/
def Lane.slotRecWrite (L : Lane) (act : Nat) : Lane :=
  let L1 := L.recWrite slotRecBase 0x5107 L.slotRecCopy [w32 (act + 2 * L.fld R.LANE_ID_LANE F.LANE_ID_LANE_LETTER)]
  L1.updPw fun p => { p with slotCopy := L1.slotRecCopy }

/-- The start has failed with a cause (R539, R558). -/
def Lane.imgFail (L : Lane) (cause : Nat) : Lane :=
  ((L.setF R.IMG_STAT F.IMG_STAT_STATE 2).setF R.IMG_STAT F.IMG_STAT_CAUSE cause).soundRec
/-- A slot has failed with a cause from 2 to 5: the other slot once (R556), else the start fails; the Bool says that it has failed. -/
def Lane.slotFail (L : Lane) (cause : Nat) : Lane × Bool :=
  if L.pw.second then (L.imgFail cause, true)
  else
    let L1 := if L.pw.joining then L else L.clearMem (L.on R.PWR_STAT F.PWR_STAT_RETOK)
    let s := 1 - L.pw.slot
    ((((L1.setF R.IMG_STAT F.IMG_STAT_FALLBK 1).setF R.IMG_STAT F.IMG_STAT_SLOT s)).updPw fun p =>
      { p with second := true, slot := s, read := false, verified := false }, false)

/-- The image read has ended (R552, R553); `flash` says that the flash answers as R551 asks. -/
def Lane.imageRead (L : Lane) (flash : Bool) : Lane × Bool :=
  if !flash then (L.imgFail 1, true)
  else
    let L1 := if L.pw.second then L else L.slotRecLoad
    let s := L1.pw.slot
    if !L1.headOk s then L1.slotFail 2
    else if !L1.sectOk s then L1.slotFail 5
    else ((L1.copySections s).updPw fun p => { p with read := true }, false)

/-- The register-load list of a slot (R554). -/
def Lane.loadList (L : Lane) (slot : Nat) : List (Word × Word) :=
  let o := (L.imgW slot 0x24).toNat
  (List.range ((L.imgW slot 0x28).toNat % 0x2000)).map fun i => (L.imgW slot (o + 8 * i), L.imgW slot (o + 8 * i + 4))

/-! ### Step 9 (R478, R557, R560 to R562) -/

/-- SAFE_CCV (R478). -/
def Lane.ccv (L : Lane) : Word :=
  let sess := (List.range 127).flatMap fun i =>
    [R.SAFE_SCFG (i + 1), R.SAFE_SPID (i + 1), R.SAFE_STEX (i + 1), R.SAFE_SREACT (i + 1), R.SAFE_SCHK (i + 1)]
  let axes := (List.range 12).flatMap fun a =>
    [R.AX_CFG a, R.AX_BIND a, R.AX_PSLOT a, R.AX_SPSRC a, R.AX_SPSAFE a, R.SFN_ACFG a, R.SFN_PMIN a, R.SFN_PMAX a, R.SFN_RMAX a, R.SFN_ACST a]
      ++ (List.range 8).flatMap fun k => [R.SFN_ESPD a k, R.SFN_EANG a k, R.SFN_ERATE a k]
  let rs := [R.LANE_ID_UID_LO, R.LANE_ID_UID_HI, R.SAFE_OWNID, R.SAFE_CMCFG] ++ sess ++ [R.SFN_UCRATE, R.SFN_UCDIST] ++ axes
  w32 (crc32 (wordsBytes (rs.map L.rd)))

/-- The mask of `n` resources, `per` on a die, whose die is up and passed. -/
def Lane.onDies (L : Lane) (n per : Nat) : Nat :=
  (List.range n).foldl (fun m i => if (L.fld R.PWR_STAT F.PWR_STAT_DIES).testBit (i / per) then m + 2 ^ i else m) 0
/-- The entries of the capability list (R448, R562): ID, whether it is degraded, base and parameter. -/
def Lane.capEntries (L : Lane) : List (Nat × Bool × Nat × Nat) :=
  let nb := if L.small then 4 else 8
  let nv := if L.small then 6 else 12
  let br := L.onDies nb 2
  let vl := L.onDies nv 3
  let so := L.onDies nb 2
  let oos := L.fld R.MEAS_CONV F.MEAS_CONV_OOS
  let m7 := L.macs7
  let lbBad := bitOf (L.rd R.PWR_SSBANK) 20 || bitOf (L.rd R.PWR_SSBANK) 21
  let lost (m n : Nat) : Bool := decide (m ≠ 2 ^ n - 1)
  [(0x0001, false, 0x40000000, L.fld R.LANE_ID_LANE F.LANE_ID_LANE_LETTER + 16 * L.fld R.LANE_ID_PART F.LANE_ID_PART_STEP),
   (0x0002, false, 0x40010000, 16 + 128 * 0x100 + 64 * 0x10000),
   (0x0003, false, 0x40020000, 2048 + 4096 * b2n (bitOf (L.rd R.IMG_FLAGS) 1)),
   (0x0010, m7, 0x40030000, L.fld R.CE_STAT F.CE_STAT_MACS + 16 * L.fld R.CE_STAT F.CE_STAT_DEADMAC + 8192 * 0x10000),
   (0x0011, false, 0x40040000, 12 + 16 * 0x100),
   (0x0012, lbBad, 0x31000000, 256 + 16 * 0x10000),
   (0x0020, lost br nb, 0x40050000, nb + br * 0x100),
   (0x0021, lost vl nv, 0x40050000, nv + vl * 0x10000),
   (0x0022, lost so nb, 0x40050000, nb + so * 0x100),
   (0x0030, decide (oos ≠ 0), 0x40060000, (0x3F ^^^ oos) + 64 * 0x100 + 16 * 0x10000),
   (0x0031, false, 0x40070000, 8 + 4 * 16 + 0x100),
   (0x0032, false, 0x40078000, 8),
   (0x0040, false, 0x40080000, 7 + 64 * 0x100),
   (0x0041, false, 0x40080000, 0)]
  ++ (if L.small then [] else [(0x0042, false, 0x40090000, 1)]) ++
  [(0x0043, false, 0x400A0000, 3),
   (0x0050, false, 0x400B0000, 127 + 3 * 0x100),
   (0x0051, false, 0x400C0000, 12 + 8 * 0x100),
   (0x0060, false, 0x400D0000, if L.small then 16 else 18),
   (0x0061, false, 0x400D0000, 1),
   (0x0070, false, 0x400E0000, L.fld R.PWR_SSLB F.PWR_SSLB_COV),
   (0x0080, false, 0x400F0000, 0),
   (0x0090, lost br nb, 0x40054000, br),
   (0x0091, lost br nb, 0x40054000, br)]
/-- The words of the capability list from offset `o` on (R561). -/
def capWords : Nat → List (Nat × Bool × Nat × Nat) → List (Nat × Nat)
  | _, [] => []
  | o, (id, deg, base, par) :: t =>
    [(o, id + 0x10000 + 0x1000000 * b2n deg), (o + 4, 16 + 0x10000 * (if t.isEmpty then 0 else o + 16)), (o + 8, base), (o + 12, par)]
      ++ capWords (o + 16) t
/-- The capability list published. -/
def Lane.capList (L : Lane) : Lane :=
  (capWords 0x100 L.capEntries).foldl (fun X e => X.wr ⟨0x40000000 + e.1, 0⟩ (w32 e.2)) L

/-- Step 9 of start-up, after the safety lock: SAFE_CCV, the CRCs, the records, the capability list; the image is loaded and the lane waits
for checkpoint zero, at a checkpoint later than any that reckoner 13 has passed. -/
def Lane.step9 (L : Lane) : Lane :=
  let L1 := L.wr R.SAFE_CCV L.ccv
  let L2 := (L1.wr R.IMG_CRCCODE (w32 L1.crcCode)).wr R.IMG_CRCPM (w32 L1.crcPm)
  let L3 := (L2.comLoad.loLoad.capList).setF R.IMG_STAT F.IMG_STAT_STATE 1
  (L3.updPw fun p => { p with step9 := true }).updCk fun c => { c with last := L.gt / L.ckP + 1 }
/-- The last entry of the list has been applied: the safety lock is set (R559). -/
def Lane.setLock (L : Lane) : Lane := (L.setF R.IMG_LOCK_STAT F.IMG_LOCK_STAT_LOCKED 1).updPw fun p => { p with rlAt := L.ticks }
/-- The signature has been verified or not (R555 to R557); the Bool says that the start has failed. -/
def Lane.sigVerify (L : Lane) : Lane × Bool :=
  let s := L.pw.slot
  let blk := L.sigBlock s
  let dig := L.imgDigest s
  let revk := L.fld R.IMG_KEY F.IMG_KEY_REVK
  let c := sigCause L.pw.keys revk blk dig
  if c ≠ 0 then L.slotFail c
  else if 4096 < (L.imgW s 0x28).toNat % 0x2000 then (L.imgFail 6, true)
  else
    let L1 := L.setF R.IMG_KEY F.IMG_KEY_USED ((keySlot L.pw.keys revk (blk.take 64)).getD 0)
    let L2 := (L1.wr R.IMG_GEN (L.imgW s 0xC)).wr R.IMG_FLAGS (L.imgW s 0x10)
    let L3 := ((L2.wr R.IMG_DIG0 (w32 (leNat (dig.take 4)))).wr R.IMG_DIG1 (w32 (leNat ((dig.drop 4).take 4)))).setF
      R.FIX_DBG F.FIX_DBG_RIG (b2n (bitOf (L.imgW s 0x10) 0))
    let L4 := L3.updPw fun p => { p with verified := true, list := L.loadList s, rlAt := L.ticks, waitEnd := none, waitUs := 0 }
    (if (L.loadList s).isEmpty then L4.setLock else L4, false)

/-! ### Joining after a split (R137) -/

/-- JOINREQ is written: the lane resets and reloads its active image without soundings. Its packets go on, with the split bit at 1 until checkpoint
zero (R134, R138), so its copies of the period starts stay (log entry 30). -/
def Lane.joinRequest (L : Lane) : Lane :=
  if L.mySt = 7 ∧ L.fld R.FIX_SPLIT F.FIX_SPLIT_SSTATE = 2 then
    let e := L.edg
    let L1 := (L.setSplit 3).resetDie
    ((L1.wr R.IMG_STAT 0).updPw fun p => { p with joining := true }).updEdg fun z => { z with
      split := e.split, seen := e.seen, pnum := e.pnum, pstart := e.pstart, lenNow := e.lenNow, lastRet := e.lastRet }
  else L

end Sys2Proof.Machine
end

