-- ==== Sys2Proof/Machine/Irq.lean ====
section
/-! DEFINITION. Interrupts (R41 to R46): which sources are pending (R90, R146, R188, R227, R283, R340, R372, R406, R449, R486,
R574, R607), which is claimed, and the end of service. -/

namespace Sys2Proof.Machine

/-- Whether any of the bits of a mask is set in a register. -/
def Lane.any (L : Lane) (r : Reg) (m : Nat) : Bool := decide ((L.rd r).toNat &&& m ≠ 0)

/-- Whether source `n` is pending (R43): its block's flag is set. -/
def Lane.srcPending (L : Lane) (n : Nat) : Bool :=
  let evt (f : Bf) : Bool := L.on R.FIX_EVT f
  if n = 1 then evt F.FIX_EVT_ODDEV
  else if n = 2 then evt F.FIX_EVT_RSDONE
  else if n = 3 then evt F.FIX_EVT_LANEOUT
  else if n = 4 then L.on R.FIX_XSTAT F.FIX_XSTAT_XLATE
  else if n = 5 then !L.ck.agreed.isEmpty
  else if n = 6 then evt F.FIX_EVT_DECOVF
  else if n = 7 then evt F.FIX_EVT_NOMAJ
  else if n = 8 then evt F.FIX_EVT_APPLYLATE
  else if n = 9 then evt F.FIX_EVT_SPLITEV
  else if n = 10 then evt F.FIX_EVT_DBGEV
  else if n < 16 then false
  else if n < 32 then (List.range 8).any fun k =>
    let w := 8 * (n - 16) + k
    -- in a pair the action is that of the even waypoint (R79)
    let e := if L.on (R.RKN_WP_CFG (w - w % 2)) F.RKN_WP_CFG_PAIR then w - w % 2 else w
    L.on (R.RKN_WP_STAT w) F.RKN_WP_STAT_FIRED && decide (L.fld (R.RKN_WP_CFG e) F.RKN_WP_CFG_ACTION = 5)
  else if n = 32 then (List.range 128).any fun w => L.on (R.RKN_WP_STAT w) F.RKN_WP_STAT_LATE
  else if n = 33 then L.any R.RKN_FAULT 7
  else if n = 34 then L.any R.RKN_ADM_STAT 0x3000
  else if n = 35 then L.on R.RKN_GT F.RKN_GT_GT_STEP
  else if n < 40 then false
  else if n = 40 then L.any R.CE_FAULT 0x3F
  else if n < 45 then L.any R.CE_OUTEV (255 * 256 ^ (n - 41))
  else if n = 45 then L.on R.CE_STAT F.CE_STAT_PMWREF
  else if n < 56 then false
  else if n < 68 then L.on (R.AX_LBST (n - 56)) F.AX_LBST_DONE
  else if n < 80 then
    let a := n - 68
    L.any (R.AX_STAT a) 0x108 || L.any (R.AX_BANK a) 0x3000 || L.on (R.AX_CHST a) F.AX_CHST_CHERR
      || L.on (R.AX_SPST a) F.AX_SPST_INVHELD || L.on (R.AX_LBST a) F.AX_LBST_CFGERR
  else if n < 88 then L.any (R.EDG_BEVT (n - 80)) 0x3FF
  else if n < 92 then
    let d := n - 88
    (List.range 3).any (fun k => L.any (R.EDG_VEVT (3 * d + k)) 0x3F) || (List.range 2).any (fun k => L.any (R.EDG_SOSTAT (2 * d + k)) 0x7C)
      || (List.range 2).any (fun k => L.any (R.EDG_TRSTAT (2 * d + k)) 0x1C) || L.any (R.EDG_DDSTAT d) 0x18
  else if n = 92 then L.any R.EDG_LDSTAT 0xFF00
  else if n < 96 then false
  else if n < 104 then L.any (R.EDG_MEVT (n - 96)) 0xFFFF
  else if n < 108 then L.any (R.DLK_EVT (n - 104)) 7
  else if n < 112 then false
  else if n < 128 then
    L.on (R.MEAS_SQSTAT (n - 112)) F.MEAS_SQSTAT_DONE && L.on (R.MEAS_SQCFG (n - 112)) F.MEAS_SQCFG_IE
  else if n = 128 then decide (L.rd R.MEAS_GBEVT0 ≠ 0) || decide (L.rd R.MEAS_GBEVT1 ≠ 0)
  else if n = 129 then L.on R.MEAS_SPOT_RES F.MEAS_SPOT_RES_NEW
  else if n = 130 then L.any R.MEAS_STAT 0x30
  else if n = 131 then L.any R.MEAS_STAT 0xC0
  else if n = 132 then L.on R.MEAS_STAT F.MEAS_STAT_CFGERR || (List.range 64).any fun s => L.on (R.MEAS_SLST s) F.MEAS_SLST_WREF
  else if n = 133 then L.on R.MEAS_CALST F.MEAS_CALST_DONE || L.on R.MEAS_CALST F.MEAS_CALST_REFUSED
  else if n < 144 then false
  else if n < 152 then L.any (R.POS_STAT (n - 144)) 0x3FE
  else if n < 160 then L.any (R.SENT_STAT (n - 152)) 0x3FE
  else if n = 160 then L.any R.POS_TRSTAT 0xF000
  else if n < 168 then false
  else if n = 168 then L.any R.HNET_EVT 0x107F
  else if n = 169 then L.any R.HNET_EVT 0xF80
  else if n < 178 then (List.range 8).any fun k =>
    let b := 8 * (n - 170) + k
    L.on (R.HNET_BST b) F.HNET_BST_NEW && L.on (R.HNET_BCFG b) F.HNET_BCFG_IE
  else if n = 178 then (List.range 64).any fun k => L.any (R.HNET_BST k) 0x62
  else if n < 184 then false
  else if n = 184 then L.any R.ISB_EVT 0xFF
  else if n = 185 then (List.range 16).any fun k => L.any (R.ISB_TXCT k) 0xC00
  else if n = 186 then (List.range 32).any fun k => L.on (R.ISB_RXS k) F.ISB_RXS_NEW && L.on (R.ISB_RXF k) F.ISB_RXF_IE
  else if n = 187 then L.any R.SVC_EVT 0xFF
  else if n = 188 then (List.range 8).any fun k => L.any (R.SVC_TXCT k) 0xC00
  else if n = 189 then (List.range 16).any fun k => L.on (R.SVC_RXS k) F.ISB_RXS_NEW && L.on (R.SVC_RXF k) F.ISB_RXF_IE
  else if n < 192 then false
  else if n < 194 then L.any (R.ETH_EVT (n - 192)) 0x1FF
  else if n < 200 then false
  else if n = 200 then L.any R.SAFE_EVT 0xF
  else if n = 201 then (List.range 127).any fun s => L.on (R.SAFE_SST (s + 1)) F.SAFE_SST_STCHG
  else if n = 202 then (List.range 127).any fun s => L.any (R.SAFE_SST (s + 1)) 0xF0
  else if n < 216 then false
  else if n = 216 then L.any R.SFN_EVT 0x1F
  else if n < 229 then L.any (R.SFN_ASTAT (n - 217)) 0x8F
  else if n < 232 then false
  else if n = 232 then L.any R.PWR_EVT 3
  else if n = 233 then L.any R.PWR_EVT 0x78
  else if n = 234 then L.on R.PWR_EVT F.PWR_EVT_SLPABORT
  else if n < 240 then false
  else if n = 240 then L.on R.SND_STAT F.SND_STAT_DONE
  else if n = 241 then L.any R.SND_STAT 0x150
  else if n < 244 then false
  else if n = 244 then L.on R.BMB_STAT F.BMB_STAT_INPEND
  else if n = 245 then L.any R.BMB_STAT 0x1E
  else if n = 248 then L.on R.IMG_LOCK_STAT F.IMG_LOCK_STAT_VIOL
  else false

/-- Every pending source, in rising order. -/
def Lane.pendings (L : Lane) : List Nat := (List.range 256).filter L.srcPending

/-- A source's level (R42). -/
def Lane.irqLevel (L : Lane) (n : Nat) : Nat := ((L.rd (R.IRQ_LVL (n / 8))).toNat >>> (4 * (n % 8))) % 16

/-- Whether a source that is pending is deliverable (R43). -/
def Lane.deliverable (L : Lane) (n : Nat) : Bool :=
  bitOf (L.rd (R.IRQ_EN (n / 32))) (n % 32)
    && decide (L.fld R.IRQ_THRESH F.IRQ_THRESH_THRESH ≤ L.irqLevel n)
    && decide ((L.rd R.IRQ_INSVC).toNat < 2 ^ L.irqLevel n)

/-- The source that a claim returns (R44, R46): of those pending at the start of this tick and deliverable, the one with the highest
level, and among equal levels the lowest number; 0 where there is none. -/
def Lane.claim (L : Lane) : Nat :=
  (L.irqPrev.filter L.deliverable).foldl (fun b n => if b = 0 ∨ L.irqLevel b < L.irqLevel n then n else b) 0

/-- The levels in service. -/
def Lane.showSvc (L : Lane) : Lane := L.wr R.IRQ_INSVC (w32 (L.inSvc.foldl (fun m n => m ||| 2 ^ L.irqLevel n) 0))

/-- A claim by the lane processor (R44). -/
def Lane.irqClaim (L : Lane) : Nat × Lane :=
  let n := L.claim
  if n = 0 then (0, L)
  else (n, { L with inSvc := n :: L.inSvc }.wr R.IRQ_INSVC (L.rd R.IRQ_INSVC ||| w32 (2 ^ L.irqLevel n)))

/-- Whether an interrupt is delivered to the lane processor (R42, R43). -/
def Lane.irqLine (L : Lane) : Bool := L.on R.IRQ_CTRL F.IRQ_CTRL_EN && L.pendings.any L.deliverable

/-- A completion (R45): the level of the source named leaves service; a source that is not in service sets CERR. -/
def Lane.irqComplete (L : Lane) (n : Nat) : Lane :=
  if L.inSvc.contains n then
    { L with inSvc := L.inSvc.erase n }.wr R.IRQ_INSVC (L.rd R.IRQ_INSVC &&& ~~~(w32 (2 ^ L.irqLevel n)))
  else L.raise R.IRQ_CTRL F.IRQ_CTRL_CERR

end Sys2Proof.Machine
end

