-- ==== Sys2Proof/Machine/Bus.lean ====
section
/-! DEFINITION. The lane's bus (R14 to R21, R38, R39, R624): which accesses are performed, the values that registers return, the values that
writes store, the writes that a block refuses, and what each block does on a write. -/

namespace Sys2Proof.Machine

/-! ### Addresses (R15, R38, R39) -/

/-- The instance that a register's address names in an array at a stride. -/
def idxOf (a : Nat) (r : Reg) (stride n : Nat) : Option Nat :=
  if r.addr ≤ a ∧ (a - r.addr) % stride = 0 ∧ (a - r.addr) / stride < n then some ((a - r.addr) / stride) else none
/-- The instance that an address names anywhere in the groups of an array. -/
def grpOf (a : Nat) (r : Reg) (stride n : Nat) : Option Nat :=
  if r.addr ≤ a ∧ (a - r.addr) / stride < n then some ((a - r.addr) / stride) else none

/-- Registers of resources that a GDZ-7320 does not have (R39, R148, R284, R341, R588). -/
def Lane.absentReg (L : Lane) (a : Nat) : Bool :=
  L.small && (decide (a / 0x10000 = 0x4009)
    || [(R.EDG_MCTL 4, 4 * 0x80), (R.EDG_BCFG 4, 4 * 0x40), (R.EDG_VCFG 6, 6 * 0x20), (R.EDG_SOCFG 4, 4 * 0x10), (R.EDG_TRCFG 4, 4 * 0x10),
        (R.EDG_OPCFG 2, 2 * 0x20), (R.DLK_CFG 2, 2 * 0x100)].any fun g => decide (g.1.addr ≤ a) && decide (a < g.1.addr + g.2))

/-- The memory that an address lies in, where the lane map has one: whether it may be written (R38). -/
def memWritable (a : Nat) : Option Bool :=
  if 0x10000000 ≤ a ∧ a < 0x10010000 then some false else if memBank a = none then none else some true

def accBytes : AccSize → Nat
  | .byte => 1
  | .half => 2
  | .word => 4

/-- The outcome of an access recorded: the value read, and whether it raised a bus error at which address. -/
def Lane.busEnd (L : Lane) (v : Word) (err : Bool) (a : Nat) : Lane :=
  { L with rdata := v, busErr := err, busAddr := if err then a else L.busAddr }
def Lane.busBad (L : Lane) (a : Nat) : Lane := L.busEnd 0 true a

/-! ### Reads -/

/-- A number placed in a field. -/
def Bf.put (f : Bf) (n : Nat) : Nat := (n % 2 ^ f.wid) <<< f.lo
/-- The view of a receive buffer that HNET_BSTk latched (R422). -/
def Lane.hnView (L : Lane) (k : Nat) : Option HnView :=
  if L.hn.latched.at k && !L.on (R.HNET_BCFG k) F.HNET_BCFG_DIR then some (L.hn.view.at k) else none
/-- What a register reads (R17): the value held, or what its block shows of its present state. -/
def Lane.view (L : Lane) (a : Nat) : Word :=
  let held := look L.regs a (match regRow a with | some r => w32 r.reset | none => 0)
  let fieldOf (f : Bf) (n : Nat) : Word := f.set held n
  if let some n := idxOf a (R.IRQ_PEND 0) 4 8 then
    w32 ((L.pendings.filter fun s => decide (s / 32 = n)).foldl (fun m s => m ||| 2 ^ (s % 32)) 0)
  else if a = R.IRQ_CLAIM.addr then w32 L.claim
  else if let some r := idxOf a (R.RKN_VAL 0) 4 16 then L.rknVal r
  else if let some n := idxOf a (R.RKN_TSTAT 0) 0x10 64 then fieldOf F.RKN_TSTAT_RUN (b2n (L.instOf n).isSome)
  else if a = R.CE_RUN.addr then
    let begun := L.eng.insts.foldl (fun m i => if i.begun then m ||| 2 ^ i.level else m) 0
    match L.eng.run with
    | some n => w32 (F.CE_RUN_TASK.put n + F.CE_RUN_BUSY.put 1 + F.CE_RUN_LEVEL.put ((L.instOf n).map (·.level) |>.getD 0) + F.CE_RUN_BEGUN.put begun)
    | none => w32 (F.CE_RUN_BEGUN.put begun)
  else if a = R.CE_STAT.addr then fieldOf F.CE_STAT_PLOCK (b2n L.pmSafe)
  else if let some n := idxOf a (R.CE_TST 0) 4 64 then fieldOf F.CE_TST_STATE (L.taskState n)
  else if a = R.MEAS_CONV.addr then fieldOf F.MEAS_CONV_BUSY ((List.range 6).foldl (fun m c => if L.convFree c then m else m + 2 ^ c) 0)
  else if let some n := idxOf a (R.MEAS_SLST 0) 0x40 64 then fieldOf F.MEAS_SLST_UNCAL (b2n (L.uncal n))
  else if let some n := idxOf a (R.POS_STAT 0) 0x40 8 then fieldOf F.POS_STAT_VALID (b2n (L.posValid n))
  else if let some b := idxOf a (R.EDG_MSTAT 0) 0x80 8 then
    F.EDG_MSTAT_SENSOK.set (fieldOf F.EDG_MSTAT_SRC (L.mcSrc b)) (b2n (L.sensOk b))
  else if let some b := idxOf a (R.EDG_BPEND 0) 0x40 8 then w32 (L.pendLen b)
  else if let some x := idxOf a (R.SFN_ASTAT 0) 0x100 12 then fieldOf F.SFN_ASTAT_CSLEFT (L.csLeft x)
  else if a = R.FIX_DGSTAT.addr then fieldOf F.FIX_DGSTAT_STILL (b2n L.still)
  else if a = R.FIX_DECSTAT.addr then w32 (F.FIX_DECSTAT_POSTED.put L.ck.dec.length + F.FIX_DECSTAT_AGREED.put (min 16 L.ck.agreed.length))
  else if a = R.FIX_DECAGR.addr then L.ck.agreed.headD 0
  else if let some k := idxOf a (R.HNET_BT 0) 4 64 then (match L.hnView k with | some v => v.time | none => held)
  else if let some k := grpOf a (R.HNET_BD 0 0) 0x40 64 then
    (match L.hnView k with | some v => v.words.getD ((a - (R.HNET_BD k 0).addr) / 4) 0 | none => held)
  else held

/-- What a read by the lane processor changes (R17, R20): an RC register clears, and some reads have a further effect. -/
def Lane.readClears (L : Lane) (a : Nat) (rc : Nat) : Lane :=
  if a = R.IRQ_CLAIM.addr then L.irqClaim.2
  else if a = R.FIX_DECAGR.addr then L.updCk fun c => { c with agreed := c.agreed.drop 1 }
  else if a = R.MEAS_SPOT_RES.addr then L.spotRead.2
  else if let some k := idxOf a (R.HNET_BST 0) 4 64 then L.bstLatch k
  else if rc = 0 then L
  else
    let v := L.view a
    -- what hardware counts in this tick is not lost
    { L with regs := put L.regs a (v &&& ~~~(w32 rc)) (match regRow a with | some r => w32 r.reset | none => 0) }

/-- `n` bytes of memory from an address on, least significant first. -/
def Lane.memRead (L : Lane) (a n : Nat) : Word :=
  if a / 0x10000 = 0x1000 then w32 ((Config.bootRom ((a - 0x10000000) / 4)).toNat >>> (8 * (a % 4)) % 2 ^ (8 * n))
  else w32 (leNat ((List.range n).map fun i => L.byte (a + i)))

/-- A read by the lane processor or the debugger. -/
def Lane.busRead (L : Lane) (m : Master) (sz : AccSize) (a : Nat) : Lane :=
  if L.bankOut a then L.busBad a
  else if (memWritable a).isSome then L.busEnd (L.memRead a (accBytes sz)) false a
  else match regRow a with
    | none => L.busBad a
    | some r =>
      if sz ≠ .word then L.busBad a
      else if L.absentReg a || r.wo then L.busEnd 0 false a
      else
        let v := if a = R.MEAS_SPOT_RES.addr then L.spotRead.1 else L.view a
        match m with
        | .debugger => L.busEnd v false a
        | .processor => (L.readClears a r.rc).busEnd v false a

/-! ### Values stored (R17) -/

/-- A field held to a range by the nearer limit. -/
def clampF (f : Bf) (lo hi : Nat) (v : Word) : Word := f.set v (clampN lo hi (f.get v))
/-- A two's-complement word that is stored as 0 where it is negative. -/
def negZero (v : Word) : Word := if v.toInt < 0 then 0 else v
/-- The value that a write stores, where its rule does not take every value (R87, R147, R148, R218, R250, R289, R325, R341, R360, R395, R450, R466, R488,
R514, R575). XWIN above 240 and VLEAD above 160, outside the ranges of R147 and R148, are stored as written (log entry 55). -/
def storedAs (a : Nat) (v : Word) : Word :=
  if (idxOf a (R.AX_SPDB 0) 0x1000 12).isSome || (idxOf a (R.AX_SPRATE 0) 0x1000 12).isSome || (idxOf a (R.AX_SPALPHA 0) 0x1000 12).isSome then negZero v
  else if a = R.RKN_ADM_CTRL.addr then clampF F.RKN_ADM_CTRL_LEAD 2 15 (clampF F.RKN_ADM_CTRL_HORIZON 16 4095 v)
  else if a = R.FIX_CKP.addr then
    clampF F.FIX_CKP_XWIN 20 255 (if 5 ≤ F.FIX_CKP_PSEL.get v then F.FIX_CKP_PSEL.set v 2 else v)
  else if (idxOf a (R.DLK_CFG 0) 0x100 4).isSome then clampF F.DLK_CFG_VLEAD 8 255 (clampF F.DLK_CFG_HOLD 0 8 v)
  else if (idxOf a (R.DLK_WIN 0) 0x100 4).isSome then clampF F.DLK_WIN_EWIN 8 1600 v
  else if (idxOf a (R.EDG_MINJ 0) 0x80 8).isSome then clampF F.EDG_MINJ_INJAMP 13 38 (clampF F.EDG_MINJ_TALIGN 5 255 v)
  else if (match idxOf a (R.EDG_BCFG 0) 0x40 8 with | some b => decide (b % 2 = 0) | none => false) then F.EDG_BCFG_SYNC.set v 0
  else if (idxOf a (R.EDG_VCFG 0) 0x20 12).isSome then
    (if F.EDG_VCFG_DFREQ.on v then clampF F.EDG_VCFG_DFREQ 50 300 v else v)
  else if (idxOf a (R.MEAS_GBFLT 0) 0x40 64).isSome then clampF F.MEAS_GBFLT_CNT 1 255 v
  else if (idxOf a (R.SENT_CFG 0) 0x40 8).isSome then clampF F.SENT_CFG_ERRLIM 1 15 v
  else if a = R.HNET_TIM.addr then clampF F.HNET_TIM_GMARG 1 31 (clampF F.HNET_TIM_RKDLY 2 63 v)
  else if (grpOf a (R.SAFE_SREACT 0) 0x20 128).isSome ∧ a % 0x20 = 0xC then
    clampF F.SAFE_SREACT_STOPR 0 2 (clampF F.SAFE_SREACT_EXPR 0 2 v)
  else if (grpOf a (R.SAFE_SCHK 0) 0x20 128).isSome ∧ a % 0x20 = 0x10 then
    clampF F.SAFE_SCHK_SEQWIN 1 255 (clampF F.SAFE_SCHK_AGEMAX 1 65535 v)
  else if (idxOf a (R.SFN_ACFG 0) 0x100 12).isSome then
    clampF F.SFN_ACFG_PREACT 0 2 (clampF F.SFN_ACFG_RREACT 0 2 (clampF F.SFN_ACFG_DREACT 0 2 (clampF F.SFN_ACFG_EREACT 0 2 v)))
  else if (idxOf a (R.SFN_ACST 0) 0x100 12).isSome then clampF F.SFN_ACST_CSTOPT 10 65535 v
  else if a = R.FIX_DGCFG.addr then clampF F.FIX_DGCFG_STILLT 1 15 v
  else if a = R.PWR_NVMG.addr then clampF F.PWR_NVMG_GUARD 70 200 (clampF F.PWR_NVMG_HYST 2 50 v)
  else v

/-! ### Refusals (R56, R225, R228, R284, R285, R353, R407, R408, R450, R452, R487, R488, R624) -/

/-- The write that R624 lets through: EN, bit 0 but for MEAS_SLCFGs, falls and every other writable field keeps its value. The EN of a resource is that
of the axis, the interface or the session whose activity refuses the write; EDG_CCCFG.EN is none of these. -/
def onlyClears (old v : Word) (mask en : Nat) : Bool :=
  bitOf old en && !bitOf v en && decide ((old ^^^ v) &&& w32 mask = w32 (2 ^ en))
/-- The flag that a write which a block refuses sets. -/
def Lane.refusal (L : Lane) (a : Nat) (row : RegRow) (v : Word) : Option (Reg × Bf) :=
  let old := L.view a
  let only := onlyClears old v (row.rw ||| row.rwl) 0
  let rwl := decide (row.rwl ≠ 0)
  if let some x := grpOf a (R.AX_CFG 0) 0x1000 12 then
    if rwl then
      (if L.axActive x && !(decide (a = (R.AX_CFG x).addr) && only) then some (R.AX_STAT x, F.AX_STAT_WREF) else none)
    else if [R.AX_LBMASK x, R.AX_LBBASE x, R.AX_LBLEN x, R.AX_LBPOST x].any (fun r => decide (r.addr = a)) && L.on (R.AX_LBCFG x) F.AX_LBCFG_ACTIVE
    then some (R.AX_LBST x, F.AX_LBST_CFGERR) else none
  else if !rwl then none
  else if let some x := grpOf a (R.EDG_CCCFG 0) 0x20 12 then
    if L.axActive x then some (R.AX_STAT x, F.AX_STAT_WREF) else none
  else if let some b := grpOf a (R.EDG_MCTL 0) 0x80 8 then
    if decide (a ≠ (R.EDG_MCTL b).addr) && L.on (R.EDG_MCTL b) F.EDG_MCTL_ACTIVE then some (R.EDG_MEVT b, F.EDG_MEVT_WREF) else none
  else if let some s := idxOf a (R.MEAS_SLCFG 0) 0x40 64 then
    let en := F.MEAS_SLCFG_EN.lo
    if L.on (R.MEAS_SLST s) F.MEAS_SLST_ACTIVE && !onlyClears old v (row.rw ||| row.rwl) en then some (R.MEAS_SLST s, F.MEAS_SLST_WREF) else none
  else if let some n := grpOf a (R.POS_CFG 0) 0x40 8 then
    if L.posActive n && !(decide (a = (R.POS_CFG n).addr) && only) then some (R.POS_STAT n, F.POS_STAT_WREF) else none
  else if R.POS_TRCFG.addr ≤ a ∧ a ≤ R.POS_RDPP.addr then
    if L.travOn && !(decide (a = R.POS_TRCFG.addr) && only) then some (R.POS_TRSTAT, F.POS_TRSTAT_WREF) else none
  else if let some m := grpOf a (R.SENT_CFG 0) 0x40 8 then
    if L.on (R.SENT_CFG m) F.SENT_CFG_ACTIVE && !(decide (a = (R.SENT_CFG m).addr) && only) then some (R.SENT_STAT m, F.SENT_STAT_WREF) else none
  else if a / 0x10000 = 0x4008 then
    if L.on R.HNET_CTRL F.HNET_CTRL_ACTIVE then some (R.HNET_EVT, F.HNET_EVT_CFGERR) else none
  else if let some p := grpOf a (R.ETH_CTRL 0) 0x100 2 then
    if L.on (R.ETH_CTRL p) F.ETH_CTRL_ACTIVE then some (R.ETH_EVT p, F.ETH_EVT_CFGERR) else none
  else if let some n := grpOf a (R.SAFE_SCFG 0) 0x20 128 then
    if L.sessSt n ≠ 0 ∧ ¬(a = (R.SAFE_SCFG n).addr ∧ only = true) then some (R.SAFE_EVT, F.SAFE_EVT_CFGERR) else none
  else if let some x := grpOf a (R.SFN_ACFG 0) 0x100 12 then
    if L.on (R.SFN_ACFG x) F.SFN_ACFG_EN && !(decide (a = (R.SFN_ACFG x).addr) && only) then some (R.SFN_EVT, F.SFN_EVT_CFGERR) else none
  else none

/-! ### What blocks do on a write -/

/-- FIX_CTRL.EN set from 0 (R101, R514): the checks of the list and of the stop profile. -/
def Lane.fixCause (L : Lane) : Nat := if L.listCause ≠ 0 then L.listCause else if L.profFails then 7 else 0
def Lane.fixWritten (L : Lane) (was : Bool) : Lane :=
  if L.on R.FIX_CTRL F.FIX_CTRL_EN && !was then
    let c := L.fixCause
    (L.setF R.FIX_STAT F.FIX_STAT_LISTERR (b2n (decide (c ≠ 0)))).setF R.FIX_STAT F.FIX_STAT_LISTCAUSE c
  else L
/-- A word written to FIX_DECPOST (R112, R209, R535, R541). -/
def Lane.decWrite (L : Lane) (w : Word) : Lane :=
  let n := w.toNat
  if n = 0 ∨ L.on R.FIX_CTRL F.FIX_CTRL_ACTIVE = false then L
  else if 0xFFFFFF0C ≤ n then L
  else if 0xFFFFFF00 ≤ n then L.swReq (n - 0xFFFFFF00)
  else if 0xFFFFFE00 ≤ n then
    let q := n - 0xFFFFFE00
    if q = 1 ∨ q = 2 ∨ q = 4 ∨ q = 5 then L.decPost w else L
  else L.decPost w
/-- Outputs that a halt or a join left off may switch again: software has enabled them (R138, R143, log entry 57). -/
def Lane.releaseKeys (L : Lane) (p : Nat → Bool) : Lane := L.updEdg fun e => { e with held := e.held.filter fun x => !p x.1 }
/-- EDG_CTRL has been written (R47 to R49): a disable ends with the period of each bridge and valve channel; an enable lets every bridge and
valve channel switch again. -/
def Lane.edgWritten (L : Lane) (was : Bool) : Lane :=
  let en := L.on R.EDG_CTRL F.EDG_CTRL_EN
  let keys := (List.range 24).filter fun k => L.edg.seen.at k
  if !en && was && L.on R.EDG_CTRL F.EDG_CTRL_ACTIVE then
    (if keys.isEmpty then L.setF R.EDG_CTRL F.EDG_CTRL_ACTIVE 0 else keys.foldl (fun X k => X.closeKey R.EDG_CTRL k) L)
  else if en then
    Lane.releaseKeys (if L.closes R.EDG_CTRL then L else L.setF R.EDG_CTRL F.EDG_CTRL_ACTIVE 1) fun k => decide (k < 20)
  else L
/-- EDG_BCFGb or EDG_VCFGv has been written, `key` naming the bridge or the valve channel (R47 to R49, R335). -/
def Lane.keyWritten (L : Lane) (key : Nat) (was : Bool) : Lane :=
  let r := keyCfg key
  let en := L.on r F.EDG_CTRL_EN
  if en then
    let L1 := if decide (key < 8) && !was then L.bridgeEnabled key else L
    L1.releaseKeys fun k => decide (k = key)
  else if was && L.on r F.EDG_BCFG_ACTIVE && L.edg.seen.at key then L.closeKey r key
  else if was then L.setF r F.EDG_BCFG_ACTIVE 0 else L
/-- Flags of EDG_BEVTb have been cleared: with the last of them, LEGS and CLASS name no short any more (R341, log entry 58). -/
def Lane.bevtCleared (L : Lane) (b : Nat) : Lane :=
  if (L.rd (R.EDG_BEVT b)).toNat % 1024 = 0 then (L.setF (R.EDG_BEVT b) F.EDG_BEVT_LEGS 0).setF (R.EDG_BEVT b) F.EDG_BEVT_CLASS 0 else L
/-- HNET_CTRL.EN has been written (R48, R418, R430): the controller stops once no frame of its own is on its way. -/
def Lane.hnWritten (L : Lane) (was : Bool) : Lane :=
  let en := L.on R.HNET_CTRL F.HNET_CTRL_EN
  if en && !was then (if L.on R.HNET_CTRL F.HNET_CTRL_ACTIVE then L else L.hnEnable)
  else if !en && L.on R.HNET_CTRL F.HNET_CTRL_ACTIVE then L.updHn fun h => { h with closing := true }
  else L
/-- Writes to the blocks of a lane: `old` is the lane before the write, `v` the value written. -/
def Lane.onRkn (L old : Lane) (a : Nat) (v : Word) : Lane :=
  if a = R.RKN_CTRL.addr then
    let L1 := L.rknWritten (old.on R.RKN_CTRL F.RKN_CTRL_EN)
    if F.RKN_CTRL_SNAP.on v then L1.rknSnap else L1
  else if a = R.RKN_FAULT.addr then (if F.RKN_FAULT_DLF.on v ∧ L.on R.RKN_FAULT F.RKN_FAULT_DLF = false then L.updEng fun e => { e with recd := false } else L)
  else if let some w := idxOf a (R.RKN_WP_CFG 0) 0x20 128 then L.wpCfgWritten old w
  else if let some w := idxOf a (R.RKN_WP_CMP 0) 0x20 128 then old.wpCmpWrite w v
  else L
def Lane.onFix (L old : Lane) (a : Nat) (v : Word) : Lane :=
  if a = R.FIX_CTRL.addr then L.fixWritten (old.on R.FIX_CTRL F.FIX_CTRL_EN)
  else if a = R.FIX_DECPOST.addr then L.decWrite v
  else if a = R.FIX_SPLIT.addr then
    let L1 := if F.FIX_SPLIT_SPLITREQ.on v then L.splitRequest else L
    if F.FIX_SPLIT_JOINREQ.on v then L1.joinRequest else L1
  else L
def Lane.onCe (L old : Lane) (a : Nat) : Lane :=
  if a = R.CE_CTRL.addr then L.engWritten (old.on R.CE_CTRL F.CE_CTRL_EN)
  else if let some n := idxOf a (R.CE_TASK 0) 4 64 then L.taskWritten n
  else L
def Lane.onAx (L old : Lane) (a : Nat) (v : Word) : Lane :=
  let x := (a - 0x40040000) / 0x1000
  if a = (R.AX_CFG x).addr then (L.axSplit x).axWritten x (old.on (R.AX_CFG x) F.AX_CFG_EN)
  else if a = (R.AX_BIND x).addr then L.axSplit x
  else if a = (R.AX_BANK x).addr then (if F.AX_BANK_SWREQ.on v then L.swReq x else L)
  else if a = (R.AX_LBCFG x).addr then
    L.lbWritten x (old.on (R.AX_LBCFG x) F.AX_LBCFG_EN) (F.AX_LBCFG_SWTRIG.on v) (F.AX_LBCFG_REARM.on v)
  else L
def Lane.onEdg (L old : Lane) (a : Nat) (v : Word) : Lane :=
  let clr := bitOf v 0
  if a = R.EDG_CTRL.addr then L.edgWritten (old.on R.EDG_CTRL F.EDG_CTRL_EN)
  else if a = R.EDG_LOAD.addr then Lane.emit (L.loadEdges L.me (F.EDG_LOAD_BMASK.get v))
  else if let some b := idxOf a (R.EDG_MCTL 0) 0x80 8 then L.mcWritten b (old.mcEn b)
  else if let some b := idxOf a (R.EDG_BCFG 0) 0x40 8 then L.keyWritten b (old.on (R.EDG_BCFG b) F.EDG_BCFG_EN)
  else if let some x := idxOf a (R.EDG_VCFG 0) 0x20 12 then L.keyWritten (8 + x) (old.on (R.EDG_VCFG x) F.EDG_VCFG_EN)
  else if let some x := idxOf a (R.EDG_SOCMD 0) 0x10 8 then
    (if L.on (R.EDG_SOCMD x) F.EDG_SOCMD_ON then L.releaseKeys fun k => decide (k = 40 + x) else L)
  else if let some b := idxOf a (R.EDG_BEVT 0) 0x40 8 then L.bevtCleared b
  else if let some b := idxOf a (R.EDG_BCLR 0) 0x40 8 then (if clr then L.addClear (b / 2) (8 + b % 2) else L)
  else if let some x := idxOf a (R.EDG_VCLR 0) 0x20 12 then (if clr then L.addClear (x / 3) (10 + x % 3) else L)
  else if let some x := idxOf a (R.EDG_SOCLR 0) 0x10 8 then (if clr then L.addClear (x / 2) (13 + x % 2) else L)
  else if let some x := idxOf a (R.EDG_TRCLR 0) 0x10 8 then (if clr then L.addClear (x / 2) (15 + x % 2) else L)
  else L
def Lane.onMeas (L old : Lane) (a : Nat) (v : Word) : Lane :=
  if a = R.MEAS_CTRL.addr then (L.measWritten (old.on R.MEAS_CTRL F.MEAS_CTRL_EN)).measSettle
  else if a = R.MEAS_REF.addr then L.refWritten (old.on R.MEAS_REF F.MEAS_REF_EN)
  else if a = R.MEAS_SPOT.addr then (if F.MEAS_SPOT_GO.on v then L.spotGo.spotTry else L)
  else if a = R.MEAS_SQSTART.addr then L.seqStarts (v.toNat % 65536)
  else if a = R.MEAS_CALCMD.addr then L.calCmd v
  else if let some s := idxOf a (R.MEAS_SLCFG 0) 0x40 64 then L.slotWritten s (old.on (R.MEAS_SLCFG s) F.MEAS_SLCFG_EN)
  else if let some q := idxOf a (R.MEAS_SQCFG 0) 4 16 then L.seqWritten q (old.on (R.MEAS_SQCFG q) F.MEAS_SQCFG_EN)
  else if let some s := grpOf a (R.MEAS_SLCFG 0) 0x40 64 then
    (if a = (R.MEAS_GBHI s).addr ∨ a = (R.MEAS_GBLO s).addr ∨ a = (R.MEAS_GBFLT s).addr then L.bandWritten s else L)
  else L
def Lane.onPos (L old : Lane) (a : Nat) : Lane :=
  if a = R.POS_CTRL.addr then L.posCtrlWritten (old.on R.POS_CTRL F.POS_CTRL_EN)
  else if a = R.POS_GSCFG.addr then L.gsWritten (old.on R.POS_GSCFG F.POS_GSCFG_EN)
  else if let some n := idxOf a (R.POS_CFG 0) 0x40 8 then L.posWritten n (old.on (R.POS_CFG n) F.POS_CFG_EN)
  else if let some m := idxOf a (R.SENT_CFG 0) 0x40 8 then L.sentWritten m (old.on (R.SENT_CFG m) F.SENT_CFG_EN)
  else L
def Lane.onHnet (L old : Lane) (a : Nat) (v : Word) : Lane :=
  if a = R.HNET_CTRL.addr then L.hnWritten (old.on R.HNET_CTRL F.HNET_CTRL_EN)
  else if let some k := idxOf a (R.HNET_BST 0) 4 64 then (if F.HNET_BST_TXREQ.on v then L.setW1s (R.HNET_BST k) F.HNET_BST_TXREQ else L)
  else L
/-- ISOBUS is number 2 and the service CAN number 3. -/
def Lane.onCan (L old : Lane) (a : Nat) (v : Word) : Lane :=
  let n := if a % 0x10000 < 0x8000 then 2 else 3
  if a = (canCtrl n).addr then Lane.emitR (L.canEnable L.me n (old.rd (canCtrl n)))
  else if a = R.ISB_NEG.addr then L.negotiate
  else if let some k := idxOf a (canTxct n 0) 0x10 16 then
    (if F.ISB_TXCT_REQ.on v then Lane.emitR ((L.setW1s (canTxct n k) F.ISB_TXCT_REQ).canRequest L.me n k (old.rd (canTxct n k))) else L)
  else L
def Lane.onEth (L old : Lane) (a : Nat) (v : Word) : Lane :=
  if let some p := idxOf a (R.ETH_CTRL 0) 0x100 2 then L.ethEnable p (old.rd (R.ETH_CTRL p))
  else if let some p := idxOf a (R.ETH_PHYADR 0) 0x100 2 then
    (if F.ETH_PHYADR_GO.on v then (L.setW1s (R.ETH_PHYADR p) F.ETH_PHYADR_GO).phyGo p (old.rd (R.ETH_PHYADR p)) else L)
  else L
def Lane.onSafe (L old : Lane) (a : Nat) : Lane :=
  if a = R.SAFE_CTRL.addr then L.safeWritten (old.on R.SAFE_CTRL F.SAFE_CTRL_EN)
  else if let some n := idxOf a (R.SAFE_SCFG 0) 0x20 128 then L.sessEnable n (old.rd (R.SAFE_SCFG n))
  else L
def Lane.onSfn (L old : Lane) (a : Nat) : Lane :=
  if a = R.SFN_CTRL.addr then L.setF R.SFN_CTRL F.SFN_CTRL_ACTIVE (L.fld R.SFN_CTRL F.SFN_CTRL_EN)
  else if let some x := idxOf a (R.SFN_ACFG 0) 0x100 12 then L.sfnEnable x (old.rd (R.SFN_ACFG x))
  else L
def Lane.onBmb (L : Lane) (a : Nat) (v : Word) : Lane :=
  if a = R.BMB_CTRL.addr then L.mailWritten
  else if a = R.BMB_OUTCTL.addr then L.outCtl v
  else if a = R.BMB_INCTL.addr then L.inCtl v
  else if a = R.BMB_KEYREV.addr then L.keyRevoke (F.BMB_KEYREV_SLOT.get v)
  else L
/-- What a write that has been stored makes its block do, by the block's window (R39). -/
def Lane.written (L old : Lane) (a : Nat) (v : Word) : Lane :=
  match a / 0x10000 with
  | 0x4001 => L.onRkn old a v
  | 0x4002 => L.onFix old a v
  | 0x4003 => L.onCe old a
  | 0x4004 => L.onAx old a v
  | 0x4005 => L.onEdg old a v
  | 0x4006 => L.onMeas old a v
  | 0x4007 => L.onPos old a
  | 0x4008 => L.onHnet old a v
  | 0x4009 => L.onCan old a v
  | 0x400A => L.onEth old a v
  | 0x400B => L.onSafe old a
  | 0x400C => L.onSfn old a
  | 0x400D => if a = R.PWR_MODEREQ.addr then L.decWrite (w32 (0xFFFFFE00 + F.PWR_MODEREQ_REQ.get v)) else L
  | 0x400E => if a = R.SND_CTRL.addr then L.sndWritten else if a = R.SND_REQ.addr then L.sndReq v else L
  | 0x400F => L.onBmb a v
  | 0x4010 =>
    if (idxOf a (R.IRQ_LVL 0) 4 32).isSome then L.showSvc
    else if a = R.IRQ_COMPLETE.addr then L.irqComplete (F.IRQ_COMPLETE_SRC.get v)
    else if a = R.IRQ_CTRL.addr then L.setF R.IRQ_CTRL F.IRQ_CTRL_ACTIVE (L.fld R.IRQ_CTRL F.IRQ_CTRL_EN) else L
  | _ => L

/-! ### Writes -/

/-- The bits of a write stored by the access codes (R16 to R18); the compare value of a waypoint is stored by its own rule (R74). -/
def Lane.store (L : Lane) (a : Nat) (row : RegRow) (mask : Nat) (v : Word) : Lane :=
  if (idxOf a (R.RKN_WP_CMP 0) 0x20 128).isSome then L
  else
    let d := w32 row.reset
    let old := look L.regs a d
    let free := (storedAs a v) &&& w32 mask
    let clr := v &&& w32 row.w1c &&& ~~~(w32 (L.setNow.at a))
    { L with regs := put L.regs a (((old &&& ~~~(w32 mask)) ||| free) &&& ~~~clr) d }
/-- A write to a register that a row lists (R21, R106). Of ISB_NEG, which holds RWL and RW fields, the RW field is stored under the lock too, and VIOL is
set where an RWL field would change (log entry 55). -/
def Lane.regWrite (L : Lane) (a : Nat) (row : RegRow) (v : Word) : Lane :=
  if row.rwl ≠ 0 ∧ L.on R.IMG_LOCK_STAT F.IMG_LOCK_STAT_LOCKED then
    let L1 := if L.on R.IMG_LOCK_STAT F.IMG_LOCK_STAT_VIOL then L else L.wr R.IMG_LOCK_ADDR (w32 a)
    let L2 := L1.raise R.IMG_LOCK_STAT F.IMG_LOCK_STAT_VIOL
    if row.rw = 0 then L2
    else
      let S := if (look L.regs a (w32 row.reset) ^^^ v) &&& w32 row.rwl = 0 then L.signW a v else L2.signW a v
      (S.store a row row.rw v).written S a v
  else match L.refusal a row v with
    | some (r, f) => L.raise r f
    | none => ((L.signW a v).store a row (row.rw ||| row.rwl) v).written (L.signW a v) a v

/-- Whether a word index of coefficient RAM lies in a shadow view whose axis copies now (R193, R207). -/
def Lane.shadowBusy (L : Lane) (a : Nat) : Option Nat :=
  if 0x30040000 ≤ a ∧ a < 0x30070000 then
    let x := ((a - 0x30000000) / 4 - 0x10000) / 0x1000
    let o := ((a - 0x30000000) / 4) % 0x1000
    if L.on (R.AX_BANK x) F.AX_BANK_BUSY && decide (0x800 ≤ o) && decide (o < 0xD00) then some x else none
  else none
/-- Bytes written to memory; the word that holds them counts in the signature (R106). -/
def Lane.memWrite (L : Lane) (a n : Nat) (v : Word) : Lane :=
  if n = 4 ∧ a % 4 = 0 then L.storeW a v
  else
    let L1 := (List.range n).foldl (fun X i => X.setByte (a + i) (byteOf v.toNat i)) L
    let w := a - a % 4
    L1.signW w (L1.memW w)
/-- The number of ones in a word, modulo 2. -/
def parity (w : Word) : Bool := ((List.range 32).countP fun i => bitOf w i) % 2 = 1
/-- The parity of an instruction after a write (R185): right once its upper word has been written. -/
def Lane.parUpd (L old : Lane) (a : Nat) : Lane :=
  let i := (a - 0x32000000) / 8
  let lo := 0x32000000 + 8 * i
  if 4 ≤ a % 8 then { L with pmPar := L.pmPar.set i false }
  else { L with pmPar := L.pmPar.set i (old.pmPar.at i != (parity (old.memW lo) != parity (L.memW lo))) }

/-- A write by the lane processor, the loader or the replay of a debugger's write (R14 to R21, R38, R186, R207). -/
def Lane.busWrite (L : Lane) (sz : AccSize) (a : Nat) (v : Word) : Lane :=
  if L.bankOut a then L.busBad a
  else match memWritable a with
    | some false => L.busEnd L.rdata false a
    | some true =>
      let L0 := L.busEnd L.rdata false a
      if a / 0x10000 = 0x3200 then
        if L.pmLocked then L0.raise R.CE_STAT F.CE_STAT_PMWREF else (L0.memWrite a (accBytes sz) v).parUpd L a
      else match L.shadowBusy a with
        | some x => L0.raise (R.AX_BANK x) F.AX_BANK_SWREF
        | none => (L0.noteWrite a).memWrite a (accBytes sz) v
    | none =>
      match regRow a with
      | none => L.busBad a
      | some row =>
        if sz ≠ .word then L.busBad a
        else
          let L0 := L.busEnd L.rdata false a
          if L.absentReg a then L0 else L0.regWrite a row v

end Sys2Proof.Machine
end

