-- ==== Sys2Proof/Machine/Wire.lean ====
section
/-! DEFINITION. Bus accesses as they reach the device: the lane's part, what it puts on its links, and what the Binnacle and the Helm Net port
fixes see of it at once. -/

namespace Sys2Proof.Machine

/-! ### Registers of the Binnacle (R588, R605) -/

/-- The reset value of a register by its offset. -/
def binRst (o : Nat) : Word := if o = 0 then 0x7340#32 else if o = 0x14 then 0x003C0E10#32 else if o = 0x18 then 0x64#32 else 0
def Bin.rd (b : Bin) (o : Nat) : Word := look b.regs o (binRst o)
/-- DRYDOCK and DBGAUTH of BIN_STAT. -/
def bDry : Bf := ⟨0, 1⟩
def bDbg : Bf := ⟨2, 1⟩
def Bin.dry (b : Bin) : Bool := bDry.on (b.rd 4)

/-! ### Bus accesses -/

/-- The Binnacle hears a lane's answer to its request (R581): accepted, or ended with the RCODE; an answer in the cycle of the withdrawal
stands (R50). -/
def Bin.answered (b : Bin) (k : Nat) (ans : Nat) : Bin :=
  let new : ReqEnt → ReqEnt := fun e => { e with st := if ans = 0 then .taken else .ended (ans - 256) [] }
  let sent : ReqEnt → Bool := fun e => decide (e.lane = k) && decide (e.st = .sent)
  let late : ReqEnt → Bool := fun e => decide (e.lane = k) && (match e.st with | .ended c _ => decide (c = 0xFF) | _ => false)
  if b.reqs.any sent then { b with reqs := b.reqs.map fun e => if sent e then new e else e }
  else
    let r := b.reqs.reverse
    match r.findIdx? late with
    | some i => { b with reqs := (r.modify i new).reverse }
    | none => b
/-- What the Binnacle sees of a write to BMB_INCTL; `L` is the lane before the write. -/
def State.hearAnswer (s : State) (L : Lane) (sz : AccSize) (a : Nat) (v : Word) : State :=
  match inAnswer v with
  | some n => if decide (sz = .word) && decide (a = R.BMB_INCTL.addr) && L.inOpen then { s with bin := s.bin.answered L.me n } else s
  | none => s

/-- A Helm Net controller whose disable waits goes OFF once no port fix sends a frame (R48, R430). -/
def State.helmSettle (s : State) : State :=
  if (s.d0.wins ++ s.d1.wins).any fun w => decide (w.st = 2) then s
  else s.onLanes fun _ L => if L.hn.closing then L.hnClosed else L

/-- A write by a lane's processor. -/
def State.busWrite (s : State) (l : LaneId) (sz : AccSize) (a : Nat) (v : Word) : State :=
  (((s.run l fun L => L.busWrite sz a v).hearAnswer (s.lane l) sz a v)).helmSettle
/-- Whether the debug link reaches Lane A (R139, R604, R605): in Dry dock, or in Field once the debugger is authenticated. -/
def State.dbgOpen (s : State) : Bool := s.bin.on && (s.bin.dry || bDbg.on (s.bin.rd 4))
/-- Whether a master reaches a lane: its own processor does, the debugger only Lane A and only over an open link (R139). -/
def State.reaches (s : State) (l : LaneId) : Master → Bool
  | .processor => true
  | .debugger => decide (l = .A) && s.dbgOpen
/-- A read by a lane's processor or by the debugger; a lane that the debugger does not reach stays as it is. -/
def State.busRead (s : State) (l : LaneId) (m : Master) (sz : AccSize) (a : Nat) : State :=
  if s.reaches l m then s.run l fun L => L.busRead m sz a else s

/-- A register written and read as a command. -/
def State.write (s : State) (l : LaneId) (r : Reg) (v : Word) : Host.Outcome State Fault Refusal := .next (s.busWrite l .word r.addr v)
def State.read (s : State) (l : LaneId) (m : Master) (r : Reg) : Host.Outcome State Fault Refusal := .next (s.busRead l m .word r.addr)

end Sys2Proof.Machine
end

