-- ==== Sys2Proof/Machine/Bin.lean ====
section
/-! DEFINITION. The Binnacle (R577 to R588): its registers, its log in SRAM and flash, its sensors, and the requests that it sends. -/

namespace Sys2Proof.Machine

/-! ### Registers (R588) -/

def Bin.wr (b : Bin) (o : Nat) (v : Word) : Bin := { b with regs := put b.regs o v (binRst o) }
def Bin.fld (b : Bin) (o : Nat) (f : Bf) : Nat := f.get (b.rd o)
def Bin.setF (b : Bin) (o : Nat) (f : Bf) (n : Nat) : Bin := b.wr o (f.set (b.rd o) n)
/-- The offsets that R588 lists. -/
def binListed (o : Nat) : Bool :=
  [0, 4, 8, 0xC, 0x10, 0x14, 0x18, 0x5C, 0x60, 0x64, 0x70, 0x74, 0x78].contains o
    || (decide (o % 4 = 0) && ((decide (0x20 ≤ o) && decide (o ≤ 0x48)) || (decide (0x50 ≤ o) && decide (o ≤ 0x58))))
/-- Fields of BIN_STAT, BIN_LOGCNT, BIN_KEYS and BIN_UPDST. -/
def bScan : Bf := ⟨1, 1⟩
def bLinks : Bf := ⟨4, 3⟩
def bLogFail : Bf := ⟨7, 1⟩
def bUpState : Bf := ⟨0, 4⟩
def bUpCause : Bf := ⟨8, 4⟩
def bUpConf : Bf := ⟨12, 1⟩
def Bin.updSt (b : Bin) : Nat := b.fld 0x74 bUpState
def Bin.setUpd (b : Bin) (st cause : Nat) : Bin := (b.setF 0x74 bUpState st).setF 0x74 bUpCause cause
/-- Whether the lanes are being updated, so that the device answers nothing (R592). -/
def Bin.busyUpd (b : Bin) : Bool := decide (2 ≤ b.updSt) && decide (b.updSt ≤ 5)

/-! ### Log (R582 to R585) -/

def Bin.logwp (b : Bin) : Nat := (b.rd 8).toNat
def Bin.logold (b : Bin) : Nat := (b.rd 0xC).toNat
/-- A record's words from word 0 to 6, closed by its CRC. -/
def closeRec (ws : List Word) : List Word := ws ++ [w32 (crc32c (wordsBytes ws))]
/-- A count of BIN_LOGCNT raised. -/
def Bin.logCnt (b : Bin) (f : Bf) : Bin := b.setF 0x10 f (min 65535 (b.fld 0x10 f + 1))
/-- A record arrives: it waits in SRAM, or is dropped while that is full. -/
def Bin.hold (b : Bin) (rcd : List Word) : Bin :=
  if b.sram.length < 8192 then { b with sram := b.sram ++ [rcd] }
  else { b.logCnt ⟨0, 16⟩ with dropped := b.dropped + 1 }
/-- A record of R583: `src` 0 to 2 a lane, 3 the Binnacle. -/
def Bin.record (b : Bin) (wakes src : Nat) (held : Bool) (ty : Nat) (cnum : Word) (ps : List Word) : Bin :=
  b.hold (closeRec ([w32 (ty % 256 + 256 * src + 1024 * b2n held + 65536 * (wakes % 65536)), w32 b.ms, cnum] ++ (ps ++ [0, 0, 0, 0]).take 4))
/-- A record of the Binnacle's own. -/
def Bin.own (b : Bin) (wakes ty : Nat) (ps : List Word) : Bin := b.record wakes 3 false ty 0xFFFFFFFF#32 ps

/-- A byte of the log flash; one that nothing has written reads 0xFF (log entry 7). -/
def Bin.flashByte (b : Bin) (a : Nat) : Byte := look b.flash a 0xFF#8
def Bin.flashBytes (b : Bin) (a : Nat) : List Byte → Bin
  | [] => b
  | x :: t => Bin.flashBytes { b with flash := put b.flash a x 0xFF#8 } (a + 1) t
/-- A sector of the log flash erased, by its number in the ring. -/
def Bin.erase (b : Bin) (sec : Nat) : Bin :=
  let a := sec % 4096 * 0x1000
  { b with flash := b.flash.filter fun e => e.1 < a || a + 0x1000 ≤ e.1 }
def Bin.oldAtLeast (b : Bin) (n : Nat) : Bin := if b.logold < n then b.wr 0xC (w32 n) else b
/-- The next record programmed: the first one of a sector has the sector erased, and the next one (R585, R591). -/
def Bin.program (b : Bin) (rcd : List Word) : Bin :=
  let n := b.logwp
  let sec := n / 128
  let b1 := if n % 128 = 0 then ((b.erase sec).erase (sec + 1)).oldAtLeast ((sec + 2 - 4096) * 128) else b
  (b1.flashBytes (32 * (n % 524288)) (wordsBytes rcd)).wr 8 (w32 (n + 1))
/-- Up to `k` records of SRAM programmed; what was dropped is recorded once there is room. -/
def Bin.programN (b : Bin) (wakes k : Nat) : Bin :=
  let b1 := { (b.sram.take k).foldl Bin.program b with sram := b.sram.drop k }
  if 0 < b.dropped ∧ b1.sram.length < 8192 then { b1.own wakes 0xC [w32 b.dropped] with dropped := 0 } else b1
/-- The records that the present page takes. -/
def Bin.pageRoom (b : Bin) : Nat := 8 - b.logwp % 8
/-- Whether a page is due: it is full, or its first record is 1 s old; none is written while an image is staged. -/
def Bin.pageDue (b : Bin) : Bool :=
  match b.sram with
  | [] => false
  | r :: _ => decide (b.pageRoom ≤ b.sram.length) || decide ((r.getD 1 0).toNat + 1000 ≤ b.ms)
/-- LOG_PAGE_PROGRAM: a failed write leaves the records in SRAM (log entry 40). -/
def Bin.page (b : Bin) (wakes : Nat) (ok : Bool) : Bin :=
  if !b.pageDue || (decide (1 ≤ b.updSt) && decide (b.updSt ≤ 5)) then b
  else if ok then b.programN wakes b.pageRoom else b.setF 4 bLogFail 1
/-- Every buffered record written to log flash (R582). -/
def Bin.flush (b : Bin) (wakes : Nat) (ok : Bool) : Bin :=
  if b.sram.isEmpty then b else if ok then b.programN wakes b.sram.length else b.setF 4 bLogFail 1

/-! ### Requests (R580, R581) -/

/-- A request queued for each of the lanes. -/
def Bin.ask (b : Bin) (lanes : List Nat) (op : Nat) (in1 in2 in3 : Word) (buf : List Word) : Bin :=
  { b with tag := (b.tag + 1) % 256, sendq := b.sendq ++ lanes.map fun l => (l, ⟨op, b.tag, in1, in2, in3, buf⟩) }
/-- The request of an OP that a lane has accepted and not replied to. -/
def Bin.takenReq (b : Bin) (l op : Nat) : Option MReq :=
  (b.reqs.find? fun e => decide (e.lane = l) && decide (e.req.op = op) && decide (e.st = .taken)).map (·.req)
/-- Whether a lane has a request unanswered. -/
def Bin.unanswered (b : Bin) (l : Nat) : Bool := b.reqs.any fun e => decide (e.lane = l) && decide (e.st = .sent)
/-- A lane's reply: its request of that TAG ends with the RESULT and the words (R579). -/
def Bin.replied (b : Bin) (l : Nat) (ws : List Word) : Bin :=
  let w := (ws.getD 0 0).toNat
  { b with reqs := b.reqs.map fun e =>
      if decide (e.lane = l) && decide (e.req.tag = w / 256 % 256) && decide (e.st = .taken) then { e with st := .ended (w % 256) (ws.drop 1) } else e }
/-- Requests that a lane can no longer answer end as refused with 0xFF. -/
def Bin.lost (b : Bin) (l : Nat) : Bin :=
  let gone := (b.sendq.filter fun x => decide (x.1 = l)).map fun x => (⟨l, x.2, .ended 0xFF []⟩ : ReqEnt)
  { b with
    sendq := b.sendq.filter fun x => decide (x.1 ≠ l)
    reqs := (b.reqs.map fun e => match e.st with
      | .ended _ _ => e
      | _ => if e.lane = l then { e with st := .ended 0xFF [] } else e) ++ gone }
/-- A lane's unanswered request is withdrawn (R581). -/
def Bin.withdraw (b : Bin) (l : Nat) : Bin :=
  { b with reqs := b.reqs.map fun e => if decide (e.lane = l) && decide (e.st = .sent) then { e with st := .ended 0xFF [] } else e }

/-- The lanes whose management link is up. -/
def State.linked (s : State) : List Nat :=
  [LaneId.A, .B, .C].filterMap fun l => if (s.lane l).on R.BMB_CTRL F.BMB_CTRL_LINK then some l.num else none
def laneOf (n : Nat) : LaneId := if n = 0 then .A else if n = 1 then .B else .C
/-- The Binnacle changed. -/
def State.onBin (s : State) (f : Bin → Bin) : State := { s with bin := f s.bin }
/-- A request for every lane whose link is up. -/
def State.askAll (s : State) (op : Nat) (in1 in2 : Word) (buf : List Word) : State := s.onBin fun b => b.ask s.linked op in1 in2 0 buf
/-- BIN_STAT as it reads: the links show what the lanes' links are. -/
def State.binStat (s : State) : Word := bLinks.set (s.bin.rd 4) (s.linked.foldl (fun m l => m + 2 ^ l) 0)
/-- A register as it reads. -/
def State.binRead (s : State) (o : Nat) : Word := if o = 4 then s.binStat else s.bin.rd o

/-- The request at the front of a lane's queue goes to its mailbox, where it is of OP `op` (R581): one at a time. -/
def State.deliver (s : State) (l : LaneId) (op : Nat) : State :=
  let L := s.lane l
  match s.bin.sendq.find? fun x => decide (x.1 = l.num) with
  | some (_, q) =>
    if decide (q.op = op) && s.bin.on && L.on R.BMB_CTRL F.BMB_CTRL_LINK && !L.on R.BMB_STAT F.BMB_STAT_INPEND && !s.bin.unanswered l.num then
      let ws := [w32 (q.op % 256 + 256 * q.tag + 65536 * (q.buf.length % 512)), q.in1, q.in2, q.in3, 0, 0, 0, 0]
      let L1 := ws.zipIdx.foldl (fun X x => X.wr (R.BMB_IN x.2) x.1) L
      let L2 := q.buf.zipIdx.foldl (fun X x => X.wr (R.BMB_INBUF x.2) x.1) L1
      let L3 := { L2.setF R.BMB_STAT F.BMB_STAT_INPEND 1 with reqAt := L.ticks, goneAt := 0 }
      (s.setLane l L3).onBin fun b => { b with sendq := b.sendq.erase (l.num, q), reqs := b.reqs ++ [⟨l.num, q, .sent⟩] }
    else s
  | none => s
/-- Whether a lane's mailbox holds a request of OP `op`. -/
def Lane.inOp (L : Lane) (op : Nat) : Bool := L.on R.BMB_STAT F.BMB_STAT_INPEND && decide ((L.rd (R.BMB_IN 0)).toNat % 256 = op)
def Lane.inTag (L : Lane) : Nat := (L.rd (R.BMB_IN 0)).toNat / 256 % 256
/-- The image answers the request in its mailbox: 0 accepts, else the RCODE plus 256. -/
def State.answer (s : State) (l : LaneId) (ans : Nat) : State :=
  (s.onLane l fun L => { L.setF R.BMB_STAT F.BMB_STAT_INPEND 0 with goneAt := 0 }).onBin fun b => b.answered l.num ans
/-- The image posts its reply to the request of a TAG. -/
def Lane.replyPost (L : Lane) (tag res : Nat) (ws : List Word) : Lane :=
  L.post 1 ((w32 (res % 256 + 256 * tag) :: ws ++ [0, 0, 0, 0, 0, 0, 0]).take 8)

/-! ### Sensors (R586, R587) -/

/-- The largest number whose square is at most `n`, from its bits `k` − 1 down. -/
def isqrt : Nat → Nat → Nat → Nat
  | 0, _, r => r
  | k + 1, n, r => isqrt k n (if (r + 2 ^ k) * (r + 2 ^ k) ≤ n then r + 2 ^ k else r)
/-- The square root to the nearest whole number. -/
def sqrtNear (n : Nat) : Nat :=
  let r := isqrt 40 n 0
  if r * r + r < n then r + 1 else r

def SensSt.temps (s : SensSt) (small : Bool) (ts : List Int) : SensSt :=
  let live := (ts.zipIdx.take 11).filter fun x => !(small && decide (x.2 = 8 ∨ x.2 = 9))
  { s with
    hot := live.foldl (fun h x => match h with | some (d, t) => if t < x.1 then some (x.2, x.1) else some (d, t) | none => some (x.2, x.1)) s.hot
    cold := live.foldl (fun c x => match c with | some t => some (min t x.1) | none => some x.1) s.cold }
def SensSt.supply (s : SensSt) (vs is : List Nat) : SensSt :=
  let low := ([0, 1, 2] : List Nat).foldl (fun (t : Tab Nat) k =>
    let v := vs.getD k 0
    -- stored plus 1: 0 says that no sample has been taken
    if t.at k = 0 ∨ v + 1 < t.at k then t.set k (v + 1) else t) s.vLow
  let high := ([0, 1, 2] : List Nat).foldl (fun (t : Tab Nat) k => if t.at k < vs.getD k 0 then t.set k (vs.getD k 0) else t) s.vHigh
  { s with vLow := low, vHigh := high, iHigh := max s.iHigh (is.take 3).sum }
def SensSt.accel (s : SensSt) (x y z : Int) : SensSt :=
  let vs : List Int := [x, y, z]
  let sq : Int → Nat := fun v => v.natAbs * v.natAbs
  let m := (vs.map sq).sum
  { s with
    n := s.n + 1
    sum := vs.zipIdx.foldl (fun t v => t.set v.2 (t.at v.2 + v.1)) s.sum
    sq := vs.zipIdx.foldl (fun t v => t.set v.2 (t.at v.2 + sq v.1)) s.sq
    peak2 := max s.peak2 m
    over4g := if 16000000 < m then s.over4g + 1 else s.over4g }
/-- The RMS of an axis after its mean has been removed, in mg. -/
def SensSt.rms (s : SensSt) (k : Nat) : Nat :=
  if s.n = 0 then 0
  else
    let v := ((s.n * s.sq.at k : Nat) : Int) - s.sum.at k * s.sum.at k
    sqrtNear (v.toNat / (s.n * s.n))

/-- A temperature as °C plus 64, and a voltage in 50 mV steps (log entry 41). -/
def degByte (t : Int) : Nat := clampN 0 255 (divNear t 10 + 64).toNat
def mvStep (v : Nat) : Nat := min 1023 ((v + 25) / 50)
/-- The sensor statistics record (R587). -/
def Bin.statRecord (b : Bin) (wakes : Nat) : Bin :=
  if b.fld 0x14 ⟨0, 16⟩ = 0 then b
  else
    let s := b.sens
    let hot := s.hot.getD (0, 0)
    let volts (f : Nat → Nat) : Word := w32 (mvStep (f 0) + 1024 * mvStep (f 1) + 1048576 * mvStep (f 2))
    let b1 := b.own wakes 0xA [w32 (hot.1 + 256 * degByte hot.2 + 65536 * degByte (s.cold.getD 0)),
      volts fun k => s.vLow.at k - 1, volts s.vHigh.at, w32 (min 65535 s.iHigh)]
    { b1 with sens := { s with hot := none, cold := none, vLow := [], vHigh := [], iHigh := 0 } }
/-- The vibration summary record (R587). -/
def Bin.vibRecord (b : Bin) (wakes : Nat) : Bin :=
  if b.fld 0x14 ⟨16, 16⟩ = 0 then b
  else
    let s := b.sens
    let r (k : Nat) : Nat := min 65535 (s.rms k)
    let v0 := w32 (r 0 + 65536 * r 1)
    let v1 := w32 (r 2 + 65536 * min 65535 (sqrtNear s.peak2))
    let b1 := ((b.wr 0x60 v0).wr 0x64 v1).own wakes 0xB [v0, v1, w32 (min 65535 s.over4g)]
    { b1 with sens := { s with n := 0, sum := [], sq := [], peak2 := 0, over4g := 0 } }
/-- A sample of the temperatures, of the supplies or of the acceleration (R586). The clock of the Binnacle goes on by 1 ms with each
sample of the supplies (log entry 42). -/
def Bin.sample (b : Bin) (small : Bool) : SensorSample → Bin
  | .temps ts =>
    let b1 := (List.range 11).foldl (fun (X : Bin) d => X.wr (0x20 + 4 * d)
      (if small && decide (d = 8 ∨ d = 9) then 0x8000#32 else wInt (ts.getD d 0) &&& 0xFFFF#32)) b
    { b1 with sens := b.sens.temps small ts }
  | .supply vs is =>
    let b1 := (List.range 3).foldl (fun (X : Bin) k => X.wr (0x50 + 4 * k) (w32 (vs.getD k 0 % 65536 + 65536 * (is.getD k 0 % 65536)))) b
    { b1.wr 0x5C (w32 (vs.getD 3 0 % 65536)) with sens := b.sens.supply vs is, ms := b.ms + 1 }
  | .accel x y z => { b with sens := b.sens.accel x y z }

end Sys2Proof.Machine
end

