-- ==== Sys2Proof/Machine/Power.lean ====
section
/-! DEFINITION. The KEEP domain, wakes and the power domains (R528 to R534, R563 to R570), the NVM guard (R571, R572) and the steps of
start-up as the device takes them (R539 to R549). -/

namespace Sys2Proof.Machine

def lanes3 : List LaneId := [.A, .B, .C]
/-- PWR_DOM as every lane shows it (R575). -/
def State.domains (s : State) : Nat :=
  let lane (L : Lane) (k : Nat) : Nat := if L.pw.up then 15 * 16 ^ k else 0
  let die (d : Die) (k : Nat) : Nat := if d.on then 2 ^ (12 + k) else 0
  lane s.a 0 + lane s.b 1 + lane s.c 2 + die s.d0 0 + die s.d1 1 + die s.d2 2 + die s.d3 3 + 65536 * b2n s.bin.on
    + 131072 * b2n (decide (s.keep.ph ≠ .unpowered))
def State.showDom (s : State) : State := s.onLanes fun _ L => L.wr R.PWR_DOM (w32 s.domains)

/-! ### Wakes (R563 to R566) -/

/-- The level sources that a wake configuration enables and that are active, as PWR_WAKESRC.ACT numbers them. -/
def levelMask (cfg : Word) (levels : Nat) : Nat :=
  let src (en lvl pol k : Nat) : Nat := if bitOf cfg en && bitOf cfg lvl && decide (levels.testBit k = bitOf cfg pol) then 2 ^ k else 0
  (if bitOf cfg 0 && levels.testBit 0 then 1 else 0) + src 1 2 3 1 + src 4 5 6 2
/-- Whether an edge on WAKE_0 or WAKE_1 is one that a configuration enables. -/
def edgeOn (cfg : Word) (k : Nat) (rising : Bool) : Bool :=
  let b := 1 + 3 * k
  bitOf cfg b && !bitOf cfg (b + 1) && decide (bitOf cfg (b + 2) = rising)
/-- Whether a classic frame matches the frame registers (R565): `w` holds WUFCFG, WUFID, WUFMASK, WUFDAT0 and WUFDAT1. -/
def frameMatch (w : List Word) (f : CanFrame) : Bool :=
  let c := w.getD 0 0
  let dat (i : Nat) : Byte := byteOf ((w.getD 3 0).toNat + 2 ^ 32 * (w.getD 4 0).toNat) i
  decide (f.ide = bitOf c 0) && decide ((w32 f.ident ^^^ w.getD 1 0) &&& w.getD 2 0 = 0)
    && (!bitOf c 5 || decide (f.dlc = Bf.get ⟨1, 4⟩ c))
    && (decide (f.dlc = 0) || (List.range (min 8 f.dlc)).any fun i => decide (f.data.getD i 0 &&& dat i ≠ 0))
def Lane.wakeCfg (L : Lane) : Word := L.rd R.PWR_WAKECFG
def Lane.wuf (L : Lane) : List Word :=
  [L.rd R.PWR_WUFCFG, L.rd R.PWR_WUFID, L.rd R.PWR_WUFMASK, L.rd R.PWR_WUFDAT0, L.rd R.PWR_WUFDAT1]
/-- The lowest source of a mask of ACT, as SRC names it. -/
def srcOf (act : Nat) : Nat := (((List.range 5).find? fun k => act.testBit k).map (· + 1)).getD 0
/-- BIN_MAIN at a wake (R584, R588, R605, R606): the working copy of the authentication key is read from the OTP where that is not
blocked. Its clock starts from 0, with the times measured by it, and posts that no lane can match any longer leave (log entry 42). -/
def Bin.wake (b : Bin) (wakeRec : Word) (wakes : Nat) : Bin :=
  { (((b.wr 0x14 (binRst 0x14)).wr 0x18 (binRst 0x18)).setF 4 bDbg 0) with
    on := true, ms := 0, auth := if b.authBlocked then b.auth else b.authOtp,
    posts := [], lastReq := 0, delay := b.delay.map fun _ => 0 }.own wakes 3 [wakeRec, w32 wakes]
/-- A wake: the record, the count, and the supplies of BIN_MAIN and the lanes (R539, R566); `src` is SRC, `frm` FROM. -/
def State.wake (s : State) (src act frm : Nat) (latched : Bool) : State :=
  let r := w32 (src + 8 * b2n latched + 16 * frm + 256 * act)
  let k := { s.keep with ph := .awake, mode := 0, wakeRec := r, wakes := s.keep.wakes + 1, latched := 0 }
  { s with keep := k, bin := s.bin.wake r k.wakes }.showDom
/-- A wake by the sources of a mask, from the mode that was entered. -/
def State.wakeBy (s : State) (act : Nat) : State := s.wake (srcOf act) act s.keep.mode (decide (s.keep.latched ≠ 0))
/-- A wake source becomes active while the lanes' sleep sequence runs (R568): `on` says of a lane whether it enables it. -/
def State.wakeSeen (s : State) (on : Lane → Bool) : State := s.onLanes fun _ L => if on L then L.sleepWake else L
/-- A latch of KEEP set by a wake during the power-down or in cycles 0 to 11 of the entry sequence. -/
def State.latch (s : State) (k : Nat) : State := { s with keep := { s.keep with latched := s.keep.latched ||| 2 ^ k } }
/-- The lanes for which the power-down is agreed (R569). -/
def State.downLanes (s : State) : List LaneId := lanes3.filter fun l => decide ((s.lane l).pw.slpAns = some (7, 0))
/-- What KEEP takes of the lanes' words (R564): the bits that two of three lanes send, those on which two senders agree with the rest as
held, or one sender's. -/
def keepTake (held : Word) (vs : List Word) : Word := w32 (agreeBits held.toNat (vs.map (·.toNat)))
/-- KEEP with the wake configuration that the lanes send. -/
def State.takeCfg (s : State) : Keep :=
  let ls := s.downLanes.map s.lane
  { s.keep with
    cfg := keepTake s.keep.cfg (ls.map (·.wakeCfg))
    wuf := (List.range 5).map fun i => keepTake (s.keep.wuf.getD i 0) (ls.map fun L => L.wuf.getD i 0) }
/-- An edge or a frame, source `k` of ACT (R563, R565, R568 to R570): `on` says whether a configuration enables it, `cycle` is the cycle of
a running entry sequence in which it falls. -/
def State.wakeEvent (s : State) (k cycle : Nat) (on : Word → List Word → Bool) : State :=
  let here (c : Keep) : Bool := on c.cfg c.wuf
  match s.keep.ph with
  | .asleep => if here s.keep then s.wakeBy (2 ^ k ||| levelMask s.keep.cfg s.keep.levels) else s
  | .entry => if here s.keep && decide (cycle < 12) then s.latch k else s
  | .awake =>
    if s.downLanes.isEmpty then s.wakeSeen fun L => on L.wakeCfg L.wuf
    else if here s.takeCfg then s.latch k else s
  | _ => s
/-- The level on WAKE_IGN, WAKE_0 or WAKE_1 (0 to 2) has changed and been held (R563, R568 to R570). -/
def State.wakeLevel (s : State) (k : Nat) (high : Bool) : State :=
  let lv := if high then s.keep.levels ||| 2 ^ k else s.keep.levels &&& (7 ^^^ 2 ^ k)
  let s1 := { s with keep := { s.keep with levels := lv } }
  match s.keep.ph with
  | .asleep => if (levelMask s.keep.cfg lv).testBit k then s1.wakeBy (levelMask s.keep.cfg lv) else s1
  | .awake => if s.downLanes.isEmpty then s1.wakeSeen fun L => (levelMask L.wakeCfg lv).testBit k else s1
  | _ => s1
/-- The end of the entry sequence (R570): the mode is reached, and what is latched or active wakes at once. -/
def State.entryEnd (s : State) : State :=
  if s.keep.ph = .entry then
    let s1 := { s with keep := { s.keep with ph := .asleep, anchored := decide (s.keep.mode = 2) } }
    let act := s.keep.latched ||| levelMask s.keep.cfg s.keep.levels
    if act = 0 then s1 else s1.wakeBy act
  else s

/-! ### The domains switched on and off -/

/-- A lane's links go down with its power: to the dies and to the Binnacle's requests. -/
def Die.laneGone (d : Die) (k : Nat) : Die := { d with links := d.links.set k 0, tx := d.tx.filter fun p => p.1 ≠ k, ptx := d.ptx.filter fun p => p.1 ≠ k }
def State.onDies (s : State) (f : Die → Die) : State := { s with d0 := f s.d0, d1 := f s.d1, d2 := f s.d2, d3 := f s.d3 }
/-- BIN_MAIN without power: the log flash, the OTP and what only a power-on of KEEP ends stay (R605, R606). -/
def Bin.powerOff (b : Bin) : Bin := { (default : Bin) with
  regs := (b.setF 4 bLogFail 0).regs.filter fun e => [0, 4, 8, 0xC, 0x70].contains e.1
  flash := b.flash
  keys := b.keys
  authBlocked := b.authBlocked
  authOtp := b.authOtp
  uid := b.uid
  free := b.free
  ir := 0 }
/-- Every domain but KEEP switched off or reset; `ret` keeps the retained areas, `bin` the Binnacle. -/
def State.allOff (s : State) (ret bin : Bool) : State :=
  let s1 := (s.onLanes fun _ L => L.powerOff ret).onDies fun _ => default
  { s1 with bin := if bin then (([0, 1, 2] : List Nat).foldl (fun (b : Bin) l => b.lost l) s1.bin) else s1.bin.powerOff, dbgq := [] }

/-- The power-down after step 6 (R569): the lanes for which the sequence has been agreed send their configuration, and the domains go off
but for those that the mode keeps. -/
def State.powerDown (s : State) : State :=
  match s.downLanes with
  | [] => s
  | l :: _ =>
    if s.keep.ph = .awake then
      let anchor := decide ((s.lane l).pw.slpReq = 4)
      let k := { s.takeCfg with ph := .entry, mode := if anchor then 2 else 1, anchored := false }
      ({ s with keep := k }.allOff anchor anchor).showDom
    else s
/-- RESET_N has been low for 10 µs (R566): every domain but KEEP is reset. -/
def State.resetN (s : State) : State :=
  if s.keep.ph = .unpowered ∨ s.keep.ph = .held then s
  else { s.allOff false false with keep := { s.keep with ph := .held, mode := 0, latched := 0, anchored := false } }
/-- RESET_N is released: a wake with source 5. -/
def State.resetNEnd (s : State) : State :=
  if s.keep.ph = .held then s.wake 5 (16 ||| levelMask s.keep.cfg s.keep.levels) 3 false else s
/-- The first power-on of KEEP (R564, R566, R606): WAKE_IGN alone is enabled. -/
def State.keepOn (s : State) : State :=
  if s.keep.ph = .unpowered then
    let b := { s.bin.setF 4 bScan 0 with authBlocked := false }
    { s with keep := { s.keep with cfg := 1, wuf := [], wakes := 0 }, bin := b }.wake 0 (levelMask 1 s.keep.levels) 0 false
  else s

/-! ### Start-up of a lane (R528, R529, R539 to R549) -/

/-- Whether a lane runs the steps of start-up. -/
def Lane.starting (L : Lane) : Bool := L.pw.up && decide (L.mySt = 1)
/-- A lane's part of start-up, where it fails or not: OUT (R126, R539). -/
def State.startStep (s : State) (l : LaneId) (r : Lane × Bool) : State :=
  let s1 := s.run l fun _ => r.1
  if r.2 then s1.setSta l.num 9 else s1
/-- The reset of a lane logic die is released (R25, R532, R539, R566): `strap` are its straps and `us` the µs from the wake event. -/
def State.laneRelease (s : State) (l : LaneId) (strap us : Nat) : State :=
  let L := s.lane l
  if L.pw.on && !L.pw.up && decide (s.keep.ph = .awake) then
    let L1 := (L.updPw fun p => { p with up := true, relAt := L.ticks, wakeUs := us }).setF R.LANE_ID_LANE F.LANE_ID_LANE_LETTER strap
    let s1 := ((s.setLane l (L1.wr R.PWR_WAKESRC s.keep.wakeRec).calLoad).setSta l.num 1).showDom
    if strap = 3 then s1.startStep l ((s1.lane l).imgFail 9, true) else s1
  else s
/-- Memory BIST has ended (R544, R547): the failing rows of the banks, whether every word of the retained area read well, and the µs taken. -/
def Lane.memBist (L : Lane) (rows : List (Nat × Nat)) (ecc anchor : Bool) (us : Nat) : Lane :=
  let bits (p : Nat → Bool) : Nat := rows.foldl (fun m r => if r.1 < 23 ∧ p r.2 then m ||| 2 ^ r.1 else m) 0
  let L1 := ((L.wr R.PWR_SSBANK (w32 (bits fun n => decide (8 < n)))).wr R.PWR_SSREP (w32 (bits fun n => decide (1 ≤ n) && decide (n ≤ 8)))).wr
    R.PWR_SSMB (w32 (us % 65536))
  let L2 := (L1.setF R.PWR_STAT F.PWR_STAT_RETOK (b2n (ecc && anchor))).clearMem (ecc && anchor)
  let used : Tab Nat := rows.foldl (fun t r => if r.1 < 23 ∧ r.2 ≤ 8 then t.set r.1 r.2 else t.set r.1 8) []
  Lane.showPosts { L2.updPw fun p => { p with mbist := true } with
    retained := if ecc && anchor then L2.retained else [], snd := { L2.snd with spares := used } }
/-- Logic BIST has ended (R184, R345, R543): coverage, µs, the MAC unit and the converters taken out of service. -/
def Lane.logicBist (L : Lane) (pass : Bool) (cov us : Nat) (mac : Option Nat) (oos : Nat) : Lane × Bool :=
  let L1 := L.wr R.PWR_SSLB (w32 (cov % 256 + 256 * b2n pass + 65536 * (us % 65536)))
  let L2 := match mac with
    | some m => (L1.setF R.CE_STAT F.CE_STAT_MACS 7).setF R.CE_STAT F.CE_STAT_DEADMAC m
    | none => (L1.setF R.CE_STAT F.CE_STAT_MACS 8).setF R.CE_STAT F.CE_STAT_DEADMAC 0
  let L3 := (L2.setF R.MEAS_CONV F.MEAS_CONV_OOS oos).updPw fun p => { p with lbist := true }
  if pass then (L3, false) else (L3.imgFail 8, true)

/-- The lanes whose ring bring-up is complete. -/
def State.ringUp (s : State) : List LaneId := lanes3.filter fun l => (s.lane l).pw.ring
/-- Letters checked over the ring (R26): each lane shows whether both neighbours confirm its letter, and one that both find misplaced goes
to OUT. -/
def State.letters (s : State) : State :=
  lanes3.foldl (fun X l =>
    let L := X.lane l
    let both := (X.lane l.succ).pw.ring && (X.lane l.pred).pw.ring && L.pw.ring
    let ok := decide (L.fld R.LANE_ID_LANE F.LANE_ID_LANE_LETTER = l.num)
    if !both then X
    else if ok then X.onLane l fun L => L.setF R.LANE_ID_LANE F.LANE_ID_LANE_RINGOK 1
    else if L.mySt = 1 ∨ L.mySt = 2 ∨ L.mySt = 6 then (X.onLane l fun L => L.soundRec).setSta l.num 9 else X) s
/-- The driver links of a lane train (R26, R36, R546): `lat` holds the latencies of its links to D0 to D3 in 5 ns steps. A die that has not
reported a passed sounding stays without a link. -/
def Die.train (d : Die) (k : Nat) : Die := if d.on && d.sounded && !d.soundBad then { d with links := d.links.set k 2 } else d
def latBf (k : Nat) : Bf := if k = 0 then F.DLK_LAT_LAT_A else if k = 1 then F.DLK_LAT_LAT_B else F.DLK_LAT_LAT_C
def State.train (s : State) (l : LaneId) (lat : List Nat) : State :=
  let s1 := s.onDies fun d => d.train l.num
  let up (n : Nat) : Bool := decide ((s1.die n).links.at l.num = 2)
  let s2 := (List.range 4).foldl (fun X n => X.onLanes fun _ L => L.setF (R.DLK_LAT n) (latBf l.num) (if up n then lat.getD n 0 else 0)) s1
  s2.onLane l fun L => L.setF R.PWR_STAT F.PWR_STAT_DIES ((List.range 4).foldl (fun m n => if up n then m + 2 ^ n else m) 0)
/-- Ring bring-up (R26, R540): reckoner 13 starts at the value of a lane already up, else at 0. -/
def State.ringBringUp (s : State) (l : LaneId) (lat : List Nat) : State :=
  let L := s.lane l
  if L.starting && L.pw.lbist && !L.pw.ring then
    let gt := match s.ringUp with | k :: _ => (s.lane k).gt | [] => 0
    ((s.setLane l ({ L with gt := gt }.updPw fun p => { p with ring := true })).train l lat).letters
  else s

/-- Whether the image steps of start-up run: after memory BIST, or in the reload of a join (R137, R539). -/
def Lane.loading (L : Lane) : Bool := (L.starting && L.pw.mbist) || (L.pw.joining && decide (L.mySt = 7))
/-- What follows the last entry of the list: step 9, and the wait for checkpoint zero (R539, R559). A joining lane takes step 9 at JOIN_RELOAD_DONE. -/
def State.listEnd (s : State) (l : LaneId) : State :=
  let L := s.lane l
  if L.on R.IMG_LOCK_STAT F.IMG_LOCK_STAT_LOCKED && !L.pw.step9 && !L.pw.joining && L.starting then (s.run l (·.step9)).setSta l.num 2 else s
/-- One entry of the register-load list (R101, R554); the Bool says that the start has failed. -/
def Lane.loadEntry (L : Lane) : Lane × Bool :=
  match L.pw.list with
  | [] => (L, false)
  | (a, v) :: t =>
    let n := a.toNat
    let L1 := L.updPw fun p => { p with list := t, rlAt := L.ticks }
    let L2 := L1.setF R.IMG_RLCNT F.IMG_RLCNT_CNT (L.fld R.IMG_RLCNT F.IMG_RLCNT_CNT + 1)
    if n = 0xFFFFFFFC then
      if 1 ≤ v.toNat ∧ v.toNat ≤ 100000 then
        let us := L.pw.waitUs + v.toNat
        ((L2.updPw fun p => { p with waitEnd := some (L.ticks + 200 * v.toNat), waitUs := us }).setF R.IMG_RLCNT F.IMG_RLCNT_WAITMS (us / 1000), false)
      else (L.imgFail 6, true)
    else if n % 4 ≠ 0 ∨ n < 0x40000000 ∨ 0x40120000 ≤ n then (L.imgFail 6, true)
    else
      let L3 := L2.busWrite .word n v
      if L3.busErr then ((L1.busWrite .word n v).imgFail 6, true)
      else if n = R.FIX_CTRL.addr ∧ L3.on R.FIX_CTRL F.FIX_CTRL_EN = true ∧ L3.on R.FIX_STAT F.FIX_STAT_LISTERR = true then (L3.imgFail 7, true)
      else (if t.isEmpty then L3.setLock else L3, false)
/-- Whether an entry may be applied now: at most one per µs. -/
def Lane.loadDue (L : Lane) : Bool :=
  L.loading && L.pw.verified && L.pw.waitEnd.isNone && !L.pw.list.isEmpty && decide (L.pw.rlAt + 200 ≤ L.ticks)
/-- A WAIT ends. -/
def Lane.loadWaitEnd (L : Lane) : Lane :=
  match L.pw.waitEnd with
  | some t =>
    if L.loading && decide (t ≤ L.ticks) then
      let L1 := L.updPw fun p => { p with waitEnd := none }
      if L.pw.list.isEmpty then L1.setLock else L1
    else L
  | none => L
/-- 1 s after its reset release, a lane in JOIN that sees no other lane there names the lanes missing (R549, R584). -/
def Lane.loneTimeout (L : Lane) : Lane :=
  let others := (List.range 3).any fun k => decide (k ≠ L.me) && decide (L.laneSt k = 2 ∨ L.laneSt k = 3)
  if L.pw.step9 && decide (L.mySt = 2) && !others && !L.pw.lone && decide (L.pw.relAt + 200000000 ≤ L.ticks) then
    (L.updPw fun p => { p with lone := true }).logRec 8 (L.rd R.PWR_STAT) 0 0 0
  else L

/-! ### The NVM guard (R571, R572) -/

/-- The feed in 0.1 V, from steps of 20 mV. -/
def Lane.guardOn (L : Lane) (feed : Nat) : Lane :=
  let L1 := L.setF R.PWR_FEED F.PWR_FEED_FEED feed
  if !L.on R.PWR_NVMST F.PWR_NVMST_ACTIVE && decide (feed < 5 * L.fld R.PWR_NVMG F.PWR_NVMG_GUARD) then
    let run := ([1, 2, 3, 4] : List Nat).filter fun k => L.nvmBusy k
    let L2 := (L1.setF R.PWR_NVMST F.PWR_NVMST_ACTIVE 1).raise R.PWR_EVT F.PWR_EVT_GUARDON
    { L2.setF R.PWR_NVMST F.PWR_NVMST_WAITING (b2n !run.isEmpty) with nvmWait := run }
  else L1
/-- The records of the retained area reach the mailbox as it has room; the guard's release begins it. -/
def Lane.unretain (L : Lane) : Lane :=
  let n := if L.on R.PWR_NVMST F.PWR_NVMST_ACTIVE || !L.on R.BMB_CTRL F.BMB_CTRL_EN || !L.on R.BMB_CTRL F.BMB_CTRL_LINK then 0 else 16 - L.posts.length
  Lane.showPosts { L with posts := L.posts ++ L.retained.take n, retained := L.retained.drop n }
def Lane.guardOff (L : Lane) (feed : Nat) : Lane :=
  let L1 := L.setF R.PWR_FEED F.PWR_FEED_FEED feed
  if L.on R.PWR_NVMST F.PWR_NVMST_ACTIVE && decide (5 * (L.fld R.PWR_NVMG F.PWR_NVMG_GUARD + L.fld R.PWR_NVMG F.PWR_NVMG_HYST) < feed) then
    let L2 := ((L1.setF R.PWR_NVMST F.PWR_NVMST_ACTIVE 0).setF R.PWR_NVMST F.PWR_NVMST_WAITING 0).raise R.PWR_EVT F.PWR_EVT_GUARDOFF
    { L2 with nvmWait := [] }.unretain
  else L1
/-- A record write has waited for more than 1 s (R366, R484, R518, R572). -/
def Lane.nvmTimeout (L : Lane) (k : Nat) : Lane :=
  if L.nvmWait.contains k && decide (L.pw.nvmAt.at k + 200000000 ≤ L.ticks) then
    let L1 := { L with nvmWait := L.nvmWait.filter fun x => decide (x ≠ k) }
    let L2 := (if k = 1 then L1.calStored false else if k = 2 then L1.comDone false else if k = 3 then L1.loDone false else L1.nvmEnd k)
    (L2.setF R.PWR_NVMST F.PWR_NVMST_WAITING (b2n !L2.nvmWait.isEmpty)).raise R.PWR_EVT F.PWR_EVT_WRFAIL
  else L

/-! ### Management links (R578) -/

def State.linkDown (s : State) (l : LaneId) : State :=
  if (s.lane l).on R.BMB_CTRL F.BMB_CTRL_LINK then
    (s.onLane l fun L => (L.setF R.BMB_CTRL F.BMB_CTRL_LINK 0).raise R.BMB_STAT F.BMB_STAT_LINKERR).onBin fun b => b.lost l.num
  else s
def State.linkUp (s : State) (l : LaneId) : State :=
  if (s.lane l).pw.up && s.bin.on then s.onLane l fun L => (L.setF R.BMB_CTRL F.BMB_CTRL_LINK 1).unretain else s

end Sys2Proof.Machine
end

