-- ==== Sys2Proof/Machine/Update.lean ====
section
/-! DEFINITION. The Binnacle's posts (R579, R580), its diagnostic messages, and the update of the lanes' images (R589 to R595). -/

namespace Sys2Proof.Machine

/-! ### Diagnostic messages (R579, R581, R589) -/

/-- A diagnostic response sent through the lanes (SEND). -/
def State.udsSend (s : State) (port : Nat) (bs : List Byte) : State :=
  let ws := (List.range ((bs.length + 3) / 4)).map fun i => w32 (leNat ((bs.drop (4 * i)).take 4))
  s.askAll 4 (w32 port) (w32 bs.length) ws
/-- A negative response. -/
def State.nrc (s : State) (port sid code : Nat) : State := s.udsSend port [0x7F#8, BitVec.ofNat 8 sid, BitVec.ofNat 8 code]
/-- The services that the Binnacle serves. -/
def udsServed : List Nat := [0x10, 0x22, 0x27, 0x31, 0x34, 0x35, 0x36, 0x37, 0x3E]
/-- A message has been joined: one of a service that is not served is answered at once (R589). -/
def State.udsJoined (s : State) (port : Nat) (bs : List Byte) : State :=
  let sid := (bs.getD 0 0).toNat
  if bs.isEmpty then s
  else if udsServed.contains sid then s.onBin fun b => { b with msgs := b.msgs ++ [(port, bs)] }
  else if s.bin.busyUpd then s else s.nrc port sid 0x11
/-- A diagnostic segment acted upon (R579). -/
def State.segment (s : State) (ws : List Word) : State :=
  let w := (ws.getD 0 0).toNat
  let port := w % 4
  let num := w / 65536
  let dat := (wordsBytes ((ws.drop 1).take 6)).take (w / 256 % 256)
  let old := s.bin.segs.at port
  if port = 3 then s
  else if num ≠ 0 ∧ num ≠ old.1 then s.onBin fun b => { b with segs := b.segs.set port (0, []) }
  else
    let all_ := if num = 0 then dat else old.2 ++ dat
    if w.testBit 2 then (s.onBin fun b => { b with segs := b.segs.set port (0, []) }).udsJoined port all_
    else s.onBin fun b => { b with segs := b.segs.set port (num + 1, all_) }

/-! ### Register access (R580, R588) -/

/-- A write to a register: RO registers and offsets not listed take nothing. -/
def Bin.wrReg (b : Bin) (o : Nat) (v : Word) : Bin := if o = 0x14 then b.wr o v else if o = 0x18 then b.wr o (v &&& 0xFFFF#32) else b
/-- RESULT and value of a register read, and the Binnacle after it: BIN_LOGCNT clears. -/
def State.readReg (s : State) (o : Nat) : (Nat × Word) × State :=
  if !binListed o then ((1, 0), s) else ((0, s.binRead o), if o = 0x10 then s.onBin fun b => b.wr 0x10 0 else s)
/-- The answer to a register read goes to a lane that posted it: RESULT in IN3 (log entry 43). -/
def State.regval (s : State) (l : Nat) (o res : Nat) (v : Word) : State := s.onBin fun b => b.ask [l] 3 (w32 o) v (w32 res) []

/-! ### Posts (R579, R580, R582) -/

def postOff (p : MPost) : Nat := (p.words.getD 0 0).toNat % 4096
def postWr (p : MPost) : Bool := bitOf (p.words.getD 0 0) 16
/-- KIND 4 (R582): every buffered record is written, and the lanes hear the answer; `ok` says that the log flash takes writes. -/
def State.sleepPost (s : State) (ok : Bool) : State :=
  if 1 ≤ s.bin.updSt ∧ s.bin.updSt ≤ 5 then s.askAll 0x31 1 0 []
  else
    let s1 := s.onBin fun b => b.flush s.keep.wakes ok
    if bLogFail.on (s1.bin.rd 4) then s1.askAll 0x31 2 0 [] else s1.askAll 0x30 0 0 []
/-- The Binnacle acts on a post that two lanes, or the only linked one, have made: `ls` are the lanes. -/
def State.actPost (s : State) (ok : Bool) (p : MPost) (ls : List Nat) : State :=
  if p.kind = 2 then
    if postWr p then s.onBin fun b => b.wrReg (postOff p) (p.words.getD 1 0)
    else
      let r := s.readReg (postOff p)
      let done : List BPost := ls.map fun l => ⟨l, p, s.bin.ms, true, r.1.1, r.1.2⟩
      (ls.foldl (fun X l => X.regval l (postOff p) r.1.1 r.1.2) r.2).onBin fun b => { b with posts := b.posts ++ (if ls.length = 2 then done else []) }
  else if p.kind = 3 then s.segment p.words
  else s.sleepPost ok
/-- A post of KIND 2, 3 or 4 of lane `l` (R580): matched with another lane's within 10 ms, a third lane's copy of a matched one, or kept. -/
def State.matchPost (s : State) (l : LaneId) (ok : Bool) (p : MPost) : State :=
  let like (e : BPost) : Bool := decide (e.post.kind = p.kind) && decide (e.post.words = p.words) && decide (s.bin.ms ≤ e.ms + 10)
  let acted := s.bin.posts.filter fun e => e.acted && like e
  let mark (e : BPost) : Bool := e.acted && like e
  if s.linked.length ≤ 1 then s.actPost ok p [l.num]
  else match acted with
    | e :: _ =>
      if acted.all fun x => decide (x.lane ≠ l.num) then
        let s1 := s.onBin fun b => { b with posts := b.posts.filter fun x => !mark x }
        if p.kind = 2 ∧ postWr p = false then s1.regval l.num (postOff p) e.res e.val else s1
      else s.onBin fun b => { b with posts := (b.posts.filter fun x => !mark x) ++ [⟨l.num, p, b.ms, false, 0, 0⟩] }
    | [] =>
      match s.bin.posts.find? fun e => !e.acted && like e && decide (e.lane ≠ l.num) with
      | some e =>
        let s1 := s.onBin fun b => { b with posts := b.posts.erase e }
        let s2 := s1.actPost ok p [e.lane, l.num]
        if p.kind = 2 ∧ postWr p = false then s2
        else s2.onBin fun b => { b with posts := b.posts ++ [e.lane, l.num].map fun k => (⟨k, p, b.ms, true, 0, 0⟩ : BPost) }
      | none => s.onBin fun b => { b with posts := b.posts ++ [⟨l.num, p, b.ms, false, 0, 0⟩] }
/-- The post at the front of a lane's mailbox reaches the Binnacle (R579, R580). -/
def State.takePost (s : State) (l : LaneId) (ok : Bool) : State :=
  let L := s.lane l
  match L.posts with
  | [] => s
  | p :: rest =>
    if L.on R.BMB_CTRL F.BMB_CTRL_LINK && s.bin.on then
      let s1 := s.onLane l fun L => ((Lane.showPosts { L with posts := rest }).bump R.BMB_CNT F.BMB_CNT_SENT 1).unretain
      if p.kind = 0 then
        s1.onBin fun b => b.record s.keep.wakes l.num p.held ((p.words.getD 0 0).toNat) p.cnum ((p.words.drop 1).take 4)
      else if p.kind = 1 then s1.onBin fun b => b.replied l.num p.words
      else if p.kind ≤ 4 then s1.matchPost l ok p
      else s1
    else s
/-- A post that has found no match within 10 ms is discarded (R580). -/
def State.dropPost (s : State) (l : LaneId) : State :=
  s.onBin fun b => { b with posts := b.posts.filter fun e => !(decide (e.lane = l.num) && decide (e.ms + 10 ≤ b.ms)) }

/-! ### Staging (R591) -/

/-- A byte of the staged image in the log flash. -/
def Bin.stageAt (b : Bin) (i : Nat) : Nat := (b.stage * 0x1000 + i) % 0x1000000
def Bin.stagedByte (b : Bin) (i : Nat) : Byte := b.flashByte (b.stageAt i)
def Bin.stagedBytes (b : Bin) (n : Nat) : List Byte := (List.range n).map b.stagedByte
def Bin.stagedWords (b : Bin) (ofs n : Nat) : List Word :=
  (List.range n).map fun i => w32 (leNat ((List.range 4).map fun k => b.stagedByte (ofs + 4 * i + k)))
/-- Bytes staged from an offset on. -/
def Bin.stageBytes (b : Bin) (i : Nat) : List Byte → Bin
  | [] => b
  | x :: t => Bin.stageBytes { b with flash := put b.flash (b.stageAt i) x 0xFF#8 } (i + 1) t
/-- The 1,024 sectors ahead of the write position erased as the staging area. -/
def Bin.eraseStage (b : Bin) : Bin :=
  let p := b.logwp / 128
  let b1 := (List.range 1024).foldl (fun (X : Bin) i => X.erase (p + 1 + i)) b
  { b1.oldAtLeast ((p + 1025 - 4096) * 128) with stage := (p + 1) % 4096 }
/-- The words of the header in the staged bytes. -/
def Bin.headW (b : Bin) (o : Nat) : Word := w32 (leNat ((List.range 4).map fun k => b.stagedByte (o + k)))
/-- Whether the staged header meets R552 for the part and stepping. -/
def Bin.headOk (b : Bin) : Bool := headerOk b.headW (b.fld 0 ⟨16, 4⟩)

/-! ### The update (R591 to R593) -/

/-- An update has failed before it reached the lanes' slots: it is abandoned. -/
def Bin.updFail (b : Bin) (cause : Nat) : Bin := { b.setUpd 7 cause with staged := false, xfer := none, round := none, lastReq := b.ms }
/-- The update of the lanes ends with UPD_ABORT: every lane joins on the image in force (R592). -/
def State.updAbort (s : State) (cause : Nat) : State := (s.askAll 0x14 0 0 []).onBin fun b => b.updFail cause
/-- The next round of requests of the update. -/
def State.updRound (s : State) (op : Nat) (in1 : Word) (buf : List Word) : State := (s.askAll op in1 0 buf).onBin fun b => { b with round := some op }
/-- The block of the staged image at `sentW` words (R591, step 7). -/
def State.updBlock (s : State) : State := s.updRound 0x11 (w32 (4 * s.bin.sentW)) (s.bin.stagedWords (4 * s.bin.sentW) 256)
/-- The results of the round that waits, once every lane has answered: each lane's RESULT or RCODE and words. -/
def Bin.roundOver (b : Bin) (op : Nat) : Option (List (Nat × Nat × List Word)) :=
  if (b.sendq.any fun x => decide (x.2.op = op)) || b.reqs.any fun e => decide (e.req.op = op) && (match e.st with | .ended _ _ => false | _ => true) then none
  else some (b.reqs.filterMap fun e => if e.req.op = op then (match e.st with | .ended c ws => some (e.lane, c, ws) | _ => none) else none)
/-- The cause of a round that has failed: a lane did not answer, or else `other`; 0 where every lane passed. -/
def roundCause (rs : List (Nat × Nat × List Word)) (other : Nat) : Nat :=
  if rs.isEmpty || rs.any (fun r => decide (r.2.1 = 0xFF)) then 8 else if rs.any fun r => decide (r.2.1 ≠ 0) then other else 0
/-- The words of each lane's STATUS kept (R581, R595). -/
def Bin.keepStat (b : Bin) (rs : List (Nat × Nat × List Word)) : Bin :=
  { b with stat := rs.foldl (fun (t : Tab (List Word)) r => if r.2.1 = 0 then t.set r.1 r.2.2 else t) b.stat }
/-- The session ends (R589, R590): a download not activated is abandoned. -/
def Bin.endSession (b : Bin) : Bin :=
  let b1 := { b with session := 0, unlocked := false, seed := none, wrong := 0, xfer := none, progWait := none }
  if b.updSt = 1 then b1.updFail 7 else { b1 with staged := false }
/-- STATUS has been answered for 0x10 0x02 (R591, step 1). -/
def State.progOver (s : State) (port : Nat) (rs : List (Nat × Nat × List Word)) : State :=
  let fine (ws : List Word) : Bool := decide ((ws.getD 0 0).toNat % 4 = 1) && F.FIX_DGSTAT_STILL.on (ws.getD 1 0) && decide (F.FIX_DGSTAT_DMODE.get (ws.getD 1 0) = 0)
  let ok := !rs.isEmpty && rs.all fun r => decide (r.2.1 = 0) && fine r.2.2
  let s1 := s.onBin fun b => { b.keepStat rs with round := none, progWait := none }
  if ok then
    (s1.onBin fun b => { b.endSession with session := 2, port := port, lastReq := b.ms }).udsSend port [0x50#8, 2, 0, 0x32, 0x01, 0xF4]
  else (s1.onBin fun b => b.setF 0x74 bUpCause 1).nrc port 0x10 0x22
/-- STATUS has been answered at checkpoint zero of the join (R591, step 10). -/
def State.joinOver (s : State) (rs : List (Nat × Nat × List Word)) : State :=
  let ws := match rs.find? fun r => decide (r.2.1 = 0) with | some r => r.2.2 | none => []
  let gen := ws.getD 5 0
  s.onBin fun b =>
    let b1 := (({ b.keepStat rs with round := none, staged := false, xfer := none, lastReq := b.ms }.setF 0x74 bUpState 6).setF 0x74 bUpConf
      (F.SAFE_CMST_CONFIRMED.get (ws.getD 3 0))).wr 0x78 (ws.getD 4 0)
    b1.own s.keep.wakes 9 [b1.rd 0x74, gen, b1.rd 0x78]
/-- What follows the round that has ended. -/
def State.roundStep (s : State) (op : Nat) (rs : List (Nat × Nat × List Word)) : State :=
  let s0 := s.onBin fun b => { b with round := none, reqs := b.reqs.filter fun e => decide (e.req.op ≠ op) }
  if op = 1 then (match s.bin.progWait with | some p => s0.progOver p rs | none => s0.joinOver rs)
  else if op = 0x10 then
    let c := roundCause rs 2
    if c ≠ 0 then s0.updAbort c else (s0.onBin fun b => { b.setUpd 3 0 with sentW := 0 }).updBlock
  else if op = 0x11 then
    let c := roundCause rs 5
    if c ≠ 0 then s0.updAbort c
    else
      let s1 := s0.onBin fun b => { b with sentW := b.sentW + 256 }
      if 4 * s1.bin.sentW < s1.bin.imgLen + 128 then s1.updBlock
      else (s1.onBin fun b => b.setUpd 4 0).updRound 0x12 (w32 s1.bin.imgLen) (leWords (sha256 (s1.bin.stagedBytes s1.bin.imgLen)))
  else if op = 0x12 then
    let c := roundCause rs 5
    if c ≠ 0 then s0.updAbort c else (s0.onBin fun b => b.setUpd 5 0).updRound 0x13 0 []
  else s0.onBin fun b => b.setF 0x74 bUpCause (roundCause rs 5)
where
  /-- Bytes as little-endian words. -/
  leWords (bs : List Byte) : List Word := (List.range 8).map fun i => w32 (leNat ((bs.drop (4 * i)).take 4))
/-- Requests that nothing waits for any longer leave: those ended, and those accepted that have no reply. -/
def Bin.sweep (b : Bin) : Bin :=
  let waits (e : ReqEnt) : Bool :=
    decide (b.round = some e.req.op) || (match e.st with
      | .ended _ _ => false
      | .taken => !([3, 4, 0x30, 0x31].contains e.req.op)
      | .sent => true)
  let snd := match b.sndWait with
    | some l => if (b.sendq.any fun x => decide (x.1 = l) && decide (x.2.op = 2)) || b.reqs.any fun e => decide (e.lane = l) && decide (e.req.op = 2) && waits e then some l else none
    | none => none
  { b with reqs := b.reqs.filter waits, sndWait := snd }
/-- Whether the lanes have joined: one is in the Fix, and none is split or joining. -/
def State.joined (s : State) : Bool :=
  lanes3.any (fun l => decide ((s.lane l).mySt = 3)) && !lanes3.any fun l => decide ((s.lane l).mySt = 7)
/-- The Binnacle's firmware goes on with what the lanes have answered. -/
def State.binStep (s : State) : State :=
  let s1 := match s.bin.round with
    | some op => (match s.bin.roundOver op with | some rs => s.roundStep op rs | none => s)
    | none =>
      if s.bin.updSt = 5 ∧ s.joined = true then s.updRound 1 0 [] else s
  s1.onBin Bin.sweep

end Sys2Proof.Machine
end

