-- ==== Sys2Proof/Machine/BinCmds.lean ====
section
/-! DEFINITION. The commands of the mailbox, of the log and the sensors, and of the runtime soundings (R577 to R588, R596 to R603): the requests
in a row each, as the Binnacle sends them and as the image in the lane carries them out. -/

namespace Sys2Proof.Machine

/-! ### Posts and requests (R580, R581) -/

/-- BINNACLE_POST_RECEIVE (R579, R580, R582, R583): `ok` says that the log flash takes writes. -/
def execBinnaclePostReceive (l : LaneId) (ok : Bool) (s : State) : Host.Outcome State Fault Refusal := .next (s.takePost l ok).binStep

/-- POST_MATCH_TIMEOUT (R580). -/
def execPostMatchTimeout (l : LaneId) (s : State) : Host.Outcome State Fault Refusal := .next (s.dropPost l)

/-- REQUEST_TIMEOUT (R50, R581): the request that a lane has left unanswered for 100 ms is withdrawn. -/
def execRequestTimeout (l : LaneId) (s : State) : Host.Outcome State Fault Refusal :=
  let L := s.lane l
  if L.on R.BMB_STAT F.BMB_STAT_INPEND && decide (L.reqAt + 20000000 ≤ L.ticks) then
    .next ((s.onLane l fun L => { (L.setF R.BMB_STAT F.BMB_STAT_INPEND 0).raise R.BMB_STAT F.BMB_STAT_INTMO with goneAt := L.ticks + 1 }).onBin
      fun b => b.withdraw l.num)
  else .next s

/-- A request row: the image's action `act` where the lane's mailbox holds the request, else the delivery of the one that waits. -/
def State.request (s : State) (l : LaneId) (op : Nat) (act : State → State) : State :=
  let s1 := s.binStep
  if (s1.lane l).inOp op then act s1 else s1.deliver l op
/-- The image accepts, and what it does in its lane. -/
def State.accept (s : State) (l : LaneId) (f : Lane → Lane) : State :=
  (s.answer l 0).run l f
def Lane.inW (L : Lane) (k : Nat) : Word := L.rd (R.BMB_IN k)

/-- STATUS (R581). -/
def execStatus (l : LaneId) (s : State) : Host.Outcome State Fault Refusal :=
  .next (s.request l 1 fun s => s.accept l fun L =>
    L.replyPost L.inTag 0 [L.rd R.PWR_MODE, L.view R.FIX_DGSTAT.addr, L.rd R.FIX_SPLIT, L.rd R.SAFE_CMST, L.rd R.SAFE_CCV, L.rd R.IMG_GEN, L.rd R.IMG_KEY])

/-- The reply to SOUND once the sounding has ended (R584, R597). -/
def Lane.soundReply (L : Lane) (tag : Nat) : Lane :=
  let st := L.rd R.SND_STAT
  let L1 := L.replyPost tag (b2n (F.SND_STAT_REFUSED.on st)) [st]
  if F.SND_STAT_FAIL.on st then L1.logRec 5 (L.rd R.SND_FADDR) (L.rd R.SND_FBIT) (L.rd R.SND_REP) st else L1
/-- SOUND (R581, R596, R597): the request, the start of the sounding, and the reply at its end. -/
def execSound (l : LaneId) (s : State) : Host.Outcome State Fault Refusal :=
  let L := s.lane l
  match s.bin.takenReq l.num 2 with
  | some q =>
    if L.on R.SND_STAT F.SND_STAT_BUSY then .next s
    else .next ((s.run l fun L => L.soundReply q.tag).onBin fun b => { b with reqs := b.reqs.filter fun e => !(decide (e.lane = l.num) && decide (e.req.op = 2)) }).binStep
  | none => .next (s.request l 2 fun s => s.accept l fun L => L.busWrite .word R.SND_REQ.addr (F.SND_REQ_GO.set (F.SND_REQ_BASE.set 0 ((L.inW 1).toNat / 4096)) 1))

/-- REGVAL (R580, R581): the image takes the value. -/
def execRegval (l : LaneId) (s : State) : Host.Outcome State Fault Refusal := .next (s.request l 3 fun s => s.accept l id)

/-- SEND (R581): the image takes the message, which it transmits through the controllers of its lane. -/
def execSend (l : LaneId) (s : State) : Host.Outcome State Fault Refusal := .next (s.request l 4 fun s => s.accept l id)

/-- A request that the image carries out only in a split lane (R581); refused otherwise. -/
def State.splitReq (s : State) (l : LaneId) (op : Nat) (f : Lane → Lane) : State :=
  s.request l op fun s =>
    let L := s.lane l
    if L.mySt = 7 ∧ L.fld R.FIX_SPLIT F.FIX_SPLIT_SSTATE = 2 then s.accept l f else s.answer l 257

/-- UPD_BEGIN (R133, R581, R591): the request, the split request, and the reply once the split is entered or refused. -/
def execUpdBegin (l : LaneId) (s : State) : Host.Outcome State Fault Refusal :=
  let L := s.lane l
  match s.bin.takenReq l.num 0x10 with
  | some q =>
    let st := L.fld R.FIX_SPLIT F.FIX_SPLIT_SSTATE
    let cause := L.fld R.FIX_SPLIT F.FIX_SPLIT_RCAUSE
    if st = 2 then .next (s.run l fun L => L.replyPost q.tag 0 [])
    else if st = 0 then .next (s.run l fun L => L.replyPost q.tag (max 1 cause) []) else .next s
  | none => .next (s.request l 0x10 fun s => s.accept l fun L => L.busWrite .word R.FIX_SPLIT.addr (F.FIX_SPLIT_SPLITREQ.set 0 1))

/-- A block programmed into the inactive slot (R591, step 7): the sector is erased where the block begins one. A block that fails leaves free
values there (log entry 4), and one that the NVM guard has kept from starting leaves the flash as it is (R572). -/
def Lane.updProgram (L : Lane) (ok : Bool) (ofs : Nat) (ws : List Word) : Lane :=
  let a := slotBase (1 - L.pw.slot) + ofs
  if L.on R.PWR_NVMST F.PWR_NVMST_ACTIVE then L
  else
    let L1 := if ofs % 0x1000 = 0 then L.flashErase a else L
    if ok then L1.flashBytes a (wordsBytes ws) else L1.flashNoise a 256
/-- Whether the flash work of request `op` waits for the NVM guard of its lane (R572, R591): the row then changes nothing, and comes again. -/
def Lane.updHeld (L : Lane) (op : Nat) (ok : Bool) : Bool := ok && L.on R.PWR_NVMST F.PWR_NVMST_ACTIVE && L.inOp op && decide (L.mySt = 7)
    && decide (L.fld R.FIX_SPLIT F.FIX_SPLIT_SSTATE = 2)
/-- UPD_DATA (R572, R581, R591): `ok` says that the flash took and verified the block. -/
def execUpdData (l : LaneId) (ok : Bool) (s : State) : Host.Outcome State Fault Refusal :=
  .next (if (s.lane l).updHeld 0x11 ok then s else s.splitReq l 0x11 fun L =>
    let ofs := (L.inW 1).toNat
    let ws := (List.range 256).map fun i => L.rd (R.BMB_INBUF i)
    if ofs + 1024 ≤ 0x400000 then (L.updProgram ok ofs ws).replyPost L.inTag (b2n !ok) [] else L.replyPost L.inTag 1 [])

/-- UPD_END (R555, R581, R591, step 8). -/
def execUpdEnd (l : LaneId) (s : State) : Host.Outcome State Fault Refusal :=
  .next (s.splitReq l 0x12 fun L =>
    let slot := 1 - L.pw.slot
    let n := (L.inW 1).toNat
    let dig := sha256 (L.imgBytes slot n)
    let blk := (List.range 128).map fun i => L.flashByte (slotBase slot + n + i)
    let same := decide (dig = wordsBytes ((List.range 8).map fun i => L.rd (R.BMB_INBUF i)))
    L.replyPost L.inTag (if same && decide (sigCause L.pw.keys (L.fld R.IMG_KEY F.IMG_KEY_REVK) blk dig = 0) then 0 else 1) [])

/-- The slot record after a write of it (R591, step 9): a failed one leaves free values in the copy not in force, and one that has waited for
the NVM guard for more than 1 s fails with PWR_EVT.WRFAIL (R572). -/
def Lane.updRecord (L : Lane) (ok : Bool) : Lane :=
  if ok then L.slotRecWrite (1 - L.pw.slot)
  else if L.on R.PWR_NVMST F.PWR_NVMST_ACTIVE then L.raise R.PWR_EVT F.PWR_EVT_WRFAIL
  else L.recSpoil slotRecBase 3 L.slotRecCopy
/-- UPD_COMMIT (R572, R581, R591, step 9, R593): `ok` says that the slot record was written and verified. -/
def execUpdCommit (l : LaneId) (ok : Bool) (s : State) : Host.Outcome State Fault Refusal :=
  .next (if (s.lane l).updHeld 0x13 ok then s else s.splitReq l 0x13 fun L => ((L.updRecord ok).replyPost L.inTag (b2n !ok) []).joinRequest)

/-- UPD_ABORT (R581, R592). -/
def execUpdAbort (l : LaneId) (s : State) : Host.Outcome State Fault Refusal :=
  .next (s.splitReq l 0x14 fun L => (L.replyPost L.inTag 0 []).joinRequest)

/-- KEYREV (R581, R595): the image posts the revocation, which the lanes agree on. -/
def execKeyrev (l : LaneId) (s : State) : Host.Outcome State Fault Refusal :=
  .next (s.request l 0x20 fun s => s.accept l fun L => (L.replyPost L.inTag 0 []).postTrip (.keyrev ((L.inW 1).toNat % 4)))

/-- SLEEPOK (R567, R581, R582). -/
def execSleepok (l : LaneId) (s : State) : Host.Outcome State Fault Refusal :=
  .next (s.request l 0x30 fun s => s.accept l fun L =>
    if L.on R.PWR_SLPST F.PWR_SLPST_RUN && decide (L.fld R.PWR_SLPST F.PWR_SLPST_STEP = 6) && L.pw.slpAns.isNone then
      L.updPw fun p => { p with slpAns := some (6, 0) } else L)

/-- SLEEPNO (R567, R568, R581, R582). -/
def execSleepno (l : LaneId) (s : State) : Host.Outcome State Fault Refusal :=
  .next (s.request l 0x31 fun s => s.accept l fun L =>
    if L.on R.PWR_SLPST F.PWR_SLPST_RUN && decide (L.fld R.PWR_SLPST F.PWR_SLPST_STEP = 6) && L.pw.slpAns.isNone then
      L.updPw fun p => { p with slpAns := some (6, 5) } else L)

/-! ### Log and sensors (R585 to R587) -/

/-- LOG_PAGE_PROGRAM (R585): `ok` says that the log flash took the page. -/
def execLogPageProgram (ok : Bool) (s : State) : Host.Outcome State Fault Refusal :=
  .next (s.onBin fun b => if b.on then b.page s.keep.wakes ok else b)

/-- BINNACLE_SENSOR_SAMPLE (R586, R587). -/
def execBinnacleSensorSample (x : SensorSample) (s : State) : Host.Outcome State Fault Refusal :=
  .next (s.onBin fun b => if b.on then b.sample s.a.small x else b).binStep

/-- SENSOR_STATISTICS_RECORD (R587). -/
def execSensorStatisticsRecord (s : State) : Host.Outcome State Fault Refusal :=
  .next (s.onBin fun b => if b.on then b.statRecord s.keep.wakes else b)

/-- VIBRATION_SUMMARY_RECORD (R587). -/
def execVibrationSummaryRecord (s : State) : Host.Outcome State Fault Refusal :=
  .next (s.onBin fun b => if b.on then b.vibRecord s.keep.wakes else b)

/-! ### Runtime soundings (R596 to R603) -/

/-- The address of a region by its number in the order of R596. -/
def regionAddr (i : Nat) : Nat :=
  if i < 256 then i * 0x1000 else if i < 512 then 0x20000000 + (i - 256) * 0x1000 else if i < 640 then 0x30000000 + (i - 512) * 0x1000
  else if i < 704 then 0x31000000 + (i - 640) * 0x1000 else 0x32000000 + (i - 704) * 0x1000
/-- The next region of a lane that lies in a usable bank. -/
def Lane.nextRegion (L : Lane) (i : Nat) : Option Nat := ((List.range 720).map fun k => (i + k) % 720).find? fun r => !L.bankOut (regionAddr r)
/-- RUNTIME_SOUNDING_INTERVAL (R596): SOUND goes to the next lane in the order A, B, C whose link is up. -/
def execRuntimeSoundingInterval (s : State) : Host.Outcome State Fault Refusal :=
  let s1 := s.binStep
  let b := s1.bin
  if !b.on || decide (b.fld 0x18 ⟨0, 16⟩ = 0) || b.sndWait.isSome then .next s1
  else match ([0, 1, 2] : List Nat).find? fun k => s1.linked.contains ((b.sndLane + k) % 3) with
    | none => .next s1
    | some k =>
      let l := (b.sndLane + k) % 3
      match (s1.lane (laneOf l)).nextRegion (b.sndReg.at l) with
      | none => .next s1
      | some r => .next (s1.onBin fun b => { b.ask [l] 2 (w32 (regionAddr r)) 0 0 [] with
          sndLane := (l + 1) % 3, sndReg := b.sndReg.set l ((r + 1) % 720), sndWait := some l })

/-- SOUNDING_SAVE_DONE (R598). -/
def execSoundingSaveDone (l : LaneId) (s : State) : Host.Outcome State Fault Refusal := .next (s.run l (·.sndSaved))

/-- SOUNDING_TEST_DONE (R600, R601): `fails` names the failing words of the region by their index, each with a failing bit. -/
def execSoundingTestDone (l : LaneId) (fails : List (Nat × Nat)) (s : State) : Host.Outcome State Fault Refusal :=
  .next (s.run l fun L => L.sndTested fails)

/-- SOUNDING_RESTORE_DONE (R600 to R603). -/
def execSoundingRestoreDone (l : LaneId) (s : State) : Host.Outcome State Fault Refusal := .next (s.run l (·.sndRestored))

end Sys2Proof.Machine
end

