-- ==== Sys2Proof/Machine/Debug.lean ====
section
/-! DEFINITION. The debugger's actions and their replay in the lanes (R139 to R145, R604, R605). -/

namespace Sys2Proof.Machine

/-- A lane halts (R143): packets with EN 0 and STOP 1 for every output, then its processor and engine stop. -/
def Lane.dbgHalt (L : Lane) : Lane :=
  let L1 := L.setF R.FIX_DBG F.FIX_DBG_HALTED 1
  Lane.emit (L1.stopNow L1.me (List.range 20) (List.range 4))
/-- A lane resumes (R143): waypoints passed meanwhile fire, and the outputs wait for software. Its next checkpoint is the next that reckoner 13 reaches. -/
def Lane.dbgResume (L : Lane) : Lane :=
  if L.on R.FIX_DBG F.FIX_DBG_HALTED then
    let L1 := (L.setF R.FIX_DBG F.FIX_DBG_HALTED 0).setF R.FIX_DBG F.FIX_DBG_BPHIT 0
    (L1.holdOutputs.updCk fun c => { c with last := L.ckNow + 1, stepOne := false }).wpResume
  else L
/-- One action carried out in a lane. -/
def Lane.dbgDo (L : Lane) : DbgAct → Lane
  | .halt => L.dbgHalt
  | .resume => L.dbgResume
  | .step => L.dbgResume.updCk fun c => { c with stepOne := true }
  | .write a v => L.busWrite .word a.toNat v

/-- Whether a lane carries out actions of the queue. -/
def Lane.dbgTakes (L : Lane) : Bool := L.ckRuns || L.on R.FIX_DBG F.FIX_DBG_HALTED
/-- The queue's level and a queued halt as every lane shows them. -/
def State.showDbg (s : State) : State :=
  s.onLanes fun _ L => (L.setF R.FIX_DBG F.FIX_DBG_QLEVEL s.dbgq.length).setF R.FIX_DBG F.FIX_DBG_HREQ (b2n (s.dbgq.any fun e => decide (e.act = .halt)))
/-- A debug action refused (R141, R142): Lane A, whose debug link carried it, sets DBGEV (log entry 55). -/
def State.dbgRefuse (s : State) : State := s.onLane .A fun L => L.raise R.FIX_EVT F.FIX_EVT_DBGEV
/-- An action enters the queue (R141, R142); in halted lanes, which reach no apply instant, it is carried out at once. A step ends in a halt, so it needs
RIG as a halt does. -/
def State.dbgPush (s : State) (a : DbgAct) : State :=
  if (a = .halt ∨ a = .step) ∧ s.a.on R.FIX_DBG F.FIX_DBG_RIG = false then s.dbgRefuse
  else if s.a.on R.FIX_DBG F.FIX_DBG_HALTED then
    lanes3.foldl (fun X l => if (X.lane l).on R.FIX_DBG F.FIX_DBG_HALTED then X.run l fun L => L.dbgDo a else X) s
  else if 8 ≤ s.dbgq.length then s.dbgRefuse
  else { s with dbgq := s.dbgq ++ [(⟨a, (lanes3.filter fun l => (s.lane l).dbgTakes).map LaneId.num⟩ : DbgEnt)] }.showDbg
/-- The actions of the queue that lane `l` carries out at an apply instant, after the halt that ends a step (R144). -/
def State.dbgApply (s : State) (l : LaneId) : State :=
  let s1 := if (s.lane l).ck.stepOne then s.run l fun L => (L.updCk fun c => { c with stepOne := false }).dbgHalt else s
  let mine := s1.dbgq.filter fun e => e.lanes.contains l.num
  let s2 := mine.foldl (fun X e => X.run l fun L => L.dbgDo e.act) s1
  let rest := s2.dbgq.map fun e => { e with lanes := e.lanes.filter fun k => decide (k ≠ l.num) && (s2.lane (laneOf k)).dbgTakes }
  if s2.dbgq.isEmpty then s2 else { s2 with dbgq := rest.filter fun e => !e.lanes.isEmpty }.showDbg

/-- A debugger's action, where the debug link reaches Lane A. -/
def State.debug (s : State) (a : DbgAct) : Host.Outcome State Fault Refusal := .next (if s.dbgOpen then s.dbgPush a else s)

/-- DEBUG_HALT (R142, R143). -/
def execDebugHalt (s : State) : Host.Outcome State Fault Refusal := s.debug .halt

/-- DEBUG_STEP (R144). -/
def execDebugStep (s : State) : Host.Outcome State Fault Refusal := s.debug .step

/-- DEBUG_RESUME (R143). -/
def execDebugResume (s : State) : Host.Outcome State Fault Refusal := s.debug .resume

/-- DEBUG_WRITE (R141). -/
def execDebugWrite (addr v : Word) (s : State) : Host.Outcome State Fault Refusal := s.debug (.write addr v)

/-- BREAKPOINT_HIT (R145): a breakpoint or watchpoint of Lane A at an address. -/
def execBreakpointHit (addr : Word) (s : State) : Host.Outcome State Fault Refusal :=
  if s.a.on R.FIX_DBG F.FIX_DBG_HALTED then .next s
  else .next ((s.onLane .A fun L => (L.wr R.FIX_BPADDR addr).setF R.FIX_DBG F.FIX_DBG_BPHIT 1).dbgPush .halt)

end Sys2Proof.Machine
end

