-- ==== Sys2Proof/Machine/CkCmds.lean ====
section
/-! DEFINITION. The commands of the checkpoints, the safety layer, the degraded modes, and the return of odd and joining lanes (R94 to R138, R453
to R485, R500 to R523). -/

namespace Sys2Proof.Machine

/-! ### The transfer to a lane on its way back (R129, R130) -/

/-- The healthy lanes, by their letters: those in the Fix other than `l`. -/
def State.healthyLanes (s : State) (l : LaneId) : List LaneId := lanes3.filter fun k => decide (k ≠ l) && decide ((s.lane k).mySt = 3)
/-- The healthy lane with the lower letter. -/
def State.healthy (s : State) (l : LaneId) : Option LaneId := (s.healthyLanes l).head?

/-- Registers that the transfer leaves as the receiving lane has them (R129). -/
def ownReg (k : Nat) : Bool :=
  otpReg k || decide (k / 0x10000 = 0x4000) || decide (k / 0x10000 = 0x400F)
    || [R.FIX_RSCNT, R.MEAS_CONV, R.PWR_SSLB, R.PWR_SSMB, R.PWR_SSBANK, R.PWR_SSREP].any (fun r => decide (k = r.addr))
    || (List.range 64).any fun x => decide (k = (R.MEAS_UOFS x).addr ∨ k = (R.MEAS_UGAIN x).addr)
/-- The items whose lower half the lane with the lower letter sends (R129): of each memory its lower half, of the register state the blocks from LANE_ID
to POS (log entry 31). -/
def lowerHalf (k : Nat) : Bool :=
  if k < 0x20000000 then decide (k < 0x80000)
  else if k < 0x30000000 then decide (k < 0x20080000)
  else if k < 0x32000000 then decide (k < 0x30040000)
  else if k < 0x40000000 then decide (k < 0x32008000)
  else decide (k < 0x40080000)
/-- The fields of a register that the transfer leaves, and the rest of another lane's. -/
def mixReg (own other keep : Word) : Word := (own &&& keep) ||| (other &&& ~~~keep)
/-- Two stores merged: the keys that `p` names from the first, the others from the second, in rising order. -/
def mergeTab {α : Type} (p : Nat → Bool) (own other : Tab α) : Tab α :=
  (own.filter fun e => p e.1).foldl (fun t e => ins t e.1 e.2) (other.filter fun e => !p e.1)
/-- The transfer of state from the healthy lanes (R129, R130): `h` sends the lower half of each item and `g` the upper one. What a block holds beside its
registers goes with them. -/
def Lane.resync (L h g : Lane) : Lane :=
  let X := { h with
    me := L.me
    small := L.small
    regs := mergeTab ownReg L.regs (mergeTab lowerHalf h.regs g.regs)
    mem := (mergeTab lowerHalf h.mem g.mem).filter fun e => decide (e.1 < 0x31000000 ∨ 0x31040000 ≤ e.1)
    pmPar := mergeTab (fun i => decide (i < 4096)) h.pmPar g.pmPar
    rdata := L.rdata
    busErr := L.busErr
    busAddr := L.busAddr
    setNow := L.setNow
    w1sNow := L.w1sNow
    irqPrev := []
    inSvc := []
    ticks := L.ticks
    free := L.free
    gt := L.gt
    slewHelm := 0
    slewLane := 0
    slewWait := 0
    posts := L.posts
    retained := L.retained
    reqAt := L.reqAt
    goneAt := L.goneAt
    flash := L.flash
    nvmWait := L.nvmWait
    eng := { (default : Eng) with vr := h.eng.vr, ac := h.eng.ac, rb := h.eng.rb, next := L.eng.next }
    meas := { L.meas with calCopy := L.meas.calCopy }
    hn := g.hn
    isb := g.isb
    svc := g.svc
    eth := g.eth
    ck := { (default : Ck) with last := L.ck.last, oddAt := L.ck.oddAt, adm := h.ck.adm, caught := true }
    dg := { h.dg with sdRes := none, giveUp := 0 }
    safe := { g.safe with rx := [], acc := [], confRes := none, relRes := none }
    pw := { L.pw with step9 := true, verified := true, slpAt := g.pw.slpAt, slpAns := none, slpReq := g.pw.slpReq, slpUndo := g.pw.slpUndo }
    snd := { g.snd with spares := L.snd.spares }
    outP := []
    outR := [] }
  let X1 := X.wr R.MEAS_CALST (mixReg (L.rd R.MEAS_CALST) (h.rd R.MEAS_CALST) (F.MEAS_CALST_GEN.mask ||| F.MEAS_CALST_STOREBAD.mask))
  let X2 := X1.wr R.CE_STAT (mixReg (L.rd R.CE_STAT) (h.rd R.CE_STAT) (F.CE_STAT_MACS.mask ||| F.CE_STAT_DEADMAC.mask))
  let X3 := (List.range 16).foldl (fun Y q => Y.setF (R.MEAS_SQSTAT q) F.MEAS_SQSTAT_RUN 0) (X2.wr R.IRQ_INSVC 0)
  ((X3.setF R.IMG_LOCK_STAT F.IMG_LOCK_STAT_LOCKED 1).setSta L.me 6).setF R.FIX_CTRL F.FIX_CTRL_ACTIVE 0
/-- The transfer carried out; one healthy lane alone sends both halves (log entry 31). -/
def State.resyncLane (s : State) (l : LaneId) : State :=
  match s.healthyLanes l with
  | h :: g => s.setLane l ((s.lane l).resync (s.lane h) (s.lane (g.headD h)))
  | [] => s
/-- The words that the sending lanes have written since (R129): they reach the receiving lane with the exchange of each checkpoint. -/
def State.catchUp (s : State) (l : LaneId) : State :=
  let L := s.lane l
  if decide (L.mySt = 6) && L.ck.caught && L.ckDue then s.resyncLane l else s

/-! ### Checkpoints (R94 to R98, R126 to R138) -/

/-- CHECKPOINT_CAPTURE (R94, R95, R105 to R107, R129, R567): `din` is the reading of DIN0 to DIN23 and `ball` that of LOCKOUT_RST_N. -/
def execCheckpointCapture (l : LaneId) (din : BitVec 24) (ball : Bool) (s : State) : Host.Outcome State Fault Refusal :=
  .next ((s.catchUp l).run l fun L => L.capture_ din.toNat ball).helmSettle

/-- CHECKPOINT_DATA_RECEIVE (R96, R116): the data of lane `frm`; `tap` says that the tap showed other data, `skew` how many 5 ns steps after
this lane's its capture instant lay. -/
def execCheckpointDataReceive (l frm : LaneId) (tap : Bool) (skew : Int) (s : State) : Host.Outcome State Fault Refusal :=
  let F := s.lane frm
  match F.ck.cap with
  | some c => if decide (frm ≠ l) && F.ck.wait.isEmpty then .next (s.run l fun L => L.takeData frm.num c tap skew) else .next s
  | none => .next s

/-- Whether lane `k` is out of step in a lane's view: odd, or out. -/
def Lane.sees (L : Lane) (k c : Nat) : Bool := decide (L.laneSt k = c)
/-- A lane that both others declare odd or out takes that state, and a lane on its way back that the lanes in self-diagnosis leave out does (R126, R500). -/
def State.follow (s : State) (k : LaneId) : State :=
  let L := s.lane k
  let others := [s.lane k.succ, s.lane k.pred]
  if L.mySt = 3 ∧ (others.all fun o => o.sees k.num 4 || o.sees k.num 9) = true then
    let c := if others.all fun o => o.sees k.num 9 then 9 else 4
    s.run k fun L => ((((L.setSta k.num c).bump R.FIX_RSCNT (rsBf k.num) 1).updCk fun x => { x with oddAt := L.ticks })).resetDie
  else if (4 ≤ L.mySt ∧ L.mySt ≤ 6) ∧ (others.all fun o => o.sees k.num 9) = true then s.run k fun L => L.setSta k.num 9
  else s
/-- What follows an apply instant of lane `l` in the device: a lane that has declared itself odd resets (R127), its way to RECV or OUT shows in
every lane, and the Binnacle asks for STATUS once an update has joined (R591). -/
def State.settleApply (s old : State) (l : LaneId) : State :=
  let L0 := old.lane l
  let s1 := if decide (L0.mySt = 3) && ((s.lane l).sees l.num 4 || ((s.lane l).sees l.num 9 && decide ((s.lane l).ck.oddAt = L0.ticks)
      && decide ((s.lane l).ck.oddAt ≠ L0.ck.oddAt))) then s.run l (·.resetDie) else s
  let st := (s1.lane l).mySt
  let s2 := if st ≠ L0.mySt ∧ (st = 6 ∨ st = 9) then s1.setSta l.num st else s1
  let s3 := lanes3.foldl State.follow s2
  if decide (L0.fld R.FIX_SPLIT F.FIX_SPLIT_SSTATE = 3) && decide ((s3.lane l).fld R.FIX_SPLIT F.FIX_SPLIT_SSTATE = 0) && decide (s3.bin.updSt = 5)
  then s3.binStep else s3
/-- The apply instant of a lane (R98). -/
def State.apply (s : State) (l : LaneId) : State :=
  let L := s.lane l
  let wake := decide (levelMask L.wakeCfg s.keep.levels ≠ 0)
  let s1 := s.run l fun L => L.apply_ wake
  if L.ck.done || !(s1.lane l).ck.done then s else (s1.settleApply s l).dbgApply l

/-- CHECKPOINT_APPLY (R98, R102 to R116, R123, R126 to R138, R141, R500, R503, R505, R522, R523, R535, R541, R567). -/
def execCheckpointApply (l : LaneId) (s : State) : Host.Outcome State Fault Refusal := .next (s.apply l)

/-- CLOCK_FAULT (R35): with all three lanes in the Fix, the lane whose clock is off is treated as odd. -/
def execClockFault (l : LaneId) (s : State) : Host.Outcome State Fault Refusal :=
  if lanes3.all fun k => decide ((s.lane k).inFix = 7) then
    .next ((lanes3.foldl (fun X k => X.run k fun L => L.declareOdd l.num 6) s).run l (·.resetDie))
  else .next s

/-- SPLIT_OFFCONF_TIMEOUT (R135). -/
def execSplitOffconfTimeout (l : LaneId) (s : State) : Host.Outcome State Fault Refusal := .next (s.run l (·.splitTimeout))

/-- JOIN_RELOAD_DONE (R137, R138): step 9 of a joining lane. -/
def execJoinReloadDone (l : LaneId) (s : State) : Host.Outcome State Fault Refusal :=
  .next (s.run l fun L =>
    if L.pw.joining && decide (L.mySt = 7) && L.on R.IMG_LOCK_STAT F.IMG_LOCK_STAT_LOCKED && !L.pw.step9 then L.step9 else L)

/-! ### The way back of an odd lane (R127 to R131) -/

/-- LANE_RESET_DONE (R126, R127): the quick sounding begins, or the lane goes to OUT. -/
def execLaneResetDone (l : LaneId) (s : State) : Host.Outcome State Fault Refusal :=
  let L := s.lane l
  let max := match s.healthy l with | some k => (s.lane k).fld R.FIX_CTRL F.FIX_CTRL_MAXRESYNC | none => 0
  if L.mySt = 4 then .next (s.setSta l.num (if max < L.fld R.FIX_RSCNT (rsBf l.num) then 9 else 5)) else .next s

/-- QUICK_SOUNDING_DONE (R126, R128, R129). -/
def execQuickSoundingDone (l : LaneId) (pass : Bool) (s : State) : Host.Outcome State Fault Refusal :=
  if (s.lane l).mySt = 5 then .next ((s.run l fun L => if pass then L.calLoad else L).setSta l.num (if pass then 6 else 9)) else .next s

/-- RESYNC_TRANSFER_DONE (R129, R130, R559). -/
def execResyncTransferDone (l : LaneId) (s : State) : Host.Outcome State Fault Refusal :=
  .next (if decide ((s.lane l).mySt = 6) && !(s.lane l).ck.caught then s.resyncLane l else s)

/-- RESYNC_TIMEOUT (R126, R131): 50 ms after the declaration, a lane that has not rejoined is out; so is one without power. -/
def execResyncTimeout (l : LaneId) (s : State) : Host.Outcome State Fault Refusal :=
  let L := s.lane l
  let back (X : Lane) : Bool := [4, 5, 6].contains (X.laneSt l.num)
  if lanes3.any (fun k => back (s.lane k)) && (!L.pw.on || decide (L.ck.oddAt + 10000000 ≤ L.ticks)) then .next (s.setSta l.num 9) else .next s

/-! ### The safety layer (R458 to R471, R483, R484) -/

/-- SAFETY_PDU_RECEIVE (R458): the PDU at the front is checked. -/
def execSafetyPduReceive (l : LaneId) (s : State) : Host.Outcome State Fault Refusal := .next (s.run l (·.pduCheck))

/-- HELLO (R458, R461). -/
def execHello (l : LaneId) (s : State) : Host.Outcome State Fault Refusal := .next (s.run l fun L => L.pduCheckTy 1)

/-- COMMAND (R458, R463). -/
def execCommand (l : LaneId) (s : State) : Host.Outcome State Fault Refusal := .next (s.run l fun L => L.pduCheckTy 2)

/-- HEARTBEAT (R458, R460). -/
def execHeartbeat (l : LaneId) (s : State) : Host.Outcome State Fault Refusal := .next (s.run l fun L => L.pduCheckTy 3)

/-- STOP (R458, R466 to R469). -/
def execStop (l : LaneId) (s : State) : Host.Outcome State Fault Refusal := .next (s.run l fun L => L.pduCheckTy 4)

/-- RESET (R458, R521). -/
def execReset (l : LaneId) (s : State) : Host.Outcome State Fault Refusal := .next (s.run l fun L => L.pduCheckTy 5)

/-- QUERY (R458, R483). -/
def execQuery (l : LaneId) (s : State) : Host.Outcome State Fault Refusal := .next (s.run l fun L => L.pduCheckTy 6)

/-- CONFIRM (R458, R484). -/
def execConfirm (l : LaneId) (s : State) : Host.Outcome State Fault Refusal := .next (s.run l fun L => L.pduCheckTy 7)

/-- SESSION_EXPIRE (R460, R466). -/
def execSessionExpire (l : LaneId) (n : Fin 128) (s : State) : Host.Outcome State Fault Refusal := .next (s.run l fun L => L.sessExpire n.val)

/-- CONTROLLED_STOP_TIMEOUT (R470). -/
def execControlledStopTimeout (l : LaneId) (a : Fin 12) (s : State) : Host.Outcome State Fault Refusal := .next (s.run l fun L => L.cstopEnd a.val)

/-- CHALLENGE_EXPIRE (R483). -/
def execChallengeExpire (l : LaneId) (s : State) : Host.Outcome State Fault Refusal := .next (s.run l (·.chalExpire))

/-- COMMISSIONING_RECORD_WRITE_DONE (R484): `ok` says that the record was written and verified. -/
def execCommissioningRecordWriteDone (l : LaneId) (ok : Bool) (s : State) : Host.Outcome State Fault Refusal := .next (s.run l fun L => L.comDone ok)

/-- LOCKOUT_RECORD_WRITE_DONE (R518, R523): `ok` says that the record was written and verified. -/
def execLockoutRecordWriteDone (l : LaneId) (ok : Bool) (s : State) : Host.Outcome State Fault Refusal := .next (s.run l fun L => L.loDone ok)

/-! ### Degraded modes (R501 to R517) -/

/-- The failed tests of a self-diagnosis (R501): `pat` the patterns, `ecc` an uncorrectable ECC error, `ref` the reference, `clk` the clock; the
CRCs and the links the lane finds itself. -/
def Lane.sdFails (L : Lane) (pat ecc ref clk : Bool) : Nat :=
  let mem := ecc || decide (w32 L.crcCode ≠ L.rd R.IMG_CRCCODE) || decide (w32 L.crcPm ≠ L.rd R.IMG_CRCPM)
  let lnk : Bf := if L.me = 0 then F.DLK_LSTAT_LNK_A else if L.me = 1 then F.DLK_LSTAT_LNK_B else F.DLK_LSTAT_LNK_C
  let links := (List.range 4).any fun n => (L.fld R.PWR_STAT F.PWR_STAT_DIES).testBit n && decide (L.fld (R.DLK_LSTAT n) lnk ≠ 2)
  b2n pat + 2 * b2n mem + 4 * b2n ref + 8 * b2n clk + 16 * b2n links
/-- SELF_DIAGNOSIS_END (R501, R503): each operand says that the test failed. -/
def execSelfDiagnosisEnd (l : LaneId) (pat ecc ref clk : Bool) (s : State) : Host.Outcome State Fault Refusal :=
  .next (s.run l fun L => if L.mySt = 8 then L.sdEnd (L.sdFails pat ecc ref clk) else L)

/-- GIVE_UP_END (R504, R518): `flash` says that the flash answers and the record was written. A lane without power that counts as failed writes nothing
and is out all the same. -/
def execGiveUpEnd (l : LaneId) (flash : Bool) (s : State) : Host.Outcome State Fault Refusal :=
  let s1 := s.run l fun L => L.giveUpEnd flash
  let gone := !(s.lane l).pw.on && [LaneId.A, .B, .C].any fun k => decide ((s.lane k).mySt = 3) && decide ((s.lane k).laneSt l.num = 8)
  if gone || ((s.lane l).edg.giveUp && !(s1.lane l).edg.giveUp) then .next (s1.setSta l.num 9) else .next s1

/-- SURVIVOR_FAULT (R504, R508, R512). -/
def execSurvivorFault (l : LaneId) (s : State) : Host.Outcome State Fault Refusal :=
  let L := s.lane l
  if L.mayGiveUp then
    let known := (List.range 3).foldl (fun m k => if k ≠ L.me ∧ L.laneSt k = 9 then m + 2 ^ k else m) 0
    let s1 := s.run l fun L => L.giveUp known
    .next (([l.succ, l.pred] : List LaneId).foldl (fun X k => X.run k fun L => L.otherGone l.num) s1)
  else .next s

/-- CRAWL_TIMEOUT (R507). -/
def execCrawlTimeout (l : LaneId) (s : State) : Host.Outcome State Fault Refusal := .next (s.run l (·.crawlEnd))

/-- STEERING_AXIS_LOST (R509). -/
def execSteeringAxisLost (l : LaneId) (a : Fin 12) (s : State) : Host.Outcome State Fault Refusal := .next (s.run l fun L => L.axisLost a.val)

/-- STANDSTILL_WAIT_END (R515, R517). -/
def execStandstillWaitEnd (l : LaneId) (s : State) : Host.Outcome State Fault Refusal := .next (s.run l (·.stillWait))

end Sys2Proof.Machine
end

