-- ==== Sys2Proof/Machine/DieCmds.lean ====
section
/-! DEFINITION. The commands that happen at a driver die, and those of a lane's edge scheduler that touch nothing else: periods,
votes, packets, protections, safety outputs, trips, off-pulse tests and die ticks. A die without power does nothing. -/

namespace Sys2Proof.Machine

/-- Something that happens at a driver die; nothing, while its supply is away. A test whose resource it switches off is abandoned (R331). -/
def State.atDie (s : State) (n : Nat) (f : Die → Die) : Host.Outcome State Fault Refusal :=
  .next (s.onDie n fun d => if d.on then (f d).dropTest else d)

/-- PERIOD_START (R36, R295, R301, R324): `imeas` is the mean current that a valve channel's die measured over the period that
ends, in 0.1 mA. -/
def execPeriodStart (r : Res) (imeas : Nat) (s : State) : Host.Outcome State Fault Refusal :=
  s.atDie (resDie r) fun d => match r with
    | .bridge b => d.startBridge (b.val / 2) (b.val % 2)
    | .valve v => d.startValve (v.val / 3) (v.val % 3) imeas

/-- LINK_PACKET_RECEIVE (R118, R293, R296, R297): the next packet of the lane's link arrives; `good` says that no bit of it has changed on the way. -/
def execLinkPacketReceive (d : Fin 4) (l : LaneId) (good : Bool) (s : State) : Host.Outcome State Fault Refusal :=
  s.atDie d.val fun x => match x.takeTx l.num with
    | (some ws, x1) => x1.arrive l.num ws good
    | (none, x1) => x1

/-- DIE_VOTE (R117 to R124, R302). -/
def execDieVote (r : Res) (s : State) : Host.Outcome State Fault Refusal :=
  s.atDie (resDie r) fun d => match r with
    | .bridge b => d.voteBridge (b.val / 2) (b.val % 2)
    | .valve v => d.voteValve (v.val / 3) (v.val % 3)

/-- VOTE_HOLD_OFF (R122). -/
def execVoteHoldOff (r : Res) (s : State) : Host.Outcome State Fault Refusal :=
  s.atDie (resDie r) fun d => match r with
    | .bridge b => d.holdOffBr (b.val % 2)
    | .valve v => d.holdOffVl (v.val % 3)

/-- The Helm Net windows that name the coming die tick are voted at its vote instant (R411). -/
def State.windowVotes (s : State) (n : Nat) : State :=
  if n < 2 then
    let tags := (s.die n).ports.foldl (fun t r => if decide (r.port = 1) && !t.contains r.tag then t ++ [r.tag] else t) []
    tags.foldl (fun X tag => X.windowVote n tag) s
  else s

/-- DIE_PACKET_VOTE (R298, R320, R334, R411, R498, R499): `bst` is the mask of the die's bridges whose bootstrap is below 8.0 V. -/
def execDiePacketVote (d : Fin 4) (bst : BitVec 2) (s : State) : Host.Outcome State Fault Refusal :=
  if (s.die d.val).on && !(s.die d.val).tvoted then .next ((s.onDie d.val fun x => x.votePacket d.val bst.toNat).windowVotes d.val) else .next s

/-- PACKET_SEND_DEADLINE (R292, R299). -/
def execPacketSendDeadline (l : LaneId) (r : Res) (s : State) : Host.Outcome State Fault Refusal :=
  .next (s.laneSend l fun L => L.sendDeadline l.num (resKey r))

/-- DIE_PACKET_BUILD (R300, R322, R333, R499). -/
def execDiePacketBuild (l : LaneId) (d : Fin 4) (s : State) : Host.Outcome State Fault Refusal :=
  .next (s.laneSend l fun L => L.buildDie l.num d.val)

/-- The fault of a silent die (R497): the die's where two lanes take it as silent, else the link's. -/
def State.silentFault (s : State) (l : LaneId) (n : Nat) : State :=
  let others := [LaneId.A, .B, .C].filter fun k => decide (k ≠ l) && (s.lane k).edg.silent.at n
  if others.isEmpty then s.onLane l fun L => L.fault 5 n
  else others.foldl (fun s k => s.onLane k fun L => L.fault 6 n) (s.onLane l fun L => L.fault 6 n)

/-- DIE_SILENT_TIMEOUT (R497). -/
def execDieSilentTimeout (l : LaneId) (d : Fin 4) (s : State) : Host.Outcome State Fault Refusal :=
  let L := s.lane l
  let L1 := L.dieSilent d.val
  if L.edg.silent.at d.val = L1.edg.silent.at d.val then .next s else .next ((s.setLane l L1).silentFault l d.val)

/-- OPPOSITE_GATE_FALL (R305): the gate opposite to `side` of a leg has fallen. -/
def execOppositeGateFall (b : Fin 8) (leg : Leg) (side : Side) (s : State) : Host.Outcome State Fault Refusal :=
  s.atDie (b.val / 2) fun d => d.gateFall (b.val / 2) (b.val % 2) leg side

/-- INTERLOCK_FAULT (R306). -/
def execInterlockFault (b : Fin 8) (leg : Leg) (s : State) : Host.Outcome State Fault Refusal :=
  s.atDie (b.val / 2) fun d => d.interlock (b.val % 2) leg

/-- GATE_RAIL_UNDERVOLTAGE (R307). -/
def execGateRailUndervoltage (d : Fin 4) (s : State) : Host.Outcome State Fault Refusal := s.atDie d.val (·.railFall)

/-- GATE_RAIL_RECOVER (R307, R320). -/
def execGateRailRecover (d : Fin 4) (s : State) : Host.Outcome State Fault Refusal := s.atDie d.val (·.railUp)

/-- REFRESH_INSERT (R309, R310): `rloss` is the time the die measures for which the high side is off, in 625 ps units. -/
def execRefreshInsert (b : Fin 8) (leg : Leg) (rloss : Nat) (s : State) : Host.Outcome State Fault Refusal :=
  s.atDie (b.val / 2) fun d => d.refresh (b.val / 2) (b.val % 2) leg rloss

/-- HIGH_SIDE_STUCK (R311). -/
def execHighSideStuck (b : Fin 8) (leg : Leg) (s : State) : Host.Outcome State Fault Refusal :=
  s.atDie (b.val / 2) fun d => d.hsStuck (b.val % 2) leg

/-- BOOTSTRAP_UNDERVOLTAGE (R312, R313): `on` says that the high side is on and not only due. -/
def execBootstrapUndervoltage (b : Fin 8) (leg : Leg) (on : Bool) (s : State) : Host.Outcome State Fault Refusal :=
  s.atDie (b.val / 2) fun d => d.bootstrap (b.val / 2) (b.val % 2) leg on

/-- DESATURATION (R314, R316, R317): `t` is the time in the period in 625 ps units. -/
def execDesaturation (b : Fin 8) (leg : Leg) (side : Side) (t : Nat) (s : State) : Host.Outcome State Fault Refusal :=
  s.atDie (b.val / 2) fun d => d.short (b.val % 2) leg side t F.EDG_BEVT_DESAT.mask.toNat

/-- HARD_SHORT (R315 to R317): `t` is the time in the period in 625 ps units. -/
def execHardShort (b : Fin 8) (leg : Leg) (side : Side) (t : Nat) (s : State) : Host.Outcome State Fault Refusal :=
  s.atDie (b.val / 2) fun d => d.short (b.val % 2) leg side t F.EDG_BEVT_HARD.mask.toNat

/-- TRIP_INPUT_ACTIVE (R318, R319): `blank` says that a blanking window is open on the input. -/
def execTripInputActive (t : Fin 8) (blank : Bool) (s : State) : Host.Outcome State Fault Refusal :=
  s.atDie (t.val / 2) fun d => d.tripActive (t.val / 2) (t.val % 2) blank

/-- TRIP_INPUT_INACTIVE (R319). -/
def execTripInputInactive (t : Fin 8) (s : State) : Host.Outcome State Fault Refusal :=
  s.atDie (t.val / 2) fun d => d.tripInactive (t.val % 2)

/-- BLANKING_WINDOW_END (R319). -/
def execBlankingWindowEnd (t : Fin 8) (s : State) : Host.Outcome State Fault Refusal :=
  s.atDie (t.val / 2) fun d => d.windowEnd (t.val / 2) (t.val % 2)

/-- VALVE_OPEN_LOAD (R326). -/
def execValveOpenLoad (v : Fin 12) (s : State) : Host.Outcome State Fault Refusal :=
  s.atDie (v.val / 3) fun d => d.valveOpen (v.val % 3)

/-- VALVE_LOW_SIDE_OVERCURRENT (R326). -/
def execValveLowSideOvercurrent (v : Fin 12) (s : State) : Host.Outcome State Fault Refusal :=
  s.atDie (v.val / 3) fun d => d.valveLowOvc (v.val % 3)

/-- VALVE_MAIN_OVERCURRENT (R326). -/
def execValveMainOvercurrent (v : Fin 12) (s : State) : Host.Outcome State Fault Refusal :=
  s.atDie (v.val / 3) fun d => d.valveMainOvc (v.val % 3)

/-- VALVE_DEVIATION (R326). -/
def execValveDeviation (v : Fin 12) (s : State) : Host.Outcome State Fault Refusal :=
  s.atDie (v.val / 3) fun d => d.valveDev (v.val / 3) (v.val % 3)

/-- SAFETY_OUTPUT_SHORT (R328). -/
def execSafetyOutputShort (o : Fin 8) (s : State) : Host.Outcome State Fault Refusal :=
  s.atDie (o.val / 2) fun d => d.soFault (o.val % 2) F.EDG_SOSTAT_SHORT.mask.toNat

/-- SAFETY_OUTPUT_OVERLOAD (R328). -/
def execSafetyOutputOverload (o : Fin 8) (s : State) : Host.Outcome State Fault Refusal :=
  s.atDie (o.val / 2) fun d => d.soFault (o.val % 2) F.EDG_SOSTAT_OVC.mask.toNat

/-- OFF_PULSE_TEST_START (R329, R330): `item` is numbered as EDG_OPSTATn.LAST. -/
def execOffPulseTestStart (d : Fin 4) (item : Fin 7) (s : State) : Host.Outcome State Fault Refusal :=
  s.atDie d.val fun x => x.testStart item.val

/-- OFF_PULSE_TEST_END (R330, R331): `pass` says that the output ball fell below 25 % in the first half of the pulse and rose
above 75 % within 50 µs of its end. -/
def execOffPulseTestEnd (d : Fin 4) (pass : Bool) (s : State) : Host.Outcome State Fault Refusal :=
  s.atDie d.val fun x => x.testEnd pass

/-- CHECKER_MISMATCH (R496). -/
def execCheckerMismatch (d : Fin 4) (s : State) : Host.Outcome State Fault Refusal := s.atDie d.val (·.checker)

/-- DIE_TICK (R300, R301). -/
def execDieTick (d : Fin 4) (s : State) : Host.Outcome State Fault Refusal := s.atDie d.val (·.tick d.val)

end Sys2Proof.Machine
end

