-- ==== Sys2Proof/Machine/EdgeCmds.lean ====
section
/-! DEFINITION. The commands of the edge scheduler and the commutation blocks that come from the driver dies or from the passing of periods
(R36, R124, R230 to R276, R301), and the end of a region copy (R203). -/

namespace Sys2Proof.Machine

/-- A record of a die taken from its return link by a lane. -/
def State.takeRet {α : Type} (s : State) (n : Nat) (l : LaneId) (p : Ret → Option α) (f : Lane → α → Lane) : Host.Outcome State Fault Refusal :=
  .next (match (s.die n).takeRet l.num p with
    | (some x, d) => (s.setDie n d).run l fun L => f L x
    | (none, _) => s)

/-- What a period-start mark starts in a lane: the lane's copy of the period, the commutation block and the axis that waits for it. -/
def Lane.onMark (L : Lane) (n place seq : Nat) : Lane :=
  let key := placeKey n place
  let L1 := L.mark L.me n place seq
  (if key < 8 then L1.mcMark key else L1).axMark key

/-- PERIOD_START_MARK_RECEIVE (R36, R55, R251, R254, R267). -/
def execPeriodStartMarkReceive (l : LaneId) (d : Fin 4) (s : State) : Host.Outcome State Fault Refusal :=
  s.takeRet d.val l (fun r => match r with | .mark p q => some (p, q) | _ => none) fun L x => L.onMark d.val x.1 x.2

/-- The logbook triggers of a report (R223): a protection event or a hold-off on the resource at a place of die `n`. -/
def Lane.lbProt (L : Lane) (n place : Nat) (hit : Bool) : Lane :=
  if hit then (if place < 2 then L.lbProtBridge (2 * n + place) else L.lbProtValve (3 * n + (place - 2))) else L

/-- BRIDGE_REPORT_RECEIVE (R223, R255, R301, R335, R341). -/
def execBridgeReportReceive (l : LaneId) (d : Fin 4) (s : State) : Host.Outcome State Fault Refusal :=
  s.takeRet d.val l (fun r => match r with | .bridge p q => some (p, q) | _ => none) fun L x =>
    ((L.bridgeReport d.val x.1 x.2).lbProt d.val x.1 (decide (x.2.evt % 1024 ≠ 0))).mcReport (2 * d.val + x.1) x.2

/-- VALVE_REPORT_RECEIVE (R223, R301, R341). -/
def execValveReportReceive (l : LaneId) (d : Fin 4) (s : State) : Host.Outcome State Fault Refusal :=
  s.takeRet d.val l (fun r => match r with | .valve p q => some (p, q) | _ => none) fun L x =>
    (L.valveReport d.val x.1 x.2).lbProt d.val x.1 (decide (x.2.flags % 64 ≠ 0))

/-- DIE_REPORT_RECEIVE (R148, R301, R341, R527, R628). -/
def execDieReportReceive (l : LaneId) (d : Fin 4) (s : State) : Host.Outcome State Fault Refusal :=
  s.takeRet d.val l (fun r => match r with | .die q => some q | _ => none) fun L x => L.dieReport d.val x

/-- VOTE_REPORT_RECEIVE (R118, R122 to R124, R148, R223). -/
def execVoteReportReceive (l : LaneId) (d : Fin 4) (s : State) : Host.Outcome State Fault Refusal :=
  s.takeRet d.val l (fun r => match r with | .vote q => some q | _ => none) fun L x =>
    (List.range 5).foldl (fun X p => X.lbProt d.val p (x.holdoff.testBit p)) (L.voteReported d.val x)

/-- COMMUTATION_TIMED_CHANGE (R232, R233, R261). -/
def execCommutationTimedChange (l : LaneId) (b : Fin 8) (s : State) : Host.Outcome State Fault Refusal := .next (s.run l fun L => L.mcTimed b.val)

/-- OFFSET_CHECK_END (R238, R253, R275). -/
def execOffsetCheckEnd (l : LaneId) (b : Fin 8) (s : State) : Host.Outcome State Fault Refusal := .next (s.run l fun L => L.mcOfsEnd b.val)

/-- ALIGN_END (R256, R261). -/
def execAlignEnd (l : LaneId) (b : Fin 8) (s : State) : Host.Outcome State Fault Refusal := .next (s.run l fun L => L.mcAlignEnd b.val)

/-- POLTEST_DONE (R257, R258). -/
def execPoltestDone (l : LaneId) (b : Fin 8) (s : State) : Host.Outcome State Fault Refusal := .next (s.run l fun L => L.mcPolEnd b.val)

/-- VERIFY_WINDOW_END (R259, R261). -/
def execVerifyWindowEnd (l : LaneId) (b : Fin 8) (s : State) : Host.Outcome State Fault Refusal := .next (s.run l fun L => L.mcVerEnd b.val)

/-- CATCH_END (R262, R263). -/
def execCatchEnd (l : LaneId) (b : Fin 8) (s : State) : Host.Outcome State Fault Refusal := .next (s.run l fun L => L.mcCatchEnd b.val)

/-- EXTERNAL_HOLD_DETECT (R255). -/
def execExternalHoldDetect (l : LaneId) (b : Fin 8) (s : State) : Host.Outcome State Fault Refusal := .next (s.run l fun L => L.mcHeld b.val)

/-- RELOCK_MEASURE_END (R272). -/
def execRelockMeasureEnd (l : LaneId) (b : Fin 8) (s : State) : Host.Outcome State Fault Refusal := .next (s.run l fun L => L.mcRelockEnd b.val)

/-- RELOCK_TIMEOUT (R273). -/
def execRelockTimeout (l : LaneId) (b : Fin 8) (s : State) : Host.Outcome State Fault Refusal := .next (s.run l fun L => L.mcRelockOut b.val)

/-- SAMPLING_INSTANT (R237, R355). -/
def execSamplingInstant (l : LaneId) (b : Fin 8) (s : State) : Host.Outcome State Fault Refusal := .next (s.run l fun L => L.mcInstant b.val)

/-- REGION_COPY_DONE (R203). -/
def execRegionCopyDone (l : LaneId) (a : Fin 12) (s : State) : Host.Outcome State Fault Refusal := .next (s.run l fun L => L.copyDone a.val)

end Sys2Proof.Machine
end

