-- ==== Sys2Proof/Machine/EngCmds.lean ====
section
/-! DEFINITION. The engine's instructions as commands (R149 to R187): the lane's engine issues, in this tick, the instruction word that the
command names. A word that is not the one at the running instance's program counter, or whose opcode is another row's, is no such
event and changes nothing (log entry 20). The checks that come before an issue, its result and the next address are `engIssue`. -/

namespace Sys2Proof.Machine

/-- The engine of a lane issues `w`, where its opcode is `op`; `f` is what the opcode does. -/
def State.issue (s : State) (l : LaneId) (w : BitVec 64) (op : Bool) (f : Lane → Inst → Nat → Iss) : Host.Outcome State Fault Refusal :=
  .next (if op then s.run l fun L => L.engIssue w f else s)

/-- TASK_DEADLINE_EXPIRE (R83). -/
def execTaskDeadlineExpire (l : LaneId) (n : Fin 64) (s : State) : Host.Outcome State Fault Refusal :=
  .next (s.run l fun L => L.deadlineExpire n.val)

/-- WAIT_COMPLETE (R178): the instance of a task. -/
def execWaitComplete (l : LaneId) (n : Fin 64) (s : State) : Host.Outcome State Fault Refusal := .next (s.run l fun L => L.waitDone n.val)

/-- ENGINE_PREEMPT (R180). -/
def execEnginePreempt (l : LaneId) (s : State) : Host.Outcome State Fault Refusal := .next (s.run l (·.engPreempt))

/-- WAYPOINT_FIRE (R67, R72, R75, R76). -/
def execWaypointFire (l : LaneId) (w : Fin 128) (s : State) : Host.Outcome State Fault Refusal := .next (s.run l fun L => L.wpCross w.val)

/-- NOP (R160). An opcode that R160 does not list comes here too, and is illegal (R182). -/
def execNop (l : LaneId) (w : BitVec 64) (s : State) : Host.Outcome State Fault Refusal :=
  s.issue l w (decide (insOp w = 0) || (opBits (insOp w)).isNone) fun L _ _ => issNop L

/-- END (R179). -/
def execEndInst (l : LaneId) (w : BitVec 64) (s : State) : Host.Outcome State Fault Refusal :=
  s.issue l w (decide (insOp w = 0x01)) fun _ _ _ => .ends false

/-- YIELD (R179). -/
def execYieldInst (l : LaneId) (w : BitVec 64) (s : State) : Host.Outcome State Fault Refusal :=
  s.issue l w (decide (insOp w = 0x02)) fun _ _ _ => .ends true

/-- JMP (R161, R165). -/
def execJmp (l : LaneId) (w : BitVec 64) (s : State) : Host.Outcome State Fault Refusal :=
  s.issue l w (decide (insOp w = 0x03)) fun L i _ => issJump w L i true

/-- BRC (R161, R165). -/
def execBrc (l : LaneId) (w : BitVec 64) (s : State) : Host.Outcome State Fault Refusal :=
  s.issue l w (decide (insOp w = 0x04)) fun L i _ => issJump w L i (brcHolds (insX w) i.status)

/-- LOOP (R169, R170). -/
def execLoop (l : LaneId) (w : BitVec 64) (s : State) : Host.Outcome State Fault Refusal :=
  s.issue l w (decide (insOp w = 0x05)) fun L i _ => issLoop w L i

/-- LPST (R172, R183). -/
def execLpst (l : LaneId) (w : BitVec 64) (s : State) : Host.Outcome State Fault Refusal :=
  s.issue l w (decide (insOp w = 0x06)) (issLpst w)

/-- LPLD (R172, R183). -/
def execLpld (l : LaneId) (w : BitVec 64) (s : State) : Host.Outcome State Fault Refusal :=
  s.issue l w (decide (insOp w = 0x07)) (issLpld w)

/-- WAIT (R178). -/
def execWait (l : LaneId) (w : BitVec 64) (s : State) : Host.Outcome State Fault Refusal :=
  s.issue l w (decide (insOp w = 0x08)) fun _ _ _ => issWait w

/-- VLD (R160). -/
def execVld (l : LaneId) (w : BitVec 64) (s : State) : Host.Outcome State Fault Refusal :=
  s.issue l w (decide (insOp w = 0x10)) (issVld w)

/-- VST (R106, R160, R196). -/
def execVst (l : LaneId) (w : BitVec 64) (s : State) : Host.Outcome State Fault Refusal :=
  s.issue l w (decide (insOp w = 0x11)) (issVst w)

/-- VMOV (R160). -/
def execVmov (l : LaneId) (w : BitVec 64) (s : State) : Host.Outcome State Fault Refusal :=
  s.issue l w (decide (insOp w = 0x12)) fun L i c => L.res i c 1 [.vec (insD w) (L.vreg i.level (insS w))]

/-- ELD (R160). -/
def execEld (l : LaneId) (w : BitVec 64) (s : State) : Host.Outcome State Fault Refusal :=
  s.issue l w (decide (insOp w = 0x13)) (issEld w)

/-- EST (R106, R160, R196). -/
def execEst (l : LaneId) (w : BitVec 64) (s : State) : Host.Outcome State Fault Refusal :=
  s.issue l w (decide (insOp w = 0x14)) (issEst w)

/-- VSET (R160). -/
def execVset (l : LaneId) (w : BitVec 64) (s : State) : Host.Outcome State Fault Refusal :=
  s.issue l w (decide (insOp w = 0x15)) fun L i c => L.res i c 1 [.el (insD w) (insEl w) (w32 (insImm w))]

/-- EXPS (R160). -/
def execExps (l : LaneId) (w : BitVec 64) (s : State) : Host.Outcome State Fault Refusal :=
  s.issue l w (decide (insOp w = 0x16)) fun L i c => L.res i c 1 [.exp (insD w) (sext 8 (insImm w))]

/-- IN (R173). -/
def execInWord (l : LaneId) (w : BitVec 64) (s : State) : Host.Outcome State Fault Refusal :=
  s.issue l w (decide (insOp w = 0x17)) (issIn w)

/-- OUT (R85, R174). -/
def execOutWord (l : LaneId) (w : BitVec 64) (s : State) : Host.Outcome State Fault Refusal :=
  s.issue l w (decide (insOp w = 0x18)) fun L i _ => issOut w L i

/-- VADD (R156). -/
def execVadd (l : LaneId) (w : BitVec 64) (s : State) : Host.Outcome State Fault Refusal :=
  s.issue l w (decide (insOp w = 0x20)) fun L i c => L.resV i c 2 (insD w) (vecSum false (L.vreg i.level (insS w)) (L.vreg i.level (insT w)))

/-- VSUB (R156). -/
def execVsub (l : LaneId) (w : BitVec 64) (s : State) : Host.Outcome State Fault Refusal :=
  s.issue l w (decide (insOp w = 0x21)) fun L i c => L.resV i c 2 (insD w) (vecSum true (L.vreg i.level (insS w)) (L.vreg i.level (insT w)))

/-- VMUL (R160, R164). -/
def execVmul (l : LaneId) (w : BitVec 64) (s : State) : Host.Outcome State Fault Refusal :=
  s.issue l w (decide (insOp w = 0x22)) (issVmul w)

/-- VDOT (R160, R164). -/
def execVdot (l : LaneId) (w : BitVec 64) (s : State) : Host.Outcome State Fault Refusal :=
  s.issue l w (decide (insOp w = 0x23)) (issVdot w)

/-- MACS (R160, R164). -/
def execMacs (l : LaneId) (w : BitVec 64) (s : State) : Host.Outcome State Fault Refusal :=
  s.issue l w (decide (insOp w = 0x24)) (issMacs w)

/-- ST (R154, R160). -/
def execStAcc (l : LaneId) (w : BitVec 64) (s : State) : Host.Outcome State Fault Refusal :=
  s.issue l w (decide (insOp w = 0x25)) (issSt w)

/-- MATVEC (R164, R166, R167). -/
def execMatvec (l : LaneId) (w : BitVec 64) (s : State) : Host.Outcome State Fault Refusal :=
  s.issue l w (decide (insOp w = 0x26)) (issMatvec w)

/-- MVST (R154, R168). -/
def execMvst (l : LaneId) (w : BitVec 64) (s : State) : Host.Outcome State Fault Refusal :=
  s.issue l w (decide (insOp w = 0x27)) (issMvst w)

/-- NORM (R157). -/
def execNorm (l : LaneId) (w : BitVec 64) (s : State) : Host.Outcome State Fault Refusal :=
  s.issue l w (decide (insOp w = 0x28)) fun L i c => L.res i c 2 [.el (insD w) (insEl w) (w32 (vecNorm (L.vreg i.level (insS w))))]

/-- EXPX (R157). -/
def execExpx (l : LaneId) (w : BitVec 64) (s : State) : Host.Outcome State Fault Refusal :=
  s.issue l w (decide (insOp w = 0x29)) fun L i c => L.res i c 2 [.el (insD w) (insEl w) (wInt (vecExpx (L.vreg i.level (insS w))))]

/-- SHV (R160). -/
def execShv (l : LaneId) (w : BitVec 64) (s : State) : Host.Outcome State Fault Refusal :=
  s.issue l w (decide (insOp w = 0x2A)) (issShv w)

/-- VLIM (R160). -/
def execVlim (l : LaneId) (w : BitVec 64) (s : State) : Host.Outcome State Fault Refusal :=
  s.issue l w (decide (insOp w = 0x2B)) (issVlim w)

/-- VSEL (R160). -/
def execVsel (l : LaneId) (w : BitVec 64) (s : State) : Host.Outcome State Fault Refusal :=
  s.issue l w (decide (insOp w = 0x2C)) (issVsel w)

/-- CMP (R160). -/
def execCmp (l : LaneId) (w : BitVec 64) (s : State) : Host.Outcome State Fault Refusal :=
  s.issue l w (decide (insOp w = 0x2D)) (issCmp w)

end Sys2Proof.Machine
end

