-- ==== Sys2Proof/Machine/MeasCmds.lean ====
section
/-! DEFINITION. The commands of the measurement, position, SENT and travel blocks that come from converters, sensors and the passing of
time (R346 to R404). -/

namespace Sys2Proof.Machine

/-- REFERENCE_READY (R346, R348). -/
def execReferenceReady (l : LaneId) (s : State) : Host.Outcome State Fault Refusal := .next (s.run l (·.refReady))

/-- REFERENCE_FAULT (R348). -/
def execReferenceFault (l : LaneId) (s : State) : Host.Outcome State Fault Refusal := .next (s.run l fun L => L.refFault L.me)

/-- SEQUENCE_GROUP_START (R354, R356, R357): the next group of a sequence. -/
def execSequenceGroupStart (l : LaneId) (q : Fin 16) (s : State) : Host.Outcome State Fault Refusal :=
  .next (s.run l fun L => L.groupStart q.val)

/-- A delivery, and what it gives the commutation block whose bridge the sequence is bound to (R355). -/
def Lane.slotDelivered (L : Lane) (x : Nat) (codes : List Nat) : Lane :=
  match L.dueConv x with
  | none => L
  | some c =>
    if codes.length ≠ c.n then L
    else
      let L1 := L.deliver x codes
      if L.on (R.MEAS_SQCFG c.seq) F.MEAS_SQCFG_BRGEN then L1.mcGot (L.fld (R.MEAS_SQCFG c.seq) F.MEAS_SQCFG_BRG) c.seq x else L1

/-- SLOT_DELIVERY (R344, R347, R349 to R352, R360, R364): `codes` are the converter's codes, as many as the slot averages. -/
def execSlotDelivery (l : LaneId) (x : Fin 64) (codes : List (BitVec 16)) (s : State) : Host.Outcome State Fault Refusal :=
  .next (s.run l fun L => L.slotDelivered x.val (codes.map (·.toNat)))

/-- SPOT_RESULT (R358, R359): `code` is the converter's code. -/
def execSpotResult (l : LaneId) (code : BitVec 16) (s : State) : Host.Outcome State Fault Refusal :=
  .next (s.run l fun L => L.spotResult code.toNat)

/-- CAL_CAPTURE_DONE (R364, R365). -/
def execCalCaptureDone (l : LaneId) (s : State) : Host.Outcome State Fault Refusal := .next (s.run l (·.calPoint))

/-- The end of the store write; a commit on a slot with CALREQ makes the commissioning record stale (R482). -/
def Lane.calWritten (L : Lane) (ok : Bool) : Lane :=
  let req := match L.meas.calWrite with
    | some (x, _, _) => ok && L.on (R.MEAS_SLCFG x) F.MEAS_SLCFG_CALREQ && !L.nvmWait.contains 1
    | none => false
  let L1 := L.calStored ok
  if req then L1.comStale.comLoad else L1

/-- CAL_STORE_WRITE_DONE (R366, R369, R482): `ok` says that the copy read back right. -/
def execCalStoreWriteDone (l : LaneId) (ok : Bool) (s : State) : Host.Outcome State Fault Refusal := .next (s.run l fun L => L.calWritten ok)

/-- QUADRATURE_EDGE (R376, R377, R379): the new accepted levels of A and B. -/
def execQuadratureEdge (l : LaneId) (n : Fin 8) (a b : Bool) (s : State) : Host.Outcome State Fault Refusal :=
  .next (s.run l fun L => L.quadEdge n.val a b)

/-- HALL_TRANSITION (R378, R379): the new accepted levels of H1 to H3. -/
def execHallTransition (l : LaneId) (n : Fin 8) (h : BitVec 3) (s : State) : Host.Outcome State Fault Refusal :=
  .next (s.run l fun L => L.hallEdge n.val h.toNat)

/-- INDEX_EDGE (R380, R381). -/
def execIndexEdge (l : LaneId) (n : Fin 8) (s : State) : Host.Outcome State Fault Refusal := .next (s.run l fun L => L.indexEdge n.val)

/-- SINCOS_PAIR (R382 to R384). -/
def execSincosPair (l : LaneId) (n : Fin 8) (s : State) : Host.Outcome State Fault Refusal := .next (s.run l fun L => L.sincosPair n.val)

/-- PULSE_RISING_EDGE (R385): `high` is the high time of the cycle that ends, in 5 ns steps. -/
def execPulseRisingEdge (l : LaneId) (n : Fin 8) (high : Nat) (s : State) : Host.Outcome State Fault Refusal :=
  .next (s.run l fun L => L.pulseEdge n.val high)

/-- PULSE_TIMEOUT (R386): `level` is the level of the input. -/
def execPulseTimeout (l : LaneId) (n : Fin 8) (level : Bool) (s : State) : Host.Outcome State Fault Refusal :=
  .next (s.run l fun L => L.pulseTimeout n.val level)

/-- TRACKING_OBSERVER_UPDATE (R388 to R390). -/
def execTrackingObserverUpdate (l : LaneId) (n : Fin 8) (s : State) : Host.Outcome State Fault Refusal :=
  .next (s.run l fun L => L.posObserve n.val)

/-- SENT_FRAME (R392 to R397): the duration of the calibration pulse and of the pulses that follow it, in 5 ns steps. -/
def execSentFrame (l : LaneId) (m : Fin 8) (cal : Nat) (pulses : List Nat) (s : State) : Host.Outcome State Fault Refusal :=
  .next (s.run l fun L => L.sentFrame m.val cal pulses)

/-- SENT_FRAME_TIMEOUT (R395). -/
def execSentFrameTimeout (l : LaneId) (m : Fin 8) (s : State) : Host.Outcome State Fault Refusal := .next (s.run l fun L => L.sentTimeout m.val)

/-- TRAVEL_PULSE (R398, R401): of wheel 0 to 3, or of the radar (4). -/
def execTravelPulse (l : LaneId) (src : Fin 5) (s : State) : Host.Outcome State Fault Refusal := .next (s.run l fun L => L.travPulse src.val)

/-- TRAVEL_STILL_TIMEOUT (R398). -/
def execTravelStillTimeout (l : LaneId) (src : Fin 5) (s : State) : Host.Outcome State Fault Refusal := .next (s.run l fun L => L.travStill src.val)

end Sys2Proof.Machine
end

