-- ==== Sys2Proof/Machine/NetCmds.lean ====
section
/-! DEFINITION. The commands of Helm Net, ISOBUS, the service CAN and Ethernet that come from the buses, the port fixes and the passing of time
(R410 to R452). -/

namespace Sys2Proof.Machine

/-- Buffers that have taken a frame since lane `old` hand it to the safety layer, where a session has them (R455, R626). -/
def Lane.helmNew (L old : Lane) : Lane :=
  (List.range 64).foldl (fun X k =>
    let fresh := decide (L.hn.rxAt.at k = L.ticks + 1)
      && (decide (old.hn.rxAt.at k ≠ L.ticks + 1) || decide (L.fld (R.HNET_BST k) F.HNET_BST_SEQ ≠ old.fld (R.HNET_BST k) F.HNET_BST_SEQ))
    if fresh then
      let n := dlcBytes (L.fld (R.HNET_BST k) F.HNET_BST_RDLC)
      let bs := ((List.range 16).flatMap fun j => leBytes 4 (L.rd (R.HNET_BD k j)).toNat).take n
      X.helmPdu k { (default : CanFrame) with data := bs }
    else X) L
/-- A CAN controller whose disable has ended and whose EN has been set meanwhile starts afresh (R49); a request that hardware has found made anew
is handed over (R19). -/
def Lane.canFresh (L old : Lane) : Lane :=
  [2, 3].foldl (fun X n =>
    if (old.canCtl n).closing && !(L.canCtl n).closing then Lane.emitR (X.canAgain L.me n)
    else if (old.canCtl n).queue ≠ (L.canCtl n).queue then Lane.emitR (X.canFlush L.me n) else X) L
/-- What follows in every lane from what a port fix or a bus has done since state `old`. -/
def State.netSettle (s old : State) : State :=
  [LaneId.A, .B, .C].foldl (fun X l => X.run l fun L => (L.helmNew (old.lane l)).canFresh (old.lane l)) s
def State.net (s : State) (f : State → State) : Host.Outcome State Fault Refusal := .next ((f s).netSettle s)
/-- A lane's action that hands over port records. -/
def State.sendRecs (s : State) (l : LaneId) (f : Lane → Lane × List (Nat × PortRec)) : Host.Outcome State Fault Refusal :=
  .next (s.run l fun L => Lane.emitR (f L))
/-- A lane's action that may step reckoner 13 forward (R62). -/
def State.stepping (s : State) (l : LaneId) (f : Lane → Lane × Nat) : Host.Outcome State Fault Refusal :=
  .next (s.run l fun L =>
    let r := f L
    if r.2 = 0 then r.1 else r.1.wpStep13)

/-! ### Port fixes (R410 to R413, R433, R434, R437) -/

/-- PORT_RECORD_RECEIVE (R410, R411): the next record of the lane's link arrives; `good` says that its CRC is good. -/
def execPortRecordReceive (d : Fin 4) (l : LaneId) (good : Bool) (s : State) : Host.Outcome State Fault Refusal :=
  s.net fun s => s.portArrive d.val l good

/-- PORT_RECORD_VOTE_TIMEOUT (R411): `port` 2 is ISOBUS, 3 the service CAN, 4 Ethernet. -/
def execPortRecordVoteTimeout (d : Fin 4) (port : Fin 5) (tag : BitVec 16) (s : State) : Host.Outcome State Fault Refusal :=
  s.net fun s => s.portTimeout d.val port.val tag.toNat

/-- HELM_NET_WINDOW_VOTE (R411): the records of a window are voted at its path's port fix. -/
def execHelmNetWindowVote (p : Fin 2) (tag : BitVec 8) (s : State) : Host.Outcome State Fault Refusal :=
  s.net fun s => s.windowVote p.val tag.toNat

/-- CAN_FRAME_TRANSMIT_DONE (R412, R420, R430, R434, R437): how the frame that the port fix of a die sends ends. -/
def execCanFrameTransmitDone (d : Fin 4) (e : CanEnd) (s : State) : Host.Outcome State Fault Refusal := s.net fun s => s.frameDone d.val e

/-- BUS_OFF_RECOVERY (R412, R451). -/
def execBusOffRecovery (d : Fin 4) (s : State) : Host.Outcome State Fault Refusal := s.net fun s => s.busRecover d.val

/-- WINDOW_START (R434): `busy` says that the bus of the path is busy then. -/
def execWindowStart (p : Fin 2) (tag : BitVec 8) (busy : Bool) (s : State) : Host.Outcome State Fault Refusal :=
  s.net fun s => s.windowStart p.val tag.toNat busy

/-- GUARDIAN_WINDOW (R433): an edge of the guardian's window of a voted window. -/
def execGuardianWindow (p : Fin 2) (tag : BitVec 8) (opens : Bool) (s : State) : Host.Outcome State Fault Refusal :=
  .next (s.onDie p.val fun d => d.guardian tag.toNat opens)

/-- BUS_IDLE (R434, R451): `since` is the time in 625 ps units from the start of the Helm Net window that waits. -/
def execBusIdle (d : Fin 4) (since : Nat) (s : State) : Host.Outcome State Fault Refusal := s.net fun s => s.busIdle d.val since

/-! ### Helm Net in a lane (R414 to R432, R438) -/

/-- TX_BUFFER_COPY (R419, R420, R427 to R429, R432): entry `e` of the matrix. -/
def execTxBufferCopy (l : LaneId) (e : Fin 128) (s : State) : Host.Outcome State Fault Refusal := s.sendRecs l fun L => L.txCopy L.me e.val

/-- HELM_NET_FRAME_RECEIVE (R421, R422, R438, R455): a good frame ends on a path. -/
def execHelmNetFrameReceive (l : LaneId) (p : Fin 2) (f : CanFrame) (s : State) : Host.Outcome State Fault Refusal :=
  s.net fun s => s.run l fun L => L.frameEnd p.val f

/-- REFERENCE_MESSAGE_RECEIVE (R61, R421, R425, R427, R429, R430). -/
def execReferenceMessageReceive (l : LaneId) (p : Fin 2) (f : CanFrame) (s : State) : Host.Outcome State Fault Refusal :=
  s.stepping l fun L => ((L.frameEnd p.val f).helmNew L).refReceive L.me p.val f

/-- REFERENCE_SEND_TIMEOUT (R424). -/
def execReferenceSendTimeout (l : LaneId) (s : State) : Host.Outcome State Fault Refusal := s.sendRecs l fun L => L.refTurn L.me

/-- REFERENCE_TIMEOUT (R430). -/
def execReferenceTimeout (l : LaneId) (s : State) : Host.Outcome State Fault Refusal := .next (s.run l (·.refTimeout))

/-- LISTEN_TIMEOUT (R430). -/
def execListenTimeout (l : LaneId) (s : State) : Host.Outcome State Fault Refusal := .next (s.run l (·.listenTimeout))

/-- COLD_START_SEND (R431). -/
def execColdStartSend (l : LaneId) (s : State) : Host.Outcome State Fault Refusal := s.sendRecs l fun L => L.coldSend L.me

/-- COLD_START_ACK (R61, R62, R431). -/
def execColdStartAck (l : LaneId) (s : State) : Host.Outcome State Fault Refusal := s.stepping l (·.coldAck)

/-- COLD_START_REPEAT (R430). -/
def execColdStartRepeat (l : LaneId) (s : State) : Host.Outcome State Fault Refusal := s.sendRecs l fun L => L.coldRepeat L.me

/-- BACKOFF_END (R430). -/
def execBackoffEnd (l : LaneId) (s : State) : Host.Outcome State Fault Refusal := .next (s.run l (·.backoffEnd))

/-- MATRIX_CYCLE_START (R429, R432). -/
def execMatrixCycleStart (l : LaneId) (s : State) : Host.Outcome State Fault Refusal := .next (s.run l (·.matrixCycle))

/-- BASIC_CYCLE_START (R414, R438). -/
def execBasicCycleStart (l : LaneId) (s : State) : Host.Outcome State Fault Refusal := .next (s.run l (·.basicCycle))

/-- DELAY_PROBE (R428). -/
def execDelayProbe (l : LaneId) (p : Fin 2) (node : Fin 32) (s : State) : Host.Outcome State Fault Refusal :=
  .next (s.run l fun L => L.delayProbe p.val node.val)

/-- DELAY_ANSWER (R428): `t2` and `t3` as the answer carries them. -/
def execDelayAnswer (l : LaneId) (p : Fin 2) (t2 t3 : Word) (s : State) : Host.Outcome State Fault Refusal :=
  .next (s.run l fun L => L.delayAnswer p.val t2.toNat t3.toNat)

/-- CAPABILITY_FRAME (R429): the node's RMASK. -/
def execCapabilityFrame (l : LaneId) (node : Fin 32) (mask : BitVec 3) (s : State) : Host.Outcome State Fault Refusal :=
  .next (s.run l fun L => L.capability node.val mask.toNat)

/-- PATH_FAIL_TIMEOUT (R438). -/
def execPathFailTimeout (l : LaneId) (p : Fin 2) (s : State) : Host.Outcome State Fault Refusal := s.net fun s => s.run l fun L => L.pathFail p.val

/-- START_OF_FRAME (R424, R430, R438): `own` says that the frame is this node's. -/
def execStartOfFrame (l : LaneId) (p : Fin 2) (own : Bool) (s : State) : Host.Outcome State Fault Refusal :=
  .next (s.run l fun L => L.sof p.val own)

/-! ### ISOBUS and the service CAN (R439 to R442, R447, R451) -/

/-- ADDRESS_CLAIM_RECEIVE (R440): another node claims address `sa` with a NAME. -/
def execAddressClaimReceive (l : LaneId) (sa : Byte) (name : BitVec 64) (s : State) : Host.Outcome State Fault Refusal :=
  s.sendRecs l fun L => L.claimReceive L.me sa.toNat name.toNat

/-- ADDRESS_CLAIM_REQUEST (R440). -/
def execAddressClaimRequest (l : LaneId) (s : State) : Host.Outcome State Fault Refusal := s.sendRecs l fun L => L.claimRequest L.me

/-- ADDRESS_CLAIM_TIMEOUT (R440, R441). -/
def execAddressClaimTimeout (l : LaneId) (s : State) : Host.Outcome State Fault Refusal := s.sendRecs l fun L => L.claimTimeout L.me

/-- ISOBUS_FRAME_RECEIVE (R451). -/
def execIsobusFrameReceive (l : LaneId) (f : CanFrame) (s : State) : Host.Outcome State Fault Refusal := .next (s.run l fun L => L.canReceive 2 f)

/-- SVC_FRAME_RECEIVE (R442, R451). -/
def execSvcFrameReceive (l : LaneId) (f : CanFrame) (s : State) : Host.Outcome State Fault Refusal := .next (s.run l fun L => L.canReceive 3 f)

/-! ### Ethernet (R413, R444 to R446, R452) -/

/-- ETH_TX_DESCRIPTOR_TAKE (R444). -/
def execEthTxDescriptorTake (l : LaneId) (p : Fin 2) (s : State) : Host.Outcome State Fault Refusal := .next (s.run l fun L => L.txTake p.val)

/-- ETH_TX_DONE (R411, R413, R444). -/
def execEthTxDone (p : Fin 2) (s : State) : Host.Outcome State Fault Refusal := s.net fun s => s.ethDone p.val

/-- ETH_FRAME_RECEIVE (R444, R445, R456): the frame without its FCS; `good` says that its FCS is right and no error was reported. -/
def execEthFrameReceive (l : LaneId) (p : Fin 2) (bytes : List Byte) (good : Bool) (s : State) : Host.Outcome State Fault Refusal :=
  .next (s.run l fun L => L.ethReceive p.val bytes good)

/-- PHY_ACCESS_DONE (R411, R446): what each lane reads through its own buffer. -/
def execPhyAccessDone (p : Fin 2) (da db dc : BitVec 16) (s : State) : Host.Outcome State Fault Refusal :=
  s.net fun s => s.phyDone p.val fun l => (match l with | .A => da | .B => db | .C => dc).toNat

/-- REFCLK_LOSS (R452). -/
def execRefclkLoss (l : LaneId) (p : Fin 2) (s : State) : Host.Outcome State Fault Refusal := .next (s.run l fun L => L.refclk p.val false)

/-- REFCLK_RETURN (R452). -/
def execRefclkReturn (l : LaneId) (p : Fin 2) (s : State) : Host.Outcome State Fault Refusal := .next (s.run l fun L => L.refclk p.val true)

end Sys2Proof.Machine
end

