-- ==== Sys2Proof/Machine/PowerCmds.lean ====
section
/-! DEFINITION. The commands of KEEP, the supplies, the resets and start-up (R528 to R549, R563 to R578). -/

namespace Sys2Proof.Machine

/-! ### KEEP and the wakes (R563 to R570) -/

/-- KEEP_POWER_ON (R564, R566). -/
def execKeepPowerOn (s : State) : Host.Outcome State Fault Refusal := .next s.keepOn

/-- WAKE_LEVEL (R563, R568, R570): `src` is 0 for WAKE_IGN, 1 for WAKE_0, 2 for WAKE_1, and `high` the level held. -/
def execWakeLevel (src : Fin 3) (high : Bool) (s : State) : Host.Outcome State Fault Refusal := .next (s.wakeLevel src.val high)

/-- WAKE_EDGE (R563, R568 to R570): an edge on WAKE_0 or WAKE_1. -/
def execWakeEdge (src : Fin 2) (rising : Bool) (cycle : Fin 16) (s : State) : Host.Outcome State Fault Refusal :=
  .next (s.wakeEvent (src.val + 1) cycle.val fun cfg _ => edgeOn cfg src.val rising)

/-- WAKE_UP_FRAME (R565, R568 to R570): a good classic data frame on HNA_RXD. -/
def execWakeUpFrame (f : CanFrame) (cycle : Fin 16) (s : State) : Host.Outcome State Fault Refusal :=
  .next (s.wakeEvent 3 cycle.val fun cfg w => bitOf cfg 7 && frameMatch w f)

/-- RESET_N_ASSERT (R566). -/
def execResetNAssert (s : State) : Host.Outcome State Fault Refusal := .next s.resetN

/-- RESET_N_RELEASE (R566). -/
def execResetNRelease (s : State) : Host.Outcome State Fault Refusal := .next s.resetNEnd

/-- POWER_DOWN (R532, R564, R569). -/
def execPowerDown (s : State) : Host.Outcome State Fault Refusal := .next s.powerDown

/-- KEEP_ENTRY_END (R570). -/
def execKeepEntryEnd (s : State) : Host.Outcome State Fault Refusal := .next s.entryEnd

/-! ### Supplies (R528 to R531) -/

/-- LANE_FEED_START (R528): `feed` is the feed in 20 mV steps, `ms` the time from the wake event. -/
def execLaneFeedStart (l : LaneId) (feed : BitVec 12) (ms : Nat) (s : State) : Host.Outcome State Fault Refusal :=
  let L := s.lane l
  if decide (s.keep.ph = .awake) && !L.pw.on && !L.pw.heldOff && decide (325 < feed.toNat) then
    if ms ≤ 100 then .next (s.setLane l ((L.updPw fun p => { p with on := true }).setF R.PWR_FEED F.PWR_FEED_FEED feed.toNat))
    else .next (s.setLane l (L.updPw fun p => { p with heldOff := true }))
  else .next s

/-- LANE_FEED_LOSS (R529). -/
def execLaneFeedLoss (l : LaneId) (s : State) : Host.Outcome State Fault Refusal :=
  if (s.lane l).pw.on then
    let s1 := (s.setLane l ((s.lane l).powerOff false |>.updPw fun p => { p with heldOff := true })).onDies fun d => d.laneGone l.num
    .next (s1.onBin fun b => b.lost l.num).showDom
  else .next s

/-- DRIVER_DIE_POWER_ON (R531): VBRG_n lies above 8.0 V, and two lane power dies request the die. -/
def execDriverDiePowerOn (d : Fin 4) (s : State) : Host.Outcome State Fault Refusal :=
  if decide (2 ≤ lanes3.countP fun l => (s.lane l).pw.on) && !(s.die d.val).on && !(s.a.small && decide (2 ≤ d.val)) then
    .next ((s.setDie d.val Die.powerOn).showDom)
  else .next s

/-- DIE_SOUNDING_DONE (R545, R546). -/
def execDieSoundingDone (d : Fin 4) (pass : Bool) (s : State) : Host.Outcome State Fault Refusal :=
  .next (s.onDie d.val fun x => if x.on && !x.sounded then { x with sounded := true, soundBad := !pass } else x)

/-! ### Start-up (R539 to R549) -/

/-- LANE_RESET_RELEASE (R25, R362, R370, R539, R558): `strap` is what the strap balls read, `us` the time from the wake event. -/
def execLaneResetRelease (l : LaneId) (strap : Fin 4) (us : Nat) (s : State) : Host.Outcome State Fault Refusal :=
  .next (s.laneRelease l strap.val us)

/-- MEMORY_BIST_DONE (R544, R545, R547): `rows` names banks with their counts of failing rows, `ecc` says that every word of the retained
area could be read, `us` is the time taken. -/
def execMemoryBistDone (l : LaneId) (rows : List (Nat × Nat)) (ecc : Bool) (us : BitVec 16) (s : State) : Host.Outcome State Fault Refusal :=
  .next (s.run l fun L => if L.starting && !L.pw.mbist then L.memBist rows ecc s.keep.anchored us.toNat else L)

/-- LOGIC_BIST_DONE (R184, R345, R543, R545, R558). -/
def execLogicBistDone (l : LaneId) (pass : Bool) (cov : Byte) (us : BitVec 16) (mac : Option (Fin 8)) (oos : BitVec 6) (s : State) :
    Host.Outcome State Fault Refusal :=
  let L := s.lane l
  if L.starting && !L.pw.lbist then .next (s.startStep l (L.logicBist pass cov.toNat us.toNat (mac.map (·.val)) oos.toNat)) else .next s

/-- RING_BRING_UP_DONE (R26, R36, R333, R540, R546): `lat` holds the latencies of the lane's links to D0 to D3, in 5 ns steps. -/
def execRingBringUpDone (l : LaneId) (lat : List Nat) (s : State) : Host.Outcome State Fault Refusal := .next (s.ringBringUp l lat)

/-- IMAGE_READ_DONE (R552, R553, R556, R558): `flash` says that the flash answers as R551 asks. -/
def execImageReadDone (l : LaneId) (flash : Bool) (s : State) : Host.Outcome State Fault Refusal :=
  let L := s.lane l
  if L.loading && !L.pw.read then .next (s.startStep l (L.imageRead flash)) else .next s

/-- SIGNATURE_VERIFY_DONE (R555 to R558). -/
def execSignatureVerifyDone (l : LaneId) (s : State) : Host.Outcome State Fault Refusal :=
  let L := s.lane l
  if L.loading && L.pw.read && !L.pw.verified && L.pw.ring then .next ((s.startStep l L.sigVerify).listEnd l) else .next s

/-- REGISTER_LOAD_ENTRY (R101, R554, R558, R559). -/
def execRegisterLoadEntry (l : LaneId) (s : State) : Host.Outcome State Fault Refusal :=
  let L := s.lane l
  if L.loadDue then .next ((s.startStep l L.loadEntry).listEnd l) else .next s

/-- REGISTER_LOAD_WAIT_END (R554). -/
def execRegisterLoadWaitEnd (l : LaneId) (s : State) : Host.Outcome State Fault Refusal := .next ((s.run l (·.loadWaitEnd)).listEnd l)

/-- LONE_LANE_TIMEOUT (R549). -/
def execLoneLaneTimeout (l : LaneId) (s : State) : Host.Outcome State Fault Refusal := .next (s.run l (·.loneTimeout))

/-! ### The NVM guard and the management links (R571, R572, R578) -/

/-- NVM_GUARD_ON (R571, R572): `feed` is the feed in 20 mV steps. -/
def execNvmGuardOn (l : LaneId) (feed : BitVec 12) (s : State) : Host.Outcome State Fault Refusal := .next (s.run l fun L => L.guardOn feed.toNat)

/-- NVM_GUARD_OFF (R571, R572). -/
def execNvmGuardOff (l : LaneId) (feed : BitVec 12) (s : State) : Host.Outcome State Fault Refusal := .next (s.run l fun L => L.guardOff feed.toNat)

/-- NVM_WRITE_TIMEOUT (R366, R484, R518, R572): `k` names the record: 1 calibration, 2 commissioning, 3 lock-out, 4 slot record. -/
def execNvmWriteTimeout (l : LaneId) (k : Fin 5) (s : State) : Host.Outcome State Fault Refusal := .next (s.run l fun L => L.nvmTimeout k.val)

/-- SLEEP_STEP_TIMEOUT (R567, R568). -/
def execSleepStepTimeout (l : LaneId) (s : State) : Host.Outcome State Fault Refusal := .next (s.run l (·.sleepTimeout))

/-- MANAGEMENT_LINK_TIMEOUT (R578). -/
def execManagementLinkTimeout (l : LaneId) (s : State) : Host.Outcome State Fault Refusal := .next (s.linkDown l)

/-- MANAGEMENT_LINK_UP (R578). -/
def execManagementLinkUp (l : LaneId) (s : State) : Host.Outcome State Fault Refusal := .next (s.linkUp l)

end Sys2Proof.Machine
end

