-- ==== Sys2Proof/Machine/RegCmds.lean ====
section
/-! DEFINITION. The commands that are a write or a read of a register by the lane processor: each is the bus access that writes or reads
that register, and what the access does is the block's (Bus.lean). A read by the debugger changes nothing (R20). A command whose
summary says that software sets or clears a bit writes that bit so, and the other bits as the command gives them. -/

namespace Sys2Proof.Machine

/-- REGISTER_WRITE (R14 to R21, R38): a write of any size to any address. -/
def execRegisterWrite (l : LaneId) (size : AccSize) (addr v : Word) (s : State) : Host.Outcome State Fault Refusal :=
  .next (s.busWrite l size addr.toNat v)

/-- PROGRAM_MEMORY_WRITE (R185, R186): a write to engine program memory at a byte offset. -/
def execProgramMemoryWrite (l : LaneId) (size : AccSize) (ofs : BitVec 16) (v : Word) (s : State) : Host.Outcome State Fault Refusal :=
  .next (s.busWrite l size (0x32000000 + ofs.toNat) v)

/-- SHADOW_WRITE (R195, R207): a write to word `i` of the shadow view of axis `a`. -/
def execShadowWrite (l : LaneId) (a : Fin 12) (i : Fin 1280) (v : Word) (s : State) : Host.Outcome State Fault Refusal :=
  .next (s.busWrite l .word (0x30000000 + 4 * (axArea a.val + 0x800 + i.val)) v)

/-- GUARD_BAND_WRITE (R360, R361): a write to MEAS_GBHI (0), MEAS_GBLO (1) or MEAS_GBFLT (2) of slot `x`. -/
def execGuardBandWrite (l : LaneId) (x : Fin 64) (r : Fin 3) (v : Word) (s : State) : Host.Outcome State Fault Refusal :=
  s.write l (if r.val = 0 then R.MEAS_GBHI x.val else if r.val = 1 then R.MEAS_GBLO x.val else R.MEAS_GBFLT x.val) v

/-- IRQ_COMPLETE (R45): a write of IRQ_COMPLETE. -/
def execIrqComplete (l : LaneId) (v : Word) (s : State) : Host.Outcome State Fault Refusal := s.write l R.IRQ_COMPLETE v

/-- AXIS_ENABLE (R54, R55, R215): AX_CFG written with EN at 1 and the other bits of `v`. -/
def execAxisEnable (l : LaneId) (a : Fin 12) (v : Word) (s : State) : Host.Outcome State Fault Refusal := s.write l (R.AX_CFG a.val) (F.AX_CFG_EN.set v 1)

/-- AXIS_DISABLE (R48, R51): AX_CFG written with EN at 0 and the other bits of `v`. -/
def execAxisDisable (l : LaneId) (a : Fin 12) (v : Word) (s : State) : Host.Outcome State Fault Refusal := s.write l (R.AX_CFG a.val) (F.AX_CFG_EN.set v 0)

/-- RKN_ENABLE (R623): RKN_CTRL written with EN at 1 and the other bits of `v`. -/
def execRknEnable (l : LaneId) (v : Word) (s : State) : Host.Outcome State Fault Refusal := s.write l R.RKN_CTRL (F.RKN_CTRL_EN.set v 1)

/-- RKN_DISABLE (R48, R623): RKN_CTRL written with EN at 0 and the other bits of `v`. -/
def execRknDisable (l : LaneId) (v : Word) (s : State) : Host.Outcome State Fault Refusal := s.write l R.RKN_CTRL (F.RKN_CTRL_EN.set v 0)

/-- SNAP (R63): RKN_CTRL written with SNAP at 1 and the other bits of `v`. -/
def execSnap (l : LaneId) (v : Word) (s : State) : Host.Outcome State Fault Refusal := s.write l R.RKN_CTRL (F.RKN_CTRL_SNAP.set v 1)

/-- WAYPOINT_ARM (R66, R68, R69, R77, R78): RKN_WP_CFG written with ARM at 1 and the other bits of `v`. -/
def execWaypointArm (l : LaneId) (w : Fin 128) (v : Word) (s : State) : Host.Outcome State Fault Refusal := s.write l (R.RKN_WP_CFG w.val) (F.RKN_WP_CFG_ARM.set v 1)

/-- WAYPOINT_COMPARE_WRITE (R74): a write of RKN_WP_CMP. -/
def execWaypointCompareWrite (l : LaneId) (w : Fin 128) (v : Word) (s : State) : Host.Outcome State Fault Refusal := s.write l (R.RKN_WP_CMP w.val) v

/-- WAYPOINT_DISARM (R51, R73): RKN_WP_CFG written with ARM at 0 and the other bits of `v`. -/
def execWaypointDisarm (l : LaneId) (w : Fin 128) (v : Word) (s : State) : Host.Outcome State Fault Refusal := s.write l (R.RKN_WP_CFG w.val) (F.RKN_WP_CFG_ARM.set v 0)

/-- FIX_ENABLE (R101, R514): FIX_CTRL written with EN at 1 and the other bits of `v`. -/
def execFixEnable (l : LaneId) (v : Word) (s : State) : Host.Outcome State Fault Refusal := s.write l R.FIX_CTRL (F.FIX_CTRL_EN.set v 1)

/-- DECISION_POST (R112, R209, R535, R541): a write of FIX_DECPOST. -/
def execDecisionPost (l : LaneId) (v : Word) (s : State) : Host.Outcome State Fault Refusal := s.write l R.FIX_DECPOST v

/-- EDGE_LOAD (R286, R290, R291): a write of EDG_LOAD. -/
def execEdgeLoad (l : LaneId) (v : Word) (s : State) : Host.Outcome State Fault Refusal := s.write l R.EDG_LOAD v

/-- BRIDGE_CLEAR (R322): CLR written in EDG_BCLR. -/
def execBridgeClear (l : LaneId) (b : Fin 8) (s : State) : Host.Outcome State Fault Refusal := s.write l (R.EDG_BCLR b.val) 1

/-- VALVE_CLEAR (R322): CLR written in EDG_VCLR. -/
def execValveClear (l : LaneId) (x : Fin 12) (s : State) : Host.Outcome State Fault Refusal := s.write l (R.EDG_VCLR x.val) 1

/-- SAFETY_OUTPUT_CLEAR (R322): CLR written in EDG_SOCLR. -/
def execSafetyOutputClear (l : LaneId) (o : Fin 8) (s : State) : Host.Outcome State Fault Refusal := s.write l (R.EDG_SOCLR o.val) 1

/-- TRIP_CLEAR (R322): CLR written in EDG_TRCLR. -/
def execTripClear (l : LaneId) (t : Fin 8) (s : State) : Host.Outcome State Fault Refusal := s.write l (R.EDG_TRCLR t.val) 1

/-- BRIDGE_ENABLE (R335): EDG_BCFG written with EN at 1 and the other bits of `v`. -/
def execBridgeEnable (l : LaneId) (b : Fin 8) (v : Word) (s : State) : Host.Outcome State Fault Refusal := s.write l (R.EDG_BCFG b.val) (F.EDG_BCFG_EN.set v 1)

/-- COMMUTATION_ENABLE (R230, R274): EDG_MCTL written with EN at 1 and the other bits of `v`. -/
def execCommutationEnable (l : LaneId) (b : Fin 8) (v : Word) (s : State) : Host.Outcome State Fault Refusal := s.write l (R.EDG_MCTL b.val) (F.EDG_MCTL_EN.set v 1)

/-- COMMUTATION_DISABLE (R254): EDG_MCTL written with EN at 0 and the other bits of `v`. -/
def execCommutationDisable (l : LaneId) (b : Fin 8) (v : Word) (s : State) : Host.Outcome State Fault Refusal := s.write l (R.EDG_MCTL b.val) (F.EDG_MCTL_EN.set v 0)

/-- ENGINE_ENABLE (R175): CE_CTRL written with EN at 1 and the other bits of `v`. -/
def execEngineEnable (l : LaneId) (v : Word) (s : State) : Host.Outcome State Fault Refusal := s.write l R.CE_CTRL (F.CE_CTRL_EN.set v 1)

/-- ENGINE_DISABLE (R187): CE_CTRL written with EN at 0 and the other bits of `v`. -/
def execEngineDisable (l : LaneId) (v : Word) (s : State) : Host.Outcome State Fault Refusal := s.write l R.CE_CTRL (F.CE_CTRL_EN.set v 0)

/-- TASK_CONFIG_WRITE (R179): a write of CE_TASK. -/
def execTaskConfigWrite (l : LaneId) (n : Fin 64) (v : Word) (s : State) : Host.Outcome State Fault Refusal := s.write l (R.CE_TASK n.val) v

/-- BANK_SWAP_REQUEST (R208, R209, R210): AX_BANK written with SWREQ at 1. -/
def execBankSwapRequest (l : LaneId) (a : Fin 12) (s : State) : Host.Outcome State Fault Refusal := s.write l (R.AX_BANK a.val) (F.AX_BANK_SWREQ.set 0 1)

/-- LOGBOOK_ENABLE (R225): AX_LBCFG written with EN at 1 and the other bits of `v`. -/
def execLogbookEnable (l : LaneId) (a : Fin 12) (v : Word) (s : State) : Host.Outcome State Fault Refusal := s.write l (R.AX_LBCFG a.val) (F.AX_LBCFG_EN.set v 1)

/-- LOGBOOK_DISABLE (R224): AX_LBCFG written with EN at 0 and the other bits of `v`. -/
def execLogbookDisable (l : LaneId) (a : Fin 12) (v : Word) (s : State) : Host.Outcome State Fault Refusal := s.write l (R.AX_LBCFG a.val) (F.AX_LBCFG_EN.set v 0)

/-- LOGBOOK_SOFTWARE_TRIGGER (R223): AX_LBCFG written with SWTRIG at 1 and the other bits of `v`. -/
def execLogbookSoftwareTrigger (l : LaneId) (a : Fin 12) (v : Word) (s : State) : Host.Outcome State Fault Refusal := s.write l (R.AX_LBCFG a.val) (F.AX_LBCFG_SWTRIG.set v 1)

/-- LOGBOOK_REARM (R222): AX_LBCFG written with REARM at 1 and the other bits of `v`. -/
def execLogbookRearm (l : LaneId) (a : Fin 12) (v : Word) (s : State) : Host.Outcome State Fault Refusal := s.write l (R.AX_LBCFG a.val) (F.AX_LBCFG_REARM.set v 1)

/-- REFERENCE_ENABLE (R346): MEAS_REF written with EN at 1 and the other bits of `v`. -/
def execReferenceEnable (l : LaneId) (v : Word) (s : State) : Host.Outcome State Fault Refusal := s.write l R.MEAS_REF (F.MEAS_REF_EN.set v 1)

/-- MEAS_ENABLE (R371): MEAS_CTRL written with EN at 1 and the other bits of `v`. -/
def execMeasEnable (l : LaneId) (v : Word) (s : State) : Host.Outcome State Fault Refusal := s.write l R.MEAS_CTRL (F.MEAS_CTRL_EN.set v 1)

/-- SLOT_ENABLE (R353, R371): MEAS_SLCFG written with EN at 1 and the other bits of `v`. -/
def execSlotEnable (l : LaneId) (x : Fin 64) (v : Word) (s : State) : Host.Outcome State Fault Refusal := s.write l (R.MEAS_SLCFG x.val) (F.MEAS_SLCFG_EN.set v 1)

/-- SEQUENCE_ENABLE (R371): MEAS_SQCFG written with EN at 1 and the other bits of `v`. -/
def execSequenceEnable (l : LaneId) (q : Fin 16) (v : Word) (s : State) : Host.Outcome State Fault Refusal := s.write l (R.MEAS_SQCFG q.val) (F.MEAS_SQCFG_EN.set v 1)

/-- SEQUENCE_START (R355): a write of MEAS_SQSTART. -/
def execSequenceStart (l : LaneId) (v : Word) (s : State) : Host.Outcome State Fault Refusal := s.write l R.MEAS_SQSTART v

/-- SPOT_CONVERSION (R358): MEAS_SPOT written with GO at 1 and the other bits of `v`. -/
def execSpotConversion (l : LaneId) (v : Word) (s : State) : Host.Outcome State Fault Refusal := s.write l R.MEAS_SPOT (F.MEAS_SPOT_GO.set v 1)

/-- CAL_START (R363): MEAS_CALCMD written with START at 1 and the other bits of `v`. -/
def execCalStart (l : LaneId) (v : Word) (s : State) : Host.Outcome State Fault Refusal := s.write l R.MEAS_CALCMD (F.MEAS_CALCMD_START.set v 1)

/-- CAL_COMMIT (R366): MEAS_CALCMD written with COMMIT at 1 and the other bits of `v`. -/
def execCalCommit (l : LaneId) (v : Word) (s : State) : Host.Outcome State Fault Refusal := s.write l R.MEAS_CALCMD (F.MEAS_CALCMD_COMMIT.set v 1)

/-- CAL_ABORT (R50, R367): MEAS_CALCMD written with ABORT at 1 and the other bits of `v`. -/
def execCalAbort (l : LaneId) (v : Word) (s : State) : Host.Outcome State Fault Refusal := s.write l R.MEAS_CALCMD (F.MEAS_CALCMD_ABORT.set v 1)

/-- POS_ENABLE (R625): POS_CTRL written with EN at 1 and the other bits of `v`. -/
def execPosEnable (l : LaneId) (v : Word) (s : State) : Host.Outcome State Fault Refusal := s.write l R.POS_CTRL (F.POS_CTRL_EN.set v 1)

/-- POSITION_INTERFACE_ENABLE (R407, R625): POS_CFG written with EN at 1 and the other bits of `v`. -/
def execPositionInterfaceEnable (l : LaneId) (n : Fin 8) (v : Word) (s : State) : Host.Outcome State Fault Refusal := s.write l (R.POS_CFG n.val) (F.POS_CFG_EN.set v 1)

/-- SENT_ENABLE (R408): SENT_CFG written with EN at 1 and the other bits of `v`. -/
def execSentEnable (l : LaneId) (m : Fin 8) (v : Word) (s : State) : Host.Outcome State Fault Refusal := s.write l (R.SENT_CFG m.val) (F.SENT_CFG_EN.set v 1)

/-- TRAVEL_ENABLE (R404, R625): POS_TRCFG written with EN at 1 and the other bits of `v`. -/
def execTravelEnable (l : LaneId) (v : Word) (s : State) : Host.Outcome State Fault Refusal := s.write l R.POS_TRCFG (F.POS_TRCFG_EN.set v 1)

/-- GROUND_SPEED_ENABLE (R404): POS_GSCFG written with EN at 1 and the other bits of `v`. -/
def execGroundSpeedEnable (l : LaneId) (v : Word) (s : State) : Host.Outcome State Fault Refusal := s.write l R.POS_GSCFG (F.POS_GSCFG_EN.set v 1)

/-- HELM_NET_ENABLE (R418, R430): HNET_CTRL written with EN at 1 and the other bits of `v`. -/
def execHelmNetEnable (l : LaneId) (v : Word) (s : State) : Host.Outcome State Fault Refusal := s.write l R.HNET_CTRL (F.HNET_CTRL_EN.set v 1)

/-- HELM_NET_DISABLE (R48, R430): HNET_CTRL written with EN at 0 and the other bits of `v`. -/
def execHelmNetDisable (l : LaneId) (v : Word) (s : State) : Host.Outcome State Fault Refusal := s.write l R.HNET_CTRL (F.HNET_CTRL_EN.set v 0)

/-- TRANSMIT_REQUEST (R420): HNET_BST written with TXREQ at 1. -/
def execTransmitRequest (l : LaneId) (k : Fin 64) (s : State) : Host.Outcome State Fault Refusal := s.write l (R.HNET_BST k.val) (F.HNET_BST_TXREQ.set 0 1)

/-- ISOBUS_ENABLE (R440): ISB_CTRL written with EN at 1 and the other bits of `v`. -/
def execIsobusEnable (l : LaneId) (v : Word) (s : State) : Host.Outcome State Fault Refusal := s.write l R.ISB_CTRL (F.ISB_CTRL_EN.set v 1)

/-- ISB_TRANSMIT_REQUEST (R439, R441): ISB_TXCT written with REQ at 1 and the other bits of `v`. -/
def execIsbTransmitRequest (l : LaneId) (k : Fin 16) (v : Word) (s : State) : Host.Outcome State Fault Refusal := s.write l (R.ISB_TXCT k.val) (F.ISB_TXCT_REQ.set v 1)

/-- SVC_TRANSMIT_REQUEST (R442, R451): SVC_TXCT written with REQ at 1 and the other bits of `v`. -/
def execSvcTransmitRequest (l : LaneId) (k : Fin 16) (v : Word) (s : State) : Host.Outcome State Fault Refusal := s.write l (R.SVC_TXCT k.val) (F.ISB_TXCT_REQ.set v 1)

/-- VERSION_NEGOTIATE (R447): a write of ISB_NEG. -/
def execVersionNegotiate (l : LaneId) (v : Word) (s : State) : Host.Outcome State Fault Refusal := s.write l R.ISB_NEG v

/-- ETHERNET_ENABLE (R452): ETH_CTRL written with EN at 1 and the other bits of `v`. -/
def execEthernetEnable (l : LaneId) (p : Fin 2) (v : Word) (s : State) : Host.Outcome State Fault Refusal := s.write l (R.ETH_CTRL p.val) (F.ETH_CTRL_EN.set v 1)

/-- PHY_ACCESS (R446): ETH_PHYADR written with GO at 1 and the other bits of `v`. -/
def execPhyAccess (l : LaneId) (p : Fin 2) (v : Word) (s : State) : Host.Outcome State Fault Refusal := s.write l (R.ETH_PHYADR p.val) (F.ETH_PHYADR_GO.set v 1)

/-- SAFETY_LAYER_ENABLE (R626): SAFE_CTRL written with EN at 1 and the other bits of `v`. -/
def execSafetyLayerEnable (l : LaneId) (v : Word) (s : State) : Host.Outcome State Fault Refusal := s.write l R.SAFE_CTRL (F.SAFE_CTRL_EN.set v 1)

/-- SESSION_ENABLE (R459, R477): SAFE_SCFG written with EN at 1 and the other bits of `v`. -/
def execSessionEnable (l : LaneId) (n : Fin 128) (v : Word) (s : State) : Host.Outcome State Fault Refusal := s.write l (R.SAFE_SCFG n.val) (F.SAFE_SCFG_EN.set v 1)

/-- MONITOR_ENABLE (R626): SFN_CTRL written with EN at 1 and the other bits of `v`. -/
def execMonitorEnable (l : LaneId) (v : Word) (s : State) : Host.Outcome State Fault Refusal := s.write l R.SFN_CTRL (F.SFN_CTRL_EN.set v 1)

/-- FUNCTION_ENABLE (R477): SFN_ACFG written with EN at 1 and the other bits of `v`. -/
def execFunctionEnable (l : LaneId) (a : Fin 12) (v : Word) (s : State) : Host.Outcome State Fault Refusal := s.write l (R.SFN_ACFG a.val) (F.SFN_ACFG_EN.set v 1)

/-- SPLIT_REQUEST (R133): FIX_SPLIT written with SPLITREQ at 1. -/
def execSplitRequest (l : LaneId) (s : State) : Host.Outcome State Fault Refusal := s.write l R.FIX_SPLIT (F.FIX_SPLIT_SPLITREQ.set 0 1)

/-- JOIN_REQUEST (R137): FIX_SPLIT written with JOINREQ at 1. -/
def execJoinRequest (l : LaneId) (s : State) : Host.Outcome State Fault Refusal := s.write l R.FIX_SPLIT (F.FIX_SPLIT_JOINREQ.set 0 1)

/-- MODE_REQUEST (R535): a write of PWR_MODEREQ. -/
def execModeRequest (l : LaneId) (v : Word) (s : State) : Host.Outcome State Fault Refusal := s.write l R.PWR_MODEREQ v

/-- LOG_RECORD_POST (R572, R579): BMB_OUTCTL written with POST and KIND 0. -/
def execLogRecordPost (l : LaneId) (s : State) : Host.Outcome State Fault Refusal := s.write l R.BMB_OUTCTL (w32 (256 + 0))

/-- REPLY_POST (R579): BMB_OUTCTL written with POST and KIND 1. -/
def execReplyPost (l : LaneId) (s : State) : Host.Outcome State Fault Refusal := s.write l R.BMB_OUTCTL (w32 (256 + 1))

/-- BINNACLE_REGISTER_ACCESS (R579, R580): BMB_OUTCTL written with POST and KIND 2. -/
def execBinnacleRegisterAccess (l : LaneId) (s : State) : Host.Outcome State Fault Refusal := s.write l R.BMB_OUTCTL (w32 (256 + 2))

/-- DIAGNOSTIC_SEGMENT (R579, R580): BMB_OUTCTL written with POST and KIND 3. -/
def execDiagnosticSegment (l : LaneId) (s : State) : Host.Outcome State Fault Refusal := s.write l R.BMB_OUTCTL (w32 (256 + 3))

/-- SLEEP_STEP_POST (R579, R582): BMB_OUTCTL written with POST and KIND 4. -/
def execSleepStepPost (l : LaneId) (s : State) : Host.Outcome State Fault Refusal := s.write l R.BMB_OUTCTL (w32 (256 + 4))

/-- REQUEST_ACCEPT (R581): BMB_INCTL written with ACCEPT at 1. -/
def execRequestAccept (l : LaneId) (s : State) : Host.Outcome State Fault Refusal := s.write l R.BMB_INCTL (F.BMB_INCTL_ACCEPT.set 0 1)

/-- REQUEST_REFUSE (R581): BMB_INCTL written with REFUSE and an RCODE. -/
def execRequestRefuse (l : LaneId) (rcode : BitVec 8) (s : State) : Host.Outcome State Fault Refusal := s.write l R.BMB_INCTL (w32 (2 + 256 * rcode.toNat))

/-- KEY_REVOKE (R595): a write of BMB_KEYREV. -/
def execKeyRevoke (l : LaneId) (v : Word) (s : State) : Host.Outcome State Fault Refusal := s.write l R.BMB_KEYREV v

/-- SOUNDING_START (R597): SND_REQ written with GO at 1 and the other bits of `v`. -/
def execSoundingStart (l : LaneId) (v : Word) (s : State) : Host.Outcome State Fault Refusal := s.write l R.SND_REQ (F.SND_REQ_GO.set v 1)

/-- SOUNDING_ABORT (R50, R600): SND_REQ written with ABORT at 1 and the other bits of `v`. -/
def execSoundingAbort (l : LaneId) (v : Word) (s : State) : Host.Outcome State Fault Refusal := s.write l R.SND_REQ (F.SND_REQ_ABORT.set v 1)

/-- IRQ_CLAIM (R44, R46): a read of IRQ_CLAIM. -/
def execIrqClaim (l : LaneId) (m : Master) (s : State) : Host.Outcome State Fault Refusal := s.read l m R.IRQ_CLAIM

/-- DECISION_READ (R113): a read of FIX_DECAGR. -/
def execDecisionRead (l : LaneId) (m : Master) (s : State) : Host.Outcome State Fault Refusal := s.read l m R.FIX_DECAGR

/-- SPOT_RESULT_READ (R20, R359): a read of MEAS_SPOT_RES. -/
def execSpotResultRead (l : LaneId) (m : Master) (s : State) : Host.Outcome State Fault Refusal := s.read l m R.MEAS_SPOT_RES

/-- BUFFER_STATUS_READ (R422): a read of HNET_BST. -/
def execBufferStatusRead (l : LaneId) (m : Master) (k : Fin 64) (s : State) : Host.Outcome State Fault Refusal := s.read l m (R.HNET_BST k.val)

/-- RKN_ADM_ACC_READ (R91): a read of RKN_ADM_ACC. -/
def execRknAdmAccRead (l : LaneId) (m : Master) (s : State) : Host.Outcome State Fault Refusal := s.read l m R.RKN_ADM_ACC

/-- RKN_ADM_REF_READ (R91): a read of RKN_ADM_REF. -/
def execRknAdmRefRead (l : LaneId) (m : Master) (s : State) : Host.Outcome State Fault Refusal := s.read l m R.RKN_ADM_REF

/-- RKN_TMAX_READ (R85): a read of RKN_TMAX. -/
def execRknTmaxRead (l : LaneId) (m : Master) (n : Fin 64) (s : State) : Host.Outcome State Fault Refusal := s.read l m (R.RKN_TMAX n.val)

/-- DLK_MISS_READ (R148): a read of DLK_MISS. -/
def execDlkMissRead (l : LaneId) (m : Master) (d : Fin 4) (s : State) : Host.Outcome State Fault Refusal := s.read l m (R.DLK_MISS d.val)

/-- DLK_LATE_READ (R148): a read of DLK_LATE. -/
def execDlkLateRead (l : LaneId) (m : Master) (d : Fin 4) (s : State) : Host.Outcome State Fault Refusal := s.read l m (R.DLK_LATE d.val)

/-- DLK_CRC_READ (R148): a read of DLK_CRC. -/
def execDlkCrcRead (l : LaneId) (m : Master) (d : Fin 4) (s : State) : Host.Outcome State Fault Refusal := s.read l m (R.DLK_CRC d.val)

/-- DLK_OUTL_READ (R148): a read of DLK_OUTL. -/
def execDlkOutlRead (l : LaneId) (m : Master) (d : Fin 4) (s : State) : Host.Outcome State Fault Refusal := s.read l m (R.DLK_OUTL d.val)

/-- DLK_NOAGR_READ (R148): a read of DLK_NOAGR. -/
def execDlkNoagrRead (l : LaneId) (m : Master) (d : Fin 4) (s : State) : Host.Outcome State Fault Refusal := s.read l m (R.DLK_NOAGR d.val)

/-- CE_UTIL_READ (R189): a read of CE_UTIL. -/
def execCeUtilRead (l : LaneId) (m : Master) (s : State) : Host.Outcome State Fault Refusal := s.read l m R.CE_UTIL

/-- EDG_MCNT_READ (R284): a read of EDG_MCNT. -/
def execEdgMcntRead (l : LaneId) (m : Master) (b : Fin 8) (s : State) : Host.Outcome State Fault Refusal := s.read l m (R.EDG_MCNT b.val)

/-- EDG_BCNT_READ (R341): a read of EDG_BCNT. -/
def execEdgBcntRead (l : LaneId) (m : Master) (b : Fin 8) (s : State) : Host.Outcome State Fault Refusal := s.read l m (R.EDG_BCNT b.val)

/-- POS_ERRCNT_READ (R407): a read of POS_ERRCNT. -/
def execPosErrcntRead (l : LaneId) (m : Master) (n : Fin 8) (s : State) : Host.Outcome State Fault Refusal := s.read l m (R.POS_ERRCNT n.val)

/-- HNET_CNT_READ (R450): a read of HNET_CNT. -/
def execHnetCntRead (l : LaneId) (m : Master) (s : State) : Host.Outcome State Fault Refusal := s.read l m R.HNET_CNT

/-- HNET_NOAGR_READ (R450): a read of HNET_NOAGR. -/
def execHnetNoagrRead (l : LaneId) (m : Master) (s : State) : Host.Outcome State Fault Refusal := s.read l m R.HNET_NOAGR

/-- ETH_CNT_READ (R452): a read of ETH_CNT. -/
def execEthCntRead (l : LaneId) (m : Master) (p : Fin 2) (s : State) : Host.Outcome State Fault Refusal := s.read l m (R.ETH_CNT p.val)

/-- SAFE_CNT_READ (R487): a read of SAFE_CNT. -/
def execSafeCntRead (l : LaneId) (m : Master) (s : State) : Host.Outcome State Fault Refusal := s.read l m R.SAFE_CNT

/-- SAFE_SERR_READ (R487): a read of SAFE_SERR. -/
def execSafeSerrRead (l : LaneId) (m : Master) (n : Fin 128) (s : State) : Host.Outcome State Fault Refusal := s.read l m (R.SAFE_SERR n.val)

/-- FIX_FLTCNT_READ (R526): a read of FIX_FLTCNT. -/
def execFixFltcntRead (l : LaneId) (m : Master) (s : State) : Host.Outcome State Fault Refusal := s.read l m R.FIX_FLTCNT

/-- BMB_CNT_READ (R608): a read of BMB_CNT. -/
def execBmbCntRead (l : LaneId) (m : Master) (s : State) : Host.Outcome State Fault Refusal := s.read l m R.BMB_CNT

/-- SND_CNT_READ (R609): a read of SND_CNT. -/
def execSndCntRead (l : LaneId) (m : Master) (s : State) : Host.Outcome State Fault Refusal := s.read l m R.SND_CNT

end Sys2Proof.Machine
end

