-- ==== Sys2Proof/Machine/Tick.lean ====
section
/-! DEFINITION. One tick of a lane: 5 ns of its chronometer (R58 to R61, R116, R157). -/

namespace Sys2Proof.Machine

/-- The step that slewing adds to reckoner 13 in a tick (R61, R116): none before synchronisation, then at most one step in 2,000 ticks,
taken off the correction that asks for it. -/
def Lane.slew (L : Lane) : Int × Lane :=
  let total := if L.on R.RKN_GT F.RKN_GT_GT_VALID then L.slewHelm + L.slewLane else 0
  if total = 0 ∨ L.slewWait < 1999 then (0, { L with slewWait := min 1999 (L.slewWait + 1) })
  else
    let d : Int := if 0 < total then 1 else -1
    if 0 < d * L.slewHelm then (d, { L with slewHelm := L.slewHelm - d, slewWait := 0 })
    else (d, { L with slewLane := L.slewLane - d, slewWait := 0 })

/-- Reckoners 13 and 14 advance; reckoner 13 runs once ring bring-up has started it (R540). -/
def Lane.clocks (L0 : Lane) : Lane :=
  let L := (L0.rknDir 14 1).rknRun 14 true
  if L.pw.ring then
    let r := ((L.rknDir 13 1).rknRun 13 true).slew
    { r.2 with ticks := L.ticks + 1, gt := ((L.gt : Int) + 1 + r.1).toNat }
  else { L with ticks := L.ticks + 1 }

/-- The tick of a lane: its clocks, the reckoners that follow an angle or the travelled path, the landings of the engine's two
cycles, the region copies, what was waiting for the end of a tick, and the interrupts pending at its start. -/
def Lane.tick (L : Lane) : Lane :=
  let L1 := { L.clocks with irqPrev := L.pendings, setNow := [], w1sNow := [] }
  let L2 := (List.range 8).foldl (fun X b => X.mcTick b) L1
  let L3 := ([8, 9, 10, 11] : List Nat).foldl (fun X r => X.rknMech r) L2
  let L4 := (L3.rknTravel.landTo L3.cycleAny).updEng fun e => { e with before := [] }
  let L5 := (List.range 12).foldl (fun X a => X.copyTick a) ((List.range 8).foldl (fun X n => X.posCorrect n) L4)
  L5.spotTry.wpSettle.rknSettle.engSettle.measSettle

/-- RECKONER_INTERPOLATION (R58 to R61). -/
def execReckonerInterpolation (l : LaneId) (s : State) : Host.Outcome State Fault Refusal := .next (s.run l (·.tick))

end Sys2Proof.Machine
end

