-- ==== Sys2Proof/Machine/Uds.lean ====
section
/-! DEFINITION. The diagnostic services of the Binnacle (R589 to R595) and the test access port (R604 to R606). The forms of the messages and the
response codes that the spec does not name are those of ISO 14229-1 (PRESUMED, log entry 17). -/

namespace Sys2Proof.Machine

/-! ### Serving a message -/

/-- The message at the front, where `p` takes it and the Binnacle serves any (R592). -/
def Bin.front (b : Bin) (p : List Byte → Bool) : Option (Nat × List Byte) :=
  if b.on && !b.busyUpd && b.round.isNone then match b.msgs with
    | m :: _ => if p m.2 then some m else none
    | [] => none
  else none
/-- A row that serves the front message of a service: the message leaves, the session's timer starts again, and `f` answers it. -/
def State.serve (s : State) (p : List Byte → Bool) (f : State → Nat → List Byte → State) : Host.Outcome State Fault Refusal :=
  let s1 := s.binStep
  match s1.bin.front p with
  | some (port, bs) => .next (f (s1.onBin fun b => { b with msgs := b.msgs.drop 1, lastReq := b.ms }) port bs)
  | none => .next s1
def byteAt (bs : List Byte) (i : Nat) : Nat := (bs.getD i 0).toNat
def sidIs (n : Nat) (bs : List Byte) : Bool := decide (byteAt bs 0 = n)
/-- Whether security is unlocked in the programming session; else the response code. -/
def Bin.progLock (b : Bin) : Option Nat := if b.session ≠ 2 then some 0x7F else if !b.unlocked then some 0x33 else none

/-- DIAGNOSTIC_SESSION_CONTROL (R589, R591, step 1). -/
def execDiagnosticSessionControl (s : State) : Host.Outcome State Fault Refusal :=
  s.serve (sidIs 0x10) fun s port bs =>
    let sub := byteAt bs 1
    if bs.length ≠ 2 then s.nrc port 0x10 0x13
    else if sub = 1 then (s.onBin Bin.endSession).udsSend port [0x50#8, 1, 0, 0x32, 0x01, 0xF4]
    else if sub = 2 then (s.updRound 1 0 []).onBin fun b => { b with progWait := some port }
    else if sub = 3 then
      (s.onBin fun b => { b.endSession with session := 3, port := port }).udsSend port [0x50#8, 3, 0, 0x32, 0x01, 0xF4]
    else s.nrc port 0x10 0x12

/-- The data of an identifier (R589), most significant byte first. -/
def State.didData (s : State) (did : Nat) : Option (List Byte) :=
  if did = 0xF18C then some (beBytes 8 s.bin.uid.toNat)
  else if did = 0xFD00 then some (beBytes 4 (s.bin.rd 0x74).toNat ++ beBytes 4 (s.bin.rd 0x78).toNat)
  else if did = 0xFD01 then some (beBytes 4 s.binStat.toNat)
  else if did = 0xFD02 then some (beBytes 4 (s.bin.rd 0x70).toNat)
  else none
/-- READ_DATA_BY_IDENTIFIER (R589). -/
def execReadDataByIdentifier (s : State) : Host.Outcome State Fault Refusal :=
  s.serve (sidIs 0x22) fun s port bs =>
    if bs.length ≠ 3 then s.nrc port 0x22 0x13
    else match s.didData (256 * byteAt bs 1 + byteAt bs 2) with
      | some d => s.udsSend port ([0x62#8] ++ bs.drop 1 ++ d)
      | none => s.nrc port 0x22 0x31

/-! ### Security (R590) -/

/-- Sixteen random bytes: four free values. -/
def Bin.randomSeed (b : Bin) : List Byte × Bin :=
  ((List.range 4).flatMap fun i => beBytes 4 (Config.freeValue 7 (b.free + i)).toNat, { b with free := b.free + 4 })
/-- The key that answers a seed (R590). -/
def Bin.keyOf (b : Bin) (seed : List Byte) : List Byte := (hmac256 b.auth seed).take 16
/-- SECURITY_ACCESS_SEED (R590): also sub-functions that the Binnacle does not serve. -/
def execSecurityAccessSeed (s : State) : Host.Outcome State Fault Refusal :=
  s.serve (fun bs => sidIs 0x27 bs && decide (byteAt bs 1 ≠ 0x12)) fun s port bs =>
    if byteAt bs 1 ≠ 0x11 then s.nrc port 0x27 0x12
    else if bs.length ≠ 2 then s.nrc port 0x27 0x13
    else if s.bin.session = 0 then s.nrc port 0x27 0x7F
    else if s.bin.delay.isSome then s.nrc port 0x27 0x37
    else
      let r := s.bin.randomSeed
      (s.onBin fun _ => { r.2 with seed := some r.1 }).udsSend port ([0x67#8, 0x11] ++ r.1)
/-- SECURITY_ACCESS_KEY (R590). -/
def execSecurityAccessKey (s : State) : Host.Outcome State Fault Refusal :=
  s.serve (fun bs => sidIs 0x27 bs && decide (byteAt bs 1 = 0x12)) fun s port bs =>
    if bs.length ≠ 18 then s.nrc port 0x27 0x13
    else if s.bin.session = 0 then s.nrc port 0x27 0x7F
    else match s.bin.seed with
      | none => s.nrc port 0x27 0x24
      | some seed =>
        if !s.bin.authBlocked && !s.bin.auth.isEmpty && decide (bs.drop 2 = s.bin.keyOf seed) then
          (s.onBin fun b => { b with unlocked := true, seed := none }).udsSend port [0x67#8, 0x12]
        else
          (s.onBin fun b =>
            let n := b.wrong + 1
            { b with seed := none, wrong := if n = 3 then 0 else n, delay := if n = 3 then some b.ms else b.delay }).nrc port 0x27 0x35
/-- SECURITY_DELAY_END (R590): 10 s after the third wrong key. -/
def execSecurityDelayEnd (s : State) : Host.Outcome State Fault Refusal :=
  .next (s.onBin fun b => match b.delay with | some t => if t + 10000 ≤ b.ms then { b with delay := none } else b | none => b)

/-! ### Routines (R591, R595) -/

def routine (bs : List Byte) : Nat := 256 * byteAt bs 2 + byteAt bs 3
/-- ACTIVATE_IMAGE (R591, step 6): also RoutineControl requests that no other row serves. -/
def execActivateImage (s : State) : Host.Outcome State Fault Refusal :=
  s.serve (fun bs => sidIs 0x31 bs && !(decide (byteAt bs 1 = 3) && decide (routine bs = 0xFF01)) && !(decide (byteAt bs 1 = 1) && decide (routine bs = 0xFF02)))
    fun s port bs =>
      match s.bin.progLock with
      | some c => s.nrc port 0x31 c
      | none =>
        if bs.length < 4 then s.nrc port 0x31 0x13
        else if routine bs ≠ 0xFF01 ∧ routine bs ≠ 0xFF02 then s.nrc port 0x31 0x31
        else if byteAt bs 1 ≠ 1 ∨ routine bs ≠ 0xFF01 then s.nrc port 0x31 0x12
        else if bs.length ≠ 4 then s.nrc port 0x31 0x13
        else if !s.bin.staged then s.nrc port 0x31 0x24
        else ((s.udsSend port [0x71#8, 1, 0xFF, 1]).onBin fun b => b.setUpd 2 0).updRound 0x10 0 []
/-- ACTIVATE_IMAGE_RESULTS (R591, step 11). -/
def execActivateImageResults (s : State) : Host.Outcome State Fault Refusal :=
  s.serve (fun bs => sidIs 0x31 bs && decide (byteAt bs 1 = 3) && decide (routine bs = 0xFF01)) fun s port bs =>
    match s.bin.progLock with
    | some c => s.nrc port 0x31 c
    | none =>
      if bs.length ≠ 4 then s.nrc port 0x31 0x13
      else s.udsSend port ([0x71#8, 3, 0xFF, 1, BitVec.ofNat 8 s.bin.updSt, BitVec.ofNat 8 (s.bin.fld 0x74 bUpCause)] ++ beBytes 4 (s.bin.rd 0x78).toNat
        ++ [BitVec.ofNat 8 (s.bin.fld 0x74 bUpConf)])
/-- Whether a key slot may be revoked (R595): programmed, not revoked, not used by a lane's image, and not the last one. -/
def Bin.mayRevoke (b : Bin) (k : Nat) : Bool :=
  let w := b.rd 0x70
  let live (i : Nat) : Bool := bitOf w i && !bitOf w (4 + i)
  decide (k < 4) && live k && (List.range 4).any (fun i => decide (i ≠ k) && live i)
    && !b.stat.any fun e => decide ((e.2.getD 6 0).toNat % 4 = k)
/-- REVOKE_KEY_SLOT (R595). -/
def execRevokeKeySlot (s : State) : Host.Outcome State Fault Refusal :=
  s.serve (fun bs => sidIs 0x31 bs && decide (byteAt bs 1 = 1) && decide (routine bs = 0xFF02)) fun s port bs =>
    match s.bin.progLock with
    | some c => s.nrc port 0x31 c
    | none =>
      let k := byteAt bs 4
      if bs.length ≠ 5 then s.nrc port 0x31 0x13
      else if !s.bin.mayRevoke k then s.nrc port 0x31 0x31
      else ((s.askAll 0x20 (w32 k) 0 []).onBin fun b => b.setF 0x70 ⟨4 + k, 1⟩ 1).udsSend port [0x71#8, 1, 0xFF, 2]

/-! ### Transfers (R589, R591) -/

/-- The address and the size of a transfer request: dataFormatIdentifier, addressAndLengthFormatIdentifier, address, size. -/
def xferArgs (bs : List Byte) : Option (Nat × Nat) :=
  let na := byteAt bs 2 % 16
  let ns := byteAt bs 2 / 16
  if bs.length = 3 + na + ns ∧ 1 ≤ ns then some (beNat ((bs.drop 3).take na), beNat ((bs.drop (3 + na)).take ns)) else none
/-- REQUEST_DOWNLOAD (R591, step 3). -/
def execRequestDownload (s : State) : Host.Outcome State Fault Refusal :=
  s.serve (sidIs 0x34) fun s port bs =>
    match s.bin.progLock, xferArgs bs with
    | some c, _ => s.nrc port 0x34 c
    | none, none => s.nrc port 0x34 0x13
    | none, some (_, n) =>
      if n < 0x140 + 128 ∨ 0x400000 < n then s.nrc port 0x34 0x31
      else ((s.nrc port 0x34 0x78).onBin fun b => { b.eraseStage.setUpd 1 0 with
        xfer := some ⟨true, 0, n, 0, 0⟩, staged := false, imgLen := n - 128 }).udsSend port [0x74#8, 0x20, 0x04, 0x02]
/-- The data bytes of an upload's block: the 31 records that one SEND holds beside the service and the block number (R581, log entry 45). -/
def upBlock : Nat := 992
/-- REQUEST_UPLOAD (R585, R589). -/
def execRequestUpload (s : State) : Host.Outcome State Fault Refusal :=
  s.serve (sidIs 0x35) fun s port bs =>
    if s.bin.session ≠ 3 then s.nrc port 0x35 0x7F
    else match xferArgs bs with
      | none => s.nrc port 0x35 0x13
      | some (a, n) =>
        if n = 0 ∨ n % 32 ≠ 0 ∨ a < s.bin.logold ∨ s.bin.logwp < a + n / 32 then s.nrc port 0x35 0x31
        else (s.onBin fun b => { b with xfer := some ⟨false, a, n, 0, 0⟩ }).udsSend port [0x75#8, 0x20, 0x03, 0xE2]
/-- A block of a download staged (R591, step 4): the Binnacle and the response code, 0 for none. -/
def Bin.stageBlock (b : Bin) (x : Xfer) (blk : Nat) (dat : List Byte) : Bin × Nat :=
  let b1 := { b.stageBytes x.got dat with xfer := some { x with got := x.got + dat.length, blk := blk } }
  if x.got + dat.length > x.total then (b.updFail 6, 0x31)
  else if x.got ≠ 0 then (b1, 0)
  else if dat.length < 0x40 ∨ b1.headOk = false ∨ (b1.headW 8).toNat + 128 ≠ x.total then (b1.updFail 3, 0x72)
  else (b1, 0)
/-- Records read at an offset of the log, with the count of those whose CRC does not verify. -/
def Bin.logRead (b : Bin) (first got n : Nat) : List Byte × Nat :=
  let bytes := (List.range n).map fun i => b.flashByte ((32 * first + got + i) % 0x1000000)
  let bad := (List.range (n / 32)).countP fun i =>
    let r := (bytes.drop (32 * i)).take 32
    decide (leNat (r.drop 28) ≠ crc32c (r.take 28))
  (bytes, bad)
/-- TRANSFER_DATA (R585, R589, R591, step 4). -/
def execTransferData (s : State) : Host.Outcome State Fault Refusal :=
  s.serve (sidIs 0x36) fun s port bs =>
    let blk := byteAt bs 1
    match s.bin.xfer with
    | none => s.nrc port 0x36 0x24
    | some x =>
      if bs.length < 2 ∨ 1026 < bs.length then s.nrc port 0x36 0x13
      else if blk ≠ (x.blk + 1) % 256 then (if x.down then s.onBin fun b => b.updFail 6 else s).nrc port 0x36 0x73
      else if x.down then
        let r := s.bin.stageBlock x blk (bs.drop 2)
        let s1 := s.onBin fun _ => r.1
        if r.2 = 0 then s1.udsSend port [0x76#8, BitVec.ofNat 8 blk] else s1.nrc port 0x36 r.2
      else if x.total ≤ x.got then s.nrc port 0x36 0x24
      else
        let n := min upBlock (x.total - x.got)
        let r := s.bin.logRead x.first x.got n
        let cnt1 := fun (b : Bin) => { b.setF 0x10 ⟨16, 16⟩ (min 65535 (b.fld 0x10 ⟨16, 16⟩ + r.2)) with xfer := some { x with got := x.got + n, blk := blk } }
        (s.onBin cnt1).udsSend port ([0x76#8, BitVec.ofNat 8 blk] ++ r.1)
/-- REQUEST_TRANSFER_EXIT (R555, R589, R591, step 5). -/
def execRequestTransferExit (s : State) : Host.Outcome State Fault Refusal :=
  s.serve (sidIs 0x37) fun s port bs =>
    match s.bin.xfer with
    | none => s.nrc port 0x37 0x24
    | some x =>
      if bs.length ≠ 1 then s.nrc port 0x37 0x13
      else if !x.down then (s.onBin fun b => { b with xfer := none }).udsSend port [0x77#8]
      else if x.got ≠ x.total then (s.onBin fun b => b.updFail 6).nrc port 0x37 0x24
      else
        let b := s.bin
        let blk := (List.range 128).map fun i => b.stagedByte (b.imgLen + i)
        let c := sigCause b.keys (b.fld 0x70 ⟨4, 4⟩) blk (sha256 (b.stagedBytes b.imgLen))
        if c = 0 then (s.onBin fun b => { b with xfer := none, staged := true }).udsSend port [0x77#8]
        else (s.onBin fun b => b.updFail 4).nrc port 0x37 0x72

/-- TESTER_PRESENT (R589). -/
def execTesterPresent (s : State) : Host.Outcome State Fault Refusal :=
  s.serve (sidIs 0x3E) fun s port bs =>
    if bs.length ≠ 2 then s.nrc port 0x3E 0x13
    else if byteAt bs 1 = 0 then s.udsSend port [0x7E#8, 0]
    else if byteAt bs 1 = 0x80 then s
    else s.nrc port 0x3E 0x12

/-- DIAGNOSTIC_SESSION_TIMEOUT (R589): 5 s without a request. -/
def execDiagnosticSessionTimeout (s : State) : Host.Outcome State Fault Refusal :=
  .next (s.onBin fun b => if decide (b.session ≠ 0) && !b.busyUpd && decide (b.lastReq + 5000 ≤ b.ms) then b.endSession else b)

/-! ### Test access (R139, R140, R604 to R606) -/

/-- The instruction in force and the data register that it selects. -/
def Bin.tap (b : Bin) (ir : Nat) (dr : Word) : Bin := if b.on then { b with ir := ir, dr := dr } else b
/-- BYPASS (R604): also the codes that R604 does not list. -/
def execBypass (code : Byte) (s : State) : Host.Outcome State Fault Refusal :=
  if [0x00, 0x01, 0x02, 0x10, 0x20].contains code.toNat then .next s else .next (s.onBin fun b => b.tap 0xFF 0)

/-- IDCODE (R604). -/
def execIdcode (s : State) : Host.Outcome State Fault Refusal :=
  .next (s.onBin fun b => b.tap 0x01 (w32 (0x0734054F + 0x10000000 * b.fld 0 ⟨16, 4⟩)))

/-- The boundary register as the balls stand: a free value. -/
def Bin.balls (b : Bin) (ir : Nat) : Bin := if b.on then { b.tap ir (Config.freeValue 7 b.free) with free := b.free + 1 } else b
/-- SAMPLE_PRELOAD (R604). -/
def execSamplePreload (s : State) : Host.Outcome State Fault Refusal := .next (s.onBin fun b => b.balls 0x02)

/-- EXTEST (R604): in Field it acts as BYPASS. -/
def execExtest (s : State) : Host.Outcome State Fault Refusal := .next (s.onBin fun b => if b.dry then b.balls 0x00 else b.tap 0xFF 0)

/-- IEEE_1687_NETWORK (R20, R139, R140, R604, R605): the debugger's read of an address of Lane A, or what an instrument shows. -/
def execIeee1687Network (addr : Word) (s : State) : Host.Outcome State Fault Refusal :=
  if !s.bin.on then .next s
  else if s.bin.dry || bDbg.on (s.bin.rd 4) then
    let s1 := s.busRead .A .debugger .word addr.toNat
    .next (s1.onBin fun b => b.tap 0x10 s1.a.rdata)
  else .next (s.onBin fun b => b.balls 0x10)

/-- DEBUG_AUTHENTICATE (R605): without a key a seed is asked for; a key answers it. -/
def execDebugAuthenticate (key : Option (List Byte)) (s : State) : Host.Outcome State Fault Refusal :=
  if !s.bin.on then .next s
  else match key with
    | none =>
      let r := s.bin.randomSeed
      .next (s.onBin fun _ => { r.2 with dbgSeed := some r.1 })
    | some k => match s.bin.dbgSeed with
      | none => .next s
      | some seed =>
        let b := { s.bin with dbgSeed := none }
        if !b.dry && !b.authBlocked && !b.auth.isEmpty && decide (k = b.keyOf seed) then .next (s.onBin fun _ => b.setF 4 bDbg 1)
        else .next (s.onBin fun _ => b)

/-- The Binnacle after SCANREQ in Dry dock (R606). -/
def Bin.scanned (b : Bin) : Bin :=
  { (b.powerOff.setF 4 bDbg 0).setF 4 bScan 1 with on := true, ms := b.ms, auth := [], authBlocked := true, ir := 0x20 }
/-- SCANREQ (R27, R604, R606). In Dry dock, with the dies off and the lanes reset with their memories cleared, the device starts afresh from a wake
whose record names a reset; its SRC is a free value (log entry 54). -/
def execScanreq (s : State) : Host.Outcome State Fault Refusal :=
  if !s.bin.on then .next s
  else if s.bin.dry then
    let s1 := (s.onLanes fun _ L => L.powerOff false).onDies fun _ => default
    let src := (Config.freeValue 7 s.bin.free).toNat % 8
    .next ({ s1 with bin := { s1.bin.scanned with free := s.bin.free + 1 }, dbgq := [], keep := { s.keep with anchored := false } }.wake src
      (levelMask s.keep.cfg s.keep.levels) 3 false)
  else .next (s.onBin fun b => (b.tap 0xFF 0).own s.keep.wakes 0xD [0x20#32])

end Sys2Proof.Machine
end

