-- ==== Sys2Proof/Machine/Dispatch.lean ====
section
/-! DEFINITION. The dispatch of a command to its meaning: one arm for each constructor, in the table's order. -/
namespace Sys2Proof.Machine

/-- The effect of a command on everything but the queue. -/
def exec (i : Instr) (s : State) : Host.Outcome State Fault Refusal :=
  match i with
  | .registerWrite l size addr v => Sys2Proof.Machine.execRegisterWrite l size addr v s
  | .irqClaim l m => Sys2Proof.Machine.execIrqClaim l m s
  | .irqComplete l v => Sys2Proof.Machine.execIrqComplete l v s
  | .axisEnable l a v => Sys2Proof.Machine.execAxisEnable l a v s
  | .axisDisable l a v => Sys2Proof.Machine.execAxisDisable l a v s
  | .rknEnable l v => Sys2Proof.Machine.execRknEnable l v s
  | .rknDisable l v => Sys2Proof.Machine.execRknDisable l v s
  | .snap l v => Sys2Proof.Machine.execSnap l v s
  | .waypointArm l w v => Sys2Proof.Machine.execWaypointArm l w v s
  | .waypointCompareWrite l w v => Sys2Proof.Machine.execWaypointCompareWrite l w v s
  | .waypointDisarm l w v => Sys2Proof.Machine.execWaypointDisarm l w v s
  | .waypointFire l w => Sys2Proof.Machine.execWaypointFire l w s
  | .taskDeadlineExpire l n => Sys2Proof.Machine.execTaskDeadlineExpire l n s
  | .checkpointCapture l din ball => Sys2Proof.Machine.execCheckpointCapture l din ball s
  | .checkpointDataReceive l frm tap skew => Sys2Proof.Machine.execCheckpointDataReceive l frm tap skew s
  | .checkpointApply l => Sys2Proof.Machine.execCheckpointApply l s
  | .fixEnable l v => Sys2Proof.Machine.execFixEnable l v s
  | .decisionPost l v => Sys2Proof.Machine.execDecisionPost l v s
  | .decisionRead l m => Sys2Proof.Machine.execDecisionRead l m s
  | .clockFault l => Sys2Proof.Machine.execClockFault l s
  | .periodStart r imeas => Sys2Proof.Machine.execPeriodStart r imeas s
  | .periodStartMarkReceive l d => Sys2Proof.Machine.execPeriodStartMarkReceive l d s
  | .linkPacketReceive d l good => Sys2Proof.Machine.execLinkPacketReceive d l good s
  | .dieVote r => Sys2Proof.Machine.execDieVote r s
  | .voteHoldOff r => Sys2Proof.Machine.execVoteHoldOff r s
  | .diePacketVote d bst => Sys2Proof.Machine.execDiePacketVote d bst s
  | .edgeLoad l v => Sys2Proof.Machine.execEdgeLoad l v s
  | .packetSendDeadline l r => Sys2Proof.Machine.execPacketSendDeadline l r s
  | .diePacketBuild l d => Sys2Proof.Machine.execDiePacketBuild l d s
  | .bridgeReportReceive l d => Sys2Proof.Machine.execBridgeReportReceive l d s
  | .valveReportReceive l d => Sys2Proof.Machine.execValveReportReceive l d s
  | .dieReportReceive l d => Sys2Proof.Machine.execDieReportReceive l d s
  | .voteReportReceive l d => Sys2Proof.Machine.execVoteReportReceive l d s
  | .dieSilentTimeout l d => Sys2Proof.Machine.execDieSilentTimeout l d s
  | .oppositeGateFall b leg side => Sys2Proof.Machine.execOppositeGateFall b leg side s
  | .interlockFault b leg => Sys2Proof.Machine.execInterlockFault b leg s
  | .gateRailUndervoltage d => Sys2Proof.Machine.execGateRailUndervoltage d s
  | .gateRailRecover d => Sys2Proof.Machine.execGateRailRecover d s
  | .refreshInsert b leg rloss => Sys2Proof.Machine.execRefreshInsert b leg rloss s
  | .highSideStuck b leg => Sys2Proof.Machine.execHighSideStuck b leg s
  | .bootstrapUndervoltage b leg on => Sys2Proof.Machine.execBootstrapUndervoltage b leg on s
  | .desaturation b leg side t => Sys2Proof.Machine.execDesaturation b leg side t s
  | .hardShort b leg side t => Sys2Proof.Machine.execHardShort b leg side t s
  | .tripInputActive t blank => Sys2Proof.Machine.execTripInputActive t blank s
  | .blankingWindowEnd t => Sys2Proof.Machine.execBlankingWindowEnd t s
  | .bridgeClear l b => Sys2Proof.Machine.execBridgeClear l b s
  | .valveClear l x => Sys2Proof.Machine.execValveClear l x s
  | .safetyOutputClear l o => Sys2Proof.Machine.execSafetyOutputClear l o s
  | .tripClear l t => Sys2Proof.Machine.execTripClear l t s
  | .valveOpenLoad v => Sys2Proof.Machine.execValveOpenLoad v s
  | .valveLowSideOvercurrent v => Sys2Proof.Machine.execValveLowSideOvercurrent v s
  | .valveMainOvercurrent v => Sys2Proof.Machine.execValveMainOvercurrent v s
  | .valveDeviation v => Sys2Proof.Machine.execValveDeviation v s
  | .safetyOutputShort o => Sys2Proof.Machine.execSafetyOutputShort o s
  | .safetyOutputOverload o => Sys2Proof.Machine.execSafetyOutputOverload o s
  | .offPulseTestStart d item => Sys2Proof.Machine.execOffPulseTestStart d item s
  | .offPulseTestEnd d pass => Sys2Proof.Machine.execOffPulseTestEnd d pass s
  | .checkerMismatch d => Sys2Proof.Machine.execCheckerMismatch d s
  | .bridgeEnable l b v => Sys2Proof.Machine.execBridgeEnable l b v s
  | .commutationEnable l b v => Sys2Proof.Machine.execCommutationEnable l b v s
  | .commutationDisable l b v => Sys2Proof.Machine.execCommutationDisable l b v s
  | .commutationTimedChange l b => Sys2Proof.Machine.execCommutationTimedChange l b s
  | .offsetCheckEnd l b => Sys2Proof.Machine.execOffsetCheckEnd l b s
  | .alignEnd l b => Sys2Proof.Machine.execAlignEnd l b s
  | .poltestDone l b => Sys2Proof.Machine.execPoltestDone l b s
  | .verifyWindowEnd l b => Sys2Proof.Machine.execVerifyWindowEnd l b s
  | .catchEnd l b => Sys2Proof.Machine.execCatchEnd l b s
  | .externalHoldDetect l b => Sys2Proof.Machine.execExternalHoldDetect l b s
  | .relockMeasureEnd l b => Sys2Proof.Machine.execRelockMeasureEnd l b s
  | .relockTimeout l b => Sys2Proof.Machine.execRelockTimeout l b s
  | .samplingInstant l b => Sys2Proof.Machine.execSamplingInstant l b s
  | .nop l w => Sys2Proof.Machine.execNop l w s
  | .endInst l w => Sys2Proof.Machine.execEndInst l w s
  | .yieldInst l w => Sys2Proof.Machine.execYieldInst l w s
  | .jmp l w => Sys2Proof.Machine.execJmp l w s
  | .brc l w => Sys2Proof.Machine.execBrc l w s
  | .loop l w => Sys2Proof.Machine.execLoop l w s
  | .lpst l w => Sys2Proof.Machine.execLpst l w s
  | .lpld l w => Sys2Proof.Machine.execLpld l w s
  | .wait l w => Sys2Proof.Machine.execWait l w s
  | .waitComplete l n => Sys2Proof.Machine.execWaitComplete l n s
  | .vld l w => Sys2Proof.Machine.execVld l w s
  | .vst l w => Sys2Proof.Machine.execVst l w s
  | .vmov l w => Sys2Proof.Machine.execVmov l w s
  | .eld l w => Sys2Proof.Machine.execEld l w s
  | .est l w => Sys2Proof.Machine.execEst l w s
  | .vset l w => Sys2Proof.Machine.execVset l w s
  | .exps l w => Sys2Proof.Machine.execExps l w s
  | .inWord l w => Sys2Proof.Machine.execInWord l w s
  | .outWord l w => Sys2Proof.Machine.execOutWord l w s
  | .vadd l w => Sys2Proof.Machine.execVadd l w s
  | .vsub l w => Sys2Proof.Machine.execVsub l w s
  | .vmul l w => Sys2Proof.Machine.execVmul l w s
  | .vdot l w => Sys2Proof.Machine.execVdot l w s
  | .macs l w => Sys2Proof.Machine.execMacs l w s
  | .stAcc l w => Sys2Proof.Machine.execStAcc l w s
  | .matvec l w => Sys2Proof.Machine.execMatvec l w s
  | .mvst l w => Sys2Proof.Machine.execMvst l w s
  | .norm l w => Sys2Proof.Machine.execNorm l w s
  | .expx l w => Sys2Proof.Machine.execExpx l w s
  | .shv l w => Sys2Proof.Machine.execShv l w s
  | .vlim l w => Sys2Proof.Machine.execVlim l w s
  | .vsel l w => Sys2Proof.Machine.execVsel l w s
  | .cmp l w => Sys2Proof.Machine.execCmp l w s
  | .enginePreempt l => Sys2Proof.Machine.execEnginePreempt l s
  | .engineEnable l v => Sys2Proof.Machine.execEngineEnable l v s
  | .engineDisable l v => Sys2Proof.Machine.execEngineDisable l v s
  | .taskConfigWrite l n v => Sys2Proof.Machine.execTaskConfigWrite l n v s
  | .programMemoryWrite l size ofs v => Sys2Proof.Machine.execProgramMemoryWrite l size ofs v s
  | .bankSwapRequest l a => Sys2Proof.Machine.execBankSwapRequest l a s
  | .regionCopyDone l a => Sys2Proof.Machine.execRegionCopyDone l a s
  | .shadowWrite l a n v => Sys2Proof.Machine.execShadowWrite l a n v s
  | .logbookEnable l a v => Sys2Proof.Machine.execLogbookEnable l a v s
  | .logbookDisable l a v => Sys2Proof.Machine.execLogbookDisable l a v s
  | .logbookSoftwareTrigger l a v => Sys2Proof.Machine.execLogbookSoftwareTrigger l a v s
  | .logbookRearm l a v => Sys2Proof.Machine.execLogbookRearm l a v s
  | .referenceEnable l v => Sys2Proof.Machine.execReferenceEnable l v s
  | .referenceReady l => Sys2Proof.Machine.execReferenceReady l s
  | .referenceFault l => Sys2Proof.Machine.execReferenceFault l s
  | .measEnable l v => Sys2Proof.Machine.execMeasEnable l v s
  | .slotEnable l x v => Sys2Proof.Machine.execSlotEnable l x v s
  | .sequenceEnable l q v => Sys2Proof.Machine.execSequenceEnable l q v s
  | .sequenceStart l v => Sys2Proof.Machine.execSequenceStart l v s
  | .sequenceGroupStart l q => Sys2Proof.Machine.execSequenceGroupStart l q s
  | .slotDelivery l x codes => Sys2Proof.Machine.execSlotDelivery l x codes s
  | .guardBandWrite l x r v => Sys2Proof.Machine.execGuardBandWrite l x r v s
  | .spotConversion l v => Sys2Proof.Machine.execSpotConversion l v s
  | .spotResult l code => Sys2Proof.Machine.execSpotResult l code s
  | .spotResultRead l m => Sys2Proof.Machine.execSpotResultRead l m s
  | .calStart l v => Sys2Proof.Machine.execCalStart l v s
  | .calCaptureDone l => Sys2Proof.Machine.execCalCaptureDone l s
  | .calCommit l v => Sys2Proof.Machine.execCalCommit l v s
  | .calStoreWriteDone l ok => Sys2Proof.Machine.execCalStoreWriteDone l ok s
  | .calAbort l v => Sys2Proof.Machine.execCalAbort l v s
  | .posEnable l v => Sys2Proof.Machine.execPosEnable l v s
  | .positionInterfaceEnable l n v => Sys2Proof.Machine.execPositionInterfaceEnable l n v s
  | .quadratureEdge l n a b => Sys2Proof.Machine.execQuadratureEdge l n a b s
  | .hallTransition l n h => Sys2Proof.Machine.execHallTransition l n h s
  | .indexEdge l n => Sys2Proof.Machine.execIndexEdge l n s
  | .sincosPair l n => Sys2Proof.Machine.execSincosPair l n s
  | .pulseRisingEdge l n high => Sys2Proof.Machine.execPulseRisingEdge l n high s
  | .pulseTimeout l n level => Sys2Proof.Machine.execPulseTimeout l n level s
  | .trackingObserverUpdate l n => Sys2Proof.Machine.execTrackingObserverUpdate l n s
  | .sentEnable l m v => Sys2Proof.Machine.execSentEnable l m v s
  | .sentFrame l m cal pulses => Sys2Proof.Machine.execSentFrame l m cal pulses s
  | .sentFrameTimeout l m => Sys2Proof.Machine.execSentFrameTimeout l m s
  | .travelEnable l v => Sys2Proof.Machine.execTravelEnable l v s
  | .travelPulse l src => Sys2Proof.Machine.execTravelPulse l src s
  | .travelStillTimeout l src => Sys2Proof.Machine.execTravelStillTimeout l src s
  | .groundSpeedEnable l v => Sys2Proof.Machine.execGroundSpeedEnable l v s
  | .portRecordReceive d l good => Sys2Proof.Machine.execPortRecordReceive d l good s
  | .portRecordVoteTimeout d port tag => Sys2Proof.Machine.execPortRecordVoteTimeout d port tag s
  | .helmNetWindowVote p tag => Sys2Proof.Machine.execHelmNetWindowVote p tag s
  | .canFrameTransmitDone d e => Sys2Proof.Machine.execCanFrameTransmitDone d e s
  | .busOffRecovery d => Sys2Proof.Machine.execBusOffRecovery d s
  | .helmNetEnable l v => Sys2Proof.Machine.execHelmNetEnable l v s
  | .helmNetDisable l v => Sys2Proof.Machine.execHelmNetDisable l v s
  | .txBufferCopy l e => Sys2Proof.Machine.execTxBufferCopy l e s
  | .transmitRequest l k => Sys2Proof.Machine.execTransmitRequest l k s
  | .bufferStatusRead l m k => Sys2Proof.Machine.execBufferStatusRead l m k s
  | .windowStart p tag busy => Sys2Proof.Machine.execWindowStart p tag busy s
  | .guardianWindow p tag opens => Sys2Proof.Machine.execGuardianWindow p tag opens s
  | .helmNetFrameReceive l p f => Sys2Proof.Machine.execHelmNetFrameReceive l p f s
  | .referenceMessageReceive l p f => Sys2Proof.Machine.execReferenceMessageReceive l p f s
  | .referenceSendTimeout l => Sys2Proof.Machine.execReferenceSendTimeout l s
  | .referenceTimeout l => Sys2Proof.Machine.execReferenceTimeout l s
  | .listenTimeout l => Sys2Proof.Machine.execListenTimeout l s
  | .coldStartSend l => Sys2Proof.Machine.execColdStartSend l s
  | .coldStartAck l => Sys2Proof.Machine.execColdStartAck l s
  | .coldStartRepeat l => Sys2Proof.Machine.execColdStartRepeat l s
  | .backoffEnd l => Sys2Proof.Machine.execBackoffEnd l s
  | .matrixCycleStart l => Sys2Proof.Machine.execMatrixCycleStart l s
  | .basicCycleStart l => Sys2Proof.Machine.execBasicCycleStart l s
  | .delayProbe l p node => Sys2Proof.Machine.execDelayProbe l p node s
  | .delayAnswer l p t2 t3 => Sys2Proof.Machine.execDelayAnswer l p t2 t3 s
  | .capabilityFrame l node mask => Sys2Proof.Machine.execCapabilityFrame l node mask s
  | .pathFailTimeout l p => Sys2Proof.Machine.execPathFailTimeout l p s
  | .isobusEnable l v => Sys2Proof.Machine.execIsobusEnable l v s
  | .addressClaimReceive l sa name => Sys2Proof.Machine.execAddressClaimReceive l sa name s
  | .addressClaimRequest l => Sys2Proof.Machine.execAddressClaimRequest l s
  | .addressClaimTimeout l => Sys2Proof.Machine.execAddressClaimTimeout l s
  | .isbTransmitRequest l k v => Sys2Proof.Machine.execIsbTransmitRequest l k v s
  | .isobusFrameReceive l f => Sys2Proof.Machine.execIsobusFrameReceive l f s
  | .svcTransmitRequest l k v => Sys2Proof.Machine.execSvcTransmitRequest l k v s
  | .svcFrameReceive l f => Sys2Proof.Machine.execSvcFrameReceive l f s
  | .versionNegotiate l v => Sys2Proof.Machine.execVersionNegotiate l v s
  | .ethernetEnable l p v => Sys2Proof.Machine.execEthernetEnable l p v s
  | .ethTxDescriptorTake l p => Sys2Proof.Machine.execEthTxDescriptorTake l p s
  | .ethTxDone p => Sys2Proof.Machine.execEthTxDone p s
  | .ethFrameReceive l p bytes good => Sys2Proof.Machine.execEthFrameReceive l p bytes good s
  | .phyAccess l p v => Sys2Proof.Machine.execPhyAccess l p v s
  | .phyAccessDone p da db dc => Sys2Proof.Machine.execPhyAccessDone p da db dc s
  | .refclkLoss l p => Sys2Proof.Machine.execRefclkLoss l p s
  | .safetyLayerEnable l v => Sys2Proof.Machine.execSafetyLayerEnable l v s
  | .sessionEnable l n v => Sys2Proof.Machine.execSessionEnable l n v s
  | .monitorEnable l v => Sys2Proof.Machine.execMonitorEnable l v s
  | .functionEnable l a v => Sys2Proof.Machine.execFunctionEnable l a v s
  | .safetyPduReceive l => Sys2Proof.Machine.execSafetyPduReceive l s
  | .hello l => Sys2Proof.Machine.execHello l s
  | .command l => Sys2Proof.Machine.execCommand l s
  | .heartbeat l => Sys2Proof.Machine.execHeartbeat l s
  | .stop l => Sys2Proof.Machine.execStop l s
  | .reset l => Sys2Proof.Machine.execReset l s
  | .query l => Sys2Proof.Machine.execQuery l s
  | .confirm l => Sys2Proof.Machine.execConfirm l s
  | .sessionExpire l n => Sys2Proof.Machine.execSessionExpire l n s
  | .controlledStopTimeout l a => Sys2Proof.Machine.execControlledStopTimeout l a s
  | .challengeExpire l => Sys2Proof.Machine.execChallengeExpire l s
  | .commissioningRecordWriteDone l ok => Sys2Proof.Machine.execCommissioningRecordWriteDone l ok s
  | .selfDiagnosisEnd l pat ecc ref clk => Sys2Proof.Machine.execSelfDiagnosisEnd l pat ecc ref clk s
  | .giveUpEnd l flash => Sys2Proof.Machine.execGiveUpEnd l flash s
  | .survivorFault l => Sys2Proof.Machine.execSurvivorFault l s
  | .crawlTimeout l => Sys2Proof.Machine.execCrawlTimeout l s
  | .steeringAxisLost l a => Sys2Proof.Machine.execSteeringAxisLost l a s
  | .standstillWaitEnd l => Sys2Proof.Machine.execStandstillWaitEnd l s
  | .lockoutRecordWriteDone l ok => Sys2Proof.Machine.execLockoutRecordWriteDone l ok s
  | .splitRequest l => Sys2Proof.Machine.execSplitRequest l s
  | .splitOffconfTimeout l => Sys2Proof.Machine.execSplitOffconfTimeout l s
  | .joinRequest l => Sys2Proof.Machine.execJoinRequest l s
  | .joinReloadDone l => Sys2Proof.Machine.execJoinReloadDone l s
  | .laneResetDone l => Sys2Proof.Machine.execLaneResetDone l s
  | .quickSoundingDone l pass => Sys2Proof.Machine.execQuickSoundingDone l pass s
  | .resyncTransferDone l => Sys2Proof.Machine.execResyncTransferDone l s
  | .resyncTimeout l => Sys2Proof.Machine.execResyncTimeout l s
  | .debugHalt => Sys2Proof.Machine.execDebugHalt s
  | .debugStep => Sys2Proof.Machine.execDebugStep s
  | .debugResume => Sys2Proof.Machine.execDebugResume s
  | .debugWrite addr v => Sys2Proof.Machine.execDebugWrite addr v s
  | .breakpointHit addr => Sys2Proof.Machine.execBreakpointHit addr s
  | .keepPowerOn => Sys2Proof.Machine.execKeepPowerOn s
  | .wakeLevel src high => Sys2Proof.Machine.execWakeLevel src high s
  | .wakeEdge src rising cycle => Sys2Proof.Machine.execWakeEdge src rising cycle s
  | .wakeUpFrame f cycle => Sys2Proof.Machine.execWakeUpFrame f cycle s
  | .resetNAssert => Sys2Proof.Machine.execResetNAssert s
  | .resetNRelease => Sys2Proof.Machine.execResetNRelease s
  | .laneFeedStart l feed ms => Sys2Proof.Machine.execLaneFeedStart l feed ms s
  | .laneFeedLoss l => Sys2Proof.Machine.execLaneFeedLoss l s
  | .driverDiePowerOn d => Sys2Proof.Machine.execDriverDiePowerOn d s
  | .dieSoundingDone d pass => Sys2Proof.Machine.execDieSoundingDone d pass s
  | .laneResetRelease l strap us => Sys2Proof.Machine.execLaneResetRelease l strap us s
  | .memoryBistDone l rows ecc us => Sys2Proof.Machine.execMemoryBistDone l rows ecc us s
  | .logicBistDone l pass cov us mac oos => Sys2Proof.Machine.execLogicBistDone l pass cov us mac oos s
  | .ringBringUpDone l lat => Sys2Proof.Machine.execRingBringUpDone l lat s
  | .imageReadDone l flash => Sys2Proof.Machine.execImageReadDone l flash s
  | .signatureVerifyDone l => Sys2Proof.Machine.execSignatureVerifyDone l s
  | .registerLoadEntry l => Sys2Proof.Machine.execRegisterLoadEntry l s
  | .registerLoadWaitEnd l => Sys2Proof.Machine.execRegisterLoadWaitEnd l s
  | .loneLaneTimeout l => Sys2Proof.Machine.execLoneLaneTimeout l s
  | .modeRequest l v => Sys2Proof.Machine.execModeRequest l v s
  | .sleepStepTimeout l => Sys2Proof.Machine.execSleepStepTimeout l s
  | .powerDown => Sys2Proof.Machine.execPowerDown s
  | .keepEntryEnd => Sys2Proof.Machine.execKeepEntryEnd s
  | .nvmGuardOn l feed => Sys2Proof.Machine.execNvmGuardOn l feed s
  | .nvmGuardOff l feed => Sys2Proof.Machine.execNvmGuardOff l feed s
  | .nvmWriteTimeout l k => Sys2Proof.Machine.execNvmWriteTimeout l k s
  | .managementLinkTimeout l => Sys2Proof.Machine.execManagementLinkTimeout l s
  | .logRecordPost l => Sys2Proof.Machine.execLogRecordPost l s
  | .replyPost l => Sys2Proof.Machine.execReplyPost l s
  | .binnacleRegisterAccess l => Sys2Proof.Machine.execBinnacleRegisterAccess l s
  | .diagnosticSegment l => Sys2Proof.Machine.execDiagnosticSegment l s
  | .sleepStepPost l => Sys2Proof.Machine.execSleepStepPost l s
  | .binnaclePostReceive l ok => Sys2Proof.Machine.execBinnaclePostReceive l ok s
  | .postMatchTimeout l => Sys2Proof.Machine.execPostMatchTimeout l s
  | .status l => Sys2Proof.Machine.execStatus l s
  | .sound l => Sys2Proof.Machine.execSound l s
  | .regval l => Sys2Proof.Machine.execRegval l s
  | .send l => Sys2Proof.Machine.execSend l s
  | .updBegin l => Sys2Proof.Machine.execUpdBegin l s
  | .updData l ok => Sys2Proof.Machine.execUpdData l ok s
  | .updEnd l => Sys2Proof.Machine.execUpdEnd l s
  | .updCommit l ok => Sys2Proof.Machine.execUpdCommit l ok s
  | .updAbort l => Sys2Proof.Machine.execUpdAbort l s
  | .keyrev l => Sys2Proof.Machine.execKeyrev l s
  | .sleepok l => Sys2Proof.Machine.execSleepok l s
  | .sleepno l => Sys2Proof.Machine.execSleepno l s
  | .requestAccept l => Sys2Proof.Machine.execRequestAccept l s
  | .requestRefuse l rcode => Sys2Proof.Machine.execRequestRefuse l rcode s
  | .requestTimeout l => Sys2Proof.Machine.execRequestTimeout l s
  | .keyRevoke l v => Sys2Proof.Machine.execKeyRevoke l v s
  | .logPageProgram ok => Sys2Proof.Machine.execLogPageProgram ok s
  | .sensorStatisticsRecord => Sys2Proof.Machine.execSensorStatisticsRecord s
  | .vibrationSummaryRecord => Sys2Proof.Machine.execVibrationSummaryRecord s
  | .diagnosticSessionControl => Sys2Proof.Machine.execDiagnosticSessionControl s
  | .readDataByIdentifier => Sys2Proof.Machine.execReadDataByIdentifier s
  | .securityAccessSeed => Sys2Proof.Machine.execSecurityAccessSeed s
  | .securityAccessKey => Sys2Proof.Machine.execSecurityAccessKey s
  | .securityDelayEnd => Sys2Proof.Machine.execSecurityDelayEnd s
  | .activateImage => Sys2Proof.Machine.execActivateImage s
  | .activateImageResults => Sys2Proof.Machine.execActivateImageResults s
  | .revokeKeySlot => Sys2Proof.Machine.execRevokeKeySlot s
  | .requestDownload => Sys2Proof.Machine.execRequestDownload s
  | .requestUpload => Sys2Proof.Machine.execRequestUpload s
  | .transferData => Sys2Proof.Machine.execTransferData s
  | .requestTransferExit => Sys2Proof.Machine.execRequestTransferExit s
  | .testerPresent => Sys2Proof.Machine.execTesterPresent s
  | .diagnosticSessionTimeout => Sys2Proof.Machine.execDiagnosticSessionTimeout s
  | .runtimeSoundingInterval => Sys2Proof.Machine.execRuntimeSoundingInterval s
  | .soundingStart l v => Sys2Proof.Machine.execSoundingStart l v s
  | .soundingAbort l v => Sys2Proof.Machine.execSoundingAbort l v s
  | .soundingSaveDone l => Sys2Proof.Machine.execSoundingSaveDone l s
  | .soundingTestDone l fails => Sys2Proof.Machine.execSoundingTestDone l fails s
  | .soundingRestoreDone l => Sys2Proof.Machine.execSoundingRestoreDone l s
  | .bypass code => Sys2Proof.Machine.execBypass code s
  | .idcode => Sys2Proof.Machine.execIdcode s
  | .samplePreload => Sys2Proof.Machine.execSamplePreload s
  | .extest => Sys2Proof.Machine.execExtest s
  | .ieee1687Network addr => Sys2Proof.Machine.execIeee1687Network addr s
  | .debugAuthenticate key => Sys2Proof.Machine.execDebugAuthenticate key s
  | .scanreq => Sys2Proof.Machine.execScanreq s
  | .rknAdmAccRead l m => Sys2Proof.Machine.execRknAdmAccRead l m s
  | .rknAdmRefRead l m => Sys2Proof.Machine.execRknAdmRefRead l m s
  | .rknTmaxRead l m n => Sys2Proof.Machine.execRknTmaxRead l m n s
  | .dlkMissRead l m d => Sys2Proof.Machine.execDlkMissRead l m d s
  | .dlkLateRead l m d => Sys2Proof.Machine.execDlkLateRead l m d s
  | .dlkCrcRead l m d => Sys2Proof.Machine.execDlkCrcRead l m d s
  | .dlkOutlRead l m d => Sys2Proof.Machine.execDlkOutlRead l m d s
  | .dlkNoagrRead l m d => Sys2Proof.Machine.execDlkNoagrRead l m d s
  | .ceUtilRead l m => Sys2Proof.Machine.execCeUtilRead l m s
  | .edgMcntRead l m b => Sys2Proof.Machine.execEdgMcntRead l m b s
  | .edgBcntRead l m b => Sys2Proof.Machine.execEdgBcntRead l m b s
  | .posErrcntRead l m n => Sys2Proof.Machine.execPosErrcntRead l m n s
  | .hnetCntRead l m => Sys2Proof.Machine.execHnetCntRead l m s
  | .hnetNoagrRead l m => Sys2Proof.Machine.execHnetNoagrRead l m s
  | .ethCntRead l m p => Sys2Proof.Machine.execEthCntRead l m p s
  | .safeCntRead l m => Sys2Proof.Machine.execSafeCntRead l m s
  | .safeSerrRead l m n => Sys2Proof.Machine.execSafeSerrRead l m n s
  | .fixFltcntRead l m => Sys2Proof.Machine.execFixFltcntRead l m s
  | .bmbCntRead l m => Sys2Proof.Machine.execBmbCntRead l m s
  | .sndCntRead l m => Sys2Proof.Machine.execSndCntRead l m s
  | .tripInputInactive t => Sys2Proof.Machine.execTripInputInactive t s
  | .managementLinkUp l => Sys2Proof.Machine.execManagementLinkUp l s
  | .refclkReturn l p => Sys2Proof.Machine.execRefclkReturn l p s
  | .startOfFrame l p own => Sys2Proof.Machine.execStartOfFrame l p own s
  | .busIdle d since => Sys2Proof.Machine.execBusIdle d since s
  | .dieTick d => Sys2Proof.Machine.execDieTick d s
  | .reckonerInterpolation l => Sys2Proof.Machine.execReckonerInterpolation l s
  | .binnacleSensorSample x => Sys2Proof.Machine.execBinnacleSensorSample x s

end Sys2Proof.Machine
end

