-- ==== Sys2Proof/Safety.lean ====
section
/-! DEFINITION. The terms in which claims speak: what a command changes and what it leaves (the frames), that a command answers a next state,
and the invariants of the device. -/

namespace Sys2Proof.Machine

/-! ### Frames of a lane -/

/-- Every register but those at the addresses listed holds what it held. -/
def Lane.RegsBut (rs : List Nat) (L M : Lane) : Prop := ∀ r : Reg, r.addr ∉ rs → M.rd r = L.rd r
/-- Every register outside the block windows listed (R39; a window by the upper 16 bits of its addresses) holds what it held. -/
def Lane.RegsOutside (ws : List Nat) (L M : Lane) : Prop := ∀ r : Reg, r.addr / 0x10000 ∉ ws → M.rd r = L.rd r
/-- Every byte of memory and of flash reads as before. -/
def Lane.BytesSame (L M : Lane) : Prop := (∀ a, M.byte a = L.byte a) ∧ ∀ a, M.flashByte a = L.flashByte a
/-- Only the registers listed have changed, and no byte. -/
def Lane.Frame (rs : List Nat) (L M : Lane) : Prop := Lane.RegsBut rs L M ∧ Lane.BytesSame L M
/-- Only registers of the blocks listed have changed, and no byte. -/
def Lane.BlockFrame (ws : List Nat) (L M : Lane) : Prop := Lane.RegsOutside ws L M ∧ Lane.BytesSame L M

/-- The value of a register after a write of `v` that stores the bits of `mask`. -/
def Lane.taken (L : Lane) (r : Reg) (mask v : Word) : Word := (L.rd r &&& ~~~mask) ||| (v &&& mask)
/-- A flag is set and a cause shown beside it. -/
def Lane.shows (L : Lane) (r : Reg) (flag cause : Bf) (n : Nat) : Prop := L.on r flag = true ∧ L.fld r cause = n

/-! ### Frames of the device -/

/-- A die as it was, but for packets and port records that a lane has put on its links. -/
def Die.LinksOnly (d e : Die) : Prop := ∃ p q, e = { d with tx := d.tx ++ p, ptx := d.ptx ++ q }
/-- Everything outside the lanes stands, but for what lanes have put on the links to the driver dies. -/
def State.LanesOnly (s t : State) : Prop :=
  t.bin = s.bin ∧ t.keep = s.keep ∧ t.dbgq = s.dbgq ∧ t.pending = s.pending
    ∧ s.d0.LinksOnly t.d0 ∧ s.d1.LinksOnly t.d1 ∧ s.d2.LinksOnly t.d2 ∧ s.d3.LinksOnly t.d3
/-- Everything outside lane `l` stands, but for what it has put on its links to the driver dies. -/
def State.LaneOnly (l : LaneId) (s t : State) : Prop := s.LanesOnly t ∧ ∀ k, k ≠ l → t.lane k = s.lane k
/-- Everything of a die outside one bridge, one valve channel, one safety output or one trip input stands, but for an off-pulse test whose
output is no longer on (R331). -/
def Die.BrOnly (i : Nat) (d e : Die) : Prop := e = (d.setBr i (e.br i)).dropTest
def Die.VlOnly (i : Nat) (d e : Die) : Prop := e = Die.dropTest { d with vl := d.vl.set i (e.vl.at i) }
def Die.SoOnly (i : Nat) (d e : Die) : Prop := e = Die.dropTest { d with so := d.so.set i (e.so.at i) }
def Die.TrOnly (i : Nat) (d e : Die) : Prop := e = Die.dropTest { d with tr := d.tr.set i (e.tr.at i) }
/-- Between commands a lane holds nothing that it has not put on its links. -/
def State.Clean (s : State) : Prop := ∀ k, (s.lane k).outP = [] ∧ (s.lane k).outR = []
/-- Everything outside driver die `n` stands. -/
def State.DieOnly (n : Nat) (s t : State) : Prop := t = s.setDie n (t.die n)
/-- Everything outside the Binnacle stands. -/
def State.BinOnly (s t : State) : Prop := t = { s with bin := t.bin }

/-! ### Completion -/

/-- The command answers a next state that stands in the relation `Q` to the present one. -/
def Runs (i : Instr) (s : State) (Q : State → Prop) : Prop := ∃ t, exec i s = .next t ∧ Q t
/-- The command answers a next state; nothing outside lane `l` changes, and the lane before and after stand in the relation `Q`. -/
def RunsLane (i : Instr) (s : State) (l : LaneId) (Q : Lane → Lane → Prop) : Prop :=
  Runs i s fun t => s.LaneOnly l t ∧ Q (s.lane l) (t.lane l)
/-- The command answers a next state; nothing outside driver die `n` changes, and the die before and after stand in the relation `Q`. -/
def RunsDie (i : Instr) (s : State) (n : Nat) (Q : Die → Die → Prop) : Prop :=
  Runs i s fun t => s.DieOnly n t ∧ Q (s.die n) (t.die n)

/-- The command takes the first record for lane `l` on die `n`'s return links that `p` accepts; with none it changes nothing. Nothing outside that record, the lane and its links changes, and the lane before
and after stand in the relation `Q` with what the record holds. -/
def RunsRet {α : Type} (i : Instr) (s : State) (l : LaneId) (n : Nat) (p : Ret → Option α) (Q : α → Lane → Lane → Prop) : Prop :=
  ((∀ e ∈ (s.die n).ret, e.1 = l.num → p e.2 = none) → exec i s = .next s)
    ∧ ∀ x, ((s.die n).ret.find? fun e => decide (e.1 = l.num) && (p e.2).isSome).bind (fun e => p e.2) = some x →
      Runs i s fun t => (s.setDie n { s.die n with ret := (s.die n).ret.eraseP fun e => decide (e.1 = l.num) && (p e.2).isSome }).LaneOnly l t ∧ Q x (s.lane l) (t.lane l)

/-! ### Conditions of a register write -/

/-- No disable of Helm Net waits in any lane (R48, R430), so that a register write reaches its own lane alone. -/
def State.Quiet (s : State) : Prop := ∀ k, (s.lane k).hn.closing = false
/-- The lane's safety lock is not set (R21). -/
def Lane.Unlocked (L : Lane) : Prop := L.on R.IMG_LOCK_STAT F.IMG_LOCK_STAT_LOCKED = false

/-! ### The engine -/

/-- The engine of lane `L` issues the word `w` in this tick (R158 to R165, R177, R180, R185): in cycle `c`, with the results that land until then landed and an instance taken up,
which is the lane `P`, the instance `i` runs, stands at `w` in program memory, is not past its deadline and gives way to no other. -/
def Lane.Fetches (L : Lane) (w : BitVec 64) (P : Lane) (i : Inst) (c : Nat) : Prop :=
  L.cycleNow L.eng.next = some c ∧ P = (L.landTo c).engPick ∧ P.eng.run = some i.task ∧ P.instOf i.task = some i ∧ P.engPreempts c = none
    ∧ L.on R.FIX_DBG F.FIX_DBG_HALTED = false ∧ i.pc < 8192 ∧ P.progWord i.pc = w ∧ P.ticks ≤ i.trig + P.fld (R.RKN_TDL i.task) F.RKN_TDL_DL
/-- The word is issued without a fault of fetch or of decoding (R159, R182, R185). -/
def Lane.Issues (L : Lane) (w : BitVec 64) (P : Lane) (i : Inst) (c : Nat) : Prop :=
  L.Fetches w P i c ∧ P.pmPar.at i.pc = false ∧ insIll w = false
/-- No hardware loop of the instance's level ends at its program counter, and no delay slot is left (R165, R171). -/
def Lane.Straight (P : Lane) (i : Inst) : Prop :=
  i.slots = 0 ∧ ∀ k, k < 2 → P.lpOn k i.level = true → P.lpa k F.CE_LPA_LE ≠ i.pc
/-- The instruction has been issued in cycle `c`: the cycle counts, the next issue comes a cycle later, and outside the loops no other register has changed since the issue. -/
def Lane.Issued (P M : Lane) (c : Nat) : Prop :=
  M.eng.next = c + 1 ∧ Lane.Frame [R.CE_UTIL.addr, (R.CE_LPC 0).addr, (R.CE_LPC 1).addr, (R.CE_LPA 0).addr, (R.CE_LPA 1).addr] P M
    ∧ M.rd R.CE_UTIL = w32 (min (2 ^ 32 - 1) ((P.rd R.CE_UTIL).toNat + 1))
/-- The instance goes on at an address. -/
def Lane.GoesOn (M : Lane) (i : Inst) (pc : Nat) : Prop := ∃ j, M.instOf i.task = some j ∧ j.pc = pc

/-! ### Invariants -/

/-- Memory and flash have their canonical form: addresses rise strictly and no entry equals what an unlisted address reads as. -/
def Lane.canonical (L : Lane) : Bool := Tab.canon L.mem 0#8 && Tab.canon L.flash 0xFF#8
/-- The stores of the device have their canonical form. -/
def State.Canonical (s : State) : Prop := (∀ l, (s.lane l).canonical = true) ∧ Tab.canon s.bin.flash 0xFF#8 = true
/-- Every lane stands at its own place on the ring (R25). -/
def State.Placed (s : State) : Prop := ∀ l, (s.lane l).me = l.num

end Sys2Proof.Machine
end

