-- ==== Sys2Proof/Certificates/Slice0/Obligations.lean ====
section
/-! DEFINITION. The statements for the provers. -/

open Sys2Proof Sys2Proof.Machine

/-! ### The queue of commands -/

/-- A step takes the command at the front of the queue and runs it on the state with the rest of the queue. -/
def Obligations.StepRunsFront : Prop :=
  ∀ (c : Instr) (q : List Instr) (s : State), step { s with pending := c :: q } = exec c { s with pending := q }

/-- On an empty queue the device idles. This is the model's choice (log entry 5).
Every command of the table answers a next state, from every state, and none reaches into the queue of those that wait (the queue is the model's,
log entry 5). -/
def Obligations.StepIdlesAndKeepsQueue : Prop :=
  (∀ s : State, s.pending = [] → step s = .next s)
  ∧ (∀ (i : Instr) (s : State), ∃ t, exec i s = .next t ∧ t.pending = s.pending)

/-! ### Registers and the bus -/

/-- A word written to a register of the IRQ block stores its writable bits, reserved bits staying 0, and changes nothing else.
An aligned word written to data RAM lies there, least significant byte first, and every other byte and every register keeps. -/
def Obligations.WritesStore : Prop :=
  (∀ (s : State) (l : LaneId) (v : Word), s.Quiet →
      RunsLane (.registerWrite l .word (w32 R.IRQ_THRESH.addr) v) s l (fun L M => M.rd R.IRQ_THRESH = (L.rd R.IRQ_THRESH &&& ~~~0xF#32) ||| (v &&& 0xF#32) ∧ M.busErr = false ∧ Lane.Frame [R.IRQ_THRESH.addr] L M)
      ∧ (∀ n : Fin 8, RunsLane (.registerWrite l .word (w32 (R.IRQ_EN n).addr) v) s l fun L M =>
          (n ≠ 0 → M.rd (R.IRQ_EN n) = v) ∧ (∀ k, k < 32 → n = 0 → bitOf (M.rd (R.IRQ_EN n)) k = if k = 0 then bitOf (L.rd (R.IRQ_EN n)) k else bitOf v k)
            ∧ M.busErr = false ∧ Lane.Frame [(R.IRQ_EN n).addr] L M)
      ∧ ∀ n : Fin 32, RunsLane (.registerWrite l .word (w32 (R.IRQ_LVL n).addr) v) s l fun L M =>
          (∀ k, k < 256 → n.val = k / 8 → k ≠ 0 → M.irqLevel k = (v.toNat >>> (4 * (k % 8))) % 16) ∧ M.busErr = false ∧ M.inSvc = L.inSvc
            ∧ (∀ k, k < 16 → bitOf (M.rd R.IRQ_INSVC) k = M.inSvc.any fun x => decide (M.irqLevel x = k)) ∧ Lane.Frame [(R.IRQ_LVL n).addr, R.IRQ_INSVC.addr] L M)
  ∧ (∀ (s : State) (l : LaneId) (a : Nat) (v : Word), s.Quiet → 0x20000000 ≤ a → a + 4 ≤ 0x20100000 → a % 4 = 0 → (s.lane l).bankOut a = false →
      RunsLane (.registerWrite l .word (w32 a) v) s l fun L M =>
        (∀ i, i < 4 → M.byte (a + i) = byteOf v.toNat i) ∧ (∀ c, c < a ∨ a + 4 ≤ c → M.byte c = L.byte c) ∧ (∀ c, M.flashByte c = L.flashByte c)
          ∧ Lane.RegsBut [] L M ∧ M.busErr = false ∧ M.rdata = L.rdata)

/-- An access to an address at which no register is listed, and one of a byte or a half-word to a register, is not performed: a write changes nothing, a read returns 0, and both raise a bus error (R14, R15).
A write to an RWL register after the safety lock changes nothing, sets VIOL and records the address, the first until VIOL is cleared (R21). Said of every register
of the map whose writable bits are RWL (all of them but ISB_NEG), and of the commands that write one to enable or disable something. -/
def Obligations.AccessesRefused : Prop :=
  (∀ (s : State) (l : LaneId) (sz : AccSize) (a v : Word), s.Quiet → 0x40000000 ≤ a.toNat → (regRow a.toNat = none ∨ sz ≠ .word) →
      RunsLane (.registerWrite l sz a v) s l (fun L M => M.busErr = true ∧ M.busAddr = a.toNat ∧ M.rdata = 0 ∧ Lane.Frame [] L M)
        ∧ ∀ (L : Lane) (m : Master), (L.busRead m sz a.toNat).rdata = 0 ∧ (L.busRead m sz a.toNat).busErr = true ∧ Lane.Frame [] L (L.busRead m sz a.toNat))
  ∧ (∀ (s : State) (l : LaneId) (i : Instr) (r : Reg) (v : Word), s.Quiet → (s.lane l).on R.IMG_LOCK_STAT F.IMG_LOCK_STAT_LOCKED = true → (s.lane l).small = false →
      ((∃ row, i = .registerWrite l .word (w32 r.addr) v ∧ r.addr < 2 ^ 32 ∧ regRow r.addr = some row ∧ row.rwl ≠ 0 ∧ row.rw = 0)
        ∨ (∃ a : Fin 12, i = .axisEnable l a v ∧ r = R.AX_CFG a) ∨ (∃ a : Fin 12, i = .axisDisable l a v ∧ r = R.AX_CFG a) ∨ (i = .fixEnable l v ∧ r = R.FIX_CTRL)
        ∨ (∃ b : Fin 8, i = .bridgeEnable l b v ∧ r = R.EDG_BCFG b) ∨ (∃ b : Fin 8, i = .commutationEnable l b v ∧ r = R.EDG_MCTL b)
        ∨ (∃ b : Fin 8, i = .commutationDisable l b v ∧ r = R.EDG_MCTL b) ∨ (∃ n : Fin 64, i = .taskConfigWrite l n v ∧ r = R.CE_TASK n)
        ∨ (∃ n : Fin 64, i = .slotEnable l n v ∧ r = R.MEAS_SLCFG n) ∨ (∃ q : Fin 16, i = .sequenceEnable l q v ∧ r = R.MEAS_SQCFG q)
        ∨ (∃ n : Fin 64, i = .guardBandWrite l n 0 v ∧ r = R.MEAS_GBHI n) ∨ (∃ n : Fin 8, i = .positionInterfaceEnable l n v ∧ r = R.POS_CFG n)
        ∨ (∃ m : Fin 8, i = .sentEnable l m v ∧ r = R.SENT_CFG m) ∨ (i = .travelEnable l v ∧ r = R.POS_TRCFG) ∨ (i = .safetyLayerEnable l v ∧ r = R.SAFE_CTRL)
        ∨ (∃ n : Fin 128, n ≠ 0 ∧ i = .sessionEnable l n v ∧ r = R.SAFE_SCFG n) ∨ (i = .monitorEnable l v ∧ r = R.SFN_CTRL)
        ∨ ∃ a : Fin 12, i = .functionEnable l a v ∧ r = R.SFN_ACFG a) →
      RunsLane i s l fun L M => M.on R.IMG_LOCK_STAT F.IMG_LOCK_STAT_VIOL = true
        ∧ M.rd R.IMG_LOCK_ADDR = (if L.on R.IMG_LOCK_STAT F.IMG_LOCK_STAT_VIOL then L.rd R.IMG_LOCK_ADDR else w32 r.addr)
        ∧ Lane.Frame [R.IMG_LOCK_STAT.addr, R.IMG_LOCK_ADDR.addr] L M)

/-- The registers whose reads by the lane processor clear them, with the bits that clear (R17). -/
def clearedBy : Instr → Option (LaneId × Master × Reg × Word)
  | .rknAdmAccRead l m => some (l, m, R.RKN_ADM_ACC, 0xFFFFFFFF)
  | .rknAdmRefRead l m => some (l, m, R.RKN_ADM_REF, 0xFFFFFFFF)
  | .rknTmaxRead l m n => some (l, m, R.RKN_TMAX n, 0xFFFFFF)
  | .dlkMissRead l m d => some (l, m, R.DLK_MISS d, 0xFFFFFF)
  | .dlkLateRead l m d => some (l, m, R.DLK_LATE d, 0xFFFFFF)
  | .dlkCrcRead l m d => some (l, m, R.DLK_CRC d, 0xFFFFFF)
  | .dlkOutlRead l m d => some (l, m, R.DLK_OUTL d, 0xFFFFFF)
  | .dlkNoagrRead l m d => some (l, m, R.DLK_NOAGR d, 0xFFFF)
  | .ceUtilRead l m => some (l, m, R.CE_UTIL, 0xFFFFFFFF)
  | .edgMcntRead l m b => some (l, m, R.EDG_MCNT b, 0xFFFFFFFF)
  | .edgBcntRead l m b => some (l, m, R.EDG_BCNT b, 0xFFFFFFFF)
  | .posErrcntRead l m n => some (l, m, R.POS_ERRCNT n, 0xFFFFFFFF)
  | .hnetCntRead l m => some (l, m, R.HNET_CNT, 0xFFFFFFFF)
  | .hnetNoagrRead l m => some (l, m, R.HNET_NOAGR, 0xFFFFFFFF)
  | .ethCntRead l m p => some (l, m, R.ETH_CNT p, 0xFFFFFFFF)
  | .safeCntRead l m => some (l, m, R.SAFE_CNT, 0xFFFFFFFF)
  | .safeSerrRead l m n => if n = 0 then none else some (l, m, R.SAFE_SERR n, 0xFFFFFFFF)
  | .fixFltcntRead l m => some (l, m, R.FIX_FLTCNT, 0xFFFF)
  | .bmbCntRead l m => some (l, m, R.BMB_CNT, 0xFFFFFFFF)
  | .sndCntRead l m => some (l, m, R.SND_CNT, 0xFFFFFFFF)
  | _ => none

/-- A read of such a register returns what it holds; one by the lane processor clears its counts, one by the debugger clears nothing, and where the debugger does not
reach the lane nothing is read (R139).
Reads with effects of their own: the next agreed decision word leaves its queue, a spot result is returned and cleared, and the status of a
receive buffer latches the buffer's contents. A read by the debugger over an open link to Lane A changes none of these, and one
that does not reach the lane reads nothing. -/
def Obligations.ReadsWithEffects : Prop :=
  (∀ (i : Instr) (s : State) (l : LaneId) (m : Master) (r : Reg) (rc : Word), clearedBy i = some (l, m, r, rc) → (s.lane l).small = false →
      (s.reaches l m = false → exec i s = .next s) ∧ (s.reaches l m = true → RunsLane i s l fun L M => M.rdata = L.rd r ∧ M.busErr = false ∧ Lane.Frame [r.addr] L M
        ∧ M.rd r = (match m with | .processor => L.rd r &&& ~~~rc | .debugger => L.rd r)))
  ∧ (∀ (s : State) (l : LaneId),
      RunsLane (.decisionRead l .processor) s l (fun L M => M.rdata = L.ck.agreed.headD 0 ∧ M.ck = { L.ck with agreed := L.ck.agreed.drop 1 } ∧ Lane.Frame [] L M)
      ∧ (s.reaches l .debugger = true →
          RunsLane (.decisionRead l .debugger) s l fun L M => M.rdata = L.ck.agreed.headD 0 ∧ M.ck = L.ck ∧ Lane.Frame [] L M)
      ∧ ((s.lane l).meas.spotTick ≠ (s.lane l).ticks + 1 →
          RunsLane (.spotResultRead l .processor) s l fun L M => M.rdata = L.rd R.MEAS_SPOT_RES ∧ M.rd R.MEAS_SPOT_RES = 0 ∧ Lane.Frame [R.MEAS_SPOT_RES.addr] L M)
      ∧ ((s.lane l).meas.spotTick = (s.lane l).ticks + 1 →
          RunsLane (.spotResultRead l .processor) s l fun L M => M.rdata = L.meas.spotOld ∧ M.rd R.MEAS_SPOT_RES = L.rd R.MEAS_SPOT_RES
            ∧ (L.meas.spotOvr = true → M.on R.MEAS_STAT F.MEAS_STAT_SPOVR = false) ∧ Lane.Frame [R.MEAS_STAT.addr] L M)
      ∧ (s.reaches l .debugger = true → RunsLane (.spotResultRead l .debugger) s l fun L M => M.meas = L.meas ∧ Lane.Frame [] L M)
      ∧ ∀ k : Fin 64, RunsLane (.bufferStatusRead l .processor k) s l (fun L M => M.rdata = L.rd (R.HNET_BST k) ∧ Lane.Frame [] L M
            ∧ (L.on (R.HNET_BCFG k) F.HNET_BCFG_DIR = false → M.hn.latched.at k = true
                ∧ M.hn.view.at k = if L.hn.rxAt.at k = L.ticks + 1 then L.hn.rxOld.at k else L.bufView k)
            ∧ (L.on (R.HNET_BCFG k) F.HNET_BCFG_DIR = true → M.hn = L.hn))
          ∧ (s.reaches l .debugger = true →
              RunsLane (.bufferStatusRead l .debugger k) s l fun L M => M.rdata = L.rd (R.HNET_BST k) ∧ M.hn = L.hn ∧ Lane.Frame [] L M)
      ∧ (s.reaches l .debugger = false → ∀ i, i = .decisionRead l .debugger ∨ i = .spotResultRead l .debugger ∨ i = .irqClaim l .debugger
          ∨ (∃ k, i = .bufferStatusRead l .debugger k) → exec i s = .next s))

/-! ### Interrupts -/

/-- Of the sources pending at the start of the tick and deliverable, a claim takes the one with the highest level, and among equal levels the lowest
number.
A claim by the lane processor returns the source and puts its level in service, or returns 0 and changes nothing; a read by the debugger returns
the same and claims nothing.
A completion clears the level of a source in service; one that names another source sets CERR alone. -/
def Obligations.InterruptClaims : Prop :=
  (∀ L : Lane, L.irqPrev.Pairwise (· < ·) → (∀ n ∈ L.irqPrev, n ≠ 0) →
      (L.claim = 0 → ∀ n ∈ L.irqPrev, L.deliverable n = false)
      ∧ (L.claim ≠ 0 → L.claim ∈ L.irqPrev ∧ L.deliverable L.claim = true
          ∧ ∀ n ∈ L.irqPrev, L.deliverable n = true → L.irqLevel n < L.irqLevel L.claim ∨ (L.irqLevel n = L.irqLevel L.claim ∧ L.claim ≤ n)))
  ∧ (∀ (s : State) (l : LaneId),
      RunsLane (.irqClaim l .processor) s l (fun L M => M.rdata = w32 L.claim ∧ M.busErr = false
        ∧ (L.claim = 0 → M.inSvc = L.inSvc ∧ Lane.Frame [] L M)
        ∧ (L.claim ≠ 0 → M.inSvc = L.claim :: L.inSvc ∧ M.rd R.IRQ_INSVC = (L.rd R.IRQ_INSVC ||| w32 (2 ^ L.irqLevel L.claim)) ∧ Lane.Frame [R.IRQ_INSVC.addr] L M))
      ∧ (s.reaches l .debugger = true → RunsLane (.irqClaim l .debugger) s l fun L M => M.rdata = w32 L.claim ∧ M.inSvc = L.inSvc ∧ Lane.Frame [] L M))
  ∧ (∀ (s : State) (l : LaneId) (v : Word), s.Quiet →
      RunsLane (.irqComplete l v) s l fun L M =>
        let n := F.IRQ_COMPLETE_SRC.get v
        (n ∈ L.inSvc → M.rd R.IRQ_INSVC = (L.rd R.IRQ_INSVC &&& ~~~(w32 (2 ^ L.irqLevel n))) ∧ M.inSvc = L.inSvc.erase n ∧ Lane.Frame [R.IRQ_INSVC.addr] L M)
          ∧ (n ∉ L.inSvc → M.on R.IRQ_CTRL F.IRQ_CTRL_CERR = true ∧ M.inSvc = L.inSvc ∧ Lane.Frame [R.IRQ_CTRL.addr] L M))

/-! ### Axes, reckoners, waypoints -/

/-- Enabling an inactive axis stores AX_CFG and makes the binding and chart checks: an axis that fails shows the causes and does not wait for
activation; one that passes waits.
Clearing EN ends a wait for activation, ends an axis without a sample in progress at once, and lets a sample in progress finish first. -/
def Obligations.AxisEnableAndDisable : Prop :=
  (∀ (s : State) (l : LaneId) (a : Fin 12) (v : Word), s.Quiet → (s.lane l).Unlocked → (s.lane l).axActive a = false →
      (s.lane l).on (R.AX_CFG a) F.AX_CFG_EN = false →
      let N := (s.lane l).wr (R.AX_CFG a) ((s.lane l).taken (R.AX_CFG a) 0x71 (F.AX_CFG_EN.set v 1))
      let c := lowCause (N.axCauses a)
      let ch := N.chCause a
      RunsLane (.axisEnable l a v) s l fun L M => M.rd (R.AX_CFG a) = N.rd (R.AX_CFG a)
        ∧ (c ≠ 0 → M.shows (R.AX_STAT a) F.AX_STAT_BIND_ERR F.AX_STAT_CAUSE c) ∧ (ch ≠ 0 → M.shows (R.AX_CHST a) F.AX_CHST_CHERR F.AX_CHST_CHCAUSE ch)
        ∧ (c ≠ 0 ∨ ch ≠ 0 → M.ax = L.ax ∧ Lane.Frame [(R.AX_CFG a).addr, (R.AX_STAT a).addr, (R.AX_CHST a).addr] L M)
        ∧ (c = 0 → ch = 0 → (M.ax.at a).waiting = true ∧ M.axActive a = false))
  ∧ (∀ (s : State) (l : LaneId) (a : Fin 12) (v : Word), s.Quiet → (s.lane l).Unlocked → (s.lane l).on (R.AX_CFG a) F.AX_CFG_EN = true →
      ((s.lane l).rd (R.AX_CFG a) ^^^ F.AX_CFG_EN.set v 0) &&& 0x71#32 = 1#32 →
      RunsLane (.axisDisable l a v) s l fun L M => M.on (R.AX_CFG a) F.AX_CFG_EN = false
        ∧ (L.axActive a = false → (M.ax.at a).waiting = false ∧ M.axActive a = false ∧ (∀ b, b < 12 → b ≠ a → M.ax.at b = L.ax.at b)
            ∧ Lane.Frame [(R.AX_CFG a).addr, (R.AX_STAT a).addr, (R.AX_BANK a).addr] L M)
        ∧ (L.axActive a = true → L.axRunning a = true → (M.ax.at a).disabling = true ∧ M.axActive a = true ∧ Lane.Frame [(R.AX_CFG a).addr, (R.AX_STAT a).addr] L M)
        ∧ (L.axActive a = true → L.axRunning a = false → M.axActive a = false
            ∧ Lane.Frame [(R.AX_CFG a).addr, (R.AX_STAT a).addr, (R.AX_BANK a).addr, R.RKN_ADM_STAT.addr] L M))

/-- RKN_CTRL: enabling with no waypoint armed makes the unit active; disabling ends with the tick; SNAP takes all sixteen reckoners in one tick.
A tick in which a reckoner unit's disable waits makes it inactive; with EN set again meanwhile it starts afresh.
A tick advances the chronometer by one, and global time by one once ring bring-up has started it, with one step more or less where a slew is due; a mechanical reckoner takes a new estimate of its axis's source, goes on at its rate where the estimate is the last one taken, stands still where the source is
not valid, and holds without an axis; a
travelled path never moves down. -/
def Obligations.ReckonersAdvance : Prop :=
  (∀ (s : State) (l : LaneId) (v : Word), s.Quiet →
      ((s.lane l).on R.RKN_CTRL F.RKN_CTRL_EN = false → (s.lane l).wpUnit = false → F.RKN_CTRL_SNAP.on v = false →
        (∀ w, w < 128 → (s.lane l).wpArmed w = false) →
        RunsLane (.rknEnable l v) s l fun L M => M.on R.RKN_CTRL F.RKN_CTRL_EN = true ∧ M.wpUnit = true ∧ Lane.Frame [R.RKN_CTRL.addr] L M)
      ∧ ((s.lane l).on R.RKN_CTRL F.RKN_CTRL_EN = true → (s.lane l).wpUnit = true → F.RKN_CTRL_SNAP.on v = false →
        RunsLane (.rknDisable l v) s l fun L M => M.on R.RKN_CTRL F.RKN_CTRL_EN = false ∧ M.wpUnit = true ∧ M.rknClosing = true ∧ Lane.Frame [R.RKN_CTRL.addr] L M)
      ∧ (F.RKN_CTRL_EN.on v = (s.lane l).on R.RKN_CTRL F.RKN_CTRL_EN →
        RunsLane (.snap l v) s l fun L M => (∀ r, r < 16 → M.rd (R.RKN_SNAP r) = L.rknVal r)
          ∧ Lane.Frame (R.RKN_CTRL.addr :: (List.range 16).map fun r => (R.RKN_SNAP r).addr) L M))
  ∧ (∀ L : Lane, L.rknClosing = true → ((∀ w, w < 128 → L.wpArmed w = false) ∨ L.on R.RKN_CTRL F.RKN_CTRL_EN = false) →
      L.rknSettle.wpUnit = L.on R.RKN_CTRL F.RKN_CTRL_EN ∧ L.rknSettle.rknClosing = false
      ∧ Lane.Frame [R.RKN_CTRL.addr] L L.rknSettle)
  ∧ (∀ (s : State) (l : LaneId), RunsLane (.reckonerInterpolation l) s l fun L M =>
      let slew := if L.on R.RKN_GT F.RKN_GT_GT_VALID then L.slewHelm + L.slewLane else 0
      M.ticks = L.ticks + 1 ∧ (L.pw.ring = false → M.gt = L.gt) ∧ (L.pw.ring = true → slew = 0 ∨ L.slewWait < 1999 → M.gt = L.gt + 1)
        ∧ (L.pw.ring = true → 1999 ≤ L.slewWait → 0 < slew → M.gt = L.gt + 2 ∧ M.slewHelm + M.slewLane = slew - 1)
        ∧ (L.pw.ring = true → 1999 ≤ L.slewWait → slew < 0 → M.gt = L.gt ∧ M.slewHelm + M.slewLane = slew + 1)
        ∧ L.trav.pos12 ≤ M.trav.pos12 ∧ L.trav.pos15 ≤ M.trav.pos15
        ∧ ∀ r, 8 ≤ r → r < 12 → (L.rknAxis r = none → M.rkn.at r = L.rkn.at r)
            ∧ ∀ a, L.rknAxis r = some a → ∀ ang rate valid, L.axisAngle a = (ang, rate, valid) →
                (valid = false → M.rkn.at r = L.rkn.at r ∧ M.rate.at r = 0)
                ∧ (valid = true → L.est.at r ≠ L.axisEst a → M.rkn.at r = ang ∧ M.rate.at r = rate)
                ∧ (valid = true → L.est.at r = L.axisEst a → M.rkn.at r = L.rkn.at r + wInt (((L.frac.at r : Int) + L.rate.at r).fdiv 256)))

/-- What a firing of the unpaired waypoint `w` without an action of its own leaves (R67, R75, R76, R81): `N` is the lane before it, `back` the waypoint's
direction, and `late` says that it fires late. -/
def firesAs (N M : Lane) (w : Nat) (back late : Bool) : Prop :=
  let step := N.rd (R.RKN_WP_STEP w)
  let cmp := N.rd (R.RKN_WP_CMP w)
  let next := if back then cmp - step else cmp + step
  let d := (N.rknVal (N.wpRkn w) - next).toInt
  let behind := if back then -d else d
  let k := if N.wpRepeat w = true ∧ 0 ≤ behind then furtherSteps behind.toNat step.toNat else 0
  let strict := F.RKN_WP_CFG_STRICT.on (N.wpCfg w)
  M.on (R.RKN_WP_STAT w) F.RKN_WP_STAT_FIRED = true
    ∧ M.fld (R.RKN_WP_STAT w) F.RKN_WP_STAT_COUNT = (N.fld (R.RKN_WP_STAT w) F.RKN_WP_STAT_COUNT + 1) % 65536
    ∧ (N.wpRepeat w = false → M.rd (R.RKN_WP_CMP w) = cmp)
    ∧ (N.wpRepeat w = true → M.rd (R.RKN_WP_CMP w) = (if back then next - w32 k * step else next + w32 k * step)
        ∧ M.fld (R.RKN_WP_STAT w) F.RKN_WP_STAT_SKIP = min 255 k)
    ∧ (late = true ∨ 0 < k → M.on (R.RKN_WP_STAT w) F.RKN_WP_STAT_LATE = true ∧ (strict = true → M.on R.RKN_FAULT F.RKN_FAULT_STRICTF = true))
    ∧ (late = false → k = 0 → M.on (R.RKN_WP_STAT w) F.RKN_WP_STAT_LATE = N.on (R.RKN_WP_STAT w) F.RKN_WP_STAT_LATE)
    ∧ (strict = false ∨ (late = false ∧ k = 0) → Lane.Frame [(R.RKN_WP_STAT w).addr, (R.RKN_WP_CMP w).addr] N M)

/-- Actions that do nothing but what every firing does: none, and the interrupt, whose source reads FIRED (R71, R90). -/
def quietAction (L : Lane) (w : Nat) : Prop := F.RKN_WP_CFG_ACTION.get (L.wpCfg w) = 0 ∨ F.RKN_WP_CFG_ACTION.get (L.wpCfg w) = 5
/-- The direction that waypoint `w` takes at an arming (R66). -/
def armDir (N : Lane) (w : Nat) : Bool :=
  decide (F.RKN_WP_CFG_DIR.get (N.wpCfg w) = 1) || (decide (F.RKN_WP_CFG_DIR.get (N.wpCfg w) = 2) && bitOf (N.rd R.RKN_STAT) (N.wpRkn w))
/-- A waypoint armed in the lane `N` is to fire at once (R68): the unit is active, the lanes are not halted, and the compare value does not lie ahead. -/
def armReached (N : Lane) (w : Nat) : Prop :=
  N.wpUnit = true ∧ N.on R.FIX_DBG F.FIX_DBG_HALTED = false ∧ if armDir N w then N.wpD w ≤ 0 else 0 ≤ N.wpD w

/-- What a new arming of waypoint `w` leaves, `N` being the lane with the register written (R66, R68, R69, R71, R77, R78): a wrong configuration is refused; an
unpaired waypoint waits or fires; one of a pair waits for the other, and a pair that does not repeat is refused. -/
def armsAs (N M : Lane) (w : Nat) : Prop :=
  (N.wpBad w = true → M.wpArmed w = false ∧ M.on (R.RKN_WP_STAT w) F.RKN_WP_STAT_CFG_ERR = true ∧ Lane.Frame [(R.RKN_WP_STAT w).addr] N M)
  ∧ (N.wpBad w = false → N.wpPair w = none →
      (¬armReached N w → M.wpArmed w = true ∧ M.wpBack w = armDir N w ∧ Lane.Frame [(R.RKN_WP_STAT w).addr] N M)
      ∧ (armReached N w → quietAction N w → firesAs N M w (armDir N w) (decide (N.wpD w ≠ 0)) ∧ M.wpArmed w = N.wpRepeat w))
  ∧ (N.wpBad w = false → ∀ k, N.wpPair w = some k →
      (N.wpArmed (wpOther w) = false → M.wpArmed w = true ∧ M.wpBack w = armDir N w ∧ Lane.Frame [(R.RKN_WP_STAT w).addr] N M)
      ∧ (N.wpArmed (wpOther w) = true → (N.wpRepeat k && N.wpRepeat (k + 1)) = false → M.wpArmed k = false ∧ M.wpArmed (k + 1) = false
          ∧ M.on (R.RKN_WP_STAT k) F.RKN_WP_STAT_CFG_ERR = true ∧ Lane.Frame [(R.RKN_WP_STAT k).addr, (R.RKN_WP_STAT (k + 1)).addr] N M)
      ∧ (N.wpArmed (wpOther w) = true → (N.wpRepeat k && N.wpRepeat (k + 1)) = true → N.wpUnit = false →
          M.wpArmed w = true ∧ M.wpBack w = armDir N w ∧ Lane.Frame [(R.RKN_WP_STAT w).addr] N M))
/-- RKN_WP_CFGw after a write of `v`: PAIR of an odd waypoint reads 0 (R78). -/
def cfgWord (L : Lane) (w : Nat) (v : Word) : Word :=
  let v1 := L.taken (R.RKN_WP_CFG w) 0x70F3F v
  if w % 2 = 1 then F.RKN_WP_CFG_PAIR.set v1 0 else v1

/-- A write of RKN_WP_CFGw with ARM at 1 is a new arming on the value written: a wrong configuration is refused with CFG_ERR; while the unit is inactive, and while
the compare value lies ahead, the waypoint waits, with the direction that its reckoner last moved for DIR 2; on an active unit one already reached fires in that
tick, and is late where it was passed.
A compare value written to a waypoint that is not armed takes effect at once, and one written while ARM reads 1 is a new arming; a waypoint due in that tick
fires first on the old value. A disarmed waypoint is no longer armed, and ABORT_LATE says whether it fires or has fired in the same tick.
A waypoint that is due fires unless a lower-numbered one of another pair is due: FIRED is set and COUNT counts; one that does not repeat is no longer armed, one that
repeats advances by its step and by the steps that it has passed. Of a pair, two that are due fire together with BOTH; one that is due alone moves the other's compare
value to its reckoner's value plus the other's step. One that is not due, or that waits for a lower-numbered one, does not fire. -/
def Obligations.Waypoints : Prop :=
  (∀ (s : State) (l : LaneId) (w : Fin 128) (v : Word), s.Quiet →
      RunsLane (.waypointArm l w v) s l fun L M => armsAs (L.wr (R.RKN_WP_CFG w) (cfgWord L w (F.RKN_WP_CFG_ARM.set v 1))) M w)
  ∧ (∀ (s : State) (l : LaneId) (w : Fin 128) (v : Word), s.Quiet →
      RunsLane (.waypointCompareWrite l w v) s l (fun L M =>
        let N := L.wr (R.RKN_WP_CMP w) v
        (L.wpDue w = false → L.on (R.RKN_WP_CFG w) F.RKN_WP_CFG_ARM = false → M.rd (R.RKN_WP_CMP w) = v ∧ Lane.Frame [(R.RKN_WP_CMP w).addr] L M)
        ∧ (L.wpDue w = false → L.on (R.RKN_WP_CFG w) F.RKN_WP_CFG_ARM = true → armsAs N M w)
        ∧ (L.wpDue w = true → L.wpPair w = none → quietAction L w → M.on (R.RKN_WP_STAT w) F.RKN_WP_STAT_FIRED = true
            ∧ (L.on (R.RKN_WP_CFG w) F.RKN_WP_CFG_ARM = true → N.wpBad w = false → ¬armReached N w → M.wpArmed w = true ∧ M.wpBack w = armDir N w
                ∧ M.fld (R.RKN_WP_STAT w) F.RKN_WP_STAT_COUNT = (L.fld (R.RKN_WP_STAT w) F.RKN_WP_STAT_COUNT + 1) % 65536
                ∧ M.rd (R.RKN_WP_CMP w) = v ∧ Lane.Frame [(R.RKN_WP_STAT w).addr, (R.RKN_WP_CMP w).addr] L M)))
      ∧ RunsLane (.waypointDisarm l w v) s l fun L M =>
          M.rd (R.RKN_WP_CFG w) = cfgWord L w (F.RKN_WP_CFG_ARM.set v 0)
          ∧ (L.on (R.RKN_WP_CFG w) F.RKN_WP_CFG_ARM = false → Lane.Frame [(R.RKN_WP_CFG w).addr] L M)
          ∧ (L.on (R.RKN_WP_CFG w) F.RKN_WP_CFG_ARM = true → M.wpArmed w = false
              ∧ (L.wpDue w = false → M.on (R.RKN_WP_STAT w) F.RKN_WP_STAT_ABORT_LATE = decide ((L.wp.at w).firedAt = L.ticks + 1)
                  ∧ Lane.Frame [(R.RKN_WP_CFG w).addr, (R.RKN_WP_STAT w).addr] L M)
              ∧ (L.wpDue w = true → L.wpPair w = none → quietAction L w → M.on (R.RKN_WP_STAT w) F.RKN_WP_STAT_ABORT_LATE = true
                  ∧ M.on (R.RKN_WP_STAT w) F.RKN_WP_STAT_FIRED = true
                  ∧ M.fld (R.RKN_WP_STAT w) F.RKN_WP_STAT_COUNT = (L.fld (R.RKN_WP_STAT w) F.RKN_WP_STAT_COUNT + 1) % 65536
                  ∧ (F.RKN_WP_CFG_STRICT.on (L.wpCfg w) = false →
                      Lane.Frame [(R.RKN_WP_CFG w).addr, (R.RKN_WP_STAT w).addr, (R.RKN_WP_CMP w).addr] L M))))
  ∧ (∀ (s : State) (l : LaneId) (w : Fin 128), RunsLane (.waypointFire l w) s l fun L M =>
      (L.wpDue w = false → Lane.Frame [] L M)
      ∧ (L.wpPair w = none → (∃ k, k < w.val ∧ L.wpDue k = true) → Lane.Frame [] L M)
      ∧ (L.wpPair w = none → L.wpDue w = true → (∀ k, k < w.val → L.wpDue k = false) → quietAction L w →
          firesAs L M w (L.wpBack w) false ∧ M.wpArmed w = L.wpRepeat w)
      ∧ ∀ k, L.wpPair w = some k → L.wpDue w = true → quietAction L k →
          (L.wpDue (wpOther w) = true → (∀ j, j < k → L.wpDue j = false) →
            M.on (R.RKN_WP_STAT k) F.RKN_WP_STAT_FIRED = true ∧ M.on (R.RKN_WP_STAT (k + 1)) F.RKN_WP_STAT_FIRED = true
              ∧ M.on (R.RKN_WP_STAT k) F.RKN_WP_STAT_BOTH = true ∧ M.on (R.RKN_WP_STAT k) F.RKN_WP_STAT_BY_PARTNER = false
              ∧ ∀ j, j = k ∨ j = k + 1 → M.fld (R.RKN_WP_STAT j) F.RKN_WP_STAT_COUNT = (L.fld (R.RKN_WP_STAT j) F.RKN_WP_STAT_COUNT + 1) % 65536)
          ∧ (L.wpDue (wpOther w) = false → (∀ j, j < w.val → L.wpDue j = false) →
            M.on (R.RKN_WP_STAT w) F.RKN_WP_STAT_FIRED = true ∧ M.on (R.RKN_WP_STAT k) F.RKN_WP_STAT_BOTH = false
              ∧ M.on (R.RKN_WP_STAT k) F.RKN_WP_STAT_BY_PARTNER = decide (w.val ≠ k)
              ∧ M.fld (R.RKN_WP_STAT w) F.RKN_WP_STAT_COUNT = (L.fld (R.RKN_WP_STAT w) F.RKN_WP_STAT_COUNT + 1) % 65536
              ∧ M.rd (R.RKN_WP_CMP (wpOther w)) = (if L.wpBack (wpOther w) then L.rknVal (L.wpRkn (wpOther w)) - L.rd (R.RKN_WP_STEP (wpOther w))
                  else L.rknVal (L.wpRkn (wpOther w)) + L.rd (R.RKN_WP_STEP (wpOther w)))))

/-- A software bank swap is refused with SWREF while a chart governs the axis, while it is inactive or while a copy or a swap is under way; else the word of the
swap is posted for agreement, once in an interval, and with 16 posts held it sets DECOVF.
A write to the shadow view of an axis stores the word there, and is refused with SWREF while the axis copies a region.
A region copy ends with the region's words that were still to be copied in the view it was for, and BUSY at 0; an axis that copies nothing keeps all it holds. -/
def Obligations.ShadowBanks : Prop :=
  (∀ (s : State) (l : LaneId) (a : Fin 12), s.Quiet →
      RunsLane (.bankSwapRequest l a) s l fun L M =>
        let refused := L.chen a || !L.axActive a || L.on (R.AX_BANK a) F.AX_BANK_BUSY || L.on (R.AX_BANK a) F.AX_BANK_DUE
        let word := w32 (0xFFFFFF00 + a)
        (refused = true → M.on (R.AX_BANK a) F.AX_BANK_SWREF = true ∧ M.ck.dec = L.ck.dec ∧ Lane.Frame [(R.AX_BANK a).addr] L M)
        ∧ (refused = false → (∃ p ∈ L.ck.dec, p.word = word ∧ p.ck = L.ck.last) → M.ck.dec = L.ck.dec ∧ Lane.Frame [] L M)
        ∧ (refused = false → (∀ p ∈ L.ck.dec, p.word = word → p.ck ≠ L.ck.last) →
            (L.ck.dec.length < 16 → M.ck.dec = L.ck.dec ++ [⟨word, 0, L.ck.last⟩] ∧ Lane.Frame [] L M)
            ∧ (16 ≤ L.ck.dec.length → M.ck.dec = L.ck.dec ∧ M.on R.FIX_EVT F.FIX_EVT_DECOVF = true ∧ Lane.Frame [R.FIX_EVT.addr] L M)))
  ∧ (∀ (s : State) (l : LaneId) (a : Fin 12) (i : Fin 1280) (v : Word), s.Quiet →
      let A := 0x30000000 + 4 * (axArea a + 0x800 + i)
      (s.lane l).bankOut A = false →
      RunsLane (.shadowWrite l a i v) s l fun L M =>
        (L.on (R.AX_BANK a) F.AX_BANK_BUSY = true → M.on (R.AX_BANK a) F.AX_BANK_SWREF = true ∧ Lane.Frame [(R.AX_BANK a).addr] L M)
        ∧ (L.on (R.AX_BANK a) F.AX_BANK_BUSY = false → M.coef (axArea a + 0x800 + i) = v
            ∧ (∀ c, (∀ j, j < 4 → L.place c ≠ L.place (A + j)) → M.byte c = L.byte c) ∧ (∀ c, M.flashByte c = L.flashByte c) ∧ Lane.RegsBut [] L M))
  ∧ (∀ (s : State) (l : LaneId) (a : Fin 12), RunsLane (.regionCopyDone l a) s l fun L M =>
      let dst := axArea a + (if (L.ax.at a).copyInit then 0x200 else 0x800)
      ((L.ax.at a).copy = none → M.ax = L.ax ∧ Lane.Frame [] L M)
      ∧ ∀ r, (L.ax.at a).copy = some r → M.on (R.AX_BANK a) F.AX_BANK_BUSY = false ∧ (M.ax.at a).copy = none ∧ Lane.RegsBut [(R.AX_BANK a).addr] L M
          ∧ (L.clen a ≤ 1280 → L.rsrc a r + L.clen a ≤ 0x20000 → (∀ i j, i < L.clen a → j < L.clen a → L.coefIdx (L.rsrc a r + i) ≠ L.coefIdx (dst + j)) →
              ∀ k, k < L.clen a → M.coef (dst + k) = if k < (L.ax.at a).copyPos then L.coef (dst + k) else L.coef (L.rsrc a r + k)))

/-- The logbook of an axis: enabling it checks its configuration and enters Pre-trigger; a software trigger counts in Pre-trigger alone; rearming leaves Done;
disabling it outside a running sample makes it idle, and ABORT_LATE says that completion came first. -/
def Obligations.LogbookControl : Prop :=
  ∀ (s : State) (l : LaneId) (a : Fin 12) (v : Word), s.Quiet →
    let L0 := s.lane l
    let N := L0.wr (R.AX_LBCFG a) (L0.taken (R.AX_LBCFG a) 0xF71 (F.AX_LBCFG_EN.set v 1))
    let plain := F.AX_LBCFG_SWTRIG.on v = false ∧ F.AX_LBCFG_REARM.on v = false
    (L0.on (R.AX_LBCFG a) F.AX_LBCFG_EN = false → (L0.ax.at a).lbClosing = 0 → plain →
      RunsLane (.logbookEnable l a v) s l fun L M =>
        (N.lbFails a = true → M.on (R.AX_LBST a) F.AX_LBST_CFGERR = true ∧ M.lbSt a = L.lbSt a)
        ∧ (N.lbFails a = false → M.lbSt a = 1 ∧ M.on (R.AX_LBCFG a) F.AX_LBCFG_ACTIVE = true ∧ M.rd (R.AX_LBWP a) = 0 ∧ (M.ax.at a).lbTrig = 0)
        ∧ Lane.Frame [(R.AX_LBCFG a).addr, (R.AX_LBST a).addr, (R.AX_LBWP a).addr] L M)
    ∧ (L0.on (R.AX_LBCFG a) F.AX_LBCFG_EN = true → L0.axRunning a = false → plain →
      RunsLane (.logbookDisable l a v) s l fun L M =>
        (L.lbSt a = 3 → (L.ax.at a).lbDoneAt = L.ticks + 1 → M.lbSt a = 3 ∧ M.on (R.AX_LBST a) F.AX_LBST_ABORT_LATE = true)
        ∧ (L.lbSt a ≠ 3 ∨ (L.ax.at a).lbDoneAt ≠ L.ticks + 1 → M.lbSt a = 0 ∧ M.on (R.AX_LBST a) F.AX_LBST_ABORT_LATE = false
            ∧ M.on (R.AX_LBCFG a) F.AX_LBCFG_ACTIVE = false)
        ∧ Lane.Frame [(R.AX_LBCFG a).addr, (R.AX_LBST a).addr] L M)
    ∧ (L0.on (R.AX_LBCFG a) F.AX_LBCFG_EN = true → F.AX_LBCFG_EN.on v = true → F.AX_LBCFG_REARM.on v = false →
      RunsLane (.logbookSoftwareTrigger l a v) s l fun L M =>
        (L.lbSt a = 1 → (M.ax.at a).lbTrig = (L.ax.at a).lbTrig ||| 4) ∧ (L.lbSt a ≠ 1 → M.ax = L.ax) ∧ Lane.Frame [(R.AX_LBCFG a).addr] L M)
    ∧ (L0.on (R.AX_LBCFG a) F.AX_LBCFG_EN = true → F.AX_LBCFG_EN.on v = true → F.AX_LBCFG_SWTRIG.on v = false →
      RunsLane (.logbookRearm l a v) s l fun L M =>
        (L.lbSt a = 3 → M.lbSt a = 1 ∧ M.on (R.AX_LBCFG a) F.AX_LBCFG_ACTIVE = true ∧ M.rd (R.AX_LBWP a) = 0) ∧ (L.lbSt a ≠ 3 → M.lbSt a = L.lbSt a)
        ∧ Lane.Frame [(R.AX_LBCFG a).addr, (R.AX_LBST a).addr, (R.AX_LBWP a).addr] L M)

/-! ### The control engine -/

/-- Enabling the engine checks the task table: a wrong one keeps it inactive with CFGERR, else it becomes active; a cleared EN makes it inactive once no begun
instance is left, and instances that have not begun are discarded.
A write of a task's configuration starts the task at its entry again.
A write to engine program memory is refused with PMWREF while the engine is active or the safety lock is set without RIG; else the word lies there, and the
write of an instruction's upper word makes its parity right. -/
def Obligations.EngineTasks : Prop :=
  (∀ (s : State) (l : LaneId) (v : Word), s.Quiet →
      ((s.lane l).on R.CE_CTRL F.CE_CTRL_EN = false → (s.lane l).on R.CE_CTRL F.CE_CTRL_ACTIVE = false →
        RunsLane (.engineEnable l v) s l fun L M => M.on R.CE_CTRL F.CE_CTRL_EN = true ∧ M.on R.CE_CTRL F.CE_CTRL_ACTIVE = !L.engBad
          ∧ M.on R.CE_STAT F.CE_STAT_CFGERR = L.engBad ∧ M.eng = L.eng ∧ Lane.Frame [R.CE_CTRL.addr, R.CE_STAT.addr] L M)
      ∧ ((s.lane l).on R.CE_CTRL F.CE_CTRL_EN = true → (s.lane l).on R.CE_CTRL F.CE_CTRL_ACTIVE = true → (s.lane l).eng.insts = [] →
        RunsLane (.engineDisable l v) s l fun L M => M.on R.CE_CTRL F.CE_CTRL_EN = false ∧ M.on R.CE_CTRL F.CE_CTRL_ACTIVE = false
          ∧ M.eng = { L.eng with closing := false } ∧ Lane.Frame [R.CE_CTRL.addr] L M)
      ∧ ((s.lane l).on R.CE_CTRL F.CE_CTRL_EN = true → (s.lane l).on R.CE_CTRL F.CE_CTRL_ACTIVE = true → (s.lane l).eng.insts ≠ [] →
        (∀ i ∈ (s.lane l).eng.insts, i.begun = true) →
        RunsLane (.engineDisable l v) s l fun L M => M.on R.CE_CTRL F.CE_CTRL_EN = false ∧ M.on R.CE_CTRL F.CE_CTRL_ACTIVE = true
          ∧ M.eng = { L.eng with closing := true } ∧ Lane.Frame [R.CE_CTRL.addr] L M))
  ∧ (∀ (s : State) (l : LaneId) (n : Fin 64) (v : Word), s.Quiet → (s.lane l).Unlocked →
      RunsLane (.taskConfigWrite l n v) s l fun L M => M.rd (R.CE_TASK n) = L.taken (R.CE_TASK n) 0x1F31FFF v
        ∧ M.fld (R.CE_TST n) F.CE_TST_CONT = M.fld (R.CE_TASK n) F.CE_TASK_ENTRY ∧ Lane.Frame [(R.CE_TASK n).addr, (R.CE_TST n).addr] L M)
  ∧ (∀ (s : State) (l : LaneId) (ofs : BitVec 16) (v : Word), s.Quiet → ofs.toNat % 4 = 0 → (s.lane l).bankOut 0x32000000 = false →
      RunsLane (.programMemoryWrite l .word ofs v) s l fun L M =>
        (L.pmLocked = true → M.on R.CE_STAT F.CE_STAT_PMWREF = true ∧ Lane.Frame [R.CE_STAT.addr] L M)
        ∧ (L.pmLocked = false → (∀ i, i < 4 → M.byte (0x32000000 + ofs.toNat + i) = byteOf v.toNat i)
            ∧ (∀ c, c < 0x32000000 + ofs.toNat ∨ 0x32000000 + ofs.toNat + 4 ≤ c → M.byte c = L.byte c) ∧ (∀ c, M.flashByte c = L.flashByte c) ∧ Lane.RegsBut [] L M
            ∧ (ofs.toNat % 8 = 4 → M.pmPar.at (ofs.toNat / 8) = false)))

/-- The commands that issue an instruction, with the opcode of R160. -/
def engRow : Instr → Option (LaneId × BitVec 64 × Nat)
  | .nop l w => some (l, w, 0)
  | .endInst l w => some (l, w, 1)
  | .yieldInst l w => some (l, w, 2)
  | .jmp l w => some (l, w, 3)
  | .brc l w => some (l, w, 4)
  | .loop l w => some (l, w, 5)
  | .lpst l w => some (l, w, 6)
  | .lpld l w => some (l, w, 7)
  | .wait l w => some (l, w, 8)
  | .vld l w => some (l, w, 0x10)
  | .vst l w => some (l, w, 0x11)
  | .vmov l w => some (l, w, 0x12)
  | .eld l w => some (l, w, 0x13)
  | .est l w => some (l, w, 0x14)
  | .vset l w => some (l, w, 0x15)
  | .exps l w => some (l, w, 0x16)
  | .inWord l w => some (l, w, 0x17)
  | .outWord l w => some (l, w, 0x18)
  | .vadd l w => some (l, w, 0x20)
  | .vsub l w => some (l, w, 0x21)
  | .vmul l w => some (l, w, 0x22)
  | .vdot l w => some (l, w, 0x23)
  | .macs l w => some (l, w, 0x24)
  | .stAcc l w => some (l, w, 0x25)
  | .matvec l w => some (l, w, 0x26)
  | .mvst l w => some (l, w, 0x27)
  | .norm l w => some (l, w, 0x28)
  | .expx l w => some (l, w, 0x29)
  | .shv l w => some (l, w, 0x2A)
  | .vlim l w => some (l, w, 0x2B)
  | .vsel l w => some (l, w, 0x2C)
  | .cmp l w => some (l, w, 0x2D)
  | _ => none

/-- The instructions whose result is put in flight whatever the operands, with the latency and the result (R160): `P` is the lane at the issue and `i` the instance. -/
def flies (P : Lane) (i : Inst) (w : BitVec 64) : Instr → Option (Nat × List LandEff)
  | .nop _ _ => some (0, [])
  | .vmov _ _ => some (1, [.vec (insD w) (P.vreg i.level (insS w))])
  | .vset _ _ => some (1, [.el (insD w) (insEl w) (w32 (insImm w))])
  | .exps _ _ => some (1, [.exp (insD w) (sext 8 (insImm w))])
  | .vadd _ _ => let r := vecSum false (P.vreg i.level (insS w)) (P.vreg i.level (insT w)); some (2, [.vec (insD w) r.1, .stat (if r.2 then 4 else 0) 0])
  | .vsub _ _ => let r := vecSum true (P.vreg i.level (insS w)) (P.vreg i.level (insT w)); some (2, [.vec (insD w) r.1, .stat (if r.2 then 4 else 0) 0])
  | .stAcc _ _ =>
    let r := accNarrow (insSat w) (P.areg i.level (insS w)) (P.vreg i.level (insD w)).e
    some (2, [.el (insD w) (insEl w) r.1, .stat ((if r.2.1 then 4 else 0) ||| (if r.2.2 then 8 else 0)) 0])
  | .mvst _ _ =>
    let r := rowNarrow (P.eng.rb.at i.level) (if insX w % 2 = 1 then some (sext 8 (insImm w)) else none) (insSat w)
    some (3, [.vec (insD w) r.1, .stat ((if r.2.1 then 4 else 0) ||| (if r.2.2 then 8 else 0)) 0])
  | .norm _ _ => some (2, [.el (insD w) (insEl w) (w32 (vecNorm (P.vreg i.level (insS w))))])
  | .expx _ _ => some (2, [.el (insD w) (insEl w) (wInt (vecExpx (P.vreg i.level (insS w))))])
  | .shv _ _ =>
    let r := vecShift (P.vreg i.level (insS w)) ((P.vreg i.level (insT w)).el (insEl w))
    some (2, [.vec (insD w) r.1, .stat (if r.2 then 4 else 0) 0])
  | .vlim _ _ =>
    let r := vecLim (P.vreg i.level (insS w)) (P.vreg i.level (insT w))
    some (2, [.vec (insD w) r.1, .stat (w32 (r.2 * 65536)) 0xFFFF0000])
  | .vsel _ _ =>
    let m := if insX w % 2 = 1 then i.status.toNat / 65536 else insImm w % 65536
    some (1, [.vec (insD w) (vecSel (P.vreg i.level (insS w)) (P.vreg i.level (insT w)) m)])
  | .cmp _ _ =>
    let r := cmpReal ((P.vreg i.level (insS w)).el (insEl w)) (P.vreg i.level (insS w)).e ((P.vreg i.level (insT w)).el (insX w)) (P.vreg i.level (insT w)).e
    some (2, [.stat (w32 (b2n r.1 + 2 * b2n r.2)) 3])
  | _ => none

/-- The registers that a record posted to the Binnacle shows in (R571, R579), and those that a fault shows in besides (R489, R524). -/
def logRegs : List Nat := [R.BMB_STAT.addr, R.BMB_CNT.addr, R.PWR_NVMST.addr, R.PWR_EVT.addr]
def faultRegs : List Nat := R.FIX_FLTLAST.addr :: R.FIX_FLTCNT.addr :: logRegs

/-- An issued arithmetic instruction puts its result in flight, to land after the latency of its opcode, and the instance goes on at the next address.
Loads and stores of coefficient RAM and IN: a load takes the words of the views at
its issue four cycles later, a store puts its words two cycles later where the views had them at its issue, and IN brings the source's word and flags one that is not valid. -/
def Obligations.EngineOperands : Prop :=
  (∀ (s : State) (x : Instr) (l : LaneId) (w : BitVec 64) (P : Lane) (i : Inst) (c lat : Nat) (es : List LandEff),
      engRow x = some (l, w, insOp w) → flies P i w x = some (lat, es) → (s.lane l).Issues w P i c →
      RunsLane x s l fun _ M => M.eng.land = P.eng.land ++ es.map (fun e => ⟨c + lat, i.level, i.task, i.trig, e⟩) ∧ M.eng.run = P.eng.run ∧ P.Issued M c
        ∧ M.eng.vr = P.eng.vr ∧ M.eng.ac = P.eng.ac ∧ M.eng.rb = P.eng.rb ∧ M.eng.macFree = P.eng.macFree ∧ (P.Straight i → M.GoesOn i (i.pc + 1)))
  ∧ (∀ (s : State) (l : LaneId) (w : BitVec 64) (P : Lane) (i : Inst) (c : Nat), (s.lane l).Issues w P i c →
      let x := P.memIdx w i.level
      let flown : Lane → Nat → List LandEff → Prop := fun M lat es =>
        M.eng.land = P.eng.land ++ es.map (fun e => (⟨c + lat, i.level, i.task, i.trig, e⟩ : Landing)) ∧ M.eng.vr = P.eng.vr ∧ P.Issued M c ∧ (P.Straight i → M.GoesOn i (i.pc + 1))
      let word : Nat → Word → LandEff := fun k v => .memw (0x30000000 + 4 * (x + k)) (P.place (0x30000000 + 4 * (x + k))) v
      (insOp w = 0x10 → x + 17 ≤ 131072 → RunsLane (.vld l w) s l fun _ M =>
        flown M 4 [.vec (insD w) (Vec.of (fun k => P.engCoef c (x + k)) (sext 8 (P.engCoef c (x + 16)).toNat))])
      ∧ (insOp w = 0x13 → x + 1 ≤ 131072 → RunsLane (.eld l w) s l fun _ M => flown M 4 [.el (insD w) (insEl w) (P.engCoef c x)])
      ∧ (insOp w = 0x11 → x + 17 ≤ 131072 → RunsLane (.vst l w) s l fun _ M =>
        flown M 2 ((List.range 16).map (fun k => word k ((P.vreg i.level (insS w)).m.at k)) ++ [word 16 (w32 ((wInt (P.vreg i.level (insS w)).e).toNat % 256))]))
      ∧ (insOp w = 0x14 → x + 1 ≤ 131072 → RunsLane (.est l w) s l fun _ M => flown M 2 [word 0 ((P.vreg i.level (insS w)).m.at (insEl w))])
      ∧ (insOp w = 0x17 → ∀ r, P.inSource i (insImm w / 2 ^ 24) (P.ioInst w i.level) (ioSub w) = some r → RunsLane (.inWord l w) s l fun _ M =>
        flown M 4 [.el (insD w) (insEl w) r.1, .stat (if r.2 then 0 else 16) 0]))

/-- An instruction that is not right is not executed: its instance, no sample and with no LPST outstanding, is abandoned with its deadline fault, and the first fault since the
flags were cleared shows its task and address. A wrong parity, an illegal word, an address above program memory, a jump near a loop's end or in a delay slot, an operand beyond coefficient RAM, a source or
a destination that is not there and a use of the MAC array while it is held are such.
END and YIELD end an instance that is no sample: it is gone, the task goes on next time at its entry or after the YIELD, and the next instruction issues three cycles later. -/
def Obligations.EngineFaults : Prop :=
  (∀ (s : State) (x : Instr) (l : LaneId) (w : BitVec 64) (P : Lane) (i : Inst) (c op : Nat), engRow x = some (l, w, op) → (insOp w = op ∨ (op = 0 ∧ opBits (insOp w) = none)) →
      (s.lane l).Fetches w P i c → i.sample = false → i.saved = false → P.eng.closing = false → i.task < 64 →
      let faulted : Bf → Prop := fun f => RunsLane x s l fun _ M => M.instOf i.task = none ∧ M.on R.CE_FAULT f = true ∧ M.on R.RKN_FAULT F.RKN_FAULT_DLF = true
        ∧ M.on (R.RKN_TSTAT i.task) F.RKN_TSTAT_MISS = true ∧ ((P.rd R.CE_FAULT).toNat % 64 = 0 → M.fld R.CE_FAULT F.CE_FAULT_TASK = i.task ∧ M.fld R.CE_FPC F.CE_FPC_ADDR = i.pc)
        ∧ Lane.Frame ([R.CE_FAULT.addr, R.CE_FPC.addr, R.RKN_FAULT.addr, (R.RKN_TSTAT i.task).addr,
              (R.CE_LPC 0).addr, (R.CE_LPC 1).addr, (R.CE_LPA 0).addr, (R.CE_LPA 1).addr] ++ faultRegs) P M
      let sound := P.pmPar.at i.pc = false ∧ insIll w = false
      let jump := op = 3 ∨ op = 4
      (P.pmPar.at i.pc = true → faulted F.CE_FAULT_PAR)
      ∧ (P.pmPar.at i.pc = false → insIll w = true → faulted F.CE_FAULT_ILL)
      ∧ (sound → jump ∨ op = 5 → 0 < i.slots → faulted F.CE_FAULT_PLACE)
      ∧ (sound → jump → i.slots = 0 → P.nearEnd i.pc i.level = true → faulted F.CE_FAULT_PLACE)
      ∧ (sound → jump → i.slots = 0 → P.nearEnd i.pc i.level = false → 8191 < insImm w → faulted F.CE_FAULT_ADDR)
      ∧ (sound → op = 5 → i.slots = 0 → insImm w / 65536 < i.pc + 1 → faulted F.CE_FAULT_PLACE)
      ∧ (sound → op = 6 ∨ op = 7 → lpFails w = true → faulted F.CE_FAULT_ADDR)
      ∧ (sound → op = 0x10 ∨ op = 0x11 → 131072 < P.memIdx w i.level + 17 → faulted F.CE_FAULT_ADDR)
      ∧ (sound → op = 0x13 ∨ op = 0x14 ∨ op = 0x26 → 131072 < P.memIdx w i.level + 1 → faulted F.CE_FAULT_ADDR)
      ∧ (sound → op = 0x17 → P.inSource i (insImm w / 2 ^ 24) (P.ioInst w i.level) (ioSub w) = none → faulted F.CE_FAULT_ADDR)
      ∧ (sound → op = 0x18 → 6 ≤ insImm w / 2 ^ 24 → faulted F.CE_FAULT_ADDR)
      ∧ (sound → op = 0x22 ∨ op = 0x23 ∨ op = 0x24 → c < P.eng.macFree → faulted F.CE_FAULT_HAZ)
      ∧ (sound → op = 0x26 → P.memIdx w i.level ≤ 131071 → matLegal (P.engCoef c (P.memIdx w i.level)) = false → faulted F.CE_FAULT_ILL))
  ∧ (∀ (s : State) (l : LaneId) (w : BitVec 64) (P : Lane) (i : Inst) (c : Nat), (s.lane l).Issues w P i c → i.sample = false → P.eng.closing = false →
      let ended : Lane → Nat → Prop := fun M cont => M.instOf i.task = none ∧ M.eng.run = none ∧ M.fld (R.CE_TST i.task) F.CE_TST_CONT = cont % 8192 ∧ c + 3 ≤ M.eng.next
      let kept : Lane → Prop := fun M => Lane.Frame [R.CE_UTIL.addr, (R.CE_TST i.task).addr, (R.CE_LPC 0).addr, (R.CE_LPC 1).addr, (R.CE_LPA 0).addr, (R.CE_LPA 1).addr] P M
      (insOp w = 1 → i.task < 64 → RunsLane (.endInst l w) s l fun _ M => ended M (P.fld (R.CE_TASK i.task) F.CE_TASK_ENTRY) ∧ (P.endLoads i.task = 0 → kept M))
      ∧ (insOp w = 2 → i.task < 64 → RunsLane (.yieldInst l w) s l fun _ M => ended M (i.pc + 1) ∧ kept M))

/-- VMUL, VDOT, MACS and MATVEC hold the MAC array from their issue for the cycles of R164, and their results land after their latencies.
What a landing writes: a vector register, one element, an exponent, status bits of its instance, an accumulator, the row bank or the loops; and a stored word lies in its place. -/
def Obligations.EngineMacArray : Prop :=
  (∀ (s : State) (l : LaneId) (w : BitVec 64) (P : Lane) (i : Inst) (c : Nat), (s.lane l).Issues w P i c → P.eng.macFree ≤ c →
      let x := P.vreg i.level (insS w)
      let y := P.vreg i.level (insT w)
      let held : Lane → Nat → Prop := fun M n => M.eng.macFree = c + n ∧ P.Issued M c ∧ (P.Straight i → M.GoesOn i (i.pc + 1))
      let flown : Lane → Nat → List LandEff → Prop := fun M lat es => M.eng.land = P.eng.land ++ es.map (fun e => (⟨c + lat, i.level, i.task, i.trig, e⟩ : Landing))
      (insOp w = 0x22 → RunsLane (.vmul l w) s l fun _ M => held M 2
        ∧ flown M 4 [.vec (insD w) (vecMul x y).1, .stat (if (vecMul x y).2 then 4 else 0) 0])
      ∧ (insOp w = 0x23 → RunsLane (.vdot l w) s l fun _ M => held M 2 ∧ flown M 4 [.acc (insD w) (insAcc w) (dotProds x y) (x.e + y.e)])
      ∧ (insOp w = 0x24 → RunsLane (.macs l w) s l fun _ M => held M 1 ∧ flown M 3 [.acc (insD w) (insAcc w) [x.el (insEl w) * y.el (insX w)] (x.e + y.e)])
      ∧ (insOp w = 0x26 → ∀ d, d = P.engCoef c (P.memIdx w i.level) → matLegal d = true → P.memIdx w i.level + matRows d * matCols d ≤ 131071 →
        RunsLane (.matvec l w) s l fun _ M => held M (matRows d * ((matCols d + 7) / 8)) ∧ M.eng.mats = P.eng.mats + 1
          ∧ (⟨c + matRows d * ((matCols d + 7) / 8) + 3, i.level, i.task, i.trig, .matLand P.eng.mats (matRows d) (insAcc w) (matExp d + x.e)⟩ : Landing) ∈ M.eng.land))
  ∧ (∀ (L : Lane) (x : Landing),
      (∀ d v, x.eff = .vec d v → (L.landOne x).vreg x.level d = v ∧ (∀ lv r, 16 * lv + r ≠ 16 * x.level + d → (L.landOne x).vreg lv r = L.vreg lv r) ∧ Lane.Frame [] L (L.landOne x))
      ∧ (∀ d k v, x.eff = .el d k v → ((L.landOne x).vreg x.level d).m.at k = v ∧ (∀ j, j ≠ k → ((L.landOne x).vreg x.level d).m.at j = (L.vreg x.level d).m.at j)
          ∧ ((L.landOne x).vreg x.level d).e = (L.vreg x.level d).e ∧ Lane.Frame [] L (L.landOne x))
      ∧ (∀ d e, x.eff = .exp d e → (L.landOne x).vreg x.level d = { L.vreg x.level d with e := e } ∧ Lane.Frame [] L (L.landOne x))
      ∧ (∀ d add ps p, x.eff = .acc d add ps p → (L.landOne x).areg x.level d = (accSum add ps p (L.areg x.level d)).1 ∧ Lane.Frame [] L (L.landOne x))
      ∧ (∀ st cl i, x.eff = .stat st cl → L.instOf x.task = some i → i.trig = x.trig → (∀ j ∈ L.eng.insts, j.task = x.task → j = i) →
          (L.landOne x).instOf x.task = some { i with status := (i.status &&& ~~~cl) ||| st } ∧ Lane.Frame [] L (L.landOne x))
      ∧ (∀ a p v k, x.eff = .memw a p v → k < 4 → look (L.landOne x).mem (p + k) 0#8 = byteOf v.toNat k ∧ Lane.RegsBut [] L (L.landOne x))
      ∧ ∀ a p v q, x.eff = .memw a p v → (q < p ∨ p + 4 ≤ q) → look (L.landOne x).mem q 0#8 = look L.mem q 0#8)

/-- Jumps, loops and waits: a jump is taken after two delay slots, a branch where its condition holds; a LOOP with a count enters its body and one without goes past it; a WAIT on what has not
happened gives the engine up, LPST and LPLD save and restore the loops. -/
def Obligations.EngineControlFlow : Prop :=
  ∀ (s : State) (l : LaneId) (w : BitVec 64) (P : Lane) (i : Inst) (c : Nat), (s.lane l).Issues w P i c → P.Straight i →
    let jumps : Lane → Option Nat → Prop := fun M tgt => P.Issued M c ∧ ∃ j, M.instOf i.task = some j ∧ j.pc = i.pc + 1 ∧ j.slots = 2 ∧ j.target = tgt
    (insOp w = 3 → insImm w ≤ 8191 → P.nearEnd i.pc i.level = false → ∃ t, exec (.jmp l w) s = .next t ∧ s.LaneOnly l t ∧ let M := t.lane l; jumps M (some (insImm w)))
    ∧ (insOp w = 4 → insImm w ≤ 8191 → P.nearEnd i.pc i.level = false →
      ∃ t, exec (.brc l w) s = .next t ∧ s.LaneOnly l t ∧ let M := t.lane l; jumps M (if brcHolds (insX w) i.status then some (insImm w) else none))
    ∧ (insOp w = 5 → i.level < 4 → i.pc + 1 ≤ insImm w / 65536 → ∃ t, exec (.loop l w) s = .next t ∧ s.LaneOnly l t ∧ let M := t.lane l;
        let n : Int := if insX w / 2 % 2 = 1 then min 65535 ((P.vreg i.level (insS w)).el (insEl w)) else (insImm w % 65536 : Nat)
        P.Issued M c ∧ (n ≤ 0 → M.GoesOn i (insImm w / 65536 + 1))
        ∧ (0 < n → M.GoesOn i (i.pc + 1) ∧ M.lpOn (insX w % 2) i.level = true ∧ (M.lpc (insX w % 2) F.CE_LPC_LC : Int) = n
            ∧ (M.lpc (insX w % 2) F.CE_LPC_COUNT : Int) = n ∧ M.lpa (insX w % 2) F.CE_LPA_LS = (i.pc + 1) % 8192
            ∧ M.lpa (insX w % 2) F.CE_LPA_LE = insImm w / 65536 % 8192))
    ∧ (insOp w = 8 → ∃ t, exec (.wait l w) s = .next t ∧ s.LaneOnly l t ∧ let M := t.lane l;
        let ev : WaitEv := if insX w = 0 then .seqDone (insImm w % 16) else if insX w = 1 then .wpFire (insImm w % 128) else .elapsed (insImm w % 2 ^ 24)
        (P.waitOver i ev = true → M.GoesOn i (i.pc + 1) ∧ M.eng.run = some i.task ∧ M.eng.next = c + 1)
        ∧ (P.waitOver i ev = false → M.eng.run = none ∧ M.eng.next = c + 3 ∧ ∃ j, M.instOf i.task = some j ∧ j.pc = i.pc + 1 ∧ j.wait = some ev))
    ∧ (insOp w = 6 → lpFails w = false → ∃ t, exec (.lpst l w) s = .next t ∧ s.LaneOnly l t ∧ let M := t.lane l; P.Issued M c ∧ (∃ j, M.instOf i.task = some j ∧ j.pc = i.pc + 1 ∧ j.saved = true)
        ∧ ∀ k, k < 2 → (insX w).testBit k = true → ∀ n, n < 2 →
          (⟨c + 2, i.level, i.task, i.trig, .memw (0x30000000 + 4 * (insImm w + 2 * k + n)) (P.place (0x30000000 + 4 * (insImm w + 2 * k + n)))
            (if n = 0 then P.rd (R.CE_LPC k) else P.rd (R.CE_LPA k))⟩ : Landing) ∈ M.eng.land)
    ∧ (insOp w = 7 → lpFails w = false → ∃ t, exec (.lpld l w) s = .next t ∧ s.LaneOnly l t ∧ let M := t.lane l; P.Issued M c ∧ (∃ j, M.instOf i.task = some j ∧ j.pc = i.pc + 1 ∧ j.saved = false)
        ∧ ∀ k, k < 2 → (insX w).testBit k = true →
          (⟨c + 2, i.level, i.task, i.trig, .loop k (P.engCoef c (insImm w + 2 * k)) (P.engCoef c (insImm w + 2 * k + 1) &&& 0xFFFF1FFF)⟩ : Landing) ∈ M.eng.land)

/-- OUT writes its destination at once, and the first OUT of an instance records its delay: a leg value of a bridge in RUN or its period, a valve channel's set-point, a logbook probe, a function's
command, or an engine register with its event bit.
Events of the engine: a wait that is over makes its instance ready; a ready instance of a higher level takes the engine over two cycles later; an instance past its deadline that is no
sample is abandoned, recorded and counted as a fault. -/
def Obligations.EngineOutputs : Prop :=
  ((∀ (s : State) (l : LaneId) (w : BitVec 64) (P X : Lane) (i : Inst) (c : Nat), (s.lane l).Issues w P i c → insOp w = 0x18 → i.task < 64 →
      let raw := decide (insX w / 4 % 2 = 1)
      let v := P.vreg i.level (insS w)
      P.outDest (insImm w / 2 ^ 24) (P.ioInst w i.level) (ioSub w) (if raw then v.m.at (insEl w) else wInt (satI 32 (scaleI (v.el (insEl w)) v.e))) raw = some X →
      let d := min (2 ^ 24 - 1) (P.ticks - i.trig)
      RunsLane (.outWord l w) s l fun _ M => M.ax = X.ax ∧ M.safe = X.safe ∧ M.edg = X.edg ∧ M.eng.next = c + 1
        ∧ (i.outDone = false → M.fld (R.RKN_TDLY i.task) F.RKN_TDLY_DLY = d ∧ M.fld (R.RKN_TMAX i.task) F.RKN_TMAX_MAX = max (P.fld (R.RKN_TMAX i.task) F.RKN_TMAX_MAX) d)
        ∧ (i.outDone = true → M.rd (R.RKN_TDLY i.task) = P.rd (R.RKN_TDLY i.task) ∧ M.rd (R.RKN_TMAX i.task) = P.rd (R.RKN_TMAX i.task))
        ∧ (P.Straight i → ∃ j, M.instOf i.task = some j ∧ j.pc = i.pc + 1 ∧ j.outDone = true
          ∧ j.status = i.status ||| if raw = false ∧ satI 32 (scaleI (v.el (insEl w)) v.e) ≠ scaleI (v.el (insEl w)) v.e then 4 else 0)
        ∧ Lane.Frame [R.CE_UTIL.addr, (R.RKN_TDLY i.task).addr, (R.RKN_TMAX i.task).addr, (R.CE_LPC 0).addr, (R.CE_LPC 1).addr, (R.CE_LPA 0).addr, (R.CE_LPA 1).addr] X M)
    ∧ ∀ (P X : Lane) (n sub : Nat) (v : Word) (raw : Bool), P.small = false →
      (P.outDest 1 n sub v raw = some X → n < 8 ∧ sub < 4 ∧ (sub < 3 → X.edg = (if (P.edg.ovr.at n).run then { P.edg with legs := P.edg.legs.set (3 * n + sub) v } else P.edg) ∧ Lane.Frame [] P X)
        ∧ (sub = 3 → v.toNat < 16000 ∨ 800000 < v.toNat → X.edg = P.edg ∧ X.on (R.EDG_BEVT n) F.EDG_BEVT_PLENERR = true ∧ Lane.Frame [(R.EDG_BEVT n).addr] P X))
      ∧ (P.outDest 2 n sub v raw = some X → n < 12 ∧ sub = 0 ∧ X.edg.iset.at n = (clampI 0 30000 (v.toInt.fdiv 65536)).toNat ∧ Lane.Frame [] P X)
      ∧ (P.outDest 3 n sub v raw = some X → n < 12 ∧ sub < 16 ∧ (X.ax.at n).probes.at sub = v ∧ Lane.Frame [] P X)
      ∧ (P.outDest 4 n sub v raw = some X → n < 12 ∧ sub = 0 ∧ (X.safe.mon.at n).cmd = some v ∧ Lane.Frame [] P X)
      ∧ (P.outDest 5 n sub v false = some X → n < 32 ∧ sub = 0 ∧ X.rd (R.CE_OUT n) = v ∧ bitOf (X.rd R.CE_OUTEV) n = true ∧ Lane.Frame [(R.CE_OUT n).addr, R.CE_OUTEV.addr] P X))
  ∧ (∀ (s : State) (l : LaneId),
      (∀ (n : Fin 64) (i : Inst) (ev : WaitEv), (s.lane l).instOf n = some i → i.wait = some ev →
        RunsLane (.waitComplete l n) s l fun L M => Lane.Frame [] L M ∧ M.instOf n = some { i with wait := if L.waitOver i ev then none else some ev })
      ∧ (∀ (c : Nat) (i : Inst), (s.lane l).cycleNow (s.lane l).eng.next = some c → (s.lane l).engPreempts c = some i →
        ((s.lane l).engHalted = true → RunsLane (.enginePreempt l) s l fun L M => M.eng = L.eng ∧ Lane.Frame [] L M)
        ∧ ((s.lane l).engHalted = false → RunsLane (.enginePreempt l) s l fun L M => Lane.Frame [] L M ∧ M.eng.run = some i.task ∧ M.eng.next = c + 2
          ∧ (∀ j, L.instOf i.task = some j → M.instOf i.task = some { j with begun := true })))
      ∧ (∀ (n : Fin 64) (i : Inst), (s.lane l).instOf n = some i → i.sample = false → i.saved = false → (s.lane l).eng.closing = false → (s.lane l).engHalted = false →
        i.trig + (s.lane l).fld (R.RKN_TDL n) F.RKN_TDL_DL ≤ (s.lane l).ticks →
        RunsLane (.taskDeadlineExpire l n) s l fun L M => M.instOf n = none ∧ M.on R.RKN_FAULT F.RKN_FAULT_DLF = true ∧ M.on (R.RKN_TSTAT n) F.RKN_TSTAT_MISS = true
          ∧ M.fld R.FIX_FLTLAST F.FIX_FLTLAST_CLASS = 1 ∧ M.fld R.FIX_FLTLAST F.FIX_FLTLAST_LOC = L.me % 2 ^ F.FIX_FLTLAST_LOC.wid
          ∧ Lane.Frame ([R.RKN_FAULT.addr, (R.RKN_TSTAT n).addr] ++ faultRegs) L M)
      ∧ ∀ (n : Fin 64) (i : Inst), (s.lane l).instOf n = some i →
        (s.lane l).engHalted = true ∨ (s.lane l).ticks < i.trig + (s.lane l).fld (R.RKN_TDL n) F.RKN_TDL_DL →
        RunsLane (.taskDeadlineExpire l n) s l fun L M => M.eng = L.eng ∧ Lane.Frame [] L M)

/-- The engine's arithmetic: a shift rounds to nearest and a tie to even; a narrowing keeps what fits and saturates or wraps the rest with its flag; a sum at equal exponents that fits is the
sum of the elements; NORM is the largest left shift that loses no sign bit. -/
def Obligations.EngineArithmetic : Prop :=
  (∀ (n : Int) (k : Nat), let q := rneShift n k; 2 * (n - q * 2 ^ k) ≤ 2 ^ k ∧ -(2 ^ k) ≤ 2 * (n - q * 2 ^ k) ∧ (0 < k → 2 * (n - q * 2 ^ k) = 2 ^ k ∨ 2 * (n - q * 2 ^ k) = -(2 ^ k) → q % 2 = 0))
  ∧ (∀ (sat : Bool) (n : Int), (-(2 ^ 31) ≤ n ∧ n < 2 ^ 31 → (narrow32 sat n).1.toInt = n ∧ (narrow32 sat n).2 = (false, false))
      ∧ (n < -(2 ^ 31) ∨ 2 ^ 31 ≤ n → (narrow32 true n).1.toInt = (if n < 0 then -(2 ^ 31) else 2 ^ 31 - 1) ∧ (narrow32 true n).2 = (true, false)
          ∧ (narrow32 false n).1.toInt % 2 ^ 32 = n % 2 ^ 32 ∧ (narrow32 false n).2 = (false, true)))
  ∧ (∀ (x y : Vec) (k : Nat), k < 16 → x.e = y.e → -128 ≤ x.e → x.e ≤ 127 → (∀ j, j < 16 → -(2 ^ 31) ≤ x.el j + y.el j ∧ x.el j + y.el j < 2 ^ 31) →
      (vecSum false x y).1.el k = x.el k + y.el k ∧ (vecSum false x y).1.e = x.e ∧ (vecSum false x y).2 = false)
  ∧ (∀ v : Vec, (∀ k, k < 16 → -(2 ^ 31) ≤ v.el k * 2 ^ vecNorm v ∧ v.el k * 2 ^ vecNorm v < 2 ^ 31)
      ∧ (vecNorm v < 31 → ∃ k, k < 16 ∧ ¬(-(2 ^ 31) ≤ v.el k * 2 ^ (vecNorm v + 1) ∧ v.el k * 2 ^ (vecNorm v + 1) < 2 ^ 31)))
  ∧ ∀ (a b : Int) (ea eb : Int), ((cmpReal a ea b eb).1 = true ↔ (a : ℚ) * 2 ^ ea < b * 2 ^ eb) ∧ ((cmpReal a ea b eb).2 = true ↔ (a : ℚ) * 2 ^ ea = b * 2 ^ eb)

/-! ### Lanes, modes and checkpoints -/

/-- Enabling the Fix checks the checkpoint list and the stop profile and shows the cause of a failed check.
A decision word is posted once in an interval, sixteen at most; a write of 0 is ignored (R112). The words of mode requests (R535) are posted alike, and so is the word of a bank swap that R210 does not
refuse.
A mode request of an active Fix is posted for agreement as the word of its number; a number that names no request posts nothing.
A split is requested in a sound lane that has none under way, and a join in a lane that is split off; the joining lane resets. -/
def Obligations.FixAndModes : Prop :=
  (∀ (s : State) (l : LaneId) (v : Word), s.Quiet → (s.lane l).Unlocked → (s.lane l).on R.FIX_CTRL F.FIX_CTRL_EN = false →
      let N := (s.lane l).wr R.FIX_CTRL ((s.lane l).taken R.FIX_CTRL 0xF01 (F.FIX_CTRL_EN.set v 1))
      RunsLane (.fixEnable l v) s l fun L M => M.rd R.FIX_CTRL = N.rd R.FIX_CTRL ∧ M.on R.FIX_STAT F.FIX_STAT_LISTERR = decide (N.fixCause ≠ 0)
        ∧ M.fld R.FIX_STAT F.FIX_STAT_LISTCAUSE = N.fixCause ∧ Lane.Frame [R.FIX_CTRL.addr, R.FIX_STAT.addr] L M)
  ∧ (∀ (s : State) (l : LaneId) (v : Word), s.Quiet → (s.lane l).on R.FIX_CTRL F.FIX_CTRL_ACTIVE = true →
      let n := v.toNat
      let swap : Lane → Prop := fun L => ∃ a : Fin 12, n = 0xFFFFFF00 + a.val ∧ L.chen a = false ∧ L.axActive a = true ∧ L.on (R.AX_BANK a) F.AX_BANK_BUSY = false ∧ L.on (R.AX_BANK a) F.AX_BANK_DUE = false
      RunsLane (.decisionPost l v) s l fun L M => M.ck = { L.ck with dec := M.ck.dec, sig := M.ck.sig }
        ∧ (n = 0 ∨ 0xFFFFFF0C ≤ n ∨ (0xFFFFFE00 ≤ n ∧ n < 0xFFFFFF00 ∧ n ∉ [0xFFFFFE01, 0xFFFFFE02, 0xFFFFFE04, 0xFFFFFE05]) → M.ck.dec = L.ck.dec ∧ Lane.Frame [] L M)
        ∧ (0 < n → n < 0xFFFFFE00 ∨ n ∈ [0xFFFFFE01, 0xFFFFFE02, 0xFFFFFE04, 0xFFFFFE05] ∨ swap L →
          ((∃ p ∈ L.ck.dec, p.word = v ∧ p.ck = L.ck.last) → M.ck.dec = L.ck.dec ∧ Lane.Frame [] L M)
          ∧ ((∀ p ∈ L.ck.dec, p.word = v → p.ck ≠ L.ck.last) → L.ck.dec.length < 16 → M.ck.dec = L.ck.dec ++ [⟨v, 0, L.ck.last⟩] ∧ Lane.Frame [] L M)
          ∧ ((∀ p ∈ L.ck.dec, p.word = v → p.ck ≠ L.ck.last) → 16 ≤ L.ck.dec.length → M.ck.dec = L.ck.dec ∧ M.on R.FIX_EVT F.FIX_EVT_DECOVF = true ∧ Lane.Frame [R.FIX_EVT.addr] L M)))
  ∧ (∀ (s : State) (l : LaneId) (v : Word), s.Quiet → (s.lane l).on R.FIX_CTRL F.FIX_CTRL_ACTIVE = true → (s.lane l).ck.dec.length < 16 →
      let q := F.PWR_MODEREQ_REQ.get v
      (∀ p ∈ (s.lane l).ck.dec, p.word = w32 (0xFFFFFE00 + q) → p.ck ≠ (s.lane l).ck.last) →
      RunsLane (.modeRequest l v) s l fun L M => Lane.Frame [] L M
        ∧ (q = 1 ∨ q = 2 ∨ q = 4 ∨ q = 5 → M.ck = { L.ck with dec := L.ck.dec ++ [⟨w32 (0xFFFFFE00 + q), 0, L.ck.last⟩], sig := M.ck.sig }) ∧ (q = 0 ∨ q = 3 ∨ 6 ≤ q → M.ck = { L.ck with sig := M.ck.sig }))
  ∧ (∀ (s : State) (l : LaneId), s.Quiet →
      ((s.lane l).mySt = 3 → (s.lane l).fld R.FIX_SPLIT F.FIX_SPLIT_SSTATE = 0 → (∀ p ∈ (s.lane l).ck.dec, p.word ≠ splitWord) → (s.lane l).ck.owe.contains ((s.lane l).me, splitWord) = false →
        RunsLane (.splitRequest l) s l fun L M => Lane.Frame [R.FIX_SPLIT.addr, R.FIX_EVT.addr] L M
          ∧ (L.ck.dec.length < 16 → M.fld R.FIX_SPLIT F.FIX_SPLIT_SSTATE = 1 ∧ M.on R.FIX_EVT F.FIX_EVT_SPLITEV = true
              ∧ M.ck = { L.ck with dec := L.ck.dec ++ [⟨splitWord, 0, L.ck.last⟩], sig := M.ck.sig })
          ∧ (16 ≤ L.ck.dec.length → M.fld R.FIX_SPLIT F.FIX_SPLIT_SSTATE = 0 ∧ M.on R.FIX_EVT F.FIX_EVT_DECOVF = true ∧ M.ck.dec = L.ck.dec))
      ∧ ((s.lane l).mySt = 7 → (s.lane l).fld R.FIX_SPLIT F.FIX_SPLIT_SSTATE = 2 →
        RunsLane (.joinRequest l) s l fun L M => M.pw.joining = true ∧ M.edg.split = L.edg.split ∧ M.rd R.IMG_STAT = 0 ∧ M.eng = default ∧ M.mem = L.mem ∧ M.flash = L.flash
          ∧ M.me = L.me ∧ M.ticks = L.ticks))

/-- A capture takes the number of the last checkpoint that reckoner 13 has passed, the words of the list, the signature, the inputs and the posted words, starts the signature again and shows what it took; without a new checkpoint
nothing is captured. Said of a lane that is not catching up after a transfer. The data of another lane is taken where it is complete and of the same checkpoint. -/
def Obligations.CheckpointCapture : Prop :=
  (∀ (s : State) (l : LaneId) (din : BitVec 24) (ball : Bool), s.Quiet → (s.lane l).ck.caught = false → RunsLane (.checkpointCapture l din ball) s l fun L M =>
    (L.ckDue = false → M.ck = L.ck ∧ Lane.Frame [] L M)
    ∧ (L.ckDue = true → L.on R.PWR_SLPST F.PWR_SLPST_RUN = false →
        M.ck.last = L.gt / L.ckP + 1 ∧ M.ck.done = false ∧ M.ck.rx = [] ∧ M.ck.sig = 0 ∧ M.ck.wait = (List.range 12).filter L.axRunning ∧ M.ck.dec = L.ck.dec
        ∧ (∃ c, M.ck.cap = some c ∧ c.num = L.gt / L.ckP ∧ c.words = (L.lentries.filter LEntry.num).flatMap L.entryWords ∧ c.sig = L.ck.sig ∧ c.din.toNat = din.toNat
            ∧ c.ball = ball ∧ c.posts = L.ck.dec ∧ ∀ a, a < 12 → c.ax.getD a default = L.axCap a)
        ∧ M.rd R.FIX_CNUM = w32 (L.gt / L.ckP) ∧ M.rd R.FIX_DINOWN = w32 din.toNat ∧ M.rd R.FIX_WSIG = L.ck.sig ∧ (∀ a : Fin 12, M.rd (R.FIX_AXS a) = w32 (L.axCap a).s)
        ∧ M.fld R.FIX_XSTAT F.FIX_XSTAT_XWORDS = min 4095 L.xwords ∧ Lane.BlockFrame [0x4002, 0x4004] L M))
  ∧ ∀ (s : State) (l k : LaneId) (tap : Bool) (skew : Int),
    let X := (s.lane k).ck
    (X.cap = none ∨ k = l ∨ X.wait ≠ [] → exec (.checkpointDataReceive l k tap skew) s = .next s)
    ∧ ∀ c, X.cap = some c → k ≠ l → X.wait = [] → RunsLane (.checkpointDataReceive l k tap skew) s l fun L M => Lane.Frame [] L M
        ∧ ((∃ own, L.ck.cap = some own ∧ own.num = c.num) ∧ L.ck.done = false → (∀ e, e ∈ M.ck.rx ↔ e = (k.num, ⟨c, tap, skew⟩) ∨ (e ∈ L.ck.rx ∧ e.1 ≠ k.num)))
        ∧ (L.ck.cap = none ∨ (∃ own, L.ck.cap = some own ∧ own.num ≠ c.num) ∨ L.ck.done = true → M.ck = L.ck)

/-- Lane `l` of three that run in the Fix, outside every degraded mode, split and sleep, with no debugger at work, has reached the apply instant of the checkpoint it captured as `c`. -/
def InRegularFix (s : State) (l : LaneId) (c : Cap) : Prop :=
  let L := s.lane l
  L.ck.cap = some c ∧ L.ck.done = false ∧ c.num * L.ckP + L.xwin ≤ L.gt ∧ L.on R.FIX_DBG F.FIX_DBG_HALTED = false ∧ s.dbgq = [] ∧ L.ck.stepOne = false
    ∧ (∀ k, (s.lane k).me = k.num ∧ ∀ j, j < 3 → (s.lane k).laneSt j = 3) ∧ L.dmode = 0 ∧ L.fld R.FIX_SPLIT F.FIX_SPLIT_SSTATE = 0 ∧ L.ck.splitDue = false
    ∧ L.on R.PWR_SLPST F.PWR_SLPST_RUN = false
/-- Lane `l` has the complete data of the checkpoint from all three lanes, `caps` with the skews `skew`; no numeric word is listed, no axis runs, no travel source is in use, and no trip, PDU or old post waits. -/
def HasAllData (s : State) (l : LaneId) (caps : LaneId → Cap) (skew : LaneId → Int) : Prop :=
  let L := s.lane l
  L.ck.wait = [] ∧ L.ck.rx = ((lanes3.filter fun k => decide (k ≠ l)).map fun k => (k.num, ⟨caps k, false, skew k⟩)) ∧ skew l = 0 ∧ (∀ k, (skew k).natAbs ≤ 200)
    ∧ L.listCount = 0 ∧ (∀ k a, ((caps k).ax.getD a default).present = false) ∧ L.travSrc = 7 ∧ (∀ k, L.edg.outl.at k ≤ L.fld R.DLK_CTRL F.DLK_CTRL_ODT)
    ∧ (∀ k, (caps k).trips = [] ∧ (caps k).pdus = [] ∧ ∀ p ∈ (caps k).posts, p.age = 0 ∧ 0 < p.word.toNat ∧ p.word.toNat < 0xFFFFFE00) ∧ L.ck.owe = []
    ∧ L.safe.conf = none ∧ L.safe.rel = none

/-- At the apply instant a lane of the Fix without the data of a second lane has a void checkpoint: nothing is agreed or adopted. With the data of all three it adopts the inputs 2-of-3, makes the words that two lanes posted agreed ones, and slews to the median; a lane
whose digest or signature alone differs is declared odd with its cause, and resets itself. Before the apply instant nothing happens. A lane whose clock is off is odd with cause 6 in all three lanes. -/
def Obligations.CheckpointApplied : Prop :=
  (∀ (s : State) (l : LaneId), let L := s.lane l
    (L.ck.cap = none ∨ L.ck.done = true ∨ L.on R.FIX_DBG F.FIX_DBG_HALTED = true ∨ (∃ c, L.ck.cap = some c ∧ L.gt < c.num * L.ckP + L.xwin)) → exec (.checkpointApply l) s = .next s)
  ∧ (∀ (s : State) (l : LaneId) (c : Cap), InRegularFix s l c → (s.lane l).ck.rx = [] → (s.lane l).ck.voids = 0 → RunsLane (.checkpointApply l) s l fun L M =>
      M.on R.FIX_XSTAT F.FIX_XSTAT_XLATE = true ∧ M.ck.voids = 1 ∧ M.ck.dec = L.ck.dec ∧ M.ck.agreed = L.ck.agreed ∧ M.rd R.FIX_STAT = L.rd R.FIX_STAT ∧ M.rd R.FIX_EVT = L.rd R.FIX_EVT
        ∧ M.rd R.FIX_DIN = L.rd R.FIX_DIN ∧ M.rd R.PWR_MODE = L.rd R.PWR_MODE ∧ Lane.BytesSame L M)
  ∧ (∀ (s : State) (l : LaneId) (caps : LaneId → Cap) (skew : LaneId → Int), InRegularFix s l (caps l) → HasAllData s l caps skew →
      ((∀ j k, (caps j).digest = (caps k).digest ∧ (caps j).sig = (caps k).sig) → RunsLane (.checkpointApply l) s l fun L M =>
        (∀ k, M.rd (R.FIX_DIG (LaneId.num k)) = w32 (caps k).digest) ∧ M.rd R.FIX_STAT = L.rd R.FIX_STAT ∧ M.ck.voids = 0
          ∧ (∀ i, i < 32 → bitOf (M.rd R.FIX_DIN) i = decide (2 ≤ cnt (lanes3.map fun k => bitOf (caps k).din i)))
          ∧ M.slewLane = -med3 (skew .A) (skew .B) (skew .C)
          ∧ (∀ w, w ∈ M.ck.agreed ↔ w ∈ L.ck.agreed ∨ 2 ≤ cnt (lanes3.map fun k => (caps k).posts.any fun p => decide (p.word = w))))
      ∧ ∀ (k : LaneId) (x : Nat), (s.lane l).fld R.FIX_CTRL F.FIX_CTRL_MAXRESYNC ≠ 0 → (∀ i j, i ≠ k → j ≠ k → (caps i).digest = (caps j).digest ∧ (caps i).sig = (caps j).sig) →
          (∀ j, j ≠ k → ((caps k).digest ≠ (caps j).digest ∧ (caps k).sig = (caps j).sig ∧ x = 2) ∨ ((caps k).digest = (caps j).digest ∧ (caps k).sig ≠ (caps j).sig ∧ x = 3)) →
          Runs (.checkpointApply l) s fun t => t.pending = s.pending
            ∧ (k ≠ l → (t.lane l).on R.FIX_EVT F.FIX_EVT_ODDEV = true ∧ (t.lane l).fld R.FIX_EVT F.FIX_EVT_ODDLANE = k.num ∧ (t.lane l).fld R.FIX_EVT F.FIX_EVT_CAUSE = x
                ∧ (t.lane l).laneSt k.num = 4 ∧ (t.lane l).laneSt l.num = 3)
            ∧ (k = l → (t.lane l).laneSt l.num = 4 ∧ (t.lane l).eng = default ∧ (t.lane l).ck.cap = none))
  ∧ ∀ (s : State) (l : LaneId),
    ((∃ k, (s.lane k).inFix ≠ 7) → exec (.clockFault l) s = .next s)
    ∧ ((∀ k, (s.lane k).inFix = 7 ∧ (s.lane k).me = k.num ∧ (s.lane k).fld R.FIX_CTRL F.FIX_CTRL_MAXRESYNC ≠ 0) → Runs (.clockFault l) s fun t => t.pending = s.pending
        ∧ (t.lane l).eng = default ∧ ∀ k, (t.lane k).laneSt l.num = 4 ∧ (k ≠ l → (t.lane k).on R.FIX_EVT F.FIX_EVT_ODDEV = true ∧ (t.lane k).fld R.FIX_EVT F.FIX_EVT_ODDLANE = l.num
          ∧ (t.lane k).fld R.FIX_EVT F.FIX_EVT_CAUSE = 6 ∧ (t.lane k).laneSt k.num = 3))

/-- The comparisons of a checkpoint: a numeric word against its cocked hat takes the median of three values where at most one lies outside, or of two values within the half-width their mean; digests and signatures make the one that differs from two equal ones odd; inputs are agreed bitwise.
The numeric vote of the Fix and of a checkpoint: of three values the median stands where at least two of the three lie within the half-width of it, and exactly those farther away are outliers; of two values their mean, where they
differ by no more than the half-width; of fewer nothing. The voted value never lies outside the values given. -/
def Obligations.Comparisons : Prop :=
  ((∀ (w : Nat) (x y z : Int), let m := med3 x y z
      let far : Int → Bool := fun v => decide (w < (v - m).natAbs)
      (cnt [far x, far y, far z] ≤ 1 → (hat w [(0, x), (1, y), (2, z)]).1 = some m ∧ (hat w [(0, x), (1, y), (2, z)]).2.2 = false
          ∧ ∀ k, k ∈ (hat w [(0, x), (1, y), (2, z)]).2.1 ↔ (k = 0 ∧ far x = true) ∨ (k = 1 ∧ far y = true) ∨ (k = 2 ∧ far z = true))
        ∧ (2 ≤ cnt [far x, far y, far z] → hat w [(0, x), (1, y), (2, z)] = (none, [], true)))
    ∧ (∀ (w a b : Nat) (x y : Int), ((x - y).natAbs ≤ w → ∃ m, hat w [(a, x), (b, y)] = (some m, [], false) ∧ (2 * m - (x + y)).natAbs ≤ 1) ∧ (w < (x - y).natAbs → hat w [(a, x), (b, y)] = (none, [], true)))
    ∧ (∀ a b c x y z : Nat, (x = y → y = z → oddOne [(a, x), (b, y), (c, z)] = ([], false)) ∧ (x = y → y ≠ z → oddOne [(a, x), (b, y), (c, z)] = ([c], false))
        ∧ (x = z → x ≠ y → oddOne [(a, x), (b, y), (c, z)] = ([b], false)) ∧ (y = z → x ≠ y → oddOne [(a, x), (b, y), (c, z)] = ([a], false))
        ∧ (x ≠ y → y ≠ z → x ≠ z → oddOne [(a, x), (b, y), (c, z)] = ([], true)) ∧ oddOne [(a, x), (b, y)] = ([], decide (x ≠ y)))
    ∧ ∀ h a b c i : Nat, ((agreeBits h [a, b, c]).testBit i = true ↔ 2 ≤ cnt [a.testBit i, b.testBit i, c.testBit i])
      ∧ (agreeBits h [a, b]).testBit i = (if a.testBit i = b.testBit i then a.testBit i else h.testBit i))
  ∧ ((∀ (a b c h : Nat) (x y z : Int), let m := med3 x y z
      let far : Int → Bool := fun v => decide (h < (v - m).natAbs)
      (m = x ∨ m = y ∨ m = z) ∧ min x (min y z) ≤ m ∧ m ≤ max x (max y z) ∧ (x ≤ m ∨ y ≤ m) ∧ (m ≤ x ∨ m ≤ y)
        ∧ ((voteNum [(a, x), (b, y), (c, z)] h).1 = if 2 ≤ cnt [far x, far y, far z] then none else some m)
        ∧ (a = 0 → b = 1 → c = 2 → ∀ k, ((voteNum [(a, x), (b, y), (c, z)] h).2.testBit k = true ↔ (k = 0 ∧ far x = true) ∨ (k = 1 ∧ far y = true) ∨ (k = 2 ∧ far z = true))))
    ∧ (∀ (a b h : Nat) (x y : Int), let r := voteNum [(a, x), (b, y)] h
      r.2 = 0 ∧ ((x - y).natAbs ≤ h → ∃ m, r.1 = some m ∧ (2 * m - (x + y)).natAbs ≤ 1 ∧ min x y ≤ m ∧ m ≤ max x y) ∧ (h < (x - y).natAbs → r.1 = none))
    ∧ ∀ (a h : Nat) (x : Int), voteNum [(a, x)] h = (none, 0) ∧ voteNum [] h = (none, 0))

/-- A debugger's action enters the queue that all lanes carry out at their next apply instants, where the debug link is open; a ninth action, or a halt or step without a rig image, is refused. In halted lanes it acts at once. A breakpoint hit shows its address and queues a halt. -/
def Obligations.DebuggerActs : Prop :=
  (∀ (s : State) (addr v : Word),
    let cmds : List (Instr × DbgAct) := [(.debugHalt, .halt), (.debugStep, .step), (.debugResume, .resume), (.debugWrite addr v, .write addr v)]
    ∀ e ∈ cmds, (s.dbgOpen = false → exec e.1 s = .next s)
      ∧ (s.dbgOpen = true → (e.2 = .halt ∨ e.2 = .step) → s.a.on R.FIX_DBG F.FIX_DBG_RIG = false → Runs e.1 s fun t => t = { s with a := t.a } ∧ t.a.on R.FIX_EVT F.FIX_EVT_DBGEV = true ∧ Lane.Frame [R.FIX_EVT.addr] s.a t.a)
      ∧ (s.dbgOpen = true → (e.2 ≠ .halt ∧ e.2 ≠ .step) ∨ s.a.on R.FIX_DBG F.FIX_DBG_RIG = true → s.a.on R.FIX_DBG F.FIX_DBG_HALTED = false →
          (8 ≤ s.dbgq.length → Runs e.1 s fun t => t = { s with a := t.a } ∧ t.a.on R.FIX_EVT F.FIX_EVT_DBGEV = true ∧ Lane.Frame [R.FIX_EVT.addr] s.a t.a)
          ∧ (s.dbgq.length < 8 → Runs e.1 s fun t => (∃ ls, t.dbgq = s.dbgq ++ [⟨e.2, ls⟩]) ∧ t = { s with dbgq := t.dbgq, a := t.a, b := t.b, c := t.c }
              ∧ ∀ k, (t.lane k).fld R.FIX_DBG F.FIX_DBG_QLEVEL = s.dbgq.length + 1 ∧ Lane.Frame [R.FIX_DBG.addr] (s.lane k) (t.lane k) ∧ (e.2 = .halt → (t.lane k).on R.FIX_DBG F.FIX_DBG_HREQ = true))))
  ∧ (∀ s : State, s.dbgOpen = true → (∀ k, (s.lane k).on R.FIX_DBG F.FIX_DBG_HALTED = true) →
      (Runs .debugResume s fun t => t.dbgq = s.dbgq ∧ t.pending = s.pending ∧ ∀ k, (t.lane k).on R.FIX_DBG F.FIX_DBG_HALTED = false ∧ (t.lane k).on R.FIX_DBG F.FIX_DBG_BPHIT = false ∧ ∀ i, i < 20 → (t.lane k).edg.held.at i = true)
      ∧ (s.a.on R.FIX_DBG F.FIX_DBG_RIG = true → Runs .debugStep s fun t => t.dbgq = s.dbgq ∧ t.pending = s.pending ∧ ∀ k, (t.lane k).on R.FIX_DBG F.FIX_DBG_HALTED = false ∧ (t.lane k).ck.stepOne = true)
      ∧ ∀ (a : Nat) (v : Word), 0x20000000 ≤ a → a + 4 ≤ 0x20100000 → a % 4 = 0 → (∀ k, (s.lane k).bankOut a = false) →
          Runs (.debugWrite (w32 a) v) s fun t => t.dbgq = s.dbgq ∧ ∀ k, (t.lane k).memW a = v ∧ Lane.RegsBut [] (s.lane k) (t.lane k))
  ∧ ∀ (s : State) (addr : Word), (s.a.on R.FIX_DBG F.FIX_DBG_HALTED = true → exec (.breakpointHit addr) s = .next s)
    ∧ (s.a.on R.FIX_DBG F.FIX_DBG_HALTED = false → Runs (.breakpointHit addr) s fun t => t.a.rd R.FIX_BPADDR = addr ∧ t.a.on R.FIX_DBG F.FIX_DBG_BPHIT = true ∧ t.pending = s.pending
        ∧ Lane.Frame [R.FIX_BPADDR.addr, R.FIX_DBG.addr, R.FIX_EVT.addr] s.a t.a
        ∧ (s.a.on R.FIX_DBG F.FIX_DBG_RIG = true → s.dbgq.length < 8 → ∃ ls, t.dbgq = s.dbgq ++ [⟨.halt, ls⟩])
        ∧ (s.a.on R.FIX_DBG F.FIX_DBG_RIG = false ∨ 8 ≤ s.dbgq.length → t.a.on R.FIX_EVT F.FIX_EVT_DBGEV = true ∧ t.dbgq = s.dbgq))

/-! ### Edges and dies -/

/-- A load makes the pending schedule of every bridge in the mask its loaded one, and leaves the others.
A clear written for a bridge, a valve channel, a safety output or a trip input is carried by the next packet to its die, and nothing else changes (R321); the packet takes all clears that wait for its die, and the one after it takes only what has been
written since (R322). -/
def Obligations.EdgeControl : Prop :=
  (∀ (s : State) (l : LaneId) (v : Word), s.Quiet → (s.lane l).edg.ldTick ≠ (s.lane l).ticks + 1 →
      RunsLane (.edgeLoad l v) s l fun L M => M.fld R.EDG_LDSTAT F.EDG_LDSTAT_LAST = F.EDG_LOAD_BMASK.get v
        ∧ (∀ b, b < 8 → (F.EDG_LOAD_BMASK.get v).testBit b = true → M.edg.loaded.at b = ⟨L.pendLen b, (List.range 3).map fun k => L.edg.legs.at (3 * b + k)⟩)
        ∧ (∀ b, b < 8 → (F.EDG_LOAD_BMASK.get v).testBit b = false → M.edg.loaded.at b = L.edg.loaded.at b)
        ∧ Lane.Frame [R.EDG_LDSTAT.addr] L M)
  ∧ (∀ (s : State) (l : LaneId), s.Quiet → (s.lane l).small = false →
      (∀ b : Fin 8, RunsLane (.bridgeClear l b) s l fun L M => M.edg = { L.edg with clr := L.edg.clr.upd (b.val / 2) fun m => m ||| 2 ^ (8 + b.val % 2) } ∧ Lane.Frame [] L M)
      ∧ (∀ x : Fin 12, RunsLane (.valveClear l x) s l fun L M => M.edg = { L.edg with clr := L.edg.clr.upd (x.val / 3) fun m => m ||| 2 ^ (10 + x.val % 3) } ∧ Lane.Frame [] L M)
      ∧ (∀ o : Fin 8, RunsLane (.safetyOutputClear l o) s l fun L M => M.edg = { L.edg with clr := L.edg.clr.upd (o.val / 2) fun m => m ||| 2 ^ (13 + o.val % 2) } ∧ Lane.Frame [] L M)
      ∧ (∀ t : Fin 8, RunsLane (.tripClear l t) s l fun L M => M.edg = { L.edg with clr := L.edg.clr.upd (t.val / 2) fun m => m ||| 2 ^ (15 + t.val % 2) } ∧ Lane.Frame [] L M)
      ∧ ∀ n : Fin 4, let k := dieKey n
        (s.lane l).sends l.num = true → (s.lane l).edg.seen.at k = true → (s.lane l).voteTick k ≤ (s.lane l).ticks + 500 → (s.lane l).hasSent k ((s.lane l).edg.pnum.at k + 1) = false →
        Runs (.diePacketBuild l n) s fun t => (t.lane l).hasSent k ((s.lane l).edg.pnum.at k + 1) = true ∧ (t.lane l).edg.clr.at n = 0 ∧ (∀ m : Fin 4, m ≠ n → (t.lane l).edg.clr.at m = (s.lane l).edg.clr.at m)
          ∧ ((s.die n).on = true → 2 ≤ (s.die n).links.at l.num → ∃ p : Pkt, (t.die n).tx = (s.die n).tx ++ [(l.num, p.words)] ∧ p.lane = l.num ∧ p.res = none
              ∧ p.seq = (s.lane l).edg.pnum.at k + 1 ∧ p.clr = (s.lane l).edg.clr.at n))

/-- Enabling a bridge checks its configuration: one that fails is not enabled at its die and sets CFGERR; an output that a join or a halt left off waits no longer. SYNC reads 0 on an even bridge.
Enabling a commutation block in OFF arms it where an active axis binds its bridge; disabling it takes the arming away, and a block out of OFF
ends with the next period whatever is written until then. -/
def Obligations.BridgeControl : Prop :=
  (∀ (s : State) (l : LaneId) (b : Fin 8) (v : Word), s.Quiet → (s.lane l).Unlocked → (s.lane l).small = false → (s.lane l).on (R.EDG_BCFG b) F.EDG_BCFG_EN = false →
      RunsLane (.bridgeEnable l b v) s l fun L M => M.rd (R.EDG_BCFG b) = L.taken (R.EDG_BCFG b) 0xD (if b.val % 2 = 0 then F.EDG_BCFG_SYNC.set (F.EDG_BCFG_EN.set v 1) 0 else F.EDG_BCFG_EN.set v 1)
        ∧ M.edg = { L.edg with bok := L.edg.bok.set b (L.bridgeOk b), held := L.edg.held.filter fun e => !decide (e.1 = b.val) }
        ∧ (L.bridgeOk b = false → M.on (R.EDG_BEVT b) F.EDG_BEVT_CFGERR = true ∧ Lane.Frame [(R.EDG_BCFG b).addr, (R.EDG_BEVT b).addr] L M)
        ∧ (L.bridgeOk b = true → Lane.Frame [(R.EDG_BCFG b).addr] L M))
  ∧ (∀ (s : State) (l : LaneId) (b : Fin 8) (v : Word), s.Quiet → (s.lane l).Unlocked → (s.lane l).small = false →
      ((s.lane l).mcEn b = false → (s.lane l).mcSt b = 0 →
        RunsLane (.commutationEnable l b v) s l fun L M => M.mcEn b = true ∧ M.mcSt b = 0
          ∧ M.mc = (if (L.axisOfBridge b).isSome then L.mc.upd b fun m => { m with armed := 1 } else L.mc) ∧ Lane.Frame [(R.EDG_MCTL b).addr] L M)
      ∧ ((s.lane l).mcEn b = true →
        RunsLane (.commutationDisable l b v) s l fun L M => M.mcEn b = false ∧ M.mc = L.mc.upd b (fun m => { m with armed := 0, closing := m.closing || decide (L.mcSt b ≠ 0) })
          ∧ Lane.Frame [(R.EDG_MCTL b).addr] L M))

/-- The protections of a bridge at a die that has power. The opposite gate's fall starts the dead time of the switch that is to come on, where the schedule, the state with every low side on or a refresh turns it on; a switch
whose opposite is on waits for that fall. An interlock fault and a high side that does not open switch the bridge off at once and latch it; a refresh is made when the leg's count has reached REFN: its high side goes off so that
the low side comes on for REFW about the middle of the period. A bootstrap below 8.0 V holds the leg low for the rest of the period while the bridge has just begun to switch and the high side is only due, and else latches with
the next period.
A short on a switch that is on, found by either tier: the leg turns off and the latch begins with the next period, with the first short's leg and class shown; a second leg of the same period
within 500 ns makes it phase to phase and switches the bridge off at once. A switch that is off is not compared. -/
def Obligations.BridgeProtection : Prop :=
  ((∀ (s : State) (b : Fin 8) (leg : Leg), let n := b.val / 2; let i := b.val % 2; (s.die n).on = true →
      let dt := F.EDG_BTIM_DT.get ((s.die n).actOf (R.EDG_BTIM b))
      let latchedNow : Bool → Nat → Die → Die → Prop := fun may ev d e =>
        (may = true → (e.br i).latched = true ∧ (e.br i).switching = false ∧ (e.br i).lows = false ∧ (e.br i).gates = [] ∧ (e.br i).evt = (d.br i).evt ||| ev
          ∧ (e.br i).legsOff = 2 ^ leg.num ∧ (e.br i).r = (d.br i).r ∧ d.BrOnly i e)
        ∧ (may = false → e = d.dropTest)
      (∀ side : Side, RunsDie (.oppositeGateFall b leg side) s n fun d e =>
        let x := d.br i
        let g := x.gates.at leg.num
        let may := x.legsOff.testBit leg.num = false ∧ (side = .high → x.legsLow.testBit leg.num = false) ∧ (x.switching = true ∨ (x.lows = true ∧ side = .low))
        (may → (e.br i).gates.at leg.num = (if 0 < g.hold ∧ side = .low then ⟨some .low, dt, some .high, g.off, g.hold⟩ else ⟨some side, dt, none, 0, 0⟩)
            ∧ (∀ k, k ≠ leg.num → (e.br i).gates.at k = x.gates.at k) ∧ (e.br i).switching = x.switching ∧ d.BrOnly i e)
        ∧ (¬may → e = d.dropTest))
      ∧ RunsDie (.interlockFault b leg) s n (latchedNow (((s.die n).br i).switching || ((s.die n).br i).lows) F.EDG_BEVT_ILK.mask.toNat)
      ∧ RunsDie (.highSideStuck b leg) s n (latchedNow ((s.die n).br i).switching F.EDG_BEVT_HSSTUCK.mask.toNat)
      ∧ (∀ rloss : Nat, RunsDie (.refreshInsert b leg rloss) s n fun d e =>
        let x := d.br i
        let w := F.EDG_BREF_REFW.get (d.actOf (R.EDG_BREF b))
        let due := x.switching = true ∧ F.EDG_BREF_REFN.get (d.actOf (R.EDG_BREF b)) ≤ x.hh.at leg.num ∧ 0 < x.hh.at leg.num
          ∧ x.legsOff.testBit leg.num = false ∧ x.legsLow.testBit leg.num = false
        (due → (e.br i).hh.at leg.num = 0 ∧ (e.br i).rloss.at leg.num = rloss ∧ (e.br i).refrMask = x.refrMask ||| 2 ^ leg.num
            ∧ (e.br i).refreshes = min 65535 (x.refreshes + 1) ∧ (e.br i).switching = true ∧ (e.br i).gates.at leg.num = ⟨none, 0, some .low, x.plen / 2 - w / 2 - dt, w⟩
            ∧ (∀ k, k ≠ leg.num → (e.br i).gates.at k = x.gates.at k) ∧ d.BrOnly i e) ∧ (¬due → e = d.dropTest))
      ∧ ∀ on : Bool, RunsDie (.bootstrapUndervoltage b leg on) s n fun d e =>
          let x := d.br i
          let may := x.switching = true ∧ x.legsOff.testBit leg.num = false ∧ x.legsLow.testBit leg.num = false
          (¬may → e = d.dropTest)
          ∧ (may → (e.br i).legsLow = x.legsLow ||| 2 ^ leg.num ∧ (e.br i).gates.at leg.num = (x.gates.at leg.num).turnTo dt .low ∧ (e.br i).hh.at leg.num = 0
              ∧ (e.br i).carry = x.carry ∧ d.BrOnly i e
              ∧ (on = false ∧ x.since ≤ 8 → (e.br i).bstMask = x.bstMask ||| 2 ^ leg.num ∧ (e.br i).latchNext = x.latchNext ∧ (e.br i).evt = x.evt)
              ∧ (on = true ∨ 8 < x.since → (e.br i).latchNext = true ∧ (e.br i).lowBst = true ∧ (e.br i).evt = x.evt ||| F.EDG_BEVT_BSTUV.mask.toNat)))
    ∧ ∀ (g : LegGate) (dt : Nat) (on w : Side), g.side = some on →
        (on ≠ w → g.turnTo dt w = ⟨none, 0, some w, 0, 0⟩) ∧ (on = w → (g.turnTo dt w).side = some w ∧ (g.turnTo dt w).dead = g.dead))
  ∧ (∀ (s : State) (b : Fin 8) (leg : Leg) (side : Side) (t ev : Nat) (x : Instr), let n := b.val / 2; let i := b.val % 2; (s.die n).on = true →
      (x = .desaturation b leg side t ∧ ev = F.EDG_BEVT_DESAT.mask.toNat) ∨ (x = .hardShort b leg side t ∧ ev = F.EDG_BEVT_HARD.mask.toNat) →
      RunsDie x s n fun d e =>
        let second := match (d.br i).shortAt with | some (q, t0, m) => q = (d.br i).r.seq ∧ t ≤ t0 + 800 ∧ m.testBit leg.num = false | none => False
        let on := ((d.br i).gates.at leg.num).side = some side
        (¬on → e = d.dropTest)
        ∧ (on → ¬second → (e.br i).latchNext = true ∧ (e.br i).gates.at leg.num = default ∧ (e.br i).legsOff = (d.br i).legsOff ||| 2 ^ leg.num ∧ (∀ k, k ≠ leg.num → (e.br i).gates.at k = (d.br i).gates.at k)
            ∧ (e.br i).evt = (d.br i).evt ||| ev ∧ ((d.br i).legs = 0 → (e.br i).legs = 2 ^ leg.num ∧ (e.br i).cls = if side = .high then 1 else 2)
            ∧ ((d.br i).legs ≠ 0 → (e.br i).legs = (d.br i).legs ∧ (e.br i).cls = (d.br i).cls) ∧ (e.br i).shortAt = some ((d.br i).r.seq, t, 2 ^ leg.num) ∧ (e.br i).r = (d.br i).r ∧ d.BrOnly i e)
        ∧ (on → second → (e.br i).latched = true ∧ (e.br i).switching = false ∧ (e.br i).gates = [] ∧ (e.br i).cls = 3 ∧ (∀ q t0 m, (d.br i).shortAt = some (q, t0, m) → (e.br i).legs = m ||| 2 ^ leg.num)
            ∧ (e.br i).evt = (d.br i).evt ||| (ev ||| F.EDG_BEVT_PHPH.mask.toNat) ∧ (e.br i).r = (d.br i).r ∧ d.BrOnly i e))

/-- The gate rail's fall and a checker mismatch switch every output of the die off at once and latch each resource; the rail's recovery lets its latches be cleared. A trip input that becomes active latches at once, or waits for
the end of a blanking window on it, and a latched trip switches off what its masks name; the end of the level before the window's sets BLANKED.
The faults of a valve channel: an open load after ten periods, the third overcurrent of its low side in a row, an overcurrent of its main switch and a deviation for VDEVT switch it off and latch it; the first two
overcurrents turn the low side off for the period, but not in the channel's own off-pulse test. A short or an overload switches a safety
output that is on off and latches it, but for a low readback in the output's own off-pulse, which is no short. One off-pulse test runs at a time, on an item that can be tested; one that fails latches it. -/
def Obligations.OutputsOff : Prop :=
  ((∀ (s : State) (x : Fin 4), (s.die x.val).on = true →
      let allOff : Die → Die → Prop := fun d e => e.offConf = true ∧ (∀ i, i < 2 → (e.br i).latched = true ∧ (e.br i).r = (d.br i).r ∧ (e.so.at i).latched = true ∧ (e.so.at i).flags = (d.so.at i).flags)
        ∧ (∀ i, i < 3 → (e.vl.at i).latched = true ∧ (e.vl.at i).r = (d.vl.at i).r) ∧ e.fault = true ∧ e.test = none ∧ e.cfg = d.cfg ∧ e.act = d.act ∧ e.tr = d.tr ∧ e.links = d.links
      RunsDie (.gateRailUndervoltage x) s x.val (fun d e => allOff d e ∧ e.railOk = false ∧ e.railHeld = true ∧ e.flags = d.flags ||| F.EDG_DDSTAT_GDUV.mask.toNat ∧ e.chk = d.chk)
      ∧ RunsDie (.gateRailRecover x) s x.val (fun d e => e = Die.dropTest { d with railOk := true, railHeld := false })
      ∧ RunsDie (.checkerMismatch x) s x.val fun d e => allOff d e ∧ e.chk = true ∧ e.railOk = d.railOk ∧ e.flags = d.flags)
    ∧ ∀ (s : State) (t : Fin 8), let n := t.val / 2; let i := t.val % 2; (s.die n).on = true →
      let trips : Die → Die → Prop := fun d e => (e.tr.at i).latch = true ∧ (e.tr.at i).pend = false ∧ (e.tr.at i).flags = (d.tr.at i).flags ||| F.EDG_TRSTAT_TRIPEV.mask.toNat
        ∧ e.tr.at (1 - i) = d.tr.at (1 - i) ∧ e.cfg = d.cfg ∧ e.act = d.act
        ∧ (∀ k, k < 2 → (F.EDG_TRCFG_ACTBR.get (d.actOf (R.EDG_TRCFG t))).testBit k = true → (e.br k).switching = false ∧ (e.br k).gates = [] ∧ (e.br k).r = (d.br k).r)
        ∧ (∀ k, k < 3 → (F.EDG_TRCFG_ACTVLV.get (d.actOf (R.EDG_TRCFG t))).testBit k = true → (e.vl.at k).switching = false ∧ (e.vl.at k).r = (d.vl.at k).r)
        ∧ ∀ k, k < 2 → (F.EDG_TRCFG_ACTSO.get (d.actOf (R.EDG_TRCFG t))).testBit k = true → (e.so.at k).on = false
      (∀ blank : Bool, RunsDie (.tripInputActive t blank) s n fun d e =>
        let sel := [0, 1].any fun b => (F.EDG_BBLK_TBLK.get (d.actOf (R.EDG_BBLK (2 * n + b)))).testBit i
        let en := F.EDG_TRCFG_EN.on (d.actOf (R.EDG_TRCFG t))
        (en = false → e = d.dropTest) ∧ (en = true → blank && sel = true → (e.tr.at i).level = true ∧ (e.tr.at i).pend = true ∧ (e.tr.at i).latch = (d.tr.at i).latch ∧ d.TrOnly i e)
          ∧ (en = true → blank && sel = false → (e.tr.at i).level = true ∧ trips d e))
      ∧ RunsDie (.tripInputInactive t) s n (fun d e => (e.tr.at i).level = false ∧ (e.tr.at i).pend = false ∧ (e.tr.at i).latch = (d.tr.at i).latch ∧ d.TrOnly i e
          ∧ (e.tr.at i).flags = if (d.tr.at i).pend then (d.tr.at i).flags ||| F.EDG_TRSTAT_BLANKED.mask.toNat else (d.tr.at i).flags)
      ∧ RunsDie (.blankingWindowEnd t) s n fun d e => ((d.tr.at i).pend && (d.tr.at i).level = true → trips d e ∧ (e.tr.at i).level = true)
          ∧ ((d.tr.at i).pend && (d.tr.at i).level = false → e = d.dropTest))
  ∧ ((∀ (s : State) (v : Fin 12), let n := v.val / 3; let i := v.val % 3; (s.die n).on = true →
      let off : Nat → Die → Die → Prop := fun ev d e => (e.vl.at i).latched = true ∧ (e.vl.at i).switching = false ∧ (e.vl.at i).sum = 0 ∧ (e.vl.at i).duty = 0
        ∧ (e.vl.at i).flags = (d.vl.at i).flags ||| ev ∧ (e.vl.at i).iset = (d.vl.at i).iset ∧ (e.vl.at i).r = (d.vl.at i).r ∧ d.VlOnly i e
      RunsDie (.valveOpenLoad v) s n (fun d e => (10 ≤ (d.vl.at i).openCnt → off F.EDG_VEVT_OPEN.mask.toNat d e) ∧ ((d.vl.at i).openCnt < 10 → e = d.dropTest))
      ∧ RunsDie (.valveMainOvercurrent v) s n (fun d e => ((d.vl.at i).switching = true → off F.EDG_VEVT_HSSC.mask.toNat d e) ∧ ((d.vl.at i).switching = false → e = d.dropTest))
      ∧ RunsDie (.valveDeviation v) s n (fun d e =>
          let due := 8 * F.EDG_VLIM_VDEVT.get (d.actOf (R.EDG_VLIM v)) ≤ (d.vl.at i).devCnt ∧ 0 < (d.vl.at i).devCnt
          (due → off F.EDG_VEVT_DEV.mask.toNat d e) ∧ (¬due → e = d.dropTest))
      ∧ RunsDie (.valveLowSideOvercurrent v) s n fun d e =>
          let counts := (d.vl.at i).switching = true ∧ (d.vl.at i).ovcNow = false
          (¬counts → e = d.dropTest) ∧ (counts → 2 ≤ (d.vl.at i).ovcCnt → off F.EDG_VEVT_OVC.mask.toNat d e ∧ (e.vl.at i).ovcCnt = 0)
          ∧ (counts → (d.vl.at i).ovcCnt < 2 → (e.vl.at i).lsOff = decide (d.test ≠ some i) ∧ (e.vl.at i).ovcCnt = (d.vl.at i).ovcCnt + 1 ∧ (e.vl.at i).switching = true
              ∧ (e.vl.at i).latched = (d.vl.at i).latched ∧ d.VlOnly i e))
    ∧ (∀ (s : State) (o : Fin 8) (x : Instr) (ev : Nat), let n := o.val / 2; let i := o.val % 2; (s.die n).on = true →
      (x = .safetyOutputShort o ∧ ev = F.EDG_SOSTAT_SHORT.mask.toNat) ∨ (x = .safetyOutputOverload o ∧ ev = F.EDG_SOSTAT_OVC.mask.toNat) →
      RunsDie x s n fun d e =>
        let own := ev = F.EDG_SOSTAT_SHORT.mask.toNat ∧ ∃ k, d.test = some k ∧ 3 ≤ k ∧ (k - 3) / 2 = i
        ((d.so.at i).on = true ∧ ¬own → (e.so.at i).on = false ∧ (e.so.at i).latched = true ∧ (e.so.at i).flags = (d.so.at i).flags ||| ev ∧ d.SoOnly i e)
        ∧ ((d.so.at i).on = false ∨ own → e = d.dropTest))
    ∧ ∀ (s : State) (x : Fin 4), (s.die x.val).on = true →
      (∀ item : Fin 7, RunsDie (.offPulseTestStart x item) s x.val fun d e =>
        (d.test = none → d.testable item.val = true → e = { d with test := some item.val }) ∧ (d.test ≠ none ∨ d.testable item.val = false → e = d.dropTest))
      ∧ ∀ pass : Bool, RunsDie (.offPulseTestEnd x pass) s x.val fun d e =>
          (d.test = none → e = d)
          ∧ (∀ k, d.test = some k → e.test = none ∧ e.opLast = k ∧ e.opDone = true ∧ e.opPass = pass ∧ e.cfg = d.cfg ∧ e.b0 = d.b0 ∧ e.b1 = d.b1 ∧ e.tr = d.tr
              ∧ (k < 3 → e.so = d.so ∧ (pass = true → e.vl = d.vl)
                  ∧ (pass = false → (e.vl.at k).latched = true ∧ (e.vl.at k).switching = false ∧ (e.vl.at k).flags = (d.vl.at k).flags ||| F.EDG_VEVT_OPFAIL.mask.toNat))
              ∧ (3 ≤ k → let i := (k - 3) / 2
                  e.vl = d.vl ∧ (e.so.at i).opok = pass ∧ (e.so.at i).sw2 = !(d.so.at i).sw2 ∧ (pass = true → (e.so.at i).on = (d.so.at i).on ∧ (e.so.at i).latched = (d.so.at i).latched)
                  ∧ (pass = false → (e.so.at i).on = false ∧ (e.so.at i).latched = true
                      ∧ (e.so.at i).flags = (d.so.at i).flags ||| (if k % 2 = 1 then F.EDG_SOSTAT_STUCK1.mask.toNat else F.EDG_SOSTAT_STUCK2.mask.toNat)))))

/-- The start of a bridge's or a valve channel's period at its die: the period counts, the voted flags and the configuration copies are in force, the resource switches exactly where nothing holds it off, what has waited for the
period latches, and the report of the period that has ended and the mark go to every lane whose link is up. Each leg of a bridge is commanded to the side with which its schedule begins, through the dead time where the other side
is on; a leg held high for the whole period counts towards a refresh; a bridge that does not switch loses its carries. A bridge with SYNC starts with its neighbour and not on its own. A switching valve channel's duty is what its
regulator gives, and its mean current is held against the set-point of the period that has ended; an off-pulse test of a channel that stops is abandoned.
Pulse shaping: for edges within the period and a carry no longer than it, the pulse that is driven is none, the whole period, or one that is high for at least the threshold and low for at least it on either side; what it is longer or
shorter than requested is in the carry, so that no time is lost. -/
def Obligations.PeriodsAndShaping : Prop :=
  ((∀ (s : State) (b : Fin 8) (imeas : Nat), let n := b.val / 2; let i := b.val % 2; (s.die n).on = true →
      let out : Nat → Die → List (Nat × Ret) := fun k d =>
        (([0, 1, 2].filter fun l => decide (2 ≤ d.links.at l)).map fun l => (l, Ret.bridge k (d.brReport n k)))
          ++ (([0, 1, 2].filter fun l => decide (2 ≤ d.links.at l)).map fun l => (l, Ret.mark k ((d.br k).r.seq + 1)))
      let started : Nat → Die → Die → Prop := fun k d e =>
        let x := d.br k
        let y := e.br k
        let dt := F.EDG_BTIM_DT.get (d.cfgOf (R.EDG_BTIM (2 * n + k)))
        y.r.seq = x.r.seq + 1 ∧ y.r.vdone = false ∧ y.r.slots = [] ∧ y.r.curEn = x.r.en ∧ y.r.curStop = x.r.stop ∧ y.r.curOffreq = x.r.offreq ∧ y.switching = d.brMaySwitch n k
        ∧ y.latched = (x.latched || x.latchNext) ∧ y.latchNext = false ∧ y.evt = 0 ∧ y.legs = 0 ∧ y.cls = 0 ∧ y.voted = x.voted ∧ y.plen = d.brLen n k
        ∧ (y.switching = false → y.carry = [] ∧ ∀ j, j < 3 → y.gates.at j = if d.brLowsOn n k then (x.gates.at j).turnTo dt .low else default)
        ∧ (y.switching = true →
            (x.next ≠ [] ∨ x.cur ≠ [] → y.cur = (if x.next.isEmpty then x.cur else x.next) ∧ y.carry = x.carry)
            ∧ (x.next = [] → x.cur = [] → y.cur = ((d.shapeBr n k).br k).next ∧ y.carry = ((d.shapeBr n k).br k).carry)
            ∧ ∀ j, j < 3 → y.gates.at j = (x.gates.at j).turnTo dt (if y.cur[j]?.any (fun e => decide (e.1 = 0) && decide (0 < e.2)) then .high else .low))
        ∧ (∀ j, j < 3 → y.hh.at j = if y.cur[j]? = some (0, y.plen) ∧ 0 < y.plen then x.hh.at j + 1 else 0)
        ∧ ∀ r ∈ brCfg n k, e.actOf r = d.cfgOf r
      RunsDie (.periodStart (.bridge b) imeas) s n fun d e =>
        let follows := F.EDG_BCFG_SYNC.on (d.cfgOf (R.EDG_BCFG (2 * n + 1))) = true
        (i = 1 → follows → e = d.dropTest)
        ∧ (i = 0 ∨ ¬follows → started i d e ∧ e = Die.dropTest { d with ret := e.ret, act := e.act, b0 := e.b0, b1 := e.b1 })
        ∧ (i = 0 → follows → started 1 d e ∧ e.ret = d.ret ++ out 0 d ++ out 1 d)
        ∧ (¬follows → e.ret = d.ret ++ out i d ∧ e.br (1 - i) = d.br (1 - i)))
    ∧ ∀ (s : State) (v : Fin 12) (imeas : Nat), let n := v.val / 3; let i := v.val % 3; (s.die n).on = true →
      RunsDie (.periodStart (.valve v) imeas) s n fun d e =>
        let x := d.vl.at i
        let y := e.vl.at i
        let reg := valveDuty (F.EDG_VREG_KP.get (d.cfgOf (R.EDG_VREG v))) (F.EDG_VREG_KI.get (d.cfgOf (R.EDG_VREG v))) x.iset (d.dither n i) imeas x.duty x.sum
        y.r.seq = x.r.seq + 1 ∧ y.r.curEn = x.r.en ∧ y.switching = d.vlMaySwitch n i ∧ y.imeas = imeas ∧ y.flags = 0 ∧ y.iset = x.iset ∧ y.isetCur = x.iset ∧ y.latched = x.latched
        ∧ (y.switching = false → y.duty = 0 ∧ y.sum = 0) ∧ (y.switching = true → d.test ≠ some i → y.duty = reg.1 ∧ y.sum = reg.2 ∧ y.dutyPrev = x.duty)
        ∧ (y.switching = true → d.test = some i → y.duty = x.duty ∧ y.sum = x.sum)
        ∧ (y.switching = false → d.test = some i → e.test = none)
        ∧ y.openCnt = (if x.switching = true ∧ 20 * imeas < x.isetCur ∧ 1000 < x.isetCur ∧ 58982 < x.duty then x.openCnt + 1 else 0)
        ∧ y.devCnt = (if x.switching = true ∧ F.EDG_VLIM_VDEV.get (d.actOf (R.EDG_VLIM v)) < ((imeas : Int) - (x.isetCur + x.dith)).natAbs then x.devCnt + 1 else 0)
        ∧ e.ret = d.ret ++ (([0, 1, 2].filter fun l => decide (2 ≤ d.links.at l)).map fun l => (l, Ret.valve (2 + i) ⟨imeas, x.duty, x.flags, x.latched⟩))
            ++ (([0, 1, 2].filter fun l => decide (2 ≤ d.links.at l)).map fun l => (l, Ret.mark (2 + i) (x.r.seq + 1)))
        ∧ e.b0 = d.b0 ∧ e.b1 = d.b1 ∧ e.so = d.so ∧ e.tr = d.tr ∧ e.cfg = d.cfg ∧ (∀ k, k ≠ i → e.vl.at k = d.vl.at k) ∧ ∀ r ∈ vlCfg n i, e.actOf r = d.cfgOf r)
  ∧ (∀ (r f t q : Nat) (c : Int), r ≤ f → f ≤ t → c.natAbs ≤ t → 4 * q ≤ t →
      let x := shapeLeg r f t q c
      x.1.1 ≤ x.1.2 ∧ x.1.2 ≤ t ∧ (x.1.1 = x.1.2 ∨ (x.1.1 = 0 ∧ x.1.2 = t) ∨ (q ≤ x.1.2 - x.1.1 ∧ q ≤ x.1.1 ∧ q ≤ t - x.1.2))
        ∧ ((f : Int) - r) + c = ((x.1.2 : Int) - x.1.1) + x.2 ∧ x.2.natAbs ≤ t)

/-- The vote for a resource, once in each of its periods: the packets of the coming vote are used up; with agreement the voted schedule or set-point is taken and the hold starts afresh, without it the last one stays and the missing
agreement counts, and once it has lasted beyond HOLD the resource is switched off until it is enabled afresh; EN, STOP and OFFREQ are voted either way, with the safe value for a lane without a valid packet. Under the split hold
the schedule and the enable stay as they are, and where the vote begins it, every output is off. A bridge with SYNC is voted with its neighbour; a channel voted off in its own off-pulse test ends the test. -/
def Obligations.DieVotes : Prop :=
  (∀ (s : State) (b : Fin 8), let n := b.val / 2; let i := b.val % 2; (s.die n).on = true →
    RunsDie (.dieVote (.bridge b)) s n fun d e =>
      let x := (d.br i).r
      let y := (e.br i).r
      let follows := F.EDG_BCFG_SYNC.on (d.cfgOf (R.EDG_BCFG (2 * n + 1))) = true
      let pl := d.sameVote x.slots (·.plen)
      let edge : Nat → Option Int := fun k => (d.numVote x.slots (d.ewin n) fun p => ((min (p.edges.getD k 0) (pl.getD 0) : Nat) : Int)).1
      let agree := pl.isSome = true ∧ ∀ k, k < 6 → (edge k).isSome = true
      (x.vdone = true ∨ (i = 1 ∧ follows) → e = d.dropTest)
      ∧ (x.vdone = false → i = 0 ∨ ¬follows →
          y.vdone = true ∧ y.slots = [] ∧ y.stop = d.bitVote x.slots true (·.stop) ∧ y.offreq = d.bitVote x.slots true (·.offreq) ∧ y.seq = x.seq ∧ e.cfg = d.cfg
          ∧ (d.split = true → y.en = x.en ∧ y.agreed = x.agreed ∧ (e.br i).voted = (d.br i).voted)
          ∧ (d.split = false → y.en = d.bitVote x.slots false (·.en)
              ∧ (agree → y.agreed = true ∧ y.noagr = 0 ∧ y.holdDue = false ∧ (e.br i).voted.plen = pl.getD 0 ∧ ∀ k, k < 6 → (e.br i).voted.edges[k]? = some ((edge k).getD 0).toNat)
              ∧ (¬agree → y.agreed = x.agreed ∧ (e.br i).voted = (d.br i).voted ∧ (x.agreed = true → y.noagr = x.noagr + 1 ∧ (d.hold n < y.noagr → x.heldOff = false → y.holdDue = true))))
          ∧ (i = 0 → follows → e.b1.r.vdone = true ∧ e.b1.r.slots = [])
          ∧ (¬follows → d.split = false → d.sameVote x.slots (·.split) = some true → e.split = true ∧ e.offConf = true)
          ∧ (¬follows → d.split = true ∨ d.sameVote x.slots (·.split) ≠ some true →
              (e.br i).switching = (d.br i).switching ∧ (e.br i).cur = (d.br i).cur ∧ (e.br i).gates = (d.br i).gates ∧ e.br (1 - i) = d.br (1 - i) ∧ e.vl = d.vl ∧ e.so = d.so)))
  ∧ (∀ (s : State) (v : Fin 12), let n := v.val / 3; let i := v.val % 3; (s.die n).on = true →
    RunsDie (.dieVote (.valve v)) s n fun d e =>
      let x := (d.vl.at i).r
      let y := (e.vl.at i).r
      let res := (d.numVote x.slots (d.vwin n) fun p => (p.iset : Int)).1
      let ends := d.split = false ∧ d.test = some i ∧ (y.en = false ∨ y.stop = true ∨ y.offreq = true)
      (x.vdone = true → e = d.dropTest)
      ∧ (x.vdone = false →
          y.vdone = true ∧ y.slots = [] ∧ y.stop = d.bitVote x.slots true (·.stop) ∧ y.offreq = d.bitVote x.slots true (·.offreq) ∧ e.cfg = d.cfg
          ∧ (d.split = true → y.en = x.en ∧ y.agreed = x.agreed ∧ (e.vl.at i).iset = (d.vl.at i).iset)
          ∧ (d.split = false → y.en = d.bitVote x.slots false (·.en)
              ∧ (∀ z, res = some z → (e.vl.at i).iset = z.toNat ∧ y.agreed = true ∧ y.noagr = 0) ∧ (res = none → (e.vl.at i).iset = (d.vl.at i).iset ∧ y.agreed = x.agreed))
          ∧ (ends → (e.vl.at i).switching = false ∧ e.test = none)
          ∧ (d.split = false → d.sameVote x.slots (·.split) = some true → e.split = true ∧ e.offConf = true)
          ∧ (¬ends → d.split = true ∨ d.sameVote x.slots (·.split) ≠ some true →
              (e.vl.at i).switching = (d.vl.at i).switching ∧ (e.vl.at i).duty = (d.vl.at i).duty ∧ e.b0 = d.b0 ∧ e.b1 = d.b1 ∧ e.so = d.so)))
  ∧ (∀ (s : State) (b : Fin 8), let n := b.val / 2; let i := b.val % 2; (s.die n).on = true →
    RunsDie (.voteHoldOff (.bridge b)) s n fun d e => ((d.br i).r.holdDue = false → e = d.dropTest)
      ∧ ((d.br i).r.holdDue = true → (e.br i).r.heldOff = true ∧ (e.br i).r.holdDue = false ∧ (e.br i).switching = false ∧ (e.br i).gates = [] ∧ e.fault = true
          ∧ e.holdRep = d.holdRep ||| 2 ^ i ∧ e.br (1 - i) = d.br (1 - i) ∧ e.vl = d.vl))
  ∧ (∀ (s : State) (v : Fin 12), let n := v.val / 3; let i := v.val % 3; (s.die n).on = true →
    RunsDie (.voteHoldOff (.valve v)) s n fun d e => ((d.vl.at i).r.holdDue = false → e = d.dropTest)
      ∧ ((d.vl.at i).r.holdDue = true → (e.vl.at i).r.heldOff = true ∧ (e.vl.at i).r.holdDue = false ∧ (e.vl.at i).switching = false ∧ (e.vl.at i).duty = 0 ∧ e.fault = true
          ∧ e.holdRep = d.holdRep ||| 2 ^ (2 + i) ∧ e.b0 = d.b0 ∧ e.b1 = d.b1))
  ∧ ∀ (d : Die) (slots : Tab Pkt) (safe : Bool) (f : Pkt → Bool), d.mode = .fix →
    let at_ : Nat → Bool := fun l => match (d.valid slots).find? (fun e => e.1 = l) with | some e => f e.2 | none => safe
    d.bitVote slots safe f = decide (2 ≤ cnt [at_ 0, at_ 1, at_ 2])

/-- The packets of a die: one that arrives whole for the coming vote takes its lane's slot, one for the period just voted counts as late, and one whose CRC or a field is wrong counts as such; a lane whose link is not up is not heard. A
packet is read from its words as it was sent, with the low 8 bits of its number. A die tick sends the die report, puts the configuration of the die in force and starts the events afresh; the vote of a die tick, once in each, takes
EN, STOP, OFFREQ and the configuration word, counts the lanes that are quiet and switches each safety output as voted, and under the split hold leaves the enables as they are.
A lane sends one packet for a resource or a die by its deadline, 2.5 µs before the vote instant, if it has sent none for that period; halted, split or giving up, every packet asks for off. The configuration
words take turns by the number of the die tick. The edges of a leg value enclose its high
time, rounded to the nearest step and centred in the period. -/
def Obligations.Packets : Prop :=
  ((∀ (s : State) (x : Fin 4) (l : LaneId) (good : Bool), (s.die x.val).on = true →
      RunsDie (.linkPacketReceive x l good) s x.val fun d e =>
        ((∀ p ∈ d.tx, p.1 ≠ l.num) → e = d.dropTest)
        ∧ ∀ ws, (d.tx.find? fun p => decide (p.1 = l.num)) = some (l.num, ws) →
          let d1 : Die := { d with tx := d.tx.eraseP fun p => decide (p.1 = l.num) }
          let bad := Die.dropTest { d1 with crcCnt := d.crcCnt.upd l.num (· + 1) }
          (d.links.at l.num < 2 → e = d1.dropTest)
          ∧ (2 ≤ d.links.at l.num → good = false ∨ readPkt l.num ws = none → e = bad)
          ∧ ∀ p, 2 ≤ d.links.at l.num → good = true → readPkt l.num ws = some p →
              let q := d.votedSeq p.res
              (pktOk p = false → e = bad)
              ∧ (pktOk p = true → p.seq % 256 = q % 256 →
                  (p.res = none → e = Die.dropTest { d1 with tslots := putSlot d.tslots p } ∧ slotOf e.tslots l.num = some p)
                  ∧ (∀ r, p.res = some r → r < 2 → slotOf (e.br r).r.slots l.num = some p ∧ d1.BrOnly r e)
                  ∧ (∀ r, p.res = some r → 2 ≤ r → slotOf (e.vl.at (r - 2)).r.slots l.num = some p ∧ d1.VlOnly (r - 2) e))
              ∧ (pktOk p = true → p.seq % 256 ≠ q % 256 → (p.seq + 1) % 256 = q % 256 → e = Die.dropTest { d1 with lateCnt := d.lateCnt.upd l.num (· + 1) })
              ∧ (pktOk p = true → p.seq % 256 ≠ q % 256 → (p.seq + 1) % 256 ≠ q % 256 → e = bad))
    ∧ (∀ p : Pkt, p.lane < 4 → p.excl < 8 →
        (p.res = none ∧ p.soon < 4 ∧ p.clr % 256 = 0 ∧ p.clr < 2 ^ 17 ∧ p.cfgIdx < 1024 ∧ p.plen = 0 ∧ p.edges = [] ∧ p.iset = 0)
          ∨ ((∃ r, r < 5 ∧ p.res = some r ∧ (r < 2 → p.plen < 2 ^ 20 ∧ p.edges.length = 6 ∧ (∀ x ∈ p.edges, x < 2 ^ 20) ∧ p.iset = 0) ∧ (2 ≤ r → p.plen = 0 ∧ p.edges = [] ∧ p.iset < 65536))
              ∧ p.lock = false ∧ p.soon = 0 ∧ p.clr = 0 ∧ p.cfgIdx = 0 ∧ p.cfgVal = 0) →
        readPkt p.lane p.words = some { p with seq := p.seq % 256 })
    ∧ (∀ (s : State) (x : Fin 4), (s.die x.val).on = true →
      RunsDie (.dieTick x) s x.val fun d e => e.tseq = d.tseq + 1 ∧ e.tvoted = false ∧ e.tslots = [] ∧ e.fault = false ∧ e.brRef = 0 ∧ e.vlRef = 0 ∧ e.flags = 0
        ∧ (∀ i, i < 2 → e.so.at i = { d.so.at i with flags := 0 } ∧ e.tr.at i = { d.tr.at i with flags := 0 })
        ∧ e.ret = d.ret ++ ([0, 1, 2].filter fun l => decide (2 ≤ d.links.at l)).map (fun l => (l, Ret.die d.report))
        ∧ (∀ r ∈ dieCfg x.val, e.actOf r = d.cfgOf r) ∧ e.b0 = d.b0 ∧ e.b1 = d.b1 ∧ e.vl = d.vl ∧ e.cfg = d.cfg)
    ∧ ∀ (s : State) (x : Fin 4) (bst : BitVec 2), (s.die x.val).on = true → (s.die x.val).tvoted = false →
      Runs (.diePacketVote x bst) s fun t =>
        let d := s.die x.val
        let e := t.die x.val
        let sl := d.tslots
        let sp := d.sameVote sl (·.split)
        e.tvoted = true ∧ e.tslots = [] ∧ e.en = (if d.split then d.en else d.bitVote sl false (·.en)) ∧ e.stop = d.bitVote sl true (·.stop) ∧ e.offreq = d.bitVote sl true (·.offreq)
        ∧ e.lock = (d.lock || (d.sameVote sl (·.lock)).getD false) ∧ e.split = sp.getD d.split
        ∧ (∀ l, l < 3 → e.quiet.at l = if (slotOf sl l).isSome && !d.shut l then 0 else min 8 (d.quiet.at l + 1))
        ∧ (∀ i, i < 2 → (e.so.at i).son = (if d.split then (d.so.at i).son else d.bitVote sl false (fun p => p.soon.testBit i)) ∧ (e.so.at i).on = e.soMayOn x.val i)
        ∧ ((d.sameVote sl fun p => (p.cfgIdx, p.cfgVal)) = none → e.cfg = d.cfg)
        ∧ (∀ v, (d.sameVote sl fun p => (p.cfgIdx, p.cfgVal)) = some (0x3FF, v) → e.cfg = d.cfg ∧ e.dmode = v.toNat % 4)
        ∧ (∀ (k : Nat) (r : Reg) (v : Word), (d.sameVote sl fun p => (p.cfgIdx, p.cfgVal)) = some (k, v) → k ≠ 0x3FF → (cfgWords x.val).find? (fun z => decide (z.1 = k)) = some (k, r) →
            (e.lock = false → e.cfgOf r = v) ∧ (e.lock = true → e.cfg = d.cfg ∧ (d.cfgOf r ≠ v → e.fault = true)))
        ∧ (d.split = false → sp = some true → ∀ i, i < 2 → (e.br i).switching = false ∧ (e.br i).gates = [])
        ∧ (d.split = true ∨ sp ≠ some true → ∀ i, i < 2 → (e.br i).switching = (d.br i).switching)
        ∧ (∀ i, i < 2 → (e.br i).voted = (d.br i).voted) ∧ e.ret = d.ret
        ∧ (∀ k, k < 4 → k ≠ x.val → t.die k = s.die k) ∧ t.bin = s.bin ∧ t.pending = s.pending ∧ ((∀ r ∈ d.ports, r.port ≠ 1) → s.DieOnly x.val t))
  ∧ ((∀ (s : State) (l : LaneId) (r : Res), let L := s.lane l; let k := resKey r
      let due := L.sends l.num = true ∧ L.edg.seen.at k = true ∧ L.voteTick k ≤ L.ticks + 500 ∧ L.hasSent k (L.edg.pnum.at k + 1) = false
      Runs (.packetSendDeadline l r) s fun t => s.LaneOnly l t ∧ (¬due → t = s)
        ∧ (due → t.lane l = L.served k (L.edg.pnum.at k + 1) ∧ (t.lane l).hasSent k (L.edg.pnum.at k + 1) = true
            ∧ ((s.die (resDie r)).on = true → 2 ≤ (s.die (resDie r)).links.at l.num → (t.die (resDie r)).tx = (s.die (resDie r)).tx ++ [(l.num, (L.resPkt l.num k (L.edg.pnum.at k + 1)).words)])))
    ∧ (∀ (s : State) (l : LaneId) (n : Fin 4), let L := s.lane l; let k := dieKey n
      let due := L.sends l.num = true ∧ L.edg.seen.at k = true ∧ L.voteTick k ≤ L.ticks + 500 ∧ L.hasSent k (L.edg.pnum.at k + 1) = false
      Runs (.diePacketBuild l n) s fun t => s.LaneOnly l t ∧ (¬due → t = s)
        ∧ (due → (t.lane l).hasSent k (L.edg.pnum.at k + 1) = true ∧ (t.lane l).edg.clr.at n = 0 ∧ Lane.Frame [] L (t.lane l)
            ∧ ((s.die n).on = true → 2 ≤ (s.die n).links.at l.num → (t.die n).tx = (s.die n).tx ++ [(l.num, (L.diePkt l.num n (L.edg.pnum.at k + 1)).words)])))
    ∧ (∀ (L : Lane) (me k seq : Nat), L.edg.split = true ∨ L.edg.giveUp = true ∨ L.on R.FIX_DBG F.FIX_DBG_HALTED = true →
      (L.resPkt me k seq).en = false ∧ (L.resPkt me k seq).stop = true ∧ (L.resPkt me k seq).offreq = true
        ∧ (L.diePkt me k seq).en = false ∧ (L.diePkt me k seq).stop = true ∧ (L.diePkt me k seq).offreq = true ∧ (L.diePkt me k seq).soon = 0)
    ∧ (∀ (L : Lane) (me k seq : Nat), L.base ≠ 2 → (L.resPkt me k seq).offreq = true ∧ (L.diePkt me k seq).offreq = true ∧ (L.diePkt me k seq).soon = 0)
    ∧ (∀ (L : Lane) (me : Nat) (n : Fin 4) (seq : Nat), L.dmode = 0 →
      (cfgWords n)[(seq - 1) % 28]? = some ((L.diePkt me n seq).cfgIdx, (((cfgWords n)[(seq - 1) % 28]?).map (·.2)).getD R.EDG_CTRL))
    ∧ ∀ (d : Int) (t : Nat), -(2 ^ 31) ≤ d → d < 2 ^ 31 →
      let e := legEdges d t
      e.1 ≤ e.2 ∧ e.2 ≤ t ∧ (2 ^ 31 * ((e.2 : Int) - e.1) - max 0 d * t).natAbs ≤ 2 ^ 30 ∧ ((e.1 : Int) - (t - e.2)).natAbs ≤ 1)

/-- What a lane makes of the records of a die: a mark sets its copy of the period start and the period's number; a bridge, valve, die or vote report shows in the registers, raises its events and counts; a report's fault is recorded. A die from
which nothing has come for 100 µs is taken as silent, the link's fault where this lane alone takes it so and the die's where another does; a disable that waits for a period of that die ends then. -/
def Obligations.DieReportsShown : Prop :=
  (∀ (s : State) (l : LaneId) (n : Fin 4),
    RunsRet (.periodStartMarkReceive l n) s l n (fun r => match r with | .mark p q => some (p, q) | _ => none) (fun x L M =>
      let k := placeKey n x.1
      x.1 < 5 → M.edg.pnum.at k = x.2 ∧ M.edg.pstart.at k = L.ticks - L.latency L.me n ∧ M.edg.seen.at k = true ∧ M.edg.lastRet.at n = L.ticks
        ∧ (2 ≤ x.1 → L.edg.closing = [] → M.on (R.EDG_VCFG (k - 8)) F.EDG_VCFG_ACTIVE = L.on (R.EDG_VCFG (k - 8)) F.EDG_VCFG_EN)
        ∧ M.edg.closing = (L.edg.closing.filter fun e => !(decide (e.2.1 = k) && decide (e.2.2 ≤ x.2))) ∧ Lane.BlockFrame [0x4001, 0x4004, 0x4005] L M)
    ∧ RunsRet (.bridgeReportReceive l n) s l n (fun r => match r with | .bridge p q => some (p, q) | _ => none) (fun x L M =>
      let b := 2 * n.val + x.1
      let y := x.2
      x.1 < 2 → M.on (R.EDG_BSTAT b) F.EDG_BSTAT_SWITCHING = y.switching ∧ M.on (R.EDG_BSTAT b) F.EDG_BSTAT_OFF = y.off ∧ M.on (R.EDG_BSTAT b) F.EDG_BSTAT_LATCHED = y.latched
        ∧ M.fld (R.EDG_BSTAT b) F.EDG_BSTAT_SEQ = y.seq % 256 ∧ M.rd (R.EDG_BCARU b) = wInt (y.carry.at 0) ∧ M.rd (R.EDG_BCARV b) = wInt (y.carry.at 1) ∧ M.rd (R.EDG_BCARW b) = wInt (y.carry.at 2)
        ∧ (∀ k, k < 10 → bitOf (M.rd (R.EDG_BEVT b)) k = (bitOf (L.rd (R.EDG_BEVT b)) k || y.evt.testBit k)) ∧ M.edg.silent.at n = false ∧ M.edg.lastRet.at n = L.ticks
        ∧ (L.fld (R.EDG_BEVT b) F.EDG_BEVT_CLASS = 0 → y.cls ≠ 0 → M.fld (R.EDG_BEVT b) F.EDG_BEVT_CLASS = y.cls % 4 ∧ M.fld (R.EDG_BEVT b) F.EDG_BEVT_LEGS = y.legs % 8)
        ∧ (L.fld (R.EDG_BEVT b) F.EDG_BEVT_CLASS ≠ 0 → M.fld (R.EDG_BEVT b) F.EDG_BEVT_CLASS = L.fld (R.EDG_BEVT b) F.EDG_BEVT_CLASS ∧ M.fld (R.EDG_BEVT b) F.EDG_BEVT_LEGS = L.fld (R.EDG_BEVT b) F.EDG_BEVT_LEGS)
        ∧ (y.evt % 64 = 0 → M.rd R.FIX_FLTLAST = L.rd R.FIX_FLTLAST ∧ M.rd R.FIX_FLTCNT = L.rd R.FIX_FLTCNT)
        ∧ (y.evt % 8 ≠ 0 → y.evt / 8 % 8 = 0 → M.fld R.FIX_FLTLAST F.FIX_FLTLAST_CLASS = 8 ∧ M.fld R.FIX_FLTLAST F.FIX_FLTLAST_LOC = b)
        ∧ (y.evt / 8 % 8 ≠ 0 → M.fld R.FIX_FLTLAST F.FIX_FLTLAST_CLASS = 6 ∧ M.fld R.FIX_FLTLAST F.FIX_FLTLAST_LOC = n)
        ∧ Lane.Frame ([(R.EDG_BSTAT b).addr, (R.EDG_BCARU b).addr, (R.EDG_BCARV b).addr, (R.EDG_BCARW b).addr, (R.EDG_BCNT b).addr, (R.EDG_BEVT b).addr, (R.EDG_BCFG b).addr] ++ faultRegs) L M)
    ∧ RunsRet (.valveReportReceive l n) s l n (fun r => match r with | .valve p q => some (p, q) | _ => none) (fun x L M =>
      let v := 3 * n.val + (x.1 - 2)
      let y := x.2
      2 ≤ x.1 → x.1 < 5 → M.fld (R.EDG_VSTAT v) F.EDG_VSTAT_IMEAS = y.imeas % 65536 ∧ M.fld (R.EDG_VSTAT v) F.EDG_VSTAT_DUTY = y.duty % 65536 ∧ M.on (R.EDG_VEVT v) F.EDG_VEVT_LATCHED = y.latched
        ∧ (∀ k, k < 6 → bitOf (M.rd (R.EDG_VEVT v)) k = (bitOf (L.rd (R.EDG_VEVT v)) k || y.flags.testBit k)) ∧ M.edg.silent.at n = false
        ∧ (y.flags % 32 = 0 → M.rd R.FIX_FLTLAST = L.rd R.FIX_FLTLAST) ∧ (y.flags % 16 ≠ 0 → y.flags.testBit 4 = false → M.fld R.FIX_FLTLAST F.FIX_FLTLAST_CLASS = 8)
        ∧ (y.flags.testBit 4 = true → M.fld R.FIX_FLTLAST F.FIX_FLTLAST_CLASS = 7) ∧ Lane.Frame ([(R.EDG_VSTAT v).addr, (R.EDG_VEVT v).addr] ++ faultRegs) L M)
    ∧ RunsRet (.dieReportReceive l n) s l n (fun r => match r with | .die q => some q | _ => none) (fun y L M =>
      M.edg.pnum.at (dieKey n) = y.seq + 1 ∧ M.edg.pstart.at (dieKey n) = L.ticks - L.latency L.me n ∧ M.edg.silent.at n = false
        ∧ (∀ i, i < 2 → let o := R.EDG_SOSTAT (2 * n + i)
            M.on o F.EDG_SOSTAT_OUT = (y.so.at i).on ∧ M.on o F.EDG_SOSTAT_LATCHED = (y.so.at i).latched ∧ M.on (R.EDG_TRSTAT (2 * n + i)) F.EDG_TRSTAT_LEVEL = (y.tr.at i).level
              ∧ M.on (R.EDG_TRSTAT (2 * n + i)) F.EDG_TRSTAT_LATCH = (y.tr.at i).latch)
        ∧ M.on (R.EDG_DDSTAT n) F.EDG_DDSTAT_GDOK = y.gdok ∧ M.on (R.EDG_DDSTAT n) F.EDG_DDSTAT_CFGSYNC = y.sync ∧ M.on (R.DLK_LSTAT n) F.DLK_LSTAT_OFFCONF = y.offconf
        ∧ M.on (R.DLK_LSTAT n) F.DLK_LSTAT_SPLITHOLD = y.splithold ∧ M.fld (R.DLK_DMODE n) F.DLK_DMODE_DMODE = y.dmode % 4 ∧ M.on (R.DLK_DMODE n) F.DLK_DMODE_CHKMIS = y.chkmis
        ∧ (y.fault = true → M.on (R.DLK_EVT n) F.DLK_EVT_DIEFLT = true ∧ M.fld R.FIX_FLTLAST F.FIX_FLTLAST_CLASS = 6 ∧ M.fld R.FIX_FLTLAST F.FIX_FLTLAST_LOC = n)
        ∧ Lane.BlockFrame [0x4002, 0x4005, 0x400D, 0x400F] L M)
    ∧ RunsRet (.voteReportReceive l n) s l n (fun r => match r with | .vote q => some q | _ => none) fun y L M =>
      (∀ k, k < 3 → let c : Bf := ⟨8 * k, 8⟩
          M.fld (R.DLK_MISS n) c = min 255 (L.fld (R.DLK_MISS n) c + b2n (y.miss.testBit k)) ∧ M.fld (R.DLK_LATE n) c = min 255 (L.fld (R.DLK_LATE n) c + y.late.at k)
            ∧ M.fld (R.DLK_CRC n) c = min 255 (L.fld (R.DLK_CRC n) c + y.crc.at k) ∧ M.fld (R.DLK_OUTL n) c = min 255 (L.fld (R.DLK_OUTL n) c + b2n (y.outl.testBit k))
            ∧ M.edg.outl.at k = L.edg.outl.at k + b2n (y.outl.testBit k))
        ∧ (y.noagr = true → M.on (R.DLK_EVT n) F.DLK_EVT_NOAGR = true ∧ M.fld (R.DLK_NOAGR n) F.DLK_NOAGR_CNT = min 65535 (L.fld (R.DLK_NOAGR n) F.DLK_NOAGR_CNT + 1))
        ∧ (y.holdoff ≠ 0 → M.on (R.DLK_EVT n) F.DLK_EVT_HOLDOFF = true) ∧ M.fld (R.DLK_EVT n) F.DLK_EVT_EXCL = y.excl % 8
        ∧ Lane.Frame [(R.DLK_MISS n).addr, (R.DLK_LATE n).addr, (R.DLK_CRC n).addr, (R.DLK_OUTL n).addr, (R.DLK_EVT n).addr, (R.DLK_NOAGR n).addr] L M)
  ∧ ∀ (s : State) (l : LaneId) (n : Fin 4), let L := s.lane l
    let ends := R.EDG_CTRL.addr :: (List.range 20).map fun k => (keyCfg k).addr
    let due := L.edg.seen.at (dieKey n) = true ∧ L.edg.lastRet.at n + 20000 ≤ L.ticks ∧ L.edg.silent.at n = false
    (¬due → exec (.dieSilentTimeout l n) s = .next s)
    ∧ (due → (∀ k, k ≠ l → (s.lane k).edg.silent.at n = false) → RunsLane (.dieSilentTimeout l n) s l fun L M => M.edg.silent.at n = true ∧ M.fld R.FIX_FLTLAST F.FIX_FLTLAST_CLASS = 5
        ∧ M.fld R.FIX_FLTLAST F.FIX_FLTLAST_LOC = n ∧ (∀ e ∈ M.edg.closing, e.2.1 < 24 → keyDie e.2.1 ≠ n) ∧ Lane.Frame (ends ++ faultRegs) L M)
    ∧ (due → (∃ k, k ≠ l ∧ (s.lane k).edg.silent.at n = true) → Runs (.dieSilentTimeout l n) s fun t => s.LanesOnly t ∧ (t.lane l).edg.silent.at n = true
        ∧ ∀ k, (k = l ∨ (s.lane k).edg.silent.at n = true → (t.lane k).fld R.FIX_FLTLAST F.FIX_FLTLAST_CLASS = 6 ∧ (t.lane k).fld R.FIX_FLTLAST F.FIX_FLTLAST_LOC = n ∧ Lane.Frame (if k = l then ends ++ faultRegs else faultRegs) (s.lane k) (t.lane k))
            ∧ (k ≠ l → (s.lane k).edg.silent.at n = false → t.lane k = s.lane k))

/-- Changes of winding state that every lane makes by itself: the ends of BRAKE, of RETRYWAIT and of 20 ms in RELOCK, and of a verification window without a jerk. At the sampling instant of a period, once in it and SMPPOS
of its length after the lane's copy of its start, the sequences bound to the bridge start, and a block
that no sequence feeds takes its sample. Nothing of these happens before its time.
Changes of winding state that a lane measures and posts for agreement: at the end of the offset check, of ALIGN, of the polarity test, of a catch and of a re-lock measurement, and where the bridge is held off from outside. While a change posted
in the state may still be agreed, and before the end, nothing happens. -/
def Obligations.Commutation : Prop :=
  (∀ (s : State) (l : LaneId) (b : Fin 8),
      RunsLane (.commutationTimedChange l b) s l (fun L M =>
        let ended : Nat → Prop := fun t => (L.mcOf b).govern + L.mcPeriods b (ms t) ≤ L.edg.pnum.at b
        let brk := L.mcSt b = 3 ∧ ended (L.fld (R.EDG_MCAT b) F.EDG_MCAT_BRKT)
        let rty := L.mcSt b = 7 ∧ ended 50
        (brk → M.mcSt b = 2) ∧ (rty → M.mcSt b = 4) ∧ (brk ∨ rty → (M.mcOf b).govern = L.edg.pnum.at b ∧ M.on (R.EDG_MSTAT b) F.EDG_MSTAT_VERIFY = false)
          ∧ Lane.Frame [(R.EDG_MSTAT b).addr, (R.EDG_MCTL b).addr, (R.EDG_MCNT b).addr] L M ∧ (¬brk → ¬rty → M.mc = L.mc ∧ Lane.Frame [] L M))
      ∧ RunsLane (.relockTimeout l b) s l (fun L M =>
        let due := L.mcSt b = 8 ∧ (L.mcOf b).govern + L.mcPeriods b (ms 20) ≤ L.edg.pnum.at b
        (due → M.mcSt b = 9 ∧ M.on (R.EDG_MEVT b) F.EDG_MEVT_OUTSVC = true ∧ (M.edg.ovr.at b).drive = false
            ∧ (L.mcFirst b ≠ some b ∨ L.mcSecond b = none ∨ L.mcSecond b = some b → Lane.Frame [(R.EDG_MSTAT b).addr, (R.EDG_MCTL b).addr, (R.EDG_MEVT b).addr] L M)
            ∧ Lane.BlockFrame [0x4005] L M)
          ∧ (¬due → M.mc = L.mc ∧ Lane.Frame [] L M))
      ∧ RunsLane (.verifyWindowEnd l b) s l (fun L M =>
        let due := L.on (R.EDG_MSTAT b) F.EDG_MSTAT_VERIFY = true ∧ 0 < (L.mcOf b).verEnd ∧ (L.mcOf b).verEnd ≤ L.edg.pnum.at b ∧ L.mcPosted b = false
        (due → M.on (R.EDG_MSTAT b) F.EDG_MSTAT_VERIFY = false ∧ M.fld (R.EDG_MSTAT b) F.EDG_MSTAT_RETRY = 0 ∧ M.mcSt b = L.mcSt b)
          ∧ M.mc = L.mc ∧ Lane.Frame [(R.EDG_MSTAT b).addr] L M ∧ (¬due → Lane.Frame [] L M))
      ∧ RunsLane (.samplingInstant l b) s l fun L M =>
        let bound : Nat → Bool := fun q => L.on (R.MEAS_SQCFG q) F.MEAS_SQCFG_BRGEN && decide (L.fld (R.MEAS_SQCFG q) F.MEAS_SQCFG_BRG = b)
        let due := L.mcSt b ≠ 0 ∧ L.edg.seen.at b = true ∧ (L.mcOf b).smpFor ≠ L.edg.pnum.at b + 1
          ∧ L.fld (R.EDG_MISEL b) F.EDG_MISEL_SMPPOS * L.lenAt b 0 ≤ 2048 * (L.ticks - L.edg.pstart.at b)
        (¬due → M.mc = L.mc ∧ M.meas = L.meas ∧ Lane.Frame [] L M) ∧ Lane.BlockFrame [0x4001, 0x4005, 0x4006] L M
          ∧ (due → (M.mcOf b).smpFor = L.edg.pnum.at b + 1 ∧ ∀ q, q < 16 → (bound q = false → M.meas.runs.at q = L.meas.runs.at q)
              ∧ (bound q = true → L.on (R.MEAS_SQSTAT q) F.MEAS_SQSTAT_ACTIVE = true → (L.meas.runs.at q).run = false →
                  (M.meas.runs.at q).run = true ∧ (M.meas.runs.at q).next = L.fld (R.MEAS_SQCFG q) F.MEAS_SQCFG_FIRST ∧ M.on (R.MEAS_SQSTAT q) F.MEAS_SQSTAT_RUN = true))
          ∧ (due → L.mcSt b = 1 → (∀ q, q < 16 → bound q = false) → L.sensKind b ≠ 3 → (L.mcOf b).govern ≤ L.edg.pnum.at b → L.edg.pnum.at b < (L.mcOf b).govern + 16 →
              (M.mcOf b).nOfs = (L.mcOf b).nOfs + 1 ∧ (M.mcOf b).sumU = (L.mcOf b).sumU + L.rdI (R.MEAS_RES (L.fld (R.EDG_MISEL b) F.EDG_MISEL_IU))))
  ∧ (∀ (s : State) (l : LaneId) (b : Fin 8), (∀ p ∈ (s.lane l).ck.trips, ∀ c, p.trip ≠ .mc b c) →
      let posts : Lane → Lane → Nat → Bool → Prop := fun L M dst flip => M.ck = { L.ck with trips := L.ck.trips ++ [⟨.mc b (.state (L.mcSt b) dst flip), 0, L.ticks⟩] } ∧ M.mcPosted b = true
      let retries : Lane → Lane → Prop := fun L M => (L.fld (R.EDG_MSTAT b) F.EDG_MSTAT_RETRY < L.fld (R.EDG_MSTR b) F.EDG_MSTR_RETRYMAX → posts L M 7 false)
        ∧ (L.fld (R.EDG_MSTR b) F.EDG_MSTR_RETRYMAX ≤ L.fld (R.EDG_MSTAT b) F.EDG_MSTAT_RETRY → M.on (R.EDG_MEVT b) F.EDG_MEVT_STARTF = true ∧ posts L M 9 false)
      let rests : Lane → Lane → Prop := fun L M => (L.sensOk b = true → posts L M 6 false)
        ∧ (L.sensOk b = false → L.on (R.EDG_MCTL b) F.EDG_MCTL_STARTEN = true → posts L M 4 false)
        ∧ (L.sensOk b = false → L.on (R.EDG_MCTL b) F.EDG_MCTL_STARTEN = false → M.on (R.EDG_MEVT b) F.EDG_MEVT_STARTF = true ∧ posts L M 9 false)
      let same : Lane → Lane → Prop := fun L M => M.mc = L.mc ∧ M.ck = L.ck ∧ Lane.Frame [] L M
      RunsLane (.offsetCheckEnd l b) s l (fun L M => let m := L.mcOf b
        let ready := L.mcSt b = 1 ∧ 0 < m.nOfs ∧ (m.govern + 16 ≤ L.edg.pnum.at b ∨ (m.govern + 16 ≤ L.edg.pnum.at b + 1 ∧ m.sampAt = L.edg.pnum.at b + 1)) ∧ L.mcPosted b = false
        let u := rneDiv m.sumU m.nOfs
        let v := rneDiv m.sumV m.nOfs
        let lim := L.fld (R.EDG_MLIM b) F.EDG_MLIM_OFSMAX * 2 ^ 31
        let beyond := lim < u.natAbs * 1024 ∨ lim < v.natAbs * 1024
        let waits := match L.mcLead b with | some f => L.mcSt f ≠ 9 | none => False
        (¬ready → same L M) ∧ (ready → m.posted = [] → M.fld (R.EDG_MIOFS b) F.EDG_MIOFS_OFSU = (wInt u).toNat / 65536 ∧ M.fld (R.EDG_MIOFS b) F.EDG_MIOFS_OFSV = (wInt v).toNat / 65536
          ∧ (beyond → M.on (R.EDG_MEVT b) F.EDG_MEVT_OFSF = true ∧ posts L M 9 false) ∧ (¬beyond → waits → M.ck = L.ck ∧ M.mc = L.mc)
          ∧ (¬beyond → ¬waits → (L.on (R.EDG_MCTL b) F.EDG_MCTL_CATCHEN = true → posts L M 2 false) ∧ (L.on (R.EDG_MCTL b) F.EDG_MCTL_CATCHEN = false → rests L M))
          ∧ Lane.Frame [(R.EDG_MIOFS b).addr, (R.EDG_MEVT b).addr] L M))
      ∧ RunsLane (.alignEnd l b) s l (fun L M => let m := L.mcOf b
        let ready := L.mcSt b = 4 ∧ m.govern + L.mcPeriods b (ms (L.fld (R.EDG_MINJ b) F.EDG_MINJ_TALIGN)) ≤ L.edg.pnum.at b + 1 ∧ L.mcPosted b = false
        let es := m.est.filter fun e => decide (L.ticks ≤ e.1 + ms 2)
        let tight := spread es * 360 ≤ L.fld (R.EDG_MINJ b) F.EDG_MINJ_LOCKTOL * 2 ^ 32
        (¬ready → same L M) ∧ (ready → m.posted = [] → Lane.Frame [(R.EDG_MEVT b).addr] L M
          ∧ (es = [] ∨ ¬tight → M.on (R.EDG_MEVT b) F.EDG_MEVT_LOCKF = true ∧ (M.mcOf b).jerk = m.jerk ∧ retries L M)
          ∧ ∀ e, es.getLast? = some e → tight → (M.mcOf b).thetaA = e.2 ∧ (m.jerk = false → posts L M 5 false)
              ∧ (m.jerk = true → ∃ flip, posts L M 6 flip
                  ∧ ((if flip then e.2 + 0x80000000 else e.2) - (m.failAng + 0x80000000)).toInt.natAbs ≤ ((if flip then e.2 else e.2 + 0x80000000) - (m.failAng + 0x80000000)).toInt.natAbs)))
      ∧ RunsLane (.poltestDone l b) s l (fun L M => let m := L.mcOf b; let c := L.rd (R.EDG_MPOL b)
        let ready := L.mcSt b = 5 ∧ m.govern + 2 * (F.EDG_MPOL_PULSEN.get c + F.EDG_MPOL_DECAY.get c) ≤ L.edg.pnum.at b + 1 ∧ L.mcPosted b = false
        let p := m.iPos.getD 0
        let q := m.iNeg.getD 0
        let d := (F.EDG_MPOL_POLMIN.get c : Int) * max p q
        (¬ready → same L M) ∧ (ready → m.posted = [] → Lane.Frame [(R.EDG_MEVT b).addr] L M ∧ (d ≤ 256 * (p - q) → posts L M 6 false)
          ∧ (256 * (p - q) < d → d ≤ 256 * (q - p) → posts L M 6 true) ∧ (256 * (p - q) < d → 256 * (q - p) < d → M.on (R.EDG_MEVT b) F.EDG_MEVT_POLAMB = true ∧ retries L M)))
      ∧ RunsLane (.catchEnd l b) s l (fun L M => let m := L.mcOf b
        let ready := L.mcSt b = 2 ∧ m.govern + L.mcPeriods b (ms 2) ≤ L.edg.pnum.at b + 1 ∧ L.mcPosted b = false
        let rated := (L.rd (R.EDG_MRATED b)).toNat
        let sens := L.sensOk b = true
        (¬ready → same L M) ∧ (ready → m.posted = [] → Lane.Frame [(R.EDG_MCRES b).addr, (R.EDG_MEVT b).addr] L M
          ∧ M.rd (R.EDG_MCRES b) = (if m.ang1At ≤ m.ang0At ∨ m.nCatch < 2 then 0 else wInt (satI 32 (rneDiv (m.angSum * 256) (m.ang1At - m.ang0At : Nat))))
          ∧ (let rate := if L.sensOk b then (L.sensElec b).2 else M.rdI (R.EDG_MCRES b)
             let turning := (sens ∧ L.fld (R.EDG_MINJSW b) F.EDG_MINJSW_LO * rated ≤ rate.natAbs * 1024) ∨ (¬sens ∧ L.mcTurns b = true)
             let late := m.catchAt + ms (L.fld (R.EDG_MCAT2 b) F.EDG_MCAT2_CATCHT) ≤ L.ticks
             let fast := L.fld (R.EDG_MCAT b) F.EDG_MCAT_CATCHMAX * rated < rate.natAbs * 1024
             (late → M.on (R.EDG_MEVT b) F.EDG_MEVT_CATCHF = true ∧ posts L M 9 false) ∧ (¬late → turning → (fast → posts L M 3 false) ∧ (¬fast → posts L M 6 false))
               ∧ (¬late → ¬turning → rests L M))))
      ∧ RunsLane (.relockMeasureEnd l b) s l (fun L M => let m := L.mcOf b
        let ready := L.mcSt b = 8 ∧ m.mStart + L.mcPeriods b (ms 1) ≤ L.edg.pnum.at b + 1 ∧ L.mcPosted b = false
        (¬ready → same L M) ∧ (ready → m.posted = [] → Lane.Frame [(R.EDG_MCRES b).addr] L M ∧ (L.mcTurns b = true → posts L M 6 false)
          ∧ (L.mcTurns b = false → M.ck = L.ck ∧ (M.mcOf b).mStart = L.edg.pnum.at b + 1 ∧ (M.mcOf b).nCatch = 0)))
      ∧ RunsLane (.externalHoldDetect l b) s l fun L M => let m := L.mcOf b
        let ready := L.mcSt b = 6 ∧ 2 < m.offPer ∧ L.mcPosted b = false
        (¬ready → same L M) ∧ (ready → m.posted = [] → posts L M 2 false ∧ M.on (R.EDG_MEVT b) F.EDG_MEVT_EXTOFF = true ∧ Lane.Frame [(R.EDG_MEVT b).addr] L M))

/-! ### Measurement and position -/

/-- Enables of the measurement block: the reference starts to settle, the block becomes active, and a slot or a sequence whose check passes becomes active with it;
one whose check fails shows the cause.
MEAS_SQSTART starts every sequence in the mask: one that is not active sets IDLESTART, one that runs from an earlier tick sets RETRIG and goes on, and any other
begins its pass.
A write of a slot's limits or filter restarts its guard band; CNT is held to at least 1.
A spot conversion is refused with SPBUSY while another one is out, for a converter that is not there or out of service and for a channel that is not there; else it
waits for its converter. -/
def Obligations.MeasurementControl : Prop :=
  (∀ (s : State) (l : LaneId) (v : Word), s.Quiet →
      ((s.lane l).on R.MEAS_REF F.MEAS_REF_EN = false →
        RunsLane (.referenceEnable l v) s l fun L M => M.on R.MEAS_REF F.MEAS_REF_EN = true ∧ M.meas = { L.meas with refAt := L.ticks } ∧ Lane.Frame [R.MEAS_REF.addr] L M)
      ∧ ((s.lane l).on R.MEAS_CTRL F.MEAS_CTRL_EN = false → (s.lane l).meas.closing = false → (∀ x, x < 64 → (s.lane l).on (R.MEAS_SLCFG x) F.MEAS_SLCFG_EN = false) →
        (∀ q, q < 16 → (s.lane l).on (R.MEAS_SQCFG q) F.MEAS_SQCFG_EN = false) →
        RunsLane (.measEnable l v) s l fun L M => M.on R.MEAS_CTRL F.MEAS_CTRL_EN = true ∧ M.on R.MEAS_CTRL F.MEAS_CTRL_ACTIVE = true ∧ M.meas = L.meas
          ∧ Lane.Frame [R.MEAS_CTRL.addr] L M)
      ∧ ((s.lane l).Unlocked → ∀ x : Fin 64, (s.lane l).on (R.MEAS_SLCFG x) F.MEAS_SLCFG_EN = false → (s.lane l).on (R.MEAS_SLST x) F.MEAS_SLST_ACTIVE = false →
        RunsLane (.slotEnable l x v) s l fun L M => M.rd (R.MEAS_SLCFG x) = L.taken (R.MEAS_SLCFG x) 0xF7F71 (F.MEAS_SLCFG_EN.set v 1)
          ∧ (M.slotCause x ≠ 0 → M.shows R.MEAS_STAT F.MEAS_STAT_CFGERR F.MEAS_STAT_CFGCAUSE (M.slotCause x) ∧ M.on (R.MEAS_SLST x) F.MEAS_SLST_ACTIVE = false)
          ∧ (M.slotCause x = 0 → M.on (R.MEAS_SLST x) F.MEAS_SLST_ACTIVE = L.on R.MEAS_CTRL F.MEAS_CTRL_ACTIVE)
          ∧ Lane.Frame [(R.MEAS_SLCFG x).addr, (R.MEAS_SLST x).addr, R.MEAS_STAT.addr] L M)
      ∧ ((s.lane l).Unlocked → ∀ q : Fin 16, (s.lane l).on (R.MEAS_SQCFG q) F.MEAS_SQCFG_EN = false → (s.lane l).on (R.MEAS_SQSTAT q) F.MEAS_SQSTAT_ACTIVE = false → ((s.lane l).meas.runs.at q).closing = false →
        RunsLane (.sequenceEnable l q v) s l fun L M => M.rd (R.MEAS_SQCFG q) = L.taken (R.MEAS_SQCFG q) 0x777F3F (F.MEAS_SQCFG_EN.set v 1)
          ∧ (M.seqCause q ≠ 0 → M.shows R.MEAS_STAT F.MEAS_STAT_CFGERR F.MEAS_STAT_CFGCAUSE (M.seqCause q) ∧ M.on (R.MEAS_SQSTAT q) F.MEAS_SQSTAT_ACTIVE = false)
          ∧ (M.seqCause q = 0 → M.on (R.MEAS_SQSTAT q) F.MEAS_SQSTAT_ACTIVE = L.on R.MEAS_CTRL F.MEAS_CTRL_ACTIVE)
          ∧ Lane.Frame [(R.MEAS_SQCFG q).addr, (R.MEAS_SQSTAT q).addr, R.MEAS_STAT.addr] L M))
  ∧ (∀ (s : State) (l : LaneId) (v : Word), s.Quiet →
      RunsLane (.sequenceStart l v) s l fun L M => Lane.Frame ((List.range 16).map fun q => (R.MEAS_SQSTAT q).addr) L M
        ∧ ∀ q, q < 16 →
          (bitOf v q = false → M.rd (R.MEAS_SQSTAT q) = L.rd (R.MEAS_SQSTAT q) ∧ M.meas.runs.at q = L.meas.runs.at q)
          ∧ (bitOf v q = true → L.on (R.MEAS_SQSTAT q) F.MEAS_SQSTAT_ACTIVE = false →
              M.on (R.MEAS_SQSTAT q) F.MEAS_SQSTAT_IDLESTART = true ∧ M.meas.runs.at q = L.meas.runs.at q)
          ∧ (bitOf v q = true → L.on (R.MEAS_SQSTAT q) F.MEAS_SQSTAT_ACTIVE = true → (L.meas.runs.at q).run = true → (L.meas.runs.at q).startAt ≠ L.ticks →
              M.on (R.MEAS_SQSTAT q) F.MEAS_SQSTAT_RETRIG = true ∧ M.meas.runs.at q = L.meas.runs.at q)
          ∧ (bitOf v q = true → L.on (R.MEAS_SQSTAT q) F.MEAS_SQSTAT_ACTIVE = true → (L.meas.runs.at q).run = false →
              M.on (R.MEAS_SQSTAT q) F.MEAS_SQSTAT_RUN = true
                ∧ M.meas.runs.at q = ⟨true, L.fld (R.MEAS_SQCFG q) F.MEAS_SQCFG_FIRST,
                    L.fld (R.MEAS_SQCFG q) F.MEAS_SQCFG_FIRST + L.fld (R.MEAS_SQCFG q) F.MEAS_SQCFG_LEN, L.ticks, 0, false⟩))
  ∧ (∀ (s : State) (l : LaneId) (x : Fin 64) (v : Word), s.Quiet → (s.lane l).Unlocked →
      let same : Lane → Lane → Prop := fun L M => M.meas = { L.meas with slots := L.meas.slots.upd x fun z => { z with gbTo := 0, gbCnt := 0 } }
      RunsLane (.guardBandWrite l x 0 v) s l (fun L M => M.rd (R.MEAS_GBHI x) = v ∧ same L M ∧ Lane.Frame [(R.MEAS_GBHI x).addr] L M)
      ∧ RunsLane (.guardBandWrite l x 1 v) s l (fun L M => M.rd (R.MEAS_GBLO x) = v ∧ same L M ∧ Lane.Frame [(R.MEAS_GBLO x).addr] L M)
      ∧ RunsLane (.guardBandWrite l x 2 v) s l fun L M => M.fld (R.MEAS_GBFLT x) F.MEAS_GBFLT_CNT = max 1 (F.MEAS_GBFLT_CNT.get v)
          ∧ M.fld (R.MEAS_GBFLT x) F.MEAS_GBFLT_HY = F.MEAS_GBFLT_HY.get v ∧ same L M ∧ Lane.Frame [(R.MEAS_GBFLT x).addr] L M)
  ∧ (∀ (s : State) (l : LaneId) (v : Word), s.Quiet →
      RunsLane (.spotConversion l v) s l fun L M =>
        let c := F.MEAS_SPOT_CONV.get v
        let bad := L.meas.spot || decide (6 ≤ c) || (L.fld R.MEAS_CONV F.MEAS_CONV_OOS).testBit c || decide (0x4E ≤ F.MEAS_SPOT_CHAN.get v)
        (bad = true → M.on R.MEAS_STAT F.MEAS_STAT_SPBUSY = true ∧ M.meas.spot = L.meas.spot ∧ M.meas.spotConv = L.meas.spotConv)
          ∧ (bad = false → M.meas.spot = true ∧ M.meas.spotConv = c) ∧ Lane.Frame [R.MEAS_SPOT.addr, R.MEAS_STAT.addr] L M)

/-- The events of the measurement block: the reference becomes ready after 2.0 ms within its band and is lost outside it; a group of a sequence starts its conversions when its converters are free and no earlier sequence waits for one of them, steps whose slot or converter is out
being skipped; a delivery shows the last code, and where the reference was ready at every conversion the trimmed result with the new count; a spot conversion shows its code. What is not due changes nothing. -/
def Obligations.MeasurementEvents : Prop :=
  ∀ (s : State) (l : LaneId),
    let same : Lane → Lane → Prop := fun L M => M.meas = L.meas ∧ Lane.Frame [] L M
    RunsLane (.referenceReady l) s l (fun L M =>
      let due := L.on R.MEAS_REF F.MEAS_REF_EN = true ∧ L.on R.MEAS_REF F.MEAS_REF_RDY = false ∧ L.meas.refAt + 400000 ≤ L.ticks
      (¬due → same L M) ∧ (due → M.on R.MEAS_REF F.MEAS_REF_RDY = true ∧ M.on R.MEAS_STAT F.MEAS_STAT_REFUP = true ∧ M.meas = { L.meas with rdySet := L.ticks + 1 }
        ∧ Lane.Frame [R.MEAS_REF.addr, R.MEAS_STAT.addr] L M))
    ∧ RunsLane (.referenceFault l) s l (fun L M =>
      (L.on R.MEAS_REF F.MEAS_REF_EN = false → same L M)
      ∧ (L.on R.MEAS_REF F.MEAS_REF_EN = true → M.on R.MEAS_REF F.MEAS_REF_RDY = false ∧ M.on R.MEAS_STAT F.MEAS_STAT_REFF = true ∧ M.meas.refAt = L.ticks
          ∧ M.fld R.FIX_FLTLAST F.FIX_FLTLAST_CLASS = 1 ∧ M.fld R.FIX_FLTLAST F.FIX_FLTLAST_LOC = L.me % 256 ∧ Lane.Frame ([R.MEAS_REF.addr, R.MEAS_STAT.addr] ++ faultRegs) L M))
    ∧ (∀ q : Fin 16, RunsLane (.sequenceGroupStart l q) s l fun L M =>
        let g := L.nextGroup q
        let go := g.filter fun i => !L.stepSkip i
        let r := L.meas.runs.at q
        let y := M.meas.runs.at q
        let ends := r.stop ≤ r.next + g.length ∧ r.left + go.length = 0
        (L.groupMayStart q = false → same L M)
        ∧ (L.groupMayStart q = true → M.meas.slots = L.meas.slots ∧ y.next = r.next + g.length ∧ y.left = r.left + go.length
            ∧ Lane.Frame ((R.MEAS_SQSTAT q).addr :: if r.closing then [R.MEAS_STAT.addr] else []) L M
            ∧ M.meas.flight = L.meas.flight ++ go.map (fun i =>
                (⟨L.stepSlot i, q, L.slotConv (L.stepSlot i), L.ticks, 2 ^ L.fld (R.MEAS_SLCFG (L.stepSlot i)) F.MEAS_SLCFG_AVG⟩ : MConv))
            ∧ (go.length < g.length → M.on (R.MEAS_SQSTAT q) F.MEAS_SQSTAT_SKIPPED = true)
            ∧ (ends → y.run = false ∧ M.on (R.MEAS_SQSTAT q) F.MEAS_SQSTAT_DONE = true ∧ M.on (R.MEAS_SQSTAT q) F.MEAS_SQSTAT_RUN = false
                ∧ M.fld (R.MEAS_SQSTAT q) F.MEAS_SQSTAT_LAT = min 65535 (L.ticks - r.startAt) ∧ M.eng.seqAt.at q = L.ticks + 1
                ∧ (r.closing = true → y.closing = false ∧ (L.on (R.MEAS_SQCFG q) F.MEAS_SQCFG_EN = false → M.on (R.MEAS_SQSTAT q) F.MEAS_SQSTAT_ACTIVE = false)))
            ∧ (¬ends → y.run = r.run ∧ M.eng = L.eng)))
    ∧ (∀ (x : Fin 64) (codes : List (BitVec 16)), RunsLane (.slotDelivery l x codes) s l fun L M =>
        (L.dueConv x = none → same L M)
        ∧ ∀ c, L.dueConv x = some c → (codes.length ≠ c.n → same L M)
          ∧ (codes.length = c.n → let cs := codes.map fun k => L.codeOf (L.fld (R.MEAS_SLCFG x) F.MEAS_SLCFG_CHAN) k.toNat
            M.meas.flight = L.meas.flight.erase c ∧ M.fld (R.MEAS_RAW x) F.MEAS_RAW_CODE = (cs.getLastD 0) % 65536
            ∧ Lane.BlockFrame [0x4001, 0x4005, 0x4006] L M
            ∧ (let lost := ∃ i, i < c.n ∧ L.rdyAt (c.start + 50 * i) = false
              (lost → M.on (R.MEAS_SLST x) F.MEAS_SLST_NOTRDY = true ∧ M.on (R.MEAS_SLST x) F.MEAS_SLST_VALID = false ∧ M.rd (R.MEAS_RES x) = L.rd (R.MEAS_RES x)
                  ∧ M.rd (R.MEAS_UOFS x) = L.rd (R.MEAS_UOFS x))
              ∧ (¬lost → M.rd (R.MEAS_RES x) = wInt (M.trim x cs (Nat.log2 c.n)).2 ∧ M.on (R.MEAS_SLST x) F.MEAS_SLST_NOTRDY = false
                  ∧ (L.meas.closing = false → M.fld (R.MEAS_SLST x) F.MEAS_SLST_DCNT = (L.fld (R.MEAS_SLST x) F.MEAS_SLST_DCNT + 1) % 65536) ∧ (M.meas.slots.at x).tick = L.ticks + 1
                  ∧ (M.meas.slots.at x).prev = L.rd (R.MEAS_RES x)
                  ∧ (L.on (R.MEAS_SLCFG x) F.MEAS_SLCFG_EN = true → L.meas.closing = false → M.on (R.MEAS_SLST x) F.MEAS_SLST_VALID = !L.uncal x)
                  ∧ (L.meas.calNew.find? (fun e => decide (e.1 = x.val)) = none → M.rd (R.MEAS_UOFS x) = L.rd (R.MEAS_UOFS x) ∧ M.rd (R.MEAS_UGAIN x) = L.rd (R.MEAS_UGAIN x))
                  ∧ ∀ u g, L.meas.calNew.find? (fun e => decide (e.1 = x.val)) = some (x.val, u, g) → M.rd (R.MEAS_UOFS x) = u ∧ M.rd (R.MEAS_UGAIN x) = g))))
    ∧ ∀ code : BitVec 16, RunsLane (.spotResult l code) s l fun L M =>
        let due := L.meas.spot = true ∧ 0 < L.meas.spotAt ∧ L.meas.spotAt + 49 ≤ L.ticks
        (¬due → same L M)
        ∧ (due → M.fld R.MEAS_SPOT_RES F.MEAS_SPOT_RES_CODE = L.codeOf L.meas.spotChan code.toNat ∧ M.on R.MEAS_SPOT_RES F.MEAS_SPOT_RES_NEW = true
            ∧ M.fld R.MEAS_SPOT_RES F.MEAS_SPOT_RES_CONV = L.meas.spotConv % 8 ∧ M.on R.MEAS_SPOT_RES F.MEAS_SPOT_RES_NOTRDY = !L.rdyAt (L.meas.spotAt - 1)
            ∧ M.meas.spot = false ∧ (L.on R.MEAS_SPOT_RES F.MEAS_SPOT_RES_NEW = true → M.on R.MEAS_STAT F.MEAS_STAT_SPOVR = true) ∧ Lane.Frame [R.MEAS_SPOT_RES.addr, R.MEAS_STAT.addr] L M)

/-- The compass swing: a capture starts in Harbour on an active slot with the reference ready, or is refused with the cause; a commit of a result starts the store write; an
abort ends a capture whose deliveries are not all in, and is late in the tick of the last of them.
The end of a capture: the mean of its 256 deliveries and their spread are shown, a spread too wide is refused, and with both points held the calibration is computed or refused with its cause. The end of a store write: a copy that does not read back right changes nothing
of the store; a good one is the copy in force, with the new entry and every other one as it was. -/
def Obligations.CompassSwing : Prop :=
  (∀ (s : State) (l : LaneId) (v : Word), s.Quiet → F.MEAS_CALCMD_START.on v = false → F.MEAS_CALCMD_COMMIT.on v = false → F.MEAS_CALCMD_ABORT.on v = false →
      let x := F.MEAS_CALCMD_SLOT.get v
      let refused : Lane → Nat → Prop := fun M n => M.shows R.MEAS_CALST F.MEAS_CALST_REFUSED F.MEAS_CALST_CAUSE n
      RunsLane (.calStart l v) s l (fun L M =>
        let c := if L.base ≠ 1 then 1 else if !L.on (R.MEAS_SLST x) F.MEAS_SLST_ACTIVE then 2 else if !L.on R.MEAS_REF F.MEAS_REF_RDY then 3
          else if L.meas.cap.isSome || L.on R.MEAS_CALST F.MEAS_CALST_STORING then 4 else 0
        (c ≠ 0 → refused M c ∧ M.meas = L.meas)
          ∧ (c = 0 → M.on R.MEAS_CALST F.MEAS_CALST_BUSY = true ∧ M.meas.cap = some (F.MEAS_CALCMD_PT.get v) ∧ M.meas.capSlot = x ∧ M.meas.capN = 0)
          ∧ Lane.Frame [R.MEAS_CALCMD.addr, R.MEAS_CALST.addr] L M)
      ∧ RunsLane (.calCommit l v) s l (fun L M =>
          ((L.meas.calRes = none ∨ L.on R.MEAS_CALST F.MEAS_CALST_DONE = false) → refused M 0xB)
          ∧ (∀ o g, L.on R.MEAS_CALST F.MEAS_CALST_DONE = true → L.meas.calRes = some (o, g) →
              M.on R.MEAS_CALST F.MEAS_CALST_STORING = true ∧ M.meas = { L.meas with calWrite := some (L.meas.capSlot, o, g), calRes := none })
          ∧ Lane.Frame [R.MEAS_CALCMD.addr, R.MEAS_CALST.addr, R.PWR_NVMST.addr] L M)
      ∧ RunsLane (.calAbort l v) s l fun L M =>
          let late := (256 ≤ L.meas.capN ∧ L.meas.capEnd = L.ticks + 1) ∨ (L.meas.capN < 256 ∧ L.calLast = true)
          let runs := L.meas.cap.isSome = true ∧ L.meas.capN < 256 ∧ L.calLast = false
          (runs → refused M 0xA ∧ M.on R.MEAS_CALST F.MEAS_CALST_BUSY = false ∧ M.on R.MEAS_CALST F.MEAS_CALST_ABORT_LATE = false ∧ M.meas = { L.meas with cap := none })
          ∧ (late → M.on R.MEAS_CALST F.MEAS_CALST_ABORT_LATE = true ∧ M.meas = L.meas)
          ∧ (¬runs → ¬late → M.meas = L.meas ∧ M.rd R.MEAS_CALST = L.rd R.MEAS_CALST) ∧ Lane.Frame [R.MEAS_CALCMD.addr, R.MEAS_CALST.addr] L M)
  ∧ ((∀ (s : State) (l : LaneId), RunsLane (.calCaptureDone l) s l fun L M =>
      let m := L.meas
      let refused : Nat → Prop := fun n => M.shows R.MEAS_CALST F.MEAS_CALST_REFUSED F.MEAS_CALST_CAUSE n
      (m.cap = none ∨ m.capN < 256 → M.meas = L.meas ∧ Lane.Frame [] L M)
      ∧ ∀ pt, m.cap = some pt → 256 ≤ m.capN → M.on R.MEAS_CALST F.MEAS_CALST_BUSY = false ∧ M.meas.cap = none
        ∧ M.rd (if pt = 0 then R.MEAS_CALMZ else R.MEAS_CALMF) = wInt (rneShift m.capSum 8) ∧ M.rd R.MEAS_CALPP = wInt (m.capMax - m.capMin)
        ∧ Lane.Frame [(if pt = 0 then R.MEAS_CALMZ else R.MEAS_CALMF).addr, R.MEAS_CALPP.addr, R.MEAS_CALST.addr] L M
        ∧ (2 ^ 23 < m.capMax - m.capMin → refused 5 ∧ M.on R.MEAS_CALST (if pt = 0 then F.MEAS_CALST_ZOK else F.MEAS_CALST_FOK) = false ∧ M.meas = { m with cap := none })
        ∧ (m.capMax - m.capMin ≤ 2 ^ 23 →
            let both := (pt = 0 ∨ L.on R.MEAS_CALST F.MEAS_CALST_ZOK = true) ∧ (pt ≠ 0 ∨ L.on R.MEAS_CALST F.MEAS_CALST_FOK = true)
            let mz := M.rdI R.MEAS_CALMZ
            let mf := M.rdI R.MEAS_CALMF
            let rz := L.rdI R.MEAS_CALZ
            let rf := L.rdI R.MEAS_CALFS
            let g := rneDiv ((rf - rz) * 2 ^ 30) (mf - mz)
            let o := mz - rneDiv (rz * 2 ^ 30) g
            let c := if (mf - mz).natAbs < 2 ^ 27 ∨ ¬((0 < mf - mz ∧ 0 < rf - rz) ∨ (mf - mz < 0 ∧ rf - rz < 0)) then 6 else if g < 2 ^ 29 ∨ 2 ^ 31 ≤ g then 7 else if 2 ^ 30 < o.natAbs then 8 else 0
            M.on R.MEAS_CALST (if pt = 0 then F.MEAS_CALST_ZOK else F.MEAS_CALST_FOK) = true ∧ (¬both → M.meas = { m with cap := none })
            ∧ (both → (c ≠ 0 → refused c ∧ M.meas = { m with cap := none })
                ∧ (c = 0 → M.on R.MEAS_CALST F.MEAS_CALST_DONE = true ∧ M.meas = { m with cap := none, calRes := some (wInt o, wInt g) }))))
    ∧ ∀ (s : State) (l : LaneId) (ok : Bool), RunsLane (.calStoreWriteDone l ok) s l fun L M =>
        (L.meas.calWrite = none ∨ L.nvmWait.contains 1 = true → M.meas = L.meas ∧ Lane.Frame [] L M)
        ∧ ∀ x o g, L.meas.calWrite = some (x, o, g) → L.nvmWait.contains 1 = false → x < 64 →
          M.on R.MEAS_CALST F.MEAS_CALST_STORING = false ∧ M.meas.calWrite = none ∧ M.nvmBusy 1 = false ∧ (∀ a, M.byte a = L.byte a)
          ∧ (ok = false → M.shows R.MEAS_CALST F.MEAS_CALST_REFUSED F.MEAS_CALST_CAUSE 9 ∧ M.meas.calCopy = L.meas.calCopy ∧ (∀ a, a < 0x802000 ∨ 0x806000 ≤ a → M.flashByte a = L.flashByte a)
              ∧ (∀ k, k < 64 → L.meas.calCopy = none ∨ L.meas.calCopy = some 0 ∨ L.meas.calCopy = some 1 → M.calEntry k = L.calEntry k)
              ∧ Lane.RegsBut [R.MEAS_CALST.addr, R.PWR_NVMST.addr] L M)
          ∧ (ok = true → ∃ c, M.meas.calCopy = some c ∧ c < 2 ∧ L.meas.calCopy ≠ some c)
          ∧ (ok = true → M.calEntry x = (o, g) ∧ (∀ k, k < 64 → k ≠ x → (L.meas.calCopy = none ∨ L.meas.calCopy = some 0 ∨ L.meas.calCopy = some 1) → M.calEntry k = L.calEntry k)
              ∧ M.meas.calNew.at x = (o, g) ∧ M.on R.MEAS_CALST F.MEAS_CALST_STOREBAD = false ∧ Lane.RegsBut [R.MEAS_CALST.addr, R.PWR_NVMST.addr, R.SAFE_CMST.addr] L M
              ∧ (∀ a, a < 0x802000 ∨ 0x806000 ≤ a → M.flashByte a = L.flashByte a)))

/-- Enables of the POS block and of a SENT input: an interface or an input whose check fails stays inactive with CFGERR; one that passes becomes active, an interface only in an
active block and from count 0. Travel and the ground-speed generator wait for the next apply instant.
Position interfaces: a quadrature edge or a Hall transition of one line moves the count by one in its direction, one that comes too fast or breaks the sequence is recorded and moves nothing; an index sets the reference, is within its tolerance, or is an error that makes the
value suspect; a sin/cos pair within its window moves the count by the change of phase. An interface that is not active, or has another mode, shows nothing. -/
def Obligations.Position : Prop :=
  (∀ (s : State) (l : LaneId) (v : Word), s.Quiet →
      ((s.lane l).on R.POS_CTRL F.POS_CTRL_EN = false →
        RunsLane (.posEnable l v) s l fun L M => M.on R.POS_CTRL F.POS_CTRL_EN = true ∧ M.on R.POS_CTRL F.POS_CTRL_ACTIVE = true
          ∧ (∀ n, n < 8 → L.on (R.POS_CFG n) F.POS_CFG_EN = true → L.posCause n = false → M.posActive n = true)
          ∧ ∀ n, n < 8 → L.on (R.POS_CFG n) F.POS_CFG_EN = false → M.posActive n = L.posActive n)
      ∧ ((s.lane l).Unlocked → ∀ n : Fin 8, (s.lane l).on (R.POS_CFG n) F.POS_CFG_EN = false → (s.lane l).posActive n = false →
        RunsLane (.positionInterfaceEnable l n v) s l fun L M => M.on (R.POS_CFG n) F.POS_CFG_EN = true
          ∧ (M.posCause n = true → M.on (R.POS_STAT n) F.POS_STAT_CFGERR = true ∧ M.posActive n = false)
          ∧ (M.posCause n = false → M.posActive n = L.on R.POS_CTRL F.POS_CTRL_ACTIVE ∧ (M.posActive n = true → M.rd (R.POS_COUNT n) = 0))
          ∧ Lane.Frame [(R.POS_CFG n).addr, (R.POS_STAT n).addr, (R.POS_COUNT n).addr, (R.POS_ANG n).addr, (R.POS_SPD n).addr, (R.POS_ACC n).addr] L M)
      ∧ ((s.lane l).Unlocked → ∀ m : Fin 8, (s.lane l).on (R.SENT_CFG m) F.SENT_CFG_EN = false → (s.lane l).on (R.SENT_CFG m) F.SENT_CFG_ACTIVE = false →
        RunsLane (.sentEnable l m v) s l fun L M => M.on (R.SENT_CFG m) F.SENT_CFG_EN = true
          ∧ (M.sentCause m = true → M.on (R.SENT_STAT m) F.SENT_STAT_CFGERR = true ∧ M.on (R.SENT_CFG m) F.SENT_CFG_ACTIVE = false)
          ∧ (M.sentCause m = false → M.on (R.SENT_CFG m) F.SENT_CFG_ACTIVE = true ∧ (M.sent.at m).last = L.ticks ∧ M.on (R.SENT_STAT m) F.SENT_STAT_VALID = false)
          ∧ Lane.Frame [(R.SENT_CFG m).addr, (R.SENT_STAT m).addr, (R.SENT_SFMT m).addr] L M)
      ∧ ((s.lane l).Unlocked → (s.lane l).travOn = false →
        RunsLane (.travelEnable l v) s l fun L M => M.on R.POS_TRCFG F.POS_TRCFG_EN = true ∧ M.travOn = false ∧ M.trav = L.trav ∧ Lane.Frame [R.POS_TRCFG.addr] L M)
      ∧ RunsLane (.groundSpeedEnable l v) s l fun L M =>
          let m := L.fld R.POS_GSRAT F.POS_GSRAT_M
          let bad := decide (m = 0 ∨ L.fld R.POS_GSRAT F.POS_GSRAT_N < 2 * m)
          M.on R.POS_GSCFG F.POS_GSCFG_EN = (!bad || L.on R.POS_GSCFG F.POS_GSCFG_EN) ∧ M.trav = { L.trav with gsOk := !bad || L.trav.gsOk } ∧ (bad = true → M.on R.POS_TRSTAT F.POS_TRSTAT_GSCFGERR = true)
            ∧ Lane.Frame [R.POS_GSCFG.addr, R.POS_TRSTAT.addr] L M)
  ∧ (∀ (s : State) (l : LaneId) (n : Fin 8),
      let kept : Lane → Lane → Prop := fun L M => Lane.Frame [] L M
      let moves : Lane → Lane → Int → Prop := fun L M d => M.rdI (R.POS_COUNT n) = (BitVec.ofInt 32 (L.rdI (R.POS_COUNT n) + if L.on (R.POS_CFG n) F.POS_CFG_REV then -d else d)).toInt
        ∧ Lane.Frame [(R.POS_COUNT n).addr] L M
      let counted : Lane → Lane → Bf → Bf → Prop := fun L M f c => M.on (R.POS_STAT n) f = true
        ∧ M.fld (R.POS_ERRCNT n) c = min (2 ^ c.wid - 1) (L.fld (R.POS_ERRCNT n) c + 1) ∧ M.rd (R.POS_COUNT n) = L.rd (R.POS_COUNT n)
        ∧ Lane.Frame [(R.POS_STAT n).addr, (R.POS_ERRCNT n).addr] L M
      (∀ a b : Bool, RunsLane (.quadratureEdge l n a b) s l fun L M =>
        let oa := (L.posIf.at n).lev.testBit 0
        let ob := (L.posIf.at n).lev.testBit 1
        let live := L.posActive n = true ∧ L.posMode n ≤ 1
        (M.posIf.at n).lev.testBit 0 = a ∧ (M.posIf.at n).lev.testBit 1 = b ∧ (¬live ∨ (a = oa ∧ b = ob) → kept L M)
        ∧ (live → a ≠ oa → b = ob → L.tooFast n = false → moves L M (if a ≠ b then 1 else -1)) ∧ (live → a = oa → b ≠ ob → L.tooFast n = false → moves L M (if a = b then 1 else -1))
        ∧ (live → (a ≠ oa ∧ b = ob) ∨ (a = oa ∧ b ≠ ob) → L.tooFast n = true → counted L M F.POS_STAT_MINF F.POS_ERRCNT_MINT)
        ∧ (live → a ≠ oa → b ≠ ob → L.tooFast n = false → counted L M F.POS_STAT_ILLF F.POS_ERRCNT_ILL))
      ∧ (∀ h : BitVec 3, RunsLane (.hallTransition l n h) s l fun L M =>
        let old := (L.posIf.at n).lev
        let live := L.posActive n = true ∧ L.posMode n = 2
        let one := cnt ((List.range 3).map fun i => decide (old.testBit i ≠ h.toNat.testBit i)) ≤ 1
        (M.posIf.at n).lev = h.toNat ∧ (¬live ∨ h.toNat = old → kept L M)
        ∧ (live → h.toNat ≠ old → L.tooFast n = false → ∀ x y, hallPlace old = some x → hallPlace h.toNat = some y → one → moves L M (if y = (x + 1) % 6 then 1 else -1))
        ∧ (live → h.toNat ≠ old → L.tooFast n = false → hallPlace h.toNat = none ∨ ¬one → M.on (R.POS_STAT n) F.POS_STAT_HALLF = true ∧ Lane.Frame [(R.POS_STAT n).addr] L M)
        ∧ (live → h.toNat ≠ old → L.tooFast n = true → M.on (R.POS_STAT n) F.POS_STAT_MINF = true ∧ M.rd (R.POS_COUNT n) = L.rd (R.POS_COUNT n)))
      ∧ RunsLane (.indexEdge l n) s l (fun L M =>
        let live := L.posActive n = true ∧ L.posMode n = 1
        let cpr : Int := L.fld (R.POS_CPR n) F.POS_CPR_CPR
        let c := L.rdI (R.POS_COUNT n)
        let init := (L.posIf.at n).first = true ∧ L.on (R.POS_CFG n) F.POS_CFG_IDXINIT = true
        (¬live → kept L M)
        ∧ (live → 0 < cpr → M.rdI (R.POS_IDXLAT n) = c ∧ (M.posIf.at n).first = false
            ∧ (init → (M.fld (R.POS_IDXREF n) F.POS_IDXREF_IDXREF : Int) = c % cpr % 2 ^ F.POS_IDXREF_IDXREF.wid ∧ M.on (R.POS_STAT n) F.POS_STAT_IDXOK = true
                ∧ Lane.Frame [(R.POS_IDXLAT n).addr, (R.POS_IDXREF n).addr, (R.POS_STAT n).addr] L M)
            ∧ (¬init → ∃ d : Int, (c - L.fld (R.POS_IDXREF n) F.POS_IDXREF_IDXREF - d) % cpr = 0 ∧ -cpr ≤ 2 * d ∧ 2 * d ≤ cpr
                ∧ Lane.Frame [(R.POS_IDXLAT n).addr, (R.POS_SLIP n).addr, (R.POS_STAT n).addr, (R.POS_ERRCNT n).addr] L M
                ∧ (d.natAbs ≤ L.fld (R.POS_TOL n) F.POS_TOL_IDXTOL → M.on (R.POS_STAT n) F.POS_STAT_IDXOK = true
                    ∧ (d = 0 → M.rd (R.POS_SLIP n) = L.rd (R.POS_SLIP n)) ∧ (d ≠ 0 → L.on (R.POS_CFG n) F.POS_CFG_AUTOCOR = true → (M.posIf.at n).corr = d)
                    ∧ (d = 0 ∨ L.on (R.POS_CFG n) F.POS_CFG_AUTOCOR = false → (M.posIf.at n).corr = (L.posIf.at n).corr))
                ∧ (L.fld (R.POS_TOL n) F.POS_TOL_IDXTOL < d.natAbs → M.on (R.POS_STAT n) F.POS_STAT_IDXERR = true ∧ M.on (R.POS_STAT n) F.POS_STAT_SUSPECT = true
                    ∧ M.posValid n = false ∧ M.rd (R.POS_SLIP n) = L.rd (R.POS_SLIP n)))))
      ∧ RunsLane (.sincosPair l n) s l (fun L M =>
        let p := L.posIf.at n
        let x := F.POS_CFG_SINSL.get (L.rd (R.POS_CFG n))
        let y := F.POS_CFG_COSSL.get (L.rd (R.POS_CFG n))
        let live := L.posActive n = true ∧ L.posMode n = 3 ∧ p.pairAt < (L.meas.slots.at x).tick ∧ p.pairAt < (L.meas.slots.at y).tick
        let valid := L.on (R.MEAS_SLST x) F.MEAS_SLST_VALID = true ∧ L.on (R.MEAS_SLST y) F.MEAS_SLST_VALID = true
        let a2 := L.rdI (R.MEAS_RES x) * L.rdI (R.MEAS_RES x) + L.rdI (R.MEAS_RES y) * L.rdI (R.MEAS_RES y)
        let win : Bf → Int := fun f => (L.fld (R.POS_AMP n) f * 2 ^ 21) ^ 2
        let ph := Config.angleOf (L.rd (R.MEAS_RES x)) (L.rd (R.MEAS_RES y))
        (¬live → M.posIf = L.posIf ∧ kept L M) ∧ (live → ¬valid → (M.posIf.at n).pairOk = false ∧ kept L M)
        ∧ (live → valid → win F.POS_AMP_AMPLO ≤ a2 → a2 ≤ win F.POS_AMP_AMPHI → (M.posIf.at n).pairOk = true ∧ (M.posIf.at n).ph = ph
            ∧ (p.havePh = true → moves L M (rneShift (ph - p.ph).toInt 22)) ∧ (p.havePh = false → kept L M))
        ∧ (live → valid → a2 < win F.POS_AMP_AMPLO ∨ win F.POS_AMP_AMPHI < a2 → (M.posIf.at n).pairOk = false ∧ M.rd (R.POS_COUNT n) = L.rd (R.POS_COUNT n)
            ∧ (p.badPair = true → counted L M F.POS_STAT_AMPF F.POS_ERRCNT_AMP ∧ M.on (R.POS_STAT n) F.POS_STAT_SUSPECT = true) ∧ (p.badPair = false → kept L M)))
      ∧ (∀ high : Nat, RunsLane (.pulseRisingEdge l n high) s l fun L M =>
        let p := L.posIf.at n
        let live := L.posActive n = true ∧ L.posMode n = 4
        let t := L.ticks + 1 - p.rise
        (¬live → M.posIf = L.posIf ∧ kept L M)
        ∧ (live → M.rd (R.POS_COUNT n) = L.rd (R.POS_COUNT n) + (if L.on (R.POS_CFG n) F.POS_CFG_REV then -1 else 1) ∧ (M.posIf.at n).rise = L.ticks + 1
            ∧ (p.rise ≠ 0 → p.rise < L.ticks + 1 → (M.posIf.at n).pulseOk = true ∧ M.rd (R.POS_SPD n) = w32 (min (2 ^ 32 - 1) (rneDiv 200000000000 t).toNat)
                ∧ M.rd (R.POS_ACC n) = wInt (satI 32 (rneDiv (high * 2 ^ 31 : Nat) t)))
            ∧ (p.rise = 0 → (M.posIf.at n).pulseOk = false) ∧ Lane.Frame [(R.POS_COUNT n).addr, (R.POS_SPD n).addr, (R.POS_ACC n).addr] L M))
      ∧ (∀ level : Bool, RunsLane (.pulseTimeout l n level) s l fun L M =>
        let due := L.posActive n = true ∧ L.posMode n = 4 ∧ max (L.posIf.at n).rise ((L.posIf.at n).obsAt + 1) + L.fld (R.POS_TOBS n) F.POS_TOBS_PTMO * 2000 ≤ L.ticks + 1
        (¬due → M.posIf = L.posIf ∧ kept L M) ∧ (due → M.rd (R.POS_SPD n) = 0 ∧ M.rd (R.POS_ACC n) = (if level then 0x7FFFFFFF else 0) ∧ M.posValid n = false
          ∧ Lane.Frame [(R.POS_SPD n).addr, (R.POS_ACC n).addr] L M))
      ∧ RunsLane (.trackingObserverUpdate l n) s l fun L M =>
        let p := L.posIf.at n
        let q := M.posIf.at n
        let due := L.posActive n = true ∧ L.posMode n < 4 ∧ p.obsAt + 200 ≤ L.ticks
        (¬due → M.posIf = L.posIf ∧ kept L M)
        ∧ (due → q.obsAt = L.ticks ∧ M.rd (R.POS_ANG n) = q.th + L.rd (R.POS_ANGOFS n) ∧ Lane.Frame [(R.POS_ANG n).addr, (R.POS_SPD n).addr, (R.POS_ACC n).addr] L M
            ∧ (L.posValid n = false → q.om = 0 ∧ q.al = 0 ∧ q.th = p.th ∧ M.rd (R.POS_SPD n) = 0 ∧ M.rd (R.POS_ACC n) = 0)
            ∧ (L.posValid n = true → let bw := L.fld (R.POS_TOBS n) F.POS_TOBS_BW; let e := (L.posTheta n - p.th).toInt; q.om = p.om + Config.obsSpeed bw e ∧ q.th = p.th + Config.obsAngle bw q.om e ∧ q.al = p.al + Config.obsAccel bw e p.al)))

/-- A SENT frame is rejected for its calibration pulse, its nibbles or its CRC, which counts and at the limit takes the validity away, or is accepted and shows its words by the format in force. A pulse of a travel source counts, gives its interval and moves the path of the source in
use; a time without one ends a validity. -/
def Obligations.SentAndTravel : Prop :=
  (∀ (s : State) (l : LaneId) (m : Fin 8) (cal : Nat) (pulses : List Nat), RunsLane (.sentFrame l m cal pulses) s l fun L M =>
    let c := L.rd (R.SENT_CFG m)
    let nib := F.SENT_CFG_NIB.get c
    let tick := (rneDiv (cal * 256 : Nat) 56).toNat
    let nom := F.SENT_CFG_TICK.get c * 20 * 256
    let x := L.sent.at m
    let far := nom < 5 * ((tick : Int) - nom).natAbs ∨ (0 < x.learned ∧ x.learned < 64 * ((tick : Int) - x.learned).natAbs)
    let ns := (pulses.take (nib + 2)).map fun p => (divNear (p * 256 : Nat) tick).toNat
    let odd := ns.length < nib + 2 ∨ (∃ k ∈ ns, k < 12 ∨ 27 < k) ∨ (if F.SENT_CFG_PAUSE.on c then 1 else 0) < pulses.length - (nib + 2)
    let v := ns.map (· - 12)
    let data := (v.drop 1).take nib
    let wrong := crc4 (F.SENT_CFG_CRCV.on c) data ≠ v.getD (nib + 1) 0
    let e := min 15 (L.fld (R.SENT_STAT m) F.SENT_STAT_ERRRUN + 1)
    let rejected : Bf → Prop := fun f => M.on (R.SENT_STAT m) f = true ∧ M.fld (R.SENT_STAT m) F.SENT_STAT_ERRRUN = e ∧ (M.sent.at m).last = x.last ∧ (M.sent.at m).learned = x.learned
      ∧ M.on (R.SENT_STAT m) F.SENT_STAT_VALID = (if max 1 (F.SENT_CFG_ERRLIM.get c) ≤ e then false else L.on (R.SENT_STAT m) F.SENT_STAT_VALID) ∧ Lane.Frame [(R.SENT_STAT m).addr, (R.SENT_TICK m).addr] L M
    (F.SENT_CFG_ACTIVE.on c = false → M.sent = L.sent ∧ Lane.Frame [] L M)
    ∧ (F.SENT_CFG_ACTIVE.on c = true → M.fld (R.SENT_TICK m) F.SENT_TICK_TICK = tick % 2 ^ 24 ∧ (far → rejected F.SENT_STAT_CALE) ∧ (¬far → odd → rejected F.SENT_STAT_NIBE) ∧ (¬far → ¬odd → wrong → rejected F.SENT_STAT_CRCE)
        ∧ (¬far → ¬odd → ¬wrong → M.fld (R.SENT_STAT m) F.SENT_STAT_ERRRUN = 0 ∧ (M.sent.at m).last = L.ticks ∧ (M.sent.at m).learned = tick
            ∧ M.fld (R.SENT_RAW m) F.SENT_RAW_STATUS = v.headD 0 ∧ (x.known = false → M.rd (R.SENT_D0 m) = L.rd (R.SENT_D0 m) ∧ M.rd (R.SENT_D1 m) = L.rd (R.SENT_D1 m))
            ∧ (x.known = true →
                let f := L.rd (if M.fld (R.SENT_SFMT m) F.SENT_SFMT_FSEL = 0 then R.SENT_FMTA m else R.SENT_FMTB m)
                M.rd (R.SENT_D0 m) = sentWord (data.take (F.SENT_FMTA_W0LEN.get f)) (F.SENT_FMTA_W0ANG.on f)
                  ∧ M.rd (R.SENT_D1 m) = sentWord ((data.drop (F.SENT_FMTA_W0LEN.get f)).take (F.SENT_FMTA_W1LEN.get f)) (F.SENT_FMTA_W1ANG.on f)
                  ∧ (x.unknown = false → M.on (R.SENT_STAT m) F.SENT_STAT_VALID = true ∨ M.on (R.SENT_STAT m) F.SENT_STAT_FMTERR = true))
            ∧ Lane.Frame [(R.SENT_STAT m).addr, (R.SENT_TICK m).addr, (R.SENT_RAW m).addr, (R.SENT_SFMT m).addr, (R.SENT_D0 m).addr, (R.SENT_D1 m).addr, (R.SENT_SID m).addr] L M)))
  ∧ (∀ (s : State) (l : LaneId) (m : Fin 8), RunsLane (.sentFrameTimeout l m) s l fun L M =>
    let due := L.on (R.SENT_CFG m) F.SENT_CFG_ACTIVE = true ∧ (L.sent.at m).last + L.fld (R.SENT_CFG m) F.SENT_CFG_FTMO * 20000 ≤ L.ticks
    M.sent = L.sent ∧ (¬due → Lane.Frame [] L M)
      ∧ (due → M.on (R.SENT_STAT m) F.SENT_STAT_TMO = true ∧ M.on (R.SENT_STAT m) F.SENT_STAT_VALID = false ∧ Lane.Frame [(R.SENT_STAT m).addr] L M))
  ∧ (∀ (s : State) (l : LaneId) (x : Fin 5), RunsLane (.travelPulse l x) s l fun L M =>
    let r := if x.val < 4 then R.POS_WCNT x else R.POS_RCNT
    let last := L.trav.last.at x
    (L.travOn = false → M.trav = L.trav ∧ Lane.Frame [] L M)
    ∧ (L.travOn = true → M.rd r = L.rd r + 1 ∧ M.trav.last.at x = L.ticks + 1 ∧ M.trav.still.at x = false
        ∧ (last ≠ 0 → last < L.ticks + 1 → M.trav.iv.at x = (L.dpp x, L.ticks + 1 - last)) ∧ (last = 0 → M.trav.iv = L.trav.iv)
        ∧ (x.val ≠ L.travSrc → M.trav.d12 = L.trav.d12) ∧ (x.val = L.travSrc → M.trav.d12 = if M.candidate = 7 then L.trav.d12 else L.trav.d12 + L.dpp x)
        ∧ (M.trav.d15 = if x.val = 4 then L.trav.d15 + L.dpp 4 else L.trav.d15) ∧ Lane.BlockFrame [0x4007] L M))
  ∧ ∀ (s : State) (l : LaneId) (x : Fin 5), RunsLane (.travelStillTimeout l x) s l fun L M =>
    let last := L.trav.last.at x
    let due := L.travOn = true ∧ 0 < last ∧ last + L.fld R.POS_TRCFG F.POS_TRCFG_STILL * 2000000 ≤ L.ticks + 1 ∧ L.trav.still.at x = false
    (¬due → M.trav = L.trav ∧ Lane.Frame [] L M)
      ∧ (due → M.trav.still.at x = true ∧ M.srcSpeed x = (0, 1) ∧ (x.val = 4 → M.srcValid 4 = false) ∧ (x.val < 4 → M.rd (R.POS_WSPD x) = 0)
          ∧ M.trav.d12 = L.trav.d12 ∧ M.trav.d15 = L.trav.d15 ∧ Lane.BlockFrame [0x4007] L M)

/-! ### Networks and safety -/

/-- Enabling Helm Net checks the matrix: a wrong one shows its cause and the controller stays OFF, else it is active and listens. Disabling it leaves OFF to the end of a frame of
a window that a port fix sends, and else is immediate. A transmit request marks its buffer.
ISOBUS starts with a claim of its preferred address. A transmit request is dropped without an extended identifier, waits while no address is claimed, and is handed to the port
fix with the next TAG once one is. The service CAN hands its requests over at once; it has eight buffers.
An Ethernet path becomes active with descriptor index 0 where its rings are right and its reference clock is there, and else shows CFGERR. A PHY access waits for the vote, one
at a time. -/
def Obligations.NetworkControl : Prop :=
  (∀ (s : State) (l : LaneId) (v : Word), s.Quiet →
      ((s.lane l).on R.HNET_CTRL F.HNET_CTRL_EN = false → (s.lane l).on R.HNET_CTRL F.HNET_CTRL_ACTIVE = false →
        RunsLane (.helmNetEnable l v) s l fun L M => M.on R.HNET_CTRL F.HNET_CTRL_EN = true
          ∧ (L.mxCause ≠ 0 → M.shows R.HNET_STAT F.HNET_STAT_MXERR F.HNET_STAT_MXCAUSE L.mxCause ∧ M.on R.HNET_EVT F.HNET_EVT_CFGERR = true
              ∧ M.on R.HNET_CTRL F.HNET_CTRL_ACTIVE = false)
          ∧ (L.mxCause = 0 → M.on R.HNET_STAT F.HNET_STAT_MXERR = false ∧ M.on R.HNET_CTRL F.HNET_CTRL_ACTIVE = true ∧ M.synst = 1)
          ∧ Lane.Frame [R.HNET_CTRL.addr, R.HNET_STAT.addr, R.HNET_EVT.addr, R.HNET_PATH.addr, R.RKN_GT.addr] L M)
      ∧ ((s.lane l).on R.HNET_CTRL F.HNET_CTRL_EN = true → (s.lane l).on R.HNET_CTRL F.HNET_CTRL_ACTIVE = true →
        let sending := (s.d0.wins ++ s.d1.wins).any fun w => decide (w.st = 2)
        RunsLane (.helmNetDisable l v) s l fun L M => M.on R.HNET_CTRL F.HNET_CTRL_EN = false ∧ M.hn.closing = sending
          ∧ M.on R.HNET_CTRL F.HNET_CTRL_ACTIVE = sending ∧ M.synst = (if sending then L.synst else 0)
          ∧ Lane.Frame [R.HNET_CTRL.addr, R.HNET_STAT.addr, R.HNET_EVT.addr, R.RKN_GT.addr] L M)
      ∧ ∀ k : Fin 64, RunsLane (.transmitRequest l k) s l fun L M => M.on (R.HNET_BST k) F.HNET_BST_TXREQ = true ∧ M.hn = L.hn
          ∧ (∀ f : Bf, 3 ≤ f.lo → f.lo + f.wid ≤ 32 → M.fld (R.HNET_BST k) f = L.fld (R.HNET_BST k) f) ∧ Lane.Frame [(R.HNET_BST k).addr] L M)
  ∧ (∀ (s : State) (l : LaneId) (v : Word), s.Quiet → (s.lane l).small = false →
      ((s.lane l).on R.ISB_CTRL F.ISB_CTRL_EN = false → (s.lane l).on R.ISB_CTRL F.ISB_CTRL_ACTIVE = false →
        RunsLane (.isobusEnable l v) s l fun L M => M.on R.ISB_CTRL F.ISB_CTRL_EN = true ∧ M.on R.ISB_CTRL F.ISB_CTRL_ACTIVE = true ∧ M.acstate = 1
          ∧ M.isbSa = L.fld R.ISB_ADDR F.ISB_ADDR_PREF ∧ M.isb.claimAt = L.ticks ∧ M.isb.tag = (L.isb.tag + 1) % 65536
          ∧ Lane.Frame [R.ISB_CTRL.addr, R.ISB_ACST.addr] L M)
      ∧ (∀ k : Fin 16, (s.lane l).on (R.ISB_TXCT k) F.ISB_TXCT_PEND = false →
        RunsLane (.isbTransmitRequest l k v) s l fun L M => Lane.Frame [(R.ISB_TXCT k).addr] L M
          ∧ (L.on (R.ISB_TXID k) F.ISB_TXID_IDE = false → M.on (R.ISB_TXCT k) F.ISB_TXCT_DROP = true ∧ M.on (R.ISB_TXCT k) F.ISB_TXCT_REQ = false ∧ M.isb = L.isb)
          ∧ (L.on (R.ISB_TXID k) F.ISB_TXID_IDE = true → L.on R.ISB_CTRL F.ISB_CTRL_ACTIVE = true → L.isb.closing = false → L.acstate ≠ 2 → L.acstate ≠ 3 →
              M.on (R.ISB_TXCT k) F.ISB_TXCT_PEND = true ∧ M.isb = { L.isb with queue := L.isb.queue ++ [k.val] })
          ∧ (L.on (R.ISB_TXID k) F.ISB_TXID_IDE = true → L.on R.ISB_CTRL F.ISB_CTRL_ACTIVE = true → L.isb.closing = false → L.acstate = 2 → L.isb.queue = [] →
              M.on (R.ISB_TXCT k) F.ISB_TXCT_PEND = true ∧ M.isb.queue = [] ∧ M.isb.tag = (L.isb.tag + 1) % 65536 ∧ M.isb.out.at L.isb.tag = k.val))
      ∧ (∀ k : Fin 16, k.val < 8 → (s.lane l).on (R.SVC_TXCT k) F.ISB_TXCT_PEND = false →
        RunsLane (.svcTransmitRequest l k v) s l fun L M => Lane.Frame [(R.SVC_TXCT k).addr] L M
          ∧ (L.on R.SVC_CTRL F.ISB_CTRL_ACTIVE = true → L.svc.closing = false → L.svc.queue = [] →
              M.on (R.SVC_TXCT k) F.ISB_TXCT_PEND = true ∧ M.svc.queue = [] ∧ M.svc.tag = (L.svc.tag + 1) % 65536 ∧ M.svc.out.at L.svc.tag = k.val))
      ∧ (∀ k : Fin 16, 8 ≤ k.val → RunsLane (.svcTransmitRequest l k v) s l fun L M => M.busErr = true ∧ M.svc = L.svc ∧ Lane.Frame [] L M)
      ∧ ((s.lane l).Unlocked → RunsLane (.versionNegotiate l v) s l fun L M =>
          M.fld R.ISB_NEG F.ISB_NEG_VNEG = min (F.ISB_NEG_VPART.get v) (F.ISB_NEG_VMAX.get v)
            ∧ (F.ISB_NEG_VPART.get v < F.ISB_NEG_VMIN.get v → M.on R.ISB_EVT F.ISB_EVT_VERR = true)
            ∧ (F.ISB_NEG_VMIN.get v ≤ F.ISB_NEG_VPART.get v → M.rd R.ISB_EVT = L.rd R.ISB_EVT) ∧ Lane.Frame [R.ISB_NEG.addr, R.ISB_EVT.addr] L M))
  ∧ (∀ (s : State) (l : LaneId) (p : Fin 2) (v : Word), s.Quiet →
      ((s.lane l).on (R.ETH_CTRL p) F.ETH_CTRL_EN = false → (s.lane l).on (R.ETH_CTRL p) F.ETH_CTRL_ACTIVE = false →
        RunsLane (.ethernetEnable l p v) s l fun L M =>
          let ok := ringOk (L.rd (R.ETH_TXBASE p)).toNat (L.fld (R.ETH_TXCNT p) F.ETH_TXCNT_CNT)
            && ringOk (L.rd (R.ETH_RXBASE p)).toNat (L.fld (R.ETH_RXCNT p) F.ETH_RXCNT_CNT) && L.on (R.ETH_STAT p) F.ETH_STAT_REFOK
          M.on (R.ETH_CTRL p) F.ETH_CTRL_EN = true ∧ M.on (R.ETH_CTRL p) F.ETH_CTRL_ACTIVE = ok ∧ (ok = true → M.rd (R.ETH_IDX p) = 0)
            ∧ (ok = false → M.on (R.ETH_EVT p) F.ETH_EVT_CFGERR = true) ∧ M.eth = L.eth
            ∧ Lane.Frame [(R.ETH_CTRL p).addr, (R.ETH_IDX p).addr, (R.ETH_EVT p).addr] L M)
      ∧ RunsLane (.phyAccess l p v) s l fun L M => Lane.Frame [(R.ETH_PHYADR p).addr] L M
          ∧ (L.on (R.ETH_PHYADR p) F.ETH_PHYADR_BUSY = true → M.eth = L.eth)
          ∧ (L.on (R.ETH_PHYADR p) F.ETH_PHYADR_BUSY = false → M.on (R.ETH_PHYADR p) F.ETH_PHYADR_BUSY = true
              ∧ (M.eth.at p).phy = some (F.ETH_PHYADR_REG.get v, F.ETH_PHYADR_DEVAD.get v, F.ETH_PHYADR_WR.on v,
                  if F.ETH_PHYADR_WR.on v then L.fld (R.ETH_PHYDAT p) F.ETH_PHYDAT_DATA else 0)))

/-- A port record is taken from its lane's link and read from its words as it was sent; one with a bad CRC, or in split, is dropped, another waits in its port fix for the other lanes' records of its TAG. The third record with the same content makes the voted frame, which the port fix queues; a record alone at the timeout
gives no frame, NOAGR, and DROP on the transmit buffer. Of three records the content that two share is voted, and a record that differs is an outlier; Helm Net start times must lie within 250 ns.
The Helm Net windows of a port fix: the records of the die tick named are voted and make the window's frame, or none and NOAGR; the frame starts with the window, waits for a busy bus, and is given up with LATESOF where it would start too late; the guardian enables the transmitter while any voted window is open;
a frame sent marks its buffer, a lost arbitration waits for the bus, and the third frame in a row that reads back differently, or bus-off, gives the path up. -/
def Obligations.HelmPorts : Prop :=
  ((∀ (s : State) (d : Fin 4) (l : LaneId) (good : Bool), s.Clean →
      let D := s.die d
      let own : Nat × List Word → Bool := fun p => decide (p.1 = l.num)
      (D.ptx.find? own = none → exec (.portRecordReceive d l good) s = .next s)
      ∧ (∀ p, D.ptx.find? own = some p → good = false ∨ D.split = true ∨ readRec l.num p.2 = none → exec (.portRecordReceive d l good) s = .next (s.setDie d { D with ptx := D.ptx.eraseP own }))
      ∧ ∀ p r, D.ptx.find? own = some p → readRec l.num p.2 = some r →
          (good = true → D.split = false → r.port = 1 ∨ (D.ports.filter fun x => decide (x.lane ≠ r.lane ∧ x.port = r.port ∧ x.tag = r.tag)).length ≠ 2 →
              exec (.portRecordReceive d l good) s = .next (s.setDie d { D with
                ptx := D.ptx.eraseP own, ports := D.ports.filter (fun x => !decide (x.lane = r.lane ∧ x.port = r.port ∧ x.tag = r.tag)) ++ [r] }))
          ∧ ∀ x y, good = true → D.split = false → (r.port = 2 ∧ d.val = 2) ∨ (r.port = 3 ∧ d.val = 3) → D.recsOf r.port r.tag = [x, y] → x.lane ≠ r.lane → y.lane ≠ r.lane → r.noframe = false →
              x.core = r.core → y.core = r.core → D.frames.length < 8 →
              Runs (.portRecordReceive d l good) s fun t => (t.die d).recsOf r.port r.tag = [] ∧ (t.die d).frames.length = D.frames.length + 1 ∧ (∃ e ∈ (t.die d).frames, e.frame.core = r.core)
                ∧ ∀ k, t.lane k = s.lane k)
    ∧ (∀ (s : State) (d : Fin 4) (port : Fin 5) (tag : BitVec 16), s.Clean →
      let D := s.die d
      (port.val = 1 ∨ D.recsOf port tag.toNat = [] → exec (.portRecordVoteTimeout d port tag) s = .next s)
      ∧ ∀ r, D.recsOf port tag.toNat = [r] → r.noframe = false →
          ((port.val = 2 ∧ d.val = 2) ∨ (port.val = 3 ∧ d.val = 3) → Runs (.portRecordVoteTimeout d port tag) s fun t => (t.die d).recsOf port tag.toNat = [] ∧ (t.die d).frames = D.frames
            ∧ ∀ k, (t.lane k).on (if d.val = 2 then R.ISB_EVT else R.SVC_EVT) F.ISB_EVT_NOAGR = true
                ∧ ∀ b, b < 16 → ((s.lane k).canCtl d).closing = false → (s.lane k).w1sNow.at (canTxct d b).addr &&& F.ISB_TXCT_REQ.mask.toNat = 0 → (((s.lane k).canCtl d).out.find? fun e => decide (e.1 = tag.toNat)) = some (tag.toNat, b) →
                    (t.lane k).on (canTxct d b) F.ISB_TXCT_DROP = true ∧ (t.lane k).on (canTxct d b) F.ISB_TXCT_PEND = false)
          ∧ (port.val = 4 → Runs (.portRecordVoteTimeout d port tag) s fun t => (t.die d).recsOf port tag.toNat = [] ∧ ∃ e, (t.die d).frames = D.frames ++ [e] ∧ e.frame.tag = tag.toNat ∧ e.why = 1))
    ∧ (∀ r : PortRec, r.port < 16 → r.lane < 4 → r.tick < 256 → r.tag < 65536 → r.wstart < 2 ^ 20 → r.wlen < 2 ^ 14 → r.gm < 32 → r.ident < 2 ^ 29 → r.dlc < 16 → r.len < 2048 →
      r.data.length = r.bytes → readRec r.lane r.words = some r)
    ∧ (∀ a b c : PortRec, a.noframe = false → b.noframe = false → c.noframe = false → a.port ≠ 1 → b.port = a.port → c.port = a.port → b.tag = a.tag → c.tag = a.tag →
      let v := voteRecs [a, b, c]
      (a.core = b.core ∨ a.core = c.core → ∃ f, v.1 = some f ∧ f.core = a.core) ∧ (b.core = c.core → ∃ f, v.1 = some f ∧ f.core = b.core)
        ∧ (a.core = b.core → v.2 = (if c.core = a.core then 0 else 2 ^ c.lane, false)))
    ∧ (∀ a b : PortRec, a.noframe = false → b.noframe = false → ((voteRecs [a, b]).1.isSome = true ↔ a.core = b.core ∧ (a.port ≠ 1 ∨ ((a.wstart : Int) - b.wstart).natAbs ≤ 400)) ∧ (voteRecs [a]).1 = none)
    ∧ ∀ a b c : PortRec, a.noframe = false → b.noframe = false → c.noframe = false → a.port = 1 → a.core = b.core → b.core = c.core →
      let m := med3 a.wstart b.wstart c.wstart
      let near : PortRec → Bool := fun r => decide (((r.wstart : Int) - m).natAbs ≤ 400)
      (2 ≤ cnt [near a, near b, near c] → ∃ f, (voteRecs [a, b, c]).1 = some f ∧ f.core = a.core ∧ (f.wstart : Int) = m) ∧ (cnt [near a, near b, near c] < 2 → (voteRecs [a, b, c]).1 = none))
  ∧ (∀ (s : State) (p : Fin 2) (tag : BitVec 8), s.Clean →
      let D := s.die p
      let n := tag.toNat
      let rate := F.HNET_STAT_RATE.get (majWord (s.a.rd R.HNET_STAT) (s.b.rd R.HNET_STAT) (s.c.rd R.HNET_STAT))
      let recs := (D.recsOf 1 n).filter fun r => decide (r.tick = (D.tseq + 1) % 256)
      let flagged : LaneId → State → Bf → Prop := fun k t f => ∀ b, (s.lane k).mxBuf n = some b → (t.lane k).on (R.HNET_BST b) f = true
      let late : State → Prop := fun t => (∀ w ∈ (t.die p).wins, w.frame.tag ≠ n) ∧ ∀ k, flagged k t F.HNET_BST_LATESOF
        ∧ (t.lane k).fld R.HNET_NOAGR F.HNET_NOAGR_LATESOF = min 65535 ((s.lane k).fld R.HNET_NOAGR F.HNET_NOAGR_LATESOF + 1)
      (recs = [] → exec (.helmNetWindowVote p tag) s = .next s)
      ∧ (recs ≠ [] → Runs (.helmNetWindowVote p tag) s fun t => (t.die p).recsOf 1 n = []
          ∧ (∀ f, (voteRecs recs).1 = some f → D.gaveUp = false → D.split = false → (t.die p).wins = (D.wins.filter fun w => decide (w.frame.tag ≠ n)) ++ [⟨f, 0⟩])
          ∧ ((voteRecs recs).1 = none → (voteRecs recs).2.2 = true → (t.die p).wins = D.wins ∧ ∀ k, flagged k t F.HNET_BST_NOAGR
              ∧ (t.lane k).fld R.HNET_NOAGR F.HNET_NOAGR_NOAGR = min 65535 ((s.lane k).fld R.HNET_NOAGR F.HNET_NOAGR_NOAGR + 1)))
      ∧ (∀ busy : Bool, ((∀ w ∈ D.wins, w.frame.tag = n → w.st ≠ 0) → exec (.windowStart p tag busy) s = .next s)
          ∧ ∀ w, D.wins = [w] → w.frame.tag = n → w.st = 0 → D.gaveUp = false → D.split = false → Runs (.windowStart p tag busy) s fun t =>
              (busy = true → t = s.setDie p { D with wins := [{ w with st := 1 }] })
              ∧ (busy = false → mayStart w.frame 0 rate = true → t = s.setDie p { D with wins := [{ w with st := 2 }], busBusy := true }) ∧ (busy = false → mayStart w.frame 0 rate = false → late t))
      ∧ (∀ opens : Bool, Runs (.guardianWindow p tag opens) s fun t => t = s.setDie p { D with hnEn := (t.die p).hnEn, hnOpen := (t.die p).hnOpen }
          ∧ ((t.die p).hnEn = true ↔ (t.die p).hnOpen ≠ []) ∧ (∀ k, k ≠ n → (k ∈ (t.die p).hnOpen ↔ k ∈ D.hnOpen))
          ∧ (n ∈ (t.die p).hnOpen ↔ opens = true ∧ D.gaveUp = false ∧ D.split = false ∧ D.on = true ∧ ∃ w ∈ D.wins, w.frame.tag = n))
      ∧ (∀ (d : Fin 4) (since : Nat), d.val = p.val → ((∀ w ∈ D.wins, w.st ≠ 1) → exec (.busIdle d since) s = .next (s.setDie p { D with busBusy := false }))
          ∧ ∀ w, D.wins = [w] → w.frame.tag = n → w.st = 1 → D.gaveUp = false → D.split = false → Runs (.busIdle d since) s fun t =>
              (mayStart w.frame since rate = true → t = s.setDie p { D with wins := [{ w with st := 2 }], busBusy := true }) ∧ (mayStart w.frame since rate = false → late t))
      ∧ ∀ (d : Fin 4) (e : CanEnd), d.val = p.val → ((∀ w ∈ D.wins, w.st ≠ 2) → exec (.canFrameTransmitDone d e) s = .next s)
          ∧ ∀ w, D.wins = [w] → w.frame.tag = n → n < 128 → w.st = 2 → (∀ k, (s.lane k).hn.closing = false) → Runs (.canFrameTransmitDone d e) s fun t =>
              let E := t.die p
              let up : Lane → Prop := fun L => L.on R.HNET_PATH (if p.val = 0 then F.HNET_PATH_GUA else F.HNET_PATH_GUB) = true
              (e = .sent → E.wins = [] ∧ E.tec = D.tec - 1 ∧ E.rb = 0 ∧ ∀ k, flagged k t (if p.val = 0 then F.HNET_BST_SENTA else F.HNET_BST_SENTB))
              ∧ (e = .lost → E.wins = [{ w with st := 1 }] ∧ ∀ k, flagged k t F.HNET_BST_ARBLOST)
              ∧ (e = .error ∨ e = .noAck → E.wins = [] ∧ E.tec = min 256 (D.tec + 8) ∧ E.rb = (if e = .error then min 255 (D.rb + 1) else D.rb)
                  ∧ ((e = .error ∧ 2 ≤ D.rb) ∨ 248 ≤ D.tec ∨ D.busOff = true → E.gaveUp = true ∧ E.hnEn = false ∧ ∀ k, up (t.lane k)
                      ∧ (¬up (s.lane k) → (t.lane k).on R.HNET_EVT (if p.val = 0 then F.HNET_EVT_GIVEA else F.HNET_EVT_GIVEB) = true))
                  ∧ ((e = .error → D.rb < 2) → D.tec < 248 → D.busOff = false → E.gaveUp = D.gaveUp)))

/-- ISOBUS and the service CAN: a frame sent leaves its port fix and sets SENT, a lost or failed one is sent again while ARETX is 1 and is dropped with DROP otherwise; errors count by 8 to bus-off, which a recovery ends where AUTOREC is 1; a free bus takes the frame with the lowest identifier. A received
frame goes to the lowest-numbered enabled buffer that it matches.
Address management of ISOBUS: a claim uncontested for 250 ms is claimed; a lower NAME takes the address away, and the next free one is claimed where the NAME allows it, else none; a higher NAME is answered by the own claim again, as is a request. An ISOBUS that is not active takes no part. -/
def Obligations.CanNetworks : Prop :=
  ((∀ (s : State) (d : Fin 4) (e : CanEnd), 2 ≤ d.val → s.Clean →
      let D := s.die d
      let again := F.ISB_CFG_ARETX.on (let r := if d.val = 2 then R.ISB_CFG else R.SVC_CFG; majWord (s.a.rd r) (s.b.rd r) (s.c.rd r))
      let shown : LaneId → State → Bf → Prop := fun k t f => ∀ x b, D.frames.find? (·.sending) = some x → b < 16 → ((s.lane k).canCtl d).closing = false → (s.lane k).w1sNow.at (canTxct d b).addr &&& F.ISB_TXCT_REQ.mask.toNat = 0 →
        (((s.lane k).canCtl d).out.find? fun o => decide (o.1 = x.frame.tag)) = some (x.frame.tag, b) → (t.lane k).on (canTxct d b) f = true ∧ (t.lane k).on (canTxct d b) F.ISB_TXCT_PEND = false
      ((∀ x ∈ D.frames, x.sending = false) → exec (.canFrameTransmitDone d e) s = .next s)
      ∧ ∀ x, D.frames.find? (·.sending) = some x → Runs (.canFrameTransmitDone d e) s fun t =>
          let E := t.die d
          (e = .sent → E.frames = D.frames.erase x ∧ E.tec = D.tec - 1 ∧ E.busOff = D.busOff ∧ ∀ k, shown k t F.ISB_TXCT_SENT)
          ∧ (e ≠ .sent → again = false → E.frames = D.frames.erase x ∧ ∀ k, shown k t F.ISB_TXCT_DROP)
          ∧ (e ≠ .sent → again = true → E.frames = D.frames.map fun y => if y = x then { y with sending := false } else y)
          ∧ (e = .lost → E.tec = D.tec ∧ E.busOff = D.busOff) ∧ (e = .error ∨ e = .noAck → E.tec = min 256 (D.tec + 8) ∧ E.busOff = (D.busOff || decide (248 ≤ D.tec)))
          ∧ ∀ k, (t.lane k).fld (if d.val = 2 then R.ISB_ERR else R.SVC_ERR) F.ISB_ERR_TEC = min 255 E.tec
              ∧ (t.lane k).on (if d.val = 2 then R.ISB_ERR else R.SVC_ERR) F.ISB_ERR_BUSOFF = E.busOff
              ∧ (E.busOff = true → D.busOff = false → (t.lane k).on (if d.val = 2 then R.ISB_EVT else R.SVC_EVT) F.ISB_EVT_BUSOFF = true))
    ∧ (∀ (s : State) (d : Fin 4) (since : Nat), 2 ≤ d.val → s.Clean → Runs (.busIdle d since) s fun t =>
        let D := s.die d
        let E := t.die d
        t = s.setDie d E ∧ (D.frames = [] → E = { D with busBusy := false })
          ∧ (D.frames ≠ [] → D.busOff = false → D.split = false → (∀ x ∈ D.frames, x.sending = false) →
              E.busBusy = true ∧ ∃ x ∈ D.frames, (∀ y ∈ D.frames, canKey x.frame ≤ canKey y.frame) ∧ E.frames = D.frames.map fun y => if y = x then { y with sending := true } else y))
    ∧ (∀ (s : State) (d : Fin 4), s.Clean →
        let on := F.ISB_CFG_AUTOREC.on (let r := if d.val = 2 then R.ISB_CFG else R.SVC_CFG; majWord (s.a.rd r) (s.b.rd r) (s.c.rd r))
        (d.val < 2 ∨ on = false ∨ (s.die d).busOff = false → exec (.busOffRecovery d) s = .next s)
        ∧ (2 ≤ d.val → on = true → (s.die d).busOff = true → Runs (.busOffRecovery d) s fun t => (t.die d).busOff = false ∧ (t.die d).tec = 0
            ∧ ∀ k, (t.lane k).fld (if d.val = 2 then R.ISB_ERR else R.SVC_ERR) F.ISB_ERR_TEC = 0 ∧ (t.lane k).on (if d.val = 2 then R.ISB_ERR else R.SVC_ERR) F.ISB_ERR_BUSOFF = false
                ∧ Lane.Frame [(if d.val = 2 then R.ISB_ERR else R.SVC_ERR).addr] (s.lane k) (t.lane k)))
    ∧ (∀ (s : State) (l : LaneId) (f : CanFrame),
        let takes : Bool → Instr → Reg → Nat → (Nat → Reg) → (Nat → Reg) → (Nat → Reg) → (Nat → Reg) → (Nat → Reg) → (Nat → Reg) → Prop := fun ext i ctrl n rxf rxm rxs rxt d0 d1 =>
          RunsLane i s l fun L M =>
            let fits : Nat → Prop := fun k => L.on (rxf k) F.ISB_RXF_EN = true ∧ L.on (rxf k) F.ISB_RXF_IDE = f.ide ∧ (L.fld (rxf k) F.ISB_RXF_IDENT ^^^ f.ident) &&& L.fld (rxm k) F.ISB_RXM_MASK = 0
            (L.on ctrl F.ISB_CTRL_ACTIVE = false ∨ (ext = true ∧ f.ide = false) ∨ (∀ k, k < n → ¬fits k) → Lane.Frame [] L M)
            ∧ ∀ k, L.on ctrl F.ISB_CTRL_ACTIVE = true → (ext = true → f.ide = true) → k < n → fits k → (∀ j, j < k → ¬fits j) →
                M.on (rxs k) F.ISB_RXS_NEW = true ∧ (L.on (rxs k) F.ISB_RXS_NEW = true → M.on (rxs k) F.ISB_RXS_OVR = true) ∧ (f.dlc < 16 → M.fld (rxs k) F.ISB_RXS_DLC = f.dlc)
                  ∧ M.rd (rxt k) = w32 L.gt ∧ M.rd (d0 k) = w32 (leNat (f.data.take 4)) ∧ M.rd (d1 k) = w32 (leNat ((f.data.drop 4).take 4))
                  ∧ Lane.Frame [(rxs k).addr, (rxt k).addr, (d0 k).addr, (d1 k).addr] L M
        takes true (.isobusFrameReceive l f) R.ISB_CTRL 32 R.ISB_RXF R.ISB_RXM R.ISB_RXS R.ISB_RXT R.ISB_RXD0 R.ISB_RXD1
          ∧ takes false (.svcFrameReceive l f) R.SVC_CTRL 16 R.SVC_RXF R.SVC_RXM R.SVC_RXS R.SVC_RXT R.SVC_RXD0 R.SVC_RXD1))
  ∧ (∀ (s : State) (l : LaneId),
      let act : Lane → Prop := fun L => L.on R.ISB_CTRL F.ISB_CTRL_ACTIVE = true
      let claims : Lane → Lane → Prop := fun L M => M.isb.tag = (L.isb.tag + 1) % 65536 ∧ M.isb.out.at L.isb.tag = 16
      RunsLane (.addressClaimRequest l) s l (fun L M => Lane.Frame [] L M ∧ (act L → L.acstate ≠ 0 → claims L M) ∧ (¬act L ∨ L.acstate = 0 → M.isb = L.isb))
      ∧ RunsLane (.addressClaimTimeout l) s l (fun L M =>
          let due := act L ∧ L.acstate = 1 ∧ L.isb.claimAt + 50000000 ≤ L.ticks
          (¬due → M.isb = L.isb ∧ Lane.Frame [] L M) ∧ (due → M.acstate = 2 ∧ M.isbSa = L.isbSa ∧ M.on R.ISB_EVT F.ISB_EVT_CLAIMED = true ∧ Lane.Frame [R.ISB_ACST.addr, R.ISB_EVT.addr] L M
            ∧ (L.isb.closing = false → M.isb.queue = [])))
      ∧ ∀ (sa : Byte) (name : BitVec 64), RunsLane (.addressClaimReceive l sa name) s l fun L M =>
          let mine := act L ∧ (L.acstate = 1 ∨ L.acstate = 2) ∧ sa.toNat = L.isbSa
          let lo := L.fld R.ISB_ADDR F.ISB_ADDR_AMIN
          let hi := L.fld R.ISB_ADDR F.ISB_ADDR_AMAX
          let taken : Nat → Prop := fun i => i ∈ L.isb.others ∨ i = sa.toNat
          (¬act L → M.isb = L.isb ∧ Lane.Frame [] L M) ∧ (act L → ∀ i, i ∈ M.isb.others ↔ taken i) ∧ (¬mine ∨ L.isbName ≤ name.toNat → Lane.Frame [] L M)
            ∧ (mine → L.isbName < name.toNat → claims L M ∧ M.isb.claimAt = L.ticks)
            ∧ (mine → name.toNat < L.isbName → M.on R.ISB_EVT F.ISB_EVT_LOSTADDR = true
                ∧ (∀ i, L.isbName.testBit 63 = true → lo ≤ i → i ≤ hi → ¬taken i → (∀ j, lo ≤ j → j < i → taken j) → M.acstate = 1 ∧ M.isbSa = i ∧ claims L M
                    ∧ Lane.Frame [R.ISB_ACST.addr, R.ISB_EVT.addr] L M)
                ∧ (L.isbName.testBit 63 = false ∨ (∀ i, lo ≤ i → i ≤ hi → taken i) → M.acstate = 3 ∧ M.isbSa = 254 ∧ M.on R.ISB_EVT F.ISB_EVT_CANTCLAIM = true)))

/-- The synchronisation states of Helm Net (R430): listening, cold start, back-off, integration, SYNC and PASSIVE are left only on their events. A cold start that is acknowledged makes the node the current master and steps its time, and a frame with the node's own reference identifier ends one in the back-off; a second reference
in a row from one master synchronises it, with a step that wraps below 0; an offset above half the guard margin, or a rate that it does not accept, makes it passive.
What Helm Net sends and keeps in its cycles: a cold-start frame carries the next multiple of a basic cycle as its time; a potential master sends its reference where nobody has by its turn; a matrix cycle shows the nodes heard and lets the node send, with the rate announced; a basic cycle ends the acceptance from
both paths; probes, answers and capability frames give the delay and the rates. -/
def Obligations.HelmCycles : Prop :=
  (∀ (s : State) (l : LaneId),
      let same : Lane → Lane → Prop := fun L M => M.synst = L.synst ∧ M.gt = L.gt ∧ Lane.Frame [] L M
      let enters : Nat → Lane → Lane → Prop := fun x L M => M.synst = x ∧ M.on R.HNET_EVT F.HNET_EVT_STCHG = true ∧ M.on R.RKN_GT F.RKN_GT_GT_VALID = decide (x = 4 ∨ x = 5)
        ∧ Lane.BytesSame L M ∧ M.hn.stAt = L.ticks
      let stepped : Int → Lane → Lane → Prop := fun d L M => M.on R.RKN_GT F.RKN_GT_GT_STEP = true ∧ (0 ≤ (L.gt : Int) + d → (M.gt : Int) = L.gt + d) ∧ ((L.gt : Int) + d < 0 → (M.gt : Int) = (L.gt + d) % 2 ^ 32)
        ∧ (d < 0 → M.on R.RKN_STAT ⟨13, 1⟩ = true)
      RunsLane (.listenTimeout l) s l (fun L M =>
        let due := L.synst = 1 ∧ L.on R.HNET_CFG F.HNET_CFG_COLDST = true ∧ L.on R.HNET_CFG F.HNET_CFG_MASTER = true ∧ max L.hn.stAt L.hn.sofTick + 2 * 2 ^ L.mxexp * 200000 ≤ L.ticks
        (due → enters 2 L M) ∧ (¬due → same L M))
      ∧ RunsLane (.backoffEnd l) s l (fun L M =>
          let due := L.synst = 6 ∧ L.hn.stAt + 20000 * L.hn.boff ≤ L.ticks
          (due → enters 1 L M) ∧ (¬due → same L M))
      ∧ RunsLane (.referenceTimeout l) s l (fun L M =>
          let due := 3 ≤ L.synst ∧ L.synst ≤ 5 ∧ L.isMaster = false ∧ max L.hn.refTick L.hn.stAt + 400000 ≤ L.ticks
          (due → enters 1 L M ∧ (L.synst ≠ 3 → M.on R.HNET_EVT F.HNET_EVT_LOST = true)) ∧ (¬due → same L M))
      ∧ RunsLane (.coldStartAck l) s l (fun L M =>
          let due := L.synst = 2 ∧ L.hn.cold = true
          (due → enters 4 L M ∧ M.isMaster = true ∧ M.fld R.HNET_STAT F.HNET_STAT_MNODE = L.nodeId ∧ stepped L.hn.coldAdd L M) ∧ (¬due → same L M))
      ∧ (∀ (p : Fin 2) (own : Bool), RunsLane (.startOfFrame l p own) s l fun L M =>
          let leaves := own = false ∧ L.synst = 2 ∧ L.hn.ownSof = false
          M.hn.sofTick = L.ticks ∧ M.hn.sofAt.at p = L.gt ∧ (leaves → enters 3 L M) ∧ (¬leaves → same L M)
          ∧ (own = true → L.synst = 2 → L.hn.cold = true → M.hn.ownSof = true ∧ (L.gt ≤ L.hn.coldTs → L.gt + M.hn.coldAdd = L.hn.coldTs) ∧ (L.hn.coldTs < L.gt → (L.gt + M.hn.coldAdd) % 200000 = 0)))
      ∧ (∀ (p : Fin 2) (f : CanFrame), RunsLane (.referenceMessageReceive l p f) s l fun L M =>
          let node := (f.data.getD 2 0).toNat / 8
          let cyc := (f.data.getD 1 0).toNat % 64
          let rate := (f.data.getD 3 0).toNat / 8 % 4
          let tsof := leNat (f.data.drop 4)
          let dly := if L.on R.HNET_CFG F.HNET_CFG_MODE then L.fld R.HNET_PDLYM F.HNET_PDLYM_DLY else L.fld R.HNET_TIM F.HNET_TIM_PDLY
          let off := (w32 (tsof + dly) - w32 (L.hn.sofAt.at p)).toInt
          let twice := L.hn.ref = some (node, tsof, cyc)
          let known := node = L.fld R.HNET_STAT F.HNET_STAT_MNODE ∧ L.isMaster = false
          let good := L.rmask.testBit rate = true
          let far := L.gmarg * 100 < off.natAbs
          (L.synst = 0 ∨ L.synst = 6 → same L M)
          ∧ (L.synst = 2 → (f.ident = L.refIdent → (f.ide = false ∨ ¬twice) → enters 6 L M ∧ M.on R.HNET_EVT F.HNET_EVT_DUPID = true ∧ 1 ≤ M.hn.boff ∧ M.hn.boff ≤ 16) ∧ (f.ident ≠ L.refIdent → ¬twice → enters 3 L M))
          ∧ (L.synst = 1 ∨ 3 ≤ L.synst ∧ L.synst ≤ 5 → ¬twice → M.rdI R.HNET_OFS = off ∧ M.fld R.HNET_STAT F.HNET_STAT_MNODE = node % 32 ∧ M.isMaster = false
              ∧ (¬good → M.on R.HNET_EVT F.HNET_EVT_RATEF = true) ∧ (¬known → M.on R.HNET_EVT F.HNET_EVT_MCHG = true) ∧ M.hn.rate = (if rate = L.fld R.HNET_STAT F.HNET_STAT_RATE then none else some rate))
          ∧ (L.synst = 1 → ¬twice → enters 3 L M ∧ M.gt = L.gt)
          ∧ (L.synst = 3 → ¬twice → ∀ t0 c0, L.hn.ref = some (node, t0, c0) → tsof = (t0 + 200000) % 2 ^ 32 → cyc = (c0 + 1) % 2 ^ L.mxexp → enters 4 L M ∧ stepped off L M)
          ∧ (L.synst = 4 → ¬twice → known → M.gt = L.gt ∧ M.slewHelm = off
              ∧ (far ∨ ¬good → M.synst = 5 ∧ M.on R.HNET_EVT F.HNET_EVT_PASSEV = true) ∧ (¬far → good → M.synst = 4))
          ∧ (L.synst = 5 → ¬twice → known → M.gt = L.gt ∧ M.slewHelm = off ∧ (¬far → 1 ≤ L.hn.near → off.natAbs ≤ L.gmarg * 50 → good → M.synst = 4) ∧ (L.hn.near < 2 → L.gmarg * 50 < off.natAbs → M.synst = 5) ∧ (far ∨ ¬good → M.synst = 5)
              ∧ (¬far → 2 ≤ L.hn.near → good → M.synst = 4) ∧ (L.hn.near = 0 → M.synst = 5) ∧ (far → M.hn.near = 0))
          ∧ ((L.synst = 4 ∨ L.synst = 5) → ¬twice → ¬known → 2000 ≤ off.natAbs → stepped off L M)))
  ∧ (∀ (s : State) (l : LaneId), s.Clean →
      let kept : Lane → Lane → Prop := fun L M => M.hn = L.hn ∧ Lane.Frame [] L M
      let both : State → Prop := fun t => (s.d0.on = true → 2 ≤ s.d0.links.at l.num → t.d0.ptx.length = s.d0.ptx.length + 1) ∧ (s.d1.on = true → 2 ≤ s.d1.links.at l.num → t.d1.ptx.length = s.d1.ptx.length + 1)
      let cold : Lane → Lane → Prop := fun L M => M.hn.cold = true ∧ M.hn.coldAt = L.ticks ∧ (L.gt + M.hn.coldAdd) % 200000 = 0 ∧ M.hn.coldAdd < 200000 ∧ M.hn.coldTs = L.gt + M.hn.coldAdd ∧ M.hn.seq.at 64 = (L.hn.seq.at 64 + 1) % 256 ∧ Lane.Frame [] L M
      (s.lane l).me = l.num →
      (let L := s.lane l
        let first := L.synst = 2 ∧ L.hn.cold = false ∧ L.hn.stAt + L.nodeId * 4000 ≤ L.ticks
        let next := L.synst = 2 ∧ L.hn.cold = true ∧ L.hn.coldAt + 200000 ≤ L.ticks
        let turn := L.synst = 4 ∧ L.on R.HNET_CFG F.HNET_CFG_MASTER = true ∧ L.isMaster = false ∧ (L.refRank + 1) * L.rkdly * 200 ≤ L.boff ∧ L.hn.sofTick + L.boff < L.ticks + 1 ∧ L.hn.ownRef ≠ L.bcyc + 1
        RunsLane (.coldStartSend l) s l (fun L M => (first → cold L M) ∧ (¬first → kept L M)) ∧ (first → Runs (.coldStartSend l) s both)
        ∧ RunsLane (.coldStartRepeat l) s l (fun L M => (next → cold L M) ∧ (¬next → kept L M)) ∧ (next → Runs (.coldStartRepeat l) s both)
        ∧ RunsLane (.referenceSendTimeout l) s l (fun L M => (turn → M.hn.ownRef = L.bcyc + 1 ∧ M.hn.seq.at 64 = (L.hn.seq.at 64 + 1) % 256 ∧ Lane.Frame [] L M) ∧ (¬turn → kept L M))
        ∧ (turn → Runs (.referenceSendTimeout l) s both))
      ∧ RunsLane (.matrixCycleStart l) s l (fun L M =>
          let due := (L.synst = 4 ∨ L.synst = 5) ∧ L.cycNow = 0 ∧ L.hn.mcyc ≠ L.bcyc / 2 ^ L.mxexp + 1
          (¬due → kept L M) ∧ (due → M.rd R.HNET_NODES = w32 L.hn.heard ∧ M.hn.tx = true ∧ M.hn.heard = 0 ∧ Lane.Frame [R.HNET_NODES.addr, R.HNET_STAT.addr, R.HNET_EVT.addr] L M
            ∧ (∀ r, r < 4 → L.hn.rate = some r → M.fld R.HNET_STAT F.HNET_STAT_RATE = r ∧ M.on R.HNET_EVT F.HNET_EVT_RATECHG = true) ∧ (L.hn.rate = none → M.rd R.HNET_STAT = L.rd R.HNET_STAT)))
      ∧ RunsLane (.basicCycleStart l) s l (fun L M =>
          let due := L.synst ≠ 0 ∧ L.hn.cyc ≠ L.bcyc + 1
          (¬due → kept L M) ∧ (due → M.fld R.HNET_STAT F.HNET_STAT_CYC = L.cycNow % 64 ∧ M.on R.HNET_PATH F.HNET_PATH_DUAL = false ∧ M.hn.cyc = L.bcyc + 1
            ∧ M.fld R.HNET_PATH F.HNET_PATH_ACT = L.fld R.HNET_PATH F.HNET_PATH_ACT ∧ Lane.Frame [R.HNET_STAT.addr, R.HNET_PATH.addr] L M))
      ∧ (∀ (p : Fin 2) (node : Fin 32), RunsLane (.delayProbe l p node) s l fun L M => Lane.Frame [] L M
          ∧ M.hn.answers = (if L.isMaster = true ∧ L.on R.HNET_CFG F.HNET_CFG_MODE = true then L.hn.answers ++ [(node.val, L.hn.sofAt.at p % 2 ^ 32)] else L.hn.answers))
      ∧ (∀ (p : Fin 2) (t2 t3 : Word), RunsLane (.delayAnswer l p t2 t3) s l fun L M =>
          let takes := L.on R.HNET_CFG F.HNET_CFG_MODE = true ∧ L.hn.probe ≠ 0
          (¬takes → kept L M) ∧ (takes → M.hn.probe = 0 ∧ M.hn.delays.length = min 8 (L.hn.delays.length + 1) ∧ Lane.Frame [R.HNET_PDLYM.addr] L M
            ∧ (L.hn.delays = [] → ∀ d : Nat, d < 1024 → ((w32 (L.hn.sofAt.at p) - w32 L.hn.probe).toInt - (t3 - t2).toInt) = 2 * d → M.fld R.HNET_PDLYM F.HNET_PDLYM_DLY = d)))
      ∧ ∀ (node : Fin 32) (mask : BitVec 3), RunsLane (.capabilityFrame l node mask) s l fun L M => M.hn.heard.testBit node = true ∧ M.hn.masks.at node = (mask.toNat, L.hn.mcyc) ∧ Lane.Frame [] L M)

/-- Helm Net frames in a lane: a transmit buffer is copied once, 120 us before its window, with the next sequence byte in an exclusive window; a received frame goes to the buffer of its window with its time, a repeated sequence byte is discarded and counted, and in the cold start one with the node's own reference identifier leads to the back-off; a failed active path gives way to the other. -/
def Obligations.HelmFrames : Prop :=
  ∀ (s : State) (l : LaneId), s.Clean →
    (∀ e : Fin 128, RunsLane (.txBufferCopy l e) s l fun L M =>
      let m := L.mx e
      let t := L.gt + 24000
      let now := e.val < L.mxCount ∧ (L.synst = 4 ∨ L.synst = 5) ∧ m.inCycle (t / 200000 % 2 ^ L.mxexp) = true ∧ m.start * 200 ≤ t % 200000 ∧ t % 200000 < (m.start + m.len) * 200
        ∧ L.hn.copied.at e ≠ t / 200000 + 1 ∧ (L.hn.tx = true ∨ m.kind = 3) ∧ m.kind ≠ 2
      Lane.Frame [] L M ∧ (¬now → M.hn = L.hn) ∧ (now → M.hn.copied.at e = t / 200000 + 1
        ∧ (m.kind = 0 → m.tx = true → m.nobuf = false → M.hn.seq.at m.buf = (if L.synst = 4 ∧ L.on (R.HNET_BCFG m.buf) F.HNET_BCFG_EN = true then (L.hn.seq.at m.buf + 1) % 256 else L.hn.seq.at m.buf))))
    ∧ (∀ (e : Fin 128), let L := s.lane l
        let m := L.mx e
        let t := L.gt + 24000
        e.val < L.mxCount → (L.synst = 4 ∨ L.synst = 5) → m.inCycle (t / 200000 % 2 ^ L.mxexp) = true → m.start * 200 ≤ t % 200000 → t % 200000 < (m.start + m.len) * 200 →
        L.hn.copied.at e ≠ t / 200000 + 1 → L.hn.tx = true → m.kind = 0 → m.tx = true → m.nobuf = false → s.d0.on = true → 2 ≤ s.d0.links.at l.num → L.me = l.num →
        Runs (.txBufferCopy l e) s fun u => ∃ r : PortRec, u.d0.ptx = s.d0.ptx ++ [(l.num, r.words)] ∧ r.lane = l.num ∧ r.port = 1 ∧ r.tag = e.val ∧ r.arb = false ∧ r.wlen = m.len * 8 ∧ r.gm = L.gmarg
          ∧ r.noframe = !(decide (L.synst = 4) && L.on (R.HNET_BCFG m.buf) F.HNET_BCFG_EN)
          ∧ (r.noframe = false → r.ident = L.fld (R.HNET_BCFG m.buf) F.HNET_BCFG_IDENT ∧ r.dlc = L.fld (R.HNET_BCFG m.buf) F.HNET_BCFG_DLC ∧ r.brs = true ∧ r.fdf = true
              ∧ (0 < r.dlc → r.data.head? = some (BitVec.ofNat 8 (L.hn.seq.at m.buf + 1)))))
    ∧ (∀ (p : Fin 2) (f : CanFrame), Runs (.helmNetFrameReceive l p f) s fun t =>
        let L := s.lane l
        let M := t.lane l
        let kind := match L.windowNow with | some e => (L.mx e).kind | none => 2
        let accepts := (L.synst = 4 ∨ L.synst = 5) ∧ (L.fld R.HNET_PATH F.HNET_PATH_ACT = p.val ∨ L.on R.HNET_PATH F.HNET_PATH_DUAL = true)
        let seq := (f.data.getD 0 0).toNat
        let twin := L.synst = 2 ∧ f.ide = false ∧ f.ident = L.refIdent
        t.pending = s.pending ∧ t.bin = s.bin ∧ (∀ k, k ≠ l → t.lane k = s.lane k) ∧ (twin → M.synst = 6 ∧ M.on R.HNET_EVT F.HNET_EVT_DUPID = true) ∧ (¬twin → ¬accepts ∨ L.rxBuf kind (L.windowNow.getD 0) f = none → Lane.Frame [] L M)
        ∧ ∀ b, accepts → L.rxBuf kind (L.windowNow.getD 0) f = some b → b < 64 →
            let dup := 0 < L.hn.rxAt.at b ∧ L.fld (R.HNET_BST b) F.HNET_BST_SEQ = seq
            (dup → M.fld R.HNET_CNT F.HNET_CNT_DUP = min 65535 (L.fld R.HNET_CNT F.HNET_CNT_DUP + 1) ∧ Lane.Frame [R.HNET_CNT.addr] L M)
            ∧ (¬dup → M.on (R.HNET_BST b) F.HNET_BST_NEW = true ∧ M.fld (R.HNET_BST b) F.HNET_BST_SEQ = seq ∧ M.fld (R.HNET_BST b) F.HNET_BST_PATH = p.val ∧ M.rd (R.HNET_BT b) = w32 L.gt
                ∧ (L.on (R.HNET_BST b) F.HNET_BST_NEW = true → M.on (R.HNET_BST b) F.HNET_BST_OVR = true)
                ∧ (∀ j, 4 * j < dlcBytes f.dlc → M.rd (R.HNET_BD b j) = w32 (leNat ((f.data.drop (4 * j)).take 4))) ∧ Lane.BlockFrame [0x4008] L M))
    ∧ (∀ (k : Nat) (e : Nat) (f : CanFrame), k < 2 → (s.lane l).rxBuf (3 * k) e f = (if (s.lane l).mx e |>.nobuf then none
        else if (s.lane l).on (R.HNET_BCFG ((s.lane l).mx e).buf) F.HNET_BCFG_EN = true ∧ (s.lane l).on (R.HNET_BCFG ((s.lane l).mx e).buf) F.HNET_BCFG_DIR = false
          ∧ (s.lane l).fld (R.HNET_BCFG ((s.lane l).mx e).buf) F.HNET_BCFG_IDENT = f.ident ∧ f.ide = false then some ((s.lane l).mx e).buf else none))
    ∧ ∀ p : Fin 2, Runs (.pathFailTimeout l p) s fun t =>
        let L := s.lane l
        let M := t.lane l
        let sync := L.synst = 4 ∨ L.synst = 5
        let fails := sync ∧ (L.on R.HNET_PATH (guBit p) = true ∨ L.pathMissed p (400 * L.rkdly) = true ∨ (9 * L.rkdly * 200 ≤ L.boff ∧ L.hn.refSof.at p ≠ L.bcyc + 1 ∧ L.hn.refWhole.at (1 - p.val) = L.bcyc + 1))
        let other := L.on R.HNET_PATH (guBit (1 - p.val)) = false ∧ L.on R.HNET_PATH (rxfBit (1 - p.val)) = false
        t.pending = s.pending ∧ t.bin = s.bin ∧ (∀ k, k ≠ l → t.lane k = s.lane k) ∧ (¬fails → Lane.Frame [] L M) ∧ (fails → M.on R.HNET_PATH (rxfBit p) = true
          ∧ (L.on R.HNET_PATH (rxfBit p) = false → M.on R.HNET_EVT (if p.val = 0 then F.HNET_EVT_RXFA else F.HNET_EVT_RXFB) = true)
          ∧ (L.fld R.HNET_PATH F.HNET_PATH_ACT = p.val → other → M.fld R.HNET_PATH F.HNET_PATH_ACT = 1 - p.val ∧ M.on R.HNET_PATH F.HNET_PATH_DUAL = true ∧ M.on R.HNET_EVT F.HNET_EVT_SWITCH = true)
          ∧ (L.fld R.HNET_PATH F.HNET_PATH_ACT ≠ p.val ∨ ¬other → M.fld R.HNET_PATH F.HNET_PATH_ACT = L.fld R.HNET_PATH F.HNET_PATH_ACT))

/-- Ethernet: the MAC takes the next descriptor it owns and hands its frame over with the next running count; a frame that the port fix has sent clears OWN and counts, a dropped one clears it with DROP; a received frame that passes the filters goes to the next receive descriptor, and is dropped with RXOVF
without one; a bad frame sets RXERR. A voted PHY access ends with PHYDONE. A lost reference clock sets REFLOST. -/
def Obligations.EthernetFrames : Prop :=
  (∀ (s : State) (l : LaneId) (p : Fin 2), RunsLane (.ethTxDescriptorTake l p) s l fun L M =>
    let base := (L.rd (R.ETH_TXBASE p)).toNat
    let k := L.fld (R.ETH_IDX p) F.ETH_IDX_TXI
    let takes := L.on (R.ETH_CTRL p) F.ETH_CTRL_ACTIVE = true ∧ (L.eth.at p).closing = false ∧ D.OWN.on (L.desc base k 1) = true ∧ ∀ e ∈ (L.eth.at p).out, e.2 ≠ k
    (¬takes → M.eth = L.eth ∧ Lane.Frame [] L M)
    ∧ (takes → (M.eth.at p).tag = ((L.eth.at p).tag + 1) % 65536 ∧ (M.eth.at p).out.at (L.eth.at p).tag = k ∧ Lane.Frame [(R.ETH_IDX p).addr] L M
        ∧ (k < 128 → M.fld (R.ETH_IDX p) F.ETH_IDX_TXI = (k + 1) % max 1 (L.fld (R.ETH_TXCNT p) F.ETH_TXCNT_CNT) % 128)))
  ∧ (∀ (s : State) (p : Fin 2), s.Clean → (s.die p).split = false →
      ((s.die p).nextEth = none → exec (.ethTxDone p) s = .next s)
      ∧ ∀ x, (s.die p).nextEth = some x → Runs (.ethTxDone p) s fun t => (t.die p).frames = (s.die p).frames.erase x
          ∧ ∀ k j, ((s.lane k).eth.at p).closing = false → (((s.lane k).eth.at p).out.find? fun e => decide (e.1 = x.frame.tag)) = some (x.frame.tag, j) →
              let L := s.lane k
              let M := t.lane k
              let a := (L.rd (R.ETH_TXBASE p)).toNat + 8 * j + 4
              (x.why = 0 → M.fld (R.ETH_CNT p) F.ETH_CNT_TX = min 65535 (L.fld (R.ETH_CNT p) F.ETH_CNT_TX + 1))
              ∧ (x.why = 1 → M.on (R.ETH_EVT p) F.ETH_EVT_NOAGR = true) ∧ (x.why = 2 → M.on (R.ETH_EVT p) F.ETH_EVT_FCSDROP = true)
              ∧ (j < 128 → M.on (R.ETH_EVT p) F.ETH_EVT_TXDONE = true ∧ (0x20000000 ≤ a → a + 4 ≤ 0x20100000 → D.OWN.on (M.memW a) = false ∧ D.DROP.on (M.memW a) = decide (x.why ≠ 0)
                    ∧ D.LEN.get (M.memW a) = D.LEN.get (L.memW a) ∧ ∀ c, c < a ∨ a + 4 ≤ c → M.byte c = L.byte c))
              ∧ Lane.RegsBut [(R.ETH_EVT p).addr, (R.ETH_CNT p).addr] L M)
  ∧ (∀ (s : State) (l : LaneId) (p : Fin 2) (bytes : List Byte) (good : Bool), RunsLane (.ethFrameReceive l p bytes good) s l fun L M =>
      let act := L.on (R.ETH_CTRL p) F.ETH_CTRL_ACTIVE = true
      let dst := leNat (bytes.take 6)
      let own := (L.rd (R.ETH_MACLO p)).toNat + 2 ^ 32 * L.fld (R.ETH_MACHI p) F.ETH_MACHI_ADDR
      let pdu := L.on R.SAFE_CTRL F.SAFE_CTRL_ACTIVE = true ∧ dst = own ∧ beNat ((bytes.drop 12).take 2) = 0x88B5
      let pass := dst = own ∨ (dst = 2 ^ 48 - 1 ∧ L.on (R.ETH_CFG p) F.ETH_CFG_BCAST = true) ∨ (dst.testBit 0 = true ∧ dst ≠ 2 ^ 48 - 1 ∧ L.on (R.ETH_CFG p) F.ETH_CFG_MCAST = true)
        ∨ ∃ k, k < 4 ∧ L.on (R.ETH_FHI k) F.ETH_FHI_EN = true ∧ L.on (R.ETH_FHI k) (if p.val = 0 then F.ETH_FHI_PATHA else F.ETH_FHI_PATHB) = true
            ∧ dst = (L.rd (R.ETH_FLO k)).toNat + 2 ^ 32 * L.fld (R.ETH_FHI k) F.ETH_FHI_ADDR
      let base := (L.rd (R.ETH_RXBASE p)).toNat
      let k := L.fld (R.ETH_IDX p) F.ETH_IDX_RXI
      let buf := (L.desc base k 0).toNat
      (¬act ∨ (good = true ∧ ¬pdu ∧ ¬pass) → M.safe = L.safe ∧ Lane.Frame [] L M) ∧ (act → good = false → M.on (R.ETH_EVT p) F.ETH_EVT_RXERR = true ∧ Lane.Frame [(R.ETH_EVT p).addr] L M)
        ∧ (act → good = true → pdu → (∃ q, M.safe.rx = L.safe.rx ++ [q]) ∧ Lane.Frame [] L M)
        ∧ (act → good = true → ¬pdu → pass → D.OWN.on (L.desc base k 1) = false → M.on (R.ETH_EVT p) F.ETH_EVT_RXOVF = true ∧ Lane.Frame [(R.ETH_EVT p).addr] L M)
        ∧ (act → good = true → ¬pdu → pass → D.OWN.on (L.desc base k 1) = true → M.on (R.ETH_EVT p) F.ETH_EVT_RXFRM = true
            ∧ M.fld (R.ETH_CNT p) F.ETH_CNT_RX = min 65535 (L.fld (R.ETH_CNT p) F.ETH_CNT_RX + 1) ∧ Lane.RegsBut [(R.ETH_EVT p).addr, (R.ETH_CNT p).addr, (R.ETH_IDX p).addr] L M
            ∧ (0x20000000 ≤ base → base + 8 * k + 8 ≤ 0x20100000 → D.OWN.on (M.desc base k 1) = false ∧ (bytes.length < 2048 → D.LEN.get (M.desc base k 1) = bytes.length))
            ∧ (0x20000000 ≤ buf → buf + bytes.length ≤ 0x20100000 → buf + bytes.length ≤ base + 8 * k + 4 ∨ base + 8 * k + 8 ≤ buf → ∀ i, i < bytes.length → M.byte (buf + i) = bytes.getD i 0)
            ∧ ∀ c, (c < buf ∨ buf + bytes.length ≤ c) → (c < base + 8 * k + 4 ∨ base + 8 * k + 8 ≤ c) → M.byte c = L.byte c))
  ∧ (∀ (s : State) (p : Fin 2) (da db dc : BitVec 16), s.Clean →
      ((∀ k, ((s.lane k).eth.at p).phy = none) → exec (.phyAccessDone p da db dc) s = .next s)
      ∧ ∀ x, (∀ k, ((s.lane k).eth.at p).phy = some x) → Runs (.phyAccessDone p da db dc) s fun t => ∀ k, (s.lane k).w1sNow.at (R.ETH_PHYADR p).addr &&& F.ETH_PHYADR_GO.mask.toNat = 0 → let M := t.lane k
          M.on (R.ETH_PHYADR p) F.ETH_PHYADR_BUSY = false ∧ (M.eth.at p).phy = none ∧ M.on (R.ETH_EVT p) F.ETH_EVT_PHYDONE = true
            ∧ (x.2.2.1 = false → M.fld (R.ETH_PHYDAT p) F.ETH_PHYDAT_DATA = (match k with | .A => da | .B => db | .C => dc).toNat)
            ∧ Lane.Frame [(R.ETH_PHYADR p).addr, (R.ETH_EVT p).addr, (R.ETH_PHYDAT p).addr] (s.lane k) M)
  ∧ ∀ (s : State) (l : LaneId) (p : Fin 2),
    RunsLane (.refclkLoss l p) s l (fun L M => M.on (R.ETH_STAT p) F.ETH_STAT_REFOK = false ∧ Lane.Frame [(R.ETH_STAT p).addr, (R.ETH_EVT p).addr] L M
      ∧ (L.on (R.ETH_STAT p) F.ETH_STAT_REFOK = true → M.on (R.ETH_EVT p) F.ETH_EVT_REFLOST = true))
    ∧ RunsLane (.refclkReturn l p) s l fun L M => M.on (R.ETH_STAT p) F.ETH_STAT_REFOK = true ∧ Lane.Frame [(R.ETH_STAT p).addr] L M

/-- Enables of the safety layer: the blocks become active, the sessions' own at once unless a disable of theirs has still to end; a session or an axis's functions whose check fails stay out with CFGERR.
A session in RUN whose time expectation has passed posts its expiry reaction; a controlled stop that has lasted CSTOPT posts code 2; a challenge closes after 60 s; a commissioning record written confirms, and a lock-out record written holds what is locked out, without what is being released; a record whose write fails spoils at most its own copy. -/
def Obligations.SafetyEnablesAndTimers : Prop :=
  (∀ (s : State) (l : LaneId) (v : Word), s.Quiet → (s.lane l).Unlocked →
      RunsLane (.safetyLayerEnable l v) s l (fun L M => M.on R.SAFE_CTRL F.SAFE_CTRL_EN = true ∧ Lane.Frame [R.SAFE_CTRL.addr] L M
          ∧ M.on R.SAFE_CTRL F.SAFE_CTRL_ACTIVE = (L.on R.SAFE_CTRL F.SAFE_CTRL_ACTIVE || (!L.on R.SAFE_CTRL F.SAFE_CTRL_EN && !L.safe.closing)))
      ∧ RunsLane (.monitorEnable l v) s l (fun L M => M.on R.SFN_CTRL F.SFN_CTRL_EN = true ∧ M.on R.SFN_CTRL F.SFN_CTRL_ACTIVE = true ∧ Lane.Frame [R.SFN_CTRL.addr] L M)
      ∧ (∀ n : Fin 128, n ≠ 0 → (s.lane l).sessSt n = 0 → (s.lane l).on (R.SAFE_SCFG n) F.SAFE_SCFG_EN = false →
          RunsLane (.sessionEnable l n v) s l fun L M => M.on (R.SAFE_SCFG n) F.SAFE_SCFG_EN = true ∧ (M.safe.sess.at n).ok = !M.sessFails n ∧ M.sessSt n = 0
            ∧ (M.sessFails n = true → M.on R.SAFE_EVT F.SAFE_EVT_CFGERR = true) ∧ Lane.Frame [(R.SAFE_SCFG n).addr, R.SAFE_EVT.addr] L M)
      ∧ ∀ a : Fin 12, (s.lane l).on (R.SFN_ACFG a) F.SFN_ACFG_EN = false →
          RunsLane (.functionEnable l a v) s l fun L M => M.on (R.SFN_ACFG a) F.SFN_ACFG_EN = true ∧ (M.safe.mon.at a).on = !M.sfnFails a
            ∧ (M.sfnFails a = true → M.on R.SFN_EVT F.SFN_EVT_CFGERR = true) ∧ Lane.Frame [(R.SFN_ACFG a).addr, R.SFN_EVT.addr] L M)
  ∧ (∀ (s : State) (l : LaneId), (s.lane l).me = l.num →
      let spared : (Nat → Nat) → Option Nat → Nat → Prop := fun base cur a => let b := base (match cur with | some c => 1 - c | none => 0); a < b ∨ b + 0x1000 ≤ a
      (∀ n : Fin 128, RunsLane (.sessionExpire l n) s l fun L M =>
        let due := L.sessSt n = 2 ∧ (L.sessOf n).expired = false ∧ (L.sessOf n).last + L.fld (R.SAFE_SNEG n) F.SAFE_SNEG_TEXP * 200000 ≤ L.gt
        (¬due → M.safe = L.safe ∧ M.ck = L.ck ∧ Lane.Frame [] L M)
        ∧ (due → L.alone = false → (∀ q ∈ L.ck.trips, q.tick ≠ L.ticks) → (M.sessOf n).expired = true ∧ M.sessSt n = 2 ∧ (∃ q ∈ M.ck.trips, q.trip = .sess n false (L.fld (R.SAFE_SREACT n) F.SAFE_SREACT_EXPR))
            ∧ Lane.Frame [] L M))
      ∧ (∀ a : Fin 12, RunsLane (.controlledStopTimeout l a) s l fun L M =>
          let due := ∃ t, (L.monOf a).cend = some t ∧ t ≤ L.ticks
          (¬due → M.safe = L.safe ∧ M.ck = L.ck ∧ Lane.Frame [] L M) ∧ (due → L.alone = false → (M.monOf a).cend = none ∧ (∃ q ∈ M.ck.trips, q.trip = .axis a 2) ∧ Lane.Frame [] L M))
      ∧ RunsLane (.challengeExpire l) s l (fun L M =>
          let due := L.safe.chal.isSome = true ∧ L.safe.chalAt + 12000000000 ≤ L.ticks
          (¬due → M.safe = L.safe ∧ Lane.Frame [] L M) ∧ (due → M.safe = { L.safe with chal := none } ∧ M.on R.SAFE_CMST F.SAFE_CMST_CHOPEN = false ∧ Lane.Frame [R.SAFE_CMST.addr] L M))
      ∧ (∀ ok : Bool, RunsLane (.commissioningRecordWriteDone l ok) s l fun L M =>
          let due := L.safe.conf.isSome = true ∧ L.safe.confRes = none ∧ 2 ∉ L.nvmWait
          (¬due → M.safe = L.safe ∧ Lane.Frame [] L M) ∧ (due → M.safe.confRes = some ok ∧ Lane.RegsBut [R.SAFE_CMST.addr, R.PWR_NVMST.addr] L M ∧ (∀ a, M.byte a = L.byte a)
            ∧ (ok = true → M.confirming = true ∧ ∃ c, M.comCopy = some c ∧ M.flashW (comBase c + 16) = L.safe.confId) ∧ (ok = false → ∀ a, spared comBase L.comCopy a → M.flashByte a = L.flashByte a)))
      ∧ ∀ ok : Bool, RunsLane (.lockoutRecordWriteDone l ok) s l fun L M =>
          let due := 3 ∉ L.nvmWait ∧ L.nvmBusy 3 = true
          (¬due → M.safe = L.safe ∧ Lane.Frame [] L M) ∧ (due → Lane.RegsBut [R.PWR_NVMST.addr] L M ∧ (∀ a, M.byte a = L.byte a) ∧ (ok = false → ∀ a, spared loBase L.loCopy a → M.flashByte a = L.flashByte a)
            ∧ (L.safe.rel.isSome = true → L.safe.relRes = none → M.safe.relRes = some ok) ∧ (L.safe.rel = none → M.safe = L.safe)
            ∧ (ok = true → ∃ c, M.loCopy = some c ∧ (∀ a, a < 12 → bitOf (M.flashW (loBase c + 4)) a = (L.axLo.testBit a && !L.dg.releasing.testBit a))
                ∧ bitOf (M.flashW (loBase c + 4)) 12 = (L.devLo && !L.dg.releasing.testBit 16))))

/-- A lane checks a PDU in the order of R458: session and carrier, CRC, type and length, age, sequence. A failed check discards it with its flag and count, a repeated sequence number as a duplicate; an accepted one sets the last sequence number and restarts the watchdog, and a STOP posts the session's
reaction, or the higher of it and the expiry reaction where the watchdog runs out in the same tick. The command of one type takes the front PDU where it is of that type. -/
def Obligations.SafetyPdus : Prop :=
  ∀ (s : State) (l : LaneId),
    let cmds : List (Instr × (Nat → Bool)) := [(.safetyPduReceive l, fun _ => true), (.hello l, fun t => decide (t = 1)), (.command l, fun t => decide (t = 2)), (.heartbeat l, fun t => decide (t = 3)),
      (.stop l, fun t => decide (t = 4)), (.reset l, fun t => decide (t = 5)), (.query l, fun t => decide (t = 6)), (.confirm l, fun t => decide (t = 7))]
    ∀ e ∈ cmds, RunsLane e.1 s l fun L M =>
      (L.safe.rx = [] → M.safe = L.safe ∧ Lane.Frame [] L M)
      ∧ ∀ r rest, L.safe.rx = r :: rest →
        let bs := r.bytes
        let n := pduSess bs
        let ty := pduType bs
        let cfg := L.rd (R.SAFE_SCFG n)
        let here := 1 ≤ n ∧ F.SAFE_SCFG_EN.on cfg = true ∧ F.SAFE_SCFG_CARRIER.on cfg = r.eth ∧ (if r.eth then F.SAFE_SCFG_EPATH.get cfg else F.SAFE_SCFG_RXBUF.get cfg) = r.chan
        let whole := crcOf (L.rd (R.SAFE_SPID n)) (L.rd R.SAFE_OWNID) (if ty = 1 then 1 else L.fld (R.SAFE_SNEG n) F.SAFE_SNEG_VAR) n (bs.take (10 + 4 * pduNw bs)) = pduCrc bs
        let fits := pduAllowed (L.sessSt n) ty = true ∧ pduNw bs ≤ 12
        let age := (w32 r.time - w32 (pduTs bs)).toInt
        let fresh := L.on R.RKN_GT F.RKN_GT_GT_VALID = true ∧ -400 ≤ age ∧ age ≤ L.fld (R.SAFE_SCHK n) F.SAFE_SCHK_AGEMAX * 200
        let ahead := (pduSeq bs + 65536 - L.fld (R.SAFE_SST n) F.SAFE_SST_LSEQ) % 65536
        let bad : Bf → Prop := fun f => M.on (R.SAFE_SST n) f = true ∧ M.fld (R.SAFE_SERR n) F.SAFE_SERR_ERR = min 65535 (L.fld (R.SAFE_SERR n) F.SAFE_SERR_ERR + 1) ∧ M.safe.acc = L.safe.acc
          ∧ M.safe.sess = L.safe.sess ∧ M.sessSt n = L.sessSt n ∧ Lane.Frame [(R.SAFE_SST n).addr, (R.SAFE_SERR n).addr] L M
        let on := L.on R.SAFE_CTRL F.SAFE_CTRL_ACTIVE = true
        (e.2 ty = false → M.safe = L.safe ∧ Lane.Frame [] L M)
        ∧ (e.2 ty = true → M.safe.rx = rest ∧ (¬on → M.safe.acc = L.safe.acc ∧ Lane.Frame [] L M)
          ∧ (on → ¬here → M.fld R.SAFE_CNT F.SAFE_CNT_UNK = min 65535 (L.fld R.SAFE_CNT F.SAFE_CNT_UNK + 1) ∧ M.safe.acc = L.safe.acc ∧ Lane.Frame [R.SAFE_CNT.addr] L M)
          ∧ (on → here → ¬whole → bad F.SAFE_SST_CRCE) ∧ (on → here → whole → ¬fits → bad F.SAFE_SST_TYPEE) ∧ (on → here → whole → fits → ¬fresh → bad F.SAFE_SST_TSE)
          ∧ (on → here → whole → fits → fresh → ty ≠ 1 → ahead = 0 → M.fld (R.SAFE_SERR n) F.SAFE_SERR_DUP = min 65535 (L.fld (R.SAFE_SERR n) F.SAFE_SERR_DUP + 1)
              ∧ M.safe.acc = L.safe.acc ∧ M.safe.sess = L.safe.sess ∧ Lane.Frame [(R.SAFE_SERR n).addr] L M)
          ∧ (on → here → whole → fits → fresh → ty ≠ 1 → L.fld (R.SAFE_SCHK n) F.SAFE_SCHK_SEQWIN < ahead → bad F.SAFE_SST_SEQE)
          ∧ (on → here → whole → fits → fresh → ty = 1 ∨ (ahead ≠ 0 ∧ ahead ≤ L.fld (R.SAFE_SCHK n) F.SAFE_SCHK_SEQWIN) →
              (∃ p, M.safe.acc = L.safe.acc ++ [p] ∧ p.sess = n ∧ p.ty = ty ∧ p.seq = pduSeq bs ∧ p.words = pduWords bs)
              ∧ (ty ≠ 4 → M.fld (R.SAFE_SST n) F.SAFE_SST_LSEQ = pduSeq bs ∧ (M.sessOf n).last = r.time ∧ M.sessSt n = L.sessSt n ∧ M.ck = L.ck ∧ Lane.Frame [(R.SAFE_SST n).addr] L M)
              ∧ (ty = 4 → L.alone = false → (∀ q ∈ L.ck.trips, q.tick ≠ L.ticks) → M.fld (R.SAFE_SST n) F.SAFE_SST_LSEQ = pduSeq bs ∧ (M.sessOf n).last = r.time ∧ M.sessSt n = L.sessSt n
                  ∧ ∃ q ∈ M.ck.trips, q.trip = .sess n true (if L.sessDue n then max (L.fld (R.SAFE_SREACT n) F.SAFE_SREACT_STOPR) (L.fld (R.SAFE_SREACT n) F.SAFE_SREACT_EXPR) else L.fld (R.SAFE_SREACT n) F.SAFE_SREACT_STOPR))))

/-- Self-diagnosis and the degraded modes: the failed tests are shown and the lane passes with none; a lane whose own detection finds a fault while it drives alone or by its own state gives up, and after 8 die ticks is out, as is a failed lane without power; crawl ends after LLTIME in the stop phase; a steering axis of whose windings one has been in RUN and none has for 20 ms (log entry 69: R509 does not say how the time before the first RUN counts) puts the device
into Heave-to with cause 2; standstill without a travel source ends a degraded mode in Lock-out.
The way back of an odd lane (R126 to R131): its reset done it sounds, or is out after too many resynchronisations; sounded it receives, or is out; the transfer gives it the memories and registers of the healthy lanes but its own hardware's, the lower half of each item from the lane with the lower letter, with the safety lock set; after 50 ms without a rejoin it is out. A split
without OFFCONF within 2 ms is refused. -/
def Obligations.DegradedAndReturning : Prop :=
  (∀ (s : State) (l : LaneId), (s.lane l).me = l.num →
      let kept : Lane → Lane → Prop := fun L M => M.dg = L.dg ∧ M.edg = L.edg ∧ Lane.Frame [] L M
      (∀ pat ecc ref clk : Bool, RunsLane (.selfDiagnosisEnd l pat ecc ref clk) s l fun L M =>
        let due := L.mySt = 8 ∧ L.dg.sdRes = none
        let links := ∃ n, n < 4 ∧ (L.fld R.PWR_STAT F.PWR_STAT_DIES).testBit n = true ∧ L.fld (R.DLK_LSTAT n) (match l with | .A => F.DLK_LSTAT_LNK_A | .B => F.DLK_LSTAT_LNK_B | .C => F.DLK_LSTAT_LNK_C) ≠ 2
        let fails := M.fld R.FIX_SDRES F.FIX_SDRES_FAIL
        (¬due → kept L M) ∧ (due → (fails.testBit 0 = pat) ∧ (fails.testBit 1 = true ↔ ecc = true ∨ w32 L.crcCode ≠ L.rd R.IMG_CRCCODE ∨ w32 L.crcPm ≠ L.rd R.IMG_CRCPM) ∧ (fails.testBit 2 = ref)
          ∧ (fails.testBit 3 = clk) ∧ (fails.testBit 4 = true ↔ links) ∧ M.dg.sdRes = some (decide (fails = 0)) ∧ Lane.Frame [R.FIX_SDRES.addr] L M))
      ∧ (let L := s.lane l
        let due := L.edg.giveUp = true ∧ 0 < L.dg.giveUp ∧ L.dg.giveUp + 80000 ≤ L.ticks + 1
        let gone := L.pw.on = false ∧ ∃ k, (s.lane k).mySt = 3 ∧ (s.lane k).laneSt l.num = 8
        ∀ flash : Bool, (¬due → ¬gone → RunsLane (.giveUpEnd l flash) s l kept) ∧ (¬due → gone → Runs (.giveUpEnd l flash) s fun t => ∀ k, (t.lane k).laneSt l.num = 9 ∧ Lane.Frame [R.FIX_STAT.addr, R.FIX_EVT.addr, R.FIX_CTRL.addr] (s.lane k) (t.lane k)) ∧ (due → Runs (.giveUpEnd l flash) s fun t => (t.lane l).edg.giveUp = false ∧ (t.lane l).dg.giveUp = 0
          ∧ (∀ k, (t.lane k).laneSt l.num = 9 ∧ ((s.lane k).laneSt l.num ≠ 9 → (t.lane k).on R.FIX_EVT F.FIX_EVT_LANEOUT = true) ∧ Lane.RegsBut [R.FIX_STAT.addr, R.FIX_EVT.addr, R.FIX_CTRL.addr] (s.lane k) (t.lane k))
          ∧ (flash = true → ∃ c, (t.lane l).loCopy = some c ∧ bitOf ((t.lane l).flashW (loBase c + 4)) 12 = true)
          ∧ (flash = false → ∀ a, (t.lane l).flashByte a = L.flashByte a)))
      ∧ (let L := s.lane l
        (L.mayGiveUp = false → exec (.survivorFault l) s = .next s)
        ∧ (L.mayGiveUp = true → Runs (.survivorFault l) s fun t => (t.lane l).edg.giveUp = true ∧ (t.lane l).dg.giveUp = L.ticks + 1 ∧ Lane.Frame [] L (t.lane l)
            ∧ ∀ k, k ≠ l → (s.lane k).me = k.num → (s.lane k).dmode = 3 → (s.lane k).mySt = 3 → (s.lane k).edg.giveUp = false →
                ((t.lane k).fld R.FIX_DGSTAT F.FIX_DGSTAT_LANES).testBit l.num = false
                ∧ ((s.lane k).fld R.FIX_DGSTAT F.FIX_DGSTAT_LANES = 2 ^ k.num + 2 ^ l.num → (t.lane k).dmode = 2 ∧ (t.lane k).fld R.FIX_DGSTAT F.FIX_DGSTAT_LLPH = 2 ∧ (t.lane k).dg.profAt = (s.lane k).dg.profAt)))
      ∧ RunsLane (.crawlTimeout l) s l (fun L M =>
          let due := L.dmode = 2 ∧ L.fld R.FIX_DGSTAT F.FIX_DGSTAT_LLPH = 1 ∧ L.dg.crawlAt + L.fld R.FIX_DGCFG F.FIX_DGCFG_LLTIME * 200000000 ≤ L.ticks
          (¬due → kept L M) ∧ (due → M.fld R.FIX_DGSTAT F.FIX_DGSTAT_LLPH = 2 ∧ M.dmode = 2 ∧ M.dg.profAt = L.ticks ∧ M.dg.prof = true ∧ Lane.Frame [R.FIX_DGSTAT.addr] L M))
      ∧ (∀ a : Fin 12, RunsLane (.steeringAxisLost l a) s l fun L M =>
          let due := L.axActive a = true ∧ L.axKind a = 1 ∧ (∀ b, b < 8 → L.bindsBridge a b = true → L.fld (R.EDG_MSTAT b) F.EDG_MSTAT_STATE ≠ 6 ∧ (L.mcOf b).ranAt + 4000000 ≤ L.ticks + 1)
            ∧ (∃ b, b < 8 ∧ L.bindsBridge a b = true ∧ (L.mcOf b).ranAt ≠ 0) ∧ L.dmode = 0 ∧ L.mySt = 3
          (¬due → kept L M) ∧ (due → M.dmode = 3 ∧ M.fld R.FIX_DGSTAT F.FIX_DGSTAT_HCAUSE = 2 ∧ M.fld R.FIX_DGSTAT F.FIX_DGSTAT_AXLOST = a.val ∧ M.fld R.FIX_DGSTAT F.FIX_DGSTAT_LANES = L.inFix
            ∧ M.on R.FIX_DGEVT F.FIX_DGEVT_HTENT = true ∧ M.on R.FIX_DGEVT F.FIX_DGEVT_AXLOSTEV = true ∧ (M.rd R.PWR_MODE).toNat / 16 % 8 = 3 ∧ M.dg.profAt = L.ticks ∧ Lane.BytesSame L M))
      ∧ RunsLane (.standstillWaitEnd l) s l fun L M =>
          let due := L.fld R.POS_TRSTAT F.POS_TRSTAT_SRC = 7 ∧ L.dg.prof = true ∧ L.dg.still = false
            ∧ L.dg.profAt + (L.profPt (L.profN - 1)).1.toNat * 200000 + max 1 (L.fld R.FIX_DGCFG F.FIX_DGCFG_STILLT) * 200000000 ≤ L.ticks
          (¬due → kept L M) ∧ (due → M.dg.still = true ∧ (L.dmode = 2 ∨ L.dmode = 3 → M.dmode = 4 ∧ M.devLo = true ∧ (M.rd R.PWR_MODE).toNat / 16 % 8 = 4) ∧ (L.dmode ≠ 2 → L.dmode ≠ 3 → Lane.Frame [] L M)))
  ∧ (∀ (s : State) (l : LaneId), (s.lane l).me = l.num →
      let L := s.lane l
      let all : State → Nat → Prop := fun t x => t.pending = s.pending ∧ t.bin = s.bin ∧ ∀ k, (t.lane k).laneSt l.num = x ∧ (x = 9 → (s.lane k).laneSt l.num ≠ 9 → (t.lane k).on R.FIX_EVT F.FIX_EVT_LANEOUT = true)
      let moved : State → Prop := fun t => ∀ k, Lane.Frame [R.FIX_STAT.addr, R.FIX_EVT.addr, R.FIX_CTRL.addr] (s.lane k) (t.lane k)
      let count := L.fld R.FIX_RSCNT (rsBf l.num)
      (L.mySt ≠ 4 → exec (.laneResetDone l) s = .next s)
      ∧ (L.mySt = 4 → ∀ k, s.healthy l = some k → Runs (.laneResetDone l) s fun t => all t (if (s.lane k).fld R.FIX_CTRL F.FIX_CTRL_MAXRESYNC < count then 9 else 5) ∧ moved t)
      ∧ (∀ pass : Bool, (L.mySt ≠ 5 → exec (.quickSoundingDone l pass) s = .next s) ∧ (L.mySt = 5 → Runs (.quickSoundingDone l pass) s fun t => all t (if pass then 6 else 9)))
      ∧ (L.mySt ≠ 6 ∨ L.ck.caught = true ∨ s.healthy l = none → exec (.resyncTransferDone l) s = .next s)
      ∧ (L.mySt = 6 → L.ck.caught = false → ∀ k g, s.healthyLanes l = [k, g] ∨ (s.healthyLanes l = [k] ∧ g = k) → (L.regs.map (·.1)).Nodup → ((s.lane k).regs.map (·.1)).Nodup → ((s.lane k).mem.map (·.1)).Nodup →
        Runs (.resyncTransferDone l) s fun t =>
          let H : Nat → Lane := fun a => s.lane (if lowerHalf a then k else g)
          let M := t.lane l
          let set := [R.MEAS_CALST, R.CE_STAT, R.IRQ_INSVC, R.IMG_LOCK_STAT, R.FIX_STAT, R.FIX_CTRL].map (·.addr) ++ (List.range 16).map fun q => (R.MEAS_SQSTAT q).addr
          t = s.setLane l M ∧ M.ck.caught = true ∧ M.on R.IMG_LOCK_STAT F.IMG_LOCK_STAT_LOCKED = true ∧ M.laneSt l.num = 6 ∧ (∀ a, M.flashByte a = L.flashByte a)
            ∧ (∀ a, a < 0x31000000 ∨ 0x31040000 ≤ a → look M.mem a 0#8 = look (H a).mem a 0#8) ∧ (∀ r : Reg, r.addr ∉ set → ownReg r.addr = true → M.rd r = L.rd r) ∧ (∀ r : Reg, r.addr ∉ set → ownReg r.addr = false → M.rd r = (H r.addr).rd r)
            ∧ M.fld R.MEAS_CALST F.MEAS_CALST_GEN = L.fld R.MEAS_CALST F.MEAS_CALST_GEN ∧ M.fld R.CE_STAT F.CE_STAT_MACS = L.fld R.CE_STAT F.CE_STAT_MACS)
      ∧ (let due := (∃ k, (s.lane k).laneSt l.num = 4 ∨ (s.lane k).laneSt l.num = 5 ∨ (s.lane k).laneSt l.num = 6) ∧ (L.pw.on = false ∨ L.ck.oddAt + 10000000 ≤ L.ticks)
        (¬due → exec (.resyncTimeout l) s = .next s) ∧ (due → Runs (.resyncTimeout l) s fun t => all t 9 ∧ moved t))
      ∧ RunsLane (.splitOffconfTimeout l) s l (fun L M =>
          let due := L.ck.splitDue = true ∧ L.offConf = false ∧ L.ck.splitAt + 400000 ≤ L.ticks
          (¬due → M.ck = L.ck ∧ Lane.Frame [] L M) ∧ (due → M.shows R.FIX_SPLIT F.FIX_SPLIT_REFUSED F.FIX_SPLIT_RCAUSE 2 ∧ M.fld R.FIX_SPLIT F.FIX_SPLIT_SSTATE = 0 ∧ M.on R.FIX_EVT F.FIX_EVT_SPLITEV = true
            ∧ M.ck.splitDue = false ∧ M.edg.split = false ∧ Lane.Frame [R.FIX_SPLIT.addr, R.FIX_EVT.addr] L M))
      ∧ RunsLane (.joinReloadDone l) s l fun L M =>
          let due := L.pw.joining = true ∧ L.mySt = 7 ∧ L.on R.IMG_LOCK_STAT F.IMG_LOCK_STAT_LOCKED = true ∧ L.pw.step9 = false
          (¬due → M.pw = L.pw ∧ Lane.Frame [] L M) ∧ (due → M.pw.step9 = true ∧ M.fld R.IMG_STAT F.IMG_STAT_STATE = 1 ∧ M.rd R.IMG_CRCCODE = w32 L.crcCode ∧ M.rd R.IMG_CRCPM = w32 L.crcPm ∧ M.rd R.SAFE_CCV = L.ccv
            ∧ Lane.BytesSame L M ∧ Lane.RegsOutside [0x4000, 0x400B, 0x4011] L M))

/-! ### Power and start-up -/

/-- The KEEP domain (R534, R563 to R566, R568 to R570, R532): the first power-on, a level, an edge or a frame that a configuration enables and the release of RESET_N wake the device, with the last-wake record, the count, a log record and BIN_MAIN on; during a power-down or in cycles 0 to 11 of the entry
an edge or a frame is latched, in cycles 12 to 15 it is lost, and levels are seen at the end; before the lanes' step 6 it aborts their sleep. The power-down keeps what the mode keeps.
What goes off (R532, R534, R564, R566, R569): at the power-down of an agreed sleep the lanes send KEEP their wake configuration, the dies are off and the lanes keep their flash, with the retained area and the wake registers in Anchor, where BIN_MAIN stays on; RESET_N resets everything but KEEP; a feed lost for 100 µs ends
its lane until the next wake. -/
def Obligations.KeepAndDomains : Prop :=
  (∀ s : State,
      let lvlOn : Word → Nat → Nat → Bool := fun cfg lv j =>
        if j = 0 then bitOf cfg 0 && lv.testBit 0 else bitOf cfg (3 * j - 2) && bitOf cfg (3 * j - 1) && decide (lv.testBit j = bitOf cfg (3 * j))
      let woken : State → (Nat → Bool) → Nat → Nat → Bool → Prop := fun t act src frm latched =>
        t.keep.ph = .awake ∧ t.keep.latched = 0 ∧ F.PWR_WAKESRC_SRC.get t.keep.wakeRec = src ∧ F.PWR_WAKESRC_FROM.get t.keep.wakeRec = frm ∧ F.PWR_WAKESRC_LATCHED.on t.keep.wakeRec = latched
          ∧ (∀ j, j < 5 → bitOf t.keep.wakeRec (8 + j) = act j) ∧ t.bin.on = true ∧ t.bin.ms = 0 ∧ t.pending = s.pending ∧ (∀ n : Fin 4, t.die n = s.die n)
          ∧ (s.bin.sram.length < 8192 → ∃ r, t.bin.sram = s.bin.sram ++ [r] ∧ (r.getD 0 0).toNat % 65536 = 0x303 ∧ (r.getD 0 0).toNat / 65536 = t.keep.wakes % 65536 ∧ r.getD 3 0 = t.keep.wakeRec)
          ∧ ∀ k, Lane.Frame [R.PWR_DOM.addr] (s.lane k) (t.lane k) ∧ (t.lane k).on R.PWR_DOM F.PWR_DOM_BIN_MAIN = true ∧ (t.lane k).on R.PWR_DOM F.PWR_DOM_KEEP = true
      let wakes : State → (Nat → Bool) → Prop := fun t act =>
        (∃ src, act src = true ∧ src < 5 ∧ (∀ j, j < src → act j = false) ∧ woken t act (src + 1) s.keep.mode (decide (s.keep.latched ≠ 0))) ∧ t.keep.wakes = s.keep.wakes + 1
          ∧ t.keep.cfg = s.keep.cfg ∧ t.keep.wuf = s.keep.wuf
      let down : LaneId → Prop := fun k => (s.lane k).pw.slpAns = some (7, 0)
      let stirred : Lane → Lane := fun L =>
        if L.on R.PWR_SLPST F.PWR_SLPST_RUN = true ∧ L.pw.slpUndo = false ∧ L.pw.slpAns ≠ some (7, 0) then { L with pw := { L.pw with slpAns := some (L.fld R.PWR_SLPST F.PWR_SLPST_STEP, 6) } } else L
      let stirs : State → Keep → (Lane → Bool) → Prop := fun t kp on =>
        t = { s with a := if on s.a then stirred s.a else s.a, b := if on s.b then stirred s.b else s.b, c := if on s.c then stirred s.c else s.c, keep := kp }
      let event : Instr → Nat → Nat → (Word → List Word → Bool) → Prop := fun i j cycle on =>
        let latch := Host.Outcome.next { s with keep := { s.keep with latched := s.keep.latched ||| 2 ^ j } }
        (s.keep.ph = .asleep → s.keep.mode < 4 → s.keep.latched < 32 → on s.keep.cfg s.keep.wuf = true → Runs i s fun t => wakes t fun m => decide (m = j) || (decide (m < 3) && lvlOn s.keep.cfg s.keep.levels m))
          ∧ (s.keep.ph = .asleep → on s.keep.cfg s.keep.wuf = false → exec i s = .next s)
          ∧ (s.keep.ph = .entry → exec i s = if on s.keep.cfg s.keep.wuf = true ∧ cycle < 12 then latch else .next s)
          ∧ (s.keep.ph = .awake → (∀ k, ¬down k) → Runs i s fun t => stirs t s.keep fun L => on (L.rd R.PWR_WAKECFG) L.wuf)
          ∧ (s.keep.ph = .awake → ∀ c w, (∀ k, down k ∧ (s.lane k).rd R.PWR_WAKECFG = c ∧ (s.lane k).wuf = w) → exec i s = if on c w = true then latch else .next s)
          ∧ (s.keep.ph = .unpowered ∨ s.keep.ph = .held → exec i s = .next s)
      (s.keep.ph ≠ .unpowered → exec .keepPowerOn s = .next s)
      ∧ (s.keep.ph = .unpowered → Runs .keepPowerOn s fun t => t.keep.cfg = 1 ∧ t.keep.wuf = [] ∧ t.keep.wakes = 1 ∧ t.keep.levels = s.keep.levels ∧ woken t (fun j => decide (j = 0) && s.keep.levels.testBit 0) 0 0 false)
      ∧ (∀ (j : Fin 3) (high : Bool),
          let lv := if high then s.keep.levels ||| 2 ^ j.val else s.keep.levels &&& (7 ^^^ 2 ^ j.val)
          let kp := { s.keep with levels := lv }
          (s.keep.ph = .asleep → s.keep.mode < 4 → s.keep.latched < 32 → lvlOn s.keep.cfg lv j = true → Runs (.wakeLevel j high) s fun t => t.keep.levels = lv ∧ wakes t fun m => decide (m < 3) && lvlOn s.keep.cfg lv m)
          ∧ (s.keep.ph = .asleep → lvlOn s.keep.cfg lv j = false → exec (.wakeLevel j high) s = .next { s with keep := kp })
          ∧ (s.keep.ph = .awake → (∀ k, ¬down k) → Runs (.wakeLevel j high) s fun t => stirs t kp fun L => lvlOn (L.rd R.PWR_WAKECFG) lv j)
          ∧ (s.keep.ph ≠ .asleep → (s.keep.ph = .awake → ∃ k, down k) → exec (.wakeLevel j high) s = .next { s with keep := kp }))
      ∧ (∀ (j : Fin 2) (rising : Bool) (cycle : Fin 16), event (.wakeEdge j rising cycle) (j + 1) cycle fun cfg _ => bitOf cfg (3 * j.val + 1) && !bitOf cfg (3 * j.val + 2) && decide (bitOf cfg (3 * j.val + 3) = rising))
      ∧ (∀ (f : CanFrame) (cycle : Fin 16) (on : Word → List Word → Bool), (∀ cfg w, on cfg w = true ↔ F.PWR_WAKECFG_FRMEN.on cfg = true ∧ f.ide = F.PWR_WUFCFG_IDE.on (w.getD 0 0)
            ∧ (∀ i, i < 32 → bitOf (w.getD 2 0) i = true → f.ident.testBit i = bitOf (w.getD 1 0) i) ∧ (F.PWR_WUFCFG_DLCCHK.on (w.getD 0 0) = true → f.dlc = F.PWR_WUFCFG_DLC.get (w.getD 0 0))
            ∧ (f.dlc = 0 ∨ ∃ i b, i < f.dlc ∧ i < 8 ∧ b < 8 ∧ (f.data.getD i 0).getLsbD b = true ∧ bitOf (w.getD (3 + i / 4) 0) (8 * (i % 4) + b) = true)) → event (.wakeUpFrame f cycle) 3 cycle on)
      ∧ (s.keep.ph ≠ .held → exec .resetNRelease s = .next s)
      ∧ (s.keep.ph = .held → Runs .resetNRelease s fun t => woken t (fun j => decide (j = 4) || (decide (j < 3) && lvlOn s.keep.cfg s.keep.levels j)) 5 3 false ∧ t.keep.wakes = s.keep.wakes + 1 ∧ t.keep.cfg = s.keep.cfg ∧ t.keep.wuf = s.keep.wuf)
      ∧ (s.keep.ph ≠ .entry → exec .keepEntryEnd s = .next s)
      ∧ (s.keep.ph = .entry →
          let act : Nat → Bool := fun j => s.keep.latched.testBit j || (decide (j < 3) && lvlOn s.keep.cfg s.keep.levels j)
          ((∀ j, act j = false) → exec .keepEntryEnd s = .next { s with keep := { s.keep with ph := .asleep, anchored := decide (s.keep.mode = 2) } })
          ∧ ((∃ j, j < 5 ∧ act j = true) → s.keep.mode < 4 → s.keep.latched < 32 → Runs .keepEntryEnd s fun t => wakes t act ∧ t.keep.anchored = decide (s.keep.mode = 2))))
  ∧ (∀ s : State,
      let off : Bool → Lane → Lane → Prop := fun ret L M =>
        M.pw.on = false ∧ M.pw.up = false ∧ M.me = L.me ∧ (∀ r : Reg, r.addr / 0x10000 ∉ [0x4000, 0x4006, 0x400D, 0x4011] → M.rd r = r.rst) ∧ M.rd R.PWR_MODE = 0 ∧ M.rd R.IMG_STAT = 0
          ∧ (∀ a, M.flashByte a = L.flashByte a) ∧ (∀ a, M.byte a = if ret = true ∧ 0x200F0000 ≤ a ∧ a < 0x20100000 then L.byte a else 0)
          ∧ (ret = true → M.rd R.PWR_WAKECFG = L.rd R.PWR_WAKECFG ∧ M.wuf = L.wuf ∧ M.retained = L.retained) ∧ (ret = false → M.rd R.PWR_WAKECFG = 1 ∧ M.retained = [])
      let sends : List (Reg × (Keep → Word)) := [(R.PWR_WAKECFG, (·.cfg)), (R.PWR_WUFCFG, (·.wuf.getD 0 0)), (R.PWR_WUFID, (·.wuf.getD 1 0)), (R.PWR_WUFMASK, (·.wuf.getD 2 0)),
        (R.PWR_WUFDAT0, (·.wuf.getD 3 0)), (R.PWR_WUFDAT1, (·.wuf.getD 4 0))]
      let down : LaneId → Prop := fun k => (s.lane k).pw.slpAns = some (7, 0)
      (s.keep.ph ≠ .awake ∨ (∀ k, ¬down k) → exec .powerDown s = .next s)
      ∧ (∀ q, s.keep.ph = .awake → (∃ k, down k) → (∀ k, down k → (s.lane k).pw.slpReq = q) → Runs .powerDown s fun t =>
          t.keep.ph = .entry ∧ t.keep.mode = (if q = 4 then 2 else 1) ∧ t.keep.latched = s.keep.latched ∧ t.keep.levels = s.keep.levels ∧ t.keep.wakeRec = s.keep.wakeRec ∧ t.keep.anchored = false ∧ t.pending = s.pending
            ∧ (∀ k, off (decide (q = 4)) (s.lane k) (t.lane k)) ∧ (∀ n : Fin 4, t.die n = default) ∧ (∀ a, t.bin.flashByte a = s.bin.flashByte a) ∧ t.bin.on = (decide (q = 4) && s.bin.on)
            ∧ (q = 4 → t.bin.sram = s.bin.sram ∧ t.bin.regs = s.bin.regs)
            ∧ (∀ i c, i < 32 → ∀ v ∈ sends, (∀ k, down k → bitOf ((s.lane k).rd v.1) i = c) → bitOf (v.2 t.keep) i = c)
            ∧ (∀ i, i < 32 → ∀ v ∈ sends, ∀ k m, down k → down m → (∀ n, down n → n = k ∨ n = m) → bitOf ((s.lane k).rd v.1) i ≠ bitOf ((s.lane m).rd v.1) i → bitOf (v.2 t.keep) i = bitOf (v.2 s.keep) i)
            ∧ (∀ i, i < 32 → ∀ v ∈ sends, (∀ k, down k) → bitOf (v.2 t.keep) i = decide (2 ≤ (List.filter (fun k => bitOf ((s.lane k).rd v.1) i) [LaneId.A, .B, .C]).length)))
      ∧ (s.keep.ph = .unpowered ∨ s.keep.ph = .held → exec .resetNAssert s = .next s)
      ∧ (s.keep.ph ≠ .unpowered → s.keep.ph ≠ .held → Runs .resetNAssert s fun t => t.keep = { s.keep with ph := .held, mode := 0, latched := 0, anchored := false } ∧ t.pending = s.pending
          ∧ (∀ k, off false (s.lane k) (t.lane k)) ∧ (∀ n : Fin 4, t.die n = default) ∧ t.bin.on = false ∧ ∀ a, t.bin.flashByte a = s.bin.flashByte a)
      ∧ ∀ l : LaneId, ((s.lane l).pw.on = false → exec (.laneFeedLoss l) s = .next s)
        ∧ ((s.lane l).pw.on = true → Runs (.laneFeedLoss l) s fun t => off false (s.lane l) (t.lane l) ∧ (t.lane l).pw.heldOff = true ∧ t.keep = s.keep ∧ t.pending = s.pending
            ∧ (∀ k, k ≠ l → Lane.Frame [R.PWR_DOM.addr] (s.lane k) (t.lane k)) ∧ (∀ k i, i < 4 → bitOf ((t.lane k).rd R.PWR_DOM) (4 * l.num + i) = false)
            ∧ (∀ n : Fin 4, (t.die n).links.at l.num = 0 ∧ (∀ p ∈ (t.die n).tx, p.1 ≠ l.num) ∧ (t.die n).on = (s.die n).on ∧ (t.die n).cfg = (s.die n).cfg)
            ∧ (∀ x ∈ t.bin.sendq, x.1 ≠ l.num) ∧ ∀ e ∈ t.bin.reqs, e.lane = l.num → ∃ c ws, e.st = .ended c ws))

/-- A feed above 6.5 V within 100 ms of the wake starts its lane, a later one leaves it off; a die comes on when two lane power dies request it, and its sounding is recorded once. The NVM guard (R571, R572) starts below GUARD and ends above GUARD + HYST; a record write that has waited for more than 1 s fails. A
management link down or up is shown (R578), and a sleep step without agreement for 10 ms is answered with cause 2 (R567).
The steps of start-up to link training (R25, R26, R36, R539, R540, R543 to R547, R558): the reset release takes the straps and the last-wake record, memory BIST clears the memories but for a retained area that survived and marks the banks, logic BIST reports and takes a MAC unit and converters out of service, ring bring-up starts
reckoner 13 and trains the links of every die that passed its sounding. A lane that fails is OUT with its cause. -/
def Obligations.SuppliesAndStartUp : Prop :=
  (∀ (s : State) (l : LaneId), (s.lane l).me = l.num →
      (∀ (feed : BitVec 12) (ms : Nat),
        let starts := s.keep.ph = .awake ∧ (s.lane l).pw.on = false ∧ (s.lane l).pw.heldOff = false ∧ 325 < feed.toNat
        (¬starts → exec (.laneFeedStart l feed ms) s = .next s)
        ∧ (starts → RunsLane (.laneFeedStart l feed ms) s l fun L M => (ms ≤ 100 → M.pw = { L.pw with on := true } ∧ M.fld R.PWR_FEED F.PWR_FEED_FEED = feed.toNat ∧ Lane.Frame [R.PWR_FEED.addr] L M)
            ∧ (100 < ms → M.pw = { L.pw with heldOff := true } ∧ Lane.Frame [] L M)))
      ∧ (∀ d : Fin 4,
        let starts := (∃ j k, j ≠ k ∧ (s.lane j).pw.on = true ∧ (s.lane k).pw.on = true) ∧ (s.die d).on = false ∧ ¬(s.a.small = true ∧ 2 ≤ d.val)
        (¬starts → exec (.driverDiePowerOn d) s = .next s)
        ∧ (starts → Runs (.driverDiePowerOn d) s fun t => (t.die d).on = true ∧ (t.die d).railOk = true ∧ (t.die d).sounded = false ∧ (t.die d).cfg = [] ∧ (t.die d).offConf = true ∧ (∀ n : Fin 4, n ≠ d → t.die n = s.die n)
            ∧ t.bin = s.bin ∧ t.keep = s.keep ∧ t.pending = s.pending ∧ ∀ k, Lane.Frame [R.PWR_DOM.addr] (s.lane k) (t.lane k) ∧ bitOf ((t.lane k).rd R.PWR_DOM) (12 + d.val) = true)
        ∧ ∀ pass : Bool, RunsDie (.dieSoundingDone d pass) s d fun x y => y = if x.on = true ∧ x.sounded = false then { x with sounded := true, soundBad := !pass } else x)
      ∧ (∀ feed : BitVec 12, RunsLane (.nvmGuardOn l feed) s l fun L M =>
          let goes := L.on R.PWR_NVMST F.PWR_NVMST_ACTIVE = false ∧ feed.toNat < 5 * L.fld R.PWR_NVMG F.PWR_NVMG_GUARD
          M.fld R.PWR_FEED F.PWR_FEED_FEED = feed.toNat ∧ (¬goes → M.nvmWait = L.nvmWait ∧ Lane.Frame [R.PWR_FEED.addr] L M)
            ∧ (goes → M.on R.PWR_NVMST F.PWR_NVMST_ACTIVE = true ∧ M.on R.PWR_EVT F.PWR_EVT_GUARDON = true ∧ (∀ k, k ∈ M.nvmWait ↔ 1 ≤ k ∧ k ≤ 4 ∧ L.nvmBusy k = true) ∧ (M.on R.PWR_NVMST F.PWR_NVMST_WAITING = true ↔ M.nvmWait ≠ [])
              ∧ Lane.Frame [R.PWR_FEED.addr, R.PWR_NVMST.addr, R.PWR_EVT.addr] L M))
      ∧ (∀ feed : BitVec 12, RunsLane (.nvmGuardOff l feed) s l fun L M =>
          let goes := L.on R.PWR_NVMST F.PWR_NVMST_ACTIVE = true ∧ 5 * (L.fld R.PWR_NVMG F.PWR_NVMG_GUARD + L.fld R.PWR_NVMG F.PWR_NVMG_HYST) < feed.toNat
          let room := if L.on R.BMB_CTRL F.BMB_CTRL_EN = true ∧ L.on R.BMB_CTRL F.BMB_CTRL_LINK = true then 16 - L.posts.length else 0
          M.fld R.PWR_FEED F.PWR_FEED_FEED = feed.toNat ∧ (¬goes → M.nvmWait = L.nvmWait ∧ M.posts = L.posts ∧ Lane.Frame [R.PWR_FEED.addr] L M)
            ∧ (goes → M.on R.PWR_NVMST F.PWR_NVMST_ACTIVE = false ∧ M.on R.PWR_NVMST F.PWR_NVMST_WAITING = false ∧ M.on R.PWR_EVT F.PWR_EVT_GUARDOFF = true ∧ M.nvmWait = [] ∧ M.posts = L.posts ++ L.retained.take room
              ∧ M.retained = L.retained.drop room ∧ Lane.Frame [R.PWR_FEED.addr, R.PWR_NVMST.addr, R.PWR_EVT.addr, R.BMB_STAT.addr] L M))
      ∧ (∀ k : Fin 5, RunsLane (.nvmWriteTimeout l k) s l fun L M =>
          let due := k.val ∈ L.nvmWait ∧ L.pw.nvmAt.at k + 200000000 ≤ L.ticks
          (¬due → M.nvmWait = L.nvmWait ∧ Lane.Frame [] L M)
            ∧ (due → M.on R.PWR_EVT F.PWR_EVT_WRFAIL = true ∧ k.val ∉ M.nvmWait ∧ (∀ j, j ≠ k.val → (j ∈ M.nvmWait ↔ j ∈ L.nvmWait)) ∧ (M.on R.PWR_NVMST F.PWR_NVMST_WAITING = true ↔ M.nvmWait ≠ []) ∧ Lane.BytesSame L M
              ∧ (k.val = 1 → L.meas.calWrite.isSome = true → M.fld R.MEAS_CALST F.MEAS_CALST_CAUSE = 9) ∧ (k.val = 2 → L.safe.conf.isSome = true → L.safe.confRes = none → M.safe.confRes = some false)))
      ∧ (let L := s.lane l
        let isUp := L.on R.BMB_CTRL F.BMB_CTRL_LINK = true
        (¬isUp → exec (.managementLinkTimeout l) s = .next s)
        ∧ (isUp → Runs (.managementLinkTimeout l) s fun t => (∀ k, k ≠ l → t.lane k = s.lane k) ∧ t.pending = s.pending ∧ (t.lane l).on R.BMB_CTRL F.BMB_CTRL_LINK = false ∧ (t.lane l).on R.BMB_STAT F.BMB_STAT_LINKERR = true
            ∧ Lane.Frame [R.BMB_CTRL.addr, R.BMB_STAT.addr] L (t.lane l) ∧ (∀ x ∈ t.bin.sendq, x.1 ≠ l.num) ∧ ∀ e ∈ t.bin.reqs, e.lane = l.num → ∃ c ws, e.st = .ended c ws)
        ∧ (L.pw.up = false ∨ s.bin.on = false → exec (.managementLinkUp l) s = .next s)
        ∧ (L.pw.up = true → s.bin.on = true → RunsLane (.managementLinkUp l) s l fun L M =>
            let room := if L.on R.PWR_NVMST F.PWR_NVMST_ACTIVE = false ∧ L.on R.BMB_CTRL F.BMB_CTRL_EN = true then 16 - L.posts.length else 0
            M.on R.BMB_CTRL F.BMB_CTRL_LINK = true ∧ M.posts = L.posts ++ L.retained.take room ∧ M.retained = L.retained.drop room ∧ Lane.Frame [R.BMB_CTRL.addr, R.BMB_STAT.addr, R.PWR_NVMST.addr] L M))
      ∧ RunsLane (.sleepStepTimeout l) s l fun L M =>
          let k := L.fld R.PWR_SLPST F.PWR_SLPST_STEP
          let due := L.on R.PWR_SLPST F.PWR_SLPST_RUN = true ∧ L.pw.slpUndo = false ∧ 0 < k ∧ L.pw.slpAns ≠ some (7, 0) ∧ L.pw.slpAt + 2000000 ≤ L.ticks
          Lane.Frame [] L M ∧ M.pw = if due then { L.pw with slpAns := some (k, 2) } else L.pw)
  ∧ (∀ (s : State) (l : LaneId), (∀ k, (s.lane k).me = k.num) →
      let L := s.lane l
      let fails : State → Nat → Prop := fun t c => (∀ k, (t.lane k).laneSt l.num = 9) ∧ (t.lane l).fld R.IMG_STAT F.IMG_STAT_STATE = 2 ∧ (t.lane l).fld R.IMG_STAT F.IMG_STAT_CAUSE = c
      let others : State → Prop := fun t => t.bin = s.bin ∧ t.keep = s.keep ∧ t.pending = s.pending ∧ ∀ k, Lane.BytesSame (s.lane k) (t.lane k) ∧ (k ≠ l → Lane.RegsBut [R.FIX_STAT.addr, R.FIX_EVT.addr, R.PWR_DOM.addr] (s.lane k) (t.lane k))
      let starting := L.pw.up = true ∧ L.laneSt l.num = 1
      (∀ (strap : Fin 4) (us : Nat),
        let due := L.pw.on = true ∧ L.pw.up = false ∧ s.keep.ph = .awake
        (¬due → exec (.laneResetRelease l strap us) s = .next s)
        ∧ (due → Runs (.laneResetRelease l strap us) s fun t => others t ∧ (t.lane l).pw.up = true ∧ (t.lane l).pw.relAt = L.ticks ∧ (t.lane l).pw.wakeUs = us ∧ (t.lane l).rd R.PWR_WAKESRC = s.keep.wakeRec
            ∧ (t.lane l).fld R.LANE_ID_LANE F.LANE_ID_LANE_LETTER = strap.val ∧ (∀ k i, i < 4 → bitOf ((t.lane k).rd R.PWR_DOM) (4 * l.num + i) = true)
            ∧ Lane.RegsOutside [0x4000, 0x4002, 0x4006, 0x400D, 0x400F, 0x4011] L (t.lane l) ∧ (strap.val = 3 → fails t 9) ∧ (strap.val ≠ 3 → ∀ k, (t.lane k).laneSt l.num = 1)))
      ∧ (∀ (rows : List (Nat × Nat)) (ecc : Bool) (us : BitVec 16),
        (¬(starting ∧ L.pw.mbist = false) → RunsLane (.memoryBistDone l rows ecc us) s l fun L M => M.pw = L.pw ∧ Lane.Frame [] L M)
        ∧ (starting → L.pw.mbist = false → RunsLane (.memoryBistDone l rows ecc us) s l fun L M =>
            M.pw = { L.pw with mbist := true } ∧ M.fld R.PWR_SSMB F.PWR_SSMB_TIME = us.toNat ∧ M.on R.PWR_STAT F.PWR_STAT_RETOK = (ecc && s.keep.anchored)
              ∧ (∀ b, b < 23 → (bitOf (M.rd R.PWR_SSBANK) b = true ↔ ∃ n, (b, n) ∈ rows ∧ 8 < n)) ∧ (∀ b, b < 23 → (bitOf (M.rd R.PWR_SSREP) b = true ↔ ∃ n, (b, n) ∈ rows ∧ 1 ≤ n ∧ n ≤ 8))
              ∧ (∀ a, M.byte a = if ecc = true ∧ s.keep.anchored = true ∧ 0x200F0000 ≤ a ∧ a < 0x20100000 then L.byte a else 0) ∧ (∀ a, M.flashByte a = L.flashByte a)
              ∧ M.retained = (if ecc = true ∧ s.keep.anchored = true then L.retained else []) ∧ Lane.RegsBut [R.PWR_SSMB.addr, R.PWR_SSBANK.addr, R.PWR_SSREP.addr, R.PWR_STAT.addr, R.PWR_NVMST.addr, R.BMB_STAT.addr] L M))
      ∧ (∀ (pass : Bool) (cov : Byte) (us : BitVec 16) (mac : Option (Fin 8)) (oos : BitVec 6),
        (¬(starting ∧ L.pw.lbist = false) → exec (.logicBistDone l pass cov us mac oos) s = .next s)
        ∧ (starting → L.pw.lbist = false → Runs (.logicBistDone l pass cov us mac oos) s fun t => others t ∧
            let M := t.lane l
            M.pw.lbist = true ∧ M.fld R.PWR_SSLB F.PWR_SSLB_COV = cov.toNat ∧ M.on R.PWR_SSLB F.PWR_SSLB_PASS = pass ∧ M.fld R.PWR_SSLB F.PWR_SSLB_TIME = us.toNat
              ∧ M.fld R.CE_STAT F.CE_STAT_MACS = (if mac.isSome then 7 else 8) ∧ (∀ m : Fin 8, mac = some m → M.fld R.CE_STAT F.CE_STAT_DEADMAC = m.val) ∧ M.fld R.MEAS_CONV F.MEAS_CONV_OOS = oos.toNat
              ∧ (pass = false → fails t 8) ∧ (pass = true → Lane.RegsBut [R.PWR_SSLB.addr, R.CE_STAT.addr, R.MEAS_CONV.addr] L M ∧ ∀ k, k ≠ l → Lane.RegsBut [] (s.lane k) (t.lane k))))
      ∧ ∀ lat : List Nat,
        let due := starting ∧ L.pw.lbist = true ∧ L.pw.ring = false
        (¬due → exec (.ringBringUpDone l lat) s = .next s)
        ∧ (due → Runs (.ringBringUpDone l lat) s fun t =>
            let M := t.lane l
            let up : Fin 4 → Prop := fun n => (t.die n).links.at l.num = 2
            t.bin = s.bin ∧ t.keep = s.keep ∧ t.pending = s.pending ∧ M.pw.ring = true ∧ (∀ k, Lane.BytesSame (s.lane k) (t.lane k))
              ∧ (∀ k, k ≠ l → (s.lane k).pw.ring = true → ∃ j, j ≠ l ∧ (s.lane j).pw.ring = true ∧ M.gt = (s.lane j).gt) ∧ ((∀ k, (s.lane k).pw.ring = false) → M.gt = 0)
              ∧ (∀ n : Fin 4, (s.die n).links.at l.num ≠ 2 → (up n ↔ (s.die n).on = true ∧ (s.die n).sounded = true ∧ (s.die n).soundBad = false))
              ∧ (∀ n : Fin 4, (M.fld R.PWR_STAT F.PWR_STAT_DIES).testBit n = true ↔ up n)
              ∧ (∀ (n : Fin 4) k, (t.lane k).fld (R.DLK_LAT n) (match l with | .A => F.DLK_LAT_LAT_A | .B => F.DLK_LAT_LAT_B | .C => F.DLK_LAT_LAT_C) = if (t.die n).links.at l.num = 2 then lat.getD n 0 % 256 else 0)
              ∧ ((∀ k, (t.lane k).pw.ring = true) → ∀ k, ((t.lane k).fld R.LANE_ID_LANE F.LANE_ID_LANE_LETTER = k.num → (t.lane k).on R.LANE_ID_LANE F.LANE_ID_LANE_RINGOK = true)
                  ∧ ((s.lane k).fld R.LANE_ID_LANE F.LANE_ID_LANE_LETTER ≠ k.num → (s.lane k).laneSt k.num = 1 ∨ (s.lane k).laneSt k.num = 2 ∨ (s.lane k).laneSt k.num = 6 → ∀ j, (t.lane j).laneSt k.num = 9))))

/-- The image in flash (R539, R552, R553, R555 to R558): the read takes the slot of the slot record, or slot 0 with NOREC, and copies the sections of a good header; a slot that fails with a cause from 2 to 5 gives way to the other one once, after that the lane is OUT with the cause. A verified image shows its key, generation, flags and digest, and
its register-load list waits.
The register-load list (R539, R554, R557 to R560): at most one entry per µs; a WAIT holds the list, a write has the effect of the write, and an entry with a fault or a failed check of the checkpoint list fails the start with cause 6 or 7. After the last entry the safety lock is set, SAFE_CCV and the CRCs are formed, and the lane
waits for checkpoint zero; 1 s after its reset release, a lone lane names the lanes missing (R549). -/
def Obligations.ImageAndRegisterLoad : Prop :=
  (∀ (s : State) (l : LaneId), (∀ k, (s.lane k).me = k.num) →
      let L := s.lane l
      let fails : State → Nat → Prop := fun t c => (∀ k, (t.lane k).laneSt l.num = 9) ∧ (t.lane l).fld R.IMG_STAT F.IMG_STAT_STATE = 2 ∧ (t.lane l).fld R.IMG_STAT F.IMG_STAT_CAUSE = c
      let loading := (L.pw.up = true ∧ L.laneSt l.num = 1 ∧ L.pw.mbist = true) ∨ (L.pw.joining = true ∧ L.laneSt l.num = 7)
      let word : Nat → Nat → Word := fun slot o => L.flashW (0x400000 * slot + o)
      let good : Nat → Prop := fun slot => word slot 0 = 0x4D454459 ∧ word slot 4 = 0x01400001 ∧ (word slot 8).toNat % 4 = 0 ∧ 0x140 ≤ (word slot 8).toNat ∧ (word slot 8).toNat ≤ 0x3FFF80
        ∧ (word slot 0x14).toNat % 65536 = 0x7340 ∧ bitOf (word slot 0x14) (16 + L.fld R.LANE_ID_PART F.LANE_ID_PART_STEP) = true
      let back : State → Nat → Nat → Prop := fun t slot c => (L.pw.second = true → fails t c)
        ∧ (L.pw.second = false → (t.lane l).on R.IMG_STAT F.IMG_STAT_FALLBK = true ∧ (t.lane l).fld R.IMG_STAT F.IMG_STAT_SLOT = 1 - slot ∧ (t.lane l).pw.slot = 1 - slot ∧ (t.lane l).pw.second = true ∧ (t.lane l).pw.read = false ∧ ∀ k, k ≠ l → t.lane k = s.lane k)
      (∀ flash : Bool, ¬(loading ∧ L.pw.read = false) → exec (.imageReadDone l flash) s = .next s)
      ∧ (loading → L.pw.read = false → Runs (.imageReadDone l false) s fun t => fails t 1 ∧ Lane.BytesSame L (t.lane l))
      ∧ (∀ slot, loading → L.pw.read = false →
          (L.pw.second = true ∧ slot = L.pw.slot ∨ L.pw.second = false ∧ slot = (match L.slotRecCopy with | some c => (L.flashW (0x800004 + 0x1000 * c)).toNat % 2 | none => 0)) →
          (¬good slot → Runs (.imageReadDone l true) s fun t => back t slot 2)
          ∧ (good slot → L.sectOk slot = false → Runs (.imageReadDone l true) s fun t => back t slot 5)
          ∧ (good slot → L.sectOk slot = true → RunsLane (.imageReadDone l true) s l fun L M => M.pw.read = true ∧ M.pw.slot = slot ∧ (∀ a, M.flashByte a = L.flashByte a)
              ∧ (L.pw.second = false → M.fld R.IMG_STAT F.IMG_STAT_SLOT = slot ∧ (L.slotRecCopy = none → M.on R.IMG_STAT F.IMG_STAT_NOREC = true))
              ∧ (∀ x ∈ L.sections slot, ∀ i, i < x.2.2 → M.byte (x.2.1 + i) = L.flashByte (0x400000 * slot + x.1 + i))
              ∧ (∀ a, (∀ x ∈ L.sections slot, ∀ i, i < x.2.2 → a ≠ x.2.1 + i) → M.byte a = L.byte a) ∧ Lane.RegsBut [R.IMG_STAT.addr, R.IMG_SLOTREC.addr] L M))
      ∧ (¬(loading ∧ L.pw.read = true ∧ L.pw.verified = false ∧ L.pw.ring = true) → exec (.signatureVerifyDone l) s = .next s)
      ∧ (loading → L.pw.read = true → L.pw.verified = false → L.pw.ring = true → L.on R.IMG_LOCK_STAT F.IMG_LOCK_STAT_LOCKED = false →
          let slot := L.pw.slot
          let pub := (L.sigBlock slot).take 64
          let key : Nat → Prop := fun k => L.pw.keys.getD k [] = sha256 pub ∧ (L.fld R.IMG_KEY F.IMG_KEY_REVK).testBit k = false
          let sound := ecdsaVerify pub (L.imgDigest slot) ((L.sigBlock slot).drop 64) = true
          let n := (word slot 0x28).toNat % 0x2000
          ((∀ k, k < 4 → ¬key k) → Runs (.signatureVerifyDone l) s fun t => back t slot 3)
          ∧ ((∃ k, k < 4 ∧ key k) → ¬sound → Runs (.signatureVerifyDone l) s fun t => back t slot 4)
          ∧ ((∃ k, k < 4 ∧ key k) → sound → 4096 < n → Runs (.signatureVerifyDone l) s fun t => fails t 6)
          ∧ ((∃ k, k < 4 ∧ key k) → sound → 0 < n → n ≤ 4096 → RunsLane (.signatureVerifyDone l) s l fun L M =>
              (∃ k, k < 4 ∧ key k ∧ (∀ j, j < k → ¬key j) ∧ M.fld R.IMG_KEY F.IMG_KEY_USED = k) ∧ M.rd R.IMG_GEN = word slot 0xC ∧ M.rd R.IMG_FLAGS = word slot 0x10 ∧ M.on R.FIX_DBG F.FIX_DBG_RIG = bitOf (word slot 0x10) 0
                ∧ M.rd R.IMG_DIG0 = w32 (leNat ((L.imgDigest slot).take 4)) ∧ M.rd R.IMG_DIG1 = w32 (leNat (((L.imgDigest slot).drop 4).take 4)) ∧ M.pw.verified = true
                ∧ M.pw.list = (List.range n).map (fun i => (word slot ((word slot 0x24).toNat + 8 * i), word slot ((word slot 0x24).toNat + 8 * i + 4)))
                ∧ Lane.Frame [R.IMG_KEY.addr, R.IMG_GEN.addr, R.IMG_FLAGS.addr, R.IMG_DIG0.addr, R.IMG_DIG1.addr, R.FIX_DBG.addr] L M)))
  ∧ (∀ (s : State) (l : LaneId), (∀ k, (s.lane k).me = k.num) →
      let L := s.lane l
      let fails : State → Nat → Prop := fun t c => (∀ k, (t.lane k).laneSt l.num = 9) ∧ (t.lane l).fld R.IMG_STAT F.IMG_STAT_STATE = 2 ∧ (t.lane l).fld R.IMG_STAT F.IMG_STAT_CAUSE = c
      let starting := L.pw.up = true ∧ L.laneSt l.num = 1
      let loading := (starting ∧ L.pw.mbist = true) ∨ (L.pw.joining = true ∧ L.laneSt l.num = 7)
      let ends : State → Prop := fun t =>
        let M := t.lane l
        M.on R.IMG_LOCK_STAT F.IMG_LOCK_STAT_LOCKED = true ∧ M.fld R.IMG_STAT F.IMG_STAT_STATE = 1 ∧ M.pw.step9 = true ∧ M.rd R.SAFE_CCV = M.ccv ∧ M.rd R.IMG_CRCCODE = w32 M.crcCode ∧ M.rd R.IMG_CRCPM = w32 M.crcPm ∧ ∀ k, (t.lane k).laneSt l.num = 2
      let unlocked := L.on R.IMG_LOCK_STAT F.IMG_LOCK_STAT_LOCKED = false
      let due := loading ∧ L.pw.verified = true ∧ L.pw.waitEnd = none ∧ L.pw.rlAt + 200 ≤ L.ticks
      (¬(due ∧ L.pw.list ≠ []) → exec (.registerLoadEntry l) s = .next s)
      ∧ (∀ (a v : Word) (rest : List (Word × Word)), due → L.pw.list = (a, v) :: rest →
          let wait := a = 0xFFFFFFFC
          let inRange := a.toNat % 4 = 0 ∧ 0x40000000 ≤ a.toNat ∧ a.toNat < 0x40120000
          let K := { L.setF R.IMG_RLCNT F.IMG_RLCNT_CNT (L.fld R.IMG_RLCNT F.IMG_RLCNT_CNT + 1) with pw := { L.pw with list := rest, rlAt := L.ticks } }
          let W := K.busWrite .word a.toNat v
          let listBad := a.toNat = R.FIX_CTRL.addr ∧ W.on R.FIX_CTRL F.FIX_CTRL_EN = true ∧ W.on R.FIX_STAT F.FIX_STAT_LISTERR = true
          (wait → 1 ≤ v.toNat → v.toNat ≤ 100000 → unlocked → RunsLane (.registerLoadEntry l) s l fun L M => M.pw = { L.pw with list := rest, rlAt := L.ticks, waitEnd := some (L.ticks + 200 * v.toNat), waitUs := L.pw.waitUs + v.toNat }
              ∧ M.fld R.IMG_RLCNT F.IMG_RLCNT_WAITMS = (L.pw.waitUs + v.toNat) / 1000 % 65536 ∧ M.fld R.IMG_RLCNT F.IMG_RLCNT_CNT = (L.fld R.IMG_RLCNT F.IMG_RLCNT_CNT + 1) % 8192 ∧ Lane.Frame [R.IMG_RLCNT.addr] L M)
          ∧ (wait → ¬(1 ≤ v.toNat ∧ v.toNat ≤ 100000) → Runs (.registerLoadEntry l) s fun t => fails t 6 ∧ Lane.BytesSame L (t.lane l))
          ∧ (¬wait → ¬inRange → Runs (.registerLoadEntry l) s fun t => fails t 6 ∧ Lane.BytesSame L (t.lane l))
          ∧ (¬wait → inRange → W.busErr = true → Runs (.registerLoadEntry l) s fun t => fails t 6)
          ∧ (¬wait → inRange → W.busErr = false → listBad → Runs (.registerLoadEntry l) s fun t => fails t 7)
          ∧ (¬wait → inRange → W.busErr = false → ¬listBad → rest ≠ [] → W.on R.IMG_LOCK_STAT F.IMG_LOCK_STAT_LOCKED = false → RunsLane (.registerLoadEntry l) s l fun _ M => M = { W with outP := [], outR := [] })
          ∧ (¬wait → inRange → W.busErr = false → ¬listBad → rest = [] → W.me = l.num → W.pw.up = true → W.laneSt l.num = 1 → W.pw.step9 = false → W.pw.joining = false → Runs (.registerLoadEntry l) s ends))
      ∧ (let past := ∃ e, L.pw.waitEnd = some e ∧ e ≤ L.ticks
        (past → loading → L.pw.list ≠ [] → unlocked → RunsLane (.registerLoadWaitEnd l) s l fun L M => M.pw = { L.pw with waitEnd := none } ∧ Lane.Frame [] L M)
        ∧ (past → starting → L.pw.mbist = true → L.pw.list = [] → L.pw.step9 = false → L.pw.joining = false → Runs (.registerLoadWaitEnd l) s ends)
        ∧ (past → L.pw.joining = true → L.laneSt l.num = 7 → L.pw.list = [] → RunsLane (.registerLoadWaitEnd l) s l fun L M => M.pw.waitEnd = none ∧ M.on R.IMG_LOCK_STAT F.IMG_LOCK_STAT_LOCKED = true ∧ Lane.Frame [R.IMG_LOCK_STAT.addr] L M)
        ∧ (¬(past ∧ loading) → unlocked → RunsLane (.registerLoadWaitEnd l) s l fun L M => M.pw = L.pw ∧ Lane.Frame [] L M))
      ∧ RunsLane (.loneLaneTimeout l) s l fun L M =>
          let lone := L.pw.step9 = true ∧ L.laneSt l.num = 2 ∧ (∀ k, k < 3 → k ≠ l.num → L.laneSt k ≠ 2 ∧ L.laneSt k ≠ 3) ∧ L.pw.lone = false ∧ L.pw.relAt + 200000000 ≤ L.ticks
          (¬lone → M.pw = L.pw ∧ M.posts = L.posts ∧ Lane.Frame [] L M)
            ∧ (lone → M.pw = { L.pw with lone := true } ∧ Lane.Frame [R.BMB_STAT.addr, R.BMB_CNT.addr, R.PWR_NVMST.addr, R.PWR_EVT.addr] L M
              ∧ (L.on R.PWR_NVMST F.PWR_NVMST_ACTIVE = false → L.on R.BMB_CTRL F.BMB_CTRL_EN = true → L.on R.BMB_CTRL F.BMB_CTRL_LINK = true → L.posts.length < 16 → ∃ p, M.posts = L.posts ++ [p] ∧ p.kind = 0 ∧ p.words.getD 0 0 = 8)))

/-! ### The Binnacle -/

/-- The commands that post to the Binnacle, with the KIND of the post. -/
def postKind : Instr → Option (LaneId × Nat)
  | .logRecordPost l => some (l, 0)
  | .replyPost l => some (l, 1)
  | .binnacleRegisterAccess l => some (l, 2)
  | .diagnosticSegment l => some (l, 3)
  | .sleepStepPost l => some (l, 4)
  | _ => none

/-- The Binnacle has nothing to go on with: no round, or one that waits for a lane. -/
def binWaits (s : State) : Prop :=
  (s.bin.round = none ∧ s.bin.updSt ≠ 5)
    ∨ ∃ op, s.bin.round = some op ∧ ((∃ x ∈ s.bin.sendq, x.2.op = op) ∨ ∃ e ∈ s.bin.reqs, e.req.op = op ∧ (e.st = .sent ∨ e.st = .taken))
/-- The rows of the requests, with the lane and the OP. -/
def requestOp : Instr → Option (LaneId × Nat)
  | .status l => some (l, 1)
  | .sound l => some (l, 2)
  | .regval l => some (l, 3)
  | .send l => some (l, 4)
  | .updBegin l => some (l, 0x10)
  | .updData l _ => some (l, 0x11)
  | .updEnd l => some (l, 0x12)
  | .updCommit l _ => some (l, 0x13)
  | .updAbort l => some (l, 0x14)
  | .keyrev l => some (l, 0x20)
  | .sleepok l => some (l, 0x30)
  | .sleepno l => some (l, 0x31)
  | _ => none
/-- The image of lane `l` has accepted the request `i`, of OP `op`, that its mailbox holds: nothing outside the lane and the Binnacle's requests changes, and the lane before and after stand in the relation `Q`. -/
def accepts (i : Instr) (s : State) (l : LaneId) (Q : Lane → Lane → Prop) : Prop :=
  Runs i s fun t => (∀ k, k ≠ l → t.lane k = s.lane k) ∧ t.keep = s.keep ∧ t.pending = s.pending ∧ t.bin = { s.bin with reqs := t.bin.reqs, sndWait := t.bin.sndWait }
    ∧ (t.lane l).on R.BMB_STAT F.BMB_STAT_INPEND = false ∧ (∀ e ∈ t.bin.reqs, ¬(e.lane = l.num ∧ e.st = .sent)) ∧ Q (s.lane l) (t.lane l)
/-- The lane posts its reply, with the TAG of the request in its mailbox: the result and the words after it. -/
def replies (L M : Lane) (res : Nat) (ws : List Word) : Prop :=
  (L.on R.BMB_CTRL F.BMB_CTRL_EN = true → L.on R.BMB_CTRL F.BMB_CTRL_LINK = true → L.posts.length < 16 →
      ∃ p, M.posts = L.posts ++ [p] ∧ p.kind = 1 ∧ p.words = ((w32 (res + 256 * L.inTag) :: ws) ++ [0, 0, 0, 0, 0, 0, 0]).take 8)
    ∧ (L.on R.BMB_CTRL F.BMB_CTRL_EN = false ∨ L.on R.BMB_CTRL F.BMB_CTRL_LINK = false ∨ 16 ≤ L.posts.length → M.posts = L.posts ∧ M.fld R.BMB_CNT F.BMB_CNT_REF = min 65535 (L.fld R.BMB_CNT F.BMB_CNT_REF + 1))

/-- A post takes the eight words of BMB_OUT and the checkpoint number into the queue; sixteen queued, EN at 0 or a link that is down refuse it with OFULL and count it. A log
record waits in the retained area while the NVM guard is active.
An answer to a waiting request takes it from the mailbox, and the Binnacle hears it; without a request neither changes.
The Binnacle sends a lane one request at a time, the oldest first: it fills the mailbox and sets INPEND. After 100 ms without an answer it is withdrawn with INTMO and counted as refused with 0xFF. STATUS, REGVAL, SEND, KEYREV, SLEEPOK and SLEEPNO are accepted: STATUS is answered with the state of the device, KEYREV is posted for agreement, and
the sleep answers go to step 6. -/
def Obligations.Mailbox : Prop :=
  (∀ (i : Instr) (s : State) (l : LaneId) (k : Nat), postKind i = some (l, k) → s.Quiet →
      RunsLane i s l fun L M =>
        let words := (List.range 8).map fun j => L.rd (R.BMB_OUT j)
        let keeps := decide (k = 0) && L.on R.PWR_NVMST F.PWR_NVMST_ACTIVE
        let goes := L.on R.BMB_CTRL F.BMB_CTRL_EN && L.on R.BMB_CTRL F.BMB_CTRL_LINK && decide (L.posts.length < 16)
        Lane.Frame [R.BMB_STAT.addr, R.BMB_CNT.addr, R.PWR_NVMST.addr, R.PWR_EVT.addr] L M
          ∧ (keeps = true → L.retained.length < 256 → M.retained = L.retained ++ [⟨k, words, L.rd R.FIX_CNUM, true⟩] ∧ M.posts = L.posts)
          ∧ (keeps = true → 256 ≤ L.retained.length → M.retained = L.retained ∧ M.posts = L.posts ∧ M.on R.PWR_EVT F.PWR_EVT_LOGDROP = true)
          ∧ (keeps = false → goes = true → M.posts = L.posts ++ [⟨k, words, L.rd R.FIX_CNUM, false⟩] ∧ M.retained = L.retained
              ∧ M.fld R.BMB_STAT F.BMB_STAT_OLEVEL = L.posts.length + 1)
          ∧ (keeps = false → goes = false → M.posts = L.posts ∧ M.retained = L.retained ∧ M.on R.BMB_STAT F.BMB_STAT_OFULL = true
              ∧ M.fld R.BMB_CNT F.BMB_CNT_REF = min (2 ^ F.BMB_CNT_REF.wid - 1) (L.fld R.BMB_CNT F.BMB_CNT_REF + 1)))
  ∧ (∀ (s : State) (l : LaneId) (rcode : BitVec 8) (i : Instr) (ans : Nat), s.Quiet → (i = .requestAccept l ∧ ans = 0 ∨ i = .requestRefuse l rcode ∧ ans = 256 + rcode.toNat) →
      Runs i s fun t => (∀ k, k ≠ l → t.lane k = s.lane k) ∧ t.keep = s.keep ∧ t.dbgq = s.dbgq ∧ t.pending = s.pending
        ∧ Lane.Frame [R.BMB_STAT.addr] (s.lane l) (t.lane l)
        ∧ ((s.lane l).inOpen = true → (t.lane l).on R.BMB_STAT F.BMB_STAT_INPEND = false ∧ t.bin = s.bin.answered (s.lane l).me ans)
        ∧ ((s.lane l).inOpen = false → (t.lane l).rd R.BMB_STAT = (s.lane l).rd R.BMB_STAT ∧ t.bin = s.bin))
  ∧ (∀ (s : State) (l : LaneId), (s.lane l).me = l.num →
      let L := s.lane l
      let held : Nat → Prop := fun op => L.on R.BMB_STAT F.BMB_STAT_INPEND = true ∧ (L.rd (R.BMB_IN 0)).toNat % 256 = op
      let box := [R.BMB_STAT.addr, R.BMB_CNT.addr, R.PWR_NVMST.addr]
      (∀ (i : Instr) (op : Nat), requestOp i = some (l, op) → binWaits s → ¬held op → (op = 2 ∨ op = 0x10 → s.bin.takenReq l.num op = none) →
        let first := (s.bin.sendq.find? fun x => decide (x.1 = l.num)).map (·.2)
        let free := s.bin.on = true ∧ L.on R.BMB_CTRL F.BMB_CTRL_LINK = true ∧ L.on R.BMB_STAT F.BMB_STAT_INPEND = false ∧ ∀ e ∈ s.bin.reqs, ¬(e.lane = l.num ∧ e.st = .sent)
        (¬(free ∧ ∃ q, first = some q ∧ q.op = op) → Runs i s fun t => t = { s with bin := { s.bin with reqs := t.bin.reqs, sndWait := t.bin.sndWait } } ∧ ∀ e ∈ t.bin.reqs, e ∈ s.bin.reqs)
        ∧ ∀ q, free → first = some q → q.op = op → op < 256 → q.tag < 256 → q.buf.length ≤ 256 → Runs i s fun t =>
            let M := t.lane l
            (∀ k, k ≠ l → t.lane k = s.lane k) ∧ t.keep = s.keep ∧ t.pending = s.pending ∧ t.bin.sendq = s.bin.sendq.erase (l.num, q) ∧ ⟨l.num, q, .sent⟩ ∈ t.bin.reqs ∧ t.bin.sram = s.bin.sram ∧ t.bin.regs = s.bin.regs
              ∧ M.on R.BMB_STAT F.BMB_STAT_INPEND = true ∧ (M.rd (R.BMB_IN 0)).toNat = op + 256 * q.tag + 65536 * q.buf.length ∧ M.rd (R.BMB_IN 1) = q.in1 ∧ M.rd (R.BMB_IN 2) = q.in2 ∧ M.rd (R.BMB_IN 3) = q.in3
              ∧ (∀ j, j < q.buf.length → M.rd (R.BMB_INBUF j) = q.buf.getD j 0) ∧ Lane.BlockFrame [0x400F] L M ∧ M.reqAt = L.ticks)
      ∧ (let due := L.on R.BMB_STAT F.BMB_STAT_INPEND = true ∧ L.reqAt + 20000000 ≤ L.ticks
        (¬due → exec (.requestTimeout l) s = .next s)
        ∧ (due → Runs (.requestTimeout l) s fun t => (∀ k, k ≠ l → t.lane k = s.lane k) ∧ t.keep = s.keep ∧ t.pending = s.pending ∧ (t.lane l).on R.BMB_STAT F.BMB_STAT_INPEND = false ∧ (t.lane l).on R.BMB_STAT F.BMB_STAT_INTMO = true
            ∧ Lane.Frame [R.BMB_STAT.addr] L (t.lane l) ∧ t.bin = { s.bin with reqs := s.bin.reqs.map fun e => if e.lane = l.num ∧ e.st = .sent then { e with st := .ended 0xFF [] } else e }))
      ∧ (binWaits s → held 1 → accepts (.status l) s l fun L M =>
          replies L M 0 [L.rd R.PWR_MODE, L.view R.FIX_DGSTAT.addr, L.rd R.FIX_SPLIT, L.rd R.SAFE_CMST, L.rd R.SAFE_CCV, L.rd R.IMG_GEN, L.rd R.IMG_KEY] ∧ Lane.Frame box L M)
      ∧ (binWaits s → held 3 → accepts (.regval l) s l fun L M => M.posts = L.posts ∧ Lane.Frame box L M)
      ∧ (binWaits s → held 4 → accepts (.send l) s l fun L M => M.posts = L.posts ∧ Lane.Frame box L M)
      ∧ (binWaits s → held 0x20 → accepts (.keyrev l) s l fun L M =>
          (∃ p ∈ M.ck.trips, p.trip = .keyrev ((L.rd (R.BMB_IN 1)).toNat % 4)) ∧ replies L M 0 [] ∧ Lane.Frame box L M)
      ∧ (binWaits s → ∀ e ∈ [(Instr.sleepok l, 0x30, 0), (Instr.sleepno l, 0x31, 5)], held e.2.1 → accepts e.1 s l fun L M =>
          M.pw.slpAns = (if L.on R.PWR_SLPST F.PWR_SLPST_RUN = true ∧ L.fld R.PWR_SLPST F.PWR_SLPST_STEP = 6 ∧ L.pw.slpAns = none then some (6, e.2.2) else L.pw.slpAns) ∧ Lane.Frame box L M))

/-- A post that reaches the Binnacle (R579 to R583): log records of every lane are stored with SRC, the wake count, the time and the CRC, or dropped while SRAM is full; replies end their requests; a KIND 2, 3 or 4 post is acted upon with another lane's identical one within 10 ms, or at once where only one link is up, and waits otherwise. A register
access writes or answers with REGVAL, a whole message is kept or refused with 0x11, and a sleep post flushes the log and is answered. -/
def Obligations.BinnaclePosts : Prop :=
  ∀ (s : State) (l : LaneId) (ok : Bool), s.bin.round = none → s.bin.updSt ≠ 5 →
    let L := s.lane l
    let i := Instr.binnaclePostReceive l ok
    let goes := L.on R.BMB_CTRL F.BMB_CTRL_LINK = true ∧ s.bin.on = true
    let same : Bin → Bin → Prop := fun b c => c = { b with reqs := c.reqs, sndWait := c.sndWait }
    let alone := s.linked.length ≤ 1
    (L.posts = [] ∨ ¬goes → Runs i s fun t => t = { s with bin := t.bin } ∧ same s.bin t.bin)
    ∧ ∀ p q, L.posts = p :: q → goes → Runs i s fun t =>
        let b := t.bin
        let M := t.lane l
        let w := (p.words.getD 0 0).toNat
        let off := w % 4096
        let like : BPost → Prop := fun e => e.post.kind = p.kind ∧ e.post.words = p.words ∧ s.bin.ms ≤ e.ms + 10
        let pair : Nat → Prop := fun k => ∃ e, s.bin.posts.find? (fun e => decide (like e ∧ e.acted = false ∧ e.lane ≠ l.num)) = some e ∧ e.lane = k
        let fresh := ∀ e ∈ s.bin.posts, like e → e.acted = false
        let acts := 2 ≤ p.kind ∧ p.kind ≤ 4 ∧ (alone ∨ (fresh ∧ ∃ k, pair k))
        let value : Nat × Word := if binListed off = true then (0, s.binRead off) else (1, 0)
        (∀ k, k ≠ l → t.lane k = s.lane k) ∧ t = { s with a := t.a, b := t.b, c := t.c, bin := b } ∧ Lane.Frame [R.BMB_STAT.addr, R.BMB_CNT.addr, R.PWR_NVMST.addr] L M
          ∧ M.fld R.BMB_CNT F.BMB_CNT_SENT = min 65535 (L.fld R.BMB_CNT F.BMB_CNT_SENT + 1) ∧ (∃ n, M.posts = q ++ L.retained.take n ∧ M.retained = L.retained.drop n)
          ∧ (p.kind = 0 → s.bin.sram.length < 8192 → ∃ r, same { s.bin with sram := s.bin.sram ++ [r] } b ∧ r.length = 8
              ∧ (r.getD 0 0).toNat = w % 256 + 256 * l.num + 1024 * (if p.held then 1 else 0) + 65536 * (s.keep.wakes % 65536) ∧ r.getD 1 0 = w32 s.bin.ms ∧ r.getD 2 0 = p.cnum
              ∧ (∀ j, j < 4 → r.getD (3 + j) 0 = p.words.getD (1 + j) 0) ∧ r.getD 7 0 = w32 (crc32c (wordsBytes (r.take 7))))
          ∧ (p.kind = 0 → 8192 ≤ s.bin.sram.length → b.sram = s.bin.sram ∧ b.dropped = s.bin.dropped + 1 ∧ b.rd 0x10 &&& 0xFFFF = w32 (min 65535 ((s.bin.rd 0x10).toNat % 65536 + 1)))
          ∧ (p.kind = 1 → b.sram = s.bin.sram ∧ b.posts = s.bin.posts ∧ b.regs = s.bin.regs ∧ ∀ e ∈ b.reqs, ¬(e.lane = l.num ∧ e.req.tag = w / 256 % 256 ∧ e.st = .taken))
          ∧ (5 ≤ p.kind → same s.bin b)
          ∧ (2 ≤ p.kind → p.kind ≤ 4 → ¬alone → (∀ e ∈ s.bin.posts, like e → e.acted = false ∧ e.lane = l.num) → same { s.bin with posts := s.bin.posts ++ [⟨l.num, p, s.bin.ms, false, 0, 0⟩] } b)
          ∧ (acts → p.kind = 2 → bitOf (p.words.getD 0 0) 16 = true → b.sendq = s.bin.sendq ∧ ∀ o, b.rd o = if o = off ∧ o = 0x14 then p.words.getD 1 0 else if o = off ∧ o = 0x18 then p.words.getD 1 0 &&& 0xFFFF else s.bin.rd o)
          ∧ (acts → p.kind = 2 → bitOf (p.words.getD 0 0) 16 = false → (∀ o, b.rd o = if o = 0x10 ∧ off = 0x10 then 0 else s.bin.rd o)
              ∧ (alone → b.sendq = s.bin.sendq ++ [(l.num, ⟨3, s.bin.tag, w32 off, value.2, w32 value.1, []⟩)])
              ∧ (¬alone → ∀ k, pair k → b.sendq = s.bin.sendq ++ [(k, ⟨3, s.bin.tag, w32 off, value.2, w32 value.1, []⟩), (l.num, ⟨3, (s.bin.tag + 1) % 256, w32 off, value.2, w32 value.1, []⟩)]))
          ∧ (acts → p.kind = 3 → w % 4 ≠ 3 → w / 65536 = 0 → w.testBit 2 = true →
              let bytes := (wordsBytes ((p.words.drop 1).take 6)).take (w / 256 % 256)
              let sid := (bytes.getD 0 0).toNat
              let served := sid ∈ [0x10, 0x22, 0x27, 0x31, 0x34, 0x35, 0x36, 0x37, 0x3E]
              bytes ≠ [] → (served → b.msgs = s.bin.msgs ++ [(w % 4, bytes)] ∧ b.sendq = s.bin.sendq)
                ∧ (¬served → ¬(2 ≤ s.bin.updSt ∧ s.bin.updSt ≤ 5) → b.msgs = s.bin.msgs ∧ b.sendq = s.bin.sendq ++ s.linked.map fun k => (k, ⟨4, s.bin.tag, w32 (w % 4), 3, 0, [w32 (0x7F + 256 * sid + 65536 * 0x11)]⟩)))
          ∧ (acts → p.kind = 4 → 1 ≤ s.bin.updSt → s.bin.updSt ≤ 5 → b.sram = s.bin.sram ∧ b.sendq = s.bin.sendq ++ s.linked.map fun k => (k, ⟨0x31, s.bin.tag, 1, 0, 0, []⟩))
          ∧ (acts → p.kind = 4 → (s.bin.updSt = 0 ∨ 6 ≤ s.bin.updSt) → s.bin.dropped = 0 → ok = true → b.sram = [] ∧ (bLogFail.on (s.bin.rd 4) = false → b.sendq = s.bin.sendq ++ s.linked.map fun k => (k, ⟨0x30, s.bin.tag, 0, 0, 0, []⟩)))
          ∧ (acts → p.kind = 4 → (s.bin.updSt = 0 ∨ 6 ≤ s.bin.updSt) → ok = false → s.bin.sram ≠ [] → b.sram = s.bin.sram ∧ bLogFail.on (b.rd 4) = true ∧ b.sendq = s.bin.sendq ++ s.linked.map fun k => (k, ⟨0x31, s.bin.tag, 2, 0, 0, []⟩))
          ∧ (2 ≤ p.kind → p.kind ≤ 4 → ¬alone → (∃ e ∈ s.bin.posts, like e ∧ e.acted = true) → (∀ e ∈ s.bin.posts, like e → e.acted = true → e.lane ≠ l.num) →
              b.regs = s.bin.regs ∧ b.msgs = s.bin.msgs ∧ b.sram = s.bin.sram ∧ (∀ e ∈ b.posts, e ∈ s.bin.posts) ∧ (p.kind ≠ 2 ∨ bitOf (p.words.getD 0 0) 16 = true → b.sendq = s.bin.sendq))

/-- The Binnacle's log and sensors (R583 to R588): a page takes the records that fill it to the ring at 32 × (n mod 524,288), a new sector erases itself and the next one, a failed write keeps the records and sets LOGFAIL; samples show in the sensor registers, and the interval records carry their extremes and start a new interval. A post that
has found no match within 10 ms is discarded. -/
def Obligations.BinnacleLog : Prop :=
  ∀ s : State,
    let B := s.bin
    let n := B.logwp
    let room := 8 - n % 8
    let due := B.sram ≠ [] ∧ (room ≤ B.sram.length ∨ ((B.sram.headD []).getD 1 0).toNat + 1000 ≤ B.ms)
    let idle := B.updSt = 0 ∨ 6 ≤ B.updSt
    let k := min room B.sram.length
    let placed : Nat → Nat := fun j => 32 * ((n + j / 32) % 524288) + j % 32
    (∀ l : LaneId, Runs (.postMatchTimeout l) s fun t => t = { s with bin := { B with posts := t.bin.posts } } ∧ ∀ e, e ∈ t.bin.posts ↔ e ∈ B.posts ∧ ¬(e.lane = l.num ∧ e.ms + 10 ≤ B.ms))
    ∧ (∀ ok : Bool, ¬(B.on = true ∧ due ∧ idle) → exec (.logPageProgram ok) s = .next s)
    ∧ (B.on = true → due → idle → Runs (.logPageProgram false) s fun t => t = { s with bin := { B with regs := t.bin.regs } } ∧ bLogFail.on (t.bin.rd 4) = true ∧ ∀ o, o ≠ 4 → t.bin.rd o = B.rd o)
    ∧ (B.on = true → due → idle → (∀ r ∈ B.sram, r.length = 8) → n + 8 < 2 ^ 32 → Runs (.logPageProgram true) s fun t =>
        t = { s with bin := { B with regs := t.bin.regs, flash := t.bin.flash, sram := t.bin.sram, dropped := t.bin.dropped } } ∧ t.bin.logwp = n + k
          ∧ (∀ j, j < 32 * k → t.bin.flashByte (placed j) = (wordsBytes (B.sram.getD (j / 32) [])).getD (j % 32) 0)
          ∧ (n % 128 ≠ 0 → ∀ a, (∀ j, j < 32 * k → a ≠ placed j) → t.bin.flashByte a = B.flashByte a)
          ∧ (n % 128 = 0 → ∀ a, a < 0x1000000 → (∀ j, j < 32 * k → a ≠ placed j) → t.bin.flashByte a = if a / 0x1000 = n / 128 % 4096 ∨ a / 0x1000 = (n / 128 + 1) % 4096 then 0xFF else B.flashByte a)
          ∧ t.bin.logold = (if n % 128 = 0 then max B.logold ((n / 128 + 2 - 4096) * 128) else B.logold) ∧ (∀ o, o ≠ 8 → o ≠ 0xC → t.bin.rd o = B.rd o)
          ∧ (B.dropped = 0 ∨ 8192 ≤ B.sram.length - k → t.bin.sram = B.sram.drop k ∧ t.bin.dropped = B.dropped)
          ∧ (0 < B.dropped → B.sram.length - k < 8192 → t.bin.dropped = 0 ∧ ∃ r, t.bin.sram = B.sram.drop k ++ [r] ∧ (r.getD 0 0).toNat % 1024 = 0x30C ∧ r.getD 3 0 = w32 B.dropped))
    ∧ (B.round = none → B.updSt ≠ 5 → ∀ x : SensorSample, Runs (.binnacleSensorSample x) s fun t => t = { s with bin := { B with regs := t.bin.regs, sens := t.bin.sens, ms := t.bin.ms, reqs := t.bin.reqs, sndWait := t.bin.sndWait } }
        ∧ (B.on = false → t.bin.regs = B.regs ∧ t.bin.sens = B.sens ∧ t.bin.ms = B.ms)
        ∧ (B.on = true → match x with
          | .temps ts => t.bin.ms = B.ms ∧ (∀ d, d < 11 → t.bin.rd (0x20 + 4 * d) = if s.a.small = true ∧ (d = 8 ∨ d = 9) then 0x8000 else BitVec.ofInt 32 (ts.getD d 0) &&& 0xFFFF) ∧ ∀ o, (∀ d, d < 11 → o ≠ 0x20 + 4 * d) → t.bin.rd o = B.rd o
          | .supply vs is => t.bin.ms = B.ms + 1 ∧ (∀ x, x < 3 → t.bin.rd (0x50 + 4 * x) = w32 (vs.getD x 0 % 65536 + 65536 * (is.getD x 0 % 65536))) ∧ t.bin.rd 0x5C = w32 (vs.getD 3 0 % 65536) ∧ (∀ o, o ∉ [0x50, 0x54, 0x58, 0x5C] → t.bin.rd o = B.rd o)
              ∧ t.bin.sens.iHigh = max B.sens.iHigh (is.take 3).sum
          | .accel x y z => t.bin.ms = B.ms ∧ t.bin.regs = B.regs ∧ t.bin.sens.n = B.sens.n + 1 ∧ t.bin.sens.over4g = B.sens.over4g + (if 16000000 < x.natAbs * x.natAbs + y.natAbs * y.natAbs + z.natAbs * z.natAbs then 1 else 0)))
    ∧ (let off := B.on = false ∨ (B.rd 0x14).toNat % 65536 = 0
      (off → exec .sensorStatisticsRecord s = .next s)
      ∧ (¬off → B.sram.length < 8192 → Runs .sensorStatisticsRecord s fun t => t = { s with bin := { B with sram := t.bin.sram, sens := t.bin.sens } } ∧ t.bin.sens = { B.sens with hot := none, cold := none, vLow := [], vHigh := [], iHigh := 0 }
          ∧ ∃ r, t.bin.sram = B.sram ++ [r] ∧ (r.getD 0 0).toNat % 1024 = 0x30A ∧ r.getD 6 0 = w32 (min 65535 B.sens.iHigh) ∧ ∀ d x, d < 11 → B.sens.hot = some (d, x) → (r.getD 3 0).toNat % 16 = d))
    ∧ (let off := B.on = false ∨ (B.rd 0x14).toNat / 65536 = 0
      (off → exec .vibrationSummaryRecord s = .next s)
      ∧ (¬off → B.sram.length < 8192 → Runs .vibrationSummaryRecord s fun t => t = { s with bin := { B with sram := t.bin.sram, sens := t.bin.sens, regs := t.bin.regs } }
          ∧ t.bin.sens = { B.sens with n := 0, sum := [], sq := [], peak2 := 0, over4g := 0 } ∧ (∀ o, o ≠ 0x60 → o ≠ 0x64 → t.bin.rd o = B.rd o)
          ∧ ∃ r, t.bin.sram = B.sram ++ [r] ∧ (r.getD 0 0).toNat % 1024 = 0x30B ∧ r.getD 3 0 = t.bin.rd 0x60 ∧ r.getD 4 0 = t.bin.rd 0x64 ∧ r.getD 5 0 = w32 (min 65535 B.sens.over4g)))

/-- The requests of an update in a lane (R133, R137, R555, R591 to R593): UPD_BEGIN asks for the split and is answered once it is entered or refused; the others act in a split lane alone and are refused elsewhere. UPD_DATA programs its words into the inactive slot, UPD_END compares the digest and checks the signature, UPD_COMMIT writes the other copy
of the slot record with the new slot and one generation more, and with UPD_ABORT the lane joins. Writes wait for the NVM guard, and one that fails spoils at most its block or the other copy of the record.
The update goes on once every lane that was asked has answered (R591 to R593): the split, the blocks of the staged image, the check and the commit follow each other; a refusal or a missing answer before the commit sends UPD_ABORT and fails with its cause. After the join STATUS is asked, and the state, the new SAFE_CCV and a record of TYPE 9 show the
outcome. The programming session opens only where every lane reports Harbour at standstill. Seen in the row that serves no message. -/
def Obligations.Updates : Prop :=
  (∀ (s : State) (l : LaneId), (s.lane l).me = l.num →
      let L := s.lane l
      let held : Nat → Prop := fun op => L.on R.BMB_STAT F.BMB_STAT_INPEND = true ∧ (L.rd (R.BMB_IN 0)).toNat % 256 = op ∧ binWaits s
      let split := L.laneSt l.num = 7 ∧ L.fld R.FIX_SPLIT F.FIX_SPLIT_SSTATE = 2
      let box := [R.BMB_STAT.addr, R.BMB_CNT.addr, R.PWR_NVMST.addr]
      let other := 1 - L.pw.slot
      let guarded := L.on R.PWR_NVMST F.PWR_NVMST_ACTIVE = true
      let bytes : Lane → Prop := fun M => (∀ a, M.byte a = L.byte a) ∧ M.pmPar = L.pmPar
      let joins : Lane → Prop := fun M => M.fld R.FIX_SPLIT F.FIX_SPLIT_SSTATE = 3 ∧ M.rd R.IMG_STAT = 0 ∧ M.on R.IMG_LOCK_STAT F.IMG_LOCK_STAT_LOCKED = false ∧ M.pw.joining = true ∧ M.pw.verified = false ∧ M.pw.step9 = false ∧ M.eng.insts = [] ∧ M.mem = L.mem ∧ M.pmPar = L.pmPar
      (s.bin.takenReq l.num 0x10 = none → held 0x10 → accepts (.updBegin l) s l fun L M =>
          (L.laneSt l.num = 3 → L.fld R.FIX_SPLIT F.FIX_SPLIT_SSTATE = 0 → (∀ p ∈ L.ck.dec, p.word ≠ splitWord) → L.ck.owe.contains (L.me, splitWord) = false → L.ck.dec.length < 16 →
              M.fld R.FIX_SPLIT F.FIX_SPLIT_SSTATE = 1 ∧ M.on R.FIX_EVT F.FIX_EVT_SPLITEV = true ∧ M.ck.dec = L.ck.dec ++ [⟨splitWord, 0, L.ck.last⟩])
            ∧ (L.laneSt l.num ≠ 3 ∨ (L.fld R.FIX_SPLIT F.FIX_SPLIT_SSTATE ≠ 0 ∧ L.ck.owe.contains (L.me, splitWord) = false) → M.ck.dec = L.ck.dec ∧ M.ck.owe = L.ck.owe) ∧ Lane.Frame [R.BMB_STAT.addr, R.FIX_SPLIT.addr, R.FIX_EVT.addr] L M)
      ∧ (∀ q, s.bin.takenReq l.num 0x10 = some q →
          let res := if L.fld R.FIX_SPLIT F.FIX_SPLIT_SSTATE = 2 then 0 else max 1 (L.fld R.FIX_SPLIT F.FIX_SPLIT_RCAUSE)
          (L.fld R.FIX_SPLIT F.FIX_SPLIT_SSTATE ≠ 2 → L.fld R.FIX_SPLIT F.FIX_SPLIT_SSTATE ≠ 0 → exec (.updBegin l) s = .next s)
          ∧ (L.fld R.FIX_SPLIT F.FIX_SPLIT_SSTATE = 2 ∨ L.fld R.FIX_SPLIT F.FIX_SPLIT_SSTATE = 0 → RunsLane (.updBegin l) s l fun L M =>
              Lane.Frame box L M ∧ (L.on R.BMB_CTRL F.BMB_CTRL_EN = true → L.on R.BMB_CTRL F.BMB_CTRL_LINK = true → L.posts.length < 16 →
                ∃ p, M.posts = L.posts ++ [p] ∧ p.kind = 1 ∧ p.words = [w32 (res + 256 * q.tag), 0, 0, 0, 0, 0, 0, 0])))
      ∧ (¬split → ∀ (ok : Bool), ∀ e ∈ [(Instr.updData l ok, 0x11), (Instr.updEnd l, 0x12), (Instr.updCommit l ok, 0x13), (Instr.updAbort l, 0x14)], held e.2 →
          accepts e.1 s l fun L M => M.posts = L.posts ∧ Lane.Frame [R.BMB_STAT.addr] L M)
      ∧ (split → guarded → (held 0x11 → exec (.updData l true) s = .next s) ∧ (held 0x13 → exec (.updCommit l true) s = .next s))
      ∧ (∀ ok : Bool, split → held 0x11 → ¬(ok = true ∧ guarded) → accepts (.updData l ok) s l fun L M =>
          let ofs := (L.rd (R.BMB_IN 1)).toNat
          let good := ok = true ∧ ofs + 1024 ≤ 0x400000
          let size := if ofs % 0x1000 = 0 then 0x1000 else 1024
          replies L M (if ok = true ∧ ofs + 1024 ≤ 0x400000 then 0 else 1) [] ∧ Lane.RegsBut box L M ∧ bytes M ∧ (guarded ∨ 0x400000 < ofs + 1024 → ∀ a, M.flashByte a = L.flashByte a)
            ∧ (∀ a, a < 0x400000 * other + ofs ∨ 0x400000 * other + ofs + size ≤ a → M.flashByte a = L.flashByte a)
            ∧ (good → ∀ j, j < 1024 → M.flashByte (0x400000 * other + ofs + j) = (wordsBytes [L.rd (R.BMB_INBUF (j / 4))]).getD (j % 4) 0))
      ∧ (split → held 0x12 → accepts (.updEnd l) s l fun L M =>
          let n := (L.rd (R.BMB_IN 1)).toNat
          let digest := sha256 (L.imgBytes other n)
          let block := (List.range 128).map fun j => L.flashByte (0x400000 * other + n + j)
          let pass := digest = wordsBytes ((List.range 8).map fun j => L.rd (R.BMB_INBUF j)) ∧ sigCause L.pw.keys (L.fld R.IMG_KEY F.IMG_KEY_REVK) block digest = 0
          (pass → replies L M 0 []) ∧ (¬pass → replies L M 1 []) ∧ Lane.Frame box L M)
      ∧ (∀ ok : Bool, split → held 0x13 → ¬(ok = true ∧ guarded) → accepts (.updCommit l ok) s l fun L M =>
          let spoilt := slotRecBase (match L.slotRecCopy with | some c => 1 - c | none => 0)
          joins M ∧ (ok = false → ∀ a, guarded ∨ a < spoilt ∨ spoilt + 0x1000 ≤ a → M.flashByte a = L.flashByte a)
            ∧ (ok = true → L.fld R.LANE_ID_LANE F.LANE_ID_LANE_LETTER < 4 → ∃ c, M.slotRecCopy = some c ∧ (M.flashW (slotRecBase c + 4)).toNat % 2 = other % 2
              ∧ (∀ d, L.slotRecCopy = some d → c = 1 - d ∧ (M.flashW (slotRecBase c)).toNat / 65536 = ((L.flashW (slotRecBase d)).toNat / 65536 + 1) % 65536))
            ∧ (L.on R.BMB_CTRL F.BMB_CTRL_EN = true → L.on R.BMB_CTRL F.BMB_CTRL_LINK = true → L.posts.length < 16 → ∃ p, M.posts = L.posts ++ [p] ∧ p.kind = 1 ∧ p.words = [w32 ((if ok then 0 else 1) + 256 * L.inTag), 0, 0, 0, 0, 0, 0, 0]))
      ∧ (split → held 0x14 → accepts (.updAbort l) s l fun L M => joins M ∧ (∀ a, M.flashByte a = L.flashByte a)
          ∧ (L.on R.BMB_CTRL F.BMB_CTRL_EN = true → L.on R.BMB_CTRL F.BMB_CTRL_LINK = true → L.posts.length < 16 → ∃ p, M.posts = L.posts ++ [p] ∧ p.kind = 1 ∧ p.words = [w32 (256 * L.inTag), 0, 0, 0, 0, 0, 0, 0])))
  ∧ (∀ s : State, s.bin.msgs = [] →
      let B := s.bin
      let goes := Runs .testerPresent s
      let ended : Nat → ReqEnt → Prop := fun op e => e.req.op = op → ∃ c ws, e.st = .ended c ws
      let done : Nat → Prop := fun op => B.round = some op ∧ (∀ x ∈ B.sendq, x.2.op ≠ op) ∧ (∀ e ∈ B.reqs, ended op e)
      let result : Nat → Nat → Prop := fun op c => ∃ e ∈ B.reqs, e.req.op = op ∧ ∃ ws, e.st = .ended c ws
      let passed : Nat → Prop := fun op => (∃ c, result op c) ∧ ∀ c, result op c → c = 0
      let ask : Nat → Word → List Word → List (Nat × MReq) := fun op in1 buf => s.linked.map fun k => (k, ⟨op, B.tag, in1, 0, 0, buf⟩)
      let outside : State → Prop := fun t => t = { s with bin := t.bin }
      let asks : State → Nat → Word → List Word → Prop := fun t op in1 buf => outside t ∧ t.bin.sendq = B.sendq ++ ask op in1 buf ∧ t.bin.round = some op
      let shows : State → Nat → Nat → Prop := fun t st c => bUpState.get (t.bin.rd 0x74) = st ∧ bUpCause.get (t.bin.rd 0x74) = c
      (binWaits s → goes fun t => outside t ∧ t.bin = { B with reqs := t.bin.reqs, sndWait := t.bin.sndWait } ∧ ∀ e ∈ B.reqs, e.st = .sent → e ∈ t.bin.reqs)
      ∧ (∀ op c, op ∈ [0x10, 0x11, 0x12] → done op → result op c → c ≠ 0 → goes fun t => outside t ∧ t.bin.sendq = B.sendq ++ ask 0x14 0 [] ∧ t.bin.round = none ∧ t.bin.staged = false ∧ bUpState.get (t.bin.rd 0x74) = 7
          ∧ (result op 0xFF → bUpCause.get (t.bin.rd 0x74) = 8) ∧ (¬result op 0xFF → bUpCause.get (t.bin.rd 0x74) = if op = 0x10 then 2 else 5))
      ∧ (done 0x10 → passed 0x10 → goes fun t => asks t 0x11 0 (B.stagedWords 0 256) ∧ shows t 3 0 ∧ t.bin.sentW = 0)
      ∧ (done 0x11 → passed 0x11 → 4 * (B.sentW + 256) < B.imgLen + 128 → goes fun t => asks t 0x11 (w32 (4 * (B.sentW + 256))) (B.stagedWords (4 * (B.sentW + 256)) 256) ∧ t.bin.sentW = B.sentW + 256)
      ∧ (done 0x11 → passed 0x11 → B.imgLen + 128 ≤ 4 * (B.sentW + 256) → goes fun t => (∃ buf, wordsBytes buf = sha256 (B.stagedBytes B.imgLen) ∧ asks t 0x12 (w32 B.imgLen) buf) ∧ shows t 4 0)
      ∧ (done 0x12 → passed 0x12 → goes fun t => asks t 0x13 0 [] ∧ shows t 5 0)
      ∧ (∀ c, done 0x13 → result 0x13 c → goes fun t => outside t ∧ t.bin.sendq = B.sendq ∧ t.bin.round = none ∧ bUpState.get (t.bin.rd 0x74) = bUpState.get (B.rd 0x74)
          ∧ (result 0x13 0xFF → bUpCause.get (t.bin.rd 0x74) = 8) ∧ (passed 0x13 → bUpCause.get (t.bin.rd 0x74) = 0)
          ∧ (¬result 0x13 0xFF → ¬passed 0x13 → bUpCause.get (t.bin.rd 0x74) = 5))
      ∧ (B.round = none → B.updSt = 5 → (∃ k, (s.lane k).mySt = 3) → (∀ k, (s.lane k).mySt ≠ 7) → goes fun t => asks t 1 0 [])
      ∧ (∀ e ws, done 1 → B.progWait = none → B.sram.length < 8192 → B.reqs.find? (fun e => decide (e.req.op = 1) && (match e.st with | .ended c _ => decide (c = 0) | _ => false)) = some e → e.st = .ended 0 ws → goes fun t =>
          outside t ∧ t.bin.round = none ∧ bUpState.get (t.bin.rd 0x74) = 6 ∧ bUpConf.get (t.bin.rd 0x74) = F.SAFE_CMST_CONFIRMED.get (ws.getD 3 0) ∧ t.bin.rd 0x78 = ws.getD 4 0 ∧ t.bin.staged = false ∧ t.bin.lastReq = B.ms
            ∧ ∃ r, t.bin.sram = B.sram ++ [r] ∧ (r.getD 0 0).toNat % 1024 = 0x309 ∧ r.getD 3 0 = t.bin.rd 0x74 ∧ r.getD 4 0 = ws.getD 5 0 ∧ r.getD 5 0 = ws.getD 4 0)
      ∧ (∀ port, done 1 → B.progWait = some port →
          let fine := (∃ c, result 1 c) ∧ ∀ e ∈ B.reqs, e.req.op = 1 → ∃ ws, e.st = .ended 0 ws ∧ (ws.getD 0 0).toNat % 4 = 1 ∧ F.FIX_DGSTAT_STILL.on (ws.getD 1 0) = true ∧ F.FIX_DGSTAT_DMODE.get (ws.getD 1 0) = 0
          (fine → B.updSt ≠ 1 → goes fun t => outside t ∧ t.bin.session = 2 ∧ t.bin.port = port ∧ t.bin.unlocked = false ∧ t.bin.sendq = B.sendq ++ s.linked.map fun k => (k, ⟨4, B.tag, w32 port, 6, 0, [0x32000250, 0xF401]⟩))
          ∧ (¬fine → goes fun t => outside t ∧ t.bin.session = B.session ∧ bUpCause.get (t.bin.rd 0x74) = 1 ∧ t.bin.sendq = B.sendq ++ s.linked.map fun k => (k, ⟨4, B.tag, w32 port, 3, 0, [0x22107F]⟩))))

/-- Sessions and security (R589, R590; the message forms and the response codes that the spec does not name are presumed from ISO 14229-1, log entry 17): a served request leaves the queue and restarts the session's timer; a session ends with what was unlocked and with a download not activated; a seed is taken from free values and answered by the
key of R590, the third wrong key starts the delay. Nothing is served while a round or the lanes' update runs (R592).
The delay after the third wrong key ends after 10 s, and a session after 5 s without a request, but not while the lanes are being updated (R589, R590). -/
def Obligations.UdsSessions : Prop :=
  (∀ (s : State) (port : Nat) (bs : List Byte) (rest : List (Nat × List Byte)), s.bin.msgs = (port, bs) :: rest →
      let B := s.bin
      let sid := (bs.getD 0 0).toNat
      let sub := (bs.getD 1 0).toNat
      let rows : List (Instr × Prop) := [(.diagnosticSessionControl, sid = 0x10), (.readDataByIdentifier, sid = 0x22), (.securityAccessSeed, sid = 0x27 ∧ sub ≠ 0x12), (.securityAccessKey, sid = 0x27 ∧ sub = 0x12), (.testerPresent, sid = 0x3E)]
      let ready := B.on = true ∧ B.round = none ∧ ¬(2 ≤ B.updSt ∧ B.updSt ≤ 5)
      let answer : State → List Byte → Prop := fun t m => t.bin.sendq = B.sendq ++ s.linked.map fun k => (k, ⟨4, B.tag, w32 port, w32 m.length, 0, (List.range ((m.length + 3) / 4)).map fun j => w32 (leNat ((m.drop (4 * j)).take 4))⟩)
      let refused : State → Nat → Prop := fun t c => answer t [0x7F, BitVec.ofNat 8 sid, BitVec.ofNat 8 c]
      let served : Instr → (State → Prop) → Prop := fun i Q => ready → Runs i s fun t => t = { s with bin := t.bin } ∧ t.bin.msgs = rest ∧ t.bin.lastReq = B.ms ∧ t.bin.flash = B.flash ∧ t.bin.keys = B.keys ∧ t.bin.auth = B.auth ∧ Q t
      let kept : State → Prop := fun t => t.bin.session = B.session ∧ t.bin.unlocked = B.unlocked ∧ t.bin.seed = B.seed ∧ t.bin.xfer = B.xfer ∧ t.bin.regs = B.regs
      let ends : State → Prop := fun t => t.bin.unlocked = false ∧ t.bin.seed = none ∧ t.bin.wrong = 0 ∧ t.bin.xfer = none ∧ t.bin.staged = false ∧ (B.updSt = 1 → bUpState.get (t.bin.rd 0x74) = 7 ∧ bUpCause.get (t.bin.rd 0x74) = 7)
      (∀ e ∈ rows, (¬e.2 ∨ B.on = false ∨ (2 ≤ B.updSt ∧ B.updSt ≤ 4)) → binWaits s → Runs e.1 s fun t => t = { s with bin := { B with reqs := t.bin.reqs, sndWait := t.bin.sndWait } })
      ∧ (sid = 0x10 → bs.length ≠ 2 → served .diagnosticSessionControl fun t => kept t ∧ refused t 0x13)
      ∧ (sid = 0x10 → bs.length = 2 → sub = 1 → served .diagnosticSessionControl fun t => ends t ∧ t.bin.session = 0 ∧ answer t [0x50, 1, 0, 0x32, 1, 0xF4])
      ∧ (sid = 0x10 → bs.length = 2 → sub = 2 → served .diagnosticSessionControl fun t => kept t ∧ t.bin.round = some 1 ∧ t.bin.progWait = some port ∧ t.bin.sendq = B.sendq ++ s.linked.map fun k => (k, ⟨1, B.tag, 0, 0, 0, []⟩))
      ∧ (sid = 0x10 → bs.length = 2 → sub = 3 → served .diagnosticSessionControl fun t => ends t ∧ t.bin.session = 3 ∧ t.bin.port = port ∧ answer t [0x50, 3, 0, 0x32, 1, 0xF4])
      ∧ (sid = 0x10 → bs.length = 2 → sub ∉ [1, 2, 3] → served .diagnosticSessionControl fun t => kept t ∧ refused t 0x12)
      ∧ (sid = 0x22 → bs.length ≠ 3 → served .readDataByIdentifier fun t => kept t ∧ refused t 0x13)
      ∧ (sid = 0x22 → bs.length = 3 →
          let did := 256 * sub + (bs.getD 2 0).toNat
          (∀ e ∈ [(0xF18C, beBytes 8 B.uid.toNat), (0xFD00, beBytes 4 (B.rd 0x74).toNat ++ beBytes 4 (B.rd 0x78).toNat), (0xFD01, beBytes 4 s.binStat.toNat), (0xFD02, beBytes 4 (B.rd 0x70).toNat)], did = e.1 →
            served .readDataByIdentifier fun t => kept t ∧ answer t ([0x62] ++ bs.drop 1 ++ e.2))
          ∧ (did ∉ [0xF18C, 0xFD00, 0xFD01, 0xFD02] → served .readDataByIdentifier fun t => kept t ∧ refused t 0x31))
      ∧ (sid = 0x27 → sub ≠ 0x12 → served .securityAccessSeed fun t =>
          (sub ≠ 0x11 → kept t ∧ refused t 0x12) ∧ (sub = 0x11 → bs.length ≠ 2 → kept t ∧ refused t 0x13) ∧ (sub = 0x11 → bs.length = 2 → B.session = 0 → kept t ∧ refused t 0x7F)
            ∧ (sub = 0x11 → bs.length = 2 → B.session ≠ 0 → B.delay.isSome = true → kept t ∧ refused t 0x37)
            ∧ (sub = 0x11 → bs.length = 2 → B.session ≠ 0 → B.delay = none → t.bin.free = B.free + 4 ∧ t.bin.session = B.session ∧ t.bin.unlocked = B.unlocked ∧ ∃ seed, t.bin.seed = some seed ∧ seed.length = 16 ∧ answer t ([0x67, 0x11] ++ seed)))
      ∧ (sid = 0x27 → sub = 0x12 → served .securityAccessKey fun t =>
          let key : List Byte → List Byte := fun seed => (hmac256 B.auth seed).take 16
          let may := B.authBlocked = false ∧ B.auth ≠ []
          (bs.length ≠ 18 → kept t ∧ refused t 0x13) ∧ (bs.length = 18 → B.session = 0 → kept t ∧ refused t 0x7F) ∧ (bs.length = 18 → B.session ≠ 0 → B.seed = none → kept t ∧ refused t 0x24)
            ∧ ∀ seed, bs.length = 18 → B.session ≠ 0 → B.seed = some seed → t.bin.session = B.session ∧ t.bin.seed = none
              ∧ (may → bs.drop 2 = key seed → t.bin.unlocked = true ∧ t.bin.wrong = B.wrong ∧ answer t [0x67, 0x12])
              ∧ (¬(may ∧ bs.drop 2 = key seed) → t.bin.unlocked = B.unlocked ∧ refused t 0x35 ∧ (B.wrong ≠ 2 → t.bin.wrong = B.wrong + 1 ∧ t.bin.delay = B.delay) ∧ (B.wrong = 2 → t.bin.wrong = 0 ∧ t.bin.delay = some B.ms)))
      ∧ (sid = 0x3E → served .testerPresent fun t => kept t ∧ (bs.length ≠ 2 → refused t 0x13) ∧ (bs.length = 2 → sub = 0 → answer t [0x7E, 0]) ∧ (bs.length = 2 → sub = 0x80 → t.bin.sendq = B.sendq) ∧ (bs.length = 2 → sub ≠ 0 → sub ≠ 0x80 → refused t 0x12)))
  ∧ (∀ s : State,
      let B := s.bin
      let expired := B.session ≠ 0 ∧ ¬(2 ≤ B.updSt ∧ B.updSt ≤ 5) ∧ B.lastReq + 5000 ≤ B.ms
      (∀ t0, B.delay = some t0 → t0 + 10000 ≤ B.ms → exec .securityDelayEnd s = .next { s with bin := { B with delay := none } })
      ∧ (B.delay = none ∨ (∃ t0, B.delay = some t0 ∧ B.ms < t0 + 10000) → exec .securityDelayEnd s = .next s)
      ∧ (¬expired → exec .diagnosticSessionTimeout s = .next s)
      ∧ (expired → Runs .diagnosticSessionTimeout s fun t => t = { s with bin := t.bin } ∧ t.bin.session = 0 ∧ t.bin.unlocked = false ∧ t.bin.seed = none ∧ t.bin.xfer = none ∧ t.bin.staged = false ∧ t.bin.flash = B.flash ∧ t.bin.sendq = B.sendq
          ∧ (B.updSt = 1 → bUpState.get (t.bin.rd 0x74) = 7 ∧ bUpCause.get (t.bin.rd 0x74) = 7) ∧ (B.updSt ≠ 1 → t.bin.regs = B.regs)))

/-- The diagnostic message `m` goes to every linked lane for a port, after `n` other requests: SEND with its bytes as words. -/
def udsSends (s : State) (n port : Nat) (m : List Byte) : List (Nat × MReq) :=
  s.linked.map fun k => (k, ⟨4, (s.bin.tag + n) % 256, w32 port, w32 m.length, 0, (List.range ((m.length + 3) / 4)).map fun j => w32 (leNat ((m.drop (4 * j)).take 4))⟩)
/-- The row serves the message `bs` of a port, which stands at the front: it leaves, and the session's timer starts again. -/
def udsServes (i : Instr) (s : State) (port : Nat) (bs : List Byte) (Q : State → Prop) : Prop :=
  ∀ rest, s.bin.msgs = (port, bs) :: rest → s.bin.on = true → s.bin.round = none → ¬(2 ≤ s.bin.updSt ∧ s.bin.updSt ≤ 5) → s.bin.tag < 256 → Runs i s fun t =>
    t = { s with bin := t.bin } ∧ t.bin.msgs = rest ∧ t.bin.session = s.bin.session ∧ t.bin.unlocked = s.bin.unlocked ∧ t.bin.keys = s.bin.keys ∧ t.bin.sram = s.bin.sram ∧ Q t

/-- Transfers (R585, R589, R591; the message forms and the response codes that the spec does not name are presumed from ISO 14229-1, log entry 17): RequestDownload erases the 1,024 sectors ahead of the write position as the staging area, RequestUpload names records held, TransferData takes the blocks in order, the first with a header that meets
R552, or gives the records as stored, 31 to a block as SEND holds them (log entry 45), with the bad ones counted, and RequestTransferExit verifies the signature of what was staged.
Routines (R591, R592, R595; the message forms and the response codes that the spec does not name are presumed from ISO 14229-1, log entry 17): 0xFF01 starts the update of the lanes with a staged image and gives its results, 0xFF02 revokes a key slot that is programmed, not revoked, not in use and not the last one. -/
def Obligations.UdsTransfers : Prop :=
  (∀ (s : State) (port : Nat) (bs : List Byte),
      let B := s.bin
      let sid := (bs.getD 0 0).toNat
      let na := (bs.getD 2 0).toNat % 16
      let ns := (bs.getD 2 0).toNat / 16
      let formed := bs.length = 3 + na + ns ∧ 1 ≤ ns
      let first := beNat ((bs.drop 3).take na)
      let size := beNat ((bs.drop (3 + na)).take ns)
      let free := B.session = 2 ∧ B.unlocked = true
      let nrc : State → Nat → Prop := fun t c => t.bin.sendq = B.sendq ++ udsSends s 0 port [0x7F, BitVec.ofNat 8 sid, BitVec.ofNat 8 c]
      let gives : State → List Byte → Prop := fun t m => t.bin.sendq = B.sendq ++ udsSends s 0 port m
      let kept : State → Prop := fun t => t.bin.xfer = B.xfer ∧ t.bin.flash = B.flash ∧ t.bin.regs = B.regs ∧ t.bin.staged = B.staged
      let failed : State → Nat → Prop := fun t c => t.bin.xfer = none ∧ t.bin.staged = false ∧ bUpState.get (t.bin.rd 0x74) = 7 ∧ bUpCause.get (t.bin.rd 0x74) = c
      let p := B.logwp / 128
      (sid = 0x34 → udsServes .requestDownload s port bs fun t =>
        (B.session ≠ 2 → kept t ∧ nrc t 0x7F) ∧ (B.session = 2 → B.unlocked = false → kept t ∧ nrc t 0x33) ∧ (free → ¬formed → kept t ∧ nrc t 0x13) ∧ (free → formed → size < 0x1C0 ∨ 0x400000 < size → kept t ∧ nrc t 0x31)
          ∧ (free → formed → 0x1C0 ≤ size → size ≤ 0x400000 → t.bin.xfer = some ⟨true, 0, size, 0, 0⟩ ∧ t.bin.imgLen = size - 128 ∧ t.bin.staged = false ∧ t.bin.stage = (p + 1) % 4096 ∧ bUpState.get (t.bin.rd 0x74) = 1 ∧ bUpCause.get (t.bin.rd 0x74) = 0
            ∧ (∀ a, a < 0x1000000 → t.bin.flashByte a = if (a / 0x1000 + 4096 * 2 - (p + 1) % 4096) % 4096 < 1024 then 0xFF else B.flashByte a) ∧ t.bin.logold = max B.logold ((p + 1025 - 4096) * 128 % 2 ^ 32)
            ∧ t.bin.sendq = B.sendq ++ udsSends s 0 port [0x7F, 0x34, 0x78] ++ udsSends s 1 port [0x74, 0x20, 4, 2]))
      ∧ (sid = 0x35 → udsServes .requestUpload s port bs fun t => t.bin.regs = B.regs ∧ t.bin.flash = B.flash ∧
          let fits := 0 < size ∧ size % 32 = 0 ∧ B.logold ≤ first ∧ first + size / 32 ≤ B.logwp
          (B.session ≠ 3 → kept t ∧ nrc t 0x7F) ∧ (B.session = 3 → ¬formed → kept t ∧ nrc t 0x13) ∧ (B.session = 3 → formed → ¬fits → kept t ∧ nrc t 0x31)
            ∧ (B.session = 3 → formed → fits → t.bin.xfer = some ⟨false, first, size, 0, 0⟩ ∧ gives t [0x75, 0x20, 3, 0xE2]))
      ∧ (sid = 0x36 → udsServes .transferData s port bs fun t =>
          let blk := (bs.getD 1 0).toNat
          let dat := bs.drop 2
          (B.xfer = none → kept t ∧ nrc t 0x24)
            ∧ ∀ x, B.xfer = some x →
              let next := 2 ≤ bs.length ∧ bs.length ≤ 1026 ∧ blk = (x.blk + 1) % 256
              let word : Nat → Word := fun o => w32 (leNat (dat.drop o |>.take 4))
              let header := word 0 = 0x4D454459 ∧ word 4 = 0x01400001 ∧ (word 8).toNat % 4 = 0 ∧ 0x140 ≤ (word 8).toNat ∧ (word 8).toNat ≤ 0x3FFF80 ∧ (word 0x14).toNat % 65536 = 0x7340 ∧ bitOf (word 0x14) (16 + B.fld 0 ⟨16, 4⟩) = true
              (¬(2 ≤ bs.length ∧ bs.length ≤ 1026) → kept t ∧ nrc t 0x13) ∧ (2 ≤ bs.length → bs.length ≤ 1026 → blk ≠ (x.blk + 1) % 256 → nrc t 0x73 ∧ (x.down = false → kept t) ∧ (x.down = true → failed t 6))
                ∧ (next → x.down = true → x.total < x.got + dat.length → failed t 6 ∧ nrc t 0x31)
                ∧ (next → x.down = true → x.got + dat.length ≤ x.total → x.got = 0 → ¬(0x40 ≤ dat.length ∧ header ∧ (word 8).toNat + 128 = x.total) → failed t 3 ∧ nrc t 0x72)
                ∧ (next → x.down = true → x.got + dat.length ≤ x.total → (x.got = 0 → 0x40 ≤ dat.length ∧ header ∧ (word 8).toNat + 128 = x.total) →
                    t.bin.xfer = some { x with got := x.got + dat.length, blk := blk } ∧ t.bin.regs = B.regs ∧ gives t [0x76, BitVec.ofNat 8 blk]
                      ∧ (∀ j, j < dat.length → t.bin.flashByte ((B.stage * 0x1000 + x.got + j) % 0x1000000) = dat.getD j 0)
                      ∧ ∀ a, (∀ j, j < dat.length → a ≠ (B.stage * 0x1000 + x.got + j) % 0x1000000) → t.bin.flashByte a = B.flashByte a)
                ∧ (next → x.down = false → x.total ≤ x.got → kept t ∧ nrc t 0x24)
                ∧ (next → x.down = false → x.got < x.total →
                    let n := min 992 (x.total - x.got)
                    t.bin.xfer = some { x with got := x.got + n, blk := blk } ∧ t.bin.flash = B.flash
                      ∧ gives t ([0x76, BitVec.ofNat 8 blk] ++ (List.range n).map fun j => B.flashByte ((32 * x.first + x.got + j) % 0x1000000)) ∧ ∀ o, o ≠ 0x10 → t.bin.rd o = B.rd o))
      ∧ (sid = 0x37 → udsServes .requestTransferExit s port bs fun t => t.bin.flash = B.flash ∧ (B.xfer = none → kept t ∧ nrc t 0x24)
          ∧ ∀ x, B.xfer = some x →
            let block := (List.range 128).map fun j => B.flashByte ((B.stage * 0x1000 + (B.imgLen + j)) % 0x1000000)
            let digest := sha256 ((List.range B.imgLen).map fun j => B.flashByte ((B.stage * 0x1000 + j) % 0x1000000))
            let cause := sigCause B.keys (B.fld 0x70 ⟨4, 4⟩) block digest
            (bs.length ≠ 1 → kept t ∧ nrc t 0x13) ∧ (bs.length = 1 → x.down = false → t.bin.xfer = none ∧ gives t [0x77]) ∧ (bs.length = 1 → x.down = true → x.got ≠ x.total → failed t 6 ∧ nrc t 0x24)
              ∧ (bs.length = 1 → x.down = true → x.got = x.total → cause = 0 → t.bin.xfer = none ∧ t.bin.staged = true ∧ t.bin.regs = B.regs ∧ gives t [0x77])
              ∧ (bs.length = 1 → x.down = true → x.got = x.total → cause ≠ 0 → failed t 4 ∧ nrc t 0x72)))
  ∧ (∀ (s : State) (port : Nat) (bs : List Byte), (bs.getD 0 0).toNat = 0x31 →
      let B := s.bin
      let sub := (bs.getD 1 0).toNat
      let routine := 256 * (bs.getD 2 0).toNat + (bs.getD 3 0).toNat
      let nrc : State → Nat → Prop := fun t c => t.bin.sendq = B.sendq ++ udsSends s 0 port [0x7F, 0x31, BitVec.ofNat 8 c]
      let kept : State → Prop := fun t => t.bin.regs = B.regs ∧ t.bin.round = none ∧ t.bin.staged = B.staged
      let free := B.session = 2 ∧ B.unlocked = true
      let locked : State → Prop := fun t => (B.session ≠ 2 → kept t ∧ nrc t 0x7F) ∧ (B.session = 2 → B.unlocked = false → kept t ∧ nrc t 0x33)
      (¬(sub = 3 ∧ routine = 0xFF01) → ¬(sub = 1 ∧ routine = 0xFF02) → udsServes .activateImage s port bs fun t => locked t ∧ (free → bs.length < 4 → kept t ∧ nrc t 0x13) ∧ (free → 4 ≤ bs.length → routine ≠ 0xFF01 → routine ≠ 0xFF02 → kept t ∧ nrc t 0x31)
        ∧ (free → 4 ≤ bs.length → routine = 0xFF02 ∨ (routine = 0xFF01 ∧ sub ≠ 1) → kept t ∧ nrc t 0x12) ∧ (free → 4 < bs.length → routine = 0xFF01 → sub = 1 → kept t ∧ nrc t 0x13)
        ∧ (free → bs.length = 4 → routine = 0xFF01 → sub = 1 → B.staged = false → kept t ∧ nrc t 0x24)
        ∧ (free → bs.length = 4 → routine = 0xFF01 → sub = 1 → B.staged = true → bUpState.get (t.bin.rd 0x74) = 2 ∧ bUpCause.get (t.bin.rd 0x74) = 0 ∧ t.bin.round = some 0x10
            ∧ t.bin.sendq = B.sendq ++ udsSends s 0 port [0x71, 1, 0xFF, 1] ++ s.linked.map fun k => (k, ⟨0x10, (B.tag + 1) % 256, 0, 0, 0, []⟩)))
      ∧ (sub = 3 → routine = 0xFF01 → udsServes .activateImageResults s port bs fun t => locked t ∧ kept t ∧ (free → bs.length ≠ 4 → nrc t 0x13)
          ∧ (free → bs.length = 4 → t.bin.sendq = B.sendq ++ udsSends s 0 port ([0x71, 3, 0xFF, 1, BitVec.ofNat 8 (bUpState.get (B.rd 0x74)), BitVec.ofNat 8 (bUpCause.get (B.rd 0x74))] ++ beBytes 4 (B.rd 0x78).toNat ++ [BitVec.ofNat 8 (bUpConf.get (B.rd 0x74))])))
      ∧ (sub = 1 → routine = 0xFF02 → udsServes .revokeKeySlot s port bs fun t =>
          let k := (bs.getD 4 0).toNat
          let live : Nat → Prop := fun j => bitOf (B.rd 0x70) j = true ∧ bitOf (B.rd 0x70) (4 + j) = false
          let may := k < 4 ∧ live k ∧ (∃ j, j < 4 ∧ j ≠ k ∧ live j) ∧ ∀ e ∈ B.stat, (e.2.getD 6 0).toNat % 4 ≠ k
          locked t ∧ (free → bs.length ≠ 5 → kept t ∧ nrc t 0x13) ∧ (free → bs.length = 5 → ¬may → kept t ∧ nrc t 0x31)
            ∧ (free → bs.length = 5 → may → bitOf (t.bin.rd 0x70) (4 + k) = true ∧ (∀ j, j < 32 → j ≠ 4 + k → bitOf (t.bin.rd 0x70) j = bitOf (B.rd 0x70) j) ∧ (∀ o, o ≠ 0x70 → t.bin.rd o = B.rd o)
              ∧ t.bin.sendq = B.sendq ++ s.linked.map (fun l => (l, ⟨0x20, B.tag, w32 k, 0, 0, []⟩)) ++ udsSends s 1 port [0x71, 1, 0xFF, 2])))

/-- The test access port (R139, R140, R604 to R606): the code in force and the register it shows; EXTEST and SCANREQ act as BYPASS in Field, where SCANREQ is recorded; Lane A's debug link opens in Dry dock or once the debugger has answered a seed. SCANREQ in Dry dock switches the dies off, resets every lane, clears the memories and the keys, sets
SCANEN and starts the device as from a wake, with the record of one. What the balls and the instruments show is a free value. -/
def Obligations.TestAccess : Prop :=
  ∀ s : State,
    let B := s.bin
    let tap : State → Nat → Prop := fun t ir => t = { s with bin := { B with ir := ir, dr := t.bin.dr } }
    let shown : State → Nat → Prop := fun t ir => t = { s with bin := { B with ir := ir, dr := t.bin.dr, free := B.free + 1 } }
    let codes := [0x00, 0x01, 0x02, 0x10, 0x20]
    let dry := bDry.on (B.rd 4) = true
    let rows : List Instr := [.idcode, .samplePreload, .extest, .scanreq, .debugAuthenticate none]
    (B.on = false → (∀ i ∈ rows, exec i s = .next s) ∧ (∀ c, exec (.bypass c) s = .next s) ∧ (∀ a, exec (.ieee1687Network a) s = .next s) ∧ ∀ k, exec (.debugAuthenticate (some k)) s = .next s)
    ∧ (∀ c : BitVec 8, c.toNat ∈ codes → exec (.bypass c) s = .next s)
    ∧ (B.on = true →
      (∀ c : BitVec 8, c.toNat ∉ codes → Runs (.bypass c) s fun t => tap t 0xFF ∧ t.bin.dr = 0)
      ∧ Runs .idcode s (fun t => tap t 0x01 ∧ (B.fld 0 ⟨16, 4⟩ = 0 → t.bin.dr = 0x0734054F) ∧ (B.fld 0 ⟨16, 4⟩ = 1 → t.bin.dr = 0x1734054F))
      ∧ Runs .samplePreload s (fun t => shown t 0x02)
      ∧ (dry → Runs .extest s fun t => shown t 0x00) ∧ (¬dry → Runs .extest s fun t => tap t 0xFF)
      ∧ (∀ a : Word, ¬dry → bDbg.on (B.rd 4) = false → Runs (.ieee1687Network a) s fun t => shown t 0x10)
      ∧ (∀ a : Word, dry ∨ bDbg.on (B.rd 4) = true → a.toNat % 4 = 0 → a.toNat < 0x100000 → (s.lane .A).bankOut a.toNat = false → Runs (.ieee1687Network a) s fun t =>
          t.bin = { B with ir := 0x10, dr := (s.lane .A).memW a.toNat } ∧ s.LaneOnly .A { t with bin := B } ∧ Lane.Frame [] (s.lane .A) (t.lane .A))
      ∧ Runs (.debugAuthenticate none) s (fun t => ∃ seed : List Byte, seed.length = 16 ∧ t = { s with bin := { B with dbgSeed := some seed, free := B.free + 4 } })
      ∧ (∀ k : List Byte, (B.dbgSeed = none → exec (.debugAuthenticate (some k)) s = .next s)
        ∧ ∀ seed, B.dbgSeed = some seed →
          let good := ¬dry ∧ B.authBlocked = false ∧ B.auth ≠ [] ∧ k = (hmac256 B.auth seed).take 16
          Runs (.debugAuthenticate (some k)) s fun t => t = { s with bin := { B with dbgSeed := none, regs := t.bin.regs } } ∧ (¬good → t.bin.regs = B.regs) ∧ (good → bDbg.on (t.bin.rd 4) = true ∧ bDry.on (t.bin.rd 4) = false ∧ ∀ o, o ≠ 4 → t.bin.rd o = B.rd o))
      ∧ (¬dry → B.sram.length < 8192 → Runs .scanreq s fun t => t = { s with bin := { B with ir := 0xFF, dr := 0, sram := t.bin.sram } } ∧ ∃ r, t.bin.sram = B.sram ++ [r] ∧ (r.getD 0 0).toNat % 1024 = 0x30D ∧ r.getD 3 0 = 0x20)
      ∧ (dry → Runs .scanreq s fun t => (∃ r rec, t.keep = { s.keep with ph := .awake, mode := 0, wakeRec := r, wakes := s.keep.wakes + 1, latched := 0, anchored := false } ∧ F.PWR_WAKESRC_FROM.get r = 3 ∧ F.PWR_WAKESRC_LATCHED.on r = false
            ∧ t.bin.sram = [rec] ∧ (rec.getD 0 0).toNat % 65536 = 0x303 ∧ rec.getD 3 0 = r) ∧ t.pending = s.pending ∧ t.dbgq = [] ∧ (∀ n : Fin 4, t.die n = default) ∧ bScan.on (t.bin.rd 4) = true ∧ bDry.on (t.bin.rd 4) = true ∧ bDbg.on (t.bin.rd 4) = false ∧ t.bin.auth = [] ∧ t.bin.authOtp = B.authOtp ∧ t.bin.authBlocked = true
          ∧ t.bin.session = 0 ∧ t.bin.unlocked = false ∧ t.bin.seed = none ∧ t.bin.dbgSeed = none ∧ (∀ a, t.bin.flashByte a = B.flashByte a)
          ∧ ∀ k, (∀ a, (t.lane k).byte a = 0) ∧ (∀ a, (t.lane k).flashByte a = (s.lane k).flashByte a) ∧ (t.lane k).pw.on = false ∧ (t.lane k).pw.heldOff = false ∧ (t.lane k).pw.up = false ∧ (t.lane k).rd R.PWR_MODE = 0 ∧ (t.lane k).rd R.IMG_STAT = 0))

/-- A key slot is revoked in Harbour, but for the one in use; and a sounding starts, or is refused with its cause; an abort shortens it.
Runtime soundings (R596 to R603): the Binnacle asks one lane after another for its next region in a usable bank; the image starts it and replies once it has ended; SAVE, TEST and RESTORE follow each other, a word that reads wrong sets FAIL with its address, bit, row and bank; a failing row takes a spare where AUTOREP allows and one is
left, else NOSPARE and a lane fault show it. -/
def Obligations.Soundings : Prop :=
  (∀ (s : State) (l : LaneId) (v : Word), s.Quiet →
      RunsLane (.keyRevoke l v) s l (fun L M =>
        let slot := F.BMB_KEYREV_SLOT.get v
        (L.base = 1 → slot ≠ L.fld R.IMG_KEY F.IMG_KEY_USED → bitOf (M.rd R.IMG_KEY) (8 + slot) = true ∧ Lane.Frame [R.IMG_KEY.addr] L M)
          ∧ (L.base ≠ 1 ∨ slot = L.fld R.IMG_KEY F.IMG_KEY_USED → M.on R.BMB_STAT F.BMB_STAT_KRREF = true ∧ Lane.Frame [R.BMB_STAT.addr] L M))
      ∧ (F.SND_REQ_ABORT.on v = false → RunsLane (.soundingStart l v) s l fun L M =>
          let base := F.SND_REQ_BASE.get v * 0x1000
          (L.sndCause base ≠ 0 → M.shows R.SND_STAT F.SND_STAT_REFUSED F.SND_STAT_RCAUSE (L.sndCause base) ∧ M.snd = L.snd)
            ∧ (L.sndCause base = 0 → M.on R.SND_STAT F.SND_STAT_BUSY = true ∧ M.fld R.SND_STAT F.SND_STAT_PHASE = 1 ∧ M.snd.base = base ∧ M.snd.start = L.ticks)
            ∧ Lane.Frame [R.SND_REQ.addr, R.SND_STAT.addr] L M)
      ∧ (F.SND_REQ_GO.on v = false → RunsLane (.soundingAbort l v) s l fun L M => Lane.Frame [R.SND_REQ.addr, R.SND_STAT.addr] L M
          ∧ (L.on R.SND_STAT F.SND_STAT_BUSY = true → L.fld R.SND_STAT F.SND_STAT_PHASE = 1 → M.snd = { L.snd with cut := true })
          ∧ (L.on R.SND_STAT F.SND_STAT_BUSY = true → L.fld R.SND_STAT F.SND_STAT_PHASE = 2 → M.fld R.SND_STAT F.SND_STAT_PHASE = 3)
          ∧ (L.on R.SND_STAT F.SND_STAT_BUSY = false → L.snd.doneAt = L.ticks + 1 → M.on R.SND_STAT F.SND_STAT_ABORT_LATE = true)))
  ∧ (∀ (s : State) (l : LaneId), (s.lane l).me = l.num →
      let B := s.bin
      let L := s.lane l
      let busy := L.on R.SND_STAT F.SND_STAT_BUSY = true
      let phase : Lane → Nat := fun M => M.fld R.SND_STAT F.SND_STAT_PHASE
      (binWaits s → B.on = false ∨ (B.rd 0x18).toNat % 65536 = 0 ∨ s.linked = [] → Runs .runtimeSoundingInterval s fun t => t = { s with bin := { B with reqs := t.bin.reqs, sndWait := t.bin.sndWait } })
      ∧ (binWaits s → B.on = true → (B.rd 0x18).toNat % 65536 ≠ 0 → B.sndWait = none → ∀ k, s.linked.contains k = true → k = B.sndLane → ∀ r, (s.lane (laneOf k)).nextRegion (B.sndReg.at k) = some r →
          Runs .runtimeSoundingInterval s fun t => t = { s with bin := t.bin } ∧ t.bin.sendq = B.sendq ++ [(k, ⟨2, B.tag, w32 (regionAddr r), 0, 0, []⟩)] ∧ t.bin.sndLane = (k + 1) % 3 ∧ t.bin.sndReg.at k = (r + 1) % 720 ∧ t.bin.sndWait = some k
            ∧ (s.lane (laneOf k)).bankOut (regionAddr r) = false)
      ∧ (binWaits s → s.bin.takenReq l.num 2 = none → L.on R.BMB_STAT F.BMB_STAT_INPEND = true → (L.rd (R.BMB_IN 0)).toNat % 256 = 2 → accepts (.sound l) s l fun L M =>
          let base := (L.rd (R.BMB_IN 1)).toNat / 4096 * 4096
          (L.sndCause base = 0 → M.on R.SND_STAT F.SND_STAT_BUSY = true ∧ phase M = 1 ∧ M.snd.base = base) ∧ (L.sndCause base ≠ 0 → M.shows R.SND_STAT F.SND_STAT_REFUSED F.SND_STAT_RCAUSE (L.sndCause base) ∧ M.snd = L.snd)
            ∧ Lane.Frame [R.BMB_STAT.addr, R.SND_REQ.addr, R.SND_STAT.addr] L M)
      ∧ (∀ q, s.bin.takenReq l.num 2 = some q → (busy → exec (.sound l) s = .next s)
          ∧ (¬busy → B.round = none → B.updSt ≠ 5 → Runs (.sound l) s fun t => (∀ k, k ≠ l → t.lane k = s.lane k) ∧ (∀ e ∈ t.bin.reqs, ¬(e.lane = l.num ∧ e.req.op = 2)) ∧ Lane.RegsOutside [0x400D, 0x400F] L (t.lane l) ∧ Lane.BytesSame L (t.lane l)
              ∧ (L.on R.BMB_CTRL F.BMB_CTRL_EN = true → L.on R.BMB_CTRL F.BMB_CTRL_LINK = true → L.posts.length < 15 → L.on R.PWR_NVMST F.PWR_NVMST_ACTIVE = false → ∃ p, p.kind = 1
                  ∧ p.words = [w32 ((if L.on R.SND_STAT F.SND_STAT_REFUSED then 1 else 0) + 256 * q.tag), L.rd R.SND_STAT, 0, 0, 0, 0, 0, 0]
                  ∧ (L.on R.SND_STAT F.SND_STAT_FAIL = false → (t.lane l).posts = L.posts ++ [p])
                  ∧ (L.on R.SND_STAT F.SND_STAT_FAIL = true → ∃ r, (t.lane l).posts = L.posts ++ [p, r] ∧ r.kind = 0 ∧ r.words = [5, L.rd R.SND_FADDR, L.rd R.SND_FBIT, L.rd R.SND_REP, L.rd R.SND_STAT, 0, 0, 0]))))
      ∧ RunsLane (.soundingSaveDone l) s l (fun L M => M.snd = L.snd ∧ (phase L ≠ 1 → Lane.Frame [] L M) ∧ (phase L = 1 → phase M = (if L.snd.cut then 3 else 2) ∧ Lane.Frame [R.SND_STAT.addr] L M))
      ∧ (∀ fails : List (Nat × Nat), RunsLane (.soundingTestDone l fails) s l fun L M =>
          let real := fails.filter fun f => decide (f.1 < 1024) && decide (f.2 < 39)
          (phase L ≠ 2 → M.snd = L.snd ∧ Lane.Frame [] L M)
            ∧ (phase L = 2 → phase M = 3 ∧ M.snd.fails = (real.map fun f => (L.snd.base + 4 * f.1, f.2)) ∧ Lane.Frame [R.SND_STAT.addr, R.SND_FADDR.addr, R.SND_FBIT.addr] L M ∧ (real = [] → M.fld R.SND_STAT F.SND_STAT_NROWS = 0 ∧ M.on R.SND_STAT F.SND_STAT_FAIL = L.on R.SND_STAT F.SND_STAT_FAIL)
              ∧ ∀ f rest b, real = f :: rest → L.snd.base % 4096 = 0 → memBank L.snd.base = some b → M.on R.SND_STAT F.SND_STAT_FAIL = true ∧ M.rd R.SND_FADDR = w32 (L.snd.base + 4 * f.1) ∧ M.fld R.SND_FBIT F.SND_FBIT_BIT = f.2
                  ∧ M.fld R.SND_FBIT F.SND_FBIT_BANK = b ∧ M.fld R.SND_FBIT F.SND_FBIT_ROW = (L.snd.base + 4 * f.1 - bankBase b) / 256))
      ∧ RunsLane (.soundingRestoreDone l) s l fun L M =>
          let rows := (List.range 512).filter fun r => L.snd.fails.any fun f => decide (rowOf f.1 = r)
          let n := rows.length
          let b := (memBank L.snd.base).getD 0
          let auto := L.on R.SND_CTRL F.SND_CTRL_AUTOREP = true
          let left := 8 - L.snd.spares.at b
          (phase L ≠ 3 → M.snd = L.snd ∧ Lane.Frame [] L M)
            ∧ (phase L = 3 → (∀ f ∈ L.snd.fails, rowOf f.1 < 512) → M.on R.SND_STAT F.SND_STAT_BUSY = false ∧ phase M = 0 ∧ M.on R.SND_STAT F.SND_STAT_DONE = true ∧ M.fld R.SND_TIME F.SND_TIME_TIME = min 65535 (L.ticks - L.snd.start)
              ∧ M.fld R.SND_CNT F.SND_CNT_DONE = min 65535 (L.fld R.SND_CNT F.SND_CNT_DONE + 1) ∧ M.fld R.SND_CNT F.SND_CNT_FAIL = (if L.snd.fails = [] then L.fld R.SND_CNT F.SND_CNT_FAIL else min 65535 (L.fld R.SND_CNT F.SND_CNT_FAIL + 1))
              ∧ (auto → 0 < n → 0 < left → M.on R.SND_STAT F.SND_STAT_REPAIRED = true ∧ bitOf (M.rd R.SND_REP) b = true ∧ M.snd.spares.at b = L.snd.spares.at b + min n left)
              ∧ (0 < n → ¬auto ∨ left < n → M.on R.SND_STAT F.SND_STAT_NOSPARE = true ∧ M.fld R.FIX_FLTLAST F.FIX_FLTLAST_CLASS = 1 ∧ M.fld R.FIX_FLTLAST F.FIX_FLTLAST_LOC = l.num)
              ∧ (n = 0 ∨ (auto ∧ n ≤ left) → M.rd R.FIX_FLTCNT = L.rd R.FIX_FLTCNT ∧ M.posts = L.posts) ∧ Lane.BytesSame L M ∧ Lane.RegsOutside [0x4002, 0x400D, 0x400E, 0x400F] L M))

/-! ### Invariants -/

/-- The KEEP domain is in a mode that R532 to R534 and R570 give it: between Moored or Anchor only while it goes there or is there, latched wakes of the five sources only, and never without a mode to wake from. -/
def keepLegal (s : State) : Prop :=
  s.keep.levels < 8 ∧ s.keep.latched < 32 ∧ s.keep.wuf.length ≤ 5
    ∧ (match s.keep.ph with
      | .unpowered => s.keep.mode = 0 ∧ s.keep.latched = 0 ∧ s.keep.wakes = 0
      | .awake => s.keep.mode = 0 ∧ 1 ≤ s.keep.wakes
      | .entry => (s.keep.mode = 1 ∨ s.keep.mode = 2) ∧ s.keep.anchored = false
      | .asleep => (s.keep.mode = 1 ∨ s.keep.mode = 2) ∧ s.keep.anchored = decide (s.keep.mode = 2)
      | .held => s.keep.mode = 0 ∧ s.keep.latched = 0 ∧ s.keep.anchored = false)

/-- Before the first power-on (R566) no domain is on, the KEEP domain is legal, every store is canonical and every lane is at its place (the values of State.reset that the spec does not give are those of log entry 2). -/
def Obligations.ResetMeetsInvariants : Prop :=
  keepLegal State.reset ∧ State.reset.Canonical ∧ State.reset.Placed ∧ State.reset.domains = 0 ∧ State.reset.pending = []

/-- Every step keeps the KEEP domain legal (R532, R534, R563 to R570): no command leads it to a mode that R534 does not have, and what it has latched are wake sources. -/
def Obligations.KeepStaysLegal : Prop := ∀ s t : State, keepLegal s → step s = .next t → keepLegal t

/-- Every step keeps the stores of memory and flash in their canonical form (log entries 6 and 7) and every lane at its place on the ring (R25). -/
def Obligations.StoresStayCanonical : Prop :=
  ∀ s t : State, s.Canonical → s.Placed → step s = .next t → t.Canonical ∧ t.Placed
end

