-- ==== Sys2Proof/Laws/Bits.lean ====
section
/-! SUPPORT. The laws of bit fields: a field shows what it has been set to, and the fields that do not overlap it show what they showed. -/

namespace Sys2Proof.Machine

theorem Bf.get_lt (f : Bf) (w : Word) : f.get w < 2 ^ f.wid := Nat.mod_lt _ (Nat.two_pow_pos _)

theorem Bf.testBit_get (f : Bf) (w : Word) (i : Nat) : (f.get w).testBit i = (decide (i < f.wid) && w.getLsbD (f.lo + i)) := by
  simp [Bf.get, Nat.testBit_mod_two_pow, Nat.testBit_shiftRight, BitVec.getLsbD]

theorem Bf.getLsbD_mask (f : Bf) (i : Nat) : f.mask.getLsbD i = (decide (i < 32) && decide (f.lo ≤ i) && decide (i < f.lo + f.wid)) := by
  simp only [Bf.mask, BitVec.getLsbD_ofNat, Nat.testBit_shiftLeft, Nat.testBit_two_pow_sub_one]
  by_cases h1 : i < 32 <;> by_cases h2 : f.lo ≤ i <;> simp [h1, h2]
  omega

theorem Bf.getLsbD_set (f : Bf) (w : Word) (v i : Nat) :
    (f.set w v).getLsbD i = (if i < 32 ∧ f.lo ≤ i ∧ i < f.lo + f.wid then v.testBit (i - f.lo) else w.getLsbD i) := by
  simp only [Bf.set, BitVec.getLsbD_or, BitVec.getLsbD_and, BitVec.getLsbD_not, Bf.getLsbD_mask, BitVec.getLsbD_ofNat,
    Nat.testBit_shiftLeft, Nat.testBit_mod_two_pow]
  by_cases h1 : i < 32
  · by_cases h2 : f.lo ≤ i
    · by_cases h3 : i < f.lo + f.wid
      · have : i - f.lo < f.wid := by omega
        simp [h1, h2, h3, this]
      · have : ¬ i - f.lo < f.wid := by omega
        simp [h1, h2, h3, this]
    · simp [h1, h2]
  · simp [h1, BitVec.getLsbD_of_ge w i (by omega)]

/-- A field reads what it has been set to, modulo its width. -/
theorem Bf.get_set_same (f : Bf) (w : Word) (v : Nat) (h : f.lo + f.wid ≤ 32) : f.get (f.set w v) = v % 2 ^ f.wid := by
  apply Nat.eq_of_testBit_eq
  intro i
  rw [Bf.testBit_get, Bf.getLsbD_set, Nat.testBit_mod_two_pow]
  by_cases hi : i < f.wid
  · have : f.lo + i < 32 ∧ f.lo ≤ f.lo + i ∧ f.lo + i < f.lo + f.wid := by omega
    simp [hi, this]
  · simp [hi]

/-- A field that does not overlap the one set reads what it read. -/
theorem Bf.get_set_other (f g : Bf) (w : Word) (v : Nat) (h : f.lo + f.wid ≤ g.lo ∨ g.lo + g.wid ≤ f.lo) : g.get (f.set w v) = g.get w := by
  apply Nat.eq_of_testBit_eq
  intro i
  rw [Bf.testBit_get, Bf.testBit_get, Bf.getLsbD_set]
  by_cases hi : i < g.wid
  · have : ¬(g.lo + i < 32 ∧ f.lo ≤ g.lo + i ∧ g.lo + i < f.lo + f.wid) := by omega
    rw [if_neg this]
  · simp [hi]

end Sys2Proof.Machine
end

