-- ==== Sys2Proof/Laws/Store.lean ====
section
/-! SUPPORT. The laws of the sparse stores: what a store shows after a change, and that every change keeps the canonical form. -/

namespace Sys2Proof.Machine

variable {α : Type}

/-! ### What a store shows -/

theorem look_del_same (t : Tab α) (k : Nat) (d : α) : look (del t k) k d = d := by
  induction t with
  | nil => rfl
  | cons e t ih =>
    obtain ⟨a, v⟩ := e
    by_cases h : a = k <;> simp [del, look, h, ih]

theorem look_del_other (t : Tab α) {k j : Nat} (d : α) (h : j ≠ k) : look (del t k) j d = look t j d := by
  induction t with
  | nil => rfl
  | cons e t ih =>
    obtain ⟨a, v⟩ := e
    by_cases hk : a = k
    · subst hk
      simp [del, look, Ne.symm h, ih]
    · by_cases hj : a = j
      · subst hj
        simp [del, look, hk]
      · simp [del, look, hk, hj, ih]

theorem look_ins_other (t : Tab α) {k j : Nat} (v d : α) (h : j ≠ k) : look (ins t k v) j d = look t j d := by
  induction t with
  | nil => simp [ins, look, Ne.symm h]
  | cons e t ih =>
    obtain ⟨a, x⟩ := e
    by_cases hk : k < a
    · simp [ins, look, hk, Ne.symm h]
    · by_cases hj : a = j
      · subst hj
        simp [ins, look, hk]
      · simp [ins, look, hk, hj, ih]

theorem look_ins_del (t : Tab α) (k : Nat) (v d : α) : look (ins (del t k) k v) k d = v := by
  induction t with
  | nil => simp [del, ins, look]
  | cons e t ih =>
    obtain ⟨a, x⟩ := e
    by_cases ha : a = k
    · simp [del, ha, ih]
    · by_cases hk : k < a <;> simp [del, ins, look, ha, hk, ih]

/-- A key that has been set shows its value. -/
@[simp] theorem look_put_same [DecidableEq α] (t : Tab α) (k : Nat) (v d : α) : look (put t k v d) k d = v := by
  unfold put
  split
  · next h => rw [look_del_same, h]
  · exact look_ins_del t k v d

/-- Every other key shows what it showed. -/
theorem look_put_other [DecidableEq α] (t : Tab α) {k j : Nat} (v d d' : α) (h : j ≠ k) : look (put t k v d) j d' = look t j d' := by
  unfold put
  split
  · exact look_del_other t d' h
  · rw [look_ins_other _ _ _ h, look_del_other _ _ h]

@[simp] theorem Tab.at_set_same [DecidableEq α] [Inhabited α] (t : Tab α) (k : Nat) (v : α) : (t.set k v).at k = v := look_put_same t k v default

theorem Tab.at_set_other [DecidableEq α] [Inhabited α] (t : Tab α) {k j : Nat} (v : α) (h : j ≠ k) : (t.set k v).at j = t.at j :=
  look_put_other t v default default h

@[simp] theorem Tab.at_upd_same [DecidableEq α] [Inhabited α] (t : Tab α) (k : Nat) (f : α → α) : (t.upd k f).at k = f (t.at k) :=
  Tab.at_set_same t k _

theorem Tab.at_upd_other [DecidableEq α] [Inhabited α] (t : Tab α) {k j : Nat} (f : α → α) (h : j ≠ k) : (t.upd k f).at j = t.at j :=
  Tab.at_set_other t _ h

/-! ### The canonical form -/

theorem risingFrom_mono {m n : Nat} (h : m ≤ n) : ∀ t : Tab α, risingFrom n t = true → risingFrom m t = true
  | [], _ => rfl
  | (a, _) :: t, hr => by
    simp only [risingFrom, Bool.and_eq_true, decide_eq_true_eq] at hr ⊢
    exact ⟨by omega, hr.2⟩

theorem risingFrom_filter (p : Nat × α → Bool) : ∀ (t : Tab α) (n : Nat), risingFrom n t = true → risingFrom n (t.filter p) = true
  | [], _, _ => rfl
  | (a, v) :: t, n, hr => by
    simp only [risingFrom, Bool.and_eq_true, decide_eq_true_eq] at hr
    have ih := risingFrom_filter p t (a + 1) hr.2
    by_cases hp : p (a, v) = true
    · simp [hp, risingFrom, hr.1, ih]
    · simp only [List.filter_cons, hp]
      exact risingFrom_mono (by omega) _ ih

theorem del_eq_filter (t : Tab α) (k : Nat) : del t k = t.filter fun e => decide (e.1 ≠ k) := by
  induction t with
  | nil => rfl
  | cons e t ih =>
    obtain ⟨a, v⟩ := e
    by_cases h : a = k <;> simp [del, h, ih]

theorem risingFrom_ins (k : Nat) (v : α) : ∀ (t : Tab α) (n : Nat), n ≤ k → risingFrom n t = true → (∀ e ∈ t, e.1 ≠ k) →
    risingFrom n (ins t k v) = true
  | [], n, hk, _, _ => by simp [ins, risingFrom, hk]
  | (a, x) :: t, n, hk, hr, hne => by
    simp only [risingFrom, Bool.and_eq_true, decide_eq_true_eq] at hr
    have ha : a ≠ k := hne (a, x) (by simp)
    by_cases h : k < a
    · simp [ins, h, risingFrom, hk, hr.2, Nat.succ_le_of_lt h]
    · simp only [ins, h, if_false, risingFrom, Bool.and_eq_true, decide_eq_true_eq]
      exact ⟨hr.1, risingFrom_ins k v t (a + 1) (by omega) hr.2 fun e he => hne e (by simp [he])⟩

theorem mem_ins (k : Nat) (v : α) : ∀ (t : Tab α) (e : Nat × α), e ∈ ins t k v → e = (k, v) ∨ e ∈ t
  | [], e, he => by simpa [ins] using he
  | (a, x) :: t, e, he => by
    by_cases h : k < a
    · simpa [ins, h] using he
    · simp only [ins, h, if_false, List.mem_cons] at he ⊢
      rcases he with he | he
      · exact .inr (.inl he)
      · rcases mem_ins k v t e he with h1 | h1
        · exact .inl h1
        · exact .inr (.inr h1)

/-- A part of a canonical store is canonical. -/
theorem canon_filter [DecidableEq α] (p : Nat × α → Bool) {t : Tab α} {d : α} (h : t.canon d = true) : Tab.canon (t.filter p) d = true := by
  simp only [Tab.canon, Bool.and_eq_true, List.all_eq_true] at h ⊢
  exact ⟨risingFrom_filter p t 0 h.1, fun e he => h.2 e (List.mem_of_mem_filter he)⟩

/-- Setting a key keeps the canonical form. -/
theorem canon_put [DecidableEq α] {t : Tab α} {d : α} (k : Nat) (v : α) (h : t.canon d = true) : Tab.canon (put t k v d) d = true := by
  have hd : Tab.canon (del t k) d = true := by
    rw [del_eq_filter]
    exact canon_filter _ h
  unfold put
  split
  · exact hd
  · next hv =>
    simp only [Tab.canon, Bool.and_eq_true, List.all_eq_true, decide_eq_true_eq] at hd ⊢
    refine ⟨risingFrom_ins k v _ 0 (Nat.zero_le _) hd.1 ?_, ?_⟩
    · intro e he
      rw [del_eq_filter] at he
      simpa using (List.mem_filter.mp he).2
    · intro e he
      rcases mem_ins k v _ e he with rfl | h1
      · exact hv
      · exact hd.2 e h1

end Sys2Proof.Machine
end

