-- ==== Sys2Proof/Laws/State.lean ====
section
/-! SUPPORT. What the updates of a lane and of the device write, and that they leave every other field: one lemma for each field and update. -/

namespace Sys2Proof.Machine

/-! ### Registers -/

/-- A register that has been written reads its value. -/
@[simp] theorem Lane.rd_wr_same (L : Lane) (r : Reg) (v : Word) : (L.wr r v).rd r = v := look_put_same _ _ _ _

/-- A write leaves every other register. -/
theorem Lane.rd_wr_other (L : Lane) {r q : Reg} (v : Word) (h : q.addr ≠ r.addr) : (L.wr r v).rd q = L.rd q := look_put_other _ _ _ _ h

/-- A field that has been set reads its value, modulo its width. -/
theorem Lane.fld_setF_same (L : Lane) (r : Reg) (f : Bf) (n : Nat) (h : f.lo + f.wid ≤ 32) : (L.setF r f n).fld r f = n % 2 ^ f.wid := by
  simp only [Lane.fld, Lane.setF, Lane.rd_wr_same, Bf.get_set_same _ _ _ h]

/-- Setting a field leaves the fields of the register that do not overlap it. -/
theorem Lane.fld_setF_field (L : Lane) (r : Reg) {f g : Bf} (n : Nat) (h : f.lo + f.wid ≤ g.lo ∨ g.lo + g.wid ≤ f.lo) :
    (L.setF r f n).fld r g = L.fld r g := by
  simp only [Lane.fld, Lane.setF, Lane.rd_wr_same, Bf.get_set_other _ _ _ _ h]

/-- Setting a field leaves every other register. -/
theorem Lane.rd_setF_other (L : Lane) {r q : Reg} (f : Bf) (n : Nat) (h : q.addr ≠ r.addr) : (L.setF r f n).rd q = L.rd q :=
  L.rd_wr_other _ h

/-- Raising a flag leaves every other register. -/
theorem Lane.rd_raise_other (L : Lane) {r q : Reg} (f : Bf) (h : q.addr ≠ r.addr) : (L.raise r f).rd q = L.rd q := L.rd_wr_other _ h

/-- Counting in a field leaves every other register. -/
theorem Lane.rd_bump_other (L : Lane) {r q : Reg} (f : Bf) (n : Nat) (h : q.addr ≠ r.addr) : (L.bump r f n).rd q = L.rd q := L.rd_wr_other _ h

/-- A flag that has been raised is on. -/
theorem Lane.on_raise_same (L : Lane) (r : Reg) (f : Bf) (h : f.lo + f.wid ≤ 32) (hw : 0 < f.wid) : (L.raise r f).on r f = true := by
  have e : (L.raise r f).rd r = f.set (L.rd r) (2 ^ f.wid - 1) := Lane.rd_wr_same L r _
  have p : 1 < 2 ^ f.wid := Nat.one_lt_two_pow (by omega)
  simp only [Lane.on, Bf.on, e, Bf.get_set_same _ _ _ h, bne_iff_ne]
  rw [Nat.mod_eq_of_lt (by omega)]
  omega

/-- A change of another field of a lane leaves every register. -/
theorem Lane.rd_congr {L M : Lane} (h : M.regs = L.regs) (r : Reg) : M.rd r = L.rd r := by
  simp only [Lane.rd, h]

/-! ### Memory -/

/-- A byte that has been written reads its value. -/
theorem Lane.byte_setByte_same (L : Lane) (a : Nat) (b : Byte) : (L.setByte a b).byte a = b := look_put_same _ _ _ _

/-- A write of one byte leaves every byte at another place. -/
theorem Lane.byte_setByte_other (L : Lane) {a c : Nat} (b : Byte) (h : L.place c ≠ L.place a) : (L.setByte a b).byte c = L.byte c :=
  look_put_other _ _ _ _ h

/-- A change of another field leaves memory and its views. -/
theorem Lane.byte_congr {L M : Lane} (hr : M.regs = L.regs) (hm : M.mem = L.mem) (a : Nat) : M.byte a = L.byte a := by
  have hp : M.place a = L.place a := by
    unfold Lane.place Lane.coefIdx
    rw [Lane.rd_congr hr]
  rw [Lane.byte, Lane.byte, hp, hm]

/-- Writing a byte keeps the canonical form. -/
theorem Lane.canon_setByte {L : Lane} (a : Nat) (b : Byte) (h : Tab.canon L.mem 0#8 = true) : Tab.canon (L.setByte a b).mem 0#8 = true :=
  canon_put _ _ h

/-- Writing a word keeps the canonical form. -/
theorem Lane.canon_setMemW {L : Lane} (a : Nat) (w : Word) (h : Tab.canon L.mem 0#8 = true) : Tab.canon (L.setMemW a w).mem 0#8 = true :=
  Lane.canon_setByte _ _ (Lane.canon_setByte _ _ (Lane.canon_setByte _ _ (Lane.canon_setByte _ _ h)))

/-- A store through the bus or by the engine keeps the canonical form. -/
theorem Lane.canon_storeW {L : Lane} (a : Nat) (w : Word) (h : Tab.canon L.mem 0#8 = true) : Tab.canon (L.storeW a w).mem 0#8 = true :=
  Lane.canon_setMemW a w h

/-- Programming flash keeps the canonical form. -/
theorem Lane.canon_flashBytes (bs : List Byte) : ∀ (L : Lane) (a : Nat), Tab.canon L.flash 0xFF#8 = true →
    Tab.canon (L.flashBytes a bs).flash 0xFF#8 = true := by
  induction bs with
  | nil => exact fun _ _ h => h
  | cons b t ih => exact fun L a h => ih _ _ (canon_put (t := L.flash) a b h)

/-- Bytes programmed from an address on read back, and every other byte of the flash reads as before. -/
theorem Lane.flashByte_flashBytes (bs : List Byte) : ∀ (L : Lane) (a x : Nat),
    (L.flashBytes a bs).flashByte x = if a ≤ x ∧ x < a + bs.length then bs.getD (x - a) 0xFF#8 else L.flashByte x := by
  induction bs with
  | nil => intro L a x; simp [Lane.flashBytes]
  | cons b t ih =>
    intro L a x
    rw [Lane.flashBytes, ih]
    simp only [Lane.flashByte, List.length_cons]
    by_cases h : x = a
    · subst h; simp
    · rw [look_put_other _ _ _ _ h]
      by_cases h' : a ≤ x ∧ x < a + (t.length + 1)
      · rw [if_pos (by omega), if_pos h', show x - a = (x - (a + 1)) + 1 by omega, List.getD_cons_succ]
      · rw [if_neg (by omega), if_neg h']

/-- Erasing a sector keeps the canonical form. -/
theorem Lane.canon_flashErase {L : Lane} (a : Nat) (h : Tab.canon L.flash 0xFF#8 = true) : Tab.canon (L.flashErase a).flash 0xFF#8 = true :=
  canon_filter _ h

/-- Erasing and programming a sector keeps the canonical form. -/
theorem Lane.canon_flashWords {L : Lane} (a : Nat) (ws : List Word) (h : Tab.canon L.flash 0xFF#8 = true) :
    Tab.canon (L.flashWords a ws).flash 0xFF#8 = true :=
  Lane.canon_flashBytes _ _ _ (Lane.canon_flashErase a h)

/-! ### The lanes, the dies and the rest of the device -/

@[simp] theorem State.lane_setLane_same (s : State) (l : LaneId) (L : Lane) : (s.setLane l L).lane l = L := by cases l <;> rfl

theorem State.lane_setLane_other (s : State) {l k : LaneId} (L : Lane) (h : k ≠ l) : (s.setLane l L).lane k = s.lane k := by
  cases l <;> cases k <;> first | rfl | exact absurd rfl h

@[simp] theorem State.die_setLane (s : State) (l : LaneId) (L : Lane) (n : Nat) : (s.setLane l L).die n = s.die n := by cases l <;> rfl

@[simp] theorem State.lane_setDie (s : State) (n : Nat) (d : Die) (l : LaneId) : (s.setDie n d).lane l = s.lane l := by
  unfold State.setDie
  split <;> cases l <;> rfl

theorem State.die_setDie_same (s : State) {n : Nat} (d : Die) (h : n < 4) : (s.setDie n d).die n = d := by
  obtain rfl | rfl | rfl | rfl : n = 0 ∨ n = 1 ∨ n = 2 ∨ n = 3 := by omega
  all_goals rfl

theorem State.die_setDie_other (s : State) {n m : Nat} (d : Die) (hn : n < 4) (hm : m < 4) (h : m ≠ n) : (s.setDie n d).die m = s.die m := by
  obtain rfl | rfl | rfl | rfl : n = 0 ∨ n = 1 ∨ n = 2 ∨ n = 3 := by omega
  all_goals
    obtain rfl | rfl | rfl | rfl : m = 0 ∨ m = 1 ∨ m = 2 ∨ m = 3 := by omega
  all_goals first | rfl | exact absurd rfl h

@[simp] theorem State.bin_setLane (s : State) (l : LaneId) (L : Lane) : (s.setLane l L).bin = s.bin := by cases l <;> rfl
@[simp] theorem State.bin_setDie (s : State) (n : Nat) (d : Die) : (s.setDie n d).bin = s.bin := by unfold State.setDie; split <;> rfl
@[simp] theorem State.bin_onLane (s : State) (l : LaneId) (f : Lane → Lane) : (s.onLane l f).bin = s.bin := State.bin_setLane s l _
@[simp] theorem State.bin_onDie (s : State) (n : Nat) (f : Die → Die) : (s.onDie n f).bin = s.bin := State.bin_setDie s n _
@[simp] theorem State.bin_onLanes (s : State) (f : LaneId → Lane → Lane) : (s.onLanes f).bin = s.bin := rfl
@[simp] theorem State.keep_setLane (s : State) (l : LaneId) (L : Lane) : (s.setLane l L).keep = s.keep := by cases l <;> rfl
@[simp] theorem State.keep_setDie (s : State) (n : Nat) (d : Die) : (s.setDie n d).keep = s.keep := by unfold State.setDie; split <;> rfl
@[simp] theorem State.keep_onLane (s : State) (l : LaneId) (f : Lane → Lane) : (s.onLane l f).keep = s.keep := State.keep_setLane s l _
@[simp] theorem State.keep_onDie (s : State) (n : Nat) (f : Die → Die) : (s.onDie n f).keep = s.keep := State.keep_setDie s n _
@[simp] theorem State.keep_onLanes (s : State) (f : LaneId → Lane → Lane) : (s.onLanes f).keep = s.keep := rfl
@[simp] theorem State.dbgq_setLane (s : State) (l : LaneId) (L : Lane) : (s.setLane l L).dbgq = s.dbgq := by cases l <;> rfl
@[simp] theorem State.dbgq_setDie (s : State) (n : Nat) (d : Die) : (s.setDie n d).dbgq = s.dbgq := by unfold State.setDie; split <;> rfl
@[simp] theorem State.dbgq_onLane (s : State) (l : LaneId) (f : Lane → Lane) : (s.onLane l f).dbgq = s.dbgq := State.dbgq_setLane s l _
@[simp] theorem State.dbgq_onDie (s : State) (n : Nat) (f : Die → Die) : (s.onDie n f).dbgq = s.dbgq := State.dbgq_setDie s n _
@[simp] theorem State.dbgq_onLanes (s : State) (f : LaneId → Lane → Lane) : (s.onLanes f).dbgq = s.dbgq := rfl
@[simp] theorem State.pending_setLane (s : State) (l : LaneId) (L : Lane) : (s.setLane l L).pending = s.pending := by cases l <;> rfl
@[simp] theorem State.pending_setDie (s : State) (n : Nat) (d : Die) : (s.setDie n d).pending = s.pending := by unfold State.setDie; split <;> rfl
@[simp] theorem State.pending_onLane (s : State) (l : LaneId) (f : Lane → Lane) : (s.onLane l f).pending = s.pending := State.pending_setLane s l _
@[simp] theorem State.pending_onDie (s : State) (n : Nat) (f : Die → Die) : (s.onDie n f).pending = s.pending := State.pending_setDie s n _
@[simp] theorem State.pending_onLanes (s : State) (f : LaneId → Lane → Lane) : (s.onLanes f).pending = s.pending := rfl

@[simp] theorem State.lane_onLane_same (s : State) (l : LaneId) (f : Lane → Lane) : (s.onLane l f).lane l = f (s.lane l) := State.lane_setLane_same s l _

theorem State.lane_onLane_other (s : State) {l k : LaneId} (f : Lane → Lane) (h : k ≠ l) : (s.onLane l f).lane k = s.lane k :=
  State.lane_setLane_other s _ h

@[simp] theorem State.lane_onLanes (s : State) (f : LaneId → Lane → Lane) (l : LaneId) : (s.onLanes f).lane l = f l (s.lane l) := by cases l <;> rfl

@[simp] theorem State.die_onLane (s : State) (l : LaneId) (f : Lane → Lane) (n : Nat) : (s.onLane l f).die n = s.die n := State.die_setLane s l _ n

@[simp] theorem State.lane_onDie (s : State) (n : Nat) (f : Die → Die) (l : LaneId) : (s.onDie n f).lane l = s.lane l := State.lane_setDie s n _ l

theorem State.die_onDie_same (s : State) {n : Nat} (f : Die → Die) (h : n < 4) : (s.onDie n f).die n = f (s.die n) := State.die_setDie_same s _ h

theorem State.die_onDie_other (s : State) {n m : Nat} (f : Die → Die) (hn : n < 4) (hm : m < 4) (h : m ≠ n) : (s.onDie n f).die m = s.die m :=
  State.die_setDie_other s _ hn hm h

/-! ### Fields of a lane that an update leaves -/

/-! #### wr -/

@[simp] theorem Lane.me_wr (L : Lane) (r : Reg) (v : Word) : (L.wr r v).me = L.me := rfl
@[simp] theorem Lane.small_wr (L : Lane) (r : Reg) (v : Word) : (L.wr r v).small = L.small := rfl
@[simp] theorem Lane.mem_wr (L : Lane) (r : Reg) (v : Word) : (L.wr r v).mem = L.mem := rfl
@[simp] theorem Lane.pmPar_wr (L : Lane) (r : Reg) (v : Word) : (L.wr r v).pmPar = L.pmPar := rfl
@[simp] theorem Lane.rdata_wr (L : Lane) (r : Reg) (v : Word) : (L.wr r v).rdata = L.rdata := rfl
@[simp] theorem Lane.busErr_wr (L : Lane) (r : Reg) (v : Word) : (L.wr r v).busErr = L.busErr := rfl
@[simp] theorem Lane.busAddr_wr (L : Lane) (r : Reg) (v : Word) : (L.wr r v).busAddr = L.busAddr := rfl
@[simp] theorem Lane.setNow_wr (L : Lane) (r : Reg) (v : Word) : (L.wr r v).setNow = L.setNow := rfl
@[simp] theorem Lane.w1sNow_wr (L : Lane) (r : Reg) (v : Word) : (L.wr r v).w1sNow = L.w1sNow := rfl
@[simp] theorem Lane.irqPrev_wr (L : Lane) (r : Reg) (v : Word) : (L.wr r v).irqPrev = L.irqPrev := rfl
@[simp] theorem Lane.inSvc_wr (L : Lane) (r : Reg) (v : Word) : (L.wr r v).inSvc = L.inSvc := rfl
@[simp] theorem Lane.ticks_wr (L : Lane) (r : Reg) (v : Word) : (L.wr r v).ticks = L.ticks := rfl
@[simp] theorem Lane.free_wr (L : Lane) (r : Reg) (v : Word) : (L.wr r v).free = L.free := rfl
@[simp] theorem Lane.gt_wr (L : Lane) (r : Reg) (v : Word) : (L.wr r v).gt = L.gt := rfl
@[simp] theorem Lane.slewHelm_wr (L : Lane) (r : Reg) (v : Word) : (L.wr r v).slewHelm = L.slewHelm := rfl
@[simp] theorem Lane.slewLane_wr (L : Lane) (r : Reg) (v : Word) : (L.wr r v).slewLane = L.slewLane := rfl
@[simp] theorem Lane.slewWait_wr (L : Lane) (r : Reg) (v : Word) : (L.wr r v).slewWait = L.slewWait := rfl
@[simp] theorem Lane.rkn_wr (L : Lane) (r : Reg) (v : Word) : (L.wr r v).rkn = L.rkn := rfl
@[simp] theorem Lane.rate_wr (L : Lane) (r : Reg) (v : Word) : (L.wr r v).rate = L.rate := rfl
@[simp] theorem Lane.est_wr (L : Lane) (r : Reg) (v : Word) : (L.wr r v).est = L.est := rfl
@[simp] theorem Lane.frac_wr (L : Lane) (r : Reg) (v : Word) : (L.wr r v).frac = L.frac := rfl
@[simp] theorem Lane.wp_wr (L : Lane) (r : Reg) (v : Word) : (L.wr r v).wp = L.wp := rfl
@[simp] theorem Lane.rknClosing_wr (L : Lane) (r : Reg) (v : Word) : (L.wr r v).rknClosing = L.rknClosing := rfl
@[simp] theorem Lane.eng_wr (L : Lane) (r : Reg) (v : Word) : (L.wr r v).eng = L.eng := rfl
@[simp] theorem Lane.ax_wr (L : Lane) (r : Reg) (v : Word) : (L.wr r v).ax = L.ax := rfl
@[simp] theorem Lane.edg_wr (L : Lane) (r : Reg) (v : Word) : (L.wr r v).edg = L.edg := rfl
@[simp] theorem Lane.mc_wr (L : Lane) (r : Reg) (v : Word) : (L.wr r v).mc = L.mc := rfl
@[simp] theorem Lane.posts_wr (L : Lane) (r : Reg) (v : Word) : (L.wr r v).posts = L.posts := rfl
@[simp] theorem Lane.retained_wr (L : Lane) (r : Reg) (v : Word) : (L.wr r v).retained = L.retained := rfl
@[simp] theorem Lane.reqAt_wr (L : Lane) (r : Reg) (v : Word) : (L.wr r v).reqAt = L.reqAt := rfl
@[simp] theorem Lane.goneAt_wr (L : Lane) (r : Reg) (v : Word) : (L.wr r v).goneAt = L.goneAt := rfl
@[simp] theorem Lane.flash_wr (L : Lane) (r : Reg) (v : Word) : (L.wr r v).flash = L.flash := rfl
@[simp] theorem Lane.nvmWait_wr (L : Lane) (r : Reg) (v : Word) : (L.wr r v).nvmWait = L.nvmWait := rfl
@[simp] theorem Lane.meas_wr (L : Lane) (r : Reg) (v : Word) : (L.wr r v).meas = L.meas := rfl
@[simp] theorem Lane.posIf_wr (L : Lane) (r : Reg) (v : Word) : (L.wr r v).posIf = L.posIf := rfl
@[simp] theorem Lane.sent_wr (L : Lane) (r : Reg) (v : Word) : (L.wr r v).sent = L.sent := rfl
@[simp] theorem Lane.trav_wr (L : Lane) (r : Reg) (v : Word) : (L.wr r v).trav = L.trav := rfl
@[simp] theorem Lane.hn_wr (L : Lane) (r : Reg) (v : Word) : (L.wr r v).hn = L.hn := rfl
@[simp] theorem Lane.isb_wr (L : Lane) (r : Reg) (v : Word) : (L.wr r v).isb = L.isb := rfl
@[simp] theorem Lane.svc_wr (L : Lane) (r : Reg) (v : Word) : (L.wr r v).svc = L.svc := rfl
@[simp] theorem Lane.eth_wr (L : Lane) (r : Reg) (v : Word) : (L.wr r v).eth = L.eth := rfl
@[simp] theorem Lane.safe_wr (L : Lane) (r : Reg) (v : Word) : (L.wr r v).safe = L.safe := rfl
@[simp] theorem Lane.ck_wr (L : Lane) (r : Reg) (v : Word) : (L.wr r v).ck = L.ck := rfl
@[simp] theorem Lane.dg_wr (L : Lane) (r : Reg) (v : Word) : (L.wr r v).dg = L.dg := rfl
@[simp] theorem Lane.pw_wr (L : Lane) (r : Reg) (v : Word) : (L.wr r v).pw = L.pw := rfl
@[simp] theorem Lane.snd_wr (L : Lane) (r : Reg) (v : Word) : (L.wr r v).snd = L.snd := rfl
@[simp] theorem Lane.outP_wr (L : Lane) (r : Reg) (v : Word) : (L.wr r v).outP = L.outP := rfl
@[simp] theorem Lane.outR_wr (L : Lane) (r : Reg) (v : Word) : (L.wr r v).outR = L.outR := rfl

/-! #### setF -/

@[simp] theorem Lane.me_setF (L : Lane) (r : Reg) (f : Bf) (n : Nat) : (L.setF r f n).me = L.me := rfl
@[simp] theorem Lane.small_setF (L : Lane) (r : Reg) (f : Bf) (n : Nat) : (L.setF r f n).small = L.small := rfl
@[simp] theorem Lane.mem_setF (L : Lane) (r : Reg) (f : Bf) (n : Nat) : (L.setF r f n).mem = L.mem := rfl
@[simp] theorem Lane.pmPar_setF (L : Lane) (r : Reg) (f : Bf) (n : Nat) : (L.setF r f n).pmPar = L.pmPar := rfl
@[simp] theorem Lane.rdata_setF (L : Lane) (r : Reg) (f : Bf) (n : Nat) : (L.setF r f n).rdata = L.rdata := rfl
@[simp] theorem Lane.busErr_setF (L : Lane) (r : Reg) (f : Bf) (n : Nat) : (L.setF r f n).busErr = L.busErr := rfl
@[simp] theorem Lane.busAddr_setF (L : Lane) (r : Reg) (f : Bf) (n : Nat) : (L.setF r f n).busAddr = L.busAddr := rfl
@[simp] theorem Lane.setNow_setF (L : Lane) (r : Reg) (f : Bf) (n : Nat) : (L.setF r f n).setNow = L.setNow := rfl
@[simp] theorem Lane.w1sNow_setF (L : Lane) (r : Reg) (f : Bf) (n : Nat) : (L.setF r f n).w1sNow = L.w1sNow := rfl
@[simp] theorem Lane.irqPrev_setF (L : Lane) (r : Reg) (f : Bf) (n : Nat) : (L.setF r f n).irqPrev = L.irqPrev := rfl
@[simp] theorem Lane.inSvc_setF (L : Lane) (r : Reg) (f : Bf) (n : Nat) : (L.setF r f n).inSvc = L.inSvc := rfl
@[simp] theorem Lane.ticks_setF (L : Lane) (r : Reg) (f : Bf) (n : Nat) : (L.setF r f n).ticks = L.ticks := rfl
@[simp] theorem Lane.free_setF (L : Lane) (r : Reg) (f : Bf) (n : Nat) : (L.setF r f n).free = L.free := rfl
@[simp] theorem Lane.gt_setF (L : Lane) (r : Reg) (f : Bf) (n : Nat) : (L.setF r f n).gt = L.gt := rfl
@[simp] theorem Lane.slewHelm_setF (L : Lane) (r : Reg) (f : Bf) (n : Nat) : (L.setF r f n).slewHelm = L.slewHelm := rfl
@[simp] theorem Lane.slewLane_setF (L : Lane) (r : Reg) (f : Bf) (n : Nat) : (L.setF r f n).slewLane = L.slewLane := rfl
@[simp] theorem Lane.slewWait_setF (L : Lane) (r : Reg) (f : Bf) (n : Nat) : (L.setF r f n).slewWait = L.slewWait := rfl
@[simp] theorem Lane.rkn_setF (L : Lane) (r : Reg) (f : Bf) (n : Nat) : (L.setF r f n).rkn = L.rkn := rfl
@[simp] theorem Lane.rate_setF (L : Lane) (r : Reg) (f : Bf) (n : Nat) : (L.setF r f n).rate = L.rate := rfl
@[simp] theorem Lane.est_setF (L : Lane) (r : Reg) (f : Bf) (n : Nat) : (L.setF r f n).est = L.est := rfl
@[simp] theorem Lane.frac_setF (L : Lane) (r : Reg) (f : Bf) (n : Nat) : (L.setF r f n).frac = L.frac := rfl
@[simp] theorem Lane.wp_setF (L : Lane) (r : Reg) (f : Bf) (n : Nat) : (L.setF r f n).wp = L.wp := rfl
@[simp] theorem Lane.rknClosing_setF (L : Lane) (r : Reg) (f : Bf) (n : Nat) : (L.setF r f n).rknClosing = L.rknClosing := rfl
@[simp] theorem Lane.eng_setF (L : Lane) (r : Reg) (f : Bf) (n : Nat) : (L.setF r f n).eng = L.eng := rfl
@[simp] theorem Lane.ax_setF (L : Lane) (r : Reg) (f : Bf) (n : Nat) : (L.setF r f n).ax = L.ax := rfl
@[simp] theorem Lane.edg_setF (L : Lane) (r : Reg) (f : Bf) (n : Nat) : (L.setF r f n).edg = L.edg := rfl
@[simp] theorem Lane.mc_setF (L : Lane) (r : Reg) (f : Bf) (n : Nat) : (L.setF r f n).mc = L.mc := rfl
@[simp] theorem Lane.posts_setF (L : Lane) (r : Reg) (f : Bf) (n : Nat) : (L.setF r f n).posts = L.posts := rfl
@[simp] theorem Lane.retained_setF (L : Lane) (r : Reg) (f : Bf) (n : Nat) : (L.setF r f n).retained = L.retained := rfl
@[simp] theorem Lane.reqAt_setF (L : Lane) (r : Reg) (f : Bf) (n : Nat) : (L.setF r f n).reqAt = L.reqAt := rfl
@[simp] theorem Lane.goneAt_setF (L : Lane) (r : Reg) (f : Bf) (n : Nat) : (L.setF r f n).goneAt = L.goneAt := rfl
@[simp] theorem Lane.flash_setF (L : Lane) (r : Reg) (f : Bf) (n : Nat) : (L.setF r f n).flash = L.flash := rfl
@[simp] theorem Lane.nvmWait_setF (L : Lane) (r : Reg) (f : Bf) (n : Nat) : (L.setF r f n).nvmWait = L.nvmWait := rfl
@[simp] theorem Lane.meas_setF (L : Lane) (r : Reg) (f : Bf) (n : Nat) : (L.setF r f n).meas = L.meas := rfl
@[simp] theorem Lane.posIf_setF (L : Lane) (r : Reg) (f : Bf) (n : Nat) : (L.setF r f n).posIf = L.posIf := rfl
@[simp] theorem Lane.sent_setF (L : Lane) (r : Reg) (f : Bf) (n : Nat) : (L.setF r f n).sent = L.sent := rfl
@[simp] theorem Lane.trav_setF (L : Lane) (r : Reg) (f : Bf) (n : Nat) : (L.setF r f n).trav = L.trav := rfl
@[simp] theorem Lane.hn_setF (L : Lane) (r : Reg) (f : Bf) (n : Nat) : (L.setF r f n).hn = L.hn := rfl
@[simp] theorem Lane.isb_setF (L : Lane) (r : Reg) (f : Bf) (n : Nat) : (L.setF r f n).isb = L.isb := rfl
@[simp] theorem Lane.svc_setF (L : Lane) (r : Reg) (f : Bf) (n : Nat) : (L.setF r f n).svc = L.svc := rfl
@[simp] theorem Lane.eth_setF (L : Lane) (r : Reg) (f : Bf) (n : Nat) : (L.setF r f n).eth = L.eth := rfl
@[simp] theorem Lane.safe_setF (L : Lane) (r : Reg) (f : Bf) (n : Nat) : (L.setF r f n).safe = L.safe := rfl
@[simp] theorem Lane.ck_setF (L : Lane) (r : Reg) (f : Bf) (n : Nat) : (L.setF r f n).ck = L.ck := rfl
@[simp] theorem Lane.dg_setF (L : Lane) (r : Reg) (f : Bf) (n : Nat) : (L.setF r f n).dg = L.dg := rfl
@[simp] theorem Lane.pw_setF (L : Lane) (r : Reg) (f : Bf) (n : Nat) : (L.setF r f n).pw = L.pw := rfl
@[simp] theorem Lane.snd_setF (L : Lane) (r : Reg) (f : Bf) (n : Nat) : (L.setF r f n).snd = L.snd := rfl
@[simp] theorem Lane.outP_setF (L : Lane) (r : Reg) (f : Bf) (n : Nat) : (L.setF r f n).outP = L.outP := rfl
@[simp] theorem Lane.outR_setF (L : Lane) (r : Reg) (f : Bf) (n : Nat) : (L.setF r f n).outR = L.outR := rfl

/-! #### raise -/

@[simp] theorem Lane.me_raise (L : Lane) (r : Reg) (f : Bf) : (L.raise r f).me = L.me := rfl
@[simp] theorem Lane.small_raise (L : Lane) (r : Reg) (f : Bf) : (L.raise r f).small = L.small := rfl
@[simp] theorem Lane.mem_raise (L : Lane) (r : Reg) (f : Bf) : (L.raise r f).mem = L.mem := rfl
@[simp] theorem Lane.pmPar_raise (L : Lane) (r : Reg) (f : Bf) : (L.raise r f).pmPar = L.pmPar := rfl
@[simp] theorem Lane.rdata_raise (L : Lane) (r : Reg) (f : Bf) : (L.raise r f).rdata = L.rdata := rfl
@[simp] theorem Lane.busErr_raise (L : Lane) (r : Reg) (f : Bf) : (L.raise r f).busErr = L.busErr := rfl
@[simp] theorem Lane.busAddr_raise (L : Lane) (r : Reg) (f : Bf) : (L.raise r f).busAddr = L.busAddr := rfl
@[simp] theorem Lane.w1sNow_raise (L : Lane) (r : Reg) (f : Bf) : (L.raise r f).w1sNow = L.w1sNow := rfl
@[simp] theorem Lane.irqPrev_raise (L : Lane) (r : Reg) (f : Bf) : (L.raise r f).irqPrev = L.irqPrev := rfl
@[simp] theorem Lane.inSvc_raise (L : Lane) (r : Reg) (f : Bf) : (L.raise r f).inSvc = L.inSvc := rfl
@[simp] theorem Lane.ticks_raise (L : Lane) (r : Reg) (f : Bf) : (L.raise r f).ticks = L.ticks := rfl
@[simp] theorem Lane.free_raise (L : Lane) (r : Reg) (f : Bf) : (L.raise r f).free = L.free := rfl
@[simp] theorem Lane.gt_raise (L : Lane) (r : Reg) (f : Bf) : (L.raise r f).gt = L.gt := rfl
@[simp] theorem Lane.slewHelm_raise (L : Lane) (r : Reg) (f : Bf) : (L.raise r f).slewHelm = L.slewHelm := rfl
@[simp] theorem Lane.slewLane_raise (L : Lane) (r : Reg) (f : Bf) : (L.raise r f).slewLane = L.slewLane := rfl
@[simp] theorem Lane.slewWait_raise (L : Lane) (r : Reg) (f : Bf) : (L.raise r f).slewWait = L.slewWait := rfl
@[simp] theorem Lane.rkn_raise (L : Lane) (r : Reg) (f : Bf) : (L.raise r f).rkn = L.rkn := rfl
@[simp] theorem Lane.rate_raise (L : Lane) (r : Reg) (f : Bf) : (L.raise r f).rate = L.rate := rfl
@[simp] theorem Lane.est_raise (L : Lane) (r : Reg) (f : Bf) : (L.raise r f).est = L.est := rfl
@[simp] theorem Lane.frac_raise (L : Lane) (r : Reg) (f : Bf) : (L.raise r f).frac = L.frac := rfl
@[simp] theorem Lane.wp_raise (L : Lane) (r : Reg) (f : Bf) : (L.raise r f).wp = L.wp := rfl
@[simp] theorem Lane.rknClosing_raise (L : Lane) (r : Reg) (f : Bf) : (L.raise r f).rknClosing = L.rknClosing := rfl
@[simp] theorem Lane.eng_raise (L : Lane) (r : Reg) (f : Bf) : (L.raise r f).eng = L.eng := rfl
@[simp] theorem Lane.ax_raise (L : Lane) (r : Reg) (f : Bf) : (L.raise r f).ax = L.ax := rfl
@[simp] theorem Lane.edg_raise (L : Lane) (r : Reg) (f : Bf) : (L.raise r f).edg = L.edg := rfl
@[simp] theorem Lane.mc_raise (L : Lane) (r : Reg) (f : Bf) : (L.raise r f).mc = L.mc := rfl
@[simp] theorem Lane.posts_raise (L : Lane) (r : Reg) (f : Bf) : (L.raise r f).posts = L.posts := rfl
@[simp] theorem Lane.retained_raise (L : Lane) (r : Reg) (f : Bf) : (L.raise r f).retained = L.retained := rfl
@[simp] theorem Lane.reqAt_raise (L : Lane) (r : Reg) (f : Bf) : (L.raise r f).reqAt = L.reqAt := rfl
@[simp] theorem Lane.goneAt_raise (L : Lane) (r : Reg) (f : Bf) : (L.raise r f).goneAt = L.goneAt := rfl
@[simp] theorem Lane.flash_raise (L : Lane) (r : Reg) (f : Bf) : (L.raise r f).flash = L.flash := rfl
@[simp] theorem Lane.nvmWait_raise (L : Lane) (r : Reg) (f : Bf) : (L.raise r f).nvmWait = L.nvmWait := rfl
@[simp] theorem Lane.meas_raise (L : Lane) (r : Reg) (f : Bf) : (L.raise r f).meas = L.meas := rfl
@[simp] theorem Lane.posIf_raise (L : Lane) (r : Reg) (f : Bf) : (L.raise r f).posIf = L.posIf := rfl
@[simp] theorem Lane.sent_raise (L : Lane) (r : Reg) (f : Bf) : (L.raise r f).sent = L.sent := rfl
@[simp] theorem Lane.trav_raise (L : Lane) (r : Reg) (f : Bf) : (L.raise r f).trav = L.trav := rfl
@[simp] theorem Lane.hn_raise (L : Lane) (r : Reg) (f : Bf) : (L.raise r f).hn = L.hn := rfl
@[simp] theorem Lane.isb_raise (L : Lane) (r : Reg) (f : Bf) : (L.raise r f).isb = L.isb := rfl
@[simp] theorem Lane.svc_raise (L : Lane) (r : Reg) (f : Bf) : (L.raise r f).svc = L.svc := rfl
@[simp] theorem Lane.eth_raise (L : Lane) (r : Reg) (f : Bf) : (L.raise r f).eth = L.eth := rfl
@[simp] theorem Lane.safe_raise (L : Lane) (r : Reg) (f : Bf) : (L.raise r f).safe = L.safe := rfl
@[simp] theorem Lane.ck_raise (L : Lane) (r : Reg) (f : Bf) : (L.raise r f).ck = L.ck := rfl
@[simp] theorem Lane.dg_raise (L : Lane) (r : Reg) (f : Bf) : (L.raise r f).dg = L.dg := rfl
@[simp] theorem Lane.pw_raise (L : Lane) (r : Reg) (f : Bf) : (L.raise r f).pw = L.pw := rfl
@[simp] theorem Lane.snd_raise (L : Lane) (r : Reg) (f : Bf) : (L.raise r f).snd = L.snd := rfl
@[simp] theorem Lane.outP_raise (L : Lane) (r : Reg) (f : Bf) : (L.raise r f).outP = L.outP := rfl
@[simp] theorem Lane.outR_raise (L : Lane) (r : Reg) (f : Bf) : (L.raise r f).outR = L.outR := rfl

/-! #### raiseBit -/

@[simp] theorem Lane.me_raiseBit (L : Lane) (r : Reg) (i : Nat) : (L.raiseBit r i).me = L.me := rfl
@[simp] theorem Lane.small_raiseBit (L : Lane) (r : Reg) (i : Nat) : (L.raiseBit r i).small = L.small := rfl
@[simp] theorem Lane.mem_raiseBit (L : Lane) (r : Reg) (i : Nat) : (L.raiseBit r i).mem = L.mem := rfl
@[simp] theorem Lane.pmPar_raiseBit (L : Lane) (r : Reg) (i : Nat) : (L.raiseBit r i).pmPar = L.pmPar := rfl
@[simp] theorem Lane.rdata_raiseBit (L : Lane) (r : Reg) (i : Nat) : (L.raiseBit r i).rdata = L.rdata := rfl
@[simp] theorem Lane.busErr_raiseBit (L : Lane) (r : Reg) (i : Nat) : (L.raiseBit r i).busErr = L.busErr := rfl
@[simp] theorem Lane.busAddr_raiseBit (L : Lane) (r : Reg) (i : Nat) : (L.raiseBit r i).busAddr = L.busAddr := rfl
@[simp] theorem Lane.w1sNow_raiseBit (L : Lane) (r : Reg) (i : Nat) : (L.raiseBit r i).w1sNow = L.w1sNow := rfl
@[simp] theorem Lane.irqPrev_raiseBit (L : Lane) (r : Reg) (i : Nat) : (L.raiseBit r i).irqPrev = L.irqPrev := rfl
@[simp] theorem Lane.inSvc_raiseBit (L : Lane) (r : Reg) (i : Nat) : (L.raiseBit r i).inSvc = L.inSvc := rfl
@[simp] theorem Lane.ticks_raiseBit (L : Lane) (r : Reg) (i : Nat) : (L.raiseBit r i).ticks = L.ticks := rfl
@[simp] theorem Lane.free_raiseBit (L : Lane) (r : Reg) (i : Nat) : (L.raiseBit r i).free = L.free := rfl
@[simp] theorem Lane.gt_raiseBit (L : Lane) (r : Reg) (i : Nat) : (L.raiseBit r i).gt = L.gt := rfl
@[simp] theorem Lane.slewHelm_raiseBit (L : Lane) (r : Reg) (i : Nat) : (L.raiseBit r i).slewHelm = L.slewHelm := rfl
@[simp] theorem Lane.slewLane_raiseBit (L : Lane) (r : Reg) (i : Nat) : (L.raiseBit r i).slewLane = L.slewLane := rfl
@[simp] theorem Lane.slewWait_raiseBit (L : Lane) (r : Reg) (i : Nat) : (L.raiseBit r i).slewWait = L.slewWait := rfl
@[simp] theorem Lane.rkn_raiseBit (L : Lane) (r : Reg) (i : Nat) : (L.raiseBit r i).rkn = L.rkn := rfl
@[simp] theorem Lane.rate_raiseBit (L : Lane) (r : Reg) (i : Nat) : (L.raiseBit r i).rate = L.rate := rfl
@[simp] theorem Lane.est_raiseBit (L : Lane) (r : Reg) (i : Nat) : (L.raiseBit r i).est = L.est := rfl
@[simp] theorem Lane.frac_raiseBit (L : Lane) (r : Reg) (i : Nat) : (L.raiseBit r i).frac = L.frac := rfl
@[simp] theorem Lane.wp_raiseBit (L : Lane) (r : Reg) (i : Nat) : (L.raiseBit r i).wp = L.wp := rfl
@[simp] theorem Lane.rknClosing_raiseBit (L : Lane) (r : Reg) (i : Nat) : (L.raiseBit r i).rknClosing = L.rknClosing := rfl
@[simp] theorem Lane.eng_raiseBit (L : Lane) (r : Reg) (i : Nat) : (L.raiseBit r i).eng = L.eng := rfl
@[simp] theorem Lane.ax_raiseBit (L : Lane) (r : Reg) (i : Nat) : (L.raiseBit r i).ax = L.ax := rfl
@[simp] theorem Lane.edg_raiseBit (L : Lane) (r : Reg) (i : Nat) : (L.raiseBit r i).edg = L.edg := rfl
@[simp] theorem Lane.mc_raiseBit (L : Lane) (r : Reg) (i : Nat) : (L.raiseBit r i).mc = L.mc := rfl
@[simp] theorem Lane.posts_raiseBit (L : Lane) (r : Reg) (i : Nat) : (L.raiseBit r i).posts = L.posts := rfl
@[simp] theorem Lane.retained_raiseBit (L : Lane) (r : Reg) (i : Nat) : (L.raiseBit r i).retained = L.retained := rfl
@[simp] theorem Lane.reqAt_raiseBit (L : Lane) (r : Reg) (i : Nat) : (L.raiseBit r i).reqAt = L.reqAt := rfl
@[simp] theorem Lane.goneAt_raiseBit (L : Lane) (r : Reg) (i : Nat) : (L.raiseBit r i).goneAt = L.goneAt := rfl
@[simp] theorem Lane.flash_raiseBit (L : Lane) (r : Reg) (i : Nat) : (L.raiseBit r i).flash = L.flash := rfl
@[simp] theorem Lane.nvmWait_raiseBit (L : Lane) (r : Reg) (i : Nat) : (L.raiseBit r i).nvmWait = L.nvmWait := rfl
@[simp] theorem Lane.meas_raiseBit (L : Lane) (r : Reg) (i : Nat) : (L.raiseBit r i).meas = L.meas := rfl
@[simp] theorem Lane.posIf_raiseBit (L : Lane) (r : Reg) (i : Nat) : (L.raiseBit r i).posIf = L.posIf := rfl
@[simp] theorem Lane.sent_raiseBit (L : Lane) (r : Reg) (i : Nat) : (L.raiseBit r i).sent = L.sent := rfl
@[simp] theorem Lane.trav_raiseBit (L : Lane) (r : Reg) (i : Nat) : (L.raiseBit r i).trav = L.trav := rfl
@[simp] theorem Lane.hn_raiseBit (L : Lane) (r : Reg) (i : Nat) : (L.raiseBit r i).hn = L.hn := rfl
@[simp] theorem Lane.isb_raiseBit (L : Lane) (r : Reg) (i : Nat) : (L.raiseBit r i).isb = L.isb := rfl
@[simp] theorem Lane.svc_raiseBit (L : Lane) (r : Reg) (i : Nat) : (L.raiseBit r i).svc = L.svc := rfl
@[simp] theorem Lane.eth_raiseBit (L : Lane) (r : Reg) (i : Nat) : (L.raiseBit r i).eth = L.eth := rfl
@[simp] theorem Lane.safe_raiseBit (L : Lane) (r : Reg) (i : Nat) : (L.raiseBit r i).safe = L.safe := rfl
@[simp] theorem Lane.ck_raiseBit (L : Lane) (r : Reg) (i : Nat) : (L.raiseBit r i).ck = L.ck := rfl
@[simp] theorem Lane.dg_raiseBit (L : Lane) (r : Reg) (i : Nat) : (L.raiseBit r i).dg = L.dg := rfl
@[simp] theorem Lane.pw_raiseBit (L : Lane) (r : Reg) (i : Nat) : (L.raiseBit r i).pw = L.pw := rfl
@[simp] theorem Lane.snd_raiseBit (L : Lane) (r : Reg) (i : Nat) : (L.raiseBit r i).snd = L.snd := rfl
@[simp] theorem Lane.outP_raiseBit (L : Lane) (r : Reg) (i : Nat) : (L.raiseBit r i).outP = L.outP := rfl
@[simp] theorem Lane.outR_raiseBit (L : Lane) (r : Reg) (i : Nat) : (L.raiseBit r i).outR = L.outR := rfl

/-! #### bump -/

@[simp] theorem Lane.me_bump (L : Lane) (r : Reg) (f : Bf) (n : Nat) : (L.bump r f n).me = L.me := rfl
@[simp] theorem Lane.small_bump (L : Lane) (r : Reg) (f : Bf) (n : Nat) : (L.bump r f n).small = L.small := rfl
@[simp] theorem Lane.mem_bump (L : Lane) (r : Reg) (f : Bf) (n : Nat) : (L.bump r f n).mem = L.mem := rfl
@[simp] theorem Lane.pmPar_bump (L : Lane) (r : Reg) (f : Bf) (n : Nat) : (L.bump r f n).pmPar = L.pmPar := rfl
@[simp] theorem Lane.rdata_bump (L : Lane) (r : Reg) (f : Bf) (n : Nat) : (L.bump r f n).rdata = L.rdata := rfl
@[simp] theorem Lane.busErr_bump (L : Lane) (r : Reg) (f : Bf) (n : Nat) : (L.bump r f n).busErr = L.busErr := rfl
@[simp] theorem Lane.busAddr_bump (L : Lane) (r : Reg) (f : Bf) (n : Nat) : (L.bump r f n).busAddr = L.busAddr := rfl
@[simp] theorem Lane.setNow_bump (L : Lane) (r : Reg) (f : Bf) (n : Nat) : (L.bump r f n).setNow = L.setNow := rfl
@[simp] theorem Lane.w1sNow_bump (L : Lane) (r : Reg) (f : Bf) (n : Nat) : (L.bump r f n).w1sNow = L.w1sNow := rfl
@[simp] theorem Lane.irqPrev_bump (L : Lane) (r : Reg) (f : Bf) (n : Nat) : (L.bump r f n).irqPrev = L.irqPrev := rfl
@[simp] theorem Lane.inSvc_bump (L : Lane) (r : Reg) (f : Bf) (n : Nat) : (L.bump r f n).inSvc = L.inSvc := rfl
@[simp] theorem Lane.ticks_bump (L : Lane) (r : Reg) (f : Bf) (n : Nat) : (L.bump r f n).ticks = L.ticks := rfl
@[simp] theorem Lane.free_bump (L : Lane) (r : Reg) (f : Bf) (n : Nat) : (L.bump r f n).free = L.free := rfl
@[simp] theorem Lane.gt_bump (L : Lane) (r : Reg) (f : Bf) (n : Nat) : (L.bump r f n).gt = L.gt := rfl
@[simp] theorem Lane.slewHelm_bump (L : Lane) (r : Reg) (f : Bf) (n : Nat) : (L.bump r f n).slewHelm = L.slewHelm := rfl
@[simp] theorem Lane.slewLane_bump (L : Lane) (r : Reg) (f : Bf) (n : Nat) : (L.bump r f n).slewLane = L.slewLane := rfl
@[simp] theorem Lane.slewWait_bump (L : Lane) (r : Reg) (f : Bf) (n : Nat) : (L.bump r f n).slewWait = L.slewWait := rfl
@[simp] theorem Lane.rkn_bump (L : Lane) (r : Reg) (f : Bf) (n : Nat) : (L.bump r f n).rkn = L.rkn := rfl
@[simp] theorem Lane.rate_bump (L : Lane) (r : Reg) (f : Bf) (n : Nat) : (L.bump r f n).rate = L.rate := rfl
@[simp] theorem Lane.est_bump (L : Lane) (r : Reg) (f : Bf) (n : Nat) : (L.bump r f n).est = L.est := rfl
@[simp] theorem Lane.frac_bump (L : Lane) (r : Reg) (f : Bf) (n : Nat) : (L.bump r f n).frac = L.frac := rfl
@[simp] theorem Lane.wp_bump (L : Lane) (r : Reg) (f : Bf) (n : Nat) : (L.bump r f n).wp = L.wp := rfl
@[simp] theorem Lane.rknClosing_bump (L : Lane) (r : Reg) (f : Bf) (n : Nat) : (L.bump r f n).rknClosing = L.rknClosing := rfl
@[simp] theorem Lane.eng_bump (L : Lane) (r : Reg) (f : Bf) (n : Nat) : (L.bump r f n).eng = L.eng := rfl
@[simp] theorem Lane.ax_bump (L : Lane) (r : Reg) (f : Bf) (n : Nat) : (L.bump r f n).ax = L.ax := rfl
@[simp] theorem Lane.edg_bump (L : Lane) (r : Reg) (f : Bf) (n : Nat) : (L.bump r f n).edg = L.edg := rfl
@[simp] theorem Lane.mc_bump (L : Lane) (r : Reg) (f : Bf) (n : Nat) : (L.bump r f n).mc = L.mc := rfl
@[simp] theorem Lane.posts_bump (L : Lane) (r : Reg) (f : Bf) (n : Nat) : (L.bump r f n).posts = L.posts := rfl
@[simp] theorem Lane.retained_bump (L : Lane) (r : Reg) (f : Bf) (n : Nat) : (L.bump r f n).retained = L.retained := rfl
@[simp] theorem Lane.reqAt_bump (L : Lane) (r : Reg) (f : Bf) (n : Nat) : (L.bump r f n).reqAt = L.reqAt := rfl
@[simp] theorem Lane.goneAt_bump (L : Lane) (r : Reg) (f : Bf) (n : Nat) : (L.bump r f n).goneAt = L.goneAt := rfl
@[simp] theorem Lane.flash_bump (L : Lane) (r : Reg) (f : Bf) (n : Nat) : (L.bump r f n).flash = L.flash := rfl
@[simp] theorem Lane.nvmWait_bump (L : Lane) (r : Reg) (f : Bf) (n : Nat) : (L.bump r f n).nvmWait = L.nvmWait := rfl
@[simp] theorem Lane.meas_bump (L : Lane) (r : Reg) (f : Bf) (n : Nat) : (L.bump r f n).meas = L.meas := rfl
@[simp] theorem Lane.posIf_bump (L : Lane) (r : Reg) (f : Bf) (n : Nat) : (L.bump r f n).posIf = L.posIf := rfl
@[simp] theorem Lane.sent_bump (L : Lane) (r : Reg) (f : Bf) (n : Nat) : (L.bump r f n).sent = L.sent := rfl
@[simp] theorem Lane.trav_bump (L : Lane) (r : Reg) (f : Bf) (n : Nat) : (L.bump r f n).trav = L.trav := rfl
@[simp] theorem Lane.hn_bump (L : Lane) (r : Reg) (f : Bf) (n : Nat) : (L.bump r f n).hn = L.hn := rfl
@[simp] theorem Lane.isb_bump (L : Lane) (r : Reg) (f : Bf) (n : Nat) : (L.bump r f n).isb = L.isb := rfl
@[simp] theorem Lane.svc_bump (L : Lane) (r : Reg) (f : Bf) (n : Nat) : (L.bump r f n).svc = L.svc := rfl
@[simp] theorem Lane.eth_bump (L : Lane) (r : Reg) (f : Bf) (n : Nat) : (L.bump r f n).eth = L.eth := rfl
@[simp] theorem Lane.safe_bump (L : Lane) (r : Reg) (f : Bf) (n : Nat) : (L.bump r f n).safe = L.safe := rfl
@[simp] theorem Lane.ck_bump (L : Lane) (r : Reg) (f : Bf) (n : Nat) : (L.bump r f n).ck = L.ck := rfl
@[simp] theorem Lane.dg_bump (L : Lane) (r : Reg) (f : Bf) (n : Nat) : (L.bump r f n).dg = L.dg := rfl
@[simp] theorem Lane.pw_bump (L : Lane) (r : Reg) (f : Bf) (n : Nat) : (L.bump r f n).pw = L.pw := rfl
@[simp] theorem Lane.snd_bump (L : Lane) (r : Reg) (f : Bf) (n : Nat) : (L.bump r f n).snd = L.snd := rfl
@[simp] theorem Lane.outP_bump (L : Lane) (r : Reg) (f : Bf) (n : Nat) : (L.bump r f n).outP = L.outP := rfl
@[simp] theorem Lane.outR_bump (L : Lane) (r : Reg) (f : Bf) (n : Nat) : (L.bump r f n).outR = L.outR := rfl

/-! #### raiseMask -/

@[simp] theorem Lane.me_raiseMask (L : Lane) (r : Reg) (m : Nat) : (L.raiseMask r m).me = L.me := rfl
@[simp] theorem Lane.small_raiseMask (L : Lane) (r : Reg) (m : Nat) : (L.raiseMask r m).small = L.small := rfl
@[simp] theorem Lane.mem_raiseMask (L : Lane) (r : Reg) (m : Nat) : (L.raiseMask r m).mem = L.mem := rfl
@[simp] theorem Lane.pmPar_raiseMask (L : Lane) (r : Reg) (m : Nat) : (L.raiseMask r m).pmPar = L.pmPar := rfl
@[simp] theorem Lane.rdata_raiseMask (L : Lane) (r : Reg) (m : Nat) : (L.raiseMask r m).rdata = L.rdata := rfl
@[simp] theorem Lane.busErr_raiseMask (L : Lane) (r : Reg) (m : Nat) : (L.raiseMask r m).busErr = L.busErr := rfl
@[simp] theorem Lane.busAddr_raiseMask (L : Lane) (r : Reg) (m : Nat) : (L.raiseMask r m).busAddr = L.busAddr := rfl
@[simp] theorem Lane.w1sNow_raiseMask (L : Lane) (r : Reg) (m : Nat) : (L.raiseMask r m).w1sNow = L.w1sNow := rfl
@[simp] theorem Lane.irqPrev_raiseMask (L : Lane) (r : Reg) (m : Nat) : (L.raiseMask r m).irqPrev = L.irqPrev := rfl
@[simp] theorem Lane.inSvc_raiseMask (L : Lane) (r : Reg) (m : Nat) : (L.raiseMask r m).inSvc = L.inSvc := rfl
@[simp] theorem Lane.ticks_raiseMask (L : Lane) (r : Reg) (m : Nat) : (L.raiseMask r m).ticks = L.ticks := rfl
@[simp] theorem Lane.free_raiseMask (L : Lane) (r : Reg) (m : Nat) : (L.raiseMask r m).free = L.free := rfl
@[simp] theorem Lane.gt_raiseMask (L : Lane) (r : Reg) (m : Nat) : (L.raiseMask r m).gt = L.gt := rfl
@[simp] theorem Lane.slewHelm_raiseMask (L : Lane) (r : Reg) (m : Nat) : (L.raiseMask r m).slewHelm = L.slewHelm := rfl
@[simp] theorem Lane.slewLane_raiseMask (L : Lane) (r : Reg) (m : Nat) : (L.raiseMask r m).slewLane = L.slewLane := rfl
@[simp] theorem Lane.slewWait_raiseMask (L : Lane) (r : Reg) (m : Nat) : (L.raiseMask r m).slewWait = L.slewWait := rfl
@[simp] theorem Lane.rkn_raiseMask (L : Lane) (r : Reg) (m : Nat) : (L.raiseMask r m).rkn = L.rkn := rfl
@[simp] theorem Lane.rate_raiseMask (L : Lane) (r : Reg) (m : Nat) : (L.raiseMask r m).rate = L.rate := rfl
@[simp] theorem Lane.est_raiseMask (L : Lane) (r : Reg) (m : Nat) : (L.raiseMask r m).est = L.est := rfl
@[simp] theorem Lane.frac_raiseMask (L : Lane) (r : Reg) (m : Nat) : (L.raiseMask r m).frac = L.frac := rfl
@[simp] theorem Lane.wp_raiseMask (L : Lane) (r : Reg) (m : Nat) : (L.raiseMask r m).wp = L.wp := rfl
@[simp] theorem Lane.rknClosing_raiseMask (L : Lane) (r : Reg) (m : Nat) : (L.raiseMask r m).rknClosing = L.rknClosing := rfl
@[simp] theorem Lane.eng_raiseMask (L : Lane) (r : Reg) (m : Nat) : (L.raiseMask r m).eng = L.eng := rfl
@[simp] theorem Lane.ax_raiseMask (L : Lane) (r : Reg) (m : Nat) : (L.raiseMask r m).ax = L.ax := rfl
@[simp] theorem Lane.edg_raiseMask (L : Lane) (r : Reg) (m : Nat) : (L.raiseMask r m).edg = L.edg := rfl
@[simp] theorem Lane.mc_raiseMask (L : Lane) (r : Reg) (m : Nat) : (L.raiseMask r m).mc = L.mc := rfl
@[simp] theorem Lane.posts_raiseMask (L : Lane) (r : Reg) (m : Nat) : (L.raiseMask r m).posts = L.posts := rfl
@[simp] theorem Lane.retained_raiseMask (L : Lane) (r : Reg) (m : Nat) : (L.raiseMask r m).retained = L.retained := rfl
@[simp] theorem Lane.reqAt_raiseMask (L : Lane) (r : Reg) (m : Nat) : (L.raiseMask r m).reqAt = L.reqAt := rfl
@[simp] theorem Lane.goneAt_raiseMask (L : Lane) (r : Reg) (m : Nat) : (L.raiseMask r m).goneAt = L.goneAt := rfl
@[simp] theorem Lane.flash_raiseMask (L : Lane) (r : Reg) (m : Nat) : (L.raiseMask r m).flash = L.flash := rfl
@[simp] theorem Lane.nvmWait_raiseMask (L : Lane) (r : Reg) (m : Nat) : (L.raiseMask r m).nvmWait = L.nvmWait := rfl
@[simp] theorem Lane.meas_raiseMask (L : Lane) (r : Reg) (m : Nat) : (L.raiseMask r m).meas = L.meas := rfl
@[simp] theorem Lane.posIf_raiseMask (L : Lane) (r : Reg) (m : Nat) : (L.raiseMask r m).posIf = L.posIf := rfl
@[simp] theorem Lane.sent_raiseMask (L : Lane) (r : Reg) (m : Nat) : (L.raiseMask r m).sent = L.sent := rfl
@[simp] theorem Lane.trav_raiseMask (L : Lane) (r : Reg) (m : Nat) : (L.raiseMask r m).trav = L.trav := rfl
@[simp] theorem Lane.hn_raiseMask (L : Lane) (r : Reg) (m : Nat) : (L.raiseMask r m).hn = L.hn := rfl
@[simp] theorem Lane.isb_raiseMask (L : Lane) (r : Reg) (m : Nat) : (L.raiseMask r m).isb = L.isb := rfl
@[simp] theorem Lane.svc_raiseMask (L : Lane) (r : Reg) (m : Nat) : (L.raiseMask r m).svc = L.svc := rfl
@[simp] theorem Lane.eth_raiseMask (L : Lane) (r : Reg) (m : Nat) : (L.raiseMask r m).eth = L.eth := rfl
@[simp] theorem Lane.safe_raiseMask (L : Lane) (r : Reg) (m : Nat) : (L.raiseMask r m).safe = L.safe := rfl
@[simp] theorem Lane.ck_raiseMask (L : Lane) (r : Reg) (m : Nat) : (L.raiseMask r m).ck = L.ck := rfl
@[simp] theorem Lane.dg_raiseMask (L : Lane) (r : Reg) (m : Nat) : (L.raiseMask r m).dg = L.dg := rfl
@[simp] theorem Lane.pw_raiseMask (L : Lane) (r : Reg) (m : Nat) : (L.raiseMask r m).pw = L.pw := rfl
@[simp] theorem Lane.snd_raiseMask (L : Lane) (r : Reg) (m : Nat) : (L.raiseMask r m).snd = L.snd := rfl
@[simp] theorem Lane.outP_raiseMask (L : Lane) (r : Reg) (m : Nat) : (L.raiseMask r m).outP = L.outP := rfl
@[simp] theorem Lane.outR_raiseMask (L : Lane) (r : Reg) (m : Nat) : (L.raiseMask r m).outR = L.outR := rfl

/-! #### setByte -/

@[simp] theorem Lane.me_setByte (L : Lane) (a : Nat) (b : Byte) : (L.setByte a b).me = L.me := rfl
@[simp] theorem Lane.small_setByte (L : Lane) (a : Nat) (b : Byte) : (L.setByte a b).small = L.small := rfl
@[simp] theorem Lane.regs_setByte (L : Lane) (a : Nat) (b : Byte) : (L.setByte a b).regs = L.regs := rfl
@[simp] theorem Lane.pmPar_setByte (L : Lane) (a : Nat) (b : Byte) : (L.setByte a b).pmPar = L.pmPar := rfl
@[simp] theorem Lane.rdata_setByte (L : Lane) (a : Nat) (b : Byte) : (L.setByte a b).rdata = L.rdata := rfl
@[simp] theorem Lane.busErr_setByte (L : Lane) (a : Nat) (b : Byte) : (L.setByte a b).busErr = L.busErr := rfl
@[simp] theorem Lane.busAddr_setByte (L : Lane) (a : Nat) (b : Byte) : (L.setByte a b).busAddr = L.busAddr := rfl
@[simp] theorem Lane.setNow_setByte (L : Lane) (a : Nat) (b : Byte) : (L.setByte a b).setNow = L.setNow := rfl
@[simp] theorem Lane.w1sNow_setByte (L : Lane) (a : Nat) (b : Byte) : (L.setByte a b).w1sNow = L.w1sNow := rfl
@[simp] theorem Lane.irqPrev_setByte (L : Lane) (a : Nat) (b : Byte) : (L.setByte a b).irqPrev = L.irqPrev := rfl
@[simp] theorem Lane.inSvc_setByte (L : Lane) (a : Nat) (b : Byte) : (L.setByte a b).inSvc = L.inSvc := rfl
@[simp] theorem Lane.ticks_setByte (L : Lane) (a : Nat) (b : Byte) : (L.setByte a b).ticks = L.ticks := rfl
@[simp] theorem Lane.free_setByte (L : Lane) (a : Nat) (b : Byte) : (L.setByte a b).free = L.free := rfl
@[simp] theorem Lane.gt_setByte (L : Lane) (a : Nat) (b : Byte) : (L.setByte a b).gt = L.gt := rfl
@[simp] theorem Lane.slewHelm_setByte (L : Lane) (a : Nat) (b : Byte) : (L.setByte a b).slewHelm = L.slewHelm := rfl
@[simp] theorem Lane.slewLane_setByte (L : Lane) (a : Nat) (b : Byte) : (L.setByte a b).slewLane = L.slewLane := rfl
@[simp] theorem Lane.slewWait_setByte (L : Lane) (a : Nat) (b : Byte) : (L.setByte a b).slewWait = L.slewWait := rfl
@[simp] theorem Lane.rkn_setByte (L : Lane) (a : Nat) (b : Byte) : (L.setByte a b).rkn = L.rkn := rfl
@[simp] theorem Lane.rate_setByte (L : Lane) (a : Nat) (b : Byte) : (L.setByte a b).rate = L.rate := rfl
@[simp] theorem Lane.est_setByte (L : Lane) (a : Nat) (b : Byte) : (L.setByte a b).est = L.est := rfl
@[simp] theorem Lane.frac_setByte (L : Lane) (a : Nat) (b : Byte) : (L.setByte a b).frac = L.frac := rfl
@[simp] theorem Lane.wp_setByte (L : Lane) (a : Nat) (b : Byte) : (L.setByte a b).wp = L.wp := rfl
@[simp] theorem Lane.rknClosing_setByte (L : Lane) (a : Nat) (b : Byte) : (L.setByte a b).rknClosing = L.rknClosing := rfl
@[simp] theorem Lane.eng_setByte (L : Lane) (a : Nat) (b : Byte) : (L.setByte a b).eng = L.eng := rfl
@[simp] theorem Lane.ax_setByte (L : Lane) (a : Nat) (b : Byte) : (L.setByte a b).ax = L.ax := rfl
@[simp] theorem Lane.edg_setByte (L : Lane) (a : Nat) (b : Byte) : (L.setByte a b).edg = L.edg := rfl
@[simp] theorem Lane.mc_setByte (L : Lane) (a : Nat) (b : Byte) : (L.setByte a b).mc = L.mc := rfl
@[simp] theorem Lane.posts_setByte (L : Lane) (a : Nat) (b : Byte) : (L.setByte a b).posts = L.posts := rfl
@[simp] theorem Lane.retained_setByte (L : Lane) (a : Nat) (b : Byte) : (L.setByte a b).retained = L.retained := rfl
@[simp] theorem Lane.reqAt_setByte (L : Lane) (a : Nat) (b : Byte) : (L.setByte a b).reqAt = L.reqAt := rfl
@[simp] theorem Lane.goneAt_setByte (L : Lane) (a : Nat) (b : Byte) : (L.setByte a b).goneAt = L.goneAt := rfl
@[simp] theorem Lane.flash_setByte (L : Lane) (a : Nat) (b : Byte) : (L.setByte a b).flash = L.flash := rfl
@[simp] theorem Lane.nvmWait_setByte (L : Lane) (a : Nat) (b : Byte) : (L.setByte a b).nvmWait = L.nvmWait := rfl
@[simp] theorem Lane.meas_setByte (L : Lane) (a : Nat) (b : Byte) : (L.setByte a b).meas = L.meas := rfl
@[simp] theorem Lane.posIf_setByte (L : Lane) (a : Nat) (b : Byte) : (L.setByte a b).posIf = L.posIf := rfl
@[simp] theorem Lane.sent_setByte (L : Lane) (a : Nat) (b : Byte) : (L.setByte a b).sent = L.sent := rfl
@[simp] theorem Lane.trav_setByte (L : Lane) (a : Nat) (b : Byte) : (L.setByte a b).trav = L.trav := rfl
@[simp] theorem Lane.hn_setByte (L : Lane) (a : Nat) (b : Byte) : (L.setByte a b).hn = L.hn := rfl
@[simp] theorem Lane.isb_setByte (L : Lane) (a : Nat) (b : Byte) : (L.setByte a b).isb = L.isb := rfl
@[simp] theorem Lane.svc_setByte (L : Lane) (a : Nat) (b : Byte) : (L.setByte a b).svc = L.svc := rfl
@[simp] theorem Lane.eth_setByte (L : Lane) (a : Nat) (b : Byte) : (L.setByte a b).eth = L.eth := rfl
@[simp] theorem Lane.safe_setByte (L : Lane) (a : Nat) (b : Byte) : (L.setByte a b).safe = L.safe := rfl
@[simp] theorem Lane.ck_setByte (L : Lane) (a : Nat) (b : Byte) : (L.setByte a b).ck = L.ck := rfl
@[simp] theorem Lane.dg_setByte (L : Lane) (a : Nat) (b : Byte) : (L.setByte a b).dg = L.dg := rfl
@[simp] theorem Lane.pw_setByte (L : Lane) (a : Nat) (b : Byte) : (L.setByte a b).pw = L.pw := rfl
@[simp] theorem Lane.snd_setByte (L : Lane) (a : Nat) (b : Byte) : (L.setByte a b).snd = L.snd := rfl
@[simp] theorem Lane.outP_setByte (L : Lane) (a : Nat) (b : Byte) : (L.setByte a b).outP = L.outP := rfl
@[simp] theorem Lane.outR_setByte (L : Lane) (a : Nat) (b : Byte) : (L.setByte a b).outR = L.outR := rfl

/-! #### setMemW -/

@[simp] theorem Lane.me_setMemW (L : Lane) (a : Nat) (w : Word) : (L.setMemW a w).me = L.me := rfl
@[simp] theorem Lane.small_setMemW (L : Lane) (a : Nat) (w : Word) : (L.setMemW a w).small = L.small := rfl
@[simp] theorem Lane.regs_setMemW (L : Lane) (a : Nat) (w : Word) : (L.setMemW a w).regs = L.regs := rfl
@[simp] theorem Lane.pmPar_setMemW (L : Lane) (a : Nat) (w : Word) : (L.setMemW a w).pmPar = L.pmPar := rfl
@[simp] theorem Lane.rdata_setMemW (L : Lane) (a : Nat) (w : Word) : (L.setMemW a w).rdata = L.rdata := rfl
@[simp] theorem Lane.busErr_setMemW (L : Lane) (a : Nat) (w : Word) : (L.setMemW a w).busErr = L.busErr := rfl
@[simp] theorem Lane.busAddr_setMemW (L : Lane) (a : Nat) (w : Word) : (L.setMemW a w).busAddr = L.busAddr := rfl
@[simp] theorem Lane.setNow_setMemW (L : Lane) (a : Nat) (w : Word) : (L.setMemW a w).setNow = L.setNow := rfl
@[simp] theorem Lane.w1sNow_setMemW (L : Lane) (a : Nat) (w : Word) : (L.setMemW a w).w1sNow = L.w1sNow := rfl
@[simp] theorem Lane.irqPrev_setMemW (L : Lane) (a : Nat) (w : Word) : (L.setMemW a w).irqPrev = L.irqPrev := rfl
@[simp] theorem Lane.inSvc_setMemW (L : Lane) (a : Nat) (w : Word) : (L.setMemW a w).inSvc = L.inSvc := rfl
@[simp] theorem Lane.ticks_setMemW (L : Lane) (a : Nat) (w : Word) : (L.setMemW a w).ticks = L.ticks := rfl
@[simp] theorem Lane.free_setMemW (L : Lane) (a : Nat) (w : Word) : (L.setMemW a w).free = L.free := rfl
@[simp] theorem Lane.gt_setMemW (L : Lane) (a : Nat) (w : Word) : (L.setMemW a w).gt = L.gt := rfl
@[simp] theorem Lane.slewHelm_setMemW (L : Lane) (a : Nat) (w : Word) : (L.setMemW a w).slewHelm = L.slewHelm := rfl
@[simp] theorem Lane.slewLane_setMemW (L : Lane) (a : Nat) (w : Word) : (L.setMemW a w).slewLane = L.slewLane := rfl
@[simp] theorem Lane.slewWait_setMemW (L : Lane) (a : Nat) (w : Word) : (L.setMemW a w).slewWait = L.slewWait := rfl
@[simp] theorem Lane.rkn_setMemW (L : Lane) (a : Nat) (w : Word) : (L.setMemW a w).rkn = L.rkn := rfl
@[simp] theorem Lane.rate_setMemW (L : Lane) (a : Nat) (w : Word) : (L.setMemW a w).rate = L.rate := rfl
@[simp] theorem Lane.est_setMemW (L : Lane) (a : Nat) (w : Word) : (L.setMemW a w).est = L.est := rfl
@[simp] theorem Lane.frac_setMemW (L : Lane) (a : Nat) (w : Word) : (L.setMemW a w).frac = L.frac := rfl
@[simp] theorem Lane.wp_setMemW (L : Lane) (a : Nat) (w : Word) : (L.setMemW a w).wp = L.wp := rfl
@[simp] theorem Lane.rknClosing_setMemW (L : Lane) (a : Nat) (w : Word) : (L.setMemW a w).rknClosing = L.rknClosing := rfl
@[simp] theorem Lane.eng_setMemW (L : Lane) (a : Nat) (w : Word) : (L.setMemW a w).eng = L.eng := rfl
@[simp] theorem Lane.ax_setMemW (L : Lane) (a : Nat) (w : Word) : (L.setMemW a w).ax = L.ax := rfl
@[simp] theorem Lane.edg_setMemW (L : Lane) (a : Nat) (w : Word) : (L.setMemW a w).edg = L.edg := rfl
@[simp] theorem Lane.mc_setMemW (L : Lane) (a : Nat) (w : Word) : (L.setMemW a w).mc = L.mc := rfl
@[simp] theorem Lane.posts_setMemW (L : Lane) (a : Nat) (w : Word) : (L.setMemW a w).posts = L.posts := rfl
@[simp] theorem Lane.retained_setMemW (L : Lane) (a : Nat) (w : Word) : (L.setMemW a w).retained = L.retained := rfl
@[simp] theorem Lane.reqAt_setMemW (L : Lane) (a : Nat) (w : Word) : (L.setMemW a w).reqAt = L.reqAt := rfl
@[simp] theorem Lane.goneAt_setMemW (L : Lane) (a : Nat) (w : Word) : (L.setMemW a w).goneAt = L.goneAt := rfl
@[simp] theorem Lane.flash_setMemW (L : Lane) (a : Nat) (w : Word) : (L.setMemW a w).flash = L.flash := rfl
@[simp] theorem Lane.nvmWait_setMemW (L : Lane) (a : Nat) (w : Word) : (L.setMemW a w).nvmWait = L.nvmWait := rfl
@[simp] theorem Lane.meas_setMemW (L : Lane) (a : Nat) (w : Word) : (L.setMemW a w).meas = L.meas := rfl
@[simp] theorem Lane.posIf_setMemW (L : Lane) (a : Nat) (w : Word) : (L.setMemW a w).posIf = L.posIf := rfl
@[simp] theorem Lane.sent_setMemW (L : Lane) (a : Nat) (w : Word) : (L.setMemW a w).sent = L.sent := rfl
@[simp] theorem Lane.trav_setMemW (L : Lane) (a : Nat) (w : Word) : (L.setMemW a w).trav = L.trav := rfl
@[simp] theorem Lane.hn_setMemW (L : Lane) (a : Nat) (w : Word) : (L.setMemW a w).hn = L.hn := rfl
@[simp] theorem Lane.isb_setMemW (L : Lane) (a : Nat) (w : Word) : (L.setMemW a w).isb = L.isb := rfl
@[simp] theorem Lane.svc_setMemW (L : Lane) (a : Nat) (w : Word) : (L.setMemW a w).svc = L.svc := rfl
@[simp] theorem Lane.eth_setMemW (L : Lane) (a : Nat) (w : Word) : (L.setMemW a w).eth = L.eth := rfl
@[simp] theorem Lane.safe_setMemW (L : Lane) (a : Nat) (w : Word) : (L.setMemW a w).safe = L.safe := rfl
@[simp] theorem Lane.ck_setMemW (L : Lane) (a : Nat) (w : Word) : (L.setMemW a w).ck = L.ck := rfl
@[simp] theorem Lane.dg_setMemW (L : Lane) (a : Nat) (w : Word) : (L.setMemW a w).dg = L.dg := rfl
@[simp] theorem Lane.pw_setMemW (L : Lane) (a : Nat) (w : Word) : (L.setMemW a w).pw = L.pw := rfl
@[simp] theorem Lane.snd_setMemW (L : Lane) (a : Nat) (w : Word) : (L.setMemW a w).snd = L.snd := rfl
@[simp] theorem Lane.outP_setMemW (L : Lane) (a : Nat) (w : Word) : (L.setMemW a w).outP = L.outP := rfl
@[simp] theorem Lane.outR_setMemW (L : Lane) (a : Nat) (w : Word) : (L.setMemW a w).outR = L.outR := rfl

/-! #### busEnd -/

@[simp] theorem Lane.me_busEnd (L : Lane) (v : Word) (e : Bool) (a : Nat) : (L.busEnd v e a).me = L.me := rfl
@[simp] theorem Lane.small_busEnd (L : Lane) (v : Word) (e : Bool) (a : Nat) : (L.busEnd v e a).small = L.small := rfl
@[simp] theorem Lane.regs_busEnd (L : Lane) (v : Word) (e : Bool) (a : Nat) : (L.busEnd v e a).regs = L.regs := rfl
@[simp] theorem Lane.mem_busEnd (L : Lane) (v : Word) (e : Bool) (a : Nat) : (L.busEnd v e a).mem = L.mem := rfl
@[simp] theorem Lane.pmPar_busEnd (L : Lane) (v : Word) (e : Bool) (a : Nat) : (L.busEnd v e a).pmPar = L.pmPar := rfl
@[simp] theorem Lane.setNow_busEnd (L : Lane) (v : Word) (e : Bool) (a : Nat) : (L.busEnd v e a).setNow = L.setNow := rfl
@[simp] theorem Lane.w1sNow_busEnd (L : Lane) (v : Word) (e : Bool) (a : Nat) : (L.busEnd v e a).w1sNow = L.w1sNow := rfl
@[simp] theorem Lane.irqPrev_busEnd (L : Lane) (v : Word) (e : Bool) (a : Nat) : (L.busEnd v e a).irqPrev = L.irqPrev := rfl
@[simp] theorem Lane.inSvc_busEnd (L : Lane) (v : Word) (e : Bool) (a : Nat) : (L.busEnd v e a).inSvc = L.inSvc := rfl
@[simp] theorem Lane.ticks_busEnd (L : Lane) (v : Word) (e : Bool) (a : Nat) : (L.busEnd v e a).ticks = L.ticks := rfl
@[simp] theorem Lane.free_busEnd (L : Lane) (v : Word) (e : Bool) (a : Nat) : (L.busEnd v e a).free = L.free := rfl
@[simp] theorem Lane.gt_busEnd (L : Lane) (v : Word) (e : Bool) (a : Nat) : (L.busEnd v e a).gt = L.gt := rfl
@[simp] theorem Lane.slewHelm_busEnd (L : Lane) (v : Word) (e : Bool) (a : Nat) : (L.busEnd v e a).slewHelm = L.slewHelm := rfl
@[simp] theorem Lane.slewLane_busEnd (L : Lane) (v : Word) (e : Bool) (a : Nat) : (L.busEnd v e a).slewLane = L.slewLane := rfl
@[simp] theorem Lane.slewWait_busEnd (L : Lane) (v : Word) (e : Bool) (a : Nat) : (L.busEnd v e a).slewWait = L.slewWait := rfl
@[simp] theorem Lane.rkn_busEnd (L : Lane) (v : Word) (e : Bool) (a : Nat) : (L.busEnd v e a).rkn = L.rkn := rfl
@[simp] theorem Lane.rate_busEnd (L : Lane) (v : Word) (e : Bool) (a : Nat) : (L.busEnd v e a).rate = L.rate := rfl
@[simp] theorem Lane.est_busEnd (L : Lane) (v : Word) (e : Bool) (a : Nat) : (L.busEnd v e a).est = L.est := rfl
@[simp] theorem Lane.frac_busEnd (L : Lane) (v : Word) (e : Bool) (a : Nat) : (L.busEnd v e a).frac = L.frac := rfl
@[simp] theorem Lane.wp_busEnd (L : Lane) (v : Word) (e : Bool) (a : Nat) : (L.busEnd v e a).wp = L.wp := rfl
@[simp] theorem Lane.rknClosing_busEnd (L : Lane) (v : Word) (e : Bool) (a : Nat) : (L.busEnd v e a).rknClosing = L.rknClosing := rfl
@[simp] theorem Lane.eng_busEnd (L : Lane) (v : Word) (e : Bool) (a : Nat) : (L.busEnd v e a).eng = L.eng := rfl
@[simp] theorem Lane.ax_busEnd (L : Lane) (v : Word) (e : Bool) (a : Nat) : (L.busEnd v e a).ax = L.ax := rfl
@[simp] theorem Lane.edg_busEnd (L : Lane) (v : Word) (e : Bool) (a : Nat) : (L.busEnd v e a).edg = L.edg := rfl
@[simp] theorem Lane.mc_busEnd (L : Lane) (v : Word) (e : Bool) (a : Nat) : (L.busEnd v e a).mc = L.mc := rfl
@[simp] theorem Lane.posts_busEnd (L : Lane) (v : Word) (e : Bool) (a : Nat) : (L.busEnd v e a).posts = L.posts := rfl
@[simp] theorem Lane.retained_busEnd (L : Lane) (v : Word) (e : Bool) (a : Nat) : (L.busEnd v e a).retained = L.retained := rfl
@[simp] theorem Lane.reqAt_busEnd (L : Lane) (v : Word) (e : Bool) (a : Nat) : (L.busEnd v e a).reqAt = L.reqAt := rfl
@[simp] theorem Lane.goneAt_busEnd (L : Lane) (v : Word) (e : Bool) (a : Nat) : (L.busEnd v e a).goneAt = L.goneAt := rfl
@[simp] theorem Lane.flash_busEnd (L : Lane) (v : Word) (e : Bool) (a : Nat) : (L.busEnd v e a).flash = L.flash := rfl
@[simp] theorem Lane.nvmWait_busEnd (L : Lane) (v : Word) (e : Bool) (a : Nat) : (L.busEnd v e a).nvmWait = L.nvmWait := rfl
@[simp] theorem Lane.meas_busEnd (L : Lane) (v : Word) (e : Bool) (a : Nat) : (L.busEnd v e a).meas = L.meas := rfl
@[simp] theorem Lane.posIf_busEnd (L : Lane) (v : Word) (e : Bool) (a : Nat) : (L.busEnd v e a).posIf = L.posIf := rfl
@[simp] theorem Lane.sent_busEnd (L : Lane) (v : Word) (e : Bool) (a : Nat) : (L.busEnd v e a).sent = L.sent := rfl
@[simp] theorem Lane.trav_busEnd (L : Lane) (v : Word) (e : Bool) (a : Nat) : (L.busEnd v e a).trav = L.trav := rfl
@[simp] theorem Lane.hn_busEnd (L : Lane) (v : Word) (e : Bool) (a : Nat) : (L.busEnd v e a).hn = L.hn := rfl
@[simp] theorem Lane.isb_busEnd (L : Lane) (v : Word) (e : Bool) (a : Nat) : (L.busEnd v e a).isb = L.isb := rfl
@[simp] theorem Lane.svc_busEnd (L : Lane) (v : Word) (e : Bool) (a : Nat) : (L.busEnd v e a).svc = L.svc := rfl
@[simp] theorem Lane.eth_busEnd (L : Lane) (v : Word) (e : Bool) (a : Nat) : (L.busEnd v e a).eth = L.eth := rfl
@[simp] theorem Lane.safe_busEnd (L : Lane) (v : Word) (e : Bool) (a : Nat) : (L.busEnd v e a).safe = L.safe := rfl
@[simp] theorem Lane.ck_busEnd (L : Lane) (v : Word) (e : Bool) (a : Nat) : (L.busEnd v e a).ck = L.ck := rfl
@[simp] theorem Lane.dg_busEnd (L : Lane) (v : Word) (e : Bool) (a : Nat) : (L.busEnd v e a).dg = L.dg := rfl
@[simp] theorem Lane.pw_busEnd (L : Lane) (v : Word) (e : Bool) (a : Nat) : (L.busEnd v e a).pw = L.pw := rfl
@[simp] theorem Lane.snd_busEnd (L : Lane) (v : Word) (e : Bool) (a : Nat) : (L.busEnd v e a).snd = L.snd := rfl
@[simp] theorem Lane.outP_busEnd (L : Lane) (v : Word) (e : Bool) (a : Nat) : (L.busEnd v e a).outP = L.outP := rfl
@[simp] theorem Lane.outR_busEnd (L : Lane) (v : Word) (e : Bool) (a : Nat) : (L.busEnd v e a).outR = L.outR := rfl

/-! #### updEng -/

@[simp] theorem Lane.me_updEng (L : Lane) (f : Eng → Eng) : (L.updEng f).me = L.me := rfl
@[simp] theorem Lane.small_updEng (L : Lane) (f : Eng → Eng) : (L.updEng f).small = L.small := rfl
@[simp] theorem Lane.regs_updEng (L : Lane) (f : Eng → Eng) : (L.updEng f).regs = L.regs := rfl
@[simp] theorem Lane.mem_updEng (L : Lane) (f : Eng → Eng) : (L.updEng f).mem = L.mem := rfl
@[simp] theorem Lane.pmPar_updEng (L : Lane) (f : Eng → Eng) : (L.updEng f).pmPar = L.pmPar := rfl
@[simp] theorem Lane.rdata_updEng (L : Lane) (f : Eng → Eng) : (L.updEng f).rdata = L.rdata := rfl
@[simp] theorem Lane.busErr_updEng (L : Lane) (f : Eng → Eng) : (L.updEng f).busErr = L.busErr := rfl
@[simp] theorem Lane.busAddr_updEng (L : Lane) (f : Eng → Eng) : (L.updEng f).busAddr = L.busAddr := rfl
@[simp] theorem Lane.setNow_updEng (L : Lane) (f : Eng → Eng) : (L.updEng f).setNow = L.setNow := rfl
@[simp] theorem Lane.w1sNow_updEng (L : Lane) (f : Eng → Eng) : (L.updEng f).w1sNow = L.w1sNow := rfl
@[simp] theorem Lane.irqPrev_updEng (L : Lane) (f : Eng → Eng) : (L.updEng f).irqPrev = L.irqPrev := rfl
@[simp] theorem Lane.inSvc_updEng (L : Lane) (f : Eng → Eng) : (L.updEng f).inSvc = L.inSvc := rfl
@[simp] theorem Lane.ticks_updEng (L : Lane) (f : Eng → Eng) : (L.updEng f).ticks = L.ticks := rfl
@[simp] theorem Lane.free_updEng (L : Lane) (f : Eng → Eng) : (L.updEng f).free = L.free := rfl
@[simp] theorem Lane.gt_updEng (L : Lane) (f : Eng → Eng) : (L.updEng f).gt = L.gt := rfl
@[simp] theorem Lane.slewHelm_updEng (L : Lane) (f : Eng → Eng) : (L.updEng f).slewHelm = L.slewHelm := rfl
@[simp] theorem Lane.slewLane_updEng (L : Lane) (f : Eng → Eng) : (L.updEng f).slewLane = L.slewLane := rfl
@[simp] theorem Lane.slewWait_updEng (L : Lane) (f : Eng → Eng) : (L.updEng f).slewWait = L.slewWait := rfl
@[simp] theorem Lane.rkn_updEng (L : Lane) (f : Eng → Eng) : (L.updEng f).rkn = L.rkn := rfl
@[simp] theorem Lane.rate_updEng (L : Lane) (f : Eng → Eng) : (L.updEng f).rate = L.rate := rfl
@[simp] theorem Lane.est_updEng (L : Lane) (f : Eng → Eng) : (L.updEng f).est = L.est := rfl
@[simp] theorem Lane.frac_updEng (L : Lane) (f : Eng → Eng) : (L.updEng f).frac = L.frac := rfl
@[simp] theorem Lane.wp_updEng (L : Lane) (f : Eng → Eng) : (L.updEng f).wp = L.wp := rfl
@[simp] theorem Lane.rknClosing_updEng (L : Lane) (f : Eng → Eng) : (L.updEng f).rknClosing = L.rknClosing := rfl
@[simp] theorem Lane.ax_updEng (L : Lane) (f : Eng → Eng) : (L.updEng f).ax = L.ax := rfl
@[simp] theorem Lane.edg_updEng (L : Lane) (f : Eng → Eng) : (L.updEng f).edg = L.edg := rfl
@[simp] theorem Lane.mc_updEng (L : Lane) (f : Eng → Eng) : (L.updEng f).mc = L.mc := rfl
@[simp] theorem Lane.posts_updEng (L : Lane) (f : Eng → Eng) : (L.updEng f).posts = L.posts := rfl
@[simp] theorem Lane.retained_updEng (L : Lane) (f : Eng → Eng) : (L.updEng f).retained = L.retained := rfl
@[simp] theorem Lane.reqAt_updEng (L : Lane) (f : Eng → Eng) : (L.updEng f).reqAt = L.reqAt := rfl
@[simp] theorem Lane.goneAt_updEng (L : Lane) (f : Eng → Eng) : (L.updEng f).goneAt = L.goneAt := rfl
@[simp] theorem Lane.flash_updEng (L : Lane) (f : Eng → Eng) : (L.updEng f).flash = L.flash := rfl
@[simp] theorem Lane.nvmWait_updEng (L : Lane) (f : Eng → Eng) : (L.updEng f).nvmWait = L.nvmWait := rfl
@[simp] theorem Lane.meas_updEng (L : Lane) (f : Eng → Eng) : (L.updEng f).meas = L.meas := rfl
@[simp] theorem Lane.posIf_updEng (L : Lane) (f : Eng → Eng) : (L.updEng f).posIf = L.posIf := rfl
@[simp] theorem Lane.sent_updEng (L : Lane) (f : Eng → Eng) : (L.updEng f).sent = L.sent := rfl
@[simp] theorem Lane.trav_updEng (L : Lane) (f : Eng → Eng) : (L.updEng f).trav = L.trav := rfl
@[simp] theorem Lane.hn_updEng (L : Lane) (f : Eng → Eng) : (L.updEng f).hn = L.hn := rfl
@[simp] theorem Lane.isb_updEng (L : Lane) (f : Eng → Eng) : (L.updEng f).isb = L.isb := rfl
@[simp] theorem Lane.svc_updEng (L : Lane) (f : Eng → Eng) : (L.updEng f).svc = L.svc := rfl
@[simp] theorem Lane.eth_updEng (L : Lane) (f : Eng → Eng) : (L.updEng f).eth = L.eth := rfl
@[simp] theorem Lane.safe_updEng (L : Lane) (f : Eng → Eng) : (L.updEng f).safe = L.safe := rfl
@[simp] theorem Lane.ck_updEng (L : Lane) (f : Eng → Eng) : (L.updEng f).ck = L.ck := rfl
@[simp] theorem Lane.dg_updEng (L : Lane) (f : Eng → Eng) : (L.updEng f).dg = L.dg := rfl
@[simp] theorem Lane.pw_updEng (L : Lane) (f : Eng → Eng) : (L.updEng f).pw = L.pw := rfl
@[simp] theorem Lane.snd_updEng (L : Lane) (f : Eng → Eng) : (L.updEng f).snd = L.snd := rfl
@[simp] theorem Lane.outP_updEng (L : Lane) (f : Eng → Eng) : (L.updEng f).outP = L.outP := rfl
@[simp] theorem Lane.outR_updEng (L : Lane) (f : Eng → Eng) : (L.updEng f).outR = L.outR := rfl

/-! #### updEdg -/

@[simp] theorem Lane.me_updEdg (L : Lane) (f : Edg → Edg) : (L.updEdg f).me = L.me := rfl
@[simp] theorem Lane.small_updEdg (L : Lane) (f : Edg → Edg) : (L.updEdg f).small = L.small := rfl
@[simp] theorem Lane.regs_updEdg (L : Lane) (f : Edg → Edg) : (L.updEdg f).regs = L.regs := rfl
@[simp] theorem Lane.mem_updEdg (L : Lane) (f : Edg → Edg) : (L.updEdg f).mem = L.mem := rfl
@[simp] theorem Lane.pmPar_updEdg (L : Lane) (f : Edg → Edg) : (L.updEdg f).pmPar = L.pmPar := rfl
@[simp] theorem Lane.rdata_updEdg (L : Lane) (f : Edg → Edg) : (L.updEdg f).rdata = L.rdata := rfl
@[simp] theorem Lane.busErr_updEdg (L : Lane) (f : Edg → Edg) : (L.updEdg f).busErr = L.busErr := rfl
@[simp] theorem Lane.busAddr_updEdg (L : Lane) (f : Edg → Edg) : (L.updEdg f).busAddr = L.busAddr := rfl
@[simp] theorem Lane.setNow_updEdg (L : Lane) (f : Edg → Edg) : (L.updEdg f).setNow = L.setNow := rfl
@[simp] theorem Lane.w1sNow_updEdg (L : Lane) (f : Edg → Edg) : (L.updEdg f).w1sNow = L.w1sNow := rfl
@[simp] theorem Lane.irqPrev_updEdg (L : Lane) (f : Edg → Edg) : (L.updEdg f).irqPrev = L.irqPrev := rfl
@[simp] theorem Lane.inSvc_updEdg (L : Lane) (f : Edg → Edg) : (L.updEdg f).inSvc = L.inSvc := rfl
@[simp] theorem Lane.ticks_updEdg (L : Lane) (f : Edg → Edg) : (L.updEdg f).ticks = L.ticks := rfl
@[simp] theorem Lane.free_updEdg (L : Lane) (f : Edg → Edg) : (L.updEdg f).free = L.free := rfl
@[simp] theorem Lane.gt_updEdg (L : Lane) (f : Edg → Edg) : (L.updEdg f).gt = L.gt := rfl
@[simp] theorem Lane.slewHelm_updEdg (L : Lane) (f : Edg → Edg) : (L.updEdg f).slewHelm = L.slewHelm := rfl
@[simp] theorem Lane.slewLane_updEdg (L : Lane) (f : Edg → Edg) : (L.updEdg f).slewLane = L.slewLane := rfl
@[simp] theorem Lane.slewWait_updEdg (L : Lane) (f : Edg → Edg) : (L.updEdg f).slewWait = L.slewWait := rfl
@[simp] theorem Lane.rkn_updEdg (L : Lane) (f : Edg → Edg) : (L.updEdg f).rkn = L.rkn := rfl
@[simp] theorem Lane.rate_updEdg (L : Lane) (f : Edg → Edg) : (L.updEdg f).rate = L.rate := rfl
@[simp] theorem Lane.est_updEdg (L : Lane) (f : Edg → Edg) : (L.updEdg f).est = L.est := rfl
@[simp] theorem Lane.frac_updEdg (L : Lane) (f : Edg → Edg) : (L.updEdg f).frac = L.frac := rfl
@[simp] theorem Lane.wp_updEdg (L : Lane) (f : Edg → Edg) : (L.updEdg f).wp = L.wp := rfl
@[simp] theorem Lane.rknClosing_updEdg (L : Lane) (f : Edg → Edg) : (L.updEdg f).rknClosing = L.rknClosing := rfl
@[simp] theorem Lane.eng_updEdg (L : Lane) (f : Edg → Edg) : (L.updEdg f).eng = L.eng := rfl
@[simp] theorem Lane.ax_updEdg (L : Lane) (f : Edg → Edg) : (L.updEdg f).ax = L.ax := rfl
@[simp] theorem Lane.mc_updEdg (L : Lane) (f : Edg → Edg) : (L.updEdg f).mc = L.mc := rfl
@[simp] theorem Lane.posts_updEdg (L : Lane) (f : Edg → Edg) : (L.updEdg f).posts = L.posts := rfl
@[simp] theorem Lane.retained_updEdg (L : Lane) (f : Edg → Edg) : (L.updEdg f).retained = L.retained := rfl
@[simp] theorem Lane.reqAt_updEdg (L : Lane) (f : Edg → Edg) : (L.updEdg f).reqAt = L.reqAt := rfl
@[simp] theorem Lane.goneAt_updEdg (L : Lane) (f : Edg → Edg) : (L.updEdg f).goneAt = L.goneAt := rfl
@[simp] theorem Lane.flash_updEdg (L : Lane) (f : Edg → Edg) : (L.updEdg f).flash = L.flash := rfl
@[simp] theorem Lane.nvmWait_updEdg (L : Lane) (f : Edg → Edg) : (L.updEdg f).nvmWait = L.nvmWait := rfl
@[simp] theorem Lane.meas_updEdg (L : Lane) (f : Edg → Edg) : (L.updEdg f).meas = L.meas := rfl
@[simp] theorem Lane.posIf_updEdg (L : Lane) (f : Edg → Edg) : (L.updEdg f).posIf = L.posIf := rfl
@[simp] theorem Lane.sent_updEdg (L : Lane) (f : Edg → Edg) : (L.updEdg f).sent = L.sent := rfl
@[simp] theorem Lane.trav_updEdg (L : Lane) (f : Edg → Edg) : (L.updEdg f).trav = L.trav := rfl
@[simp] theorem Lane.hn_updEdg (L : Lane) (f : Edg → Edg) : (L.updEdg f).hn = L.hn := rfl
@[simp] theorem Lane.isb_updEdg (L : Lane) (f : Edg → Edg) : (L.updEdg f).isb = L.isb := rfl
@[simp] theorem Lane.svc_updEdg (L : Lane) (f : Edg → Edg) : (L.updEdg f).svc = L.svc := rfl
@[simp] theorem Lane.eth_updEdg (L : Lane) (f : Edg → Edg) : (L.updEdg f).eth = L.eth := rfl
@[simp] theorem Lane.safe_updEdg (L : Lane) (f : Edg → Edg) : (L.updEdg f).safe = L.safe := rfl
@[simp] theorem Lane.ck_updEdg (L : Lane) (f : Edg → Edg) : (L.updEdg f).ck = L.ck := rfl
@[simp] theorem Lane.dg_updEdg (L : Lane) (f : Edg → Edg) : (L.updEdg f).dg = L.dg := rfl
@[simp] theorem Lane.pw_updEdg (L : Lane) (f : Edg → Edg) : (L.updEdg f).pw = L.pw := rfl
@[simp] theorem Lane.snd_updEdg (L : Lane) (f : Edg → Edg) : (L.updEdg f).snd = L.snd := rfl
@[simp] theorem Lane.outP_updEdg (L : Lane) (f : Edg → Edg) : (L.updEdg f).outP = L.outP := rfl
@[simp] theorem Lane.outR_updEdg (L : Lane) (f : Edg → Edg) : (L.updEdg f).outR = L.outR := rfl

/-! #### updMeas -/

@[simp] theorem Lane.me_updMeas (L : Lane) (f : Meas → Meas) : (L.updMeas f).me = L.me := rfl
@[simp] theorem Lane.small_updMeas (L : Lane) (f : Meas → Meas) : (L.updMeas f).small = L.small := rfl
@[simp] theorem Lane.regs_updMeas (L : Lane) (f : Meas → Meas) : (L.updMeas f).regs = L.regs := rfl
@[simp] theorem Lane.mem_updMeas (L : Lane) (f : Meas → Meas) : (L.updMeas f).mem = L.mem := rfl
@[simp] theorem Lane.pmPar_updMeas (L : Lane) (f : Meas → Meas) : (L.updMeas f).pmPar = L.pmPar := rfl
@[simp] theorem Lane.rdata_updMeas (L : Lane) (f : Meas → Meas) : (L.updMeas f).rdata = L.rdata := rfl
@[simp] theorem Lane.busErr_updMeas (L : Lane) (f : Meas → Meas) : (L.updMeas f).busErr = L.busErr := rfl
@[simp] theorem Lane.busAddr_updMeas (L : Lane) (f : Meas → Meas) : (L.updMeas f).busAddr = L.busAddr := rfl
@[simp] theorem Lane.setNow_updMeas (L : Lane) (f : Meas → Meas) : (L.updMeas f).setNow = L.setNow := rfl
@[simp] theorem Lane.w1sNow_updMeas (L : Lane) (f : Meas → Meas) : (L.updMeas f).w1sNow = L.w1sNow := rfl
@[simp] theorem Lane.irqPrev_updMeas (L : Lane) (f : Meas → Meas) : (L.updMeas f).irqPrev = L.irqPrev := rfl
@[simp] theorem Lane.inSvc_updMeas (L : Lane) (f : Meas → Meas) : (L.updMeas f).inSvc = L.inSvc := rfl
@[simp] theorem Lane.ticks_updMeas (L : Lane) (f : Meas → Meas) : (L.updMeas f).ticks = L.ticks := rfl
@[simp] theorem Lane.free_updMeas (L : Lane) (f : Meas → Meas) : (L.updMeas f).free = L.free := rfl
@[simp] theorem Lane.gt_updMeas (L : Lane) (f : Meas → Meas) : (L.updMeas f).gt = L.gt := rfl
@[simp] theorem Lane.slewHelm_updMeas (L : Lane) (f : Meas → Meas) : (L.updMeas f).slewHelm = L.slewHelm := rfl
@[simp] theorem Lane.slewLane_updMeas (L : Lane) (f : Meas → Meas) : (L.updMeas f).slewLane = L.slewLane := rfl
@[simp] theorem Lane.slewWait_updMeas (L : Lane) (f : Meas → Meas) : (L.updMeas f).slewWait = L.slewWait := rfl
@[simp] theorem Lane.rkn_updMeas (L : Lane) (f : Meas → Meas) : (L.updMeas f).rkn = L.rkn := rfl
@[simp] theorem Lane.rate_updMeas (L : Lane) (f : Meas → Meas) : (L.updMeas f).rate = L.rate := rfl
@[simp] theorem Lane.est_updMeas (L : Lane) (f : Meas → Meas) : (L.updMeas f).est = L.est := rfl
@[simp] theorem Lane.frac_updMeas (L : Lane) (f : Meas → Meas) : (L.updMeas f).frac = L.frac := rfl
@[simp] theorem Lane.wp_updMeas (L : Lane) (f : Meas → Meas) : (L.updMeas f).wp = L.wp := rfl
@[simp] theorem Lane.rknClosing_updMeas (L : Lane) (f : Meas → Meas) : (L.updMeas f).rknClosing = L.rknClosing := rfl
@[simp] theorem Lane.eng_updMeas (L : Lane) (f : Meas → Meas) : (L.updMeas f).eng = L.eng := rfl
@[simp] theorem Lane.ax_updMeas (L : Lane) (f : Meas → Meas) : (L.updMeas f).ax = L.ax := rfl
@[simp] theorem Lane.edg_updMeas (L : Lane) (f : Meas → Meas) : (L.updMeas f).edg = L.edg := rfl
@[simp] theorem Lane.mc_updMeas (L : Lane) (f : Meas → Meas) : (L.updMeas f).mc = L.mc := rfl
@[simp] theorem Lane.posts_updMeas (L : Lane) (f : Meas → Meas) : (L.updMeas f).posts = L.posts := rfl
@[simp] theorem Lane.retained_updMeas (L : Lane) (f : Meas → Meas) : (L.updMeas f).retained = L.retained := rfl
@[simp] theorem Lane.reqAt_updMeas (L : Lane) (f : Meas → Meas) : (L.updMeas f).reqAt = L.reqAt := rfl
@[simp] theorem Lane.goneAt_updMeas (L : Lane) (f : Meas → Meas) : (L.updMeas f).goneAt = L.goneAt := rfl
@[simp] theorem Lane.flash_updMeas (L : Lane) (f : Meas → Meas) : (L.updMeas f).flash = L.flash := rfl
@[simp] theorem Lane.nvmWait_updMeas (L : Lane) (f : Meas → Meas) : (L.updMeas f).nvmWait = L.nvmWait := rfl
@[simp] theorem Lane.posIf_updMeas (L : Lane) (f : Meas → Meas) : (L.updMeas f).posIf = L.posIf := rfl
@[simp] theorem Lane.sent_updMeas (L : Lane) (f : Meas → Meas) : (L.updMeas f).sent = L.sent := rfl
@[simp] theorem Lane.trav_updMeas (L : Lane) (f : Meas → Meas) : (L.updMeas f).trav = L.trav := rfl
@[simp] theorem Lane.hn_updMeas (L : Lane) (f : Meas → Meas) : (L.updMeas f).hn = L.hn := rfl
@[simp] theorem Lane.isb_updMeas (L : Lane) (f : Meas → Meas) : (L.updMeas f).isb = L.isb := rfl
@[simp] theorem Lane.svc_updMeas (L : Lane) (f : Meas → Meas) : (L.updMeas f).svc = L.svc := rfl
@[simp] theorem Lane.eth_updMeas (L : Lane) (f : Meas → Meas) : (L.updMeas f).eth = L.eth := rfl
@[simp] theorem Lane.safe_updMeas (L : Lane) (f : Meas → Meas) : (L.updMeas f).safe = L.safe := rfl
@[simp] theorem Lane.ck_updMeas (L : Lane) (f : Meas → Meas) : (L.updMeas f).ck = L.ck := rfl
@[simp] theorem Lane.dg_updMeas (L : Lane) (f : Meas → Meas) : (L.updMeas f).dg = L.dg := rfl
@[simp] theorem Lane.pw_updMeas (L : Lane) (f : Meas → Meas) : (L.updMeas f).pw = L.pw := rfl
@[simp] theorem Lane.snd_updMeas (L : Lane) (f : Meas → Meas) : (L.updMeas f).snd = L.snd := rfl
@[simp] theorem Lane.outP_updMeas (L : Lane) (f : Meas → Meas) : (L.updMeas f).outP = L.outP := rfl
@[simp] theorem Lane.outR_updMeas (L : Lane) (f : Meas → Meas) : (L.updMeas f).outR = L.outR := rfl

/-! #### updHn -/

@[simp] theorem Lane.me_updHn (L : Lane) (f : Hn → Hn) : (L.updHn f).me = L.me := rfl
@[simp] theorem Lane.small_updHn (L : Lane) (f : Hn → Hn) : (L.updHn f).small = L.small := rfl
@[simp] theorem Lane.regs_updHn (L : Lane) (f : Hn → Hn) : (L.updHn f).regs = L.regs := rfl
@[simp] theorem Lane.mem_updHn (L : Lane) (f : Hn → Hn) : (L.updHn f).mem = L.mem := rfl
@[simp] theorem Lane.pmPar_updHn (L : Lane) (f : Hn → Hn) : (L.updHn f).pmPar = L.pmPar := rfl
@[simp] theorem Lane.rdata_updHn (L : Lane) (f : Hn → Hn) : (L.updHn f).rdata = L.rdata := rfl
@[simp] theorem Lane.busErr_updHn (L : Lane) (f : Hn → Hn) : (L.updHn f).busErr = L.busErr := rfl
@[simp] theorem Lane.busAddr_updHn (L : Lane) (f : Hn → Hn) : (L.updHn f).busAddr = L.busAddr := rfl
@[simp] theorem Lane.setNow_updHn (L : Lane) (f : Hn → Hn) : (L.updHn f).setNow = L.setNow := rfl
@[simp] theorem Lane.w1sNow_updHn (L : Lane) (f : Hn → Hn) : (L.updHn f).w1sNow = L.w1sNow := rfl
@[simp] theorem Lane.irqPrev_updHn (L : Lane) (f : Hn → Hn) : (L.updHn f).irqPrev = L.irqPrev := rfl
@[simp] theorem Lane.inSvc_updHn (L : Lane) (f : Hn → Hn) : (L.updHn f).inSvc = L.inSvc := rfl
@[simp] theorem Lane.ticks_updHn (L : Lane) (f : Hn → Hn) : (L.updHn f).ticks = L.ticks := rfl
@[simp] theorem Lane.free_updHn (L : Lane) (f : Hn → Hn) : (L.updHn f).free = L.free := rfl
@[simp] theorem Lane.gt_updHn (L : Lane) (f : Hn → Hn) : (L.updHn f).gt = L.gt := rfl
@[simp] theorem Lane.slewHelm_updHn (L : Lane) (f : Hn → Hn) : (L.updHn f).slewHelm = L.slewHelm := rfl
@[simp] theorem Lane.slewLane_updHn (L : Lane) (f : Hn → Hn) : (L.updHn f).slewLane = L.slewLane := rfl
@[simp] theorem Lane.slewWait_updHn (L : Lane) (f : Hn → Hn) : (L.updHn f).slewWait = L.slewWait := rfl
@[simp] theorem Lane.rkn_updHn (L : Lane) (f : Hn → Hn) : (L.updHn f).rkn = L.rkn := rfl
@[simp] theorem Lane.rate_updHn (L : Lane) (f : Hn → Hn) : (L.updHn f).rate = L.rate := rfl
@[simp] theorem Lane.est_updHn (L : Lane) (f : Hn → Hn) : (L.updHn f).est = L.est := rfl
@[simp] theorem Lane.frac_updHn (L : Lane) (f : Hn → Hn) : (L.updHn f).frac = L.frac := rfl
@[simp] theorem Lane.wp_updHn (L : Lane) (f : Hn → Hn) : (L.updHn f).wp = L.wp := rfl
@[simp] theorem Lane.rknClosing_updHn (L : Lane) (f : Hn → Hn) : (L.updHn f).rknClosing = L.rknClosing := rfl
@[simp] theorem Lane.eng_updHn (L : Lane) (f : Hn → Hn) : (L.updHn f).eng = L.eng := rfl
@[simp] theorem Lane.ax_updHn (L : Lane) (f : Hn → Hn) : (L.updHn f).ax = L.ax := rfl
@[simp] theorem Lane.edg_updHn (L : Lane) (f : Hn → Hn) : (L.updHn f).edg = L.edg := rfl
@[simp] theorem Lane.mc_updHn (L : Lane) (f : Hn → Hn) : (L.updHn f).mc = L.mc := rfl
@[simp] theorem Lane.posts_updHn (L : Lane) (f : Hn → Hn) : (L.updHn f).posts = L.posts := rfl
@[simp] theorem Lane.retained_updHn (L : Lane) (f : Hn → Hn) : (L.updHn f).retained = L.retained := rfl
@[simp] theorem Lane.reqAt_updHn (L : Lane) (f : Hn → Hn) : (L.updHn f).reqAt = L.reqAt := rfl
@[simp] theorem Lane.goneAt_updHn (L : Lane) (f : Hn → Hn) : (L.updHn f).goneAt = L.goneAt := rfl
@[simp] theorem Lane.flash_updHn (L : Lane) (f : Hn → Hn) : (L.updHn f).flash = L.flash := rfl
@[simp] theorem Lane.nvmWait_updHn (L : Lane) (f : Hn → Hn) : (L.updHn f).nvmWait = L.nvmWait := rfl
@[simp] theorem Lane.meas_updHn (L : Lane) (f : Hn → Hn) : (L.updHn f).meas = L.meas := rfl
@[simp] theorem Lane.posIf_updHn (L : Lane) (f : Hn → Hn) : (L.updHn f).posIf = L.posIf := rfl
@[simp] theorem Lane.sent_updHn (L : Lane) (f : Hn → Hn) : (L.updHn f).sent = L.sent := rfl
@[simp] theorem Lane.trav_updHn (L : Lane) (f : Hn → Hn) : (L.updHn f).trav = L.trav := rfl
@[simp] theorem Lane.isb_updHn (L : Lane) (f : Hn → Hn) : (L.updHn f).isb = L.isb := rfl
@[simp] theorem Lane.svc_updHn (L : Lane) (f : Hn → Hn) : (L.updHn f).svc = L.svc := rfl
@[simp] theorem Lane.eth_updHn (L : Lane) (f : Hn → Hn) : (L.updHn f).eth = L.eth := rfl
@[simp] theorem Lane.safe_updHn (L : Lane) (f : Hn → Hn) : (L.updHn f).safe = L.safe := rfl
@[simp] theorem Lane.ck_updHn (L : Lane) (f : Hn → Hn) : (L.updHn f).ck = L.ck := rfl
@[simp] theorem Lane.dg_updHn (L : Lane) (f : Hn → Hn) : (L.updHn f).dg = L.dg := rfl
@[simp] theorem Lane.pw_updHn (L : Lane) (f : Hn → Hn) : (L.updHn f).pw = L.pw := rfl
@[simp] theorem Lane.snd_updHn (L : Lane) (f : Hn → Hn) : (L.updHn f).snd = L.snd := rfl
@[simp] theorem Lane.outP_updHn (L : Lane) (f : Hn → Hn) : (L.updHn f).outP = L.outP := rfl
@[simp] theorem Lane.outR_updHn (L : Lane) (f : Hn → Hn) : (L.updHn f).outR = L.outR := rfl

/-! #### updPos -/

@[simp] theorem Lane.me_updPos (L : Lane) (n : Nat) (f : PosIf → PosIf) : (L.updPos n f).me = L.me := rfl
@[simp] theorem Lane.small_updPos (L : Lane) (n : Nat) (f : PosIf → PosIf) : (L.updPos n f).small = L.small := rfl
@[simp] theorem Lane.regs_updPos (L : Lane) (n : Nat) (f : PosIf → PosIf) : (L.updPos n f).regs = L.regs := rfl
@[simp] theorem Lane.mem_updPos (L : Lane) (n : Nat) (f : PosIf → PosIf) : (L.updPos n f).mem = L.mem := rfl
@[simp] theorem Lane.pmPar_updPos (L : Lane) (n : Nat) (f : PosIf → PosIf) : (L.updPos n f).pmPar = L.pmPar := rfl
@[simp] theorem Lane.rdata_updPos (L : Lane) (n : Nat) (f : PosIf → PosIf) : (L.updPos n f).rdata = L.rdata := rfl
@[simp] theorem Lane.busErr_updPos (L : Lane) (n : Nat) (f : PosIf → PosIf) : (L.updPos n f).busErr = L.busErr := rfl
@[simp] theorem Lane.busAddr_updPos (L : Lane) (n : Nat) (f : PosIf → PosIf) : (L.updPos n f).busAddr = L.busAddr := rfl
@[simp] theorem Lane.setNow_updPos (L : Lane) (n : Nat) (f : PosIf → PosIf) : (L.updPos n f).setNow = L.setNow := rfl
@[simp] theorem Lane.w1sNow_updPos (L : Lane) (n : Nat) (f : PosIf → PosIf) : (L.updPos n f).w1sNow = L.w1sNow := rfl
@[simp] theorem Lane.irqPrev_updPos (L : Lane) (n : Nat) (f : PosIf → PosIf) : (L.updPos n f).irqPrev = L.irqPrev := rfl
@[simp] theorem Lane.inSvc_updPos (L : Lane) (n : Nat) (f : PosIf → PosIf) : (L.updPos n f).inSvc = L.inSvc := rfl
@[simp] theorem Lane.ticks_updPos (L : Lane) (n : Nat) (f : PosIf → PosIf) : (L.updPos n f).ticks = L.ticks := rfl
@[simp] theorem Lane.free_updPos (L : Lane) (n : Nat) (f : PosIf → PosIf) : (L.updPos n f).free = L.free := rfl
@[simp] theorem Lane.gt_updPos (L : Lane) (n : Nat) (f : PosIf → PosIf) : (L.updPos n f).gt = L.gt := rfl
@[simp] theorem Lane.slewHelm_updPos (L : Lane) (n : Nat) (f : PosIf → PosIf) : (L.updPos n f).slewHelm = L.slewHelm := rfl
@[simp] theorem Lane.slewLane_updPos (L : Lane) (n : Nat) (f : PosIf → PosIf) : (L.updPos n f).slewLane = L.slewLane := rfl
@[simp] theorem Lane.slewWait_updPos (L : Lane) (n : Nat) (f : PosIf → PosIf) : (L.updPos n f).slewWait = L.slewWait := rfl
@[simp] theorem Lane.rkn_updPos (L : Lane) (n : Nat) (f : PosIf → PosIf) : (L.updPos n f).rkn = L.rkn := rfl
@[simp] theorem Lane.rate_updPos (L : Lane) (n : Nat) (f : PosIf → PosIf) : (L.updPos n f).rate = L.rate := rfl
@[simp] theorem Lane.est_updPos (L : Lane) (n : Nat) (f : PosIf → PosIf) : (L.updPos n f).est = L.est := rfl
@[simp] theorem Lane.frac_updPos (L : Lane) (n : Nat) (f : PosIf → PosIf) : (L.updPos n f).frac = L.frac := rfl
@[simp] theorem Lane.wp_updPos (L : Lane) (n : Nat) (f : PosIf → PosIf) : (L.updPos n f).wp = L.wp := rfl
@[simp] theorem Lane.rknClosing_updPos (L : Lane) (n : Nat) (f : PosIf → PosIf) : (L.updPos n f).rknClosing = L.rknClosing := rfl
@[simp] theorem Lane.eng_updPos (L : Lane) (n : Nat) (f : PosIf → PosIf) : (L.updPos n f).eng = L.eng := rfl
@[simp] theorem Lane.ax_updPos (L : Lane) (n : Nat) (f : PosIf → PosIf) : (L.updPos n f).ax = L.ax := rfl
@[simp] theorem Lane.edg_updPos (L : Lane) (n : Nat) (f : PosIf → PosIf) : (L.updPos n f).edg = L.edg := rfl
@[simp] theorem Lane.mc_updPos (L : Lane) (n : Nat) (f : PosIf → PosIf) : (L.updPos n f).mc = L.mc := rfl
@[simp] theorem Lane.posts_updPos (L : Lane) (n : Nat) (f : PosIf → PosIf) : (L.updPos n f).posts = L.posts := rfl
@[simp] theorem Lane.retained_updPos (L : Lane) (n : Nat) (f : PosIf → PosIf) : (L.updPos n f).retained = L.retained := rfl
@[simp] theorem Lane.reqAt_updPos (L : Lane) (n : Nat) (f : PosIf → PosIf) : (L.updPos n f).reqAt = L.reqAt := rfl
@[simp] theorem Lane.goneAt_updPos (L : Lane) (n : Nat) (f : PosIf → PosIf) : (L.updPos n f).goneAt = L.goneAt := rfl
@[simp] theorem Lane.flash_updPos (L : Lane) (n : Nat) (f : PosIf → PosIf) : (L.updPos n f).flash = L.flash := rfl
@[simp] theorem Lane.nvmWait_updPos (L : Lane) (n : Nat) (f : PosIf → PosIf) : (L.updPos n f).nvmWait = L.nvmWait := rfl
@[simp] theorem Lane.meas_updPos (L : Lane) (n : Nat) (f : PosIf → PosIf) : (L.updPos n f).meas = L.meas := rfl
@[simp] theorem Lane.sent_updPos (L : Lane) (n : Nat) (f : PosIf → PosIf) : (L.updPos n f).sent = L.sent := rfl
@[simp] theorem Lane.trav_updPos (L : Lane) (n : Nat) (f : PosIf → PosIf) : (L.updPos n f).trav = L.trav := rfl
@[simp] theorem Lane.hn_updPos (L : Lane) (n : Nat) (f : PosIf → PosIf) : (L.updPos n f).hn = L.hn := rfl
@[simp] theorem Lane.isb_updPos (L : Lane) (n : Nat) (f : PosIf → PosIf) : (L.updPos n f).isb = L.isb := rfl
@[simp] theorem Lane.svc_updPos (L : Lane) (n : Nat) (f : PosIf → PosIf) : (L.updPos n f).svc = L.svc := rfl
@[simp] theorem Lane.eth_updPos (L : Lane) (n : Nat) (f : PosIf → PosIf) : (L.updPos n f).eth = L.eth := rfl
@[simp] theorem Lane.safe_updPos (L : Lane) (n : Nat) (f : PosIf → PosIf) : (L.updPos n f).safe = L.safe := rfl
@[simp] theorem Lane.ck_updPos (L : Lane) (n : Nat) (f : PosIf → PosIf) : (L.updPos n f).ck = L.ck := rfl
@[simp] theorem Lane.dg_updPos (L : Lane) (n : Nat) (f : PosIf → PosIf) : (L.updPos n f).dg = L.dg := rfl
@[simp] theorem Lane.pw_updPos (L : Lane) (n : Nat) (f : PosIf → PosIf) : (L.updPos n f).pw = L.pw := rfl
@[simp] theorem Lane.snd_updPos (L : Lane) (n : Nat) (f : PosIf → PosIf) : (L.updPos n f).snd = L.snd := rfl
@[simp] theorem Lane.outP_updPos (L : Lane) (n : Nat) (f : PosIf → PosIf) : (L.updPos n f).outP = L.outP := rfl
@[simp] theorem Lane.outR_updPos (L : Lane) (n : Nat) (f : PosIf → PosIf) : (L.updPos n f).outR = L.outR := rfl

/-! #### updSent -/

@[simp] theorem Lane.me_updSent (L : Lane) (n : Nat) (f : SentIn → SentIn) : (L.updSent n f).me = L.me := rfl
@[simp] theorem Lane.small_updSent (L : Lane) (n : Nat) (f : SentIn → SentIn) : (L.updSent n f).small = L.small := rfl
@[simp] theorem Lane.regs_updSent (L : Lane) (n : Nat) (f : SentIn → SentIn) : (L.updSent n f).regs = L.regs := rfl
@[simp] theorem Lane.mem_updSent (L : Lane) (n : Nat) (f : SentIn → SentIn) : (L.updSent n f).mem = L.mem := rfl
@[simp] theorem Lane.pmPar_updSent (L : Lane) (n : Nat) (f : SentIn → SentIn) : (L.updSent n f).pmPar = L.pmPar := rfl
@[simp] theorem Lane.rdata_updSent (L : Lane) (n : Nat) (f : SentIn → SentIn) : (L.updSent n f).rdata = L.rdata := rfl
@[simp] theorem Lane.busErr_updSent (L : Lane) (n : Nat) (f : SentIn → SentIn) : (L.updSent n f).busErr = L.busErr := rfl
@[simp] theorem Lane.busAddr_updSent (L : Lane) (n : Nat) (f : SentIn → SentIn) : (L.updSent n f).busAddr = L.busAddr := rfl
@[simp] theorem Lane.setNow_updSent (L : Lane) (n : Nat) (f : SentIn → SentIn) : (L.updSent n f).setNow = L.setNow := rfl
@[simp] theorem Lane.w1sNow_updSent (L : Lane) (n : Nat) (f : SentIn → SentIn) : (L.updSent n f).w1sNow = L.w1sNow := rfl
@[simp] theorem Lane.irqPrev_updSent (L : Lane) (n : Nat) (f : SentIn → SentIn) : (L.updSent n f).irqPrev = L.irqPrev := rfl
@[simp] theorem Lane.inSvc_updSent (L : Lane) (n : Nat) (f : SentIn → SentIn) : (L.updSent n f).inSvc = L.inSvc := rfl
@[simp] theorem Lane.ticks_updSent (L : Lane) (n : Nat) (f : SentIn → SentIn) : (L.updSent n f).ticks = L.ticks := rfl
@[simp] theorem Lane.free_updSent (L : Lane) (n : Nat) (f : SentIn → SentIn) : (L.updSent n f).free = L.free := rfl
@[simp] theorem Lane.gt_updSent (L : Lane) (n : Nat) (f : SentIn → SentIn) : (L.updSent n f).gt = L.gt := rfl
@[simp] theorem Lane.slewHelm_updSent (L : Lane) (n : Nat) (f : SentIn → SentIn) : (L.updSent n f).slewHelm = L.slewHelm := rfl
@[simp] theorem Lane.slewLane_updSent (L : Lane) (n : Nat) (f : SentIn → SentIn) : (L.updSent n f).slewLane = L.slewLane := rfl
@[simp] theorem Lane.slewWait_updSent (L : Lane) (n : Nat) (f : SentIn → SentIn) : (L.updSent n f).slewWait = L.slewWait := rfl
@[simp] theorem Lane.rkn_updSent (L : Lane) (n : Nat) (f : SentIn → SentIn) : (L.updSent n f).rkn = L.rkn := rfl
@[simp] theorem Lane.rate_updSent (L : Lane) (n : Nat) (f : SentIn → SentIn) : (L.updSent n f).rate = L.rate := rfl
@[simp] theorem Lane.est_updSent (L : Lane) (n : Nat) (f : SentIn → SentIn) : (L.updSent n f).est = L.est := rfl
@[simp] theorem Lane.frac_updSent (L : Lane) (n : Nat) (f : SentIn → SentIn) : (L.updSent n f).frac = L.frac := rfl
@[simp] theorem Lane.wp_updSent (L : Lane) (n : Nat) (f : SentIn → SentIn) : (L.updSent n f).wp = L.wp := rfl
@[simp] theorem Lane.rknClosing_updSent (L : Lane) (n : Nat) (f : SentIn → SentIn) : (L.updSent n f).rknClosing = L.rknClosing := rfl
@[simp] theorem Lane.eng_updSent (L : Lane) (n : Nat) (f : SentIn → SentIn) : (L.updSent n f).eng = L.eng := rfl
@[simp] theorem Lane.ax_updSent (L : Lane) (n : Nat) (f : SentIn → SentIn) : (L.updSent n f).ax = L.ax := rfl
@[simp] theorem Lane.edg_updSent (L : Lane) (n : Nat) (f : SentIn → SentIn) : (L.updSent n f).edg = L.edg := rfl
@[simp] theorem Lane.mc_updSent (L : Lane) (n : Nat) (f : SentIn → SentIn) : (L.updSent n f).mc = L.mc := rfl
@[simp] theorem Lane.posts_updSent (L : Lane) (n : Nat) (f : SentIn → SentIn) : (L.updSent n f).posts = L.posts := rfl
@[simp] theorem Lane.retained_updSent (L : Lane) (n : Nat) (f : SentIn → SentIn) : (L.updSent n f).retained = L.retained := rfl
@[simp] theorem Lane.reqAt_updSent (L : Lane) (n : Nat) (f : SentIn → SentIn) : (L.updSent n f).reqAt = L.reqAt := rfl
@[simp] theorem Lane.goneAt_updSent (L : Lane) (n : Nat) (f : SentIn → SentIn) : (L.updSent n f).goneAt = L.goneAt := rfl
@[simp] theorem Lane.flash_updSent (L : Lane) (n : Nat) (f : SentIn → SentIn) : (L.updSent n f).flash = L.flash := rfl
@[simp] theorem Lane.nvmWait_updSent (L : Lane) (n : Nat) (f : SentIn → SentIn) : (L.updSent n f).nvmWait = L.nvmWait := rfl
@[simp] theorem Lane.meas_updSent (L : Lane) (n : Nat) (f : SentIn → SentIn) : (L.updSent n f).meas = L.meas := rfl
@[simp] theorem Lane.posIf_updSent (L : Lane) (n : Nat) (f : SentIn → SentIn) : (L.updSent n f).posIf = L.posIf := rfl
@[simp] theorem Lane.trav_updSent (L : Lane) (n : Nat) (f : SentIn → SentIn) : (L.updSent n f).trav = L.trav := rfl
@[simp] theorem Lane.hn_updSent (L : Lane) (n : Nat) (f : SentIn → SentIn) : (L.updSent n f).hn = L.hn := rfl
@[simp] theorem Lane.isb_updSent (L : Lane) (n : Nat) (f : SentIn → SentIn) : (L.updSent n f).isb = L.isb := rfl
@[simp] theorem Lane.svc_updSent (L : Lane) (n : Nat) (f : SentIn → SentIn) : (L.updSent n f).svc = L.svc := rfl
@[simp] theorem Lane.eth_updSent (L : Lane) (n : Nat) (f : SentIn → SentIn) : (L.updSent n f).eth = L.eth := rfl
@[simp] theorem Lane.safe_updSent (L : Lane) (n : Nat) (f : SentIn → SentIn) : (L.updSent n f).safe = L.safe := rfl
@[simp] theorem Lane.ck_updSent (L : Lane) (n : Nat) (f : SentIn → SentIn) : (L.updSent n f).ck = L.ck := rfl
@[simp] theorem Lane.dg_updSent (L : Lane) (n : Nat) (f : SentIn → SentIn) : (L.updSent n f).dg = L.dg := rfl
@[simp] theorem Lane.pw_updSent (L : Lane) (n : Nat) (f : SentIn → SentIn) : (L.updSent n f).pw = L.pw := rfl
@[simp] theorem Lane.snd_updSent (L : Lane) (n : Nat) (f : SentIn → SentIn) : (L.updSent n f).snd = L.snd := rfl
@[simp] theorem Lane.outP_updSent (L : Lane) (n : Nat) (f : SentIn → SentIn) : (L.updSent n f).outP = L.outP := rfl
@[simp] theorem Lane.outR_updSent (L : Lane) (n : Nat) (f : SentIn → SentIn) : (L.updSent n f).outR = L.outR := rfl

/-! #### updTrav -/

@[simp] theorem Lane.me_updTrav (L : Lane) (f : Trav → Trav) : (L.updTrav f).me = L.me := rfl
@[simp] theorem Lane.small_updTrav (L : Lane) (f : Trav → Trav) : (L.updTrav f).small = L.small := rfl
@[simp] theorem Lane.regs_updTrav (L : Lane) (f : Trav → Trav) : (L.updTrav f).regs = L.regs := rfl
@[simp] theorem Lane.mem_updTrav (L : Lane) (f : Trav → Trav) : (L.updTrav f).mem = L.mem := rfl
@[simp] theorem Lane.pmPar_updTrav (L : Lane) (f : Trav → Trav) : (L.updTrav f).pmPar = L.pmPar := rfl
@[simp] theorem Lane.rdata_updTrav (L : Lane) (f : Trav → Trav) : (L.updTrav f).rdata = L.rdata := rfl
@[simp] theorem Lane.busErr_updTrav (L : Lane) (f : Trav → Trav) : (L.updTrav f).busErr = L.busErr := rfl
@[simp] theorem Lane.busAddr_updTrav (L : Lane) (f : Trav → Trav) : (L.updTrav f).busAddr = L.busAddr := rfl
@[simp] theorem Lane.setNow_updTrav (L : Lane) (f : Trav → Trav) : (L.updTrav f).setNow = L.setNow := rfl
@[simp] theorem Lane.w1sNow_updTrav (L : Lane) (f : Trav → Trav) : (L.updTrav f).w1sNow = L.w1sNow := rfl
@[simp] theorem Lane.irqPrev_updTrav (L : Lane) (f : Trav → Trav) : (L.updTrav f).irqPrev = L.irqPrev := rfl
@[simp] theorem Lane.inSvc_updTrav (L : Lane) (f : Trav → Trav) : (L.updTrav f).inSvc = L.inSvc := rfl
@[simp] theorem Lane.ticks_updTrav (L : Lane) (f : Trav → Trav) : (L.updTrav f).ticks = L.ticks := rfl
@[simp] theorem Lane.free_updTrav (L : Lane) (f : Trav → Trav) : (L.updTrav f).free = L.free := rfl
@[simp] theorem Lane.gt_updTrav (L : Lane) (f : Trav → Trav) : (L.updTrav f).gt = L.gt := rfl
@[simp] theorem Lane.slewHelm_updTrav (L : Lane) (f : Trav → Trav) : (L.updTrav f).slewHelm = L.slewHelm := rfl
@[simp] theorem Lane.slewLane_updTrav (L : Lane) (f : Trav → Trav) : (L.updTrav f).slewLane = L.slewLane := rfl
@[simp] theorem Lane.slewWait_updTrav (L : Lane) (f : Trav → Trav) : (L.updTrav f).slewWait = L.slewWait := rfl
@[simp] theorem Lane.rkn_updTrav (L : Lane) (f : Trav → Trav) : (L.updTrav f).rkn = L.rkn := rfl
@[simp] theorem Lane.rate_updTrav (L : Lane) (f : Trav → Trav) : (L.updTrav f).rate = L.rate := rfl
@[simp] theorem Lane.est_updTrav (L : Lane) (f : Trav → Trav) : (L.updTrav f).est = L.est := rfl
@[simp] theorem Lane.frac_updTrav (L : Lane) (f : Trav → Trav) : (L.updTrav f).frac = L.frac := rfl
@[simp] theorem Lane.wp_updTrav (L : Lane) (f : Trav → Trav) : (L.updTrav f).wp = L.wp := rfl
@[simp] theorem Lane.rknClosing_updTrav (L : Lane) (f : Trav → Trav) : (L.updTrav f).rknClosing = L.rknClosing := rfl
@[simp] theorem Lane.eng_updTrav (L : Lane) (f : Trav → Trav) : (L.updTrav f).eng = L.eng := rfl
@[simp] theorem Lane.ax_updTrav (L : Lane) (f : Trav → Trav) : (L.updTrav f).ax = L.ax := rfl
@[simp] theorem Lane.edg_updTrav (L : Lane) (f : Trav → Trav) : (L.updTrav f).edg = L.edg := rfl
@[simp] theorem Lane.mc_updTrav (L : Lane) (f : Trav → Trav) : (L.updTrav f).mc = L.mc := rfl
@[simp] theorem Lane.posts_updTrav (L : Lane) (f : Trav → Trav) : (L.updTrav f).posts = L.posts := rfl
@[simp] theorem Lane.retained_updTrav (L : Lane) (f : Trav → Trav) : (L.updTrav f).retained = L.retained := rfl
@[simp] theorem Lane.reqAt_updTrav (L : Lane) (f : Trav → Trav) : (L.updTrav f).reqAt = L.reqAt := rfl
@[simp] theorem Lane.goneAt_updTrav (L : Lane) (f : Trav → Trav) : (L.updTrav f).goneAt = L.goneAt := rfl
@[simp] theorem Lane.flash_updTrav (L : Lane) (f : Trav → Trav) : (L.updTrav f).flash = L.flash := rfl
@[simp] theorem Lane.nvmWait_updTrav (L : Lane) (f : Trav → Trav) : (L.updTrav f).nvmWait = L.nvmWait := rfl
@[simp] theorem Lane.meas_updTrav (L : Lane) (f : Trav → Trav) : (L.updTrav f).meas = L.meas := rfl
@[simp] theorem Lane.posIf_updTrav (L : Lane) (f : Trav → Trav) : (L.updTrav f).posIf = L.posIf := rfl
@[simp] theorem Lane.sent_updTrav (L : Lane) (f : Trav → Trav) : (L.updTrav f).sent = L.sent := rfl
@[simp] theorem Lane.hn_updTrav (L : Lane) (f : Trav → Trav) : (L.updTrav f).hn = L.hn := rfl
@[simp] theorem Lane.isb_updTrav (L : Lane) (f : Trav → Trav) : (L.updTrav f).isb = L.isb := rfl
@[simp] theorem Lane.svc_updTrav (L : Lane) (f : Trav → Trav) : (L.updTrav f).svc = L.svc := rfl
@[simp] theorem Lane.eth_updTrav (L : Lane) (f : Trav → Trav) : (L.updTrav f).eth = L.eth := rfl
@[simp] theorem Lane.safe_updTrav (L : Lane) (f : Trav → Trav) : (L.updTrav f).safe = L.safe := rfl
@[simp] theorem Lane.ck_updTrav (L : Lane) (f : Trav → Trav) : (L.updTrav f).ck = L.ck := rfl
@[simp] theorem Lane.dg_updTrav (L : Lane) (f : Trav → Trav) : (L.updTrav f).dg = L.dg := rfl
@[simp] theorem Lane.pw_updTrav (L : Lane) (f : Trav → Trav) : (L.updTrav f).pw = L.pw := rfl
@[simp] theorem Lane.snd_updTrav (L : Lane) (f : Trav → Trav) : (L.updTrav f).snd = L.snd := rfl
@[simp] theorem Lane.outP_updTrav (L : Lane) (f : Trav → Trav) : (L.updTrav f).outP = L.outP := rfl
@[simp] theorem Lane.outR_updTrav (L : Lane) (f : Trav → Trav) : (L.updTrav f).outR = L.outR := rfl

/-! #### updSafe -/

@[simp] theorem Lane.me_updSafe (L : Lane) (f : Safe → Safe) : (L.updSafe f).me = L.me := rfl
@[simp] theorem Lane.small_updSafe (L : Lane) (f : Safe → Safe) : (L.updSafe f).small = L.small := rfl
@[simp] theorem Lane.regs_updSafe (L : Lane) (f : Safe → Safe) : (L.updSafe f).regs = L.regs := rfl
@[simp] theorem Lane.mem_updSafe (L : Lane) (f : Safe → Safe) : (L.updSafe f).mem = L.mem := rfl
@[simp] theorem Lane.pmPar_updSafe (L : Lane) (f : Safe → Safe) : (L.updSafe f).pmPar = L.pmPar := rfl
@[simp] theorem Lane.rdata_updSafe (L : Lane) (f : Safe → Safe) : (L.updSafe f).rdata = L.rdata := rfl
@[simp] theorem Lane.busErr_updSafe (L : Lane) (f : Safe → Safe) : (L.updSafe f).busErr = L.busErr := rfl
@[simp] theorem Lane.busAddr_updSafe (L : Lane) (f : Safe → Safe) : (L.updSafe f).busAddr = L.busAddr := rfl
@[simp] theorem Lane.setNow_updSafe (L : Lane) (f : Safe → Safe) : (L.updSafe f).setNow = L.setNow := rfl
@[simp] theorem Lane.w1sNow_updSafe (L : Lane) (f : Safe → Safe) : (L.updSafe f).w1sNow = L.w1sNow := rfl
@[simp] theorem Lane.irqPrev_updSafe (L : Lane) (f : Safe → Safe) : (L.updSafe f).irqPrev = L.irqPrev := rfl
@[simp] theorem Lane.inSvc_updSafe (L : Lane) (f : Safe → Safe) : (L.updSafe f).inSvc = L.inSvc := rfl
@[simp] theorem Lane.ticks_updSafe (L : Lane) (f : Safe → Safe) : (L.updSafe f).ticks = L.ticks := rfl
@[simp] theorem Lane.free_updSafe (L : Lane) (f : Safe → Safe) : (L.updSafe f).free = L.free := rfl
@[simp] theorem Lane.gt_updSafe (L : Lane) (f : Safe → Safe) : (L.updSafe f).gt = L.gt := rfl
@[simp] theorem Lane.slewHelm_updSafe (L : Lane) (f : Safe → Safe) : (L.updSafe f).slewHelm = L.slewHelm := rfl
@[simp] theorem Lane.slewLane_updSafe (L : Lane) (f : Safe → Safe) : (L.updSafe f).slewLane = L.slewLane := rfl
@[simp] theorem Lane.slewWait_updSafe (L : Lane) (f : Safe → Safe) : (L.updSafe f).slewWait = L.slewWait := rfl
@[simp] theorem Lane.rkn_updSafe (L : Lane) (f : Safe → Safe) : (L.updSafe f).rkn = L.rkn := rfl
@[simp] theorem Lane.rate_updSafe (L : Lane) (f : Safe → Safe) : (L.updSafe f).rate = L.rate := rfl
@[simp] theorem Lane.est_updSafe (L : Lane) (f : Safe → Safe) : (L.updSafe f).est = L.est := rfl
@[simp] theorem Lane.frac_updSafe (L : Lane) (f : Safe → Safe) : (L.updSafe f).frac = L.frac := rfl
@[simp] theorem Lane.wp_updSafe (L : Lane) (f : Safe → Safe) : (L.updSafe f).wp = L.wp := rfl
@[simp] theorem Lane.rknClosing_updSafe (L : Lane) (f : Safe → Safe) : (L.updSafe f).rknClosing = L.rknClosing := rfl
@[simp] theorem Lane.eng_updSafe (L : Lane) (f : Safe → Safe) : (L.updSafe f).eng = L.eng := rfl
@[simp] theorem Lane.ax_updSafe (L : Lane) (f : Safe → Safe) : (L.updSafe f).ax = L.ax := rfl
@[simp] theorem Lane.edg_updSafe (L : Lane) (f : Safe → Safe) : (L.updSafe f).edg = L.edg := rfl
@[simp] theorem Lane.mc_updSafe (L : Lane) (f : Safe → Safe) : (L.updSafe f).mc = L.mc := rfl
@[simp] theorem Lane.posts_updSafe (L : Lane) (f : Safe → Safe) : (L.updSafe f).posts = L.posts := rfl
@[simp] theorem Lane.retained_updSafe (L : Lane) (f : Safe → Safe) : (L.updSafe f).retained = L.retained := rfl
@[simp] theorem Lane.reqAt_updSafe (L : Lane) (f : Safe → Safe) : (L.updSafe f).reqAt = L.reqAt := rfl
@[simp] theorem Lane.goneAt_updSafe (L : Lane) (f : Safe → Safe) : (L.updSafe f).goneAt = L.goneAt := rfl
@[simp] theorem Lane.flash_updSafe (L : Lane) (f : Safe → Safe) : (L.updSafe f).flash = L.flash := rfl
@[simp] theorem Lane.nvmWait_updSafe (L : Lane) (f : Safe → Safe) : (L.updSafe f).nvmWait = L.nvmWait := rfl
@[simp] theorem Lane.meas_updSafe (L : Lane) (f : Safe → Safe) : (L.updSafe f).meas = L.meas := rfl
@[simp] theorem Lane.posIf_updSafe (L : Lane) (f : Safe → Safe) : (L.updSafe f).posIf = L.posIf := rfl
@[simp] theorem Lane.sent_updSafe (L : Lane) (f : Safe → Safe) : (L.updSafe f).sent = L.sent := rfl
@[simp] theorem Lane.trav_updSafe (L : Lane) (f : Safe → Safe) : (L.updSafe f).trav = L.trav := rfl
@[simp] theorem Lane.hn_updSafe (L : Lane) (f : Safe → Safe) : (L.updSafe f).hn = L.hn := rfl
@[simp] theorem Lane.isb_updSafe (L : Lane) (f : Safe → Safe) : (L.updSafe f).isb = L.isb := rfl
@[simp] theorem Lane.svc_updSafe (L : Lane) (f : Safe → Safe) : (L.updSafe f).svc = L.svc := rfl
@[simp] theorem Lane.eth_updSafe (L : Lane) (f : Safe → Safe) : (L.updSafe f).eth = L.eth := rfl
@[simp] theorem Lane.ck_updSafe (L : Lane) (f : Safe → Safe) : (L.updSafe f).ck = L.ck := rfl
@[simp] theorem Lane.dg_updSafe (L : Lane) (f : Safe → Safe) : (L.updSafe f).dg = L.dg := rfl
@[simp] theorem Lane.pw_updSafe (L : Lane) (f : Safe → Safe) : (L.updSafe f).pw = L.pw := rfl
@[simp] theorem Lane.snd_updSafe (L : Lane) (f : Safe → Safe) : (L.updSafe f).snd = L.snd := rfl
@[simp] theorem Lane.outP_updSafe (L : Lane) (f : Safe → Safe) : (L.updSafe f).outP = L.outP := rfl
@[simp] theorem Lane.outR_updSafe (L : Lane) (f : Safe → Safe) : (L.updSafe f).outR = L.outR := rfl

/-! #### updCk -/

@[simp] theorem Lane.me_updCk (L : Lane) (f : Ck → Ck) : (L.updCk f).me = L.me := rfl
@[simp] theorem Lane.small_updCk (L : Lane) (f : Ck → Ck) : (L.updCk f).small = L.small := rfl
@[simp] theorem Lane.regs_updCk (L : Lane) (f : Ck → Ck) : (L.updCk f).regs = L.regs := rfl
@[simp] theorem Lane.mem_updCk (L : Lane) (f : Ck → Ck) : (L.updCk f).mem = L.mem := rfl
@[simp] theorem Lane.pmPar_updCk (L : Lane) (f : Ck → Ck) : (L.updCk f).pmPar = L.pmPar := rfl
@[simp] theorem Lane.rdata_updCk (L : Lane) (f : Ck → Ck) : (L.updCk f).rdata = L.rdata := rfl
@[simp] theorem Lane.busErr_updCk (L : Lane) (f : Ck → Ck) : (L.updCk f).busErr = L.busErr := rfl
@[simp] theorem Lane.busAddr_updCk (L : Lane) (f : Ck → Ck) : (L.updCk f).busAddr = L.busAddr := rfl
@[simp] theorem Lane.setNow_updCk (L : Lane) (f : Ck → Ck) : (L.updCk f).setNow = L.setNow := rfl
@[simp] theorem Lane.w1sNow_updCk (L : Lane) (f : Ck → Ck) : (L.updCk f).w1sNow = L.w1sNow := rfl
@[simp] theorem Lane.irqPrev_updCk (L : Lane) (f : Ck → Ck) : (L.updCk f).irqPrev = L.irqPrev := rfl
@[simp] theorem Lane.inSvc_updCk (L : Lane) (f : Ck → Ck) : (L.updCk f).inSvc = L.inSvc := rfl
@[simp] theorem Lane.ticks_updCk (L : Lane) (f : Ck → Ck) : (L.updCk f).ticks = L.ticks := rfl
@[simp] theorem Lane.free_updCk (L : Lane) (f : Ck → Ck) : (L.updCk f).free = L.free := rfl
@[simp] theorem Lane.gt_updCk (L : Lane) (f : Ck → Ck) : (L.updCk f).gt = L.gt := rfl
@[simp] theorem Lane.slewHelm_updCk (L : Lane) (f : Ck → Ck) : (L.updCk f).slewHelm = L.slewHelm := rfl
@[simp] theorem Lane.slewLane_updCk (L : Lane) (f : Ck → Ck) : (L.updCk f).slewLane = L.slewLane := rfl
@[simp] theorem Lane.slewWait_updCk (L : Lane) (f : Ck → Ck) : (L.updCk f).slewWait = L.slewWait := rfl
@[simp] theorem Lane.rkn_updCk (L : Lane) (f : Ck → Ck) : (L.updCk f).rkn = L.rkn := rfl
@[simp] theorem Lane.rate_updCk (L : Lane) (f : Ck → Ck) : (L.updCk f).rate = L.rate := rfl
@[simp] theorem Lane.est_updCk (L : Lane) (f : Ck → Ck) : (L.updCk f).est = L.est := rfl
@[simp] theorem Lane.frac_updCk (L : Lane) (f : Ck → Ck) : (L.updCk f).frac = L.frac := rfl
@[simp] theorem Lane.wp_updCk (L : Lane) (f : Ck → Ck) : (L.updCk f).wp = L.wp := rfl
@[simp] theorem Lane.rknClosing_updCk (L : Lane) (f : Ck → Ck) : (L.updCk f).rknClosing = L.rknClosing := rfl
@[simp] theorem Lane.eng_updCk (L : Lane) (f : Ck → Ck) : (L.updCk f).eng = L.eng := rfl
@[simp] theorem Lane.ax_updCk (L : Lane) (f : Ck → Ck) : (L.updCk f).ax = L.ax := rfl
@[simp] theorem Lane.edg_updCk (L : Lane) (f : Ck → Ck) : (L.updCk f).edg = L.edg := rfl
@[simp] theorem Lane.mc_updCk (L : Lane) (f : Ck → Ck) : (L.updCk f).mc = L.mc := rfl
@[simp] theorem Lane.posts_updCk (L : Lane) (f : Ck → Ck) : (L.updCk f).posts = L.posts := rfl
@[simp] theorem Lane.retained_updCk (L : Lane) (f : Ck → Ck) : (L.updCk f).retained = L.retained := rfl
@[simp] theorem Lane.reqAt_updCk (L : Lane) (f : Ck → Ck) : (L.updCk f).reqAt = L.reqAt := rfl
@[simp] theorem Lane.goneAt_updCk (L : Lane) (f : Ck → Ck) : (L.updCk f).goneAt = L.goneAt := rfl
@[simp] theorem Lane.flash_updCk (L : Lane) (f : Ck → Ck) : (L.updCk f).flash = L.flash := rfl
@[simp] theorem Lane.nvmWait_updCk (L : Lane) (f : Ck → Ck) : (L.updCk f).nvmWait = L.nvmWait := rfl
@[simp] theorem Lane.meas_updCk (L : Lane) (f : Ck → Ck) : (L.updCk f).meas = L.meas := rfl
@[simp] theorem Lane.posIf_updCk (L : Lane) (f : Ck → Ck) : (L.updCk f).posIf = L.posIf := rfl
@[simp] theorem Lane.sent_updCk (L : Lane) (f : Ck → Ck) : (L.updCk f).sent = L.sent := rfl
@[simp] theorem Lane.trav_updCk (L : Lane) (f : Ck → Ck) : (L.updCk f).trav = L.trav := rfl
@[simp] theorem Lane.hn_updCk (L : Lane) (f : Ck → Ck) : (L.updCk f).hn = L.hn := rfl
@[simp] theorem Lane.isb_updCk (L : Lane) (f : Ck → Ck) : (L.updCk f).isb = L.isb := rfl
@[simp] theorem Lane.svc_updCk (L : Lane) (f : Ck → Ck) : (L.updCk f).svc = L.svc := rfl
@[simp] theorem Lane.eth_updCk (L : Lane) (f : Ck → Ck) : (L.updCk f).eth = L.eth := rfl
@[simp] theorem Lane.safe_updCk (L : Lane) (f : Ck → Ck) : (L.updCk f).safe = L.safe := rfl
@[simp] theorem Lane.dg_updCk (L : Lane) (f : Ck → Ck) : (L.updCk f).dg = L.dg := rfl
@[simp] theorem Lane.pw_updCk (L : Lane) (f : Ck → Ck) : (L.updCk f).pw = L.pw := rfl
@[simp] theorem Lane.snd_updCk (L : Lane) (f : Ck → Ck) : (L.updCk f).snd = L.snd := rfl
@[simp] theorem Lane.outP_updCk (L : Lane) (f : Ck → Ck) : (L.updCk f).outP = L.outP := rfl
@[simp] theorem Lane.outR_updCk (L : Lane) (f : Ck → Ck) : (L.updCk f).outR = L.outR := rfl

/-! #### updDg -/

@[simp] theorem Lane.me_updDg (L : Lane) (f : Dg → Dg) : (L.updDg f).me = L.me := rfl
@[simp] theorem Lane.small_updDg (L : Lane) (f : Dg → Dg) : (L.updDg f).small = L.small := rfl
@[simp] theorem Lane.regs_updDg (L : Lane) (f : Dg → Dg) : (L.updDg f).regs = L.regs := rfl
@[simp] theorem Lane.mem_updDg (L : Lane) (f : Dg → Dg) : (L.updDg f).mem = L.mem := rfl
@[simp] theorem Lane.pmPar_updDg (L : Lane) (f : Dg → Dg) : (L.updDg f).pmPar = L.pmPar := rfl
@[simp] theorem Lane.rdata_updDg (L : Lane) (f : Dg → Dg) : (L.updDg f).rdata = L.rdata := rfl
@[simp] theorem Lane.busErr_updDg (L : Lane) (f : Dg → Dg) : (L.updDg f).busErr = L.busErr := rfl
@[simp] theorem Lane.busAddr_updDg (L : Lane) (f : Dg → Dg) : (L.updDg f).busAddr = L.busAddr := rfl
@[simp] theorem Lane.setNow_updDg (L : Lane) (f : Dg → Dg) : (L.updDg f).setNow = L.setNow := rfl
@[simp] theorem Lane.w1sNow_updDg (L : Lane) (f : Dg → Dg) : (L.updDg f).w1sNow = L.w1sNow := rfl
@[simp] theorem Lane.irqPrev_updDg (L : Lane) (f : Dg → Dg) : (L.updDg f).irqPrev = L.irqPrev := rfl
@[simp] theorem Lane.inSvc_updDg (L : Lane) (f : Dg → Dg) : (L.updDg f).inSvc = L.inSvc := rfl
@[simp] theorem Lane.ticks_updDg (L : Lane) (f : Dg → Dg) : (L.updDg f).ticks = L.ticks := rfl
@[simp] theorem Lane.free_updDg (L : Lane) (f : Dg → Dg) : (L.updDg f).free = L.free := rfl
@[simp] theorem Lane.gt_updDg (L : Lane) (f : Dg → Dg) : (L.updDg f).gt = L.gt := rfl
@[simp] theorem Lane.slewHelm_updDg (L : Lane) (f : Dg → Dg) : (L.updDg f).slewHelm = L.slewHelm := rfl
@[simp] theorem Lane.slewLane_updDg (L : Lane) (f : Dg → Dg) : (L.updDg f).slewLane = L.slewLane := rfl
@[simp] theorem Lane.slewWait_updDg (L : Lane) (f : Dg → Dg) : (L.updDg f).slewWait = L.slewWait := rfl
@[simp] theorem Lane.rkn_updDg (L : Lane) (f : Dg → Dg) : (L.updDg f).rkn = L.rkn := rfl
@[simp] theorem Lane.rate_updDg (L : Lane) (f : Dg → Dg) : (L.updDg f).rate = L.rate := rfl
@[simp] theorem Lane.est_updDg (L : Lane) (f : Dg → Dg) : (L.updDg f).est = L.est := rfl
@[simp] theorem Lane.frac_updDg (L : Lane) (f : Dg → Dg) : (L.updDg f).frac = L.frac := rfl
@[simp] theorem Lane.wp_updDg (L : Lane) (f : Dg → Dg) : (L.updDg f).wp = L.wp := rfl
@[simp] theorem Lane.rknClosing_updDg (L : Lane) (f : Dg → Dg) : (L.updDg f).rknClosing = L.rknClosing := rfl
@[simp] theorem Lane.eng_updDg (L : Lane) (f : Dg → Dg) : (L.updDg f).eng = L.eng := rfl
@[simp] theorem Lane.ax_updDg (L : Lane) (f : Dg → Dg) : (L.updDg f).ax = L.ax := rfl
@[simp] theorem Lane.edg_updDg (L : Lane) (f : Dg → Dg) : (L.updDg f).edg = L.edg := rfl
@[simp] theorem Lane.mc_updDg (L : Lane) (f : Dg → Dg) : (L.updDg f).mc = L.mc := rfl
@[simp] theorem Lane.posts_updDg (L : Lane) (f : Dg → Dg) : (L.updDg f).posts = L.posts := rfl
@[simp] theorem Lane.retained_updDg (L : Lane) (f : Dg → Dg) : (L.updDg f).retained = L.retained := rfl
@[simp] theorem Lane.reqAt_updDg (L : Lane) (f : Dg → Dg) : (L.updDg f).reqAt = L.reqAt := rfl
@[simp] theorem Lane.goneAt_updDg (L : Lane) (f : Dg → Dg) : (L.updDg f).goneAt = L.goneAt := rfl
@[simp] theorem Lane.flash_updDg (L : Lane) (f : Dg → Dg) : (L.updDg f).flash = L.flash := rfl
@[simp] theorem Lane.nvmWait_updDg (L : Lane) (f : Dg → Dg) : (L.updDg f).nvmWait = L.nvmWait := rfl
@[simp] theorem Lane.meas_updDg (L : Lane) (f : Dg → Dg) : (L.updDg f).meas = L.meas := rfl
@[simp] theorem Lane.posIf_updDg (L : Lane) (f : Dg → Dg) : (L.updDg f).posIf = L.posIf := rfl
@[simp] theorem Lane.sent_updDg (L : Lane) (f : Dg → Dg) : (L.updDg f).sent = L.sent := rfl
@[simp] theorem Lane.trav_updDg (L : Lane) (f : Dg → Dg) : (L.updDg f).trav = L.trav := rfl
@[simp] theorem Lane.hn_updDg (L : Lane) (f : Dg → Dg) : (L.updDg f).hn = L.hn := rfl
@[simp] theorem Lane.isb_updDg (L : Lane) (f : Dg → Dg) : (L.updDg f).isb = L.isb := rfl
@[simp] theorem Lane.svc_updDg (L : Lane) (f : Dg → Dg) : (L.updDg f).svc = L.svc := rfl
@[simp] theorem Lane.eth_updDg (L : Lane) (f : Dg → Dg) : (L.updDg f).eth = L.eth := rfl
@[simp] theorem Lane.safe_updDg (L : Lane) (f : Dg → Dg) : (L.updDg f).safe = L.safe := rfl
@[simp] theorem Lane.ck_updDg (L : Lane) (f : Dg → Dg) : (L.updDg f).ck = L.ck := rfl
@[simp] theorem Lane.pw_updDg (L : Lane) (f : Dg → Dg) : (L.updDg f).pw = L.pw := rfl
@[simp] theorem Lane.snd_updDg (L : Lane) (f : Dg → Dg) : (L.updDg f).snd = L.snd := rfl
@[simp] theorem Lane.outP_updDg (L : Lane) (f : Dg → Dg) : (L.updDg f).outP = L.outP := rfl
@[simp] theorem Lane.outR_updDg (L : Lane) (f : Dg → Dg) : (L.updDg f).outR = L.outR := rfl

/-! #### updPw -/

@[simp] theorem Lane.me_updPw (L : Lane) (f : Pw → Pw) : (L.updPw f).me = L.me := rfl
@[simp] theorem Lane.small_updPw (L : Lane) (f : Pw → Pw) : (L.updPw f).small = L.small := rfl
@[simp] theorem Lane.regs_updPw (L : Lane) (f : Pw → Pw) : (L.updPw f).regs = L.regs := rfl
@[simp] theorem Lane.mem_updPw (L : Lane) (f : Pw → Pw) : (L.updPw f).mem = L.mem := rfl
@[simp] theorem Lane.pmPar_updPw (L : Lane) (f : Pw → Pw) : (L.updPw f).pmPar = L.pmPar := rfl
@[simp] theorem Lane.rdata_updPw (L : Lane) (f : Pw → Pw) : (L.updPw f).rdata = L.rdata := rfl
@[simp] theorem Lane.busErr_updPw (L : Lane) (f : Pw → Pw) : (L.updPw f).busErr = L.busErr := rfl
@[simp] theorem Lane.busAddr_updPw (L : Lane) (f : Pw → Pw) : (L.updPw f).busAddr = L.busAddr := rfl
@[simp] theorem Lane.setNow_updPw (L : Lane) (f : Pw → Pw) : (L.updPw f).setNow = L.setNow := rfl
@[simp] theorem Lane.w1sNow_updPw (L : Lane) (f : Pw → Pw) : (L.updPw f).w1sNow = L.w1sNow := rfl
@[simp] theorem Lane.irqPrev_updPw (L : Lane) (f : Pw → Pw) : (L.updPw f).irqPrev = L.irqPrev := rfl
@[simp] theorem Lane.inSvc_updPw (L : Lane) (f : Pw → Pw) : (L.updPw f).inSvc = L.inSvc := rfl
@[simp] theorem Lane.ticks_updPw (L : Lane) (f : Pw → Pw) : (L.updPw f).ticks = L.ticks := rfl
@[simp] theorem Lane.free_updPw (L : Lane) (f : Pw → Pw) : (L.updPw f).free = L.free := rfl
@[simp] theorem Lane.gt_updPw (L : Lane) (f : Pw → Pw) : (L.updPw f).gt = L.gt := rfl
@[simp] theorem Lane.slewHelm_updPw (L : Lane) (f : Pw → Pw) : (L.updPw f).slewHelm = L.slewHelm := rfl
@[simp] theorem Lane.slewLane_updPw (L : Lane) (f : Pw → Pw) : (L.updPw f).slewLane = L.slewLane := rfl
@[simp] theorem Lane.slewWait_updPw (L : Lane) (f : Pw → Pw) : (L.updPw f).slewWait = L.slewWait := rfl
@[simp] theorem Lane.rkn_updPw (L : Lane) (f : Pw → Pw) : (L.updPw f).rkn = L.rkn := rfl
@[simp] theorem Lane.rate_updPw (L : Lane) (f : Pw → Pw) : (L.updPw f).rate = L.rate := rfl
@[simp] theorem Lane.est_updPw (L : Lane) (f : Pw → Pw) : (L.updPw f).est = L.est := rfl
@[simp] theorem Lane.frac_updPw (L : Lane) (f : Pw → Pw) : (L.updPw f).frac = L.frac := rfl
@[simp] theorem Lane.wp_updPw (L : Lane) (f : Pw → Pw) : (L.updPw f).wp = L.wp := rfl
@[simp] theorem Lane.rknClosing_updPw (L : Lane) (f : Pw → Pw) : (L.updPw f).rknClosing = L.rknClosing := rfl
@[simp] theorem Lane.eng_updPw (L : Lane) (f : Pw → Pw) : (L.updPw f).eng = L.eng := rfl
@[simp] theorem Lane.ax_updPw (L : Lane) (f : Pw → Pw) : (L.updPw f).ax = L.ax := rfl
@[simp] theorem Lane.edg_updPw (L : Lane) (f : Pw → Pw) : (L.updPw f).edg = L.edg := rfl
@[simp] theorem Lane.mc_updPw (L : Lane) (f : Pw → Pw) : (L.updPw f).mc = L.mc := rfl
@[simp] theorem Lane.posts_updPw (L : Lane) (f : Pw → Pw) : (L.updPw f).posts = L.posts := rfl
@[simp] theorem Lane.retained_updPw (L : Lane) (f : Pw → Pw) : (L.updPw f).retained = L.retained := rfl
@[simp] theorem Lane.reqAt_updPw (L : Lane) (f : Pw → Pw) : (L.updPw f).reqAt = L.reqAt := rfl
@[simp] theorem Lane.goneAt_updPw (L : Lane) (f : Pw → Pw) : (L.updPw f).goneAt = L.goneAt := rfl
@[simp] theorem Lane.flash_updPw (L : Lane) (f : Pw → Pw) : (L.updPw f).flash = L.flash := rfl
@[simp] theorem Lane.nvmWait_updPw (L : Lane) (f : Pw → Pw) : (L.updPw f).nvmWait = L.nvmWait := rfl
@[simp] theorem Lane.meas_updPw (L : Lane) (f : Pw → Pw) : (L.updPw f).meas = L.meas := rfl
@[simp] theorem Lane.posIf_updPw (L : Lane) (f : Pw → Pw) : (L.updPw f).posIf = L.posIf := rfl
@[simp] theorem Lane.sent_updPw (L : Lane) (f : Pw → Pw) : (L.updPw f).sent = L.sent := rfl
@[simp] theorem Lane.trav_updPw (L : Lane) (f : Pw → Pw) : (L.updPw f).trav = L.trav := rfl
@[simp] theorem Lane.hn_updPw (L : Lane) (f : Pw → Pw) : (L.updPw f).hn = L.hn := rfl
@[simp] theorem Lane.isb_updPw (L : Lane) (f : Pw → Pw) : (L.updPw f).isb = L.isb := rfl
@[simp] theorem Lane.svc_updPw (L : Lane) (f : Pw → Pw) : (L.updPw f).svc = L.svc := rfl
@[simp] theorem Lane.eth_updPw (L : Lane) (f : Pw → Pw) : (L.updPw f).eth = L.eth := rfl
@[simp] theorem Lane.safe_updPw (L : Lane) (f : Pw → Pw) : (L.updPw f).safe = L.safe := rfl
@[simp] theorem Lane.ck_updPw (L : Lane) (f : Pw → Pw) : (L.updPw f).ck = L.ck := rfl
@[simp] theorem Lane.dg_updPw (L : Lane) (f : Pw → Pw) : (L.updPw f).dg = L.dg := rfl
@[simp] theorem Lane.snd_updPw (L : Lane) (f : Pw → Pw) : (L.updPw f).snd = L.snd := rfl
@[simp] theorem Lane.outP_updPw (L : Lane) (f : Pw → Pw) : (L.updPw f).outP = L.outP := rfl
@[simp] theorem Lane.outR_updPw (L : Lane) (f : Pw → Pw) : (L.updPw f).outR = L.outR := rfl

/-! #### updAx -/

@[simp] theorem Lane.me_updAx (L : Lane) (n : Nat) (f : Ax → Ax) : (L.updAx n f).me = L.me := rfl
@[simp] theorem Lane.small_updAx (L : Lane) (n : Nat) (f : Ax → Ax) : (L.updAx n f).small = L.small := rfl
@[simp] theorem Lane.regs_updAx (L : Lane) (n : Nat) (f : Ax → Ax) : (L.updAx n f).regs = L.regs := rfl
@[simp] theorem Lane.mem_updAx (L : Lane) (n : Nat) (f : Ax → Ax) : (L.updAx n f).mem = L.mem := rfl
@[simp] theorem Lane.pmPar_updAx (L : Lane) (n : Nat) (f : Ax → Ax) : (L.updAx n f).pmPar = L.pmPar := rfl
@[simp] theorem Lane.rdata_updAx (L : Lane) (n : Nat) (f : Ax → Ax) : (L.updAx n f).rdata = L.rdata := rfl
@[simp] theorem Lane.busErr_updAx (L : Lane) (n : Nat) (f : Ax → Ax) : (L.updAx n f).busErr = L.busErr := rfl
@[simp] theorem Lane.busAddr_updAx (L : Lane) (n : Nat) (f : Ax → Ax) : (L.updAx n f).busAddr = L.busAddr := rfl
@[simp] theorem Lane.setNow_updAx (L : Lane) (n : Nat) (f : Ax → Ax) : (L.updAx n f).setNow = L.setNow := rfl
@[simp] theorem Lane.w1sNow_updAx (L : Lane) (n : Nat) (f : Ax → Ax) : (L.updAx n f).w1sNow = L.w1sNow := rfl
@[simp] theorem Lane.irqPrev_updAx (L : Lane) (n : Nat) (f : Ax → Ax) : (L.updAx n f).irqPrev = L.irqPrev := rfl
@[simp] theorem Lane.inSvc_updAx (L : Lane) (n : Nat) (f : Ax → Ax) : (L.updAx n f).inSvc = L.inSvc := rfl
@[simp] theorem Lane.ticks_updAx (L : Lane) (n : Nat) (f : Ax → Ax) : (L.updAx n f).ticks = L.ticks := rfl
@[simp] theorem Lane.free_updAx (L : Lane) (n : Nat) (f : Ax → Ax) : (L.updAx n f).free = L.free := rfl
@[simp] theorem Lane.gt_updAx (L : Lane) (n : Nat) (f : Ax → Ax) : (L.updAx n f).gt = L.gt := rfl
@[simp] theorem Lane.slewHelm_updAx (L : Lane) (n : Nat) (f : Ax → Ax) : (L.updAx n f).slewHelm = L.slewHelm := rfl
@[simp] theorem Lane.slewLane_updAx (L : Lane) (n : Nat) (f : Ax → Ax) : (L.updAx n f).slewLane = L.slewLane := rfl
@[simp] theorem Lane.slewWait_updAx (L : Lane) (n : Nat) (f : Ax → Ax) : (L.updAx n f).slewWait = L.slewWait := rfl
@[simp] theorem Lane.rkn_updAx (L : Lane) (n : Nat) (f : Ax → Ax) : (L.updAx n f).rkn = L.rkn := rfl
@[simp] theorem Lane.rate_updAx (L : Lane) (n : Nat) (f : Ax → Ax) : (L.updAx n f).rate = L.rate := rfl
@[simp] theorem Lane.est_updAx (L : Lane) (n : Nat) (f : Ax → Ax) : (L.updAx n f).est = L.est := rfl
@[simp] theorem Lane.frac_updAx (L : Lane) (n : Nat) (f : Ax → Ax) : (L.updAx n f).frac = L.frac := rfl
@[simp] theorem Lane.wp_updAx (L : Lane) (n : Nat) (f : Ax → Ax) : (L.updAx n f).wp = L.wp := rfl
@[simp] theorem Lane.rknClosing_updAx (L : Lane) (n : Nat) (f : Ax → Ax) : (L.updAx n f).rknClosing = L.rknClosing := rfl
@[simp] theorem Lane.eng_updAx (L : Lane) (n : Nat) (f : Ax → Ax) : (L.updAx n f).eng = L.eng := rfl
@[simp] theorem Lane.edg_updAx (L : Lane) (n : Nat) (f : Ax → Ax) : (L.updAx n f).edg = L.edg := rfl
@[simp] theorem Lane.mc_updAx (L : Lane) (n : Nat) (f : Ax → Ax) : (L.updAx n f).mc = L.mc := rfl
@[simp] theorem Lane.posts_updAx (L : Lane) (n : Nat) (f : Ax → Ax) : (L.updAx n f).posts = L.posts := rfl
@[simp] theorem Lane.retained_updAx (L : Lane) (n : Nat) (f : Ax → Ax) : (L.updAx n f).retained = L.retained := rfl
@[simp] theorem Lane.reqAt_updAx (L : Lane) (n : Nat) (f : Ax → Ax) : (L.updAx n f).reqAt = L.reqAt := rfl
@[simp] theorem Lane.goneAt_updAx (L : Lane) (n : Nat) (f : Ax → Ax) : (L.updAx n f).goneAt = L.goneAt := rfl
@[simp] theorem Lane.flash_updAx (L : Lane) (n : Nat) (f : Ax → Ax) : (L.updAx n f).flash = L.flash := rfl
@[simp] theorem Lane.nvmWait_updAx (L : Lane) (n : Nat) (f : Ax → Ax) : (L.updAx n f).nvmWait = L.nvmWait := rfl
@[simp] theorem Lane.meas_updAx (L : Lane) (n : Nat) (f : Ax → Ax) : (L.updAx n f).meas = L.meas := rfl
@[simp] theorem Lane.posIf_updAx (L : Lane) (n : Nat) (f : Ax → Ax) : (L.updAx n f).posIf = L.posIf := rfl
@[simp] theorem Lane.sent_updAx (L : Lane) (n : Nat) (f : Ax → Ax) : (L.updAx n f).sent = L.sent := rfl
@[simp] theorem Lane.trav_updAx (L : Lane) (n : Nat) (f : Ax → Ax) : (L.updAx n f).trav = L.trav := rfl
@[simp] theorem Lane.hn_updAx (L : Lane) (n : Nat) (f : Ax → Ax) : (L.updAx n f).hn = L.hn := rfl
@[simp] theorem Lane.isb_updAx (L : Lane) (n : Nat) (f : Ax → Ax) : (L.updAx n f).isb = L.isb := rfl
@[simp] theorem Lane.svc_updAx (L : Lane) (n : Nat) (f : Ax → Ax) : (L.updAx n f).svc = L.svc := rfl
@[simp] theorem Lane.eth_updAx (L : Lane) (n : Nat) (f : Ax → Ax) : (L.updAx n f).eth = L.eth := rfl
@[simp] theorem Lane.safe_updAx (L : Lane) (n : Nat) (f : Ax → Ax) : (L.updAx n f).safe = L.safe := rfl
@[simp] theorem Lane.ck_updAx (L : Lane) (n : Nat) (f : Ax → Ax) : (L.updAx n f).ck = L.ck := rfl
@[simp] theorem Lane.dg_updAx (L : Lane) (n : Nat) (f : Ax → Ax) : (L.updAx n f).dg = L.dg := rfl
@[simp] theorem Lane.pw_updAx (L : Lane) (n : Nat) (f : Ax → Ax) : (L.updAx n f).pw = L.pw := rfl
@[simp] theorem Lane.snd_updAx (L : Lane) (n : Nat) (f : Ax → Ax) : (L.updAx n f).snd = L.snd := rfl
@[simp] theorem Lane.outP_updAx (L : Lane) (n : Nat) (f : Ax → Ax) : (L.updAx n f).outP = L.outP := rfl
@[simp] theorem Lane.outR_updAx (L : Lane) (n : Nat) (f : Ax → Ax) : (L.updAx n f).outR = L.outR := rfl

/-! #### updMc -/

@[simp] theorem Lane.me_updMc (L : Lane) (n : Nat) (f : Mc → Mc) : (L.updMc n f).me = L.me := rfl
@[simp] theorem Lane.small_updMc (L : Lane) (n : Nat) (f : Mc → Mc) : (L.updMc n f).small = L.small := rfl
@[simp] theorem Lane.regs_updMc (L : Lane) (n : Nat) (f : Mc → Mc) : (L.updMc n f).regs = L.regs := rfl
@[simp] theorem Lane.mem_updMc (L : Lane) (n : Nat) (f : Mc → Mc) : (L.updMc n f).mem = L.mem := rfl
@[simp] theorem Lane.pmPar_updMc (L : Lane) (n : Nat) (f : Mc → Mc) : (L.updMc n f).pmPar = L.pmPar := rfl
@[simp] theorem Lane.rdata_updMc (L : Lane) (n : Nat) (f : Mc → Mc) : (L.updMc n f).rdata = L.rdata := rfl
@[simp] theorem Lane.busErr_updMc (L : Lane) (n : Nat) (f : Mc → Mc) : (L.updMc n f).busErr = L.busErr := rfl
@[simp] theorem Lane.busAddr_updMc (L : Lane) (n : Nat) (f : Mc → Mc) : (L.updMc n f).busAddr = L.busAddr := rfl
@[simp] theorem Lane.setNow_updMc (L : Lane) (n : Nat) (f : Mc → Mc) : (L.updMc n f).setNow = L.setNow := rfl
@[simp] theorem Lane.w1sNow_updMc (L : Lane) (n : Nat) (f : Mc → Mc) : (L.updMc n f).w1sNow = L.w1sNow := rfl
@[simp] theorem Lane.irqPrev_updMc (L : Lane) (n : Nat) (f : Mc → Mc) : (L.updMc n f).irqPrev = L.irqPrev := rfl
@[simp] theorem Lane.inSvc_updMc (L : Lane) (n : Nat) (f : Mc → Mc) : (L.updMc n f).inSvc = L.inSvc := rfl
@[simp] theorem Lane.ticks_updMc (L : Lane) (n : Nat) (f : Mc → Mc) : (L.updMc n f).ticks = L.ticks := rfl
@[simp] theorem Lane.free_updMc (L : Lane) (n : Nat) (f : Mc → Mc) : (L.updMc n f).free = L.free := rfl
@[simp] theorem Lane.gt_updMc (L : Lane) (n : Nat) (f : Mc → Mc) : (L.updMc n f).gt = L.gt := rfl
@[simp] theorem Lane.slewHelm_updMc (L : Lane) (n : Nat) (f : Mc → Mc) : (L.updMc n f).slewHelm = L.slewHelm := rfl
@[simp] theorem Lane.slewLane_updMc (L : Lane) (n : Nat) (f : Mc → Mc) : (L.updMc n f).slewLane = L.slewLane := rfl
@[simp] theorem Lane.slewWait_updMc (L : Lane) (n : Nat) (f : Mc → Mc) : (L.updMc n f).slewWait = L.slewWait := rfl
@[simp] theorem Lane.rkn_updMc (L : Lane) (n : Nat) (f : Mc → Mc) : (L.updMc n f).rkn = L.rkn := rfl
@[simp] theorem Lane.rate_updMc (L : Lane) (n : Nat) (f : Mc → Mc) : (L.updMc n f).rate = L.rate := rfl
@[simp] theorem Lane.est_updMc (L : Lane) (n : Nat) (f : Mc → Mc) : (L.updMc n f).est = L.est := rfl
@[simp] theorem Lane.frac_updMc (L : Lane) (n : Nat) (f : Mc → Mc) : (L.updMc n f).frac = L.frac := rfl
@[simp] theorem Lane.wp_updMc (L : Lane) (n : Nat) (f : Mc → Mc) : (L.updMc n f).wp = L.wp := rfl
@[simp] theorem Lane.rknClosing_updMc (L : Lane) (n : Nat) (f : Mc → Mc) : (L.updMc n f).rknClosing = L.rknClosing := rfl
@[simp] theorem Lane.eng_updMc (L : Lane) (n : Nat) (f : Mc → Mc) : (L.updMc n f).eng = L.eng := rfl
@[simp] theorem Lane.ax_updMc (L : Lane) (n : Nat) (f : Mc → Mc) : (L.updMc n f).ax = L.ax := rfl
@[simp] theorem Lane.edg_updMc (L : Lane) (n : Nat) (f : Mc → Mc) : (L.updMc n f).edg = L.edg := rfl
@[simp] theorem Lane.posts_updMc (L : Lane) (n : Nat) (f : Mc → Mc) : (L.updMc n f).posts = L.posts := rfl
@[simp] theorem Lane.retained_updMc (L : Lane) (n : Nat) (f : Mc → Mc) : (L.updMc n f).retained = L.retained := rfl
@[simp] theorem Lane.reqAt_updMc (L : Lane) (n : Nat) (f : Mc → Mc) : (L.updMc n f).reqAt = L.reqAt := rfl
@[simp] theorem Lane.goneAt_updMc (L : Lane) (n : Nat) (f : Mc → Mc) : (L.updMc n f).goneAt = L.goneAt := rfl
@[simp] theorem Lane.flash_updMc (L : Lane) (n : Nat) (f : Mc → Mc) : (L.updMc n f).flash = L.flash := rfl
@[simp] theorem Lane.nvmWait_updMc (L : Lane) (n : Nat) (f : Mc → Mc) : (L.updMc n f).nvmWait = L.nvmWait := rfl
@[simp] theorem Lane.meas_updMc (L : Lane) (n : Nat) (f : Mc → Mc) : (L.updMc n f).meas = L.meas := rfl
@[simp] theorem Lane.posIf_updMc (L : Lane) (n : Nat) (f : Mc → Mc) : (L.updMc n f).posIf = L.posIf := rfl
@[simp] theorem Lane.sent_updMc (L : Lane) (n : Nat) (f : Mc → Mc) : (L.updMc n f).sent = L.sent := rfl
@[simp] theorem Lane.trav_updMc (L : Lane) (n : Nat) (f : Mc → Mc) : (L.updMc n f).trav = L.trav := rfl
@[simp] theorem Lane.hn_updMc (L : Lane) (n : Nat) (f : Mc → Mc) : (L.updMc n f).hn = L.hn := rfl
@[simp] theorem Lane.isb_updMc (L : Lane) (n : Nat) (f : Mc → Mc) : (L.updMc n f).isb = L.isb := rfl
@[simp] theorem Lane.svc_updMc (L : Lane) (n : Nat) (f : Mc → Mc) : (L.updMc n f).svc = L.svc := rfl
@[simp] theorem Lane.eth_updMc (L : Lane) (n : Nat) (f : Mc → Mc) : (L.updMc n f).eth = L.eth := rfl
@[simp] theorem Lane.safe_updMc (L : Lane) (n : Nat) (f : Mc → Mc) : (L.updMc n f).safe = L.safe := rfl
@[simp] theorem Lane.ck_updMc (L : Lane) (n : Nat) (f : Mc → Mc) : (L.updMc n f).ck = L.ck := rfl
@[simp] theorem Lane.dg_updMc (L : Lane) (n : Nat) (f : Mc → Mc) : (L.updMc n f).dg = L.dg := rfl
@[simp] theorem Lane.pw_updMc (L : Lane) (n : Nat) (f : Mc → Mc) : (L.updMc n f).pw = L.pw := rfl
@[simp] theorem Lane.snd_updMc (L : Lane) (n : Nat) (f : Mc → Mc) : (L.updMc n f).snd = L.snd := rfl
@[simp] theorem Lane.outP_updMc (L : Lane) (n : Nat) (f : Mc → Mc) : (L.updMc n f).outP = L.outP := rfl
@[simp] theorem Lane.outR_updMc (L : Lane) (n : Nat) (f : Mc → Mc) : (L.updMc n f).outR = L.outR := rfl

/-! #### updWp -/

@[simp] theorem Lane.me_updWp (L : Lane) (n : Nat) (f : Wp → Wp) : (L.updWp n f).me = L.me := rfl
@[simp] theorem Lane.small_updWp (L : Lane) (n : Nat) (f : Wp → Wp) : (L.updWp n f).small = L.small := rfl
@[simp] theorem Lane.regs_updWp (L : Lane) (n : Nat) (f : Wp → Wp) : (L.updWp n f).regs = L.regs := rfl
@[simp] theorem Lane.mem_updWp (L : Lane) (n : Nat) (f : Wp → Wp) : (L.updWp n f).mem = L.mem := rfl
@[simp] theorem Lane.pmPar_updWp (L : Lane) (n : Nat) (f : Wp → Wp) : (L.updWp n f).pmPar = L.pmPar := rfl
@[simp] theorem Lane.rdata_updWp (L : Lane) (n : Nat) (f : Wp → Wp) : (L.updWp n f).rdata = L.rdata := rfl
@[simp] theorem Lane.busErr_updWp (L : Lane) (n : Nat) (f : Wp → Wp) : (L.updWp n f).busErr = L.busErr := rfl
@[simp] theorem Lane.busAddr_updWp (L : Lane) (n : Nat) (f : Wp → Wp) : (L.updWp n f).busAddr = L.busAddr := rfl
@[simp] theorem Lane.setNow_updWp (L : Lane) (n : Nat) (f : Wp → Wp) : (L.updWp n f).setNow = L.setNow := rfl
@[simp] theorem Lane.w1sNow_updWp (L : Lane) (n : Nat) (f : Wp → Wp) : (L.updWp n f).w1sNow = L.w1sNow := rfl
@[simp] theorem Lane.irqPrev_updWp (L : Lane) (n : Nat) (f : Wp → Wp) : (L.updWp n f).irqPrev = L.irqPrev := rfl
@[simp] theorem Lane.inSvc_updWp (L : Lane) (n : Nat) (f : Wp → Wp) : (L.updWp n f).inSvc = L.inSvc := rfl
@[simp] theorem Lane.ticks_updWp (L : Lane) (n : Nat) (f : Wp → Wp) : (L.updWp n f).ticks = L.ticks := rfl
@[simp] theorem Lane.free_updWp (L : Lane) (n : Nat) (f : Wp → Wp) : (L.updWp n f).free = L.free := rfl
@[simp] theorem Lane.gt_updWp (L : Lane) (n : Nat) (f : Wp → Wp) : (L.updWp n f).gt = L.gt := rfl
@[simp] theorem Lane.slewHelm_updWp (L : Lane) (n : Nat) (f : Wp → Wp) : (L.updWp n f).slewHelm = L.slewHelm := rfl
@[simp] theorem Lane.slewLane_updWp (L : Lane) (n : Nat) (f : Wp → Wp) : (L.updWp n f).slewLane = L.slewLane := rfl
@[simp] theorem Lane.slewWait_updWp (L : Lane) (n : Nat) (f : Wp → Wp) : (L.updWp n f).slewWait = L.slewWait := rfl
@[simp] theorem Lane.rkn_updWp (L : Lane) (n : Nat) (f : Wp → Wp) : (L.updWp n f).rkn = L.rkn := rfl
@[simp] theorem Lane.rate_updWp (L : Lane) (n : Nat) (f : Wp → Wp) : (L.updWp n f).rate = L.rate := rfl
@[simp] theorem Lane.est_updWp (L : Lane) (n : Nat) (f : Wp → Wp) : (L.updWp n f).est = L.est := rfl
@[simp] theorem Lane.frac_updWp (L : Lane) (n : Nat) (f : Wp → Wp) : (L.updWp n f).frac = L.frac := rfl
@[simp] theorem Lane.rknClosing_updWp (L : Lane) (n : Nat) (f : Wp → Wp) : (L.updWp n f).rknClosing = L.rknClosing := rfl
@[simp] theorem Lane.eng_updWp (L : Lane) (n : Nat) (f : Wp → Wp) : (L.updWp n f).eng = L.eng := rfl
@[simp] theorem Lane.ax_updWp (L : Lane) (n : Nat) (f : Wp → Wp) : (L.updWp n f).ax = L.ax := rfl
@[simp] theorem Lane.edg_updWp (L : Lane) (n : Nat) (f : Wp → Wp) : (L.updWp n f).edg = L.edg := rfl
@[simp] theorem Lane.mc_updWp (L : Lane) (n : Nat) (f : Wp → Wp) : (L.updWp n f).mc = L.mc := rfl
@[simp] theorem Lane.posts_updWp (L : Lane) (n : Nat) (f : Wp → Wp) : (L.updWp n f).posts = L.posts := rfl
@[simp] theorem Lane.retained_updWp (L : Lane) (n : Nat) (f : Wp → Wp) : (L.updWp n f).retained = L.retained := rfl
@[simp] theorem Lane.reqAt_updWp (L : Lane) (n : Nat) (f : Wp → Wp) : (L.updWp n f).reqAt = L.reqAt := rfl
@[simp] theorem Lane.goneAt_updWp (L : Lane) (n : Nat) (f : Wp → Wp) : (L.updWp n f).goneAt = L.goneAt := rfl
@[simp] theorem Lane.flash_updWp (L : Lane) (n : Nat) (f : Wp → Wp) : (L.updWp n f).flash = L.flash := rfl
@[simp] theorem Lane.nvmWait_updWp (L : Lane) (n : Nat) (f : Wp → Wp) : (L.updWp n f).nvmWait = L.nvmWait := rfl
@[simp] theorem Lane.meas_updWp (L : Lane) (n : Nat) (f : Wp → Wp) : (L.updWp n f).meas = L.meas := rfl
@[simp] theorem Lane.posIf_updWp (L : Lane) (n : Nat) (f : Wp → Wp) : (L.updWp n f).posIf = L.posIf := rfl
@[simp] theorem Lane.sent_updWp (L : Lane) (n : Nat) (f : Wp → Wp) : (L.updWp n f).sent = L.sent := rfl
@[simp] theorem Lane.trav_updWp (L : Lane) (n : Nat) (f : Wp → Wp) : (L.updWp n f).trav = L.trav := rfl
@[simp] theorem Lane.hn_updWp (L : Lane) (n : Nat) (f : Wp → Wp) : (L.updWp n f).hn = L.hn := rfl
@[simp] theorem Lane.isb_updWp (L : Lane) (n : Nat) (f : Wp → Wp) : (L.updWp n f).isb = L.isb := rfl
@[simp] theorem Lane.svc_updWp (L : Lane) (n : Nat) (f : Wp → Wp) : (L.updWp n f).svc = L.svc := rfl
@[simp] theorem Lane.eth_updWp (L : Lane) (n : Nat) (f : Wp → Wp) : (L.updWp n f).eth = L.eth := rfl
@[simp] theorem Lane.safe_updWp (L : Lane) (n : Nat) (f : Wp → Wp) : (L.updWp n f).safe = L.safe := rfl
@[simp] theorem Lane.ck_updWp (L : Lane) (n : Nat) (f : Wp → Wp) : (L.updWp n f).ck = L.ck := rfl
@[simp] theorem Lane.dg_updWp (L : Lane) (n : Nat) (f : Wp → Wp) : (L.updWp n f).dg = L.dg := rfl
@[simp] theorem Lane.pw_updWp (L : Lane) (n : Nat) (f : Wp → Wp) : (L.updWp n f).pw = L.pw := rfl
@[simp] theorem Lane.snd_updWp (L : Lane) (n : Nat) (f : Wp → Wp) : (L.updWp n f).snd = L.snd := rfl
@[simp] theorem Lane.outP_updWp (L : Lane) (n : Nat) (f : Wp → Wp) : (L.updWp n f).outP = L.outP := rfl
@[simp] theorem Lane.outR_updWp (L : Lane) (n : Nat) (f : Wp → Wp) : (L.updWp n f).outR = L.outR := rfl

/-! #### updEth -/

@[simp] theorem Lane.me_updEth (L : Lane) (n : Nat) (f : EthCtl → EthCtl) : (L.updEth n f).me = L.me := rfl
@[simp] theorem Lane.small_updEth (L : Lane) (n : Nat) (f : EthCtl → EthCtl) : (L.updEth n f).small = L.small := rfl
@[simp] theorem Lane.regs_updEth (L : Lane) (n : Nat) (f : EthCtl → EthCtl) : (L.updEth n f).regs = L.regs := rfl
@[simp] theorem Lane.mem_updEth (L : Lane) (n : Nat) (f : EthCtl → EthCtl) : (L.updEth n f).mem = L.mem := rfl
@[simp] theorem Lane.pmPar_updEth (L : Lane) (n : Nat) (f : EthCtl → EthCtl) : (L.updEth n f).pmPar = L.pmPar := rfl
@[simp] theorem Lane.rdata_updEth (L : Lane) (n : Nat) (f : EthCtl → EthCtl) : (L.updEth n f).rdata = L.rdata := rfl
@[simp] theorem Lane.busErr_updEth (L : Lane) (n : Nat) (f : EthCtl → EthCtl) : (L.updEth n f).busErr = L.busErr := rfl
@[simp] theorem Lane.busAddr_updEth (L : Lane) (n : Nat) (f : EthCtl → EthCtl) : (L.updEth n f).busAddr = L.busAddr := rfl
@[simp] theorem Lane.setNow_updEth (L : Lane) (n : Nat) (f : EthCtl → EthCtl) : (L.updEth n f).setNow = L.setNow := rfl
@[simp] theorem Lane.w1sNow_updEth (L : Lane) (n : Nat) (f : EthCtl → EthCtl) : (L.updEth n f).w1sNow = L.w1sNow := rfl
@[simp] theorem Lane.irqPrev_updEth (L : Lane) (n : Nat) (f : EthCtl → EthCtl) : (L.updEth n f).irqPrev = L.irqPrev := rfl
@[simp] theorem Lane.inSvc_updEth (L : Lane) (n : Nat) (f : EthCtl → EthCtl) : (L.updEth n f).inSvc = L.inSvc := rfl
@[simp] theorem Lane.ticks_updEth (L : Lane) (n : Nat) (f : EthCtl → EthCtl) : (L.updEth n f).ticks = L.ticks := rfl
@[simp] theorem Lane.free_updEth (L : Lane) (n : Nat) (f : EthCtl → EthCtl) : (L.updEth n f).free = L.free := rfl
@[simp] theorem Lane.gt_updEth (L : Lane) (n : Nat) (f : EthCtl → EthCtl) : (L.updEth n f).gt = L.gt := rfl
@[simp] theorem Lane.slewHelm_updEth (L : Lane) (n : Nat) (f : EthCtl → EthCtl) : (L.updEth n f).slewHelm = L.slewHelm := rfl
@[simp] theorem Lane.slewLane_updEth (L : Lane) (n : Nat) (f : EthCtl → EthCtl) : (L.updEth n f).slewLane = L.slewLane := rfl
@[simp] theorem Lane.slewWait_updEth (L : Lane) (n : Nat) (f : EthCtl → EthCtl) : (L.updEth n f).slewWait = L.slewWait := rfl
@[simp] theorem Lane.rkn_updEth (L : Lane) (n : Nat) (f : EthCtl → EthCtl) : (L.updEth n f).rkn = L.rkn := rfl
@[simp] theorem Lane.rate_updEth (L : Lane) (n : Nat) (f : EthCtl → EthCtl) : (L.updEth n f).rate = L.rate := rfl
@[simp] theorem Lane.est_updEth (L : Lane) (n : Nat) (f : EthCtl → EthCtl) : (L.updEth n f).est = L.est := rfl
@[simp] theorem Lane.frac_updEth (L : Lane) (n : Nat) (f : EthCtl → EthCtl) : (L.updEth n f).frac = L.frac := rfl
@[simp] theorem Lane.wp_updEth (L : Lane) (n : Nat) (f : EthCtl → EthCtl) : (L.updEth n f).wp = L.wp := rfl
@[simp] theorem Lane.rknClosing_updEth (L : Lane) (n : Nat) (f : EthCtl → EthCtl) : (L.updEth n f).rknClosing = L.rknClosing := rfl
@[simp] theorem Lane.eng_updEth (L : Lane) (n : Nat) (f : EthCtl → EthCtl) : (L.updEth n f).eng = L.eng := rfl
@[simp] theorem Lane.ax_updEth (L : Lane) (n : Nat) (f : EthCtl → EthCtl) : (L.updEth n f).ax = L.ax := rfl
@[simp] theorem Lane.edg_updEth (L : Lane) (n : Nat) (f : EthCtl → EthCtl) : (L.updEth n f).edg = L.edg := rfl
@[simp] theorem Lane.mc_updEth (L : Lane) (n : Nat) (f : EthCtl → EthCtl) : (L.updEth n f).mc = L.mc := rfl
@[simp] theorem Lane.posts_updEth (L : Lane) (n : Nat) (f : EthCtl → EthCtl) : (L.updEth n f).posts = L.posts := rfl
@[simp] theorem Lane.retained_updEth (L : Lane) (n : Nat) (f : EthCtl → EthCtl) : (L.updEth n f).retained = L.retained := rfl
@[simp] theorem Lane.reqAt_updEth (L : Lane) (n : Nat) (f : EthCtl → EthCtl) : (L.updEth n f).reqAt = L.reqAt := rfl
@[simp] theorem Lane.goneAt_updEth (L : Lane) (n : Nat) (f : EthCtl → EthCtl) : (L.updEth n f).goneAt = L.goneAt := rfl
@[simp] theorem Lane.flash_updEth (L : Lane) (n : Nat) (f : EthCtl → EthCtl) : (L.updEth n f).flash = L.flash := rfl
@[simp] theorem Lane.nvmWait_updEth (L : Lane) (n : Nat) (f : EthCtl → EthCtl) : (L.updEth n f).nvmWait = L.nvmWait := rfl
@[simp] theorem Lane.meas_updEth (L : Lane) (n : Nat) (f : EthCtl → EthCtl) : (L.updEth n f).meas = L.meas := rfl
@[simp] theorem Lane.posIf_updEth (L : Lane) (n : Nat) (f : EthCtl → EthCtl) : (L.updEth n f).posIf = L.posIf := rfl
@[simp] theorem Lane.sent_updEth (L : Lane) (n : Nat) (f : EthCtl → EthCtl) : (L.updEth n f).sent = L.sent := rfl
@[simp] theorem Lane.trav_updEth (L : Lane) (n : Nat) (f : EthCtl → EthCtl) : (L.updEth n f).trav = L.trav := rfl
@[simp] theorem Lane.hn_updEth (L : Lane) (n : Nat) (f : EthCtl → EthCtl) : (L.updEth n f).hn = L.hn := rfl
@[simp] theorem Lane.isb_updEth (L : Lane) (n : Nat) (f : EthCtl → EthCtl) : (L.updEth n f).isb = L.isb := rfl
@[simp] theorem Lane.svc_updEth (L : Lane) (n : Nat) (f : EthCtl → EthCtl) : (L.updEth n f).svc = L.svc := rfl
@[simp] theorem Lane.safe_updEth (L : Lane) (n : Nat) (f : EthCtl → EthCtl) : (L.updEth n f).safe = L.safe := rfl
@[simp] theorem Lane.ck_updEth (L : Lane) (n : Nat) (f : EthCtl → EthCtl) : (L.updEth n f).ck = L.ck := rfl
@[simp] theorem Lane.dg_updEth (L : Lane) (n : Nat) (f : EthCtl → EthCtl) : (L.updEth n f).dg = L.dg := rfl
@[simp] theorem Lane.pw_updEth (L : Lane) (n : Nat) (f : EthCtl → EthCtl) : (L.updEth n f).pw = L.pw := rfl
@[simp] theorem Lane.snd_updEth (L : Lane) (n : Nat) (f : EthCtl → EthCtl) : (L.updEth n f).snd = L.snd := rfl
@[simp] theorem Lane.outP_updEth (L : Lane) (n : Nat) (f : EthCtl → EthCtl) : (L.updEth n f).outP = L.outP := rfl
@[simp] theorem Lane.outR_updEth (L : Lane) (n : Nat) (f : EthCtl → EthCtl) : (L.updEth n f).outR = L.outR := rfl

/-! #### What the updates write -/

@[simp] theorem Lane.eng_updEng (L : Lane) (f : Eng → Eng) : (L.updEng f).eng = f L.eng := rfl
@[simp] theorem Lane.edg_updEdg (L : Lane) (f : Edg → Edg) : (L.updEdg f).edg = f L.edg := rfl
@[simp] theorem Lane.meas_updMeas (L : Lane) (f : Meas → Meas) : (L.updMeas f).meas = f L.meas := rfl
@[simp] theorem Lane.hn_updHn (L : Lane) (f : Hn → Hn) : (L.updHn f).hn = f L.hn := rfl
@[simp] theorem Lane.trav_updTrav (L : Lane) (f : Trav → Trav) : (L.updTrav f).trav = f L.trav := rfl
@[simp] theorem Lane.safe_updSafe (L : Lane) (f : Safe → Safe) : (L.updSafe f).safe = f L.safe := rfl
@[simp] theorem Lane.ck_updCk (L : Lane) (f : Ck → Ck) : (L.updCk f).ck = f L.ck := rfl
@[simp] theorem Lane.dg_updDg (L : Lane) (f : Dg → Dg) : (L.updDg f).dg = f L.dg := rfl
@[simp] theorem Lane.pw_updPw (L : Lane) (f : Pw → Pw) : (L.updPw f).pw = f L.pw := rfl
@[simp] theorem Lane.posIf_updPos (L : Lane) (n : Nat) (f : PosIf → PosIf) : (L.updPos n f).posIf = L.posIf.upd n f := rfl
@[simp] theorem Lane.sent_updSent (L : Lane) (n : Nat) (f : SentIn → SentIn) : (L.updSent n f).sent = L.sent.upd n f := rfl
@[simp] theorem Lane.ax_updAx (L : Lane) (n : Nat) (f : Ax → Ax) : (L.updAx n f).ax = L.ax.upd n f := rfl
@[simp] theorem Lane.mc_updMc (L : Lane) (n : Nat) (f : Mc → Mc) : (L.updMc n f).mc = L.mc.upd n f := rfl
@[simp] theorem Lane.wp_updWp (L : Lane) (n : Nat) (f : Wp → Wp) : (L.updWp n f).wp = L.wp.upd n f := rfl
@[simp] theorem Lane.eth_updEth (L : Lane) (n : Nat) (f : EthCtl → EthCtl) : (L.updEth n f).eth = L.eth.upd n f := rfl
@[simp] theorem Lane.rdata_busEnd (L : Lane) (v : Word) (e : Bool) (a : Nat) : (L.busEnd v e a).rdata = v := rfl
@[simp] theorem Lane.busErr_busEnd (L : Lane) (v : Word) (e : Bool) (a : Nat) : (L.busEnd v e a).busErr = e := rfl

end Sys2Proof.Machine
end

