-- ==== Sys2Proof/Laws/Wire.lean ====
section
/-! SUPPORT. What a lane's part of a step, and a bus access as it reaches the device, can change. -/

namespace Sys2Proof.Machine

/-! ### Packets and records put on the links -/

/-- A list of changes of dies changes nothing else. -/
theorem foldl_onDie_rest {β γ : Type} (g : State → γ) (hg : ∀ (s : State) (n : Nat) (f : Die → Die), g (s.onDie n f) = g s) (n : β → Nat)
    (f : β → Die → Die) (ps : List β) : ∀ s : State, g (ps.foldl (fun s p => s.onDie (n p) (f p)) s) = g s := by
  induction ps with
  | nil => exact fun _ => rfl
  | cons p t ih =>
    intro s
    rw [List.foldl_cons, ih, hg]

@[simp] theorem State.lane_putPkts (s : State) (ps : List (Nat × Pkt)) (l : LaneId) : (s.putPkts ps).lane l = s.lane l :=
  foldl_onDie_rest (fun s => s.lane l) (fun s n f => State.lane_onDie s n f l) _ _ ps s
@[simp] theorem State.lane_putRecs (s : State) (ps : List (Nat × PortRec)) (l : LaneId) : (s.putRecs ps).lane l = s.lane l :=
  foldl_onDie_rest (fun s => s.lane l) (fun s n f => State.lane_onDie s n f l) _ _ ps s
@[simp] theorem State.bin_putPkts (s : State) (ps : List (Nat × Pkt)) : (s.putPkts ps).bin = s.bin :=
  foldl_onDie_rest State.bin State.bin_onDie _ _ ps s
@[simp] theorem State.bin_putRecs (s : State) (ps : List (Nat × PortRec)) : (s.putRecs ps).bin = s.bin :=
  foldl_onDie_rest State.bin State.bin_onDie _ _ ps s
@[simp] theorem State.keep_putPkts (s : State) (ps : List (Nat × Pkt)) : (s.putPkts ps).keep = s.keep :=
  foldl_onDie_rest State.keep State.keep_onDie _ _ ps s
@[simp] theorem State.keep_putRecs (s : State) (ps : List (Nat × PortRec)) : (s.putRecs ps).keep = s.keep :=
  foldl_onDie_rest State.keep State.keep_onDie _ _ ps s
@[simp] theorem State.dbgq_putPkts (s : State) (ps : List (Nat × Pkt)) : (s.putPkts ps).dbgq = s.dbgq :=
  foldl_onDie_rest State.dbgq State.dbgq_onDie _ _ ps s
@[simp] theorem State.dbgq_putRecs (s : State) (ps : List (Nat × PortRec)) : (s.putRecs ps).dbgq = s.dbgq :=
  foldl_onDie_rest State.dbgq State.dbgq_onDie _ _ ps s
@[simp] theorem State.pending_putPkts (s : State) (ps : List (Nat × Pkt)) : (s.putPkts ps).pending = s.pending :=
  foldl_onDie_rest State.pending State.pending_onDie _ _ ps s
@[simp] theorem State.pending_putRecs (s : State) (ps : List (Nat × PortRec)) : (s.putRecs ps).pending = s.pending :=
  foldl_onDie_rest State.pending State.pending_onDie _ _ ps s

/-! ### A lane's part of a step -/

/-- The lane as its part of the step leaves it, with what it put on its links handed over. -/
@[simp] theorem State.lane_run_same (s : State) (l : LaneId) (f : Lane → Lane) : (s.run l f).lane l = { f (s.lane l) with outP := [], outR := [] } := by
  simp [State.run]

/-- A lane's part of a step leaves the other lanes. -/
theorem State.lane_run_other (s : State) {l k : LaneId} (f : Lane → Lane) (h : k ≠ l) : (s.run l f).lane k = s.lane k := by
  simp [State.run, State.lane_setLane_other s _ h]

@[simp] theorem State.bin_run (s : State) (l : LaneId) (f : Lane → Lane) : (s.run l f).bin = s.bin := by simp [State.run]
@[simp] theorem State.keep_run (s : State) (l : LaneId) (f : Lane → Lane) : (s.run l f).keep = s.keep := by simp [State.run]
@[simp] theorem State.dbgq_run (s : State) (l : LaneId) (f : Lane → Lane) : (s.run l f).dbgq = s.dbgq := by simp [State.run]
@[simp] theorem State.pending_run (s : State) (l : LaneId) (f : Lane → Lane) : (s.run l f).pending = s.pending := by simp [State.run]

@[simp] theorem State.lane_laneSend_same (s : State) (l : LaneId) (f : Lane → Lane × List (Nat × Pkt)) : (s.laneSend l f).lane l = (f (s.lane l)).1 := by
  simp [State.laneSend]
theorem State.lane_laneSend_other (s : State) {l k : LaneId} (f : Lane → Lane × List (Nat × Pkt)) (h : k ≠ l) : (s.laneSend l f).lane k = s.lane k := by
  simp [State.laneSend, State.lane_setLane_other s _ h]

/-! ### Bus accesses -/

/-- A read by a master that reaches its lane (R139). -/
theorem State.busRead_reached {s : State} {l : LaneId} {m : Master} (sz : AccSize) (a : Nat) (h : s.reaches l m = true) :
    s.busRead l m sz a = s.run l fun L => L.busRead m sz a := by
  rw [State.busRead, if_pos h]

/-- A read by a master that does not reach the lane changes nothing. -/
theorem State.busRead_unreached {s : State} {l : LaneId} {m : Master} (sz : AccSize) (a : Nat) (h : s.reaches l m = false) : s.busRead l m sz a = s := by
  rw [State.busRead, h]
  rfl

/-- A read reaches its lane alone. -/
theorem State.lane_busRead_same {s : State} {l : LaneId} {m : Master} (sz : AccSize) (a : Nat) (h : s.reaches l m = true) :
    (s.busRead l m sz a).lane l = { (s.lane l).busRead m sz a with outP := [], outR := [] } := by
  rw [State.busRead_reached sz a h, State.lane_run_same]

theorem State.lane_busRead_other (s : State) {l k : LaneId} (m : Master) (sz : AccSize) (a : Nat) (h : k ≠ l) :
    (s.busRead l m sz a).lane k = s.lane k := by
  unfold State.busRead
  split
  · exact State.lane_run_other s _ h
  · rfl

/-- Where no Helm Net disable waits, nothing settles. -/
theorem State.helmSettle_quiet {s : State} (h : ∀ k, (s.lane k).hn.closing = false) : s.helmSettle = s := by
  unfold State.helmSettle
  split
  · rfl
  · have ha := h .A
    have hb := h .B
    have hc := h .C
    simp only [State.lane] at ha hb hc
    simp [State.onLanes, ha, hb, hc]

@[simp] theorem State.lane_hearAnswer (s : State) (L : Lane) (sz : AccSize) (a : Nat) (v : Word) (l : LaneId) :
    (s.hearAnswer L sz a v).lane l = s.lane l := by
  unfold State.hearAnswer
  split
  · split <;> cases l <;> rfl
  · rfl

/-- A write reaches its lane; another lane changes only where a Helm Net disable waits. -/
theorem State.lane_busWrite_same (s : State) (l : LaneId) (sz : AccSize) (a : Nat) (v : Word) (hq : ∀ k, k ≠ l → (s.lane k).hn.closing = false)
    (hl : ((s.lane l).busWrite sz a v).hn.closing = false) :
    (s.busWrite l sz a v).lane l = { (s.lane l).busWrite sz a v with outP := [], outR := [] } := by
  unfold State.busWrite
  rw [State.helmSettle_quiet]
  · simp
  · intro k
    by_cases h : k = l
    · subst h
      simpa using hl
    · simpa [State.lane_run_other s _ h] using hq k h

theorem State.lane_busWrite_other (s : State) {l k : LaneId} (sz : AccSize) (a : Nat) (v : Word) (hk : k ≠ l)
    (hq : (s.lane k).hn.closing = false) : (s.busWrite l sz a v).lane k = s.lane k := by
  have h : ((s.run l fun L => L.busWrite sz a v).hearAnswer (s.lane l) sz a v).lane k = s.lane k := by
    simp [State.lane_run_other s _ hk]
  unfold State.busWrite State.helmSettle
  split
  · exact h
  · simp only [State.lane_onLanes, h, hq, Bool.false_eq_true, if_false]

/-- A write to a register that a row lists, which is not locked and which its block does not refuse (R17, R21, R624): the bits are stored by their
access codes, and the block does what the write starts. -/
theorem Lane.busWrite_reg {L : Lane} {a : Nat} {row : RegRow} {v : Word} (hm : memWritable a = none) (hb : memBank a = none) (hr : regRow a = some row)
    (hp : L.absentReg a = false) (hl : row.rwl = 0 ∨ L.on R.IMG_LOCK_STAT F.IMG_LOCK_STAT_LOCKED = false)
    (hf : (L.busEnd L.rdata false a).refusal a row v = none) :
    L.busWrite .word a v
      = (((L.busEnd L.rdata false a).signW a v).store a row (row.rw ||| row.rwl) v).written ((L.busEnd L.rdata false a).signW a v) a v := by
  have hbank : L.bankOut a = false := by simp [Lane.bankOut, hb]
  have hlk : ¬(row.rwl ≠ 0 ∧ (L.busEnd L.rdata false a).on R.IMG_LOCK_STAT F.IMG_LOCK_STAT_LOCKED = true) := by
    rintro ⟨h1, h2⟩
    rcases hl with h | h
    · exact h1 h
    · have e : (L.busEnd L.rdata false a).on R.IMG_LOCK_STAT F.IMG_LOCK_STAT_LOCKED = L.on R.IMG_LOCK_STAT F.IMG_LOCK_STAT_LOCKED := rfl
      rw [e, h] at h2
      exact absurd h2 (by decide)
  unfold Lane.busWrite
  rw [hbank, hm, hr]
  simp only [Bool.false_eq_true, if_false, ne_eq, not_true_eq_false, hp]
  unfold Lane.regWrite
  rw [if_neg hlk, hf]

end Sys2Proof.Machine
end

