-- ==== Sys2Proof/Laws/Frame.lean ====
section
/-! SUPPORT. The laws of the frames: they compose, each register operation has its frame, and a lane's part of a step leaves everything else. -/

namespace Sys2Proof.Machine

/-! ### Frames of a lane -/

/-- A byte depends on the store and on the active banks of the axes alone. -/
theorem Lane.byte_bank {L M : Lane} (hm : M.mem = L.mem)
    (hb : ∀ x, x < 12 → F.AX_BANK_ACTB.on (M.rd (R.AX_BANK x)) = F.AX_BANK_ACTB.on (L.rd (R.AX_BANK x))) (a : Nat) : M.byte a = L.byte a := by
  have hi : ∀ w, M.coefIdx w = L.coefIdx w := by
    intro w
    unfold Lane.coefIdx
    by_cases h : 0x10000 ≤ w ∧ w < 0x1C000
    · rw [if_pos h, if_pos h, hb _ (by omega)]
    · rw [if_neg h, if_neg h]
  simp only [Lane.byte, Lane.place, hm, hi]

theorem Lane.byte_of {L M : Lane} (hm : M.mem = L.mem) (hb : ∀ x, x < 12 → M.rd (R.AX_BANK x) = L.rd (R.AX_BANK x)) (a : Nat) : M.byte a = L.byte a :=
  Lane.byte_bank hm (fun x hx => by rw [hb x hx]) a

theorem Lane.flashByte_of {L M : Lane} (hf : M.flash = L.flash) (a : Nat) : M.flashByte a = L.flashByte a := by simp [Lane.flashByte, hf]

theorem Lane.BytesSame.of {L M : Lane} (hm : M.mem = L.mem) (hf : M.flash = L.flash) (hb : ∀ x, x < 12 → M.rd (R.AX_BANK x) = L.rd (R.AX_BANK x)) :
    Lane.BytesSame L M := ⟨Lane.byte_of hm hb, Lane.flashByte_of hf⟩

theorem Lane.BytesSame.trans {L M N : Lane} (h : Lane.BytesSame L M) (k : Lane.BytesSame M N) : Lane.BytesSame L N :=
  ⟨fun a => (k.1 a).trans (h.1 a), fun a => (k.2 a).trans (h.2 a)⟩

theorem Lane.RegsBut.trans {rs : List Nat} {L M N : Lane} (h : Lane.RegsBut rs L M) (k : Lane.RegsBut rs M N) : Lane.RegsBut rs L N :=
  fun r hr => (k r hr).trans (h r hr)

theorem Lane.Frame.trans {rs : List Nat} {L M N : Lane} (h : Lane.Frame rs L M) (k : Lane.Frame rs M N) : Lane.Frame rs L N :=
  ⟨h.1.trans k.1, h.2.trans k.2⟩

theorem Lane.Frame.mono {rs qs : List Nat} {L M : Lane} (h : Lane.Frame rs L M) (hs : ∀ x ∈ rs, x ∈ qs) : Lane.Frame qs L M :=
  ⟨fun r hr => h.1 r fun hm => hr (hs _ hm), h.2⟩

theorem Lane.BlockFrame.trans {ws : List Nat} {L M N : Lane} (h : Lane.BlockFrame ws L M) (k : Lane.BlockFrame ws M N) : Lane.BlockFrame ws L N :=
  ⟨fun r hr => (k.1 r hr).trans (h.1 r hr), h.2.trans k.2⟩

theorem Lane.Frame.block {rs ws : List Nat} {L M : Lane} (h : Lane.Frame rs L M) (hs : ∀ x ∈ rs, x / 0x10000 ∈ ws) : Lane.BlockFrame ws L M :=
  ⟨fun r hr => h.1 r fun hm => hr (hs _ hm), h.2⟩

/-- A change of a lane outside its registers, its memory and its flash. -/
theorem Lane.Frame.of_eq {L M : Lane} (hr : M.regs = L.regs) (hm : M.mem = L.mem) (hf : M.flash = L.flash) (rs : List Nat) : Lane.Frame rs L M :=
  ⟨fun r _ => Lane.rd_congr hr r, Lane.BytesSame.of hm hf fun _ _ => Lane.rd_congr hr _⟩

theorem Lane.Frame.refl (rs : List Nat) (L : Lane) : Lane.Frame rs L L := Lane.Frame.of_eq rfl rfl rfl rs

/-- Changes of registers at addresses listed, none of them a bank register (R195). -/
theorem Lane.Frame.regs {L M : Lane} {rs : List Nat} (hr : Lane.RegsBut rs L M) (hm : M.mem = L.mem) (hf : M.flash = L.flash)
    (hb : ∀ x, x < 12 → (R.AX_BANK x).addr ∉ rs) : Lane.Frame rs L M :=
  ⟨hr, Lane.BytesSame.of hm hf fun x hx => hr _ (hb x hx)⟩

theorem Lane.RegsBut.wr (L : Lane) (r : Reg) (v : Word) : Lane.RegsBut [r.addr] L (L.wr r v) := fun q hq => L.rd_wr_other v (by simpa using hq)
theorem Lane.RegsBut.setF (L : Lane) (r : Reg) (f : Bf) (n : Nat) : Lane.RegsBut [r.addr] L (L.setF r f n) := Lane.RegsBut.wr L r _
theorem Lane.RegsBut.raise (L : Lane) (r : Reg) (f : Bf) : Lane.RegsBut [r.addr] L (L.raise r f) := fun q hq => L.rd_raise_other f (by simpa using hq)

/-! ### Everything outside a lane -/

theorem Die.LinksOnly.refl (d : Die) : d.LinksOnly d := ⟨[], [], by simp⟩

theorem Die.LinksOnly.trans {d e f : Die} (h : d.LinksOnly e) (k : e.LinksOnly f) : d.LinksOnly f := by
  obtain ⟨p, q, rfl⟩ := h
  obtain ⟨p', q', rfl⟩ := k
  exact ⟨p ++ p', q ++ q', by simp⟩

theorem State.LanesOnly.refl (s : State) : s.LanesOnly s :=
  ⟨rfl, rfl, rfl, rfl, Die.LinksOnly.refl _, Die.LinksOnly.refl _, Die.LinksOnly.refl _, Die.LinksOnly.refl _⟩

theorem State.LanesOnly.trans {s t u : State} (h : s.LanesOnly t) (k : t.LanesOnly u) : s.LanesOnly u := by
  obtain ⟨a, b, c, d, e, f, g, i⟩ := h
  obtain ⟨a', b', c', d', e', f', g', i'⟩ := k
  exact ⟨a'.trans a, b'.trans b, c'.trans c, d'.trans d, e.trans e', f.trans f', g.trans g', i.trans i'⟩

theorem State.LanesOnly.setLane (s : State) (l : LaneId) (L : Lane) : s.LanesOnly (s.setLane l L) := by
  cases l <;>
    exact ⟨rfl, rfl, rfl, rfl, Die.LinksOnly.refl _, Die.LinksOnly.refl _, Die.LinksOnly.refl _, Die.LinksOnly.refl _⟩

theorem State.LanesOnly.onDie (s : State) (n : Nat) (f : Die → Die) (h : ∀ d, Die.LinksOnly d (f d)) : s.LanesOnly (s.onDie n f) := by
  unfold State.onDie State.setDie State.die
  match n with
  | 0 => exact ⟨rfl, rfl, rfl, rfl, h _, Die.LinksOnly.refl _, Die.LinksOnly.refl _, Die.LinksOnly.refl _⟩
  | 1 => exact ⟨rfl, rfl, rfl, rfl, Die.LinksOnly.refl _, h _, Die.LinksOnly.refl _, Die.LinksOnly.refl _⟩
  | 2 => exact ⟨rfl, rfl, rfl, rfl, Die.LinksOnly.refl _, Die.LinksOnly.refl _, h _, Die.LinksOnly.refl _⟩
  | n + 3 => exact ⟨rfl, rfl, rfl, rfl, Die.LinksOnly.refl _, Die.LinksOnly.refl _, Die.LinksOnly.refl _, h _⟩

theorem State.LanesOnly.fold {β : Type} (g : State → β → State) (h : ∀ s x, State.LanesOnly s (g s x)) (xs : List β) :
    ∀ s : State, s.LanesOnly (xs.foldl g s) := by
  induction xs with
  | nil => exact State.LanesOnly.refl
  | cons x t ih => exact fun s => (h s x).trans (ih _)

theorem State.LanesOnly.putPkts (s : State) (ps : List (Nat × Pkt)) : s.LanesOnly (s.putPkts ps) :=
  State.LanesOnly.fold _ (fun s p => State.LanesOnly.onDie s _ _ fun d => by
    split
    · exact ⟨[(p.2.lane, p.2.words)], [], by simp⟩
    · exact Die.LinksOnly.refl d) ps s

theorem State.LanesOnly.putRecs (s : State) (ps : List (Nat × PortRec)) : s.LanesOnly (s.putRecs ps) :=
  State.LanesOnly.fold _ (fun s p => State.LanesOnly.onDie s _ _ fun d => by
    split
    · exact ⟨[], [(p.2.lane, p.2.words)], by simp⟩
    · exact Die.LinksOnly.refl d) ps s

/-- A lane's part of a step changes that lane and what it puts on its links. -/
theorem State.LaneOnly.run (s : State) (l : LaneId) (f : Lane → Lane) : s.LaneOnly l (s.run l f) :=
  ⟨((State.LanesOnly.setLane s l _).trans (State.LanesOnly.putPkts _ _)).trans (State.LanesOnly.putRecs _ _), fun _ hk => State.lane_run_other s f hk⟩

theorem State.LaneOnly.laneSend (s : State) (l : LaneId) (f : Lane → Lane × List (Nat × Pkt)) : s.LaneOnly l (s.laneSend l f) :=
  ⟨(State.LanesOnly.setLane s l _).trans (State.LanesOnly.putPkts _ _), fun _ hk => State.lane_laneSend_other s f hk⟩

theorem State.LaneOnly.refl (l : LaneId) (s : State) : s.LaneOnly l s := ⟨State.LanesOnly.refl s, fun _ _ => rfl⟩

/-- A register write by a lane, where no Helm Net disable waits and the Binnacle hears no answer. -/
theorem State.busWrite_quiet {s : State} {l : LaneId} {sz : AccSize} {a : Nat} {v : Word} (hq : s.Quiet) (ha : a ≠ R.BMB_INCTL.addr)
    (hl : ((s.lane l).busWrite sz a v).hn.closing = false) : s.busWrite l sz a v = s.run l fun L => L.busWrite sz a v := by
  have hh : (s.run l fun L => L.busWrite sz a v).hearAnswer (s.lane l) sz a v = s.run l fun L => L.busWrite sz a v := by
    unfold State.hearAnswer
    split
    · simp [ha]
    · rfl
  unfold State.busWrite
  rw [hh]
  apply State.helmSettle_quiet
  intro k
  by_cases h : k = l
  · subst h
    simpa using hl
  · rw [State.lane_run_other s _ h]
    exact hq k

/-! ### Completion -/

/-- A command that is a lane's part of a step. -/
theorem RunsLane.of_run {i : Instr} {s : State} {l : LaneId} {f : Lane → Lane} {Q : Lane → Lane → Prop} (he : exec i s = .next (s.run l f))
    (hQ : Q (s.lane l) { f (s.lane l) with outP := [], outR := [] }) : RunsLane i s l Q :=
  ⟨_, he, State.LaneOnly.run s l f, by simpa using hQ⟩

/-- A command that is a register write. -/
theorem RunsLane.of_write {i : Instr} {s : State} {l : LaneId} {r : Reg} {v : Word} {Q : Lane → Lane → Prop} (he : exec i s = s.write l r v)
    (hq : s.Quiet) (ha : r.addr ≠ R.BMB_INCTL.addr) (hl : ((s.lane l).busWrite .word r.addr v).hn.closing = false)
    (hQ : Q (s.lane l) { (s.lane l).busWrite .word r.addr v with outP := [], outR := [] }) : RunsLane i s l Q := by
  refine RunsLane.of_run (f := fun L => L.busWrite .word r.addr v) ?_ hQ
  rw [he, State.write, State.busWrite_quiet hq ha hl]

/-- A command at a driver die that has power. -/
theorem RunsDie.of_die {i : Instr} {s : State} {n : Nat} {f : Die → Die} {Q : Die → Die → Prop} (hn : n < 4) (he : exec i s = s.atDie n f)
    (ho : (s.die n).on = true) (hQ : Q (s.die n) (f (s.die n)).dropTest) : RunsDie i s n Q := by
  refine ⟨s.setDie n (f (s.die n)).dropTest, ?_, ?_, ?_⟩
  · rw [he, State.atDie, State.onDie, if_pos ho]
  · rw [State.DieOnly, State.die_setDie_same s _ hn]
  · rw [State.die_setDie_same s _ hn]
    exact hQ

end Sys2Proof.Machine
end

