-- ==== Sys2Proof/Laws/RegRows.lean ====
section
/-! SUPPORT. The rows of the registers that commands write or read, and the windows that they stand in. -/

namespace Sys2Proof.Machine

set_option Elab.async false

/-- No memory of the lane lies in the windows of the blocks (R38, R39). -/
theorem memBank_reg {a : Nat} (h : 0x40000000 ≤ a) : memBank a = none := by
  unfold memBank
  repeat (first | rw [if_neg (by omega)])

theorem memWritable_reg {a : Nat} (h : 0x40000000 ≤ a) : memWritable a = none := by
  unfold memWritable
  rw [if_neg (by omega), if_pos (memBank_reg h)]

theorem regRow_IRQ_COMPLETE : regRow R.IRQ_COMPLETE.addr = some ⟨0x4010000C, 1, 0x10000, 1, 0x4, 0x0, 0x0, 0x0, 0x0, 0x0, true⟩ := by decide +kernel
theorem regRow_AX_CFG (i : Fin 12) : regRow (R.AX_CFG i.val).addr = some ⟨0x40040000, 12, 0x1000, 1, 0x4, 0x0, 0x0, 0x71, 0x0, 0x0, false⟩ := by
  revert i
  decide +kernel
theorem regRow_RKN_CTRL : regRow R.RKN_CTRL.addr = some ⟨0x40010000, 1, 0x10000, 1, 0x4, 0x0, 0x1, 0x0, 0x0, 0x0, false⟩ := by decide +kernel
theorem regRow_RKN_WP_CFG (i : Fin 128) : regRow (R.RKN_WP_CFG i.val).addr = some ⟨0x40011000, 128, 0x20, 1, 0x4, 0x0, 0x70F3F, 0x0, 0x0, 0x0, false⟩ := by
  revert i
  decide +kernel
theorem regRow_RKN_WP_CMP (i : Fin 128) : regRow (R.RKN_WP_CMP i.val).addr = some ⟨0x40011004, 128, 0x20, 1, 0x4, 0x0, 0xFFFFFFFF, 0x0, 0x0, 0x0, false⟩ := by
  revert i
  decide +kernel
theorem regRow_FIX_CTRL : regRow R.FIX_CTRL.addr = some ⟨0x40020000, 1, 0x10000, 1, 0x4, 0x300, 0x0, 0xF01, 0x0, 0x0, false⟩ := by decide +kernel
theorem regRow_FIX_DECPOST : regRow R.FIX_DECPOST.addr = some ⟨0x40020028, 1, 0x10000, 1, 0x4, 0x0, 0x0, 0x0, 0x0, 0x0, true⟩ := by decide +kernel
theorem regRow_EDG_LOAD : regRow R.EDG_LOAD.addr = some ⟨0x40050004, 1, 0x10000, 1, 0x4, 0x0, 0x0, 0x0, 0x0, 0x0, true⟩ := by decide +kernel
theorem regRow_EDG_BCLR (i : Fin 8) : regRow (R.EDG_BCLR i.val).addr = some ⟨0x40050120, 8, 0x40, 1, 0x4, 0x0, 0x0, 0x0, 0x0, 0x0, false⟩ := by
  revert i
  decide +kernel
theorem regRow_EDG_VCLR (i : Fin 12) : regRow (R.EDG_VCLR i.val).addr = some ⟨0x40050414, 12, 0x20, 1, 0x4, 0x0, 0x0, 0x0, 0x0, 0x0, false⟩ := by
  revert i
  decide +kernel
theorem regRow_EDG_SOCLR (i : Fin 8) : regRow (R.EDG_SOCLR i.val).addr = some ⟨0x4005060C, 8, 0x10, 1, 0x4, 0x0, 0x0, 0x0, 0x0, 0x0, false⟩ := by
  revert i
  decide +kernel
theorem regRow_EDG_TRCLR (i : Fin 8) : regRow (R.EDG_TRCLR i.val).addr = some ⟨0x40050708, 8, 0x10, 1, 0x4, 0x0, 0x0, 0x0, 0x0, 0x0, false⟩ := by
  revert i
  decide +kernel
theorem regRow_EDG_BCFG (i : Fin 8) : regRow (R.EDG_BCFG i.val).addr = some ⟨0x40050100, 8, 0x40, 1, 0x4, 0x0, 0x0, 0xD, 0x0, 0x0, false⟩ := by
  revert i
  decide +kernel
theorem regRow_EDG_MCTL (i : Fin 8) : regRow (R.EDG_MCTL i.val).addr = some ⟨0x40054000, 8, 0x80, 1, 0x4, 0x34, 0x0, 0x7D, 0x0, 0x0, false⟩ := by
  revert i
  decide +kernel
theorem regRow_CE_CTRL : regRow R.CE_CTRL.addr = some ⟨0x40030000, 1, 0x10000, 1, 0x4, 0x0, 0x1, 0x0, 0x0, 0x0, false⟩ := by decide +kernel
theorem regRow_CE_TASK (i : Fin 64) : regRow (R.CE_TASK i.val).addr = some ⟨0x40030100, 64, 0x4, 1, 0x4, 0xF00000, 0x0, 0x1F31FFF, 0x0, 0x0, false⟩ := by
  revert i
  decide +kernel
theorem regRow_AX_BANK (i : Fin 12) : regRow (R.AX_BANK i.val).addr = some ⟨0x40040014, 12, 0x1000, 1, 0x4, 0x0, 0x0, 0x0, 0x3000, 0x0, false⟩ := by
  revert i
  decide +kernel
theorem regRow_AX_LBCFG (i : Fin 12) : regRow (R.AX_LBCFG i.val).addr = some ⟨0x40040200, 12, 0x1000, 1, 0x4, 0x30, 0xF71, 0x0, 0x0, 0x0, false⟩ := by
  revert i
  decide +kernel
theorem regRow_MEAS_REF : regRow R.MEAS_REF.addr = some ⟨0x40060008, 1, 0x10000, 1, 0x4, 0x0, 0x1, 0x0, 0x0, 0x0, false⟩ := by decide +kernel
theorem regRow_MEAS_CTRL : regRow R.MEAS_CTRL.addr = some ⟨0x40060000, 1, 0x10000, 1, 0x4, 0x0, 0x1, 0x0, 0x0, 0x0, false⟩ := by decide +kernel
theorem regRow_MEAS_SLCFG (i : Fin 64) : regRow (R.MEAS_SLCFG i.val).addr = some ⟨0x40061000, 64, 0x40, 1, 0x4, 0x0, 0x0, 0xF7F71, 0x0, 0x0, false⟩ := by
  revert i
  decide +kernel
theorem regRow_MEAS_SQCFG (i : Fin 16) : regRow (R.MEAS_SQCFG i.val).addr = some ⟨0x40060100, 16, 0x4, 1, 0x4, 0x100, 0x0, 0x777F3F, 0x0, 0x0, false⟩ := by
  revert i
  decide +kernel
theorem regRow_MEAS_SQSTART : regRow R.MEAS_SQSTART.addr = some ⟨0x40060018, 1, 0x10000, 1, 0x4, 0x0, 0x0, 0x0, 0x0, 0x0, false⟩ := by decide +kernel
theorem regRow_MEAS_SPOT : regRow R.MEAS_SPOT.addr = some ⟨0x40060010, 1, 0x10000, 1, 0x4, 0x0, 0x7F07, 0x0, 0x0, 0x0, false⟩ := by decide +kernel
theorem regRow_MEAS_CALCMD : regRow R.MEAS_CALCMD.addr = some ⟨0x40060030, 1, 0x10000, 1, 0x4, 0x0, 0x13F, 0x0, 0x0, 0x0, false⟩ := by decide +kernel
theorem regRow_POS_CTRL : regRow R.POS_CTRL.addr = some ⟨0x40070000, 1, 0x10000, 1, 0x4, 0x0, 0x1, 0x0, 0x0, 0x0, false⟩ := by decide +kernel
theorem regRow_POS_CFG (i : Fin 8) : regRow (R.POS_CFG i.val).addr = some ⟨0x40070100, 8, 0x40, 1, 0x4, 0x0, 0x0, 0x3F3FF1FD, 0x0, 0x0, false⟩ := by
  revert i
  decide +kernel
theorem regRow_SENT_CFG (i : Fin 8) : regRow (R.SENT_CFG i.val).addr = some ⟨0x40078000, 8, 0x40, 1, 0x4, 0x301E060, 0x0, 0xFFF3FF7D, 0x0, 0x0, false⟩ := by
  revert i
  decide +kernel
theorem regRow_POS_TRCFG : regRow R.POS_TRCFG.addr = some ⟨0x40070800, 1, 0x10000, 1, 0x4, 0x14200000, 0x0, 0xFFFF0FFD, 0x0, 0x0, false⟩ := by decide +kernel
theorem regRow_POS_GSCFG : regRow R.POS_GSCFG.addr = some ⟨0x40070818, 1, 0x10000, 1, 0x4, 0x0, 0x1, 0x0, 0x0, 0x0, false⟩ := by decide +kernel
theorem regRow_HNET_CTRL : regRow R.HNET_CTRL.addr = some ⟨0x40080000, 1, 0x10000, 1, 0x4, 0x0, 0x1, 0x0, 0x0, 0x0, false⟩ := by decide +kernel
theorem regRow_HNET_BST (i : Fin 64) : regRow (R.HNET_BST i.val).addr = some ⟨0x40081100, 64, 0x4, 1, 0x4, 0x0, 0x0, 0x0, 0xFB, 0x0, false⟩ := by
  revert i
  decide +kernel
theorem regRow_ISB_CTRL : regRow R.ISB_CTRL.addr = some ⟨0x40090000, 1, 0x10000, 1, 0x4, 0x0, 0x1, 0x0, 0x0, 0x0, false⟩ := by decide +kernel
theorem regRow_ISB_TXCT (i : Fin 16) : regRow (R.ISB_TXCT i.val).addr = some ⟨0x40090104, 16, 0x10, 1, 0x4, 0x0, 0xF, 0x0, 0xC00, 0x0, false⟩ := by
  revert i
  decide +kernel
theorem regRow_SVC_TXCT (i : Fin 8) : regRow (R.SVC_TXCT i.val).addr = some ⟨0x40098104, 8, 0x10, 1, 0x4, 0x0, 0xF, 0x0, 0xC00, 0x0, false⟩ := by
  revert i
  decide +kernel
theorem regRow_ISB_NEG : regRow R.ISB_NEG.addr = some ⟨0x40090020, 1, 0x10000, 1, 0x4, 0x0, 0xFF0000, 0xFFFF, 0x0, 0x0, false⟩ := by decide +kernel
theorem regRow_ETH_CTRL (i : Fin 2) : regRow (R.ETH_CTRL i.val).addr = some ⟨0x400A0000, 2, 0x100, 1, 0x4, 0x0, 0x1, 0x0, 0x0, 0x0, false⟩ := by
  revert i
  decide +kernel
theorem regRow_ETH_PHYADR (i : Fin 2) : regRow (R.ETH_PHYADR i.val).addr = some ⟨0x400A002C, 2, 0x100, 1, 0x4, 0x0, 0x11FFFFF, 0x0, 0x0, 0x0, false⟩ := by
  revert i
  decide +kernel
theorem regRow_SAFE_CTRL : regRow R.SAFE_CTRL.addr = some ⟨0x400B0000, 1, 0x10000, 1, 0x4, 0x0, 0x0, 0x1, 0x0, 0x0, false⟩ := by decide +kernel
theorem regRow_SAFE_SCFG (i : Fin 128) (h : i ≠ 0) : regRow (R.SAFE_SCFG i.val).addr = some ⟨0x400B1020, 127, 0x20, 1, 0x4, 0x0, 0x0, 0x3FFF7, 0x0, 0x0, false⟩ := by
  revert i
  decide +kernel
theorem regRow_SFN_CTRL : regRow R.SFN_CTRL.addr = some ⟨0x400C0000, 1, 0x10000, 1, 0x4, 0x0, 0x0, 0x1, 0x0, 0x0, false⟩ := by decide +kernel
theorem regRow_SFN_ACFG (i : Fin 12) : regRow (R.SFN_ACFG i.val).addr = some ⟨0x400C0100, 12, 0x100, 1, 0x4, 0x0, 0x0, 0xFFFFFFF, 0x0, 0x0, false⟩ := by
  revert i
  decide +kernel
theorem regRow_FIX_SPLIT : regRow R.FIX_SPLIT.addr = some ⟨0x40020080, 1, 0x10000, 1, 0x4, 0x0, 0x0, 0x0, 0x100, 0x0, false⟩ := by decide +kernel
theorem regRow_PWR_MODEREQ : regRow R.PWR_MODEREQ.addr = some ⟨0x400D0008, 1, 0x10000, 1, 0x4, 0x0, 0x0, 0x0, 0x0, 0x0, true⟩ := by decide +kernel
theorem regRow_BMB_OUTCTL : regRow R.BMB_OUTCTL.addr = some ⟨0x400F0008, 1, 0x10000, 1, 0x4, 0x0, 0x0, 0x0, 0x0, 0x0, true⟩ := by decide +kernel
theorem regRow_BMB_INCTL : regRow R.BMB_INCTL.addr = some ⟨0x400F000C, 1, 0x10000, 1, 0x4, 0x0, 0x0, 0x0, 0x0, 0x0, true⟩ := by decide +kernel
theorem regRow_BMB_KEYREV : regRow R.BMB_KEYREV.addr = some ⟨0x400F0010, 1, 0x10000, 1, 0x4, 0x0, 0x0, 0x0, 0x0, 0x0, true⟩ := by decide +kernel
theorem regRow_SND_REQ : regRow R.SND_REQ.addr = some ⟨0x400E0004, 1, 0x10000, 1, 0x4, 0x0, 0xFFFFF000, 0x0, 0x0, 0x0, false⟩ := by decide +kernel
theorem regRow_IRQ_CLAIM : regRow R.IRQ_CLAIM.addr = some ⟨0x40100008, 1, 0x10000, 1, 0x4, 0x0, 0x0, 0x0, 0x0, 0x0, false⟩ := by decide +kernel
theorem regRow_FIX_DECAGR : regRow R.FIX_DECAGR.addr = some ⟨0x40020030, 1, 0x10000, 1, 0x4, 0x0, 0x0, 0x0, 0x0, 0xFFFFFFFF, false⟩ := by decide +kernel
theorem regRow_MEAS_SPOT_RES : regRow R.MEAS_SPOT_RES.addr = some ⟨0x40060014, 1, 0x10000, 1, 0x4, 0x0, 0x0, 0x0, 0x0, 0x1FFFFF, false⟩ := by decide +kernel
theorem regRow_RKN_ADM_ACC : regRow R.RKN_ADM_ACC.addr = some ⟨0x400100C8, 1, 0x10000, 1, 0x4, 0x0, 0x0, 0x0, 0x0, 0xFFFFFFFF, false⟩ := by decide +kernel
theorem regRow_RKN_ADM_REF : regRow R.RKN_ADM_REF.addr = some ⟨0x400100CC, 1, 0x10000, 1, 0x4, 0x0, 0x0, 0x0, 0x0, 0xFFFFFFFF, false⟩ := by decide +kernel
theorem regRow_RKN_TMAX (i : Fin 64) : regRow (R.RKN_TMAX i.val).addr = some ⟨0x40010108, 64, 0x10, 1, 0x4, 0x0, 0x0, 0x0, 0x0, 0xFFFFFF, false⟩ := by
  revert i
  decide +kernel
theorem regRow_DLK_MISS (i : Fin 4) : regRow (R.DLK_MISS i.val).addr = some ⟨0x40058110, 4, 0x100, 1, 0x4, 0x0, 0x0, 0x0, 0x0, 0xFFFFFF, false⟩ := by
  revert i
  decide +kernel
theorem regRow_DLK_LATE (i : Fin 4) : regRow (R.DLK_LATE i.val).addr = some ⟨0x40058114, 4, 0x100, 1, 0x4, 0x0, 0x0, 0x0, 0x0, 0xFFFFFF, false⟩ := by
  revert i
  decide +kernel
theorem regRow_DLK_CRC (i : Fin 4) : regRow (R.DLK_CRC i.val).addr = some ⟨0x40058118, 4, 0x100, 1, 0x4, 0x0, 0x0, 0x0, 0x0, 0xFFFFFF, false⟩ := by
  revert i
  decide +kernel
theorem regRow_DLK_OUTL (i : Fin 4) : regRow (R.DLK_OUTL i.val).addr = some ⟨0x4005811C, 4, 0x100, 1, 0x4, 0x0, 0x0, 0x0, 0x0, 0xFFFFFF, false⟩ := by
  revert i
  decide +kernel
theorem regRow_DLK_NOAGR (i : Fin 4) : regRow (R.DLK_NOAGR i.val).addr = some ⟨0x40058124, 4, 0x100, 1, 0x4, 0x0, 0x0, 0x0, 0x0, 0xFFFF, false⟩ := by
  revert i
  decide +kernel
theorem regRow_CE_UTIL : regRow R.CE_UTIL.addr = some ⟨0x40030014, 1, 0x10000, 1, 0x4, 0x0, 0x0, 0x0, 0x0, 0xFFFFFFFF, false⟩ := by decide +kernel
theorem regRow_EDG_MCNT (i : Fin 8) : regRow (R.EDG_MCNT i.val).addr = some ⟨0x40054058, 8, 0x80, 1, 0x4, 0x0, 0x0, 0x0, 0x0, 0xFFFFFFFF, false⟩ := by
  revert i
  decide +kernel
theorem regRow_EDG_BCNT (i : Fin 8) : regRow (R.EDG_BCNT i.val).addr = some ⟨0x40050134, 8, 0x40, 1, 0x4, 0x0, 0x0, 0x0, 0x0, 0xFFFFFFFF, false⟩ := by
  revert i
  decide +kernel
theorem regRow_POS_ERRCNT (i : Fin 8) : regRow (R.POS_ERRCNT i.val).addr = some ⟨0x40070138, 8, 0x40, 1, 0x4, 0x0, 0x0, 0x0, 0x0, 0xFFFFFFFF, false⟩ := by
  revert i
  decide +kernel
theorem regRow_HNET_CNT : regRow R.HNET_CNT.addr = some ⟨0x40080038, 1, 0x10000, 1, 0x4, 0x0, 0x0, 0x0, 0x0, 0xFFFFFFFF, false⟩ := by decide +kernel
theorem regRow_HNET_NOAGR : regRow R.HNET_NOAGR.addr = some ⟨0x4008003C, 1, 0x10000, 1, 0x4, 0x0, 0x0, 0x0, 0x0, 0xFFFFFFFF, false⟩ := by decide +kernel
theorem regRow_ETH_CNT (i : Fin 2) : regRow (R.ETH_CNT i.val).addr = some ⟨0x400A0034, 2, 0x100, 1, 0x4, 0x0, 0x0, 0x0, 0x0, 0xFFFFFFFF, false⟩ := by
  revert i
  decide +kernel
theorem regRow_SAFE_CNT : regRow R.SAFE_CNT.addr = some ⟨0x400B0018, 1, 0x10000, 1, 0x4, 0x0, 0x0, 0x0, 0x0, 0xFFFFFFFF, false⟩ := by decide +kernel
theorem regRow_SAFE_SERR (i : Fin 128) (h : i ≠ 0) : regRow (R.SAFE_SERR i.val).addr = some ⟨0x400B103C, 127, 0x20, 1, 0x4, 0x0, 0x0, 0x0, 0x0, 0xFFFFFFFF, false⟩ := by
  revert i
  decide +kernel
theorem regRow_FIX_FLTCNT : regRow R.FIX_FLTCNT.addr = some ⟨0x40020428, 1, 0x10000, 1, 0x4, 0x0, 0x0, 0x0, 0x0, 0xFFFF, false⟩ := by decide +kernel
theorem regRow_BMB_CNT : regRow R.BMB_CNT.addr = some ⟨0x400F0014, 1, 0x10000, 1, 0x4, 0x0, 0x0, 0x0, 0x0, 0xFFFFFFFF, false⟩ := by decide +kernel
theorem regRow_SND_CNT : regRow R.SND_CNT.addr = some ⟨0x400E001C, 1, 0x10000, 1, 0x4, 0x0, 0x0, 0x0, 0x0, 0xFFFFFFFF, false⟩ := by decide +kernel
theorem regRow_MEAS_GBHI (i : Fin 64) : regRow (R.MEAS_GBHI i.val).addr = some ⟨0x40061010, 64, 0x40, 1, 0x4, 0x7FFFFFFF, 0x0, 0xFFFFFFFF, 0x0, 0x0, false⟩ := by
  revert i
  decide +kernel
theorem regRow_MEAS_GBLO (i : Fin 64) : regRow (R.MEAS_GBLO i.val).addr = some ⟨0x40061014, 64, 0x40, 1, 0x4, 0x80000000, 0x0, 0xFFFFFFFF, 0x0, 0x0, false⟩ := by
  revert i
  decide +kernel
theorem regRow_MEAS_GBFLT (i : Fin 64) : regRow (R.MEAS_GBFLT i.val).addr = some ⟨0x40061018, 64, 0x40, 1, 0x4, 0x1000000, 0x0, 0xFFFFFFFF, 0x0, 0x0, false⟩ := by
  revert i
  decide +kernel
theorem regRow_IRQ_THRESH : regRow R.IRQ_THRESH.addr = some ⟨0x40100004, 1, 0x10000, 1, 0x4, 0x0, 0xF, 0x0, 0x0, 0x0, false⟩ := by decide +kernel
theorem regRow_IRQ_EN (i : Fin 8) : regRow (R.IRQ_EN i.val).addr = some (if i = 0 then ⟨0x40100040, 1, 0x4, 1, 0x4, 0x0, 0xFFFFFFFE, 0x0, 0x0, 0x0, false⟩
    else ⟨0x40100044, 7, 0x4, 1, 0x4, 0x0, 0xFFFFFFFF, 0x0, 0x0, 0x0, false⟩) := by
  revert i
  decide +kernel
theorem regRow_IRQ_LVL (i : Fin 32) : regRow (R.IRQ_LVL i.val).addr = some (if i = 0 then ⟨0x40100100, 1, 0x4, 1, 0x4, 0x0, 0xFFFFFFF0, 0x0, 0x0, 0x0, false⟩
    else ⟨0x40100104, 31, 0x4, 1, 0x4, 0x0, 0xFFFFFFFF, 0x0, 0x0, 0x0, false⟩) := by
  revert i
  decide +kernel

end Sys2Proof.Machine
end

