-- ==== Sys2Proof/Laws/Bus.lean ====
section
/-! SUPPORT. The laws of bus accesses to registers: which registers read as they are held, which writes no block refuses, and what an access
records. -/

namespace Sys2Proof.Machine

set_option Elab.async false

/-! ### Reads -/

/-- Addresses whose reads show more than the register holds. -/
def viewSpecial (a : Nat) : Bool :=
  (idxOf a (R.IRQ_PEND 0) 4 8).isSome || decide (a = R.IRQ_CLAIM.addr) || (idxOf a (R.RKN_VAL 0) 4 16).isSome || (idxOf a (R.RKN_TSTAT 0) 0x10 64).isSome
    || decide (a = R.CE_RUN.addr) || decide (a = R.CE_STAT.addr) || (idxOf a (R.CE_TST 0) 4 64).isSome || decide (a = R.MEAS_CONV.addr) || (idxOf a (R.MEAS_SLST 0) 0x40 64).isSome || (idxOf a (R.POS_STAT 0) 0x40 8).isSome
    || (idxOf a (R.EDG_MSTAT 0) 0x80 8).isSome || (idxOf a (R.EDG_BPEND 0) 0x40 8).isSome || (idxOf a (R.SFN_ASTAT 0) 0x100 12).isSome
    || decide (a = R.FIX_DGSTAT.addr) || decide (a = R.FIX_DECSTAT.addr) || decide (a = R.FIX_DECAGR.addr) || (idxOf a (R.HNET_BT 0) 4 64).isSome
    || (grpOf a (R.HNET_BD 0 0) 0x40 64).isSome

/-- Every other address reads what its register holds. -/
theorem Lane.view_plain (L : Lane) {a : Nat} {row : RegRow} (h : viewSpecial a = false) (hr : regRow a = some row) :
    L.view a = look L.regs a (w32 row.reset) := by
  simp only [viewSpecial, Bool.or_eq_false_iff, decide_eq_false_iff_not, Option.isSome_eq_false_iff, Option.isNone_iff_eq_none] at h
  obtain ⟨⟨⟨⟨⟨⟨⟨⟨⟨⟨⟨⟨⟨⟨⟨⟨⟨h1, h2⟩, h3⟩, h4⟩, h5⟩, h6⟩, h7⟩, h8⟩, hs⟩, h9⟩, h10⟩, h11⟩, h12⟩, h13⟩, h14⟩, h15⟩, h16⟩, h17⟩ := h
  simp only [Lane.view, hr, h1, h2, h3, h4, h5, h6, h7, h8, hs, h9, h10, h11, h12, h13, h14, h15, h16, h17, if_false]

/-- Addresses whose reads by the lane processor do something else than clear. -/
def clearSpecial (a : Nat) : Bool :=
  decide (a = R.IRQ_CLAIM.addr) || decide (a = R.FIX_DECAGR.addr) || decide (a = R.MEAS_SPOT_RES.addr) || (idxOf a (R.HNET_BST 0) 4 64).isSome

theorem Lane.readClears_plain (L : Lane) {a rc : Nat} {row : RegRow} (h : clearSpecial a = false) (hv : viewSpecial a = false) (hr : regRow a = some row)
    (hc : rc ≠ 0) :
    L.readClears a rc = { L with regs := put L.regs a (look L.regs a (w32 row.reset) &&& ~~~(w32 rc)) (w32 row.reset) } := by
  simp only [clearSpecial, Bool.or_eq_false_iff, decide_eq_false_iff_not, Option.isSome_eq_false_iff, Option.isNone_iff_eq_none] at h
  obtain ⟨⟨⟨h1, h2⟩, h3⟩, h4⟩ := h
  simp only [Lane.readClears, h1, h2, h3, h4, hc, hr, L.view_plain hv hr, if_false]

/-- A read of a register that a row lists. -/
theorem Lane.busRead_reg (L : Lane) {a : Nat} {row : RegRow} (m : Master) (ha : 0x40000000 ≤ a) (hr : regRow a = some row) (hp : L.absentReg a = false)
    (hw : row.wo = false) :
    L.busRead m .word a = (match m with | .debugger => L | .processor => L.readClears a row.rc).busEnd
      (if a = R.MEAS_SPOT_RES.addr then L.spotRead.1 else L.view a) false a := by
  have hb : L.bankOut a = false := by simp [Lane.bankOut, memBank_reg ha]
  unfold Lane.busRead
  simp only [hb, memWritable_reg ha, hr, hp, hw]
  cases m <;> simp

@[simp] theorem Lane.busEnd_regs (L : Lane) (v : Word) (e : Bool) (a : Nat) : (L.busEnd v e a).regs = L.regs := rfl
@[simp] theorem Lane.busEnd_mem (L : Lane) (v : Word) (e : Bool) (a : Nat) : (L.busEnd v e a).mem = L.mem := rfl
@[simp] theorem Lane.busEnd_flash (L : Lane) (v : Word) (e : Bool) (a : Nat) : (L.busEnd v e a).flash = L.flash := rfl
@[simp] theorem Lane.busEnd_rdata (L : Lane) (v : Word) (e : Bool) (a : Nat) : (L.busEnd v e a).rdata = v := rfl
@[simp] theorem Lane.busEnd_busErr (L : Lane) (v : Word) (e : Bool) (a : Nat) : (L.busEnd v e a).busErr = e := rfl
@[simp] theorem Lane.rd_busEnd (L : Lane) (v : Word) (e : Bool) (a : Nat) (r : Reg) : (L.busEnd v e a).rd r = L.rd r := rfl
@[simp] theorem Lane.on_busEnd (L : Lane) (v : Word) (e : Bool) (a : Nat) (r : Reg) (f : Bf) : (L.busEnd v e a).on r f = L.on r f := rfl

/-! ### Writes -/

/-- Addresses that a block's rule for refused writes may concern (R56, R225, R228, R284, R285, R353, R407, R408, R450, R452, R487, R488, R624). -/
def refSpecial (a : Nat) : Bool :=
  (grpOf a (R.AX_CFG 0) 0x1000 12).isSome || (grpOf a (R.EDG_CCCFG 0) 0x20 12).isSome || (grpOf a (R.EDG_MCTL 0) 0x80 8).isSome
    || (idxOf a (R.MEAS_SLCFG 0) 0x40 64).isSome || (grpOf a (R.POS_CFG 0) 0x40 8).isSome
    || (decide (R.POS_TRCFG.addr ≤ a) && decide (a ≤ R.POS_RDPP.addr)) || (grpOf a (R.SENT_CFG 0) 0x40 8).isSome || decide (a / 0x10000 = 0x4008)
    || (grpOf a (R.ETH_CTRL 0) 0x100 2).isSome || (grpOf a (R.SAFE_SCFG 0) 0x20 128).isSome || (grpOf a (R.SFN_ACFG 0) 0x100 12).isSome

theorem Lane.refusal_none (L : Lane) {a : Nat} (row : RegRow) (v : Word) (h : refSpecial a = false) : L.refusal a row v = none := by
  simp only [refSpecial, Bool.or_eq_false_iff, Bool.and_eq_false_iff, decide_eq_false_iff_not, Option.isSome_eq_false_iff, Option.isNone_iff_eq_none] at h
  obtain ⟨⟨⟨⟨⟨⟨⟨⟨⟨⟨h1, h2⟩, h3⟩, h4⟩, h5⟩, h6⟩, h7⟩, h8⟩, h9⟩, h10⟩, h11⟩ := h
  have h6' : ¬(R.POS_TRCFG.addr ≤ a ∧ a ≤ R.POS_RDPP.addr) := fun hh => h6.elim (· hh.1) (· hh.2)
  simp only [Lane.refusal, h1, h2, h3, h4, h5, h6', h7, h8, h9, h10, h11, if_false, ite_self]

/-- No block refuses a write to a register without RWL bits outside the axis blocks. -/
theorem Lane.refusal_rw (L : Lane) {a : Nat} {row : RegRow} (v : Word) (h : grpOf a (R.AX_CFG 0) 0x1000 12 = none) (hr : row.rwl = 0) :
    L.refusal a row v = none := by
  simp [Lane.refusal, h, hr]

/-- What a write stores in a register (R16 to R18): the bits that are not written keep, and bits written with 1 to clear fall unless hardware
has set them in this tick. -/
theorem Lane.store_reg (L : Lane) {a : Nat} (row : RegRow) (mask : Nat) (v : Word) (h : idxOf a (R.RKN_WP_CMP 0) 0x20 128 = none) :
    L.store a row mask v = { L with regs := put L.regs a (((look L.regs a (w32 row.reset) &&& ~~~(w32 mask)) ||| (storedAs a v &&& w32 mask))
      &&& ~~~(v &&& w32 row.w1c &&& ~~~(w32 (L.setNow.at a)))) (w32 row.reset) } := by
  simp [Lane.store, h]

/-- Addresses whose writes do not store every value (R87, R147, R148, R218, R250, R289, R325, R360, R395, R450, R466, R488, R514, R575). -/
def storeSpecial (a : Nat) : Bool :=
  (idxOf a (R.AX_SPDB 0) 0x1000 12).isSome || (idxOf a (R.AX_SPRATE 0) 0x1000 12).isSome || (idxOf a (R.AX_SPALPHA 0) 0x1000 12).isSome
    || decide (a = R.RKN_ADM_CTRL.addr) || decide (a = R.FIX_CKP.addr) || (idxOf a (R.DLK_CFG 0) 0x100 4).isSome || (idxOf a (R.DLK_WIN 0) 0x100 4).isSome
    || (idxOf a (R.EDG_MINJ 0) 0x80 8).isSome || (idxOf a (R.EDG_BCFG 0) 0x40 8).isSome || (idxOf a (R.EDG_VCFG 0) 0x20 12).isSome || (idxOf a (R.MEAS_GBFLT 0) 0x40 64).isSome
    || (idxOf a (R.SENT_CFG 0) 0x40 8).isSome || decide (a = R.HNET_TIM.addr) || (grpOf a (R.SAFE_SREACT 0) 0x20 128).isSome
    || (grpOf a (R.SAFE_SCHK 0) 0x20 128).isSome || (idxOf a (R.SFN_ACFG 0) 0x100 12).isSome
    || (idxOf a (R.SFN_ACST 0) 0x100 12).isSome || decide (a = R.FIX_DGCFG.addr) || decide (a = R.PWR_NVMG.addr)

theorem storedAs_plain {a : Nat} (v : Word) (h : storeSpecial a = false) : storedAs a v = v := by
  simp only [storeSpecial, Bool.or_eq_false_iff, decide_eq_false_iff_not] at h
  obtain ⟨⟨⟨⟨⟨⟨⟨⟨⟨⟨⟨⟨⟨⟨⟨⟨⟨⟨h1, h2⟩, h3⟩, h4⟩, h5⟩, h6⟩, h7⟩, h8⟩, hb⟩, h9⟩, h10⟩, h11⟩, h12⟩, h13⟩, h14⟩, ha⟩, h15⟩, h16⟩, h17⟩ := h
  have hb' : idxOf a (R.EDG_BCFG 0) 0x40 8 = none := Option.isNone_iff_eq_none.mp (Option.isSome_eq_false_iff.mp hb)
  simp [storedAs, h1, h2, h3, h4, h5, h6, h7, h8, hb', h9, h10, h11, h12, h13, h14, ha, h15, h16, h17]

/-- Only registers of the edge scheduler, the driver-die links and the buses of ISOBUS and the service CAN are absent from a GDZ-7320. -/
theorem Lane.absentReg_other (L : Lane) {a : Nat} (h5 : a / 0x10000 ≠ 0x4005) (h9 : a / 0x10000 ≠ 0x4009) : L.absentReg a = false := by
  unfold Lane.absentReg
  simp only [R.EDG_MCTL, R.EDG_BCFG, R.EDG_VCFG, R.EDG_SOCFG, R.EDG_TRCFG, R.EDG_OPCFG, R.DLK_CFG, List.any_cons, List.any_nil, Bool.or_false,
    Bool.and_eq_false_iff, Bool.or_eq_false_iff, decide_eq_false_iff_not]
  right
  refine ⟨h9, ?_, ?_, ?_, ?_, ?_, ?_, ?_⟩ <;> omega

theorem Lane.absentReg_full {L : Lane} (a : Nat) (h : L.small = false) : L.absentReg a = false := by simp [Lane.absentReg, h]

/-- What a write stores in a register, as the register's value. -/
def Reg.stored (L : Lane) (row : RegRow) (a : Nat) (v : Word) : Word :=
  ((look L.regs a (w32 row.reset) &&& ~~~(w32 (row.rw ||| row.rwl))) ||| (storedAs a v &&& w32 (row.rw ||| row.rwl)))
    &&& ~~~(v &&& w32 row.w1c &&& ~~~(w32 (L.setNow.at a)))

/-- The lane with the write stored, before the block acts on it. -/
def Lane.storedIn (L : Lane) (row : RegRow) (a : Nat) (v : Word) : Lane :=
  { (L.busEnd L.rdata false a).signW a v with regs := put L.regs a (Reg.stored L row a v) (w32 row.reset) }

/-- A write to a listed register that is neither locked nor refused (R16 to R18, R21, R624): the value is stored, and the block acts on it. -/
theorem Lane.busWrite_row {L : Lane} {a : Nat} {row : RegRow} {v : Word} (ha : 0x40000000 ≤ a) (hr : regRow a = some row) (hp : L.absentReg a = false)
    (hl : row.rwl = 0 ∨ L.Unlocked) (hf : (L.busEnd L.rdata false a).refusal a row v = none) (hc : idxOf a (R.RKN_WP_CMP 0) 0x20 128 = none) :
    L.busWrite .word a v = (L.storedIn row a v).written ((L.busEnd L.rdata false a).signW a v) a v := by
  rw [Lane.busWrite_reg (memWritable_reg ha) (memBank_reg ha) hr hp hl hf, Lane.store_reg _ _ _ _ hc]
  rfl

/-- A write that changes a register leaves the others, and every byte unless the register is a bank register. -/
theorem Lane.Frame.storedIn (L : Lane) (row : RegRow) {a : Nat} (v : Word) (hb : ∀ x, x < 12 → (R.AX_BANK x).addr ≠ a) :
    Lane.Frame [a] L (L.storedIn row a v) := by
  refine Lane.Frame.regs ?_ rfl rfl ?_
  · intro q hq
    exact look_put_other _ _ _ _ (by simpa using hq)
  · intro x hx
    simpa using hb x hx

theorem Lane.rd_storedIn_same (L : Lane) (row : RegRow) (r : Reg) (v : Word) (h : r.rst = w32 row.reset) :
    (L.storedIn row r.addr v).rd r = Reg.stored L row r.addr v := by
  simp [Lane.storedIn, Lane.rd, h]

theorem Lane.rd_storedIn_other (L : Lane) (row : RegRow) {r q : Reg} (v : Word) (h : q.addr ≠ r.addr) : (L.storedIn row r.addr v).rd q = L.rd q :=
  look_put_other _ _ _ _ h

end Sys2Proof.Machine
end

