-- ==== Sys2Proof/WellFormed.lean ====
section
/-! DEFINITION. Which commands are well-formed: those that the table's rows can spell. A row's operand types leave a few values that no such
event has: an instruction word of another row, a frame whose data do not match its DLC, a list of the wrong length. -/

namespace Sys2Proof

/-- The opcode of an engine instruction word (R158). -/
def wordOp (w : BitVec 64) : Nat := (w.extractLsb' 58 6).toNat

/-- The opcodes that R160 lists, but for NOP. A word with none of these is the NOP row's. -/
def listedOps : List Nat := [0x01, 0x02, 0x03, 0x04, 0x05, 0x06, 0x07, 0x08, 0x10, 0x11, 0x12, 0x13, 0x14, 0x15, 0x16, 0x17, 0x18, 0x20, 0x21, 0x22, 0x23, 0x24, 0x25, 0x26, 0x27, 0x28, 0x29, 0x2A, 0x2B, 0x2C, 0x2D]

/-- The data bytes that a DLC stands for: 0 to 8 as they are, then the lengths of CAN FD. -/
def dlcLength (d : Nat) : Nat := if d ≤ 8 then d else [12, 16, 20, 24, 32, 48, 64].getD (d - 9) 64

/-- A frame's identifier fits its format and its data are as long as the DLC says. -/
def CanFrame.wf (f : CanFrame) : Bool :=
  decide (f.ident < if f.ide then 2 ^ 29 else 2 ^ 11) && decide (f.dlc < 16) && decide (f.data.length = dlcLength f.dlc)

/-- A sample has a value for each of the sensors that R586 names. -/
def SensorSample.wf : SensorSample → Bool
  | .temps ts => decide (ts.length = 11)
  | .supply vs is => decide (vs.length = 4) && decide (is.length = 3)
  | .accel _ _ _ => true

/-- A command that its row can spell. -/
def Instr.wf : Instr → Bool
  | .registerWrite _ _ _ _ => true
  | .irqClaim _ _ => true
  | .irqComplete _ _ => true
  | .axisEnable _ _ _ => true
  | .axisDisable _ _ _ => true
  | .rknEnable _ _ => true
  | .rknDisable _ _ => true
  | .snap _ _ => true
  | .waypointArm _ _ _ => true
  | .waypointCompareWrite _ _ _ => true
  | .waypointDisarm _ _ _ => true
  | .waypointFire _ _ => true
  | .taskDeadlineExpire _ _ => true
  | .checkpointCapture _ _ _ => true
  | .checkpointDataReceive l frm _ _ => decide (frm ≠ l)
  | .checkpointApply _ => true
  | .fixEnable _ _ => true
  | .decisionPost _ _ => true
  | .decisionRead _ _ => true
  | .clockFault _ => true
  | .periodStart r imeas => match r with | .bridge _ => decide (imeas = 0) | .valve _ => decide (imeas < 65536)
  | .periodStartMarkReceive _ _ => true
  | .linkPacketReceive _ _ _ => true
  | .dieVote _ => true
  | .voteHoldOff _ => true
  | .diePacketVote _ _ => true
  | .edgeLoad _ _ => true
  | .packetSendDeadline _ _ => true
  | .diePacketBuild _ _ => true
  | .bridgeReportReceive _ _ => true
  | .valveReportReceive _ _ => true
  | .dieReportReceive _ _ => true
  | .voteReportReceive _ _ => true
  | .dieSilentTimeout _ _ => true
  | .oppositeGateFall _ _ _ => true
  | .interlockFault _ _ => true
  | .gateRailUndervoltage _ => true
  | .gateRailRecover _ => true
  | .refreshInsert _ _ _ => true
  | .highSideStuck _ _ => true
  | .bootstrapUndervoltage _ _ _ => true
  | .desaturation _ _ _ _ => true
  | .hardShort _ _ _ _ => true
  | .tripInputActive _ _ => true
  | .blankingWindowEnd _ => true
  | .bridgeClear _ _ => true
  | .valveClear _ _ => true
  | .safetyOutputClear _ _ => true
  | .tripClear _ _ => true
  | .valveOpenLoad _ => true
  | .valveLowSideOvercurrent _ => true
  | .valveMainOvercurrent _ => true
  | .valveDeviation _ => true
  | .safetyOutputShort _ => true
  | .safetyOutputOverload _ => true
  | .offPulseTestStart _ _ => true
  | .offPulseTestEnd _ _ => true
  | .checkerMismatch _ => true
  | .bridgeEnable _ _ _ => true
  | .commutationEnable _ _ _ => true
  | .commutationDisable _ _ _ => true
  | .commutationTimedChange _ _ => true
  | .offsetCheckEnd _ _ => true
  | .alignEnd _ _ => true
  | .poltestDone _ _ => true
  | .verifyWindowEnd _ _ => true
  | .catchEnd _ _ => true
  | .externalHoldDetect _ _ => true
  | .relockMeasureEnd _ _ => true
  | .relockTimeout _ _ => true
  | .samplingInstant _ _ => true
  | .nop _ w => decide (wordOp w = 0) || (listedOps.all fun o => decide (o ≠ wordOp w))
  | .endInst _ w => decide (wordOp w = 0x01)
  | .yieldInst _ w => decide (wordOp w = 0x02)
  | .jmp _ w => decide (wordOp w = 0x03)
  | .brc _ w => decide (wordOp w = 0x04)
  | .loop _ w => decide (wordOp w = 0x05)
  | .lpst _ w => decide (wordOp w = 0x06)
  | .lpld _ w => decide (wordOp w = 0x07)
  | .wait _ w => decide (wordOp w = 0x08)
  | .waitComplete _ _ => true
  | .vld _ w => decide (wordOp w = 0x10)
  | .vst _ w => decide (wordOp w = 0x11)
  | .vmov _ w => decide (wordOp w = 0x12)
  | .eld _ w => decide (wordOp w = 0x13)
  | .est _ w => decide (wordOp w = 0x14)
  | .vset _ w => decide (wordOp w = 0x15)
  | .exps _ w => decide (wordOp w = 0x16)
  | .inWord _ w => decide (wordOp w = 0x17)
  | .outWord _ w => decide (wordOp w = 0x18)
  | .vadd _ w => decide (wordOp w = 0x20)
  | .vsub _ w => decide (wordOp w = 0x21)
  | .vmul _ w => decide (wordOp w = 0x22)
  | .vdot _ w => decide (wordOp w = 0x23)
  | .macs _ w => decide (wordOp w = 0x24)
  | .stAcc _ w => decide (wordOp w = 0x25)
  | .matvec _ w => decide (wordOp w = 0x26)
  | .mvst _ w => decide (wordOp w = 0x27)
  | .norm _ w => decide (wordOp w = 0x28)
  | .expx _ w => decide (wordOp w = 0x29)
  | .shv _ w => decide (wordOp w = 0x2A)
  | .vlim _ w => decide (wordOp w = 0x2B)
  | .vsel _ w => decide (wordOp w = 0x2C)
  | .cmp _ w => decide (wordOp w = 0x2D)
  | .enginePreempt _ => true
  | .engineEnable _ _ => true
  | .engineDisable _ _ => true
  | .taskConfigWrite _ _ _ => true
  | .programMemoryWrite _ _ _ _ => true
  | .bankSwapRequest _ _ => true
  | .regionCopyDone _ _ => true
  | .shadowWrite _ _ _ _ => true
  | .logbookEnable _ _ _ => true
  | .logbookDisable _ _ _ => true
  | .logbookSoftwareTrigger _ _ _ => true
  | .logbookRearm _ _ _ => true
  | .referenceEnable _ _ => true
  | .referenceReady _ => true
  | .referenceFault _ => true
  | .measEnable _ _ => true
  | .slotEnable _ _ _ => true
  | .sequenceEnable _ _ _ => true
  | .sequenceStart _ _ => true
  | .sequenceGroupStart _ _ => true
  | .slotDelivery _ _ codes => decide (codes.length ∈ [1, 2, 4, 8])
  | .guardBandWrite _ _ _ _ => true
  | .spotConversion _ _ => true
  | .spotResult _ _ => true
  | .spotResultRead _ _ => true
  | .calStart _ _ => true
  | .calCaptureDone _ => true
  | .calCommit _ _ => true
  | .calStoreWriteDone _ _ => true
  | .calAbort _ _ => true
  | .posEnable _ _ => true
  | .positionInterfaceEnable _ _ _ => true
  | .quadratureEdge _ _ _ _ => true
  | .hallTransition _ _ _ => true
  | .indexEdge _ _ => true
  | .sincosPair _ _ => true
  | .pulseRisingEdge _ _ _ => true
  | .pulseTimeout _ _ _ => true
  | .trackingObserverUpdate _ _ => true
  | .sentEnable _ _ _ => true
  | .sentFrame _ _ _ _ => true
  | .sentFrameTimeout _ _ => true
  | .travelEnable _ _ => true
  | .travelPulse _ _ => true
  | .travelStillTimeout _ _ => true
  | .groundSpeedEnable _ _ => true
  | .portRecordReceive _ _ _ => true
  | .portRecordVoteTimeout _ _ _ => true
  | .helmNetWindowVote _ _ => true
  | .canFrameTransmitDone _ _ => true
  | .busOffRecovery _ => true
  | .helmNetEnable _ _ => true
  | .helmNetDisable _ _ => true
  | .txBufferCopy _ _ => true
  | .transmitRequest _ _ => true
  | .bufferStatusRead _ _ _ => true
  | .windowStart _ _ _ => true
  | .guardianWindow _ _ _ => true
  | .helmNetFrameReceive _ _ f => f.wf
  | .referenceMessageReceive _ _ f => f.wf
  | .referenceSendTimeout _ => true
  | .referenceTimeout _ => true
  | .listenTimeout _ => true
  | .coldStartSend _ => true
  | .coldStartAck _ => true
  | .coldStartRepeat _ => true
  | .backoffEnd _ => true
  | .matrixCycleStart _ => true
  | .basicCycleStart _ => true
  | .delayProbe _ _ _ => true
  | .delayAnswer _ _ _ _ => true
  | .capabilityFrame _ _ _ => true
  | .pathFailTimeout _ _ => true
  | .isobusEnable _ _ => true
  | .addressClaimReceive _ _ _ => true
  | .addressClaimRequest _ => true
  | .addressClaimTimeout _ => true
  | .isbTransmitRequest _ _ _ => true
  | .isobusFrameReceive _ f => f.wf && decide (f.dlc ≤ 8)
  | .svcTransmitRequest _ _ _ => true
  | .svcFrameReceive _ f => f.wf && decide (f.dlc ≤ 8)
  | .versionNegotiate _ _ => true
  | .ethernetEnable _ _ _ => true
  | .ethTxDescriptorTake _ _ => true
  | .ethTxDone _ => true
  | .ethFrameReceive _ _ bytes _ => decide (60 ≤ bytes.length) && decide (bytes.length ≤ 1518)
  | .phyAccess _ _ _ => true
  | .phyAccessDone _ _ _ _ => true
  | .refclkLoss _ _ => true
  | .safetyLayerEnable _ _ => true
  | .sessionEnable _ _ _ => true
  | .monitorEnable _ _ => true
  | .functionEnable _ _ _ => true
  | .safetyPduReceive _ => true
  | .hello _ => true
  | .command _ => true
  | .heartbeat _ => true
  | .stop _ => true
  | .reset _ => true
  | .query _ => true
  | .confirm _ => true
  | .sessionExpire _ _ => true
  | .controlledStopTimeout _ _ => true
  | .challengeExpire _ => true
  | .commissioningRecordWriteDone _ _ => true
  | .selfDiagnosisEnd _ _ _ _ _ => true
  | .giveUpEnd _ _ => true
  | .survivorFault _ => true
  | .crawlTimeout _ => true
  | .steeringAxisLost _ _ => true
  | .standstillWaitEnd _ => true
  | .lockoutRecordWriteDone _ _ => true
  | .splitRequest _ => true
  | .splitOffconfTimeout _ => true
  | .joinRequest _ => true
  | .joinReloadDone _ => true
  | .laneResetDone _ => true
  | .quickSoundingDone _ _ => true
  | .resyncTransferDone _ => true
  | .resyncTimeout _ => true
  | .debugHalt => true
  | .debugStep => true
  | .debugResume => true
  | .debugWrite _ _ => true
  | .breakpointHit _ => true
  | .keepPowerOn => true
  | .wakeLevel _ _ => true
  | .wakeEdge _ _ _ => true
  | .wakeUpFrame f _ => f.wf && decide (f.dlc ≤ 8)
  | .resetNAssert => true
  | .resetNRelease => true
  | .laneFeedStart _ _ _ => true
  | .laneFeedLoss _ => true
  | .driverDiePowerOn _ => true
  | .dieSoundingDone _ _ => true
  | .laneResetRelease _ _ _ => true
  | .memoryBistDone _ rows _ _ => decide ((rows.map Prod.fst).Nodup) && rows.all fun r => decide (r.1 < 23) && decide (0 < r.2)
  | .logicBistDone _ _ _ _ _ _ => true
  | .ringBringUpDone _ lat => decide (lat.length = 4) && lat.all fun n => decide (n < 256)
  | .imageReadDone _ _ => true
  | .signatureVerifyDone _ => true
  | .registerLoadEntry _ => true
  | .registerLoadWaitEnd _ => true
  | .loneLaneTimeout _ => true
  | .modeRequest _ _ => true
  | .sleepStepTimeout _ => true
  | .powerDown => true
  | .keepEntryEnd => true
  | .nvmGuardOn _ _ => true
  | .nvmGuardOff _ _ => true
  | .nvmWriteTimeout _ k => decide (k ≠ 0)
  | .managementLinkTimeout _ => true
  | .logRecordPost _ => true
  | .replyPost _ => true
  | .binnacleRegisterAccess _ => true
  | .diagnosticSegment _ => true
  | .sleepStepPost _ => true
  | .binnaclePostReceive _ _ => true
  | .postMatchTimeout _ => true
  | .status _ => true
  | .sound _ => true
  | .regval _ => true
  | .send _ => true
  | .updBegin _ => true
  | .updData _ _ => true
  | .updEnd _ => true
  | .updCommit _ _ => true
  | .updAbort _ => true
  | .keyrev _ => true
  | .sleepok _ => true
  | .sleepno _ => true
  | .requestAccept _ => true
  | .requestRefuse _ _ => true
  | .requestTimeout _ => true
  | .keyRevoke _ _ => true
  | .logPageProgram _ => true
  | .sensorStatisticsRecord => true
  | .vibrationSummaryRecord => true
  | .diagnosticSessionControl => true
  | .readDataByIdentifier => true
  | .securityAccessSeed => true
  | .securityAccessKey => true
  | .securityDelayEnd => true
  | .activateImage => true
  | .activateImageResults => true
  | .revokeKeySlot => true
  | .requestDownload => true
  | .requestUpload => true
  | .transferData => true
  | .requestTransferExit => true
  | .testerPresent => true
  | .diagnosticSessionTimeout => true
  | .runtimeSoundingInterval => true
  | .soundingStart _ _ => true
  | .soundingAbort _ _ => true
  | .soundingSaveDone _ => true
  | .soundingTestDone _ fails => fails.all fun f => decide (f.1 < 1024) && decide (f.2 < 39)
  | .soundingRestoreDone _ => true
  | .bypass code => [0x00#8, 0x01#8, 0x02#8, 0x10#8, 0x20#8].all fun c => decide (c ≠ code)
  | .idcode => true
  | .samplePreload => true
  | .extest => true
  | .ieee1687Network _ => true
  | .debugAuthenticate key => match key with | none => true | some k => decide (k.length = 16)
  | .scanreq => true
  | .rknAdmAccRead _ _ => true
  | .rknAdmRefRead _ _ => true
  | .rknTmaxRead _ _ _ => true
  | .dlkMissRead _ _ _ => true
  | .dlkLateRead _ _ _ => true
  | .dlkCrcRead _ _ _ => true
  | .dlkOutlRead _ _ _ => true
  | .dlkNoagrRead _ _ _ => true
  | .ceUtilRead _ _ => true
  | .edgMcntRead _ _ _ => true
  | .edgBcntRead _ _ _ => true
  | .posErrcntRead _ _ _ => true
  | .hnetCntRead _ _ => true
  | .hnetNoagrRead _ _ => true
  | .ethCntRead _ _ _ => true
  | .safeCntRead _ _ => true
  | .safeSerrRead _ _ _ => true
  | .fixFltcntRead _ _ => true
  | .bmbCntRead _ _ => true
  | .sndCntRead _ _ => true
  | .tripInputInactive _ => true
  | .managementLinkUp _ => true
  | .refclkReturn _ _ => true
  | .startOfFrame _ _ _ => true
  | .busIdle _ _ => true
  | .dieTick _ => true
  | .reckonerInterpolation _ => true
  | .binnacleSensorSample x => x.wf

end Sys2Proof
end

