-- ==== Sys2Proof/Tests/Slice0.lean ====
section
/-! SUPPORT. The author's own tests: ill-formed commands that the check refuses, small single steps with results taken from the spec, and for every
statement with hypotheses a concrete state and operands that meet them. -/

set_option Elab.async false

namespace Sys2Proof.Tests

open Sys2Proof Sys2Proof.Machine

/-- Lane A with registers at the values given, everything else as in State.reset. -/
def regs (ws : List (Reg × Word)) (f : Lane → Lane := id) : State :=
  { State.reset with a := f (ws.foldl (fun L e => L.wr e.1 e.2) State.reset.a) }
/-- Die D0 on, with the changes given. -/
def dieOn (f : Die → Die := id) : State := { State.reset with d0 := f { (default : Die) with on := true } }
/-- The Binnacle on, with the changes given. -/
def binOn (f : Bin → Bin := id) : State := { State.reset with bin := f { (default : Bin) with on := true } }

/-- Whether no disable of Helm Net waits. -/
def quiet (s : State) : Bool := !s.a.hn.closing && !s.b.hn.closing && !s.c.hn.closing
theorem quiet_of {s : State} (h : quiet s = true) : s.Quiet := by
  intro k
  simp only [quiet, Bool.and_eq_true, Bool.not_eq_true'] at h
  cases k
  · exact h.1.1
  · exact h.1.2
  · exact h.2
/-- A state in which no disable of Helm Net waits meets a condition. -/
theorem meets {s : State} {P : Prop} (h : quiet s = true ∧ P) : s.Quiet ∧ P := ⟨quiet_of h.1, h.2⟩

/-! ### Well-formed commands -/

theorem test_wf_opcode : Instr.wf (.jmp .A 0#64) = false ∧ Instr.wf (.nop .A (3#64 <<< 58)) = false ∧ Instr.wf (.nop .A (0x3F#64 <<< 58)) = true := by decide
theorem test_wf_frame : CanFrame.wf ⟨0x7FF, false, 8, List.replicate 8 0#8⟩ = true ∧ CanFrame.wf ⟨0x800, false, 8, List.replicate 8 0#8⟩ = false
    ∧ CanFrame.wf ⟨0, true, 9, List.replicate 9 0#8⟩ = false ∧ CanFrame.wf ⟨0, true, 9, List.replicate 12 0#8⟩ = true := by decide
theorem test_wf_exchange : Instr.wf (.checkpointDataReceive .A .A true 0) = false := by decide
theorem test_wf_lists : Instr.wf (.slotDelivery .A 0 [0, 0, 0]) = false ∧ Instr.wf (.ringBringUpDone .A [0, 0, 0]) = false ∧ Instr.wf (.soundingTestDone .A [(1024, 0)]) = false
    ∧ Instr.wf (.memoryBistDone .A [(23, 1)] true 0) = false ∧ Instr.wf (.debugAuthenticate (some [])) = false := by decide
theorem test_wf_values : Instr.wf (.periodStart (.bridge 0) 1) = false ∧ Instr.wf (.periodStart (.valve 0) 65536) = false ∧ Instr.wf (.nvmWriteTimeout .A 0) = false
    ∧ Instr.wf (.bypass 0x00) = false ∧ Instr.wf (.binnacleSensorSample (.temps [])) = false := by decide

/-! ### The queue -/

theorem test_front : step { State.reset with pending := [.idcode, .bypass 0xFF] } = exec .idcode { State.reset with pending := [.bypass 0xFF] } := by rfl
theorem test_idle : step State.reset = .next State.reset := by rfl
/-- The table gives its rows no bits. -/
theorem test_no_words : decodeTableWord 32 0 = none := by rfl

/-! ### Registers, memory and interrupts -/

theorem witness_writes : State.reset.Quiet ∧ State.reset.a.bankOut 0x20000000 = false ∧ State.reset.a.bankOut 0x200FFFFC = false := meets (by decide +kernel)
/-- R13, R14: a word in data RAM lies least significant byte first. -/
theorem test_data_ram : (match exec (.registerWrite .A .word 0x20000004 0x11223344) State.reset with
    | .next t => (t.a.byte 0x20000004, t.a.byte 0x20000007, t.a.byte 0x20000008) | _ => default) = (0x44, 0x11, 0x00) := by decide +kernel
theorem witness_not_performed : State.reset.Quiet ∧ regRow 0x40000004 ≠ none ∧ regRow 0x40000FFC = none ∧ regRow 0xFFFFFFFF = none := meets (by decide +kernel)
def locked (ws : List (Reg × Word)) : State := regs ((R.IMG_LOCK_STAT, 1) :: ws)
theorem witness_locked : (locked []).Quiet ∧ (locked []).a.on R.IMG_LOCK_STAT F.IMG_LOCK_STAT_LOCKED = true ∧ (locked []).a.small = false ∧ State.reset.a.small = false
    ∧ (match regRow (R.AX_CFG 11).addr with | some row => decide (row.rwl ≠ 0 ∧ row.rw = 0) | none => false) = true := meets (by decide +kernel)
/-- R21: the address of the first write refused is kept. -/
theorem test_lock_addr : (match exec (.registerWrite .A .word (w32 (R.AX_CFG 3).addr) 1) (locked [(R.IMG_LOCK_STAT, 3), (R.IMG_LOCK_ADDR, 7)]) with
    | .next t => (t.a.rd (R.AX_CFG 3), t.a.rd R.IMG_LOCK_ADDR) | _ => default) = (0, 7) := by decide +kernel
theorem witness_cleared : clearedBy (.safeSerrRead .A .processor 1) = some (.A, .processor, R.SAFE_SERR 1, 0xFFFFFFFF) ∧ clearedBy (.edgBcntRead .B .debugger 7) = some (.B, .debugger, R.EDG_BCNT 7, 0xFFFFFFFF) := by
  exact ⟨rfl, rfl⟩
/-- The Binnacle in Dry dock, whose debug link is open. -/
def dryBin : State := binOn fun b => { b with regs := [(4, 1)] }
def spotNow : State := regs [(R.HNET_BCFG 63, 0)] fun L => { L with meas := { L.meas with spotTick := 1, spotOvr := true } }
theorem witness_reads : State.reset.a.meas.spotTick ≠ State.reset.a.ticks + 1 ∧ spotNow.a.meas.spotTick = spotNow.a.ticks + 1 ∧ spotNow.a.meas.spotOvr = true
    ∧ dryBin.reaches .A .debugger = true ∧ dryBin.reaches .B .debugger = false ∧ State.reset.reaches .A .debugger = false ∧ State.reset.reaches .B .processor = true
    ∧ spotNow.a.on (R.HNET_BCFG 63) F.HNET_BCFG_DIR = false ∧ (regs [(R.HNET_BCFG 0, F.HNET_BCFG_DIR.mask)]).a.on (R.HNET_BCFG 0) F.HNET_BCFG_DIR = true := by decide +kernel
/-- Sources 16 and 255 pending and enabled, the one at level 3 and the other at 15. -/
def irqs : State := regs [(R.IRQ_EN 0, 0x10000), (R.IRQ_EN 7, 0x80000000), (R.IRQ_LVL 2, 3), (R.IRQ_LVL 31, 0xF0000000), (R.IRQ_THRESH, 1)] fun L =>
  { L with irqPrev := [16, 255] }
theorem witness_claim : irqs.a.irqPrev.Pairwise (· < ·) ∧ (∀ n ∈ irqs.a.irqPrev, n ≠ 0) ∧ irqs.a.claim = 255 ∧ State.reset.a.claim = 0 := by decide +kernel
theorem witness_complete : (regs [] fun L => { L with inSvc := [255] }).Quiet ∧ (255 ∈ [255] ∧ F.IRQ_COMPLETE_SRC.get 255 = 255 ∧ F.IRQ_COMPLETE_SRC.get 0 ∉ [255]) := meets (by decide +kernel)
/-- R44: the claim takes level 15 before level 3. -/
theorem test_claim : (match exec (.irqClaim .A .processor) irqs with | .next t => (t.a.rdata, t.a.rd R.IRQ_INSVC, t.a.inSvc) | _ => default) = (255, 0x8000, [255]) := by decide +kernel

/-! ### Axes, reckoners and waypoints -/

/-- Axis 0 a pump (kind 4) on bridge 0, bound to pass its check. -/
def axGood : State := regs [(R.AX_BIND 0, 0x80), (R.AX_CFG 0, 0x40), (R.PWR_STAT, F.PWR_STAT_DIES.mask)]
theorem witness_axis_enable : axGood.Quiet ∧ axGood.a.Unlocked ∧ axGood.a.axActive 0 = false ∧ axGood.a.on (R.AX_CFG 0) F.AX_CFG_EN = false
    ∧ lowCause ((axGood.a.wr (R.AX_CFG 0) (axGood.a.taken (R.AX_CFG 0) 0x71 (F.AX_CFG_EN.set 0x40 1))).axCauses 0) = 0 ∧ (axGood.a.wr (R.AX_CFG 0) 0x41).chCause 0 = 0
    ∧ lowCause ((axGood.a.wr (R.AX_CFG 0) 1).axCauses 0) = 4 ∧ lowCause (((axGood.a.wr R.PWR_STAT 0).wr (R.AX_CFG 0) 0x41).axCauses 0) = 1 ∧ ((regs [(R.AX_LAW 0, 0x10500), (R.AX_CHCFG 0, 0)]).a.wr (R.AX_CFG 0) 0x41).chCause 0 = 1 :=
  meets ⟨by decide +kernel, by unfold Lane.Unlocked; decide +kernel⟩
/-- Axis 11 a pump on bridge 0, with a sample running or none. -/
def axOn (act : Word) (run : Bool) : State := regs [(R.AX_BIND 11, 0x80), (R.AX_CFG 11, 0x41), (R.AX_STAT 11, act)] fun L =>
  { L with eng := { L.eng with insts := if run then [{ (default : Inst) with sample := true, axis := 11, begun := true }] else [] } }
theorem witness_axis_disable : (axOn 0 false).Quiet ∧ (axOn 0 false).a.Unlocked ∧ (axOn 0 false).a.on (R.AX_CFG 11) F.AX_CFG_EN = true
    ∧ ((axOn 0 false).a.rd (R.AX_CFG 11) ^^^ F.AX_CFG_EN.set 0x40 0) &&& 0x71#32 = 1#32 ∧ (axOn 0 false).a.axActive 11 = false ∧ (axOn 1 false).a.axActive 11 = true
    ∧ (axOn 1 false).a.axRunning 11 = false ∧ (axOn 1 true).a.axActive 11 = true ∧ (axOn 1 true).a.axRunning 11 = true :=
  meets ⟨by decide +kernel, by unfold Lane.Unlocked; decide +kernel⟩
theorem witness_rkn : State.reset.Quiet ∧ State.reset.a.on R.RKN_CTRL F.RKN_CTRL_EN = false ∧ State.reset.a.wpUnit = false ∧ F.RKN_CTRL_SNAP.on 1 = false
    ∧ (∀ w, w < 128 → State.reset.a.wpArmed w = false) ∧ (regs [(R.RKN_CTRL, 3)]).a.on R.RKN_CTRL F.RKN_CTRL_EN = true ∧ (regs [(R.RKN_CTRL, 3)]).a.wpUnit = true
    ∧ F.RKN_CTRL_EN.on 5 = (regs [(R.RKN_CTRL, 3)]).a.on R.RKN_CTRL F.RKN_CTRL_EN
    ∧ (regs [(R.RKN_CTRL, 2)] fun L => { L with rknClosing := true }).a.on R.RKN_CTRL F.RKN_CTRL_EN = false := meets (by decide +kernel)
/-- Ring bring-up done, a slew due, and reckoner 8 on the active axis 0 by SENT input 0. -/
def tick (slew : Int) (wait : Nat) (est : Nat × Nat) : State :=
  regs [(R.RKN_GT, F.RKN_GT_GT_VALID.mask), (R.RKN_MSEL, 0x80), (R.AX_STAT 0, 1), (R.POS_AXSRC 0, 2), (R.SENT_STAT 0, F.SENT_STAT_VALID.mask), (R.SENT_D0 0, 5), (R.RKN_STAT, 0x1000000)] fun L =>
    { L with pw := { L.pw with ring := true }, slewLane := slew, slewWait := wait, est := L.est.set 8 est }
theorem witness_tick : State.reset.a.pw.ring = false ∧ (tick 0 0 0).a.pw.ring = true ∧ (tick 0 0 0).a.slewHelm + (tick 0 0 0).a.slewLane = 0 ∧ (tick 1 1998 0).a.slewWait < 1999
    ∧ 1999 ≤ (tick 1 1999 0).a.slewWait ∧ 0 < (tick 1 1999 0).a.slewHelm + (tick 1 1999 0).a.slewLane ∧ (tick (-1) 1999 0).a.slewHelm + (tick (-1) 1999 0).a.slewLane < 0
    ∧ State.reset.a.rknAxis 8 = none ∧ (tick 0 0 0).a.rknAxis 8 = some 0 ∧ (tick 0 0 0).a.axisAngle 0 = (5, 0, true) ∧ (tick 0 0 0).a.est.at 8 ≠ (tick 0 0 0).a.axisEst 0 ∧ (tick 0 0 0).a.on R.RKN_GT F.RKN_GT_GT_VALID = true
    ∧ (tick 0 0 (65, 0)).a.est.at 8 = (tick 0 0 (65, 0)).a.axisEst 0 ∧ ((tick 0 0 0).a.wr (R.SENT_STAT 0) 0).rknAxis 8 = some 0 ∧ (((tick 0 0 0).a.wr (R.SENT_STAT 0) 0).axisAngle 0).2.2 = false := by decide +kernel
/-- R61: global time goes on by two steps where a slew of one step is due. -/
theorem test_slew : (match exec (.reckonerInterpolation .A) (tick 1 1999 0) with | .next t => (t.a.gt, t.a.slewLane) | _ => default) = (2, 0) := by decide +kernel
def wpOn (cmp : Word) : State := regs [(R.RKN_CTRL, 3), (R.RKN_WP_CMP 0, cmp), (R.RKN_WP_CMP 127, cmp)]
/-- The lane after the configuration word has been stored. -/
def armed (s : State) (w : Nat) (v : Word) : Lane := s.a.wr (R.RKN_WP_CFG w) (s.a.taken (R.RKN_WP_CFG w) 0x70F3F (F.RKN_WP_CFG_ARM.set v 1))
theorem witness_wp_arm : State.reset.Quiet ∧ (armed State.reset 0 0xC11).wpBad 0 = true ∧ (armed State.reset 127 0x9).wpBad 127 = true ∧ (armed State.reset 0 0x11).wpBad 0 = false
    ∧ (armed (wpOn 0) 0 1).wpBad 0 = false ∧ (armed (wpOn 0) 0 1).wpPair 0 = none ∧ (wpOn 0).a.wpUnit = true ∧ (wpOn 0).a.on R.FIX_DBG F.FIX_DBG_HALTED = false ∧ (armed (wpOn 0) 0 1).wpD 0 = 0
    ∧ (armed (wpOn 0xFFFFFFFF) 127 1).wpD 127 = 1 ∧ armDir (armed (wpOn 0) 0 1) 0 = false ∧ armDir (armed (wpOn 1) 0 0x11) 0 = true ∧ (armed (wpOn 1) 0 0x11).wpD 0 ≤ 0 ∧ (armed (wpOn 1) 0 0x11).wpBad 0 = false
    ∧ State.reset.a.wpUnit = false ∧ (armed (wpOn 5) 0 1).wpD 0 < 0 ∧ F.RKN_WP_CFG_ACTION.get ((armed (wpOn 0) 0 1).wpCfg 0) = 0 ∧ F.RKN_WP_CFG_ACTION.get ((armed (wpOn 0) 0 0x50001).wpCfg 0) = 5 := meets (by decide +kernel)
/-- Waypoints 126 and 127 as a pair on reckoner 12, with their configuration, compare and status words; the unit is active where `on`. -/
def wpTwo (on : Bool) (cfg cmp st step : Word) (cfg' cmp' st' : Word) : State := regs [(R.RKN_CTRL, if on then 3 else 0), (R.RKN_WP_CFG 126, cfg), (R.RKN_WP_CMP 126, cmp), (R.RKN_WP_STAT 126, st),
  (R.RKN_WP_STEP 126, step), (R.RKN_WP_CFG 127, cfg'), (R.RKN_WP_CMP 127, cmp'), (R.RKN_WP_STAT 127, st'), (R.RKN_WP_STEP 127, step)]
theorem witness_wp_pair : (wpTwo false 5 0 0 3 8 0 0).Quiet ∧ (armed (wpTwo false 5 0 0 3 8 0 0) 127 8).wpPair 127 = some 126 ∧ (armed (wpTwo false 5 0 0 3 8 0 0) 127 8).wpBad 127 = false
    ∧ (armed (wpTwo false 5 0 0 3 8 0 0) 127 8).wpArmed (wpOther 127) = false ∧ (armed (wpTwo false 5 0 1 3 8 0 0) 127 8).wpArmed (wpOther 127) = true
    ∧ ((armed (wpTwo false 5 0 1 3 8 0 0) 127 8).wpRepeat 126 && (armed (wpTwo false 5 0 1 3 8 0 0) 127 8).wpRepeat 127) = false
    ∧ ((armed (wpTwo false 13 0 1 3 8 0 0) 127 8).wpRepeat 126 && (armed (wpTwo false 13 0 1 3 8 0 0) 127 8).wpRepeat 127) = true ∧ (armed (wpTwo false 13 0 1 3 8 0 0) 127 8).wpUnit = false := meets (by decide +kernel)
/-- Both due, the odd one alone due, and a lower-numbered one that keeps an unpaired waypoint waiting. -/
theorem witness_wp_pair_fire : (wpTwo true 13 0 1 3 9 0 1).a.wpPair 127 = some 126 ∧ (wpTwo true 13 0 1 3 9 0 1).a.wpDue 127 = true ∧ (wpTwo true 13 0 1 3 9 0 1).a.wpDue (wpOther 127) = true
    ∧ (∀ j, j < 126 → (wpTwo true 13 0 1 3 9 0 1).a.wpDue j = false) ∧ (wpTwo true 13 5 1 3 9 0 1).a.wpDue 127 = true ∧ (wpTwo true 13 5 1 3 9 0 1).a.wpDue (wpOther 127) = false
    ∧ (∀ j, j < 127 → (wpTwo true 13 5 1 3 9 0 1).a.wpDue j = false) ∧ F.RKN_WP_CFG_ACTION.get ((wpTwo true 13 0 1 3 9 0 1).a.wpCfg 126) = 0
    ∧ (wpTwo true 9 0 1 3 9 0 1).a.wpPair 127 = none ∧ (wpTwo true 9 0 1 3 9 0 1).a.wpDue 126 = true := by decide +kernel
/-- R79: a pair of which the odd one fires alone moves the even one to the reckoner's value plus its step. -/
theorem test_wp_follow : (match exec (.waypointFire .A 127) (wpTwo true 13 5 1 3 9 0 1) with | .next t => (t.a.rd (R.RKN_WP_CMP 126), t.a.on (R.RKN_WP_STAT 126) F.RKN_WP_STAT_BY_PARTNER) | _ => default) = (3, true) := by decide +kernel
/-- R68: a compare value one step behind fires at once and late. -/
theorem test_wp_late : (match exec (.waypointArm .A 127 1) (wpOn 0xFFFFFFFF) with | .next t => t.a.rd (R.RKN_WP_STAT 127) | _ => 0) = 0x10006 := by decide +kernel
/-- R69: backward on reckoner 12 does not arm. -/
theorem test_wp_back : (match exec (.waypointArm .A 0 0xC11) (wpOn 0) with | .next t => t.a.rd (R.RKN_WP_STAT 0) | _ => 0) = 0x40 := by decide +kernel
def wpSet (cfg cmp step : Word) : State := regs [(R.RKN_CTRL, 3), (R.RKN_WP_CFG 127, cfg), (R.RKN_WP_CMP 127, cmp), (R.RKN_WP_STEP 127, step), (R.RKN_WP_STAT 127, 1)]
theorem witness_wp_disarm : State.reset.Quiet ∧ State.reset.a.wpDue 0 = false ∧ State.reset.a.on (R.RKN_WP_CFG 0) F.RKN_WP_CFG_ARM = false := meets (by decide +kernel)
theorem witness_wp_disarm_armed : (wpSet 1 5 0).Quiet ∧ (wpSet 1 5 0).a.wpDue 127 = false ∧ (wpSet 1 5 0).a.on (R.RKN_WP_CFG 127) F.RKN_WP_CFG_ARM = true := meets (by decide +kernel)
/-- R74: a waypoint that is due fires on the old compare value when a new one is written, and is armed anew. -/
theorem test_wp_rewrite : (match exec (.waypointCompareWrite .A 127 9) (wpSet 1 0 0) with | .next t => (t.a.rd (R.RKN_WP_CMP 127), t.a.rd (R.RKN_WP_STAT 127)) | _ => default) = (9, 0x10003) := by decide +kernel
theorem witness_wp_rewrite : (wpSet 1 0 0).Quiet ∧ (wpSet 1 0 0).a.wpDue 127 = true ∧ (wpSet 1 0 0).a.wpPair 127 = none ∧ F.RKN_WP_CFG_ACTION.get ((wpSet 1 0 0).a.wpCfg 127) = 0 ∧ F.RKN_WP_CFG_STRICT.on ((wpSet 1 0 0).a.wpCfg 127) = false
    ∧ (wpSet 1 0 0).a.on (R.RKN_WP_CFG 127) F.RKN_WP_CFG_ARM = true ∧ ((wpSet 1 0 0).a.wr (R.RKN_WP_CMP 127) 9).wpBad 127 = false ∧ ((wpSet 1 0 0).a.wr (R.RKN_WP_CMP 127) 9).wpD 127 < 0
    ∧ armDir ((wpSet 1 0 0).a.wr (R.RKN_WP_CMP 127) 9) 127 = false := meets (by decide +kernel)
theorem witness_wp_fire : (wpSet 1 0 0).a.wpDue 127 = true ∧ (∀ k, k < 127 → (wpSet 1 0 0).a.wpDue k = false) ∧ (wpSet 1 0 0).a.wpPair 127 = none ∧ F.RKN_WP_CFG_ACTION.get ((wpSet 1 0 0).a.wpCfg 127) = 0
    ∧ (wpSet 9 0 3).a.wpDue 127 = true ∧ (∀ k, k < 127 → (wpSet 9 0 3).a.wpDue k = false) ∧ (wpSet 9 0 3).a.wpPair 127 = none ∧ (wpSet 9 0 3).a.wpRepeat 127 = true ∧ (wpSet 1 5 0).a.wpDue 127 = false := by decide +kernel
/-- R75: a repeating waypoint advances by its step and stays armed. -/
theorem test_wp_repeat : (match exec (.waypointFire .A 127) (wpSet 9 0 3) with | .next t => (t.a.rd (R.RKN_WP_CMP 127), t.a.wpArmed 127) | _ => default) = (3, true) := by decide +kernel

/-! ### Shadow banks and logbooks -/

def bank (bank_ stat law : Word) (f : Lane → Lane := id) : State := regs [(R.AX_BANK 11, bank_), (R.AX_STAT 11, stat), (R.AX_LAW 11, law)] f
theorem witness_swap : (bank 0 1 0).Quiet ∧ (bank 0 1 0).a.chen 11 = false ∧ (bank 0 1 0).a.axActive 11 = true ∧ (bank 0 1 0).a.on (R.AX_BANK 11) F.AX_BANK_BUSY = false
    ∧ (bank 0 1 0).a.on (R.AX_BANK 11) F.AX_BANK_DUE = false ∧ (bank 0 1 0).a.ck.dec.length < 16 ∧ (∀ p ∈ (bank 0 1 0).a.ck.dec, p.word = w32 (0xFFFFFF00 + 11) → p.ck ≠ (bank 0 1 0).a.ck.last)
    ∧ (bank 0 1 0x10000).a.chen 11 = true ∧ (bank 0 0 0).a.axActive 11 = false ∧ (bank 0x100 1 0).a.on (R.AX_BANK 11) F.AX_BANK_BUSY = true
    ∧ (bank 0x200 1 0).a.on (R.AX_BANK 11) F.AX_BANK_DUE = true ∧ (bank 0 1 0).a.bankOut (0x30000000 + 4 * (axArea 11 + 0x800 + 1279)) = false := meets (by decide +kernel)
/-- A region copy of one word from word index 16 under way. -/
def copying : State := bank 0x100 0 1 fun L => (L.wr (R.AX_RSRC 11 0) 16).updAx 11 fun x => { x with copy := some 0 }
theorem witness_copy : (copying.a.ax.at 11).copy = some 0 ∧ (State.reset.a.ax.at 11).copy = none ∧ copying.a.clen 11 = 1 ∧ copying.a.rsrc 11 0 + copying.a.clen 11 ≤ 0x20000
    ∧ (∀ i, i < 1 → ∀ j, j < 1 → copying.a.coefIdx (copying.a.rsrc 11 0 + i) ≠ copying.a.coefIdx (axArea 11 + 0x800 + j)) := by decide +kernel
def lb (cfg st len : Word) (done : Nat := 0) : State := regs [(R.AX_LBCFG 0, cfg), (R.AX_LBST 0, st), (R.AX_LBMASK 0, 1), (R.AX_LBLEN 0, len)] fun L => L.updAx 0 fun x => { x with lbDoneAt := done }
theorem witness_lb_enable : (lb 0x30 0 2).Quiet ∧ (lb 0x30 0 2).a.on (R.AX_LBCFG 0) F.AX_LBCFG_EN = false ∧ ((lb 0x30 0 2).a.ax.at 0).lbClosing = 0 ∧ F.AX_LBCFG_SWTRIG.on 0x31 = false ∧ F.AX_LBCFG_REARM.on 0x31 = false
    ∧ ((lb 0x30 0 2).a.wr (R.AX_LBCFG 0) 0x31).lbFails 0 = false ∧ ((lb 0x30 0 0).a.wr (R.AX_LBCFG 0) 0x31).lbFails 0 = true := meets (by decide +kernel)
theorem witness_lb_disable : (lb 0x33 3 2 1).Quiet ∧ (lb 0x33 3 2 1).a.on (R.AX_LBCFG 0) F.AX_LBCFG_EN = true ∧ (lb 0x33 3 2 1).a.axRunning 0 = false ∧ (lb 0x33 3 2 1).a.lbSt 0 = 3 ∧ ((lb 0x33 3 2 1).a.ax.at 0).lbDoneAt = (lb 0x33 3 2 1).a.ticks + 1
    ∧ (lb 0x33 1 2).a.lbSt 0 = 1 ∧ F.AX_LBCFG_EN.on 0x35 = true ∧ F.AX_LBCFG_REARM.on 0x35 = false ∧ F.AX_LBCFG_SWTRIG.on 0x39 = false := meets (by decide +kernel)
/-- R50, R224: a clear in the cycle of completion leaves STATE at Done (3) with ABORT_LATE. -/
theorem test_lb_late : (match exec (.logbookDisable .A 0 0x30) (lb 0x33 3 2 1) with | .next t => t.a.rd (R.AX_LBST 0) | _ => 0) = 0x23 := by decide +kernel

/-! ### The engine: tasks and program memory -/

def task0 (begun : Bool) : Inst := { (default : Inst) with begun := begun }
def ce (ctrl : Word) (is : List Inst) (ws : List (Reg × Word) := []) : State := regs ((R.CE_CTRL, ctrl) :: ws) fun L => { L with eng := { L.eng with insts := is, run := is.head?.map (·.task) } }
theorem witness_engine_enable : (ce 0 []).Quiet ∧ (ce 0 []).a.on R.CE_CTRL F.CE_CTRL_EN = false ∧ (ce 0 []).a.on R.CE_CTRL F.CE_CTRL_ACTIVE = false ∧ (ce 0 []).a.engBad = false
    ∧ (ce 0 [] [(R.CE_TASK 0, 0x1C00000)]).a.engBad = true ∧ (ce 3 []).a.on R.CE_CTRL F.CE_CTRL_EN = true ∧ (ce 3 []).a.on R.CE_CTRL F.CE_CTRL_ACTIVE = true ∧ (ce 3 []).a.eng.insts = []
    ∧ (ce 3 [task0 true]).a.eng.insts ≠ [] ∧ (∀ i ∈ (ce 3 [task0 true]).a.eng.insts, i.begun = true) := meets (by decide +kernel)
theorem witness_task : State.reset.Quiet ∧ State.reset.a.Unlocked ∧ (0xFFFC#16).toNat % 4 = 0 ∧ (4#16).toNat % 8 = 4 ∧ State.reset.a.bankOut 0x32000000 = false ∧ State.reset.a.pmLocked = false
    ∧ (ce 3 []).a.pmLocked = true ∧ (locked []).a.pmLocked = true ∧ (locked [(R.FIX_DBG, F.FIX_DBG_RIG.mask)]).a.pmLocked = false := meets ⟨by decide +kernel, by unfold Lane.Unlocked; decide +kernel⟩
/-- R186: program memory is not written while the engine is active. -/
theorem test_pm_refused : (match exec (.programMemoryWrite .A .word 0 1) (ce 3 []) with | .next t => (t.a.byte 0x32000000, t.a.on R.CE_STAT F.CE_STAT_PMWREF) | _ => default) = (0, true) := by decide +kernel
/-! ### The engine: instructions -/

/-- An instruction word from its fields (R158): OP [63:58], D [57:54], S [53:50], T [49:46], EL [45:42], SAT [41], ACC [40], X [39:36], IMM [31:0]. -/
def enc (op : Nat) (d s t el x imm : Nat := 0) : BitVec 64 :=
  BitVec.ofNat 64 (op * 2 ^ 58 + d * 2 ^ 54 + s * 2 ^ 50 + t * 2 ^ 46 + el * 2 ^ 42 + x * 2 ^ 36 + imm)
/-- Lane A with its engine active on an instance of task 0 at address 0, where the word stands. -/
def engAt (w : BitVec 64) (ws : List (Reg × Word) := []) (j : Inst → Inst := id) (f : Lane → Lane := id) : State :=
  regs ([(R.CE_CTRL, 3), (R.RKN_TDL 0, 100)] ++ ws) fun L =>
    f { (L.setMemW 0x32000000 (BitVec.ofNat 32 w.toNat)).setMemW 0x32000004 (BitVec.ofNat 32 (w.toNat / 2 ^ 32)) with
      eng := { L.eng with insts := [j { (default : Inst) with begun := true }], run := some 0 } }
/-- Whether the lane fetches a word, with a condition on the lane, the instance and the cycle of the issue. -/
def fetches (L : Lane) (w : BitVec 64) (q : Lane → Inst → Nat → Bool) : Bool :=
  match L.cycleNow L.eng.next with
  | none => false
  | some c =>
    let P := (L.landTo c).engPick
    match P.eng.run with
    | none => false
    | some n =>
      match P.instOf n with
      | none => false
      | some i => decide (i.task = n) && (P.engPreempts c).isNone && !L.on R.FIX_DBG F.FIX_DBG_HALTED && decide (i.pc < 8192) && decide (P.progWord i.pc = w)
          && decide (P.ticks ≤ i.trig + P.fld (R.RKN_TDL i.task) F.RKN_TDL_DL) && q P i c
theorem fetches_of {L : Lane} {w : BitVec 64} {q : Lane → Inst → Nat → Bool} (h : fetches L w q = true) : ∃ P i c, L.Fetches w P i c ∧ q P i c = true := by
  unfold fetches at h
  split at h
  · cases h
  · rename_i c hc
    simp only at h
    split at h
    · cases h
    · rename_i n hn
      split at h
      · cases h
      · rename_i i hi
        simp only [Bool.and_eq_true, decide_eq_true_eq, Bool.not_eq_true', Option.isNone_iff_eq_none] at h
        obtain ⟨⟨⟨⟨⟨⟨h1, h2⟩, h3⟩, h4⟩, h5⟩, h6⟩, h7⟩ := h
        exact ⟨_, i, c, ⟨hc, rfl, h1 ▸ hn, h1 ▸ hi, h2, h3, h4, h5, h6⟩, h7⟩
/-- The same for a word issued without a fault. -/
def issues (L : Lane) (w : BitVec 64) (q : Lane → Inst → Nat → Bool) : Bool :=
  fetches L w fun P i c => !P.pmPar.at i.pc && !insIll w && q P i c
theorem issues_of {L : Lane} {w : BitVec 64} {q : Lane → Inst → Nat → Bool} (h : issues L w q = true) : ∃ P i c, L.Issues w P i c ∧ q P i c = true := by
  obtain ⟨P, i, c, hf, hq⟩ := fetches_of h
  simp only [Bool.and_eq_true, Bool.not_eq_true'] at hq
  exact ⟨P, i, c, ⟨hf, hq.1.1, hq.1.2⟩, hq.2⟩
/-- Whether no loop ends here and no delay slot is left. -/
def straight (P : Lane) (i : Inst) : Bool := decide (i.slots = 0) && [0, 1].all fun k => !P.lpOn k i.level || decide (P.lpa k F.CE_LPA_LE ≠ i.pc)
theorem straight_of {P : Lane} {i : Inst} (h : straight P i = true) : P.Straight i := by
  simp only [straight, List.all_cons, List.all_nil, Bool.and_eq_true, decide_eq_true_eq, Bool.or_eq_true, Bool.not_eq_true', Bool.and_true] at h
  refine ⟨h.1, fun k hk hon => ?_⟩
  have hk' : k = 0 ∨ k = 1 := by omega
  rcases hk' with rfl | rfl
  · rcases h.2.1 with h' | h'
    · rw [h'] at hon; cases hon
    · exact h'
  · rcases h.2.2 with h' | h'
    · rw [h'] at hon; cases hon
    · exact h'

/-- Every arithmetic instruction with a word of its own. -/
def flown : List (Instr × BitVec 64) :=
  [(.nop .A (enc 0), enc 0), (.vmov .A (enc 0x12 1 2), enc 0x12 1 2), (.vset .A (enc 0x15 1 0 0 15 0 7), enc 0x15 1 0 0 15 0 7), (.exps .A (enc 0x16 1 0 0 0 0 0x80), enc 0x16 1 0 0 0 0 0x80),
   (.vadd .A (enc 0x20 1 2 3), enc 0x20 1 2 3), (.vsub .A (enc 0x21 1 2 3), enc 0x21 1 2 3), (.stAcc .A (enc 0x25 1 7), enc 0x25 1 7), (.mvst .A (enc 0x27 1), enc 0x27 1),
   (.norm .A (enc 0x28 1 2), enc 0x28 1 2), (.expx .A (enc 0x29 1 2), enc 0x29 1 2), (.shv .A (enc 0x2A 1 2 3), enc 0x2A 1 2 3), (.vlim .A (enc 0x2B 1 2 3), enc 0x2B 1 2 3),
   (.vsel .A (enc 0x2C 1 2 3), enc 0x2C 1 2 3), (.cmp .A (enc 0x2D 0 2 3), enc 0x2D 0 2 3)]
theorem witness_flies : (flown.all fun x => decide (engRow x.1 = some (.A, x.2, insOp x.2)) && issues (engAt x.2).a x.2 fun P i _ => (flies P i x.2 x.1).isSome && straight P i) = true := by decide +kernel
/-- Loads and stores at the last words of coefficient RAM, and an IN of the time since the trigger (class 0x04). -/
theorem witness_memory_operands : (issues (engAt (enc 0x10 1 0 0 0 0 131055)).a (enc 0x10 1 0 0 0 0 131055) fun P i _ => decide (P.memIdx (enc 0x10 1 0 0 0 0 131055) i.level + 17 ≤ 131072) && straight P i) = true
    ∧ (issues (engAt (enc 0x11 0 1 0 0 0 131055)).a (enc 0x11 0 1 0 0 0 131055) fun P i _ => decide (P.memIdx (enc 0x11 0 1 0 0 0 131055) i.level + 17 ≤ 131072)) = true
    ∧ (issues (engAt (enc 0x13 1 0 0 0 0 131071)).a (enc 0x13 1 0 0 0 0 131071) fun P i _ => decide (P.memIdx (enc 0x13 1 0 0 0 0 131071) i.level + 1 ≤ 131072)) = true
    ∧ (issues (engAt (enc 0x14 0 1 0 0 0 131071)).a (enc 0x14 0 1 0 0 0 131071) fun P i _ => decide (P.memIdx (enc 0x14 0 1 0 0 0 131071) i.level + 1 ≤ 131072)) = true
    ∧ (issues (engAt (enc 0x17 1 0 0 0 0 0x4000000)).a (enc 0x17 1 0 0 0 0 0x4000000) fun P i _ => (P.inSource i 4 (P.ioInst (enc 0x17 1 0 0 0 0 0x4000000) i.level) (ioSub (enc 0x17 1 0 0 0 0 0x4000000))).isSome) = true := by decide +kernel
/-- What the statement of the faults asks of the instance. -/
def plain (P : Lane) (i : Inst) : Bool := !i.sample && !i.saved && !P.eng.closing && decide (i.task < 64)
def loopEnd : List (Reg × Word) := [(R.CE_LPA 0, 0x20010000), (R.CE_LPC 0, 0x10001)]
theorem witness_faults : ([
    (engAt (enc 0) [] id fun L => { L with pmPar := L.pmPar.set 0 true }, enc 0, fun P i _ => P.pmPar.at i.pc),
    (engAt (enc 0x3F), enc 0x3F, fun P i _ => !P.pmPar.at i.pc && insIll (enc 0x3F)),
    (engAt (enc 3 0 0 0 0 0 5) [] fun i => { i with slots := 1 }, enc 3 0 0 0 0 0 5, fun _ i _ => !insIll (enc 3 0 0 0 0 0 5) && decide (0 < i.slots)),
    (engAt (enc 4) loopEnd, enc 4, fun P i _ => !insIll (enc 4) && P.nearEnd i.pc i.level && decide (i.slots = 0)),
    (engAt (enc 3 0 0 0 0 0 8192), enc 3 0 0 0 0 0 8192, fun P i _ => !insIll (enc 3 0 0 0 0 0 8192) && !P.nearEnd i.pc i.level && decide (i.slots = 0)),
    (engAt (enc 5), enc 5, fun _ i _ => !insIll (enc 5) && decide (insImm (enc 5) / 65536 < i.pc + 1)),
    (engAt (enc 6 0 0 0 0 1 131071), enc 6 0 0 0 0 1 131071, fun _ _ _ => !insIll (enc 6 0 0 0 0 1 131071) && lpFails (enc 6 0 0 0 0 1 131071)),
    (engAt (enc 0x10 0 0 0 0 0 131056), enc 0x10 0 0 0 0 0 131056, fun P i _ => !insIll (enc 0x10 0 0 0 0 0 131056) && decide (131072 < P.memIdx (enc 0x10 0 0 0 0 0 131056) i.level + 17)),
    (engAt (enc 0x13 0 0 0 0 1 0xFFFFFFFF) [(R.CE_LPA 0, 0x20050000), (R.CE_LPC 0, 0x20001)], enc 0x13 0 0 0 0 1 0xFFFFFFFF,
      fun P i _ => !insIll (enc 0x13 0 0 0 0 1 0xFFFFFFFF) && decide (131072 < P.memIdx (enc 0x13 0 0 0 0 1 0xFFFFFFFF) i.level + 1)),
    (engAt (enc 0x17), enc 0x17, fun P i _ => !insIll (enc 0x17) && (P.inSource i 0 (P.ioInst (enc 0x17) i.level) (ioSub (enc 0x17))).isNone),
    (engAt (enc 0x18 0 0 0 0 0 0x6000000), enc 0x18 0 0 0 0 0 0x6000000, fun _ _ _ => !insIll (enc 0x18 0 0 0 0 0 0x6000000)),
    (engAt (enc 0x22) [] id fun L => { L with eng := { L.eng with macFree := 1 } }, enc 0x22, fun P _ c => !insIll (enc 0x22) && decide (c < P.eng.macFree)),
    (engAt (enc 0x26 0 0 0 0 0 131071), enc 0x26 0 0 0 0 0 131071, fun P i c => !insIll (enc 0x26 0 0 0 0 0 131071) && !matLegal (P.engCoef c (P.memIdx (enc 0x26 0 0 0 0 0 131071) i.level)))
    ] : List (State × BitVec 64 × (Lane → Inst → Nat → Bool))).all (fun x => fetches x.1.a x.2.1 fun P i c => plain P i && x.2.2 P i c) = true := by decide +kernel
theorem witness_ends : (issues (engAt (enc 1)).a (enc 1) fun P i _ => plain P i) = true ∧ (issues (engAt (enc 2)).a (enc 2) fun P i _ => plain P i) = true := by decide +kernel
/-- R158: END is the word with opcode 0x01; R179: it ends the instance. -/
theorem test_end : (match exec (.endInst .A 0x0400000000000000) (engAt 0x0400000000000000) with | .next t => t.a.eng.insts.length | _ => 9) = 0 := by decide +kernel
/-- A matrix of one row and one column at word 16 (R166). -/
def matrix : Lane → Lane := fun L => L.setCoef 16 0x10100
theorem witness_mac : ([enc 0x22 1 2 3, enc 0x23 1 2 3, enc 0x24 1 2 3].all fun w => issues (engAt w).a w fun P i c => decide (P.eng.macFree ≤ c) && straight P i) = true
    ∧ (issues (engAt (enc 0x26 0 1 0 0 0 16) [] id matrix).a (enc 0x26 0 1 0 0 0 16) fun P i c => decide (P.eng.macFree ≤ c) && matLegal (P.engCoef c (P.memIdx (enc 0x26 0 1 0 0 0 16) i.level))
      && decide (P.memIdx (enc 0x26 0 1 0 0 0 16) i.level + 1 ≤ 131071)) = true := by decide +kernel
theorem witness_landing : ((engAt 0).a.instOf 0).isSome = true ∧ (∀ i, (engAt 0).a.instOf 0 = some i → i.trig = 0) ∧ (∀ j ∈ (engAt 0).a.eng.insts, j.task = 0 → (engAt 0).a.instOf 0 = some j) := by
  refine ⟨by decide +kernel, ?_, by decide +kernel⟩
  intro i h
  have e : (engAt 0).a.instOf 0 = some { (default : Inst) with begun := true } := by decide +kernel
  rw [e] at h
  exact Option.some.inj h ▸ rfl
theorem witness_control_flow : ([enc 3 0 0 0 0 0 8191, enc 4 0 0 0 0 0 8191].all fun w => issues (engAt w).a w fun P i _ => straight P i && !P.nearEnd i.pc i.level && decide (insImm w ≤ 8191)) = true
    ∧ ([enc 5 0 0 0 0 0 0x10000, enc 5 0 0 0 0 0 0x1FFFFFFF, enc 5 0 1 0 0 2 0x10000].all fun w => issues (engAt w).a w fun P i _ => straight P i && decide (i.level < 4) && decide (i.pc + 1 ≤ insImm w / 65536)) = true
    ∧ (issues (engAt (enc 8 0 0 0 0 2 0)).a (enc 8 0 0 0 0 2 0) fun P i _ => straight P i && P.waitOver i (.elapsed 0)) = true
    ∧ (issues (engAt (enc 8 0 0 0 0 1 127)).a (enc 8 0 0 0 0 1 127) fun P i _ => straight P i && !P.waitOver i (.wpFire 127)) = true
    ∧ ([enc 6 0 0 0 0 3 131068, enc 7 0 0 0 0 3 131068].all fun w => issues (engAt w).a w fun P i _ => straight P i && !lpFails w) = true := by decide +kernel
/-- R165, R161: a taken JMP has two delay slots to come. -/
theorem test_jump : (match exec (.jmp .A (enc 3 0 0 0 0 0 8191)) (engAt (enc 3 0 0 0 0 0 8191)) with | .next t => t.a.eng.insts.map (fun i => (i.pc, i.slots, i.target)) | _ => []) = [(1, 2, some 8191)] := by decide +kernel
theorem witness_out : ([enc 0x18 0 1 0 0 0 0x1000007, enc 0x18 0 1 0 0 4 0x1000300, enc 0x18 0 1 0 0 0 0x200000B, enc 0x18 0 1 0 0 0 0x3000F0B, enc 0x18 0 1 0 0 0 0x400000B, enc 0x18 0 1 0 0 0 0x500001F].all fun w =>
      issues (engAt w).a w fun P i _ => straight P i && decide (i.task < 64) && !i.outDone
        && (P.outDest (insImm w / 2 ^ 24) (P.ioInst w i.level) (ioSub w) (if decide (insX w / 4 % 2 = 1) then (P.vreg i.level (insS w)).m.at (insEl w) else wInt (satI 32 (scaleI ((P.vreg i.level (insS w)).el (insEl w)) (P.vreg i.level (insS w)).e)))
          (decide (insX w / 4 % 2 = 1))).isSome) = true
    ∧ (issues (engAt (enc 0x18 0 1 0 0 0 0x500001F) [] fun i => { i with outDone := true }).a (enc 0x18 0 1 0 0 0 0x500001F) fun _ i _ => i.outDone) = true
    ∧ (State.reset.a.outDest 5 31 0 7 false).isSome = true ∧ (State.reset.a.outDest 1 0 3 15999 true).isSome = true := by decide +kernel
/-- A waiting instance, a ready one of a higher level beside the running one, and one past its deadline. -/
def waiting (ev : WaitEv) : State := engAt 0 [] fun i => { i with wait := some ev }
def preempted : State := engAt 0 [] id fun L => { L with eng := { L.eng with insts := L.eng.insts ++ [{ (default : Inst) with task := 63, level := 3 }] } }
def late (t : Nat) : State := engAt 0 [] id fun L => { L with ticks := t }
theorem witness_engine_events : ((waiting (.elapsed 0)).a.instOf 0).map (·.wait) = some (some (.elapsed 0)) ∧ preempted.a.cycleNow preempted.a.eng.next = some 0 ∧ (preempted.a.engPreempts 0).map (·.task) = some 63
    ∧ ((late 100).a.instOf 0).isSome = true ∧ (late 100).a.eng.closing = false ∧ (late 100).a.engHalted = false ∧ preempted.a.engHalted = false ∧ (preempted.a.wr R.FIX_DBG F.FIX_DBG_HALTED.mask).engHalted = true ∧ ((preempted.a.wr R.FIX_DBG F.FIX_DBG_HALTED.mask).engPreempts 0).map (·.task) = some 63 ∧ 0 + (late 100).a.fld (R.RKN_TDL 0) F.RKN_TDL_DL ≤ (late 100).a.ticks ∧ (late 99).a.ticks < 0 + (late 99).a.fld (R.RKN_TDL 0) F.RKN_TDL_DL := by decide +kernel
/-- R153, R154, R156, R157 on small numbers. -/
theorem test_round : [rneShift 5 1, rneShift 7 1, rneShift (-5) 1, rneShift 6 2] = [2, 4, -2, 2] := by decide
theorem test_narrow : narrow32 true (2 ^ 31) = (0x7FFFFFFF, true, false) ∧ narrow32 false (2 ^ 31) = (0x80000000, false, true) := by decide +kernel
theorem witness_arithmetic : vecNorm (Vec.of (fun _ => 1) 0) = 30 ∧ vecNorm (Vec.of (fun _ => 0) 0) = 31 ∧ (∀ j, j < 16 → -(2 ^ 31) ≤ (Vec.of (fun _ => 0x80000000) 127).el j + (Vec.of (fun _ => 0) 127).el j
    ∧ (Vec.of (fun _ => 0x80000000) 127).el j + (Vec.of (fun _ => 0) 127).el j < 2 ^ 31) := by decide +kernel
/-! ### Lanes, modes and checkpoints -/

theorem witness_fix_enable : State.reset.Quiet ∧ State.reset.a.Unlocked ∧ State.reset.a.on R.FIX_CTRL F.FIX_CTRL_EN = false := meets ⟨by decide +kernel, by unfold Lane.Unlocked; decide +kernel⟩
/-- An active Fix with posted words. -/
def posted (ws : List Word) (rs : List (Reg × Word) := []) : State := regs ((R.FIX_CTRL, 0x303) :: rs) fun L => { L with ck := { L.ck with dec := ws.map fun w => ⟨w, 0, 0⟩ } }
def sixteen : List Word := (List.range 16).map fun i => w32 (i + 2)
theorem witness_decision : (posted []).Quiet ∧ (posted []).a.on R.FIX_CTRL F.FIX_CTRL_ACTIVE = true ∧ (0xFFFFFDFF#32).toNat < 0xFFFFFE00 ∧ (0xFFFFFE05#32).toNat ∈ [0xFFFFFE01, 0xFFFFFE02, 0xFFFFFE04, 0xFFFFFE05]
    ∧ (∃ p ∈ (posted [5]).a.ck.dec, p.word = 5 ∧ p.ck = (posted [5]).a.ck.last) ∧ (∀ p ∈ (posted [5]).a.ck.dec, p.word ≠ 1) ∧ (posted [5]).a.ck.dec.length < 16 ∧ (∀ p ∈ (posted sixteen).a.ck.dec, p.word ≠ 1) ∧ 16 ≤ (posted sixteen).a.ck.dec.length
    ∧ (0xFFFFFF0B#32).toNat = 0xFFFFFF00 + (11 : Fin 12).val ∧ (posted [] [(R.AX_STAT 11, 1)]).a.chen 11 = false ∧ (posted [] [(R.AX_STAT 11, 1)]).a.axActive 11 = true
    ∧ (posted [] [(R.AX_STAT 11, 1)]).a.on (R.AX_BANK 11) F.AX_BANK_BUSY = false ∧ (posted [] [(R.AX_STAT 11, 1)]).a.on (R.AX_BANK 11) F.AX_BANK_DUE = false := meets (by decide +kernel)
/-- R112: the seventeenth word is dropped and DECOVF set. -/
theorem test_decovf : (match exec (.decisionPost .A 1) (posted sixteen) with | .next t => (t.a.ck.dec.length, t.a.on R.FIX_EVT F.FIX_EVT_DECOVF) | _ => default) = (16, true) := by decide +kernel
theorem witness_mode : (posted sixteen.tail).Quiet ∧ (posted sixteen.tail).a.ck.dec.length < 16 ∧ [0, 1, 2, 3, 4, 5, 6, 7].map (fun v => F.PWR_MODEREQ_REQ.get v) = [0, 1, 2, 3, 4, 5, 6, 7]
    ∧ ∀ q, q < 8 → ∀ p ∈ (posted sixteen.tail).a.ck.dec, p.word ≠ w32 (0xFFFFFE00 + q) := meets (by decide +kernel)
theorem witness_split : (regs [(R.FIX_STAT, 0x333)]).Quiet ∧ (regs [(R.FIX_STAT, 0x333)]).a.mySt = 3 ∧ (regs [(R.FIX_STAT, 0x333)]).a.fld R.FIX_SPLIT F.FIX_SPLIT_SSTATE = 0
    ∧ (∀ p ∈ (regs [(R.FIX_STAT, 0x333)]).a.ck.dec, p.word ≠ splitWord) ∧ (regs [(R.FIX_STAT, 0x333)]).a.ck.owe.contains ((regs [(R.FIX_STAT, 0x333)]).a.me, splitWord) = false
    ∧ (posted sixteen [(R.FIX_STAT, 0x333)]).a.mySt = 3 ∧ 16 ≤ (posted sixteen [(R.FIX_STAT, 0x333)]).a.ck.dec.length ∧ (∀ p ∈ (posted sixteen [(R.FIX_STAT, 0x333)]).a.ck.dec, p.word ≠ splitWord) ∧ (regs [(R.FIX_STAT, 7), (R.FIX_SPLIT, 0x20)]).a.mySt = 7
    ∧ (regs [(R.FIX_STAT, 7), (R.FIX_SPLIT, 0x20)]).a.fld R.FIX_SPLIT F.FIX_SPLIT_SSTATE = 2 := meets (by decide +kernel)
/-- A capture of checkpoint `n` without words. -/
def cap (n : Nat) (disc : List Word) (sig : Word) (posts : List Post) : Cap :=
  { num := n, words := [], disc := disc, sig := sig, mode0 := 0, mode1 := 0, applied := [], ax := [], din := 5, ball := false, posts := posts, trips := [], pdus := [], dist := 0, sd := none,
    conf := false, lo := 0, loBad := false, slp := none, img := none, confRes := none, relRes := none, caught := false }
/-- All three lanes in the Fix 24,000 ticks after the checkpoint, with the changes given. -/
def fix3 (f : LaneId → Lane → Lane) : State :=
  let g : LaneId → Lane → Lane := fun k L => f k { (L.wr R.FIX_STAT 0x333).wr R.POS_TRSTAT (F.POS_TRSTAT_SRC.set 0 7) with gt := 24000 }
  { State.reset with a := g .A State.reset.a, b := g .B State.reset.b, c := g .C State.reset.c }
theorem witness_capture : (fix3 fun _ L => (L.wr R.FIX_CTRL 0x303)).Quiet ∧ (fix3 fun _ L => (L.wr R.FIX_CTRL 0x303)).a.ck.caught = false ∧ (fix3 fun _ L => (L.wr R.FIX_CTRL 0x303)).a.ckDue = true ∧ (fix3 fun _ L => (L.wr R.FIX_CTRL 0x303)).a.on R.PWR_SLPST F.PWR_SLPST_RUN = false ∧ State.reset.a.ckDue = false := meets (by decide +kernel)
/-- Captures of lanes A and B, as numbered. -/
def caught (a b : Option Nat) (wait : List Nat) (done : Bool) : State :=
  fix3 fun k L => { L with ck := { L.ck with cap := (if k = .A then a else if k = .B then b else none).map fun n => cap n [] 0 [], wait := wait, done := done } }
theorem witness_exchange : (caught (some 1) none [] false).b.ck.cap = none ∧ (caught (some 1) (some 1) [3] false).b.ck.wait ≠ [] ∧ LaneId.B ≠ LaneId.A
    ∧ (caught (some 1) (some 1) [] false).b.ck.cap = some (cap 1 [] 0 []) ∧ (caught (some 1) (some 1) [] false).b.ck.wait = [] ∧ (caught (some 1) (some 1) [] false).a.ck.cap.map (·.num) = some 1
    ∧ (caught (some 1) (some 1) [] false).a.ck.done = false ∧ (caught none (some 1) [] false).a.ck.cap = none ∧ (caught (some 2) (some 1) [] false).a.ck.cap.map (·.num) = some 2
    ∧ (caught (some 1) (some 1) [] true).a.ck.done = true := by decide +kernel
/-- Lane A at the apply instant of checkpoint 0 with everyone's data: one lane's KIND 2 words and signature as given. -/
def caps (o : LaneId) (disc : List Word) (sig : Word) : LaneId → Cap := fun k => cap 0 (if k = o then disc else []) (if k = o then sig else 0) (if k = .C then [] else [⟨7, 0, 0⟩])
def applying (o : LaneId) (disc : List Word) (sig : Word) (all : Bool) : State := fix3 fun k L =>
  if k = .A then { L with ck := { L.ck with cap := some (caps o disc sig .A), rx := if all then [(1, ⟨caps o disc sig .B, false, 200⟩), (2, ⟨caps o disc sig .C, false, -200⟩)] else [] } } else L
def skews : LaneId → Int := fun k => match k with | .A => 0 | .B => 200 | .C => -200
/-- Whether lane A of the state is in the situation of the statement. -/
def inFix (s : State) : Bool :=
  !s.a.ck.done && decide (s.a.xwin ≤ s.a.gt) && !s.a.on R.FIX_DBG F.FIX_DBG_HALTED && decide (s.dbgq = []) && !s.a.ck.stepOne
    && (lanes3.all fun k => decide ((s.lane k).me = k.num) && decide ((s.lane k).laneSt 0 = 3) && decide ((s.lane k).laneSt 1 = 3) && decide ((s.lane k).laneSt 2 = 3))
    && decide (s.a.dmode = 0) && decide (s.a.fld R.FIX_SPLIT F.FIX_SPLIT_SSTATE = 0) && !s.a.ck.splitDue && !s.a.on R.PWR_SLPST F.PWR_SLPST_RUN
theorem in_fix {o : LaneId} {disc : List Word} {sig : Word} {all : Bool} (h : inFix (applying o disc sig all) = true) : InRegularFix (applying o disc sig all) .A (caps o disc sig .A) := by
  simp only [inFix, lanes3, List.all_cons, List.all_nil, Bool.and_eq_true, Bool.not_eq_true', decide_eq_true_eq, Bool.and_true] at h
  obtain ⟨⟨⟨⟨⟨⟨⟨⟨⟨h1, h2⟩, h3⟩, h4⟩, h5⟩, ha, hb, hc⟩, h7⟩, h8⟩, h9⟩, h10⟩ := h
  refine ⟨rfl, h1, ?_, h3, h4, h5, ?_, h7, h8, h9, h10⟩
  · rw [show (caps o disc sig .A).num = 0 from rfl, Nat.zero_mul, Nat.zero_add]
    exact h2
  · intro k
    have h : ((applying o disc sig all).lane k).me = k.num ∧ ((applying o disc sig all).lane k).laneSt 0 = 3 ∧ ((applying o disc sig all).lane k).laneSt 1 = 3 ∧ ((applying o disc sig all).lane k).laneSt 2 = 3 := by
      cases k
      · exact ⟨ha.1.1.1, ha.1.1.2, ha.1.2, ha.2⟩
      · exact ⟨hb.1.1.1, hb.1.1.2, hb.1.2, hb.2⟩
      · exact ⟨hc.1.1.1, hc.1.1.2, hc.1.2, hc.2⟩
    refine ⟨h.1, fun j hj => ?_⟩
    have hj' : j = 0 ∨ j = 1 ∨ j = 2 := by omega
    rcases hj' with rfl | rfl | rfl
    · exact h.2.1
    · exact h.2.2.1
    · exact h.2.2.2
theorem all_data (o : LaneId) (disc : List Word) (sig : Word) (h : (applying o disc sig true).a.listCount = 0 ∧ (applying o disc sig true).a.travSrc = 7) : HasAllData (applying o disc sig true) .A (caps o disc sig) skews := by
  refine ⟨rfl, rfl, rfl, ?_, h.1, ?_, h.2, ?_, ?_, rfl, rfl, rfl⟩
  · intro k; cases k <;> decide
  · intro k a; simp [caps, cap]; rfl
  · intro k; exact Nat.zero_le _
  · intro k; cases k <;> refine ⟨rfl, rfl, ?_⟩ <;> simp [caps, cap]
theorem witness_apply : InRegularFix (applying .B [] 0 false) .A (caps .B [] 0 .A) ∧ (applying .B [] 0 false).a.ck.rx = [] ∧ (applying .B [] 0 false).a.ck.voids = 0
    ∧ InRegularFix (applying .B [] 0 true) .A (caps .B [] 0 .A) ∧ HasAllData (applying .B [] 0 true) .A (caps .B [] 0) skews ∧ (∀ j k, (caps .B [] 0 j).digest = (caps .B [] 0 k).digest ∧ (caps .B [] 0 j).sig = (caps .B [] 0 k).sig) := by
  refine ⟨in_fix (by decide +kernel), rfl, rfl, in_fix (by decide +kernel), all_data _ _ _ (by decide +kernel), ?_⟩
  intro j k; cases j <;> cases k <;> exact ⟨rfl, rfl⟩
theorem digests_differ : (caps .B [1] 0 .B).digest ≠ (caps .B [1] 0 .A).digest := by decide +kernel
theorem witness_odd : HasAllData (applying .B [1] 0 true) .A (caps .B [1] 0) skews ∧ HasAllData (applying .B [] 9 true) .A (caps .B [] 9) skews
    ∧ InRegularFix (applying .B [1] 0 true) .A (caps .B [1] 0 .A) ∧ InRegularFix (applying .B [] 9 true) .A (caps .B [] 9 .A) ∧ (applying .B [1] 0 true).a.fld R.FIX_CTRL F.FIX_CTRL_MAXRESYNC ≠ 0
    ∧ (∀ j, j ≠ LaneId.B → (caps .B [1] 0 .B).digest ≠ (caps .B [1] 0 j).digest ∧ (caps .B [1] 0 .B).sig = (caps .B [1] 0 j).sig) ∧ (∀ j, j ≠ LaneId.B → (caps .B [] 9 .B).digest = (caps .B [] 9 j).digest ∧ (caps .B [] 9 .B).sig ≠ (caps .B [] 9 j).sig)
    ∧ HasAllData (applying .A [] 9 true) .A (caps .A [] 9) skews ∧ InRegularFix (applying .A [] 9 true) .A (caps .A [] 9 .A) ∧ (∀ j, j ≠ LaneId.A → (caps .A [] 9 .A).digest = (caps .A [] 9 j).digest ∧ (caps .A [] 9 .A).sig ≠ (caps .A [] 9 j).sig) := by
  refine ⟨all_data _ _ _ (by decide +kernel), all_data _ _ _ (by decide +kernel), in_fix (by decide +kernel), in_fix (by decide +kernel), by decide +kernel, ?_, ?_, all_data _ _ _ (by decide +kernel), in_fix (by decide +kernel), ?_⟩
  · intro j hj; cases j
    · exact ⟨digests_differ, rfl⟩
    · exact absurd rfl hj
    · exact ⟨digests_differ, rfl⟩
  · intro j hj; cases j
    · exact ⟨rfl, by decide⟩
    · exact absurd rfl hj
    · exact ⟨rfl, by decide⟩
  · intro j hj; cases j
    · exact absurd rfl hj
    · exact ⟨rfl, by decide⟩
    · exact ⟨rfl, by decide⟩
/-- R105: lane B's digest alone differs, so lane B is odd with cause 0x2. -/
theorem test_odd : (match exec (.checkpointApply .A) (applying .B [1] 0 true) with | .next t => (t.a.fld R.FIX_EVT F.FIX_EVT_ODDLANE, t.a.fld R.FIX_EVT F.FIX_EVT_CAUSE, t.a.laneSt 1) | _ => default) = (1, 2, 4) := by decide +kernel
theorem witness_not_applied : State.reset.a.ck.cap = none ∧ (caught (some 1) none [] true).a.ck.done = true ∧ (regs [(R.FIX_DBG, 2)]).a.on R.FIX_DBG F.FIX_DBG_HALTED = true
    ∧ (caught (some 1) none [] false).a.gt < 1 * (caught (some 1) none [] false).a.ckP + (caught (some 1) none [] false).a.xwin := by decide +kernel
theorem witness_clock : State.reset.a.inFix ≠ 7 ∧ (fix3 fun _ L => L).a.inFix = 7 ∧ (fix3 fun _ L => L).b.inFix = 7 ∧ (fix3 fun _ L => L).c.inFix = 7 ∧ (fix3 fun _ L => L).a.me = 0 ∧ (fix3 fun _ L => L).b.me = 1
    ∧ (fix3 fun _ L => L).c.me = 2 ∧ (fix3 fun _ L => L).b.fld R.FIX_CTRL F.FIX_CTRL_MAXRESYNC ≠ 0 := by decide +kernel
theorem witness_votes : med3 1 2 4 = 2 ∧ (voteNum [(0, 1), (1, 2), (2, 4)] 1) = (some 2, 4) ∧ (voteNum [(0, 0), (1, 2), (2, 4)] 1) = (none, 5) ∧ (voteNum [(0, 3), (2, 6)] 3).1.isSome = true ∧ (voteNum [(0, 3), (2, 7)] 3).1 = none
    ∧ oddOne [(0, 5), (1, 5), (2, 6)] = ([2], false) ∧ oddOne [(0, 5), (1, 7), (2, 6)] = ([], true) := by decide +kernel
/-- The debug link open, in a rig image or a commissioned one. -/
def debug (dbg : Word) (q : Nat) : State := { fix3 (fun _ L => L.wr R.FIX_DBG dbg) with bin := { (default : Bin) with on := true, regs := [(4, bDbg.mask)] }, dbgq := List.replicate q ⟨.halt, []⟩ }
theorem witness_debug : State.reset.dbgOpen = false ∧ (debug 0 0).dbgOpen = true ∧ (debug 0 0).a.on R.FIX_DBG F.FIX_DBG_RIG = false ∧ (debug 1 0).a.on R.FIX_DBG F.FIX_DBG_RIG = true ∧ (debug 1 0).a.on R.FIX_DBG F.FIX_DBG_HALTED = false
    ∧ 8 ≤ (debug 1 8).dbgq.length ∧ (debug 1 7).dbgq.length < 8 ∧ (debug 3 0).a.on R.FIX_DBG F.FIX_DBG_HALTED = true ∧ (debug 3 0).b.on R.FIX_DBG F.FIX_DBG_HALTED = true ∧ (debug 3 0).c.on R.FIX_DBG F.FIX_DBG_HALTED = true
    ∧ (debug 3 0).a.bankOut 0x200FFFFC = false ∧ (debug 3 0).b.bankOut 0x200FFFFC = false ∧ (debug 3 0).c.bankOut 0x200FFFFC = false := by decide +kernel

/-! ### Edges and dies -/

/-- Lane A in the Fix with a die that it has seen, linked. -/
def linked (f : Lane → Lane := id) (g : Die → Die := id) : State :=
  { regs [(R.FIX_STAT, 0x333)] (fun L => f { L with edg := { L.edg with seen := [(20, true)] } }) with d0 := g { (default : Die) with on := true, links := [(0, 2), (1, 2), (2, 2)] } }
/-- A state a die period later in lane A. -/
def atVote (s : State) : State := { s with a := { s.a with ticks := 9500 } }
theorem witness_edge : State.reset.Quiet ∧ (regs [] fun L => { L with ticks := 7 }).a.edg.ldTick ≠ 8 ∧ State.reset.a.small = false ∧ F.EDG_LOAD_BMASK.get 0x81 = 0x81 := meets (by decide +kernel)
theorem witness_clear : (atVote linked).Quiet ∧ (atVote linked).a.small = false ∧ (atVote linked).a.sends LaneId.A.num = true ∧ (atVote linked).a.edg.seen.at (dieKey 0) = true ∧ (atVote linked).a.hasSent (dieKey 0) ((atVote linked).a.edg.pnum.at (dieKey 0) + 1) = false
    ∧ (atVote linked).a.voteTick (dieKey 0) ≤ (atVote linked).a.ticks + 500 ∧ ((atVote linked).die 0).on = true ∧ 2 ≤ ((atVote linked).die 0).links.at LaneId.A.num := meets (by decide +kernel)
theorem witness_bridge_enable : State.reset.Quiet ∧ State.reset.a.Unlocked ∧ State.reset.a.small = false ∧ State.reset.a.on (R.EDG_BCFG 7) F.EDG_BCFG_EN = false ∧ State.reset.a.bridgeOk 7 = true
    ∧ (regs [(R.EDG_BPER 7, 0)]).a.bridgeOk 7 = false := meets ⟨by decide +kernel, by unfold Lane.Unlocked; decide +kernel⟩
/-- Axis 0 active on bridge 7. -/
def bound (ws : List (Reg × Word) := []) (f : Lane → Lane := id) : State := regs ([(R.AX_BIND 0, 0x87), (R.AX_CFG 0, 0x41), (R.AX_STAT 0, 1)] ++ ws) f
theorem witness_commutation_enable : bound.Quiet ∧ bound.a.Unlocked ∧ bound.a.small = false ∧ bound.a.mcEn 7 = false ∧ bound.a.mcSt 7 = 0 ∧ bound.a.axisOfBridge 7 = some 0 ∧ bound.a.axisOfBridge 0 = none
    ∧ (bound [(R.EDG_MCTL 7, 0x35)]).a.mcEn 7 = true := meets ⟨by decide +kernel, by unfold Lane.Unlocked; decide +kernel⟩

/-! ### Driver dies -/

/-- A bridge that switches, at place 1 of the die, with the changes given. -/
def bridgeOn (f : DBr → DBr := id) (cfg : Tab Word := []) : State := dieOn fun d => { d with b1 := f { (default : DBr) with switching := true, gates := [(2, ⟨some .high, 0, none, 0, 0⟩)] }, cfg := cfg }
theorem witness_bridge_protection : ((bridgeOn).die 0).on = true ∧ (((bridgeOn).die 0).br 1).switching = true ∧ ((dieOn).die 0).on = true ∧ (((dieOn).die 0).br 1).switching = false
    ∧ (((bridgeOn).die 0).br 1).legsOff.testBit 2 = false ∧ (((bridgeOn).die 0).br 1).legsLow.testBit 2 = false ∧ (((bridgeOn fun b => { b with legsOff := 4 }).die 0).br 1).legsOff.testBit 2 = true
    ∧ (((bridgeOn fun b => { b with switching := false, lows := true }).die 0).br 1).lows = true ∧ 0 < ((((bridgeOn fun b => { b with gates := [(2, ⟨none, 0, some .low, 7000, 400⟩)] }).die 0).br 1).gates.at 2).hold
    ∧ F.EDG_BREF_REFN.get (((bridgeOn).die 0).actOf (R.EDG_BREF 1)) = 64 ∧ (((bridgeOn fun b => { b with hh := [(2, 64)] }).die 0).br 1).hh.at 2 = 64
    ∧ (((bridgeOn fun b => { b with hh := [(2, 63)] }).die 0).br 1).hh.at 2 = 63 ∧ (((bridgeOn fun b => { b with since := 8 }).die 0).br 1).since ≤ 8 ∧ 8 < (((bridgeOn fun b => { b with since := 9 }).die 0).br 1).since
    ∧ (⟨some .high, 5, none, 0, 0⟩ : LegGate).side = some .high := by decide +kernel
theorem witness_short : ((((bridgeOn).die 0).br 1).gates.at 2).side = some .high ∧ (((bridgeOn).die 0).br 1).shortAt = none ∧ (((bridgeOn).die 0).br 1).legs = 0
    ∧ (((bridgeOn fun b => { b with legs := 1, cls := 2, shortAt := some (0, 100, 1) }).die 0).br 1).legs ≠ 0 ∧ ((((bridgeOn fun b => { b with legs := 1, cls := 2, shortAt := some (0, 100, 1) }).die 0).br 1).gates.at 2).side = some .high
    ∧ (((bridgeOn fun b => { b with legs := 1, shortAt := some (0, 100, 1) }).die 0).br 1).shortAt = some ((((bridgeOn fun b => { b with legs := 1, shortAt := some (0, 100, 1) }).die 0).br 1).r.seq, 100, 1)
    ∧ 900 ≤ 100 + 800 ∧ ¬901 ≤ 100 + 800 ∧ (1 : Nat).testBit 2 = false := by decide +kernel
/-- R317: a second leg within 500 ns makes the short a phase-to-phase one, which latches the bridge at once. -/
theorem test_phase_to_phase : (match exec (.desaturation 1 .W .high 900) (bridgeOn fun b => { b with legs := 1, cls := 2, shortAt := some (0, 100, 1) }) with | .next t => (t.d0.b1.latched, t.d0.b1.cls, t.d0.b1.legs, t.d0.b1.switching) | _ => default)
    = (true, 3, 5, false) := by decide +kernel
/-- Trip input 1 of die D0, enabled with every action, at the level and wait given; a blanking window of bridge 0 covers it. -/
def trip (lev pend : Bool) (en : Word) : State := dieOn fun d => { d with
      tr := [(1, { (default : DTr) with level := lev, pend := pend })], 
      act := [((R.EDG_BBLK 0).addr, 0x1002), ((R.EDG_TRCFG 1).addr, 0x7F10 ||| en)] }
theorem witness_trips : ((dieOn).die 0).on = true ∧ ((trip false false 1).die 0).on = true ∧ F.EDG_TRCFG_EN.on (((trip false false 1).die 0).actOf (R.EDG_TRCFG 1)) = true ∧ F.EDG_TRCFG_EN.on (((trip false false 0).die 0).actOf (R.EDG_TRCFG 1)) = false
    ∧ (F.EDG_BBLK_TBLK.get (((trip false false 1).die 0).actOf (R.EDG_BBLK 0))).testBit 1 = true ∧ (F.EDG_TRCFG_ACTBR.get (((trip false false 1).die 0).actOf (R.EDG_TRCFG 1))).testBit 1 = true
    ∧ (F.EDG_TRCFG_ACTVLV.get (((trip false false 1).die 0).actOf (R.EDG_TRCFG 1))).testBit 2 = true ∧ (F.EDG_TRCFG_ACTSO.get (((trip false false 1).die 0).actOf (R.EDG_TRCFG 1))).testBit 1 = true
    ∧ (((trip true true 1).die 0).tr.at 1).pend = true ∧ (((trip true true 1).die 0).tr.at 1).level = true ∧ (((trip false true 1).die 0).tr.at 1).level = false := by decide +kernel
/-- Valve channel 2 of die D0 with the changes given. -/
def valve (f : DVl → DVl) (g : Die → Die := id) : State := dieOn fun d => g { d with vl := [(2, f default)] }
theorem witness_valves : 10 ≤ (((valve fun v => { v with openCnt := 10 }).die 0).vl.at 2).openCnt ∧ (((valve fun v => { v with openCnt := 9 }).die 0).vl.at 2).openCnt < 10 ∧ (((valve fun v => { v with switching := true }).die 0).vl.at 2).switching = true
    ∧ (((dieOn).die 0).vl.at 2).switching = false ∧ 8 * F.EDG_VLIM_VDEVT.get (((valve fun v => { v with devCnt := 32 }).die 0).actOf (R.EDG_VLIM 2)) = 32 ∧ (((valve fun v => { v with devCnt := 32 }).die 0).vl.at 2).devCnt = 32
    ∧ (((valve fun v => { v with devCnt := 31 }).die 0).vl.at 2).devCnt = 31 ∧ (((valve fun v => { v with switching := true, ovcCnt := 2 }).die 0).vl.at 2).ovcCnt = 2
    ∧ (((valve fun v => { v with switching := true, ovcCnt := 1 }).die 0).vl.at 2).ovcCnt = 1 ∧ (((valve fun v => { v with switching := true, ovcCnt := 1 }).die 0).vl.at 2).ovcNow = false := by decide +kernel
/-- Safety output 1 of die D0 on, and the off-pulse test of an item running. -/
def output (f : DSo → DSo := id) (k : Option Nat := none) : State := dieOn fun d => { d with so := [(1, f { (default : DSo) with on := true })], test := k }
theorem witness_outputs : (((output).die 0).so.at 1).on = true ∧ (((dieOn).die 0).so.at 1).on = false ∧ ((output).die 0).test = none ∧ ((output).die 0).testable 5 = true ∧ ((output).die 0).testable 6 = false ∧ ((output id (some 5)).die 0).test = some 5
    ∧ ((output id (some 2)).die 0).test = some 2 ∧ ((valve fun v => { v with switching := true, isetCur := 1 }).die 0).testable 2 = true := by decide +kernel
/-- R331: a test that fails latches the output. -/
theorem test_off_pulse : (match exec (.offPulseTestEnd 0 false) (output id (some 5)) with | .next t => ((t.d0.so.at 1).on, (t.d0.so.at 1).latched, (t.d0.so.at 1).flags) | _ => default) = (false, true, F.EDG_SOSTAT_STUCK1.mask.toNat) := by decide +kernel

/-- Bridge 0 of die D0 ready to switch, with a vote for the coming period. -/
def ready (f : DBr → DBr := id) : State := dieOn fun d => { d with
      en := true, railOk := true, links := [(0, 2), (2, 3)],
      b0 := f { (default : DBr) with r := { (default : DRes) with agreed := true, en := true }, next := [(1, 2), (3, 4), (5, 6)] } }
theorem witness_periods : F.EDG_BCFG_SYNC.on (((dieOn fun d => { d with cfg := [((R.EDG_BCFG 1).addr, F.EDG_BCFG_SYNC.mask)] }).die 0).cfgOf (R.EDG_BCFG (2 * 0 + 1))) = true ∧ F.EDG_BCFG_SYNC.on (((ready).die 0).cfgOf (R.EDG_BCFG (2 * 0 + 1))) = false
    ∧ ((ready).die 0).on = true ∧ ((ready).die 0).brMaySwitch 0 0 = true ∧ ((dieOn).die 0).brMaySwitch 0 0 = false
    ∧ ((valve (fun v => { v with r := { (default : DRes) with agreed := true, en := true } }) fun d => { d with en := true, railOk := true }).die 0).vlMaySwitch 0 2 = true
    ∧ ((valve (fun v => { v with r := { (default : DRes) with agreed := true, en := true } }) fun d => { d with en := true, railOk := true, test := some 2 }).die 0).vlMaySwitch 0 2 = true := by decide +kernel
theorem witness_shaping : 1000 ≤ 2000 ∧ 2000 ≤ 16000 ∧ (-300 : Int).natAbs ≤ 16000 ∧ 4 * 4000 ≤ 16000 := by decide
/-- R291: the pulse of 100 units is shorter than the threshold of 1600, so none is driven and its time is carried. -/
theorem test_shaping : (shapeLeg 7950 8050 16000 1600 0).1.1 = (shapeLeg 7950 8050 16000 1600 0).1.2 ∧ (shapeLeg 7950 8050 16000 1600 0).2 = 100 := by decide +kernel

/-- A packet of a lane for a resource, or for the die. -/
def pkt (l : Nat) (r : Option Nat) (seq : Nat) : Pkt := { (default : Pkt) with lane := l, res := r, seq := seq, en := true, plen := 16000, edges := [1, 2, 3, 4, 5, 16000], iset := 4095, cfgIdx := 0, cfgVal := 1 }
/-- Slots of the lanes given. -/
def slotsOf (ls : List Nat) (r : Option Nat) : Tab Pkt := ls.map fun l => (l, pkt l r 1)
def voting (ls : List Nat) (f : DRes → DRes := id) : State := dieOn fun d => { d with
      links := [(0, 2), (1, 2), (2, 2)], 
      b0 := { (default : DBr) with r := f { (default : DRes) with slots := slotsOf ls (some 0), agreed := true } },
      vl := [(2, { (default : DVl) with r := f { (default : DRes) with slots := slotsOf ls (some 4), agreed := true } })] }
theorem witness_votes_die : ((voting [0, 2]).die 0).on = true ∧ (((voting [0, 2]).die 0).sameVote ((voting [0, 2]).die 0).b0.r.slots (·.plen)) = some 16000
    ∧ (∀ k, k < 6 → ((((voting [0, 2]).die 0).numVote ((voting [0, 2]).die 0).b0.r.slots (((voting [0, 2]).die 0).ewin 0) fun p => ((min (p.edges.getD k 0) 16000 : Nat) : Int)).1).isSome = true)
    ∧ (((voting [0]).die 0).sameVote ((voting [0]).die 0).b0.r.slots (·.plen)) = none ∧ ((voting [0]).die 0).b0.r.agreed = true ∧ ((voting [0]).die 0).hold 0 = 2
    ∧ (((voting [0, 2]).die 0).numVote (((voting [0, 2]).die 0).vl.at 2).r.slots (((voting [0, 2]).die 0).vwin 0) fun p => (p.iset : Int)).1 = some 4095
    ∧ (((voting [0]).die 0).numVote (((voting [0]).die 0).vl.at 2).r.slots (((voting [0]).die 0).vwin 0) fun p => (p.iset : Int)).1 = none
    ∧ ((voting [] fun r => { r with holdDue := true }).die 0).b0.r.holdDue = true ∧ ((voting []).die 0).b0.r.holdDue = false ∧ ((voting []).die 0).mode = .fix := by decide +kernel
/-- R121: two of three valid packets ask for EN, so the voted bit is set. -/
theorem test_bit_vote : ((voting [0, 2]).die 0).bitVote (slotsOf [0, 2] none) false (·.en) = true ∧ ((voting [0]).die 0).bitVote (slotsOf [0] none) false (·.en) = false := by decide +kernel
/-- A packet on a lane's link to die D0. -/
def sentTo (p : Pkt) : State := dieOn fun d => { d with tx := [(p.lane, p.words)], links := [(p.lane, 2)] }
theorem witness_packets : ((sentTo (pkt 2 none 1)).die 0).on = true ∧ (∀ p ∈ ((dieOn).die 0).tx, p.1 ≠ 2) ∧ (((sentTo (pkt 2 none 1)).die 0).tx.find? fun p => decide (p.1 = 2)) = some (2, (pkt 2 none 1).words)
    ∧ ((dieOn fun d => { d with tx := [(2, (pkt 2 none 1).words)] }).die 0).links.at 2 < 2 ∧ 2 ≤ ((sentTo (pkt 2 none 1)).die 0).links.at 2 ∧ (readPkt 2 (pkt 2 none 1).words).isSome = true ∧ readPkt 1 (pkt 2 none 1).words = none
    ∧ pktOk (pkt 2 (some 1) 1) = true ∧ pktOk { pkt 2 (some 0) 1 with edges := [2, 1] } = false ∧ (readPkt 2 { pkt 2 (some 0) 1 with iset := 0, cfgVal := 0 }.words).map (·.seq) = some 1 ∧ (readPkt 2 (pkt 2 (some 4) 1).words).map (·.iset) = some 4095
    ∧ 1 % 256 = ((sentTo (pkt 2 none 1)).die 0).votedSeq none % 256 ∧ 1 % 256 = ((sentTo (pkt 2 none 1)).die 0).votedSeq (some 1) % 256 ∧ 1 % 256 = ((sentTo (pkt 2 none 1)).die 0).votedSeq (some 4) % 256
    ∧ (256 + 0) % 256 = (0 : Nat) ∧ (0 + 1) % 256 = ((sentTo (pkt 2 none 0)).die 0).votedSeq none % 256 := by decide +kernel
/-- R296, R297: a packet reads back from its words, and one whose CRC word is wrong is not read. -/
theorem test_packet_words : readPkt 2 { pkt 2 (some 0) 257 with iset := 0, cfgVal := 0 }.words = some { pkt 2 (some 0) 1 with iset := 0, cfgVal := 0 }
    ∧ readPkt 2 ((pkt 2 (some 4) 1).words.dropLast ++ [0]) = none := by decide +kernel
/-- R296: the header of a valve packet, TYPE 2 in [3:0], LANE 2 in [5:4], RES 2 in [7:6], SEQ in [15:8] and EN in bit 16. -/
theorem test_packet_header : ((pkt 2 (some 4) 1).words.getD 0 0, (pkt 2 (some 4) 1).words.length) = (0x101A2, 3) := by decide +kernel
/-- Die D0 with the die packets of lanes A and C in its slots. -/
def dieVoting (idx : Nat) (lock : Bool) : State := dieOn fun d => { d with links := [(0, 2), (2, 2)], lock := lock, tslots := [(0, { pkt 0 none 1 with cfgIdx := idx, lock := lock }), (2, { pkt 2 none 1 with cfgIdx := idx, lock := lock })] }
theorem witness_die_vote : (((dieVoting 0x3FF false).die 0).sameVote ((dieVoting 0x3FF false).die 0).tslots fun p => (p.cfgIdx, p.cfgVal)) = some (0x3FF, 1)
    ∧ (((dieOn).die 0).sameVote ((dieOn).die 0).tslots fun p => (p.cfgIdx, p.cfgVal)) = none
    ∧ (((dieVoting 0x40 false).die 0).sameVote ((dieVoting 0x40 false).die 0).tslots fun p => (p.cfgIdx, p.cfgVal)) = some (0x40, 1)
    ∧ ((cfgWords 0).find? (fun z => decide (z.1 = 0x40))).isSome = true ∧ (∀ r ∈ ((dieVoting 0x40 false).die 0).ports, r.port ≠ 1) := by decide +kernel
theorem witness_deadlines : linked.a.sends LaneId.A.num = true ∧ (linked fun L => { L with ticks := 49500, edg := { L.edg with seen := [(0, true)] } }).a.edg.seen.at 0 = true
    ∧ (linked fun L => { L with ticks := 49500, edg := { L.edg with seen := [(0, true)] } }).a.voteTick 0 ≤ 49500 + 500 ∧ (linked fun L => { L with ticks := 49500, edg := { L.edg with seen := [(0, true)] } }).a.hasSent 0 ((linked fun L => { L with ticks := 49500, edg := { L.edg with seen := [(0, true)] } }).a.edg.pnum.at 0 + 1) = false
    ∧ State.reset.a.sends 0 = false ∧ (State.reset.a.base ≠ 2) ∧ (-(2 ^ 31) : Int) ≤ 2 ^ 31 - 1 := by decide +kernel

/-! ### Reports of the dies and commutation -/

/-- Records on the return links of die D3. -/
def returned (rs : List (Nat × Ret)) (f : Lane → Lane := id) : State := { State.reset with d3 := { (default : Die) with on := true, ret := rs }, a := f State.reset.a }
/-- The record that lane A finds first among those of a kind. -/
def firstOf {α : Type} (s : State) (p : Ret → Option α) : Option α := ((s.die 3).ret.find? fun e => decide (e.1 = LaneId.A.num) && (p e.2).isSome).bind fun e => p e.2
def someReports : List (Nat × Ret) := [(1, .mark 0 7), (0, .mark 1 3), (0, .mark 4 9), (0, .bridge 1 { (default : BrRep) with evt := 0x41 }), (0, .valve 4 { (default : VlRep) with flags := 0x12 }), (0, .die default), (0, .vote { (default : VoteRep) with noagr := true, holdoff := 2 })]
theorem witness_reports : ((returned []).d3.ret = []) ∧ firstOf (returned someReports) (fun r => match r with | .mark p q => some (p, q) | _ => none) = some (1, 3)
    ∧ firstOf (returned [(0, .mark 4 9)]) (fun r => match r with | .mark p q => some (p, q) | _ => none) = some (4, 9)
    ∧ firstOf (returned someReports) (fun r => match r with | .bridge p q => some (p, q.evt) | _ => none) = some (1, 0x41) ∧ 0x41 % 8 ≠ 0 ∧ 0x41 / 8 % 8 = 0 ∧ 0x48 / 8 % 8 ≠ 0 ∧ 0x40 % 64 = 0
    ∧ firstOf (returned someReports) (fun r => match r with | .valve p q => some (p, q.flags) | _ => none) = some (4, 0x12) ∧ (0x12 : Nat).testBit 4 = true ∧ 0x0F % 16 ≠ 0 ∧ (0x0F : Nat).testBit 4 = false ∧ 0x20 % 32 = 0
    ∧ firstOf (returned someReports) (fun r => match r with | .die q => some q | _ => none) = some default ∧ firstOf (returned [(0, .die { (default : DieRep) with fault := true })]) (fun r => match r with | .die q => some q.fault | _ => none) = some true
    ∧ firstOf (returned someReports) (fun r => match r with | .vote q => some (q.noagr, q.holdoff) | _ => none) = some (true, 2) := by decide +kernel
/-- R151: a desaturation that a bridge report carries is recorded as a fault of class 0x08 at the bridge. -/
theorem test_report_fault : (match exec (.bridgeReportReceive .A 3) (returned [(0, .bridge 1 { (default : BrRep) with evt := 1 })]) with | .next t => (t.a.fld R.FIX_FLTLAST F.FIX_FLTLAST_CLASS, t.a.fld R.FIX_FLTLAST F.FIX_FLTLAST_LOC, t.a.on (R.EDG_BEVT 7) F.EDG_BEVT_DESAT) | _ => default) = (8, 7, true) := by decide +kernel
/-- Lane A has seen die D3 and heard nothing for 100 µs; lane B takes it as silent or not. -/
def silence (n : Nat) (other : Bool) : State := { State.reset with a := { State.reset.a with ticks := n, edg := { State.reset.a.edg with seen := [(23, true)] } }, b := { State.reset.b with edg := { State.reset.b.edg with silent := if other = true then [(3, true)] else [] } } }
theorem witness_silence : (silence 20000 true).a.edg.seen.at (dieKey 3) = true ∧ (silence 20000 true).a.edg.lastRet.at 3 + 20000 ≤ (silence 20000 true).a.ticks ∧ (silence 20000 true).a.edg.silent.at 3 = false ∧ (silence 20000 true).b.edg.silent.at 3 = true
    ∧ (silence 20000 false).b.edg.silent.at 3 = false ∧ (silence 20000 false).c.edg.silent.at 3 = false ∧ ¬(silence 19999 true).a.edg.lastRet.at 3 + 20000 ≤ (silence 19999 true).a.ticks := by decide +kernel

/-- The commutation of bridge 7 in a state, in period `n` of 500 µs. -/
def wind (st : Word) (n : Nat) (ws : List (Reg × Word) := []) (f : Mc → Mc := id) (g : Lane → Lane := id) : State :=
  regs ([(R.EDG_MSTAT 7, st), (R.AX_BIND 0, 0x87), (R.AX_CFG 0, 0x41), (R.AX_STAT 0, 1)] ++ ws) fun L => g { L with edg := { L.edg with pnum := [(7, n)], seen := [(7, true)] }, mc := [(7, f { (default : Mc) with plen := 800000 })] }
theorem witness_timed_changes : (wind 3 40).a.mcSt 7 = 3 ∧ ((wind 3 40).a.mcOf 7).govern + (wind 3 40).a.mcPeriods 7 (ms ((wind 3 40).a.fld (R.EDG_MCAT 7) F.EDG_MCAT_BRKT)) ≤ (wind 3 40).a.edg.pnum.at 7
    ∧ ¬((wind 3 39).a.mcOf 7).govern + (wind 3 39).a.mcPeriods 7 (ms ((wind 3 39).a.fld (R.EDG_MCAT 7) F.EDG_MCAT_BRKT)) ≤ (wind 3 39).a.edg.pnum.at 7
    ∧ (wind 7 100).a.mcSt 7 = 7 ∧ ((wind 7 100).a.mcOf 7).govern + (wind 7 100).a.mcPeriods 7 (ms 50) ≤ (wind 7 100).a.edg.pnum.at 7 ∧ (wind 8 40).a.mcSt 7 = 8 ∧ ((wind 8 40).a.mcOf 7).govern + (wind 8 40).a.mcPeriods 7 (ms 20) ≤ (wind 8 40).a.edg.pnum.at 7
    ∧ (wind 0x1006 9 [] fun m => { m with verEnd := 9 }).a.on (R.EDG_MSTAT 7) F.EDG_MSTAT_VERIFY = true ∧ ((wind 0x1006 9 [] fun m => { m with verEnd := 9 }).a.mcOf 7).verEnd ≤ (wind 0x1006 9 [] fun m => { m with verEnd := 9 }).a.edg.pnum.at 7
    ∧ 0 < ((wind 0x1006 9 [] fun m => { m with verEnd := 9 }).a.mcOf 7).verEnd ∧ (wind 0x1006 9 [] fun m => { m with verEnd := 9 }).a.mcPosted 7 = false := by decide +kernel
/-- Sequence 15 fed by bridge 7. -/
def fed : List (Reg × Word) := [(R.MEAS_SQCFG 15, 0x750100), (R.MEAS_SQSTAT 15, 1)]
theorem witness_sampling_instant : (wind 1 40 fed).a.edg.seen.at 7 = true ∧ ((wind 1 40 fed).a.mcOf 7).smpFor ≠ (wind 1 40 fed).a.edg.pnum.at 7 + 1
    ∧ (wind 1 40 fed id fun L => { L with ticks := 50000 }).a.fld (R.EDG_MISEL 7) F.EDG_MISEL_SMPPOS * (wind 1 40 fed).a.lenAt 7 0 ≤ 2048 * (50000 - (wind 1 40 fed).a.edg.pstart.at 7)
    ∧ ¬(wind 1 40 [(R.EDG_MISEL 7, F.EDG_MISEL_SMPPOS.mask)]).a.fld (R.EDG_MISEL 7) F.EDG_MISEL_SMPPOS * (wind 1 40 fed).a.lenAt 7 0 ≤ 2048 * (0 - (wind 1 40 fed).a.edg.pstart.at 7) := by decide +kernel
theorem witness_sampling : State.reset.a.mcSt 7 = 0 ∧ (wind 1 40 fed).a.mcSt 7 ≠ 0 ∧ (wind 1 40 fed).a.on (R.MEAS_SQCFG 15) F.MEAS_SQCFG_BRGEN = true ∧ (wind 1 40 fed).a.fld (R.MEAS_SQCFG 15) F.MEAS_SQCFG_BRG = 7
    ∧ (wind 1 40 fed).a.on (R.MEAS_SQSTAT 15) F.MEAS_SQSTAT_ACTIVE = true ∧ ((wind 1 40 fed).a.meas.runs.at 15).run = false ∧ (wind 1 40).a.mcSt 7 = 1 ∧ (∀ q, q < 16 → (wind 1 40).a.on (R.MEAS_SQCFG q) F.MEAS_SQCFG_BRGEN = false)
    ∧ (wind 1 40).a.sensKind 7 ≠ 3 ∧ ((wind 1 8).a.mcOf 7).govern ≤ (wind 1 8).a.edg.pnum.at 7 ∧ (wind 1 8).a.edg.pnum.at 7 < ((wind 1 8).a.mcOf 7).govern + 16 := by decide +kernel
theorem witness_offset_check : (wind 1 40).a.ck.trips = [] ∧ (wind 1 40 [] fun m => { m with nOfs := 16 }).a.mcSt 7 = 1 ∧ 0 < ((wind 1 40 [] fun m => { m with nOfs := 16 }).a.mcOf 7).nOfs ∧ ((wind 1 16).a.mcOf 7).govern + 16 ≤ (wind 1 16).a.edg.pnum.at 7
    ∧ ((wind 1 15).a.mcOf 7).govern + 16 ≤ (wind 1 15).a.edg.pnum.at 7 + 1 ∧ ((wind 1 15 [] fun m => { m with sampAt := 16 }).a.mcOf 7).sampAt = (wind 1 15).a.edg.pnum.at 7 + 1 ∧ (wind 1 40).a.mcPosted 7 = false
    ∧ ((wind 1 40).a.mcOf 7).posted = [] ∧ (wind 1 40).a.fld (R.EDG_MLIM 7) F.EDG_MLIM_OFSMAX = 20 ∧ 20 * 2 ^ 31 < (rneDiv (16 * 41943041) 16).natAbs * 1024 ∧ ¬20 * 2 ^ 31 < (rneDiv (16 * 41943040) 16).natAbs * 1024
    ∧ (wind 1 40).a.mcLead 7 = none ∧ (wind 1 40).a.on (R.EDG_MCTL 7) F.EDG_MCTL_CATCHEN = true ∧ (wind 1 40 [(R.EDG_MCTL 7, 9)]).a.on (R.EDG_MCTL 7) F.EDG_MCTL_CATCHEN = false ∧ (wind 1 40 [(R.EDG_MCTL 7, 9)]).a.sensOk 7 = false
    ∧ (wind 1 40 [(R.EDG_MCTL 7, 9)]).a.on (R.EDG_MCTL 7) F.EDG_MCTL_STARTEN = true ∧ (wind 1 40 [(R.EDG_MCTL 7, 1)]).a.on (R.EDG_MCTL 7) F.EDG_MCTL_STARTEN = false
    ∧ (wind 1 40 [(R.EDG_MSEN 7, 0x1000071), (R.POS_CFG 7, 3)]).a.sensOk 7 = true
    ∧ (wind 1 40 [(R.AX_BIND 0, 0x8786)]).a.mcLead 7 = some 6 ∧ (wind 1 40 [(R.AX_BIND 0, 0x8786)]).a.mcSt 6 ≠ 9 := by decide +kernel
theorem witness_align_poltest : (wind 4 39).a.mcSt 7 = 4 ∧ ((wind 4 39).a.mcOf 7).govern + (wind 4 39).a.mcPeriods 7 (ms ((wind 4 39).a.fld (R.EDG_MINJ 7) F.EDG_MINJ_TALIGN)) ≤ (wind 4 39).a.edg.pnum.at 7 + 1
    ∧ (wind 4 39).a.mcPosted 7 = false ∧ ((wind 4 39).a.mcOf 7).est = [] ∧ (wind 4 39 [(R.EDG_MSTAT 7, 0xC04)]).a.fld (R.EDG_MSTAT 7) F.EDG_MSTAT_RETRY = 3 ∧ (wind 4 39).a.fld (R.EDG_MSTR 7) F.EDG_MSTR_RETRYMAX = 3
    ∧ ([(0, 5), (1, 7)] : List (Nat × Word)).getLast? = some (1, 7) ∧ spread [(0, 5), (1, 7)] * 360 ≤ (wind 4 39).a.fld (R.EDG_MINJ 7) F.EDG_MINJ_LOCKTOL * 2 ^ 32 ∧ ¬spread [(0, 0), (1, 0x40000000)] * 360 ≤ (wind 4 39).a.fld (R.EDG_MINJ 7) F.EDG_MINJ_LOCKTOL * 2 ^ 32
    ∧ (wind 5 47).a.mcSt 7 = 5 ∧ ((wind 5 47).a.mcOf 7).govern + 2 * (F.EDG_MPOL_PULSEN.get ((wind 5 47).a.rd (R.EDG_MPOL 7)) + F.EDG_MPOL_DECAY.get ((wind 5 47).a.rd (R.EDG_MPOL 7))) ≤ (wind 5 47).a.edg.pnum.at 7 + 1
    ∧ F.EDG_MPOL_POLMIN.get ((wind 5 47).a.rd (R.EDG_MPOL 7)) = 8 ∧ (8 : Int) * max 256 248 ≤ 256 * (256 - 248) ∧ 256 * (256 - 249) < (8 : Int) * max 256 249 ∧ (8 : Int) * max 248 256 ≤ 256 * (256 - 248) := by decide +kernel
theorem witness_catch : (wind 2 3).a.mcSt 7 = 2 ∧ ((wind 2 3).a.mcOf 7).govern + (wind 2 3).a.mcPeriods 7 (ms 2) ≤ (wind 2 3).a.edg.pnum.at 7 + 1 ∧ (wind 2 3).a.mcPosted 7 = false ∧ ((wind 2 3).a.mcOf 7).posted = []
    ∧ ((wind 2 3 [] id fun L => { L with ticks := 400000000 }).a.mcOf 7).catchAt + ms ((wind 2 3).a.fld (R.EDG_MCAT2 7) F.EDG_MCAT2_CATCHT) ≤ (wind 2 3 [] id fun L => { L with ticks := 400000000 }).a.ticks
    ∧ ¬((wind 2 3).a.mcOf 7).catchAt + ms ((wind 2 3).a.fld (R.EDG_MCAT2 7) F.EDG_MCAT2_CATCHT) ≤ (wind 2 3).a.ticks
    ∧ (wind 2 3 [(R.EDG_MVSEL 7, F.EDG_MVSEL_VVALID.mask)] fun m => { m with nCatch := 1 }).a.mcTurns 7 = true ∧ (wind 2 3).a.mcTurns 7 = false
    ∧ (wind 8 1).a.mcSt 7 = 8 ∧ ((wind 8 1).a.mcOf 7).mStart + (wind 8 1).a.mcPeriods 7 (ms 1) ≤ (wind 8 1).a.edg.pnum.at 7 + 1
    ∧ (wind 6 9 [] fun m => { m with offPer := 3 }).a.mcSt 7 = 6 ∧ 2 < ((wind 6 9 [] fun m => { m with offPer := 3 }).a.mcOf 7).offPer := by decide +kernel
/-- R268: three periods held off from outside in RUN post a change to CATCH and set EXTOFF. -/
theorem test_external_hold : (match exec (.externalHoldDetect .A 7) (wind 6 9 [] fun m => { m with offPer := 3 }) with | .next t => (t.a.on (R.EDG_MEVT 7) F.EDG_MEVT_EXTOFF, t.a.ck.trips.map (·.trip)) | _ => default)
    = (true, [.mc 7 (.state 6 2 false)]) := by decide +kernel

/-! ### Measurement, position and travel -/

/-- Whether lane A after a command meets a condition. -/
def nextA (i : Instr) (s : State) (f : Lane → Bool) : Bool := match exec i s with | .next t => f t.a | _ => false
theorem unlocked_reset : State.reset.a.Unlocked := by unfold Lane.Unlocked; decide +kernel
theorem witness_measurement : State.reset.Quiet ∧ State.reset.a.on R.MEAS_REF F.MEAS_REF_EN = false ∧ State.reset.a.on R.MEAS_CTRL F.MEAS_CTRL_EN = false ∧ (∀ x, x < 64 → State.reset.a.on (R.MEAS_SLCFG x) F.MEAS_SLCFG_EN = false)
    ∧ State.reset.a.meas.closing = false ∧ (State.reset.a.meas.runs.at 15).closing = false ∧ (∀ q, q < 16 → State.reset.a.on (R.MEAS_SQCFG q) F.MEAS_SQCFG_EN = false) ∧ State.reset.a.Unlocked ∧ State.reset.a.on (R.MEAS_SLST 63) F.MEAS_SLST_ACTIVE = false ∧ State.reset.a.on (R.MEAS_SQSTAT 15) F.MEAS_SQSTAT_ACTIVE = false
    ∧ nextA (.slotEnable .A 63 0x4D50) State.reset (fun M => decide (M.slotCause 63 = 0)) = true ∧ nextA (.slotEnable .A 63 0x4E60) State.reset (fun M => decide (M.slotCause 63 = 1)) = true
    ∧ nextA (.sequenceEnable .A 15 0x13F) State.reset (fun M => decide (M.seqCause 15 = 0)) = true ∧ nextA (.sequenceEnable .A 15 0x23F) State.reset (fun M => decide (M.seqCause 15 = 3)) = true :=
  meets ⟨by decide +kernel, by decide +kernel, by decide +kernel, by decide +kernel, by decide +kernel, by decide +kernel, by decide +kernel, unlocked_reset, by decide +kernel, by decide +kernel, by decide +kernel, by decide +kernel, by decide +kernel, by decide +kernel⟩
/-- Sequence 15 active, with a pass under way or not, on active slot 0. -/
def sequenced (run : Bool) (g : Lane → Lane := id) : State :=
  regs [(R.MEAS_SQCFG 15, 0x10100), (R.MEAS_SQSTAT 15, 1), (R.MEAS_SLST 0, 1), (R.MEAS_SLCFG 0, 1)] fun L => g { L with ticks := 60, meas := { L.meas with runs := [(15, ⟨run, 0, 1, 0, 0, false⟩)] } }
theorem witness_sequence : (sequenced true).Quiet ∧ bitOf 0x8000 15 = true ∧ bitOf 0x8000 14 = false ∧ State.reset.a.on (R.MEAS_SQSTAT 15) F.MEAS_SQSTAT_ACTIVE = false ∧ (sequenced true).a.on (R.MEAS_SQSTAT 15) F.MEAS_SQSTAT_ACTIVE = true
    ∧ ((sequenced true).a.meas.runs.at 15).run = true ∧ ((sequenced true).a.meas.runs.at 15).startAt ≠ (sequenced true).a.ticks ∧ ((sequenced false).a.meas.runs.at 15).run = false
    ∧ (sequenced true).a.groupMayStart 15 = true ∧ (sequenced false).a.groupMayStart 15 = false ∧ (sequenced true).a.nextGroup 15 = [0] ∧ (sequenced true).a.stepSkip 0 = false
    ∧ (sequenced true fun L => L.wr (R.MEAS_SLST 0) 0).a.stepSkip 0 = true ∧ (sequenced true fun L => { L with meas := { L.meas with runs := [(15, ⟨true, 0, 2, 0, 0, false⟩)] } }).a.groupMayStart 15 = true := meets (by decide +kernel)
/-- A spot conversion out, and the events of the measurement block due. -/
def converting (f : Meas → Meas) (ws : List (Reg × Word) := []) (n : Nat := 60) : State := regs ws fun L => { L with ticks := n, meas := f L.meas }
theorem witness_measurement_events : State.reset.a.meas.spot = false ∧ F.MEAS_SPOT_CONV.get 0x4D05 = 5 ∧ F.MEAS_SPOT_CHAN.get 0x4D05 = 0x4D ∧ (State.reset.a.fld R.MEAS_CONV F.MEAS_CONV_OOS).testBit 5 = false ∧ 0x4E ≤ F.MEAS_SPOT_CHAN.get 0x4E05
    ∧ (converting id [(R.MEAS_REF, 1)] 400000).a.on R.MEAS_REF F.MEAS_REF_EN = true ∧ (converting id [(R.MEAS_REF, 1)] 400000).a.on R.MEAS_REF F.MEAS_REF_RDY = false ∧ (converting id [(R.MEAS_REF, 1)] 400000).a.meas.refAt + 400000 ≤ 400000
    ∧ State.reset.a.dueConv 63 = none ∧ (converting fun m => { m with flight := [⟨63, 15, 5, 0, 1⟩] }).a.dueConv 63 = some ⟨63, 15, 5, 0, 1⟩ ∧ State.reset.a.rdyAt 0 = false
    ∧ (converting fun m => { m with rdySet := 1 }).a.rdyAt 0 = true ∧ (converting id [(R.MEAS_SLCFG 63, 1), (R.MEAS_CTRL, 1)]).a.on (R.MEAS_SLCFG 63) F.MEAS_SLCFG_EN = true ∧ (converting id [(R.MEAS_CTRL, 1)]).a.on R.MEAS_CTRL F.MEAS_CTRL_EN = true
    ∧ State.reset.a.meas.calNew.find? (fun e => decide (e.1 = 63)) = none ∧ (converting fun m => { m with calNew := [(63, 5, 6)] }).a.meas.calNew.find? (fun e => decide (e.1 = 63)) = some (63, 5, 6)
    ∧ (converting fun m => { m with spot := true, spotAt := 11 }).a.meas.spot = true ∧ (converting fun m => { m with spot := true, spotAt := 11 }).a.meas.spotAt + 49 ≤ 60
    ∧ (converting (fun m => { m with spot := true, spotAt := 11 }) [(R.MEAS_SPOT_RES, F.MEAS_SPOT_RES_NEW.mask)]).a.on R.MEAS_SPOT_RES F.MEAS_SPOT_RES_NEW = true := by decide +kernel
/-- R349, R352: a delivery keeps the code of its last conversion and counts. -/
theorem test_delivery : nextA (.slotDelivery .A 63 [0xABCD]) (converting fun m => { m with rdySet := 1, flight := [⟨63, 15, 5, 0, 1⟩] }) (fun M => decide (M.fld (R.MEAS_RAW 63) F.MEAS_RAW_CODE = 0xABCD)
    && decide (M.fld (R.MEAS_SLST 63) F.MEAS_SLST_DCNT = 1) && !M.on (R.MEAS_SLST 63) F.MEAS_SLST_NOTRDY) = true := by decide +kernel
theorem witness_calibration : F.MEAS_CALCMD_START.on 0x13F = false ∧ F.MEAS_CALCMD_COMMIT.on 0x13F = false ∧ F.MEAS_CALCMD_ABORT.on 0x13F = false ∧ State.reset.Quiet ∧ State.reset.a.base = 0
    ∧ (regs [(R.PWR_MODE, 1), (R.MEAS_SLST 63, 1), (R.MEAS_REF, 3)]).a.base = 1 ∧ (regs [(R.PWR_MODE, 1), (R.MEAS_SLST 63, 1), (R.MEAS_REF, 3)]).a.on (R.MEAS_SLST 63) F.MEAS_SLST_ACTIVE = true ∧ (regs [(R.MEAS_REF, 3)]).a.on R.MEAS_REF F.MEAS_REF_RDY = true
    ∧ State.reset.a.meas.cap = none ∧ State.reset.a.on R.MEAS_CALST F.MEAS_CALST_STORING = false ∧ (regs [(R.MEAS_CALST, 0x800)]).a.on R.MEAS_CALST F.MEAS_CALST_STORING = true ∧ State.reset.a.meas.calRes = none
    ∧ (converting (fun m => { m with calRes := some (5, 6) }) [(R.MEAS_CALST, 8)]).a.on R.MEAS_CALST F.MEAS_CALST_DONE = true ∧ (converting fun m => { m with cap := some 0, capN := 255 }).a.meas.capN < 256 ∧ 256 ≤ (converting fun m => { m with cap := some 0, capN := 256 }).a.meas.capN :=
  ⟨by decide, by decide, by decide, meets (by decide +kernel)⟩
/-- R51: an abort in the tick of the completion is late, as is one in the tick of the last delivery; one before ends the capture. -/
theorem witness_abort : let late : State := converting (fun m => { m with cap := some 0, capN := 256, capEnd := 61 })
    late.a.meas.capEnd = late.a.ticks + 1 ∧ 256 ≤ late.a.meas.capN ∧ (converting fun m => { m with cap := some 0, capN := 255, capSlot := 63, rdySet := 1, flight := [⟨63, 15, 5, 0, 1⟩] }).a.calLast = true
    ∧ (converting fun m => { m with cap := some 0, capN := 255, capSlot := 63, rdySet := 1, flight := [⟨63, 15, 5, 1, 1⟩] }).a.calLast = false := by decide +kernel
/-- A capture of the full-scale point with 256 deliveries of a value. -/
def swung (v : Int) (d : Int) (rf : Word) : State := converting (fun m => { m with cap := some 1, capN := 256, capSum := 256 * v, capMax := d }) [(R.MEAS_CALST, 2), (R.MEAS_CALFS, rf)]
theorem witness_capture_done : (swung 0 0 0).a.meas.cap = some 1 ∧ 256 ≤ (swung 0 0 0).a.meas.capN ∧ (2 : Int) ^ 23 < (swung 0 (2 ^ 23 + 1) 0).a.meas.capMax - (swung 0 (2 ^ 23 + 1) 0).a.meas.capMin
    ∧ (swung 0 (2 ^ 23) 0).a.meas.capMax - (swung 0 (2 ^ 23) 0).a.meas.capMin ≤ 2 ^ 23 ∧ (swung 0 0 0).a.on R.MEAS_CALST F.MEAS_CALST_ZOK = true ∧ (converting fun m => { m with cap := some 1, capN := 256 }).a.on R.MEAS_CALST F.MEAS_CALST_ZOK = false
    ∧ nextA (.calCaptureDone .A) (swung 0x40000000 0 0x40000000) (fun M => M.on R.MEAS_CALST F.MEAS_CALST_DONE && decide (M.meas.calRes = some (0, 0x40000000))) = true
    ∧ nextA (.calCaptureDone .A) (swung 0x7FFFFFF 0 0x40000000) (fun M => decide (M.fld R.MEAS_CALST F.MEAS_CALST_CAUSE = 6)) = true
    ∧ nextA (.calCaptureDone .A) (swung 0x40000000 0 0x1FFFFFFF) (fun M => decide (M.fld R.MEAS_CALST F.MEAS_CALST_CAUSE = 7)) = true := by decide +kernel
/-- A store write in progress. -/
def storing (copy : Option Nat) (w : List Nat) : State := regs [] fun L => { L with nvmWait := w, meas := { L.meas with calWrite := some (63, 5, 6), calCopy := copy } }
theorem witness_store : (storing none []).a.meas.calWrite = some (63, 5, 6) ∧ (storing none []).a.nvmWait.contains 1 = false ∧ (storing none [1]).a.nvmWait.contains 1 = true ∧ (storing (some 1) []).a.meas.calCopy = some 1 ∧ State.reset.a.meas.calWrite = none := by decide +kernel

/-- Position interface 7 active, in a mode, with the changes given. -/
def pos (cfg : Word) (f : PosIf → PosIf := id) (ws : List (Reg × Word) := []) (n : Nat := 0) (g : Lane → Lane := id) : State :=
  regs ([(R.POS_CFG 7, cfg), (R.POS_CPR 7, 4096)] ++ ws) fun L => g { L with ticks := n, posIf := [(7, f default)] }
theorem witness_position_enable : State.reset.Quiet ∧ State.reset.a.on R.POS_CTRL F.POS_CTRL_EN = false ∧ (regs [(R.POS_CFG 7, 1)]).a.on (R.POS_CFG 7) F.POS_CFG_EN = true ∧ (regs [(R.POS_CFG 7, 1)]).a.posCause 7 = false
    ∧ State.reset.a.on (R.POS_CFG 7) F.POS_CFG_EN = false ∧ State.reset.a.Unlocked ∧ State.reset.a.posActive 7 = false
    ∧ nextA (.positionInterfaceEnable .A 7 0) (regs [(R.POS_CTRL, 3)]) (fun M => !M.posCause 7 && M.posActive 7) = true ∧ nextA (.positionInterfaceEnable .A 7 0x14) State.reset (fun M => M.posCause 7 && M.on (R.POS_STAT 7) F.POS_STAT_CFGERR) = true
    ∧ State.reset.a.on (R.SENT_CFG 7) F.SENT_CFG_EN = false ∧ State.reset.a.on (R.SENT_CFG 7) F.SENT_CFG_ACTIVE = false ∧ State.reset.a.travOn = false
    ∧ nextA (.sentEnable .A 7 0x301E060) State.reset (fun M => !M.sentCause 7 && M.on (R.SENT_CFG 7) F.SENT_CFG_ACTIVE) = true ∧ nextA (.sentEnable .A 7 0) State.reset (fun M => M.sentCause 7) = true
    ∧ (regs [(R.POS_GSRAT, 0x10000)]).a.fld R.POS_GSRAT F.POS_GSRAT_M = 0 ∧ (regs [(R.POS_GSRAT, 0x30002)]).a.fld R.POS_GSRAT F.POS_GSRAT_N < 2 * 2 :=
  meets ⟨by decide +kernel, by decide +kernel, by decide +kernel, by decide +kernel, by decide +kernel, unlocked_reset, by decide +kernel, by decide +kernel, by decide +kernel, by decide +kernel, by decide +kernel, by decide +kernel,
    by decide +kernel, by decide +kernel, by decide +kernel⟩
theorem witness_edges : (pos 3).a.posActive 7 = true ∧ (pos 3).a.posMode 7 = 0 ∧ (pos 7).a.posMode 7 = 1 ∧ (pos 3).a.tooFast 7 = false ∧ State.reset.a.posActive 7 = false
    ∧ (pos 0x23 (fun p => { p with edge := 1 }) [(R.POS_TOL 7, 0x20000)] 1).a.tooFast 7 = true ∧ (pos 0x23 (fun p => { p with edge := 1 }) [(R.POS_TOL 7, 0x20000)] 2).a.tooFast 7 = false
    ∧ ((pos 3 fun p => { p with lev := 1 }).a.posIf.at 7).lev.testBit 0 = true ∧ ((pos 3 fun p => { p with lev := 1 }).a.posIf.at 7).lev.testBit 1 = false
    ∧ (pos 11).a.posMode 7 = 2 ∧ hallPlace 1 = some 0 ∧ hallPlace 3 = some 1 ∧ hallPlace 5 = some 5 ∧ hallPlace 7 = none ∧ hallPlace 0 = none
    ∧ cnt ((List.range 3).map fun i => decide ((1 : Nat).testBit i ≠ (3 : Nat).testBit i)) ≤ 1 ∧ ¬cnt ((List.range 3).map fun i => decide ((1 : Nat).testBit i ≠ (2 : Nat).testBit i)) ≤ 1 := by decide +kernel
/-- R377: a rising edge of A while B is low counts one up. -/
theorem test_quadrature : nextA (.quadratureEdge .A 7 true false) (pos 3) (fun M => decide (M.rd (R.POS_COUNT 7) = 1)) = true ∧ nextA (.quadratureEdge .A 7 true true) (pos 3) (fun M => M.on (R.POS_STAT 7) F.POS_STAT_ILLF && decide (M.rd (R.POS_COUNT 7) = 0)) = true := by decide +kernel
/-- Interface 7 counts to the value given in mode 1. -/
def index (c : Word) (first : Bool) (cfg : Word) : State := pos (7 ||| cfg) (fun p => { p with first := first }) [(R.POS_COUNT 7, c)]
theorem witness_index : (index 5 true 0x80).a.posMode 7 = 1 ∧ (0 : Int) < (index 5 true 0x80).a.fld (R.POS_CPR 7) F.POS_CPR_CPR ∧ ((index 5 true 0x80).a.posIf.at 7).first = true ∧ (index 5 true 0x80).a.on (R.POS_CFG 7) F.POS_CFG_IDXINIT = true
    ∧ (index 5 true 0x40).a.on (R.POS_CFG 7) F.POS_CFG_IDXINIT = false ∧ (index 5 true 0x40).a.on (R.POS_CFG 7) F.POS_CFG_AUTOCOR = true ∧ (index 4 false 0).a.rdI (R.POS_COUNT 7) = 4
    ∧ (index 4 false 0).a.fld (R.POS_IDXREF 7) F.POS_IDXREF_IDXREF = 0 ∧ (4 : Int).natAbs ≤ (index 4 false 0).a.fld (R.POS_TOL 7) F.POS_TOL_IDXTOL ∧ (index 4 false 0).a.fld (R.POS_TOL 7) F.POS_TOL_IDXTOL < (5 : Int).natAbs
    ∧ nextA (.indexEdge .A 7) (index 4 false 0) (fun M => M.on (R.POS_STAT 7) F.POS_STAT_IDXOK) = true ∧ nextA (.indexEdge .A 7) (index 5 false 0) (fun M => M.on (R.POS_STAT 7) F.POS_STAT_IDXERR) = true := by decide +kernel
/-- Interface 7 in mode 3 with slots 1 and 2 just delivered, the values given. -/
def pair (x : Word) (p : PosIf → PosIf) (v : Word) : State :=
  pos 0x0201000F p [(R.MEAS_SLST 1, v), (R.MEAS_SLST 2, v), (R.MEAS_RES 1, x)] 9 fun L => { L with meas := { L.meas with slots := [(1, { (default : MSlot) with tick := 5 }), (2, { (default : MSlot) with tick := 5 })] } }
theorem witness_pair : (pair 0 id 3).a.posMode 7 = 3 ∧ ((pair 0 id 3).a.posIf.at 7).pairAt < ((pair 0 id 3).a.meas.slots.at 1).tick ∧ (pair 0 id 3).a.on (R.MEAS_SLST 2) F.MEAS_SLST_VALID = true ∧ (pair 0 id 1).a.on (R.MEAS_SLST 2) F.MEAS_SLST_VALID = false
    ∧ ((pair 0 id 3).a.fld (R.POS_AMP 7) F.POS_AMP_AMPLO * 2 ^ 21) ^ 2 ≤ (0x40000000 : Nat) ^ 2 ∧ (0x40000000 : Nat) ^ 2 ≤ ((pair 0 id 3).a.fld (R.POS_AMP 7) F.POS_AMP_AMPHI * 2 ^ 21) ^ 2
    ∧ (0 : Nat) ^ 2 < ((pair 0 id 3).a.fld (R.POS_AMP 7) F.POS_AMP_AMPLO * 2 ^ 21) ^ 2 ∧ ((pair 0 (fun p => { p with havePh := true, badPair := true }) 3).a.posIf.at 7).havePh = true
    ∧ ((pair 0 (fun p => { p with havePh := true, badPair := true }) 3).a.posIf.at 7).badPair = true ∧ ((pair 0 id 3).a.posIf.at 7).badPair = false := by decide +kernel
theorem witness_pulse : (pos 0x13).a.posMode 7 = 4 ∧ ((pos 0x13).a.posIf.at 7).rise = 0 ∧ ((pos 0x13 (fun p => { p with rise := 1 }) [] 1).a.posIf.at 7).rise < (pos 0x13 (fun p => { p with rise := 1 }) [] 1).a.ticks + 1
    ∧ ((pos 0x13 id [] 199999).a.posIf.at 7).rise + (pos 0x13 id [] 199999).a.fld (R.POS_TOBS 7) F.POS_TOBS_PTMO * 2000 ≤ (pos 0x13 id [] 199999).a.ticks + 1 ∧ ¬((pos 0x13).a.posIf.at 7).rise + (pos 0x13).a.fld (R.POS_TOBS 7) F.POS_TOBS_PTMO * 2000 ≤ (pos 0x13).a.ticks + 1
    ∧ (pos 3 id [] 200).a.posMode 7 < 4 ∧ ((pos 3 id [] 200).a.posIf.at 7).obsAt + 200 ≤ (pos 3 id [] 200).a.ticks ∧ (pos 3 id [] 200).a.posValid 7 = true ∧ (pos 3 id [(R.POS_STAT 7, F.POS_STAT_SUSPECT.mask)] 200).a.posValid 7 = false := by decide +kernel
/-- SENT input 7 active with its format known or not. -/
def sent (f : SentIn → SentIn := id) (n : Nat := 0) : State := regs [(R.SENT_CFG 7, 0x301E063)] fun L => { L with ticks := n, sent := [(7, f { (default : SentIn) with known := true })] }
/-- A frame at 48 µs ticks: status 0, six nibbles and their CRC. -/
def sentPulses (crc : Nat) : List Nat := ([0, 1, 2, 3, 4, 5, 6] ++ [crc]).map fun n => (n + 12) * 9600
/-- What the statement asks of a frame's calibration pulse and of its nibbles. -/
def farOff (L : Lane) (cal : Nat) : Bool :=
  let tick := (rneDiv (cal * 256 : Nat) 56).toNat
  let nom := F.SENT_CFG_TICK.get (L.rd (R.SENT_CFG 7)) * 20 * 256
  decide (nom < 5 * ((tick : Int) - nom).natAbs) || (decide (0 < (L.sent.at 7).learned) && decide ((L.sent.at 7).learned < 64 * ((tick : Int) - (L.sent.at 7).learned).natAbs))
theorem witness_sent : F.SENT_CFG_ACTIVE.on (sent.a.rd (R.SENT_CFG 7)) = true ∧ State.reset.a.on (R.SENT_CFG 7) F.SENT_CFG_ACTIVE = false ∧ farOff sent.a 537600 = false ∧ farOff sent.a 645121 = true ∧ farOff sent.a 645120 = false
    ∧ farOff (sent fun x => { x with learned := 9600 * 256 }).a 547000 = true ∧ (sent.a.sent.at 7).known = true
    ∧ ((sent fun x => { x with known := false }).a.sent.at 7).known = false ∧ (sent.a.sent.at 7).unknown = false ∧ (sent.a.sent.at 7).last + sent.a.fld (R.SENT_CFG 7) F.SENT_CFG_FTMO * 20000 = 60000 ∧ (sent id 60000).a.ticks = 60000
    ∧ nextA (.sentFrame .A 7 537600 (sentPulses (crc4 false [1, 2, 3, 4, 5, 6]))) sent (fun M => decide (M.fld (R.SENT_STAT 7) F.SENT_STAT_ERRRUN = 0) && M.on (R.SENT_STAT 7) F.SENT_STAT_VALID) = true
    ∧ nextA (.sentFrame .A 7 537600 (sentPulses (crc4 false [1, 2, 3, 4, 5, 6] ^^^ 1))) sent (fun M => M.on (R.SENT_STAT 7) F.SENT_STAT_CRCE) = true
    ∧ nextA (.sentFrame .A 7 537600 ((sentPulses 0).take 7)) sent (fun M => M.on (R.SENT_STAT 7) F.SENT_STAT_NIBE) = true ∧ nextA (.sentFrame .A 7 645121 (sentPulses 0)) sent (fun M => M.on (R.SENT_STAT 7) F.SENT_STAT_CALE) = true := by decide +kernel
/-- R394: six nibbles as one word without ANG, its top bit at bit 30. -/
theorem test_sent_word : nextA (.sentFrame .A 7 537600 (sentPulses (crc4 false [1, 2, 3, 4, 5, 6]))) sent (fun M => decide (M.rd (R.SENT_D0 7) = 0x091A2B00)) = true := by decide +kernel
/-- Travel on, with wheel 0 the source in use or none. -/
def trav (src : Word) (f : Trav → Trav := id) (n : Nat := 0) : State := regs [(R.POS_TRCFG, 0x14200007), (R.POS_TRSTAT, src)] fun L => { L with ticks := n, trav := f L.trav }
theorem witness_travel : State.reset.a.travOn = false ∧ (trav 0).a.travOn = true ∧ (trav 0).a.trav.last.at 4 = 0 ∧ (trav 0 (fun t => { t with last := [(4, 1)] }) 5).a.trav.last.at 4 = 1 ∧ (trav 0).a.travSrc = 0 ∧ (trav 0x80).a.travSrc = 4
    ∧ (trav 0 (fun t => { t with last := [(4, 1)] }) 40000000).a.trav.last.at 4 + (trav 0).a.fld R.POS_TRCFG F.POS_TRCFG_STILL * 2000000 ≤ 40000000 + 1 ∧ (trav 0).a.trav.still.at 4 = false
    ∧ nextA (.travelPulse .A 0) (trav 0) (fun M => decide (M.candidate = 7)) = true ∧ nextA (.travelPulse .A 0) (trav 0 (fun t => { t with last := [(0, 1)] }) 5) (fun M => decide (M.candidate = 0)) = true := by decide +kernel

/-! ### Networks -/

/-- A matrix of one reference window, at the start of data RAM. -/
def matrixAt (st : Word) (ctrl : Word) (sending : Bool) : State :=
  { regs [(R.HNET_MXBASE, 0x20000000), (R.HNET_MXCNT, 1), (R.HNET_STAT, st), (R.HNET_CTRL, ctrl)] (fun L => (L.setMemW 0x20000000 0x60030000).setMemW 0x20000004 0x80) with
    d1 := { (default : Die) with wins := if sending = true then [⟨default, 2⟩] else [] } }
theorem witness_helm_net : (matrixAt 0 0 false).Quiet ∧ (matrixAt 0 0 false).a.on R.HNET_CTRL F.HNET_CTRL_EN = false ∧ (matrixAt 0 0 false).a.on R.HNET_CTRL F.HNET_CTRL_ACTIVE = false ∧ (matrixAt 0 0 false).a.mxCause = 0 ∧ State.reset.a.mxCause = 1
    ∧ (matrixAt 4 3 true).a.on R.HNET_CTRL F.HNET_CTRL_EN = true ∧ (matrixAt 4 3 true).a.on R.HNET_CTRL F.HNET_CTRL_ACTIVE = true ∧ ((matrixAt 4 3 true).d0.wins ++ (matrixAt 4 3 true).d1.wins).any (fun w => decide (w.st = 2)) = true
    ∧ ((matrixAt 4 3 false).d0.wins ++ (matrixAt 4 3 false).d1.wins).any (fun w => decide (w.st = 2)) = false := meets (by decide +kernel)
/-- ISOBUS active in a state, with transmit buffer 15 extended or not. -/
def isobus (st : Word) (ide : Word) (q : List Nat) : State := regs [(R.ISB_CTRL, 3), (R.ISB_ACST, st), (R.ISB_TXID 15, ide), (R.SVC_CTRL, 3)] fun L => { L with isb := { L.isb with queue := q } }
theorem witness_can_ports : (State.reset.Quiet ∧ State.reset.a.small = false ∧ State.reset.a.on R.ISB_CTRL F.ISB_CTRL_EN = false ∧ State.reset.a.on R.ISB_CTRL F.ISB_CTRL_ACTIVE = false ∧ (isobus 0x1FE 0 []).a.on (R.ISB_TXCT 15) F.ISB_TXCT_PEND = false
    ∧ (isobus 0x1FE 0 []).a.on (R.ISB_TXID 15) F.ISB_TXID_IDE = false ∧ (isobus 0x1FE 0x20000000 []).a.on (R.ISB_TXID 15) F.ISB_TXID_IDE = true ∧ (isobus 0x1FE 0x20000000 []).a.on R.ISB_CTRL F.ISB_CTRL_ACTIVE = true
    ∧ (isobus 0x1FE 0x20000000 []).a.isb.closing = false ∧ (isobus 0x1FE 0x20000000 []).a.acstate = 1 ∧ (isobus 0x280 0x20000000 []).a.acstate = 2 ∧ (isobus 0x280 0x20000000 []).a.isb.queue = []
    ∧ (isobus 0 0 []).a.on (R.SVC_TXCT 7) F.ISB_TXCT_PEND = false ∧ (isobus 0 0 []).a.on R.SVC_CTRL F.ISB_CTRL_ACTIVE = true ∧ (isobus 0 0 []).a.svc.closing = false ∧ (isobus 0 0 []).a.svc.queue = []
    ∧ F.ISB_NEG_VPART.get 0x10302 < F.ISB_NEG_VMIN.get 0x10302 ∧ F.ISB_NEG_VMIN.get 0x40302 ≤ F.ISB_NEG_VPART.get 0x40302) ∧ State.reset.a.Unlocked := ⟨meets (by decide +kernel), unlocked_reset⟩
/-- Path 1 with its rings in data RAM and its reference clock. -/
def rings : State := regs [(R.ETH_TXBASE 1, 0x20000000), (R.ETH_RXBASE 1, 0x200FFFF0), (R.ETH_STAT 1, 1)]
theorem witness_ethernet : rings.Quiet ∧ rings.a.on (R.ETH_CTRL 1) F.ETH_CTRL_EN = false ∧ rings.a.on (R.ETH_CTRL 1) F.ETH_CTRL_ACTIVE = false ∧ ringOk 0x20000000 2 = true ∧ ringOk 0x200FFFF0 2 = true ∧ ringOk 0x200FFFF4 2 = false ∧ rings.a.on (R.ETH_STAT 1) F.ETH_STAT_REFOK = true
    ∧ State.reset.a.on (R.ETH_STAT 1) F.ETH_STAT_REFOK = false ∧ rings.a.on (R.ETH_PHYADR 1) F.ETH_PHYADR_BUSY = false ∧ (regs [(R.ETH_PHYADR 1, F.ETH_PHYADR_BUSY.mask)]).a.on (R.ETH_PHYADR 1) F.ETH_PHYADR_BUSY = true := meets (by decide +kernel)

/-- Whether no lane has records on its way to a die. -/
def neat (s : State) : Bool := s.a.outP.isEmpty && s.a.outR.isEmpty && s.b.outP.isEmpty && s.b.outR.isEmpty && s.c.outP.isEmpty && s.c.outR.isEmpty
theorem clean_of {s : State} (h : neat s = true) : s.Clean := by
  intro k
  simp only [neat, Bool.and_eq_true, List.isEmpty_iff] at h
  cases k
  · exact ⟨h.1.1.1.1.1, h.1.1.1.1.2⟩
  · exact ⟨h.1.1.1.2, h.1.1.2⟩
  · exact ⟨h.1.2, h.2⟩
/-- A clean state that meets a condition. -/
theorem cleanly {s : State} {P : Prop} (h : neat s = true ∧ P) : s.Clean ∧ P := ⟨clean_of h.1, h.2⟩

/-- A port record. -/
def rec_ (lane port tag : Nat) (f : PortRec → PortRec := id) : PortRec := f { (default : PortRec) with lane := lane, port := port, tag := tag, ident := 0x123, dlc := 1, data := [7] }
/-- The port fix of die D2 with the changes given; transmit buffer 15 of ISOBUS holds TAG 0xFFFF in every lane. -/
def portFix (f : Die → Die) (cfg : Word := 0) : State :=
  let g : Lane → Lane := fun L => (L.wr R.ISB_CFG cfg).updCan 2 fun c => { c with out := [(0xFFFF, 15)] }
  { State.reset with d2 := f { (default : Die) with on := true }, a := g State.reset.a, b := g State.reset.b, c := g State.reset.c }
theorem witness_port_records : (portFix id).Clean ∧ ((portFix id).die 2).ptx = [] ∧ ((portFix fun d => { d with ptx := [(2, (rec_ 2 2 9).words)] }).die 2).ptx.find? (fun r => decide (r.1 = LaneId.C.num)) = some (2, (rec_ 2 2 9).words)
    ∧ readRec 2 (rec_ 2 2 9).words = some (rec_ 2 2 9) ∧ readRec 2 [0] = none ∧ (rec_ 2 2 9).data.length = (rec_ 2 2 9).bytes ∧ (portFix id).b.w1sNow.at (canTxct 2 15).addr = 0
    ∧ ((portFix fun d => { d with split := true }).die 2).split = true ∧ ((portFix id).die 2).split = false ∧ (((portFix id).die 2).ports.filter fun x => decide (x.lane ≠ 2 ∧ x.port = 2 ∧ x.tag = 9)).length ≠ 2
    ∧ ((portFix fun d => { d with ports := [rec_ 0 2 9, rec_ 1 2 9] }).die 2).recsOf 2 9 = [rec_ 0 2 9, rec_ 1 2 9] ∧ (rec_ 0 2 9).core = (rec_ 2 2 9).core ∧ ((portFix id).die 2).frames.length < 8
    ∧ ((portFix fun d => { d with ports := [rec_ 0 2 0xFFFF] }).die 2).recsOf 2 (0xFFFF#16).toNat = [rec_ 0 2 0xFFFF] ∧ ((portFix id).die 2).recsOf 2 0 = [] ∧ (rec_ 0 2 9).noframe = false
    ∧ (((portFix id).b.canCtl 2).out.find? fun e => decide (e.1 = 0xFFFF)) = some (0xFFFF, 15) ∧ ((portFix id).b.canCtl 2).closing = false := cleanly (by decide +kernel)
theorem witness_record_votes : (rec_ 0 2 9).core = (rec_ 1 2 9).core ∧ (rec_ 0 2 9).core ≠ (rec_ 2 2 9 fun r => { r with data := [8] }).core ∧ ((0 : Int) - 400).natAbs ≤ 400 ∧ ¬((0 : Int) - 401).natAbs ≤ 400
    ∧ (rec_ 0 1 9).core = (rec_ 1 1 9 fun r => { r with wstart := 400 }).core ∧ 2 ≤ cnt ([0, 400, 900].map fun w : Nat => decide (((w : Int) - med3 0 400 900).natAbs ≤ 400))
    ∧ cnt ([0, 500, 1000].map fun w : Nat => decide (((w : Int) - med3 0 500 1000).natAbs ≤ 400)) < 2 := by decide +kernel
/-- R411: two records alike and one that differs give the voted content, and the odd lane is an outlier. -/
theorem test_record_vote : ((voteRecs [rec_ 0 2 9, rec_ 1 2 9, rec_ 2 2 9 fun r => { r with data := [8] }]).1.map (·.data), (voteRecs [rec_ 0 2 9, rec_ 1 2 9, rec_ 2 2 9 fun r => { r with data := [8] }]).2.1) = (some [7], 4) := by decide +kernel
/-- The Helm Net port fix of die D1 with its matrix. -/
def helmFix (f : Die → Die) : State := { matrixAt 4 3 false with d1 := f { (default : Die) with on := true } }
/-- A window of TAG 5 in a state. -/
def win (st : Nat) (f : PortRec → PortRec := id) : HWin := ⟨rec_ 0 1 5 f, st⟩
theorem witness_helm_windows : (helmFix id).Clean ∧ ((helmFix fun d => { d with ports := [rec_ 0 1 5 fun r => { r with tick := 1 }] }).die 1).recsOf 1 5 ≠ [] ∧ ((helmFix id).die 1).tseq = 0 ∧ ((helmFix id).die 1).recsOf 1 5 = []
    ∧ (voteRecs [rec_ 0 1 5 fun r => { r with tick := 1 }]).1 = none ∧ (voteRecs [rec_ 0 1 5 fun r => { r with tick := 1 }]).2.2 = true ∧ (voteRecs [rec_ 0 1 5, rec_ 1 1 5]).1.isSome = true
    ∧ ((helmFix id).die 1).gaveUp = false ∧ ((helmFix id).die 1).split = false ∧ ((helmFix fun d => { d with wins := [win 0] }).die 1).wins = [win 0] ∧ mayStart (rec_ 0 1 5) 0 0 = true ∧ mayStart (rec_ 0 1 5) 1 0 = false
    ∧ mayStart (rec_ 0 1 5 fun r => { r with arb := true }) 0 0 = false ∧ ((helmFix fun d => { d with tec := 248 }).die 1).tec = 248 ∧ ((helmFix fun d => { d with rb := 2 }).die 1).rb = 2
    ∧ (helmFix id).a.hn.closing = false ∧ (helmFix id).b.hn.closing = false ∧ (helmFix id).c.hn.closing = false := cleanly (by decide +kernel)
theorem witness_can_networks : (portFix id).Clean ∧ ((portFix fun d => { d with frames := [⟨rec_ 0 2 0xFFFF, true, 0⟩] }).die 2).frames.find? (·.sending) = some ⟨rec_ 0 2 0xFFFF, true, 0⟩ ∧ ((portFix id).die 2).frames = []
    ∧ F.ISB_CFG_ARETX.on ((portFix id).a.rd R.ISB_CFG) = false ∧ F.ISB_CFG_ARETX.on ((portFix id F.ISB_CFG_ARETX.mask).a.rd R.ISB_CFG) = true
    ∧ (∀ x ∈ ((portFix fun d => { d with frames := [⟨rec_ 0 2 9, false, 0⟩] }).die 2).frames, x.sending = false) ∧ ((portFix id).die 2).busOff = false ∧ ((portFix id).die 2).split = false
    ∧ F.ISB_CFG_AUTOREC.on ((portFix id F.ISB_CFG_AUTOREC.mask).a.rd R.ISB_CFG) = true ∧ ((portFix (fun d => { d with busOff := true }) F.ISB_CFG_AUTOREC.mask).die 2).busOff = true := cleanly (by decide +kernel)
/-- Receive buffer 31 of ISOBUS for one extended identifier, and buffer 15 of the service CAN. -/
def listening : State := regs [(R.ISB_CTRL, 3), (R.ISB_RXF 31, 0xBFFFFFFF), (R.ISB_RXM 31, 0x1FFFFFFF), (R.SVC_CTRL, 3), (R.SVC_RXF 15, 0x80000005), (R.SVC_RXM 15, 0x1FFFFFFF)]
theorem witness_can_receive : listening.a.on R.ISB_CTRL F.ISB_CTRL_ACTIVE = true ∧ listening.a.on (R.ISB_RXF 31) F.ISB_RXF_EN = true ∧ listening.a.on (R.ISB_RXF 31) F.ISB_RXF_IDE = true ∧ (listening.a.fld (R.ISB_RXF 31) F.ISB_RXF_IDENT ^^^ 0x1FFFFFFF) &&& listening.a.fld (R.ISB_RXM 31) F.ISB_RXM_MASK = 0
    ∧ (∀ j, j < 31 → listening.a.on (R.ISB_RXF j) F.ISB_RXF_EN = false) ∧ State.reset.a.on R.ISB_CTRL F.ISB_CTRL_ACTIVE = false ∧ listening.a.on R.SVC_CTRL F.ISB_CTRL_ACTIVE = true ∧ listening.a.on (R.SVC_RXF 15) F.ISB_RXF_EN = true
    ∧ listening.a.on (R.SVC_RXF 15) F.ISB_RXF_IDE = false ∧ (listening.a.fld (R.SVC_RXF 15) F.ISB_RXF_IDENT ^^^ 5) &&& listening.a.fld (R.SVC_RXM 15) F.ISB_RXM_MASK = 0 ∧ (∀ j, j < 15 → listening.a.on (R.SVC_RXF j) F.ISB_RXF_EN = false) := by decide +kernel
/-- ISOBUS active with address 0x80 in a state, and a NAME. -/
def claimed (st : Word) (hi : Word) (n : Nat) : State := regs [(R.ISB_CTRL, 3), (R.ISB_ACST, st), (R.ISB_NAMEHI, hi)] fun L => { L with ticks := n }
theorem witness_claims : (claimed 0x180 0 0).a.on R.ISB_CTRL F.ISB_CTRL_ACTIVE = true ∧ (claimed 0x180 0 0).a.acstate = 1 ∧ (claimed 0 0 0).a.acstate = 0 ∧ (claimed 0x180 0 50000000).a.isb.claimAt + 50000000 ≤ (claimed 0x180 0 50000000).a.ticks ∧ (claimed 0x180 0 0).a.isb.closing = false
    ∧ (claimed 0x280 0 0).a.acstate = 2 ∧ (claimed 0x280 0 0).a.isbSa = 0x80 ∧ (claimed 0x280 1 0).a.isbName = 2 ^ 32 ∧ (claimed 0x280 0x80000000 0).a.isbName.testBit 63 = true ∧ (claimed 0x280 1 0).a.isbName.testBit 63 = false
    ∧ (claimed 0 0 0).a.fld R.ISB_ADDR F.ISB_ADDR_AMIN = 0x80 ∧ (claimed 0 0 0).a.fld R.ISB_ADDR F.ISB_ADDR_AMAX = 0xF7 ∧ (claimed 0 0 0).a.isb.others = [] := by decide +kernel
/-- R440: a lower NAME takes the address away, and the next free one is claimed where the NAME allows it. -/
theorem test_claim_lost : nextA (.addressClaimReceive .A 0x80 0) (claimed 0x280 0x80000000 0) (fun M => decide (M.acstate = 1) && decide (M.isbSa = 0x81)) = true ∧ nextA (.addressClaimReceive .A 0x80 0) (claimed 0x280 1 0) (fun M => decide (M.acstate = 3) && decide (M.isbSa = 254)) = true := by decide +kernel

/-- Lane A at a time of Helm Net, in a state. -/
def helm (st : Word) (ws : List (Reg × Word) := []) (f : Hn → Hn := id) (gt : Nat := 0) (n : Nat := 0) : State := regs ((R.HNET_STAT, st) :: ws) fun L => { L with gt := gt, ticks := n, hn := f L.hn }
theorem witness_helm_states : (helm 1 [(R.HNET_CFG, 0x70300)] id 0 400000).a.synst = 1 ∧ (helm 1 [(R.HNET_CFG, 0x70300)] id 0 400000).a.on R.HNET_CFG F.HNET_CFG_COLDST = true ∧ (helm 1 [(R.HNET_CFG, 0x70300)] id 0 400000).a.on R.HNET_CFG F.HNET_CFG_MASTER = true
    ∧ max (helm 1 [(R.HNET_CFG, 0x70300)] id 0 400000).a.hn.stAt (helm 1).a.hn.sofTick + 2 * 2 ^ (helm 1).a.mxexp * 200000 ≤ (helm 1 [(R.HNET_CFG, 0x70300)] id 0 400000).a.ticks
    ∧ (helm 6 [] (fun h => { h with boff := 16 }) 0 320000).a.synst = 6 ∧ (helm 6 [] (fun h => { h with boff := 16 }) 0 320000).a.hn.stAt + 20000 * 16 ≤ 320000 ∧ (helm 3).a.synst = 3 ∧ (helm 5).a.synst = 5 ∧ (helm 5).a.isMaster = false
    ∧ max (helm 5 [] id 0 400000).a.hn.refTick (helm 5).a.hn.stAt + 400000 ≤ (helm 5 [] id 0 400000).a.ticks ∧ (helm 2 [] fun h => { h with cold := true }).a.synst = 2 ∧ (helm 2 [] fun h => { h with cold := true }).a.hn.cold = true ∧ (helm 2).a.hn.cold = false := by decide +kernel
/-- A reference message of node 31 in rate 1 with a send time. -/
def refMsg (ident t : Nat) : CanFrame := ⟨ident, false, 8, [0, 0, 0xF8, 8] ++ leBytes 4 t⟩
/-- The offset of the message's time as the statement has it, on path 0. -/
def refOff (s : State) (f : CanFrame) : Int := (w32 (leNat (f.data.drop 4) + (if s.a.on R.HNET_CFG F.HNET_CFG_MODE then s.a.fld R.HNET_PDLYM F.HNET_PDLYM_DLY else s.a.fld R.HNET_TIM F.HNET_TIM_PDLY)) - w32 (s.a.hn.sofAt.at 0)).toInt
theorem witness_reference : ((refMsg 8 0).data.getD 2 0).toNat / 8 = 31 ∧ ((refMsg 8 0).data.getD 3 0).toNat / 8 % 4 = 1 ∧ leNat ((refMsg 8 200000).data.drop 4) = 200000 ∧ (helm 2).a.refIdent = 8 ∧ (helm 1).a.hn.ref = none
    ∧ (helm 3 [] fun h => { h with ref := some (31, 0, 0) }).a.hn.ref = some (31, 0, 0) ∧ 200000 = (0 + 200000) % 2 ^ 32 ∧ ((refMsg 8 200000).data.getD 1 0).toNat % 64 = (0 + 1) % 2 ^ (helm 3).a.mxexp
    ∧ 31 = (helm 0x1F4).a.fld R.HNET_STAT F.HNET_STAT_MNODE ∧ (helm 0x1F4).a.synst = 4 ∧ (helm 0x1F4).a.isMaster = false ∧ (helm 0x1F4).a.rmask.testBit 1 = true ∧ (helm 0x1F4 [(R.HNET_CFG, 0x50000)]).a.rmask.testBit 1 = false
    ∧ (refOff (helm 0x1F4) (refMsg 8 160)).natAbs = 200 ∧ (helm 0x1F4).a.gmarg * 100 = 400 ∧ (refOff (helm 0x1F4) (refMsg 8 360)).natAbs ≤ (helm 0x1F4).a.gmarg * 100 ∧ (helm 0x1F4).a.gmarg * 100 < (refOff (helm 0x1F4) (refMsg 8 361)).natAbs
    ∧ (helm 0x1F5 [] fun h => { h with near := 1 }).a.synst = 5 ∧ 1 ≤ (helm 0x1F5 [] fun h => { h with near := 1 }).a.hn.near ∧ (refOff (helm 0x1F5) (refMsg 8 160)).natAbs ≤ (helm 0x1F5).a.gmarg * 50
    ∧ ¬31 = (helm 4).a.fld R.HNET_STAT F.HNET_STAT_MNODE ∧ 2000 ≤ (refOff (helm 4) (refMsg 8 1960)).natAbs := by decide +kernel
/-- R426: a second reference in a row from one master synchronises the node. -/
theorem test_sync : nextA (.referenceMessageReceive .A 0 (refMsg 8 200000)) (helm 3 [] (fun h => { h with ref := some (31, 0, 0), sofAt := [(0, 200050)] }) 200050) (fun M => decide (M.synst = 4) && decide (M.gt = 200040) && decide (M.fld R.HNET_STAT F.HNET_STAT_MNODE = 31)) = true := by
  decide +kernel
/-- A cold-start frame of lane A handed over: its window starts 100 µs after, at a multiple of a basic cycle. -/
theorem witness_cold_start : (helm 2 [] fun h => { h with cold := true, coldTs := 200000 }).a.synst = 2 ∧ (helm 2 [] (fun h => { h with cold := true, coldTs := 200000 }) 200000).a.gt ≤ (helm 2 [] fun h => { h with cold := true, coldTs := 200000 }).a.hn.coldTs
    ∧ (helm 2 [] (fun h => { h with cold := true, coldTs := 200000 }) 200001).a.hn.coldTs < 200001 ∧ (helm 2).a.hn.ownSof = false ∧ (helm 2 [] fun h => { h with ownSof := true }).a.hn.ownSof = true
    ∧ (helm 2).a.refIdent = 8 ∧ ((helm 0x1F4).a.gt : Int) + -200 < 0 := by decide +kernel
theorem witness_helm_sends : (helm 2).Clean ∧ (helm 2).a.me = LaneId.A.num ∧ (helm 2).a.hn.cold = false ∧ (helm 2).a.hn.stAt + (helm 2).a.nodeId * 4000 ≤ (helm 2).a.ticks ∧ (helm 2 [] (fun h => { h with cold := true }) 0 200000).a.hn.coldAt + 200000 ≤ 200000
    ∧ (helm 4 [(R.HNET_CFG, 0x70100)] id 1000 1000).a.on R.HNET_CFG F.HNET_CFG_MASTER = true ∧ ((helm 4).a.refRank + 1) * (helm 4).a.rkdly * 200 ≤ (helm 4 [] id 1000 1000).a.boff ∧ (helm 4).a.hn.sofTick + 1000 < 1000 + 1 ∧ (helm 4).a.hn.ownRef ≠ (helm 4 [] id 1000 1000).a.bcyc + 1
    ∧ (helm 4).a.cycNow = 0 ∧ (helm 4).a.hn.mcyc ≠ (helm 4).a.bcyc / 2 ^ (helm 4).a.mxexp + 1 ∧ (helm 4 [] fun h => { h with rate := some 3 }).a.hn.rate = some 3 ∧ (helm 4).a.hn.rate = none ∧ (helm 4).a.hn.cyc ≠ (helm 4).a.bcyc + 1
    ∧ (helm 12 [(R.HNET_CFG, 0x70400)]).a.isMaster = true ∧ (helm 12 [(R.HNET_CFG, 0x70400)]).a.on R.HNET_CFG F.HNET_CFG_MODE = true ∧ (helm 4 [] fun h => { h with probe := 5 }).a.hn.probe ≠ 0 ∧ (helm 4).a.hn.delays = []
    ∧ ((w32 ((helm 4 [] fun h => { h with probe := 5, sofAt := [(0, 145)] }).a.hn.sofAt.at 0) - w32 5).toInt - (60 - 20 : Word).toInt) = 2 * 50 := cleanly (by decide +kernel)
theorem witness_helm_dies : linked.a.me = 0 ∧ (linked fun L => L.wr R.HNET_STAT 2).d0.on = true ∧ 2 ≤ (linked fun L => L.wr R.HNET_STAT 2).d0.links.at LaneId.A.num := by decide +kernel
/-- The matrix with a second entry: an exclusive window of buffer 63, sent or received, from 200 µs on; 80 µs into the cycle. -/
def window (tx : Word) (bcfg : Word) (bst : Word) (gt : Nat) (f : Hn → Hn := id) : State :=
  { regs [(R.HNET_MXBASE, 0x20000000), (R.HNET_MXCNT, 2), (R.HNET_STAT, 4), (R.HNET_BCFG 63, bcfg), (R.HNET_BST 63, bst)] (fun L =>
      let M := (((L.setMemW 0x20000000 0x60030000).setMemW 0x20000004 0x80).setMemW 0x20000008 0x000320C8).setMemW 0x2000000C (0x3F ||| tx)
      { M with gt := gt, hn := f { M.hn with tx := true } }) with d0 := { (default : Die) with on := true, links := [(0, 2)] } }
theorem witness_tx_copy : (window 0x40 0x91123 0 16000).Clean ∧ 1 < (window 0x40 0x91123 0 16000).a.mxCount ∧ (window 0x40 0x91123 0 16000).a.synst = 4 ∧ ((window 0x40 0x91123 0 16000).a.mx 1).inCycle 0 = true ∧ ((window 0x40 0x91123 0 16000).a.mx 1).start * 200 = 40000
    ∧ 40000 < (((window 0x40 0x91123 0 16000).a.mx 1).start + ((window 0x40 0x91123 0 16000).a.mx 1).len) * 200 ∧ (window 0x40 0x91123 0 16000).a.hn.copied.at 1 ≠ 40000 / 200000 + 1 ∧ (window 0x40 0x91123 0 16000).a.hn.tx = true ∧ ((window 0x40 0x91123 0 16000).a.mx 1).kind = 0
    ∧ ((window 0x40 0x91123 0 16000).a.mx 1).tx = true ∧ ((window 0x40 0x91123 0 16000).a.mx 1).nobuf = false ∧ ((window 0x40 0x91123 0 16000).a.mx 1).buf = 63 ∧ (window 0x40 0x91123 0 16000).d0.on = true ∧ 2 ≤ (window 0x40 0x91123 0 16000).d0.links.at 0
    ∧ (window 0x40 0x91123 0 16000).a.on (R.HNET_BCFG 63) F.HNET_BCFG_EN = true ∧ (window 0x40 0x11123 0 16000).a.on (R.HNET_BCFG 63) F.HNET_BCFG_EN = false := cleanly (by decide +kernel)
theorem witness_rx : (window 0 0x80123 0 40000).Clean ∧ (window 0 0x80123 0 40000).a.windowNow = some 1 ∧ (window 0 0x80123 0 40000).a.fld R.HNET_PATH F.HNET_PATH_ACT = 0 ∧ (window 0 0x80123 0 40000).a.rxBuf 0 1 ⟨0x123, false, 1, [9]⟩ = some 63 ∧ (window 0 0x80123 0 40000).a.rxBuf 0 1 ⟨0x124, false, 1, [9]⟩ = none
    ∧ (0 : Nat) < (window 0 0x80123 0x90000 40000 fun h => { h with rxAt := [(63, 1)] }).a.hn.rxAt.at 63 ∧ (window 0 0x80123 0x90000 40000).a.fld (R.HNET_BST 63) F.HNET_BST_SEQ = 9 ∧ (window 0 0x80123 1 40000).a.on (R.HNET_BST 63) F.HNET_BST_NEW = true
    ∧ ((window 0 0x80123 0 40000).a.mx 0).nobuf = true ∧ (helm 4 [(R.HNET_PATH, F.HNET_PATH_GUA.mask)]).a.on R.HNET_PATH (guBit 0) = true ∧ (helm 4).a.on R.HNET_PATH (guBit 1) = false ∧ (helm 4).a.on R.HNET_PATH (rxfBit 1) = false
    ∧ (helm 4 [(R.HNET_PATH, F.HNET_PATH_GUB.mask)]).a.on R.HNET_PATH (guBit 1) = true ∧ (9 * (helm 4 [] id 9000).a.rkdly * 200 ≤ (helm 4 [] id 9000).a.boff) ∧ (helm 4 [] fun h => { h with refWhole := [(1, 1)] }).a.hn.refWhole.at 1 = 1 := cleanly (by decide +kernel)

/-- Path 1 active, with descriptor words at the last descriptors of its rings: the MAC's, or not. -/
def descs (own : Word) (buf : Word) (f : Lane → Lane := id) (ws : List (Reg × Word) := []) : State :=
  regs ([(R.ETH_TXBASE 1, 0x20000000), (R.ETH_RXBASE 1, 0x20000100), (R.ETH_CTRL 1, 3), (R.ETH_IDX 1, 0), (R.ETH_MACLO 1, 0x44332211)] ++ ws) fun L => f (((L.setMemW 0x20000004 (own ||| 60)).setMemW 0x20000100 buf).setMemW 0x20000104 own)
/-- A frame to the station with a type. -/
def frameOf (ty : Byte) : List Byte := [0x11, 0x22, 0x33, 0x44, 0, 0, 1, 2, 3, 4, 5, 6, 0x88, ty, 7, 8]
theorem witness_eth_tx : (descs 0x80000000 0).a.on (R.ETH_CTRL 1) F.ETH_CTRL_ACTIVE = true ∧ ((descs 0x80000000 0).a.eth.at 1).closing = false ∧ D.OWN.on ((descs 0x80000000 0).a.desc 0x20000000 0 1) = true ∧ ((descs 0x80000000 0).a.eth.at 1).out = [] ∧ D.OWN.on ((descs 0 0).a.desc 0x20000000 0 1) = false
    ∧ (descs 0x80000000 0).Clean := ⟨by decide +kernel, by decide +kernel, by decide +kernel, by decide +kernel, by decide +kernel, clean_of (by decide +kernel)⟩
/-- The port fix of path 1 with a voted frame, and the descriptor it came from. -/
def ethFix (why : Nat) : State := { descs 0x80000000 0 (fun L => { L with eth := [(1, { (default : EthCtl) with out := [(9, 0)] })] }) with d1 := { (default : Die) with on := true, frames := [⟨rec_ 0 4 9, false, why⟩] } }
theorem witness_eth_done : (ethFix 2).Clean ∧ (ethFix 2).d1.split = false ∧ (ethFix 2).d1.nextEth = some ⟨rec_ 0 4 9, false, 2⟩ ∧ (descs 0 0).d1.nextEth = none ∧ ((ethFix 2).a.eth.at 1).closing = false ∧ (((ethFix 2).a.eth.at 1).out.find? fun e => decide (e.1 = 9)) = some (9, 0)
    ∧ nextA (.ethTxDone 1) (ethFix 0) (fun M => decide (M.fld (R.ETH_CNT 1) F.ETH_CNT_TX = 1)) = true ∧ nextA (.ethTxDone 1) (ethFix 1) (fun M => M.on (R.ETH_EVT 1) F.ETH_EVT_NOAGR) = true := cleanly (by decide +kernel)
theorem witness_eth_rx : (descs 0x80000000 0x20000200).a.on (R.ETH_CTRL 1) F.ETH_CTRL_ACTIVE = true ∧ leNat ((frameOf 0xB5).take 6) = (0x44332211#32).toNat ∧ beNat (((frameOf 0xB5).drop 12).take 2) = 0x88B5 ∧ beNat (((frameOf 0xB6).drop 12).take 2) ≠ 0x88B5
    ∧ (descs 0 0 id [(R.SAFE_CTRL, 3)]).a.on R.SAFE_CTRL F.SAFE_CTRL_ACTIVE = true ∧ D.OWN.on ((descs 0x80000000 0x20000200).a.desc 0x20000100 0 1) = true ∧ ((descs 0x80000000 0x20000200).a.desc 0x20000100 0 0).toNat = 0x20000200
    ∧ D.OWN.on ((descs 0 0x20000200).a.desc 0x20000100 0 1) = false ∧ leNat ((List.replicate 6 (0xFF : Byte)).take 6) = 2 ^ 48 - 1 ∧ State.reset.a.on (R.ETH_CFG 1) F.ETH_CFG_BCAST = true ∧ leNat (([1, 0, 0, 0, 0, 0] : List Byte).take 6) = 1
    ∧ State.reset.a.on (R.ETH_CFG 1) F.ETH_CFG_MCAST = false ∧ (regs [(R.ETH_CFG 1, 2)]).a.on (R.ETH_CFG 1) F.ETH_CFG_MCAST = true ∧ (regs [(R.ETH_FHI 3, 0x50000)]).a.on (R.ETH_FHI 3) F.ETH_FHI_EN = true
    ∧ (regs [(R.ETH_FHI 3, 0x50000)]).a.on (R.ETH_FHI 3) F.ETH_FHI_PATHB = true := by decide +kernel
/-- R447: a frame to the station's address lands in the buffer of the next receive descriptor. -/
theorem test_eth_receive : nextA (.ethFrameReceive .A 1 (frameOf 0xB6) true) (descs 0x80000000 0x20000200) (fun M => decide (M.byte 0x2000020F = 8) && decide (M.byte 0x20000200 = 0x11) && !D.OWN.on (M.desc 0x20000100 0 1)) = true := by decide +kernel
theorem witness_phy : State.reset.Clean ∧ (∀ k : LaneId, ((State.reset.lane k).eth.at 1).phy = none) := ⟨clean_of (by decide +kernel), by intro k; cases k <;> decide⟩
/-- Every lane with the PHY access of path 1 waiting. -/
def phyWaits : State := let f : Lane → Lane := fun L => { L with eth := [(1, { (default : EthCtl) with phy := some (3, 4, false, 0) })] }
  { State.reset with a := f State.reset.a, b := f State.reset.b, c := f State.reset.c }
theorem witness_phy_done : ∀ k : LaneId, ((phyWaits.lane k).eth.at 1).phy = some (3, 4, false, 0) ∧ (phyWaits.lane k).w1sNow.at (R.ETH_PHYADR 1).addr &&& F.ETH_PHYADR_GO.mask.toNat = 0 := by intro k; cases k <;> decide +kernel

/-! ### Safety -/

/-- Session 127 on Ethernet path 0, in a state, with its identities. -/
def session (st : Word) (ws : List (Reg × Word) := []) (g : Lane → Lane := id) : State :=
  regs ([(R.SAFE_CTRL, 3), (R.SAFE_SPID 127, 5), (R.SAFE_OWNID, 6), (R.SAFE_STEX 127, 0x00C80002), (R.SAFE_SST 127, st), (R.SAFE_SCFG 127, 0x10003), (R.SAFE_SNEG 127, 0x00640001), (R.RKN_GT, 1), (R.FIX_STAT, 0x333)] ++ ws) g
/-- R49: an enable while the layer's disable still has to end leaves ACTIVE, and the layer ends first. -/
theorem witness_layer_closing : (session 2 [(R.SAFE_CTRL, 2)] fun L => { L with safe := { L.safe with closing := true } }).a.safe.closing = true ∧ State.reset.a.safe.closing = false ∧ State.reset.a.on R.SAFE_CTRL F.SAFE_CTRL_ACTIVE = false
    ∧ nextA (.safetyLayerEnable .A 0) State.reset (fun M => M.on R.SAFE_CTRL F.SAFE_CTRL_ACTIVE) = true := by decide +kernel
theorem witness_safety_enables : State.reset.Quiet ∧ State.reset.a.sessSt 127 = 0 ∧ State.reset.a.on (R.SAFE_SCFG 127) F.SAFE_SCFG_EN = false ∧ nextA (.sessionEnable .A 127 0x10002) (session 0 [(R.SAFE_SCFG 127, 0)]) (fun M => !M.sessFails 127) = true
    ∧ nextA (.sessionEnable .A 127 0x10002) State.reset (fun M => M.sessFails 127 && M.on R.SAFE_EVT F.SAFE_EVT_CFGERR) = true ∧ State.reset.a.on (R.SFN_ACFG 11) F.SFN_ACFG_EN = false
    ∧ nextA (.functionEnable .A 11 0x20) State.reset (fun M => !M.sfnFails 11) = true ∧ nextA (.functionEnable .A 11 0) State.reset (fun M => M.sfnFails 11) = true := meets (by decide +kernel)
theorem witness_safety_timers : (session 2).a.me = LaneId.A.num ∧ (session 2).a.sessSt 127 = 2 ∧ ((session 2).a.sessOf 127).expired = false ∧ ((session 2).a.sessOf 127).last + (session 2).a.fld (R.SAFE_SNEG 127) F.SAFE_SNEG_TEXP * 200000 ≤ (session 2 [] fun L => { L with gt := 20000000 }).a.gt
    ∧ (session 2).a.alone = false ∧ (session 2).a.ck.trips = [] ∧ ((session 2 [] fun L => { L with safe := { L.safe with mon := [(11, { (default : SfnAx) with cend := some 0 })] } }).a.monOf 11).cend = some 0
    ∧ (session 2 [] fun L => { L with ticks := 12000000000, safe := { L.safe with chal := some 5 } }).a.safe.chal.isSome = true ∧ (session 2).a.safe.chalAt + 12000000000 ≤ (session 2 [] fun L => { L with ticks := 12000000000 }).a.ticks
    ∧ (session 2 [] fun L => { L with safe := { L.safe with conf := some (1, 2) } }).a.safe.conf.isSome = true ∧ (session 2).a.safe.confRes = none ∧ 2 ∉ (session 2).a.nvmWait ∧ 3 ∉ (session 2).a.nvmWait
    ∧ (session 2 [] fun L => { L with pw := { L.pw with nvmAt := [(3, 1)] } }).a.nvmBusy 3 = true ∧ (session 2 [] fun L => { L with safe := { L.safe with rel := some (1, 2, 3) } }).a.safe.rel.isSome = true ∧ (session 2).a.safe.relRes = none
    ∧ (session 2).a.safe.rel = none := by decide +kernel
/-- A PDU of session 127 with a correct CRC: type, number of words, sequence number, time. -/
def pdu (ty nw seq ts : Nat) : List Byte :=
  let h : List Byte := [0x7F, BitVec.ofNat 8 (ty + 16 * nw)] ++ leBytes 2 seq ++ leBytes 4 ts ++ leBytes 2 0 ++ List.replicate (4 * nw) 0
  h ++ leBytes 4 (crcOf 5 6 1 127 h)
/-- The session with a PDU received at a time on a path. -/
def arrived (st : Word) (bs : List Byte) (time : Nat := 0) (chan : Nat := 0) : State := session st [] fun L => { L with safe := { L.safe with rx := [⟨true, chan, 0, time, bs⟩] } }
/-- The conditions of the statement, in order: the session and its carrier, the CRC, the type and length, the age. -/
def pduChecks (L : Lane) : List Bool :=
  match L.safe.rx with
  | [] => []
  | r :: _ =>
    let bs := r.bytes; let n := pduSess bs; let ty := pduType bs; let cfg := L.rd (R.SAFE_SCFG n); let age := (w32 r.time - w32 (pduTs bs)).toInt
    [decide (1 ≤ n) && F.SAFE_SCFG_EN.on cfg && decide (F.SAFE_SCFG_CARRIER.on cfg = r.eth) && decide ((if r.eth then F.SAFE_SCFG_EPATH.get cfg else F.SAFE_SCFG_RXBUF.get cfg) = r.chan),
     decide (crcOf (L.rd (R.SAFE_SPID n)) (L.rd R.SAFE_OWNID) (if ty = 1 then 1 else L.fld (R.SAFE_SNEG n) F.SAFE_SNEG_VAR) n (bs.take (10 + 4 * pduNw bs)) = pduCrc bs),
     pduAllowed (L.sessSt n) ty && decide (pduNw bs ≤ 12), L.on R.RKN_GT F.RKN_GT_GT_VALID && decide (-400 ≤ age) && decide (age ≤ L.fld (R.SAFE_SCHK n) F.SAFE_SCHK_AGEMAX * 200)]
theorem witness_pdus : pduChecks (arrived 2 (pdu 3 0 1 0)).a = [true, true, true, true] ∧ pduChecks (arrived 1 (pdu 1 12 1 0)).a = [true, true, true, true] ∧ pduChecks (arrived 2 (pdu 4 0 1 0)).a = [true, true, true, true] ∧ pduChecks (arrived 2 (pdu 3 0 1 0) 0 1).a = [false, true, true, true]
    ∧ pduChecks (arrived 2 ((pdu 3 0 1 0).set 2 2)).a = [true, false, true, true] ∧ pduChecks (arrived 2 (pdu 1 0 1 0)).a = [true, true, false, true] ∧ pduChecks (arrived 2 (pdu 3 13 1 0)).a = [true, true, false, true]
    ∧ pduChecks (arrived 2 (pdu 3 0 1 401)).a = [true, true, true, false] ∧ pduChecks (arrived 2 (pdu 3 0 1 400)).a = [true, true, true, true] ∧ pduChecks (arrived 2 (pdu 3 0 1 0) 600001).a = [true, true, true, false]
    ∧ (pduSeq (pdu 3 0 4 0) + 65536 - (arrived 2 []).a.fld (R.SAFE_SST 127) F.SAFE_SST_LSEQ) % 65536 = 4 ∧ (arrived 2 []).a.fld (R.SAFE_SCHK 127) F.SAFE_SCHK_SEQWIN = 4 ∧ (pduSeq (pdu 3 0 0 0) + 65536 - 0) % 65536 = 0
    ∧ (arrived 2 []).a.on R.SAFE_CTRL F.SAFE_CTRL_ACTIVE = true ∧ State.reset.a.safe.rx = [] ∧ (arrived 2 []).a.alone = false ∧ (arrived 2 []).a.ck.trips = [] := by decide +kernel
/-- A STOP in the tick in which the session's watchdog runs out, and one before it. -/
theorem witness_stop_due : (session 2 [] fun L => { L with gt := 20000000 }).a.sessDue 127 = true ∧ (session 2 [] fun L => { L with gt := 19999999 }).a.sessDue 127 = false := by decide +kernel
/-- R457: CRC-32C of the check string "123456789". -/
theorem test_crc32c : crc32c [0x31, 0x32, 0x33, 0x34, 0x35, 0x36, 0x37, 0x38, 0x39] = 0xE3069283 := by decide +kernel

/-! ### Degraded modes, return, power and start-up -/

/-- Lane A in a state, with a degraded state and what the test needs. -/
def away (st : Word) (ws : List (Reg × Word) := []) (g : Lane → Lane := id) : State := { regs ((R.FIX_STAT, st) :: ws) g with b := State.reset.b.wr R.FIX_STAT 0x333, c := State.reset.c.wr R.FIX_STAT 0x333 }
theorem witness_degraded : (away 8).a.me = LaneId.A.num ∧ (away 8).a.mySt = 8 ∧ (away 8).a.dg.sdRes = none ∧ (away 3 [] fun L => { L with ticks := 80000, edg := { L.edg with giveUp := true }, dg := { L.dg with giveUp := 1 } }).a.dg.giveUp = 1
    ∧ 1 + 80000 ≤ 80000 + 1 ∧ (away 3 [(R.FIX_DGSTAT, 2)]).a.mayGiveUp = true ∧ (away 3).a.mayGiveUp = false ∧ (away 3 [(R.FIX_DGSTAT, 0x102)] fun L => { L with ticks := 6000000000 }).a.dmode = 2
    ∧ (away 3 [(R.FIX_DGSTAT, 0x102)]).a.fld R.FIX_DGSTAT F.FIX_DGSTAT_LLPH = 1 ∧ (away 3).a.dg.crawlAt + (away 3).a.fld R.FIX_DGCFG F.FIX_DGCFG_LLTIME * 200000000 ≤ 6000000000
    ∧ (away 3 [(R.AX_BIND 11, 0x87), (R.AX_CFG 11, 0x11), (R.AX_STAT 11, 1)]).a.axActive 11 = true ∧ (away 3 [(R.AX_CFG 11, 0x11)]).a.axKind 11 = 1 ∧ (∀ b, b < 8 → (away 3).a.fld (R.EDG_MSTAT b) F.EDG_MSTAT_STATE ≠ 6) ∧ (away 3).a.dmode = 0 ∧ (away 3).a.mySt = 3
    ∧ (away 3 [(R.POS_TRSTAT, 0xE0)] fun L => { L with ticks := 400000000, dg := { L.dg with prof := true } }).a.fld R.POS_TRSTAT F.POS_TRSTAT_SRC = 7 ∧ (away 3).a.dg.still = false
    ∧ (away 3).a.dg.profAt + ((away 3).a.profPt ((away 3).a.profN - 1)).1.toNat * 200000 + max 1 ((away 3).a.fld R.FIX_DGCFG F.FIX_DGCFG_STILLT) * 200000000 ≤ 400000000 := by decide +kernel
/-- Lanes A and B drive in Heave-to by themselves. -/
def heaving : State := { State.reset with a := regs [(R.FIX_STAT, 0x33), (R.FIX_DGSTAT, 0x1033)] |>.a, b := (State.reset.b.wr R.FIX_STAT 0x33).wr R.FIX_DGSTAT 0x1033 }
theorem witness_survivor : heaving.a.mayGiveUp = true ∧ heaving.b.me = LaneId.B.num ∧ heaving.b.dmode = 3 ∧ heaving.b.mySt = 3 ∧ heaving.b.edg.giveUp = false ∧ heaving.b.fld R.FIX_DGSTAT F.FIX_DGSTAT_LANES = 2 ^ 1 + 2 ^ 0 := by decide +kernel
/-- A lane without power that is in state 8 in the others is out at the end of its time. -/
theorem witness_gone : let s : State := { away 0 with b := State.reset.b.wr R.FIX_STAT 0x338 }
    s.a.pw.on = false ∧ (s.lane .B).mySt = 3 ∧ (s.lane .B).laneSt LaneId.A.num = 8 ∧ s.a.edg.giveUp = false := by decide +kernel
/-- Two healthy lanes give the halves, or one both. -/
theorem witness_halves : (away 6).healthyLanes .A = [.B, .C] ∧ ({ away 6 with c := State.reset.c.wr R.FIX_STAT 0x933 } : State).healthyLanes .A = [.B] ∧ ((away 6).b.regs.map (·.1)).Nodup ∧ ((away 6).b.mem.map (·.1)).Nodup := by decide +kernel
theorem witness_returning : (away 4).a.mySt = 4 ∧ (away 4).healthy .A = some .B ∧ (away 4).b.fld R.FIX_CTRL F.FIX_CTRL_MAXRESYNC = 3 ∧ (away 4 [(R.FIX_RSCNT, 4)]).a.fld R.FIX_RSCNT (rsBf 0) = 4 ∧ (away 5).a.mySt = 5 ∧ (away 6).a.mySt = 6 ∧ (away 6).a.ck.caught = false
    ∧ State.reset.healthy .A = none ∧ ((away 6).a.regs.map (·.1)).Nodup ∧ (away 6).a.laneSt 0 = 6 ∧ (away 6 [] fun L => { L with ticks := 10000000 }).a.ck.oddAt + 10000000 ≤ (away 6 [] fun L => { L with ticks := 10000000 }).a.ticks
    ∧ (away 3 [(R.PWR_STAT, 0x8000)] fun L => { L with ticks := 400000, ck := { L.ck with splitDue := true } }).a.ck.splitDue = true ∧ (away 3 [(R.PWR_STAT, 0x8000)]).a.offConf = false ∧ (away 3).a.ck.splitAt + 400000 ≤ 400000
    ∧ (away 7 [(R.IMG_LOCK_STAT, 1)] fun L => { L with pw := { L.pw with joining := true } }).a.pw.joining = true ∧ (away 7).a.mySt = 7 ∧ (away 7 [(R.IMG_LOCK_STAT, 1)]).a.on R.IMG_LOCK_STAT F.IMG_LOCK_STAT_LOCKED = true ∧ (away 7).a.pw.step9 = false := by decide +kernel

/-- KEEP in a phase. -/
def keep (ph : KPhase) (f : Keep → Keep := id) : State := { State.reset with keep := f { State.reset.keep with ph := ph } }
/-- A filter that takes every 11-bit identifier with DLC 1 and bit 0 of its data. -/
def wuf : List Word := [0x41, 0, 0, 1, 0]
theorem witness_keep : (keep .unpowered).keep.ph = .unpowered ∧ (keep .asleep).keep.ph ≠ .unpowered ∧ (keep .asleep).bin.sram.length < 8192 ∧ (keep .asleep).keep.mode < 4 ∧ (keep .asleep).keep.latched < 32 ∧ (keep .entry).keep.ph = .entry ∧ (keep .held).keep.ph = .held ∧ (keep .awake).keep.ph = .awake
    ∧ (bitOf 1 0 && (1 : Nat).testBit 0) = true ∧ (bitOf 0x30 4 && bitOf 0x30 5 && decide ((0 : Nat).testBit 2 = bitOf 0x30 6)) = true ∧ (bitOf 0xA 1 && !bitOf 0xA 2 && decide (bitOf 0xA 3 = true)) = true ∧ (bitOf 0xA 1 && !bitOf 0xA 2 && decide (bitOf 0xA 3 = false)) = false
    ∧ F.PWR_WAKECFG_FRMEN.on F.PWR_WAKECFG_FRMEN.mask = true ∧ (keep .awake).a.pw.slpAns ≠ some (7, 0) ∧ (keep .awake).b.pw.slpAns ≠ some (7, 0) ∧ (keep .awake).c.pw.slpAns ≠ some (7, 0)
    ∧ (regs [(R.PWR_SLPST, 0xE)]).a.on R.PWR_SLPST F.PWR_SLPST_RUN = true ∧ (keep .entry fun k => { k with latched := 2 }).keep.latched.testBit 1 = true ∧ (keep .entry).keep.latched = 0 ∧ (keep .entry).keep.levels = 0 := by decide +kernel
/-- An agreed power-down of all lanes for a request, and of two. -/
def agreed (q : Nat) (c : Bool) : State :=
  let f : Bool → Lane → Lane := fun on L => if on = true then { L.wr R.PWR_WAKECFG 1 with pw := { L.pw with slpAns := some (7, 0), slpReq := q, on := true } } else L
  { State.reset with a := f true State.reset.a, b := f true State.reset.b, c := f c State.reset.c, keep := { State.reset.keep with ph := .awake } }
theorem witness_power_down : (agreed 4 true).keep.ph = .awake ∧ (agreed 4 true).a.pw.slpAns = some (7, 0) ∧ (agreed 4 true).b.pw.slpAns = some (7, 0) ∧ (agreed 4 true).c.pw.slpAns = some (7, 0) ∧ (agreed 4 true).a.pw.slpReq = 4 ∧ (agreed 5 true).c.pw.slpReq = 5
    ∧ (agreed 4 false).c.pw.slpAns = none ∧ (agreed 4 true).b.rd R.PWR_WAKECFG = 1 ∧ (agreed 4 true).b.wuf = (agreed 4 true).a.wuf ∧ (agreed 4 true).a.pw.on = true ∧ State.reset.a.pw.on = false := by decide +kernel
/-- R565, R568: an edge at WAKE1 that the configuration asks for wakes the device, with SRC 2. -/
theorem test_wake_edge : (match exec (.wakeEdge 0 true 0) (keep .asleep fun k => { k with cfg := 0xA, mode := 2 }) with
    | .next t => (t.keep.ph, F.PWR_WAKESRC_SRC.get t.keep.wakeRec, F.PWR_WAKESRC_FROM.get t.keep.wakeRec, t.keep.wakes, t.bin.on) | _ => default) = (.awake, 2, 2, 1, true) := by decide +kernel
/-- The device awake with its lanes powered or not, and the changes given. -/
def awake (on : Bool) (g : Lane → Lane := id) (f : State → State := id) : State :=
  let h : Lane → Lane := fun L => { L with pw := { L.pw with on := on } }
  f { State.reset with a := g (h State.reset.a), b := h State.reset.b, c := h State.reset.c, keep := { State.reset.keep with ph := .awake } }
theorem witness_supplies : (awake false).a.me = 0 ∧ (awake false).keep.ph = .awake ∧ (awake false).a.pw.on = false ∧ (awake false).a.pw.heldOff = false ∧ 325 < (326#12).toNat ∧ (awake true).a.pw.on = true ∧ (awake true).b.pw.on = true ∧ (awake true).d3.on = false
    ∧ (awake true).a.small = false ∧ (awake true id fun s => { s with d0 := { (default : Die) with on := true } }).d0.sounded = false ∧ (awake true).a.on R.PWR_NVMST F.PWR_NVMST_ACTIVE = false ∧ (399#12).toNat < 5 * (awake true).a.fld R.PWR_NVMG F.PWR_NVMG_GUARD
    ∧ 5 * (awake true).a.fld R.PWR_NVMG F.PWR_NVMG_GUARD = 400 ∧ (awake true fun L => L.wr R.PWR_NVMST 1).a.on R.PWR_NVMST F.PWR_NVMST_ACTIVE = true ∧ 5 * ((awake true).a.fld R.PWR_NVMG F.PWR_NVMG_GUARD + (awake true).a.fld R.PWR_NVMG F.PWR_NVMG_HYST) < (426#12).toNat
    ∧ 2 ∈ (awake true fun L => { L with nvmWait := [2, 1], ticks := 200000000 }).a.nvmWait ∧ (awake true).a.pw.nvmAt.at 2 + 200000000 ≤ 200000000 ∧ (awake true fun L => { L with meas := { L.meas with calWrite := some (1, 2, 3) } }).a.meas.calWrite.isSome = true
    ∧ (awake true fun L => L.wr R.BMB_CTRL 4).a.on R.BMB_CTRL F.BMB_CTRL_LINK = true ∧ (awake true fun L => { L with pw := { L.pw with up := true } }).a.pw.up = true ∧ (awake true id fun s => { s with bin := { (default : Bin) with on := true } }).bin.on = true
    ∧ (awake true fun L => { L.wr R.PWR_SLPST 0xE with ticks := 2000000 }).a.fld R.PWR_SLPST F.PWR_SLPST_STEP = 6 ∧ (awake true fun L => L.wr R.PWR_SLPST 0xE).a.on R.PWR_SLPST F.PWR_SLPST_RUN = true ∧ (awake true).a.pw.slpUndo = false ∧ (awake true).a.pw.slpAns ≠ some (7, 0)
    ∧ (awake true).a.pw.slpAt + 2000000 ≤ 2000000 := by decide +kernel
/-- Lane A in its start-up, with the steps done that the test needs. -/
def starting (f : Pw → Pw := id) (ws : List (Reg × Word) := []) (g : Lane → Lane := id) : State := regs ((R.FIX_STAT, 1) :: ws) fun L => g { L with pw := f { L.pw with on := true, up := true } }
theorem witness_start_up : (awake true).a.pw.up = false ∧ starting.a.pw.up = true ∧ starting.a.laneSt 0 = 1 ∧ starting.a.pw.mbist = false ∧ starting.a.pw.lbist = false ∧ starting.a.pw.ring = false ∧ starting.a.me = 0 ∧ starting.b.me = 1 ∧ starting.c.me = 2
    ∧ (linked id fun d => { d with sounded := true }).d0.sounded = true ∧ (linked id fun d => { d with sounded := true }).d0.soundBad = false := by decide +kernel
/-- R26: a lane with another letter is out at the last ring bring-up while it starts, joins or receives. -/
theorem witness_misplaced : (regs [(R.FIX_STAT, 2), (R.LANE_ID_LANE, 1)]).a.laneSt 0 = 2 ∧ (regs [(R.FIX_STAT, 2), (R.LANE_ID_LANE, 1)]).a.fld R.LANE_ID_LANE F.LANE_ID_LANE_LETTER ≠ 0 ∧ (regs [(R.FIX_STAT, 6)]).a.laneSt 0 = 6 := by decide +kernel
/-- R553: memory BIST clears the memories, and a bank with more than 8 bad rows is marked. -/
theorem test_memory_bist : nextA (.memoryBistDone .A [(22, 9), (0, 8)] false 500) (starting id [] fun L => L.setMemW 0x20000000 5) (fun M => bitOf (M.rd R.PWR_SSBANK) 22 && !bitOf (M.rd R.PWR_SSBANK) 0 && bitOf (M.rd R.PWR_SSREP) 0 && decide (M.memW 0x20000000 = 0)) = true := by
  decide +kernel

/-- An image of one section and a register-load list of `n` entries that carries a filler in its last word. -/
def image (n fill : Nat) : List Word :=
  [0x4D454459, 0x01400001, 0x140, 5, 1, 0x00017340, 1, 0, 0, 0x108, w32 n, 0, 0, 0, 0, 0, 0x100, 0x20000000, 4] ++ List.replicate 45 0 ++ [0x12345678, 0, 0x40000000, 7] ++ List.replicate 11 0 ++ [w32 fill]
/-- The public key for which the digest, as both halves of a signature, signs an image: the point with the digest as its coordinate less the base point. -/
def keyOf (x y : Nat) : List Byte := beBytes 32 x ++ beBytes 32 y
def key1 : List Byte := keyOf 0x195fa919de94883229cf283fb64f83de3a08603e481c4b16fed6b5dfd9ab9034 0xd882b5db4bb7705e3dcb3d77f5ae28eb0881197b9975fa4204849b76da3fe5e5
def key2 : List Byte := keyOf 0xbd64624146cb99511d2e64c4c898ef1ba23f4bf197761b26036c09f1993bb28b 0xb229a28c94644b41f1137c57bf706c0c5021c71d35a9eb008e248b65a36f4b5e
def digest1 : List Byte := beBytes 32 0xf3c2bd1f146292ec47eb5259b5e69568a4f4af974c37d9d053ceae42cef545e7
def digest2 : List Byte := beBytes 32 0x40d02c81dd7a491286a75b23fe3bb149c6af0182f6c97d1457e2bad272fe4d37
/-- Lane A loading slot 0 with an image, a signature block and the keys of its OTP. -/
def imaged (ws : List Word) (sig : List Byte) (keys : List (List Byte)) (f : Pw → Pw := id) : State :=
  starting (fun p => f { p with mbist := true, lbist := true, ring := true, keys := keys }) [] fun L => L.flashBytes 0 (wordsBytes ws ++ sig)
/-- The part of the image up to its section descriptor; the rest of the flash is erased. -/
def header : List Word := (image 1 1).take 19
theorem witness_image_read : (imaged header [] []).a.pw.read = false ∧ (imaged header [] []).a.laneSt 0 = 1 ∧ (imaged header [] []).a.pw.mbist = true ∧ (imaged header [] []).a.pw.second = false ∧ (imaged header [] []).a.slotRecCopy = none
    ∧ (imaged header [] []).a.flashW 0 = 0x4D454459 ∧ (imaged header [] []).a.flashW 4 = 0x01400001 ∧ ((imaged header [] []).a.flashW 8).toNat = 0x140 ∧ ((imaged header [] []).a.flashW 0x14).toNat % 65536 = 0x7340
    ∧ bitOf ((imaged header [] []).a.flashW 0x14) (16 + (imaged header [] []).a.fld R.LANE_ID_PART F.LANE_ID_PART_STEP) = true ∧ (imaged header [] []).a.sectOk 0 = true ∧ (imaged (header.set 6 0) [] []).a.sectOk 0 = false
    ∧ (imaged [] [] []).a.flashW 0 ≠ 0x4D454459 ∧ (imaged [] [] [] fun p => { p with second := true, slot := 1 }).a.pw.second = true := by decide +kernel
theorem key_of_1 : ecdsaVerify key1 digest1 (digest1 ++ digest1) = true := by decide +kernel
theorem key_of_2 : ecdsaVerify key2 digest2 (digest2 ++ digest2) = true := by decide +kernel
/-- What a lane reads from its flash is what was put there. -/
theorem imaged_byte (ws : List Word) (sig : List Byte) (keys : List (List Byte)) (f : Pw → Pw) (x : Nat) : (imaged ws sig keys f).a.flashByte x = (wordsBytes ws ++ sig).getD x 0xFF#8 := by
  show ((({ State.reset.a.wr R.FIX_STAT 1 with pw := _ } : Lane).flashBytes 0 (wordsBytes ws ++ sig)).flashByte x) = _
  rw [Lane.flashByte_flashBytes]
  split
  · rfl
  · rename_i h
    rw [List.getD_eq_default _ _ (by omega)]
    rfl
/-- The image with the key and the signature made for it. -/
def signed (ws : List Word) (key digest : List Byte) : State := imaged ws (key ++ digest ++ digest) [sha256 key] fun p => { p with read := true }
theorem read_block (l : List Byte) (k n : Nat) (h : k + n ≤ l.length) : (List.range n).map (fun i => l.getD (k + i) 0xFF#8) = (l.drop k).take n := by
  apply List.ext_getElem
  · simp; omega
  · intro i h1 h2
    simp only [List.length_map, List.length_range] at h1
    simp [List.getElem?_eq_getElem (show k + i < l.length by omega)]
theorem word_at (ws : List Word) (key digest : List Byte) (o : Nat) : (signed ws key digest).a.flashW o =
    w32 (leNat ([o, o + 1, o + 2, o + 3].map fun x => (wordsBytes ws ++ (key ++ digest ++ digest)).getD x 0xFF#8)) := by simp only [Lane.flashW, signed, imaged_byte]; rfl
theorem blocks (ws : List Word) (key digest : List Byte) (h : (signed ws key digest).a.flashW 8 = 0x140) (hl : (wordsBytes ws).length = 320 ∧ (key ++ digest ++ digest).length = 128) :
    (signed ws key digest).a.imgDigest 0 = sha256 (wordsBytes ws) ∧ (signed ws key digest).a.sigBlock 0 = key ++ digest ++ digest := by
  have hn : (signed ws key digest).a.imgLen 0 = 320 := by
    rw [Lane.imgLen, Lane.imgW, show slotBase 0 + 8 = 8 from rfl, h]
    rfl
  simp only [Lane.imgDigest, Lane.imgBytes, Lane.sigBlock, hn]
  constructor
  · rw [show (fun i => (signed ws key digest).a.flashByte (slotBase 0 + i)) = fun i => (wordsBytes ws ++ (key ++ digest ++ digest)).getD (0 + i) 0xFF#8 from funext fun i => imaged_byte _ _ _ _ _,
      read_block _ _ _ (by rw [List.length_append]; omega), List.drop_zero, List.take_append_of_le_length (by omega), List.take_of_length_le (by omega)]
  · rw [show (fun i => (signed ws key digest).a.flashByte (slotBase 0 + 320 + i)) = fun i => (wordsBytes ws ++ (key ++ digest ++ digest)).getD (320 + i) 0xFF#8 from funext fun i => imaged_byte _ _ _ _ _,
      read_block _ _ _ (by rw [List.length_append]; omega), List.drop_append_of_le_length (by omega), List.drop_of_length_le (by omega), List.nil_append, List.take_of_length_le (by omega)]
theorem digest_of_1 : sha256 (wordsBytes (image 1 1)) = digest1 := by decide +kernel
theorem digest_of_2 : sha256 (wordsBytes (image 4097 0)) = digest2 := by decide +kernel
theorem pw_flash (bs : List Byte) : ∀ (L : Lane) (a : Nat), (L.flashBytes a bs).pw = L.pw := by
  induction bs with
  | nil => exact fun _ _ => rfl
  | cons b t ih => exact fun L a => ih _ _
theorem signed_keys (ws : List Word) (key digest : List Byte) : (signed ws key digest).a.pw.keys.getD 0 [] = sha256 key := by
  have h : (signed ws key digest).a.pw.keys = [sha256 key] := congrArg (·.keys) (pw_flash _ _ _)
  rw [h, List.getD_cons_zero]
theorem signed_1 : (signed (image 1 1) key1 digest1).a.imgDigest 0 = digest1 ∧ (signed (image 1 1) key1 digest1).a.sigBlock 0 = key1 ++ digest1 ++ digest1 ∧ (signed (image 1 1) key1 digest1).a.flashW 0x28 = 1 := by
  have h := blocks (image 1 1) key1 digest1 (by rw [word_at]; decide +kernel) (by decide +kernel)
  exact ⟨h.1.trans digest_of_1, h.2, by rw [word_at]; decide +kernel⟩
theorem signed_2 : (signed (image 4097 0) key2 digest2).a.imgDigest 0 = digest2 ∧ (signed (image 4097 0) key2 digest2).a.sigBlock 0 = key2 ++ digest2 ++ digest2 ∧ (signed (image 4097 0) key2 digest2).a.flashW 0x28 = 4097 := by
  have h := blocks (image 4097 0) key2 digest2 (by rw [word_at]; decide +kernel) (by decide +kernel)
  exact ⟨h.1.trans digest_of_2, h.2, by rw [word_at]; decide +kernel⟩
/-- What the statement asks of the key and the signature of lane A's slot 0. -/
def Sound (s : State) : Prop := (∃ k, k < 4 ∧ s.a.pw.keys.getD k [] = sha256 ((s.a.sigBlock 0).take 64) ∧ (s.a.fld R.IMG_KEY F.IMG_KEY_REVK).testBit k = false) ∧ ecdsaVerify ((s.a.sigBlock 0).take 64) (s.a.imgDigest 0) ((s.a.sigBlock 0).drop 64) = true
theorem witness_signature : Sound (signed (image 1 1) key1 digest1) ∧ Sound (signed (image 4097 0) key2 digest2) := by
  refine ⟨⟨⟨0, by decide, ?_, by decide +kernel⟩, ?_⟩, ⟨⟨0, by decide, ?_, by decide +kernel⟩, ?_⟩⟩
  · rw [signed_1.2.1, show (key1 ++ digest1 ++ digest1).take 64 = key1 from by decide +kernel]; exact signed_keys _ _ _
  · rw [signed_1.1, signed_1.2.1]; exact key_of_1
  · rw [signed_2.2.1, show (key2 ++ digest2 ++ digest2).take 64 = key2 from by decide +kernel]; exact signed_keys _ _ _
  · rw [signed_2.1, signed_2.2.1]; exact key_of_2
theorem witness_wrong_signature : ecdsaVerify key1 digest1 (digest2 ++ List.replicate 32 0) = false ∧ ([] : List Byte) ≠ sha256 key1 ∧ (imaged header [] [] fun p => { p with read := true }).a.pw.read = true ∧ (imaged header [] []).a.pw.verified = false ∧ (imaged header [] []).a.pw.ring = true
    ∧ (imaged header [] []).a.on R.IMG_LOCK_STAT F.IMG_LOCK_STAT_LOCKED = false ∧ (imaged header [] []).a.pw.slot = 0 ∧ (imaged header [] []).a.pw.keys = [] := by decide +kernel
/-- Lane A with entries of the register-load list to apply. -/
def loading (es : List (Word × Word)) (f : Pw → Pw := id) (ws : List (Reg × Word) := []) : State := starting (fun p => f { p with mbist := true, verified := true, list := es }) ws fun L => { L with ticks := 200 }
/-- The lane after the write of an entry, as the statement has it. -/
def written (s : State) (rest : List (Word × Word)) (a : Nat) (v : Word) : Lane :=
  let L := s.a
  let K := { L.setF R.IMG_RLCNT F.IMG_RLCNT_CNT (L.fld R.IMG_RLCNT F.IMG_RLCNT_CNT + 1) with pw := { L.pw with list := rest, rlAt := L.ticks } }
  K.busWrite .word a v
theorem witness_register_load : (loading [(0xFFFFFFFC, 1)]).a.pw.rlAt + 200 ≤ (loading []).a.ticks ∧ (loading []).a.pw.waitEnd = none ∧ (loading []).a.pw.verified = true ∧ (loading []).a.laneSt 0 = 1 ∧ (1#32).toNat ≤ 100000 ∧ (100000#32).toNat ≤ 100000 ∧ ¬(1 ≤ (0#32).toNat) ∧ ¬(100001#32).toNat ≤ 100000
    ∧ (loading []).a.on R.IMG_LOCK_STAT F.IMG_LOCK_STAT_LOCKED = false ∧ (0x4011FFFC#32).toNat < 0x40120000 ∧ ¬(0x40120000#32).toNat < 0x40120000 ∧ (0x40000002#32).toNat % 4 ≠ 0
    ∧ (written (loading []) [] 0x4011FFFC 1).busErr = true ∧ (written (loading []) [] R.FIX_CTRL.addr 1).busErr = false ∧ (written (loading []) [] R.FIX_CTRL.addr 1).on R.FIX_CTRL F.FIX_CTRL_EN = true ∧ (written (loading []) [] R.FIX_CTRL.addr 1).on R.FIX_STAT F.FIX_STAT_LISTERR = true
    ∧ (written (loading []) [] R.SAFE_OWNID.addr 5).busErr = false ∧ (written (loading []) [] R.SAFE_OWNID.addr 5).on R.IMG_LOCK_STAT F.IMG_LOCK_STAT_LOCKED = false ∧ (written (loading []) [] R.SAFE_OWNID.addr 5).laneSt 0 = 1 ∧ (written (loading []) [] R.SAFE_OWNID.addr 5).pw.step9 = false
    ∧ (written (loading []) [] R.SAFE_OWNID.addr 5).pw.joining = false ∧ (written (loading []) [] R.SAFE_OWNID.addr 5).me = 0 ∧ (loading [(1, 2)] fun p => { p with waitEnd := some 200 }).a.pw.waitEnd = some 200 ∧ (loading []).a.pw.step9 = false ∧ (loading []).a.pw.joining = false
    ∧ (loading [] (fun p => { p with joining := true }) [(R.FIX_STAT, 7)]).a.laneSt 0 = 7 ∧ (loading [] (fun p => { p with step9 := true }) [(R.FIX_STAT, 2)]).a.laneSt 0 = 2 ∧ (loading [] (fun p => { p with step9 := true }) [(R.FIX_STAT, 2)]).a.laneSt 1 = 0
    ∧ (loading []).a.pw.lone = false ∧ (loading []).a.pw.relAt + 200000000 ≤ 200000000 := by decide +kernel

/-! ### The Binnacle -/

/-- Lane A linked to a Binnacle that is on, with registers and posts, and the Binnacle as given. -/
def bmb (ws : List (Reg × Word)) (g : Lane → Lane := id) (f : Bin → Bin := id) : State := { regs ((R.BMB_CTRL, 7) :: ws) g with bin := f { (default : Bin) with on := true } }
def aPost (k : Nat) (w0 : Word) (w1 : Word := 0) : MPost := ⟨k, [w0, w1, 0, 0, 0, 0, 0, 0], 3, false⟩
theorem witness_posts : (bmb []).Quiet ∧ (bmb []).a.on R.BMB_CTRL F.BMB_CTRL_EN = true ∧ (bmb []).a.on R.BMB_CTRL F.BMB_CTRL_LINK = true ∧ (bmb []).a.posts.length < 16 ∧ State.reset.a.on R.BMB_CTRL F.BMB_CTRL_LINK = false
    ∧ (bmb [(R.PWR_NVMST, 1)]).a.on R.PWR_NVMST F.PWR_NVMST_ACTIVE = true ∧ (bmb [(R.PWR_NVMST, 1)]).a.retained.length < 256 ∧ 256 ≤ (bmb [(R.PWR_NVMST, 1)] fun L => { L with retained := List.replicate 256 default }).a.retained.length
    ∧ (bmb [(R.BMB_STAT, F.BMB_STAT_INPEND.mask)]).a.inOpen = true ∧ (bmb []).a.inOpen = false := meets (by decide +kernel)
/-- A Binnacle that is in no round and does not wait for the join has nothing to go on with. -/
theorem idle_of {s : State} (h : s.bin.round = none ∧ s.bin.updSt ≠ 5) : binWaits s := .inl h
/-- Lane A with a request in its mailbox: its OP and IN1. -/
def asked (op : Nat) (in1 : Word := 0) (ws : List (Reg × Word) := []) (g : Lane → Lane := id) (f : Bin → Bin := id) : State :=
  bmb ([(R.BMB_STAT, F.BMB_STAT_INPEND.mask), (R.BMB_IN 0, w32 (op + 256 * 9)), (R.BMB_IN 1, in1)] ++ ws) g fun b => f { b with reqs := [⟨0, ⟨op, 9, in1, 0, 0, []⟩, .sent⟩] }
/-- A request that waits to be sent to lane A. -/
def requested (op : Nat) (f : Bin → Bin := id) : State := bmb [] id fun b => f { b with sendq := [(0, ⟨op, 255, 1, 2, 3, List.replicate 256 7⟩)] }
theorem witness_request : binWaits (bmb []) ∧ binWaits (requested 0x11) ∧ binWaits (asked 1) ∧ binWaits (asked 0x31) :=
  ⟨idle_of (by decide +kernel), idle_of (by decide +kernel), idle_of (by decide +kernel), idle_of (by decide +kernel)⟩
theorem witness_waiting : (bmb []).a.me = LaneId.A.num ∧ (bmb []).a.on R.BMB_STAT F.BMB_STAT_INPEND = false ∧ (bmb []).bin.sendq = [] ∧ (bmb []).bin.takenReq 0 2 = none ∧ (requested 0x11).bin.sendq.find? (fun x => decide (x.1 = LaneId.A.num)) = some (0, ⟨0x11, 255, 1, 2, 3, List.replicate 256 7⟩)
    ∧ (requested 0x11).bin.on = true ∧ (requested 0x11).a.on R.BMB_CTRL F.BMB_CTRL_LINK = true ∧ (requested 0x11).a.on R.BMB_STAT F.BMB_STAT_INPEND = false ∧ (requested 0x11).bin.reqs = [] ∧ (List.replicate 256 (7 : Word)).length ≤ 256
    ∧ (asked 0x31).a.on R.BMB_STAT F.BMB_STAT_INPEND = true ∧ ((asked 0x31).a.rd (R.BMB_IN 0)).toNat % 256 = 0x31 ∧ (asked 1).a.inTag = 9 ∧ ((asked 1).a.rd (R.BMB_IN 0)).toNat % 256 = 1 ∧ ((asked 3).a.rd (R.BMB_IN 0)).toNat % 256 = 3
    ∧ ((asked 4).a.rd (R.BMB_IN 0)).toNat % 256 = 4 ∧ ((asked 0x20).a.rd (R.BMB_IN 0)).toNat % 256 = 0x20 ∧ ((asked 0x30).a.rd (R.BMB_IN 0)).toNat % 256 = 0x30
    ∧ (asked 1 0 [] fun L => { L with ticks := 20000000 }).a.reqAt + 20000000 ≤ 20000000 ∧ (asked 1).a.ticks < (asked 1).a.reqAt + 20000000 ∧ (asked 1).a.posts.length < 16 ∧ 16 ≤ (asked 1 0 [] fun L => { L with posts := List.replicate 16 default }).a.posts.length
    ∧ (asked 0x30 0 [(R.PWR_SLPST, 0xE)]).a.fld R.PWR_SLPST F.PWR_SLPST_STEP = 6 ∧ (asked 0x30 0 [(R.PWR_SLPST, 0xE)]).a.on R.PWR_SLPST F.PWR_SLPST_RUN = true ∧ (asked 0x30).a.pw.slpAns = none := by decide +kernel
/-- R581: what waits for a lane fills its mailbox, and a lane that accepts STATUS posts a reply with the TAG. -/
theorem test_request_delivery : nextA (.updData .A true) (requested 0x11) (fun M => decide (M.rd (R.BMB_IN 0) = 0x0100FF11) && decide (M.rd (R.BMB_INBUF 255) = 7) && M.on R.BMB_STAT F.BMB_STAT_INPEND) = true := by decide +kernel
theorem test_status : nextA (.status .A) (asked 1) (fun M => decide (M.posts.map (fun p => (p.kind, p.words.getD 0 0)) = [(1, 0x900)])) = true := by decide +kernel

/-- Lane A has posted, with lane B linked or not and the posts that wait at the Binnacle. -/
def posting (p : MPost) (two : Bool) (f : Bin → Bin := id) : State :=
  { bmb [] (fun L => { L with posts := [p] }) f with b := if two = true then State.reset.b.wr R.BMB_CTRL 7 else State.reset.b }
/-- Lane B's copy of a post, that waits or has been acted upon. -/
def copyOf (p : MPost) (acted : Bool) : BPost := ⟨1, p, 0, acted, 0, 0⟩
theorem witness_binnacle_posts : (posting (aPost 0 2) false).bin.round = none ∧ (posting (aPost 0 2) false).bin.updSt ≠ 5 ∧ (bmb []).a.posts = [] ∧ State.reset.a.on R.BMB_CTRL F.BMB_CTRL_LINK = false ∧ (posting (aPost 0 2) false).a.posts = [aPost 0 2] ∧ (posting (aPost 0 2) false).bin.on = true
    ∧ (posting (aPost 0 2) false).linked = [0] ∧ (posting (aPost 2 8) true).linked = [0, 1] ∧ (posting (aPost 0 2) false).bin.sram.length < 8192 ∧ 8192 ≤ (posting (aPost 0 2) false fun b => { b with sram := List.replicate 8192 [] }).bin.sram.length
    ∧ (posting (aPost 2 0x10014) true fun b => { b with posts := [copyOf (aPost 2 0x10014) false] }).bin.posts.find? (fun e => decide ((e.post.kind = 2 ∧ e.post.words = (aPost 2 0x10014).words ∧ 0 ≤ e.ms + 10) ∧ e.acted = false ∧ e.lane ≠ 0)) = some (copyOf (aPost 2 0x10014) false)
    ∧ bitOf ((aPost 2 0x10014).words.getD 0 0) 16 = true ∧ bitOf ((aPost 2 0x10).words.getD 0 0) 16 = false ∧ binListed 0x14 = true ∧ binListed 0x7C = false ∧ (copyOf (aPost 2 8) true).acted = true ∧ (copyOf (aPost 2 8) true).lane ≠ 0
    ∧ ((aPost 3 0x204 0x803E).words.getD 0 0).toNat % 4 ≠ 3 ∧ ((aPost 3 0x204 0x803E).words.getD 0 0).toNat / 65536 = 0 ∧ (0x204 : Nat).testBit 2 = true ∧ (wordsBytes (((aPost 3 0x204 0x803E).words.drop 1).take 6)).take (0x204 / 256 % 256) = [0x3E, 0x80]
    ∧ (wordsBytes (((aPost 3 0x204 0x803F).words.drop 1).take 6)).take (0x204 / 256 % 256) = [0x3F, 0x80] ∧ (posting (aPost 4 0) false fun b => b.setUpd 1 0).bin.updSt = 1 ∧ (posting (aPost 4 0) false).bin.updSt = 0 ∧ (posting (aPost 4 0) false).bin.dropped = 0
    ∧ (posting (aPost 4 0) false fun b => { b with sram := [[0, 0, 0, 0, 0, 0, 0, 0]] }).bin.sram ≠ [] ∧ bLogFail.on ((posting (aPost 4 0) false).bin.rd 4) = false := by decide +kernel
/-- R579: a diagnostic message of a service that is not served is refused with 0x11, through a linked lane. -/
theorem test_service_not_served : (match exec (.binnaclePostReceive .A true) (posting (aPost 3 0x204 0x803F) false) with | .next t => t.bin.sendq.map (fun x => (x.1, x.2.op, x.2.buf)) | _ => []) = [(0, 4, [0x113F7F])] := by decide +kernel
/-- R580: the second of two identical posts of a register write acts; the first alone does not. -/
theorem test_matched_write : (match exec (.binnaclePostReceive .A true) (posting (aPost 2 0x10014 5) true fun b => { b with posts := [copyOf (aPost 2 0x10014 5) false] }) with | .next t => t.bin.rd 0x14 | _ => 0) = 5
    ∧ (match exec (.binnaclePostReceive .A true) (posting (aPost 2 0x10014 5) true) with | .next t => t.bin.rd 0x14 | _ => 0) = 0x003C0E10 := by decide +kernel

/-- A record of the log, with its time. -/
def rec1 (ms : Word) : List Word := closeRec [0x302, ms, 0, 0, 0, 0, 0]
theorem witness_log : (binOn fun b => { b with ms := 1000, sram := [rec1 0] }).bin.sram ≠ [] ∧ (((binOn fun b => { b with ms := 1000, sram := [rec1 0] }).bin.sram.headD []).getD 1 0).toNat + 1000 ≤ 1000 ∧ 8 - (binOn fun b => b.wr 8 127).bin.logwp % 8 ≤ [rec1 0].length
    ∧ (binOn fun b => b.wr 8 127).bin.logwp % 128 ≠ 0 ∧ (binOn fun b => b.wr 8 128).bin.logwp % 128 = 0 ∧ (binOn fun b => b.wr 8 128).bin.logwp + 8 < 2 ^ 32 ∧ (rec1 0).length = 8 ∧ (binOn).bin.updSt = 0 ∧ (binOn fun b => b.setUpd 1 0).bin.updSt = 1 ∧ State.reset.bin.on = false ∧ (binOn).bin.on = true
    ∧ (binOn).bin.dropped = 0 ∧ 0 < (binOn fun b => { b with dropped := 3 }).bin.dropped ∧ (binOn).bin.sram.length < 8192 ∧ (binOn).bin.round = none ∧ ((binOn).bin.rd 0x14).toNat % 65536 ≠ 0 ∧ ((binOn).bin.rd 0x14).toNat / 65536 ≠ 0
    ∧ ((binOn fun b => b.wr 0x14 0).bin.rd 0x14).toNat = 0 ∧ (binOn fun b => { b with sens := { b.sens with hot := some (3, 250) } }).bin.sens.hot = some (3, 250) := by decide +kernel
/-- R585: the record after the last of a sector begins the next one at its own place. -/
theorem test_log_page : (match exec (.logPageProgram true) (binOn fun b => { b.wr 8 127 with sram := [rec1 0] }) with | .next t => (t.bin.logwp, t.bin.flashByte (32 * 127), t.bin.flashByte (32 * 127 + 1), t.bin.sram.length) | _ => default) = (128, 2, 3, 0) := by decide +kernel
/-- R586: the temperatures show in their registers, sign and all. -/
theorem test_temps : (match exec (.binnacleSensorSample (.temps [-5, 250])) (binOn) with | .next t => (t.bin.rd 0x20, t.bin.rd 0x24, t.bin.sens.hot) | _ => default) = (0xFFFB, 250, some (1, 250)) := by decide +kernel

/-- Lane A split, with a request in its mailbox. -/
def splitAsked (op : Nat) (in1 : Word := 0) (ws : List (Reg × Word) := []) (g : Lane → Lane := id) : State := asked op in1 ([(R.FIX_STAT, 7), (R.FIX_SPLIT, 0x20)] ++ ws) g
theorem witness_updates : binWaits (asked 0x10) ∧ binWaits (splitAsked 0x11) := ⟨idle_of (by decide +kernel), idle_of (by decide +kernel)⟩
/-- Every request of an OP has been answered, with the results given, in a round that waited for it. -/
def answered (op : Nat) (cs : List Nat) (ws : List Word := []) (f : Bin → Bin := id) : State :=
  bmb [(R.FIX_STAT, 3)] id fun b => f { b with round := some op, reqs := cs.zipIdx.map fun x => ⟨x.2, ⟨op, 9, 0, 0, 0, []⟩, .ended x.1 ws⟩ }
/-- The words of STATUS in Harbour at a standstill, in the undegraded mode. -/
def fineStatus : List Word := [1, F.FIX_DGSTAT_STILL.mask, 0, 0, 5, 6, 0]
/-- R133: the split request is a posted word like another, and one that is still owed or already posted is posted no more. -/
theorem witness_split_posts : (asked 0x10 0 [(R.FIX_STAT, 3)]).a.ck.dec = [] ∧ (asked 0x10).a.ck.owe.contains (0, splitWord) = false ∧ (asked 0x10 0 [(R.FIX_STAT, 3)]).a.ck.dec.length < 16
    ∧ (splitAsked 0x11 0 [(R.PWR_NVMST, 1)]).a.on R.PWR_NVMST F.PWR_NVMST_ACTIVE = true ∧ (splitAsked 0x11).a.on R.PWR_NVMST F.PWR_NVMST_ACTIVE = false
    ∧ (bmb [(R.FIX_SPLIT, 0x40)] id fun b => { b with reqs := [⟨0, ⟨0x10, 9, 0, 0, 0, []⟩, .taken⟩] }).a.fld R.FIX_SPLIT F.FIX_SPLIT_SSTATE = 0 := by decide +kernel
theorem witness_update_rows : (asked 0x10 0 [(R.FIX_STAT, 3)]).a.laneSt 0 = 3 ∧ (asked 0x10).a.fld R.FIX_SPLIT F.FIX_SPLIT_SSTATE = 0 ∧ (asked 0x10).a.laneSt 0 ≠ 3 ∧ (asked 0x10).bin.takenReq 0 0x10 = none
    ∧ (bmb [(R.FIX_SPLIT, 0x20)] id fun b => { b with reqs := [⟨0, ⟨0x10, 9, 0, 0, 0, []⟩, .taken⟩] }).bin.takenReq LaneId.A.num 0x10 = some ⟨0x10, 9, 0, 0, 0, []⟩ ∧ (bmb [(R.FIX_SPLIT, 0x20)]).a.fld R.FIX_SPLIT F.FIX_SPLIT_SSTATE = 2 ∧ (bmb [(R.FIX_SPLIT, 0x10)]).a.fld R.FIX_SPLIT F.FIX_SPLIT_SSTATE = 1
    ∧ (splitAsked 0x11).a.laneSt 0 = 7 ∧ (splitAsked 0x11).a.fld R.FIX_SPLIT F.FIX_SPLIT_SSTATE = 2 ∧ (splitAsked 0x11 0x3FFC00).a.rd (R.BMB_IN 1) = 0x3FFC00 ∧ (0x3FFC00#32).toNat + 1024 ≤ 0x400000 ∧ ¬(0x3FFC01#32).toNat + 1024 ≤ 0x400000
    ∧ ((splitAsked 0x12).a.rd (R.BMB_IN 0)).toNat % 256 = 0x12 ∧ ((splitAsked 0x14).a.rd (R.BMB_IN 0)).toNat % 256 = 0x14 ∧ ((splitAsked 0x13 0 [(R.LANE_ID_LANE, 3)]).a.rd (R.BMB_IN 0)).toNat % 256 = 0x13 ∧ (splitAsked 0x13).a.fld R.LANE_ID_LANE F.LANE_ID_LANE_LETTER < 4
    ∧ (splitAsked 0x13).a.slotRecCopy = none ∧ (splitAsked 0x12).a.pw.slot = 0 := by decide +kernel
/-- R593: the commit writes the slot record with the other slot, and the lane joins. -/
theorem test_commit : nextA (.updCommit .A true) (splitAsked 0x13) (fun M => decide (M.slotRecCopy ≠ none) && M.pw.joining && decide (M.posts.map (fun p => p.words.getD 0 0) = [0x900])) = true := by decide +kernel

theorem witness_rounds : (answered 0x10 [0, 0]).bin.msgs = [] ∧ (answered 0x10 [0, 0]).bin.round = some 0x10 ∧ (answered 0x10 [0, 0]).bin.sendq = [] ∧ (answered 0x10 [0, 0]).bin.reqs.map (fun e => decide (e.st = .ended 0 [])) = [true, true]
    ∧ (answered 0x11 [0, 2]).bin.reqs.map (fun e => decide (e.st = .ended 2 [])) = [false, true] ∧ (answered 0x12 [0xFF]).bin.reqs.map (fun e => decide (e.st = .ended 0xFF [])) = [true] ∧ (answered 0x11 [0] [] fun b => { b with imgLen := 897 }).bin.sentW = 0
    ∧ 4 * (0 + 256) < 897 + 128 ∧ (896 : Nat) + 128 ≤ 4 * (0 + 256) ∧ (bmb [(R.FIX_STAT, 3)] id fun b => b.setUpd 5 0).bin.updSt = 5 ∧ (bmb [(R.FIX_STAT, 3)] id fun b => b.setUpd 5 0).a.mySt = 3 ∧ (bmb [(R.FIX_STAT, 3)] id fun b => b.setUpd 5 0).b.mySt ≠ 7
    ∧ (answered 1 [0] fineStatus).bin.progWait = none ∧ (answered 1 [0] fineStatus).bin.sram.length < 8192 ∧ ((answered 1 [0] fineStatus fun b => { b with progWait := some 2 }).bin.progWait, (answered 1 [0] fineStatus).bin.updSt) = (some 2, 0)
    ∧ (fineStatus.getD 0 0).toNat % 4 = 1 ∧ F.FIX_DGSTAT_STILL.on (fineStatus.getD 1 0) = true ∧ F.FIX_DGSTAT_DMODE.get (fineStatus.getD 1 0) = 0
    ∧ (answered 1 [0] fineStatus).bin.reqs.find? (fun e => decide (e.req.op = 1) && (match e.st with | .ended c _ => decide (c = 0) | _ => false)) = some ⟨0, ⟨1, 9, 0, 0, 0, []⟩, .ended 0 fineStatus⟩
    ∧ (answered 1 [1] fineStatus fun b => { b with progWait := some 2 }).bin.reqs.map (fun e => decide (e.st = .ended 0 fineStatus)) = [false] := by decide +kernel
/-- A round that waits for a lane. -/
theorem witness_round_waits : binWaits (bmb [] id fun b => { b with round := some 1, sendq := [(0, ⟨1, 0, 0, 0, 0, []⟩)] }) := .inr ⟨1, rfl, .inl ⟨(0, ⟨1, 0, 0, 0, 0, []⟩), List.Mem.head _, rfl⟩⟩
/-- R591, steps 6 and 8: the rounds follow each other with the state they show, and a refused block ends the update with UPD_ABORT. -/
theorem test_rounds : (match exec .testerPresent (answered 0x12 [0]) with | .next t => (t.bin.updSt, t.bin.round, t.bin.sendq.map (·.2.op)) | _ => default) = (5, some 0x13, [0x13])
    ∧ (match exec .testerPresent (answered 0x11 [0, 2]) with | .next t => (t.bin.updSt, bUpCause.get (t.bin.rd 0x74), t.bin.round, t.bin.sendq.map (·.2.op)) | _ => default) = (7, 5, none, [0x14]) := by decide +kernel

/-- The Binnacle with a message of port 1 to serve. -/
def told (bs : List Byte) (f : Bin → Bin := id) : State := bmb [] id fun b => f { b with msgs := [(1, bs)] }
theorem witness_served (bs : List Byte) : binWaits (told bs) := idle_of ⟨rfl, (by decide +kernel : (told []).bin.updSt ≠ 5)⟩
theorem witness_sessions : (told [0x10, 3]).bin.msgs = [(1, [0x10, 3])] ∧ (told [0x10, 3]).bin.on = true ∧ (told [0x10, 3]).bin.round = none ∧ ¬(2 ≤ (told [0x10, 3]).bin.updSt ∧ (told [0x10, 3]).bin.updSt ≤ 5) ∧ (told [] fun b => b.setUpd 4 0).bin.updSt = 4 ∧ (told [] fun b => b.setUpd 1 0).bin.updSt = 1
    ∧ (told []).bin.session = 0 ∧ (told []).bin.delay = none ∧ (told [] fun b => { b with session := 2, seed := some [1], auth := [1] }).bin.session ≠ 0 ∧ (told [] fun b => { b with delay := some 5 }).bin.delay.isSome = true ∧ (told []).bin.authBlocked = false
    ∧ (told [] fun b => { b with auth := [1] }).bin.auth ≠ [] ∧ (0x12 : Nat) ∉ [1, 2, 3] ∧ 256 * 0xF1 + 0x8C = 0xF18C ∧ (told []).bin.wrong ≠ 2 ∧ (told [] fun b => { b with session := 3, lastReq := 7, ms := 5007 }).bin.lastReq + 5000 ≤ 5007
    ∧ (told [] fun b => { b with delay := some 7, ms := 10007 }).bin.ms = 7 + 10000 ∧ (10006 : Nat) < 7 + 10000 ∧ ([0x27, 0x12] ++ List.replicate 16 (0 : Byte)).length = 18 ∧ (told []).bin.tag < 256 := by decide +kernel
/-- R590: the key of a seed unlocks; the third wrong one starts the delay. -/
theorem test_key : (match exec .securityAccessKey (told ([0x27, 0x12] ++ (hmac256 [1] [2]).take 16) fun b => { b with session := 2, seed := some [2], auth := [1] }) with | .next t => (t.bin.unlocked, t.bin.sendq.map (·.2.buf)) | _ => default) = (true, [[0x1267]])
    ∧ (match exec .securityAccessKey (told ([0x27, 0x12] ++ List.replicate 16 0) fun b => { b with session := 2, seed := some [2], auth := [1], wrong := 2, ms := 9 }) with | .next t => (t.bin.unlocked, t.bin.delay, t.bin.sendq.map (·.2.buf)) | _ => default) = (false, some 9, [[0x35277F]]) := by decide +kernel

/-- A session with what the transfers need. -/
def xferring (bs : List Byte) (ses : Nat) (x : Option Xfer := none) (f : Bin → Bin := id) : State := told bs fun b => f { b with session := ses, unlocked := true, xfer := x }
/-- The first 64 bytes of an image with the length given. -/
def firstBlock (n : Nat) : List Byte := (wordsBytes ((header.set 2 (w32 n)).take 16))
theorem witness_transfers : (xferring [0x34, 0, 0x40, 0, 0x40, 0, 0] 2).bin.unlocked = true ∧ ([0x34, 0, 0x40, 0, 0x40, 0, 0] : List Byte).length = 3 + 0 + 4 ∧ beNat ([0, 0x40, 0, 0] : List Byte) = 0x400000 ∧ beNat ([1, 0xC0] : List Byte) = 0x1C0 ∧ beNat ([1, 0xBF] : List Byte) < 0x1C0
    ∧ 0x400000 < beNat ([0, 0x40, 0, 1] : List Byte) ∧ (xferring [] 3 none fun b => b.wr 8 4).bin.logwp = 4 ∧ (xferring [] 3).bin.logold = 0 ∧ 0 + 128 / 32 ≤ 4 ∧ (xferring [] 2 (some ⟨true, 0, 0x1C0, 0, 0⟩)).bin.xfer = some ⟨true, 0, 0x1C0, 0, 0⟩
    ∧ (List.replicate 1026 (0 : Byte)).length ≤ 1026 ∧ ¬(List.replicate 1027 (0 : Byte)).length ≤ 1026 ∧ (1 : Nat) = (0 + 1) % 256 ∧ (0 : Nat) = (255 + 1) % 256 ∧ (firstBlock 0x140).length = 64
    ∧ (let word : Nat → Word := fun o => w32 (leNat ((firstBlock 0x140).drop o |>.take 4))
      word 0 = 0x4D454459 ∧ word 4 = 0x01400001 ∧ (word 8).toNat = 0x140 ∧ (word 0x14).toNat % 65536 = 0x7340 ∧ bitOf (word 0x14) 16 = true ∧ (word 8).toNat + 128 = 0x1C0) ∧ (xferring [] 2).bin.fld 0 ⟨16, 4⟩ = 0 ∧ (0x1C0 : Nat) < 0x180 + 0x41 := by decide +kernel
/-- What is staged, in the log flash: an image, its signature block, and the hash of its key in slot 0. -/
def stagedIn (ws : List Word) (key digest : List Byte) : State :=
  xferring [0x37] 2 (some ⟨true, 0, 448, 448, 1⟩) fun b => { (b.stageBytes 0 (wordsBytes ws ++ (key ++ digest ++ digest))) with imgLen := 320, keys := [sha256 key] }
theorem stage_byte (bs : List Byte) : ∀ (b : Bin) (i x : Nat), b.stage = 0 → i + bs.length ≤ 0x1000000 → x < 0x1000000 →
    (b.stageBytes i bs).stagedByte x = if i ≤ x ∧ x < i + bs.length then bs.getD (x - i) 0xFF else b.stagedByte x := by
  induction bs with
  | nil => intro b i x _ _ _; rw [if_neg (by simp)]; rfl
  | cons y t ih =>
    intro b i x hb hl hx
    simp only [List.length_cons] at hl ⊢
    show (Bin.stageBytes { b with flash := put b.flash (b.stageAt i) y 0xFF#8 } (i + 1) t).stagedByte x = _
    rw [ih { b with flash := put b.flash (b.stageAt i) y 0xFF#8 } (i + 1) x hb (by omega) hx]
    have hi : b.stageAt i = i := by simp only [Bin.stageAt, hb]; omega
    have e : ({ b with flash := put b.flash (b.stageAt i) y 0xFF#8 } : Bin).stagedByte x = if x = i then y else b.stagedByte x := by
      have hs : b.stageAt x = x := by simp only [Bin.stageAt, hb]; omega
      show look (put b.flash (b.stageAt i) y 0xFF#8) (b.stageAt x) 0xFF#8 = if x = i then y else look b.flash (b.stageAt x) 0xFF#8
      rw [hi, hs]
      split
      · rename_i h; rw [h]; exact look_put_same _ _ _ _
      · rename_i h; exact look_put_other _ _ _ _ h
    rw [e]
    by_cases h : x = i
    · subst h; simp
    · by_cases h' : i + 1 ≤ x ∧ x < i + 1 + t.length
      · obtain ⟨n, rfl⟩ : ∃ n, x = i + 1 + n := ⟨x - (i + 1), by omega⟩
        rw [if_pos h', if_pos (by omega)]
        simp [show i + 1 + n - i = n + 1 by omega]
      · rw [if_neg h', if_neg h, if_neg (by omega)]
theorem staged_keeps (bs : List Byte) : ∀ (b : Bin) (i : Nat), (b.stageBytes i bs).xfer = b.xfer ∧ (b.stageBytes i bs).regs = b.regs := by
  induction bs with
  | nil => exact fun _ _ => ⟨rfl, rfl⟩
  | cons y t ih => exact fun b i => ih _ _
theorem staged_byte (ws : List Word) (key digest : List Byte) (x : Nat) (h : (wordsBytes ws ++ (key ++ digest ++ digest)).length ≤ 0x1000000) (hx : x < 0x1000000) :
    (stagedIn ws key digest).bin.stagedByte x = (wordsBytes ws ++ (key ++ digest ++ digest)).getD x 0xFF := by
  have e := stage_byte (wordsBytes ws ++ (key ++ digest ++ digest)) (xferring [0x37] 2 (some ⟨true, 0, 448, 448, 1⟩)).bin 0 x rfl (by omega) hx
  refine Eq.trans ?_ (e.trans ?_)
  · rfl
  · split
    · rfl
    · rw [List.getD_eq_default _ _ (by omega)]; rfl
theorem staged_xfer (ws : List Word) (key digest : List Byte) : (stagedIn ws key digest).bin.xfer = some ⟨true, 0, 448, 448, 1⟩ := (staged_keeps (wordsBytes ws ++ (key ++ digest ++ digest)) (xferring [0x37] 2 (some ⟨true, 0, 448, 448, 1⟩)).bin 0).1
/-- RequestTransferExit finds the image and the signature that key1 has made for it. -/
theorem witness_staged_image :
    let B := (stagedIn (image 1 1) key1 digest1).bin
    B.imgLen = 320 ∧ B.xfer = some ⟨true, 0, 448, 448, 1⟩ ∧ sha256 (B.stagedBytes B.imgLen) = digest1 ∧ (List.range 128).map (fun j => B.stagedByte (B.imgLen + j)) = key1 ++ digest1 ++ digest1
      ∧ sigCause [sha256 key1] 0 (key1 ++ digest1 ++ digest1) digest1 = 0 ∧ sigCause [] 0 (key1 ++ digest1 ++ digest1) digest1 ≠ 0 := by
  have hl : (wordsBytes (image 1 1)).length = 320 ∧ (key1 ++ digest1 ++ digest1).length = 128 := by decide +kernel
  have hn : (stagedIn (image 1 1) key1 digest1).bin.imgLen = 320 := rfl
  have hb : ∀ x, x < 448 → (stagedIn (image 1 1) key1 digest1).bin.stagedByte x = (wordsBytes (image 1 1) ++ (key1 ++ digest1 ++ digest1)).getD x 0xFF :=
    fun x hx => staged_byte _ _ _ x (by rw [List.length_append]; omega) (by omega)
  refine ⟨hn, staged_xfer _ _ _, ?_, ?_, by decide +kernel, by decide +kernel⟩
  · rw [hn, Bin.stagedBytes, List.map_congr_left (g := fun i => (wordsBytes (image 1 1) ++ (key1 ++ digest1 ++ digest1)).getD (0 + i) 0xFF#8) fun i hi => by
      rw [List.mem_range] at hi; rw [Nat.zero_add]; exact hb i (by omega), read_block _ _ _ (by rw [List.length_append]; omega), List.drop_zero, List.take_append_of_le_length (by omega), List.take_of_length_le (by omega)]
    exact digest_of_1
  · rw [hn, List.map_congr_left (g := fun i => (wordsBytes (image 1 1) ++ (key1 ++ digest1 ++ digest1)).getD (320 + i) 0xFF#8) fun i hi => by
      rw [List.mem_range] at hi; exact hb _ (by omega), read_block _ _ _ (by rw [List.length_append]; omega), List.drop_append_of_le_length (by omega), List.drop_of_length_le (by omega), List.nil_append, List.take_of_length_le (by omega)]
/-- R591, step 4: a first block without a header that meets R552 ends the download with cause 3. -/
theorem test_bad_header : (match exec .transferData (xferring [0x36, 1, 5] 2 (some ⟨true, 0, 0x1C0, 0, 0⟩)) with | .next t => (t.bin.updSt, bUpCause.get (t.bin.rd 0x74), t.bin.xfer, t.bin.sendq.map (·.2.buf)) | _ => default) = (7, 3, none, [[0x72367F]]) := by decide +kernel
/-- R585: records leave as they are stored, and one whose CRC is wrong is counted. -/
theorem test_upload : (match exec .transferData (xferring [0x36, 1] 3 (some ⟨false, 0, 64, 0, 0⟩) fun b => b.flashBytes 0 (wordsBytes (rec1 7))) with
    | .next t => (t.bin.rd 0x10, t.bin.xfer, t.bin.sendq.map (fun x => (x.2.in2, x.2.buf.take 3))) | _ => default) = (0x10000, some ⟨false, 0, 64, 64, 1⟩, [(66, [0x03020176, 0x00070000, 0])]) := by decide +kernel
theorem witness_routines : routine [0x31, 1, 0xFF, 1] = 0xFF01 ∧ routine [0x31, 1, 0xFF, 2, 3] = 0xFF02 ∧ routine [0x31, 1, 0xFF, 3] ≠ 0xFF01 ∧ ([0x31, 1, 0xFF, 1] : List Byte).length = 4 ∧ ([0x31, 1, 0xFF] : List Byte).length < 4 ∧ ([0x31, 1, 0xFF, 2, 3] : List Byte).length = 5
    ∧ (xferring [0x31, 1, 0xFF, 1] 2 none fun b => { b with staged := true }).bin.staged = true ∧ (told []).bin.session ≠ 2 ∧ (told [] fun b => { b with session := 2 }).bin.unlocked = false
    ∧ bitOf ((xferring [] 2 none fun b => b.wr 0x70 9).bin.rd 0x70) 3 = true ∧ bitOf ((xferring [] 2 none fun b => b.wr 0x70 9).bin.rd 0x70) 7 = false ∧ bitOf ((xferring [] 2 none fun b => b.wr 0x70 9).bin.rd 0x70) 0 = true ∧ (xferring [] 2).bin.stat = [] := by decide +kernel
/-- R595: a slot that may be revoked is, and the lanes are asked. -/
theorem test_revoke : (match exec .revokeKeySlot (xferring [0x31, 1, 0xFF, 2, 3] 2 none fun b => b.wr 0x70 9) with | .next t => (t.bin.rd 0x70, t.bin.sendq.map (fun x => (x.2.op, x.2.in1))) | _ => default) = (0x89, [(0x20, 3), (4, 1)]) := by decide +kernel

theorem witness_test_access : State.reset.bin.on = false ∧ (binOn).bin.on = true ∧ bDry.on ((binOn).bin.rd 4) = false ∧ bDry.on ((binOn fun b => b.wr 4 1).bin.rd 4) = true ∧ bDbg.on ((binOn fun b => b.wr 4 4).bin.rd 4) = true ∧ (0x20 : Nat) ∈ [0x00, 0x01, 0x02, 0x10, 0x20] ∧ (0x21 : Nat) ∉ [0x00, 0x01, 0x02, 0x10, 0x20]
    ∧ (binOn).bin.fld 0 ⟨16, 4⟩ = 0 ∧ (binOn fun b => b.wr 0 0x17340).bin.fld 0 ⟨16, 4⟩ = 1 ∧ (0xFFFFC#32).toNat % 4 = 0 ∧ (0xFFFFC#32).toNat < 0x100000 ∧ State.reset.a.bankOut 0xFFFFC = false ∧ (binOn).bin.dbgSeed = none
    ∧ (binOn fun b => { b with dbgSeed := some [1], auth := [2] }).bin.dbgSeed = some [1] ∧ (binOn fun b => { b with auth := [2] }).bin.auth ≠ [] ∧ (binOn).bin.authBlocked = false ∧ (binOn).bin.sram.length < 8192 := by decide +kernel
/-- R605: the key that answers the seed opens the debug link of a device in Field. -/
theorem test_debug_authenticate : (match exec (.debugAuthenticate (some ((hmac256 [2] [1]).take 16))) (binOn fun b => { b with dbgSeed := some [1], auth := [2] }) with | .next t => (t.bin.rd 4, t.bin.dbgSeed) | _ => default) = (4, none) := by decide +kernel
/-- R27, R606: SCANREQ in Dry dock clears the memories and starts the device afresh from a wake. -/
theorem test_scanreq : (match exec .scanreq { binOn (fun b => { b.wr 4 1 with auth := [2] }) with a := { State.reset.a.setByte 5 5 with pw := { State.reset.a.pw with on := true } } } with
    | .next t => (t.bin.rd 4, t.bin.auth, t.a.byte 5, t.a.pw.on, t.keep.wakes, t.bin.sram.length) | _ => default) = (3, [], 0, false, 1, 1) := by decide +kernel

/-- Lane A with its runtime soundings on. -/
def sounding (st : Word) (f : Snd → Snd := id) (ws : List (Reg × Word) := []) (g : Bin → Bin := id) : State := bmb ([(R.SND_CTRL, 1), (R.FIX_STAT, 3), (R.SND_STAT, st)] ++ ws) (fun L => { L with ticks := 70000, snd := f L.snd }) g
theorem witness_soundings : (sounding 0).Quiet ∧ (sounding 0 id [(R.PWR_MODE, 1)]).a.base = 1 ∧ (sounding 0).a.base ≠ 1 ∧ F.BMB_KEYREV_SLOT.get 3 ≠ (sounding 0).a.fld R.IMG_KEY F.IMG_KEY_USED ∧ F.BMB_KEYREV_SLOT.get 0 = (sounding 0).a.fld R.IMG_KEY F.IMG_KEY_USED
    ∧ F.SND_REQ_ABORT.on F.SND_REQ_GO.mask = false ∧ F.SND_REQ_GO.on F.SND_REQ_ABORT.mask = false ∧ (sounding 0).a.sndCause 0x20000000 = 0 ∧ (sounding 0).a.sndCause 0x40000000 = 3 ∧ (sounding 1).a.on R.SND_STAT F.SND_STAT_BUSY = true
    ∧ (sounding (F.SND_STAT_PHASE.set 1 1)).a.fld R.SND_STAT F.SND_STAT_PHASE = 1 ∧ (sounding (F.SND_STAT_PHASE.set 1 2)).a.fld R.SND_STAT F.SND_STAT_PHASE = 2 ∧ (sounding 0 fun d => { d with doneAt := 70001 }).a.snd.doneAt = (sounding 0).a.ticks + 1 := meets (by decide +kernel)
theorem witness_runtime_soundings : binWaits (sounding 0) ∧ binWaits (asked 2 0x20000000) := ⟨idle_of (by decide +kernel), idle_of (by decide +kernel)⟩
theorem witness_sounding_rows : ((sounding 0).bin.rd 0x18).toNat % 65536 ≠ 0 ∧ (sounding 0).linked = [0] ∧ (sounding 0).bin.sndWait = none ∧ (sounding 0).bin.sndLane = 0 ∧ (sounding 0).a.nextRegion 719 = some 719 ∧ State.reset.linked = [] ∧ ((asked 2 0x20000000).a.rd (R.BMB_IN 0)).toNat % 256 = 2
    ∧ (sounding 0 id [] fun b => { b with reqs := [⟨0, ⟨2, 9, 0, 0, 0, []⟩, .taken⟩] }).bin.takenReq LaneId.A.num 2 = some ⟨2, 9, 0, 0, 0, []⟩ ∧ (sounding 0).bin.round = none ∧ (sounding 0).bin.updSt ≠ 5 ∧ (sounding 0).a.posts.length < 15 ∧ (sounding 0).a.on R.PWR_NVMST F.PWR_NVMST_ACTIVE = false
    ∧ ([(1023, 38), (1024, 0), (0, 39)] : List (Nat × Nat)).filter (fun f => decide (f.1 < 1024) && decide (f.2 < 39)) = [(1023, 38)] ∧ memBank 0x2000F000 = some 8 ∧ (0x2000F000 : Nat) % 4096 = 0
    ∧ (sounding (F.SND_STAT_PHASE.set 1 3)).a.fld R.SND_STAT F.SND_STAT_PHASE = 3 ∧ rowOf 0x2001FFFC = 511 ∧ (sounding 0 id [(R.SND_CTRL, 5)]).a.on R.SND_CTRL F.SND_CTRL_AUTOREP = true ∧ 0 < 8 - (sounding 0).a.snd.spares.at 8 := by decide +kernel
/-- R601, R602: the failing word shows by its address, bit, row and bank, and its row takes a spare. -/
theorem test_sounding_fail : nextA (.soundingTestDone .A [(1023, 38)]) (sounding (F.SND_STAT_PHASE.set 1 2) fun d => { d with base := 0x2001F000 }) (fun M => decide (M.rd R.SND_FADDR = 0x2001FFFC) && decide (M.fld R.SND_FBIT F.SND_FBIT_ROW = 511) && decide (M.fld R.SND_FBIT F.SND_FBIT_BANK = 8)) = true
    ∧ nextA (.soundingRestoreDone .A) (sounding (F.SND_STAT_PHASE.set 1 3) (fun d => { d with base := 0x2001F000, fails := [(0x2001FFFC, 38)] }) [(R.SND_CTRL, 5)]) (fun M => M.on R.SND_STAT F.SND_STAT_REPAIRED && decide (M.snd.spares.at 8 = 1) && decide (M.fld R.SND_TIME F.SND_TIME_TIME = 65535)) = true := by
  decide +kernel

/-! ### Invariants -/

theorem reset_placed : State.reset.Placed := by intro k; cases k <;> rfl
theorem witness_keep_stays_legal : keepLegal State.reset ∧ step { State.reset with pending := [.postMatchTimeout .A] } = .next State.reset := by
  constructor
  · exact ⟨by decide, by decide, by decide, rfl, rfl, rfl⟩
  · rfl
theorem reset_canonical : State.reset.Canonical := ⟨by intro k; cases k <;> rfl, rfl⟩
theorem witness_stores_stay_canonical : State.reset.Canonical ∧ State.reset.Placed ∧ step State.reset = .next State.reset := ⟨reset_canonical, reset_placed, rfl⟩

end Sys2Proof.Tests
end

section
/-! SUPPORT. Facts about register accesses that the statements on the bus share. -/

namespace Sys2Proof.Machine

/-- Every row of the access table lies in the windows of the blocks (R39). -/
theorem regRow_window {a : Nat} {row : RegRow} (h : regRow a = some row) : 0x40000000 ≤ a := by
  have hb : ∀ r ∈ regRows, 0x40000000 ≤ r.base := by decide +kernel
  unfold regRow at h
  split at h
  · next hc =>
    simp only [inCapList, Bool.and_eq_true, decide_eq_true_eq] at hc
    omega
  · have hc := List.find?_some h
    simp only [RegRow.covers, Bool.and_eq_true, decide_eq_true_eq] at hc
    obtain ⟨⟨⟨hbase, -⟩, -⟩, -⟩ := hc
    exact (hb row (List.mem_of_find?_eq_some h)).trans hbase

/-- No memory bank lies in the windows of the blocks, so that none can be out of service there. -/
theorem Lane.bankOut_reg (L : Lane) {a : Nat} (ha : 0x40000000 ≤ a) : L.bankOut a = false := by simp [Lane.bankOut, memBank_reg ha]

/-- A word written to a register's address is the write of that register. -/
theorem exec_registerWrite_reg (l : LaneId) (r : Reg) (v : Word) (s : State) (h : r.addr < 2 ^ 32) :
    exec (.registerWrite l .word (w32 r.addr) v) s = s.write l r v := by
  have ha : (w32 r.addr).toNat = r.addr := by rw [w32, BitVec.toNat_ofNat, Nat.mod_eq_of_lt h]
  show execRegisterWrite l .word (w32 r.addr) v s = _
  rw [execRegisterWrite, State.write, ha]

end Sys2Proof.Machine
end

section
/-! SUPPORT. Words written to the IRQ block and to data RAM (R16, R17, R38, R42). -/

namespace Sys2Proof.Machine

/-! ### Register writes as the lane performs them -/

/-- A register that takes every value of its writable bits, and has no flag to clear, stores them and keeps the others (R16, R17). -/
theorem Reg.stored_plain {L : Lane} {row : RegRow} {r : Reg} (v : Word) (hs : storeSpecial r.addr = false) (hc : row.w1c = 0)
    (hr : r.rst = w32 row.reset) : Reg.stored L row r.addr v = L.taken r (w32 (row.rw ||| row.rwl)) v := by
  have hz : ~~~(v &&& w32 0 &&& ~~~(w32 (L.setNow.at r.addr))) = BitVec.allOnes 32 := by
    rw [show w32 0 = 0#32 from rfl, BitVec.and_zero, BitVec.zero_and, BitVec.not_zero]
  rw [Reg.stored, storedAs_plain v hs, hc, hz, BitVec.and_allOnes, ← hr]
  rfl

/-- A bit of a register after a write of the bits of a mask. -/
theorem Lane.getLsbD_taken (L : Lane) (r : Reg) (m v : Word) (i : Nat) :
    (L.taken r m v).getLsbD i = if m.getLsbD i then v.getLsbD i else (L.rd r).getLsbD i := by
  by_cases hi : i < 32
  · simp only [Lane.taken, BitVec.getLsbD_or, BitVec.getLsbD_and, BitVec.getLsbD_not, hi, decide_true, Bool.true_and]
    cases m.getLsbD i <;> simp
  · simp [BitVec.getLsbD_of_ge _ i (Nat.not_lt.mp hi)]

/-- A register all of whose bits are written holds the value written. -/
theorem Lane.taken_all (L : Lane) (r : Reg) (v : Word) : L.taken r (w32 0xFFFFFFFF) v = v := by
  have hm : w32 0xFFFFFFFF = BitVec.allOnes 32 := rfl
  rw [Lane.taken, hm, BitVec.not_allOnes, BitVec.and_zero, BitVec.zero_or, BitVec.and_allOnes]

/-- A field that the mask covers shows what has been written. -/
theorem Lane.get_taken (L : Lane) (r : Reg) {m : Word} (v : Word) {f : Bf} (h : ∀ i, i < f.wid → m.getLsbD (f.lo + i) = true) :
    f.get (L.taken r m v) = f.get v := by
  apply Nat.eq_of_testBit_eq
  intro i
  rw [Bf.testBit_get, Bf.testBit_get, Lane.getLsbD_taken]
  by_cases hi : i < f.wid
  · rw [if_pos (h i hi)]
  · simp [hi]

/-! ### Registers of the IRQ block (R41, R42) -/

/-- A write to a register of the IRQ block is neither locked nor refused: its bits are stored, and the block acts on it. -/
theorem Lane.busWrite_irq (L : Lane) {a : Nat} {row : RegRow} (v : Word) (hw : a / 0x10000 = 0x4010) (hr : regRow a = some row) (hl : row.rwl = 0) :
    L.busWrite .word a v = (L.storedIn row a v).written ((L.busEnd L.rdata false a).signW a v) a v := by
  have hx : grpOf a (R.AX_CFG 0) 0x1000 12 = none := by
    rw [grpOf, if_neg (by simp only [R.AX_CFG]; omega)]
  have hc : idxOf a (R.RKN_WP_CMP 0) 0x20 128 = none := by
    rw [idxOf, if_neg (by simp only [R.RKN_WP_CMP]; omega)]
  exact Lane.busWrite_row (by omega) hr (L.absentReg_other (by omega) (by omega)) (.inl hl) (Lane.refusal_rw _ v hx hl) hc

/-- The IRQ block does nothing more on a write to a register without an effect of its own. -/
theorem Lane.written_irq_plain (L old : Lane) {a : Nat} (v : Word) (hw : a / 0x10000 = 0x4010) (hl : (idxOf a (R.IRQ_LVL 0) 4 32).isSome = false)
    (hc : a ≠ R.IRQ_COMPLETE.addr) (ht : a ≠ R.IRQ_CTRL.addr) : L.written old a v = L := by
  simp only [Lane.written, hw, hl, hc, ht, if_false, Bool.false_eq_true]

/-- A new level of a source shows in the levels in service. -/
theorem Lane.written_irqLvl (L old : Lane) (n : Fin 32) (v : Word) : L.written old (R.IRQ_LVL n).addr v = L.showSvc := by
  have hw : (R.IRQ_LVL n).addr / 0x10000 = 0x4010 := by
    simp only [R.IRQ_LVL]
    omega
  have hl : (idxOf (R.IRQ_LVL n).addr (R.IRQ_LVL 0) 4 32).isSome = true := by
    revert n
    decide
  simp only [Lane.written, hw, hl, if_true]

/-- No register of the IRQ block is a bank register. -/
theorem AX_BANK_ne_irq {a : Nat} (hw : a / 0x10000 = 0x4010) (x : Nat) (hx : x < 12) : (R.AX_BANK x).addr ≠ a := by
  simp only [R.AX_BANK]
  omega

/-- A write to a register of the IRQ block without an effect of its own stores its bits, and nothing else of the lane's registers and memory changes. -/
theorem RunsLane.irq_plain {s : State} (l : LaneId) {r : Reg} {row : RegRow} (v : Word) (hq : s.Quiet) (hw : r.addr / 0x10000 = 0x4010)
    (hr : regRow r.addr = some row) (hl : row.rwl = 0) (h1 : row.w1c = 0) (hd : r.rst = w32 row.reset) (hs : storeSpecial r.addr = false)
    (hi : (idxOf r.addr (R.IRQ_LVL 0) 4 32).isSome = false) (hc : r.addr ≠ R.IRQ_COMPLETE.addr) (ht : r.addr ≠ R.IRQ_CTRL.addr) :
    RunsLane (.registerWrite l .word (w32 r.addr) v) s l fun L M =>
      M.rd r = L.taken r (w32 row.rw) v ∧ M.busErr = false ∧ Lane.Frame [r.addr] L M := by
  have e : (s.lane l).busWrite .word r.addr v = (s.lane l).storedIn row r.addr v := by
    rw [Lane.busWrite_irq _ v hw hr hl, Lane.written_irq_plain _ _ v hw hi hc ht]
  have hv : ((s.lane l).storedIn row r.addr v).rd r = (s.lane l).taken r (w32 row.rw) v := by
    rw [Lane.rd_storedIn_same _ row r v hd, Reg.stored_plain v hs h1 hd, hl, Nat.or_zero]
  refine RunsLane.of_write (exec_registerWrite_reg l r v s (by omega)) hq ?_ (by rw [e]; exact hq l) ?_
  · simp only [R.BMB_INCTL]
    omega
  · rw [e]
    exact ⟨hv, rfl, Lane.Frame.storedIn _ row v (AX_BANK_ne_irq hw)⟩

/-- The bits of a number that a list of bits sums to. -/
theorem bitOf_orBits (f : Nat → Nat) {k : Nat} (hk : k < 32) (xs : List Nat) : ∀ m : Nat,
    bitOf (w32 (xs.foldl (fun m x => m ||| 2 ^ f x) m)) k = (m.testBit k || xs.any fun x => decide (f x = k)) := by
  induction xs with
  | nil =>
    intro m
    simp only [List.foldl_nil, bitOf, w32, BitVec.getLsbD_ofNat, hk, decide_true, Bool.true_and, List.any_nil, Bool.or_false]
  | cons x t ih =>
    intro m
    rw [List.foldl_cons, ih, Nat.testBit_or, Nat.testBit_two_pow, List.any_cons, Bool.or_assoc]

/-- The levels in service do not enter into a source's level. -/
theorem Lane.irqLevel_showSvc (L : Lane) (x : Nat) : L.showSvc.irqLevel x = L.irqLevel x := by
  have h : L.showSvc.rd (R.IRQ_LVL (x / 8)) = L.rd (R.IRQ_LVL (x / 8)) := L.rd_wr_other _ (by
    simp only [R.IRQ_LVL, R.IRQ_INSVC]
    omega)
  simp only [Lane.irqLevel, h]

/-- IRQ_INSVC shows the levels of the sources in service (R44). -/
theorem Lane.bitOf_showSvc (L : Lane) {k : Nat} (hk : k < 32) :
    bitOf (L.showSvc.rd R.IRQ_INSVC) k = L.showSvc.inSvc.any fun x => decide (L.showSvc.irqLevel x = k) := by
  simp only [Lane.irqLevel_showSvc]
  rw [Lane.showSvc, Lane.rd_wr_same, bitOf_orBits L.irqLevel hk, Nat.zero_testBit, Bool.false_or, Lane.inSvc_wr]

/-- The writable bits of IRQ_LVLn cover the levels of its sources, but for source 0 (R42). -/
theorem irqLvlMask_covers (n : Fin 32) (j : Fin 8) (h : n ≠ 0 ∨ j ≠ 0) (i : Fin 4) :
    (w32 (if n = 0 then 0xFFFFFFF0 else 0xFFFFFFFF)).getLsbD (4 * j + i) = true := by
  by_cases hn : n = 0
  · rw [if_pos hn]
    have hj : j ≠ 0 := h.resolve_left fun hh => hh hn
    clear h
    revert j i
    decide
  · rw [if_neg hn]
    clear h hn
    revert j i
    decide

/-- A level that is written shows as the level of its source. -/
theorem Lane.irqLevel_storedIn (L : Lane) (row : RegRow) (v : Word) {k : Nat} (h0 : k ≠ 0) (h : k < 256) (hl : row.rwl = 0) (h1 : row.w1c = 0)
    (hd : row.reset = 0) (hm : row.rw = if k / 8 = 0 then 0xFFFFFFF0 else 0xFFFFFFFF) :
    (L.storedIn row (R.IRQ_LVL (k / 8)).addr v).irqLevel k = (v.toNat >>> (4 * (k % 8))) % 16 := by
  have hs : ∀ n : Fin 32, storeSpecial (R.IRQ_LVL n).addr = false := by decide +kernel
  have hr : (R.IRQ_LVL (k / 8)).rst = w32 row.reset := by rw [hd]; rfl
  have hv : (L.storedIn row (R.IRQ_LVL (k / 8)).addr v).rd (R.IRQ_LVL (k / 8)) = L.taken (R.IRQ_LVL (k / 8)) (w32 row.rw) v := by
    rw [Lane.rd_storedIn_same _ row _ v hr, Reg.stored_plain v (hs ⟨k / 8, by omega⟩) h1 hr, hl, Nat.or_zero]
  refine (congrArg (Bf.get ⟨4 * (k % 8), 4⟩) hv).trans (L.get_taken _ v fun i hi => ?_)
  have hc := irqLvlMask_covers ⟨k / 8, by omega⟩ ⟨k % 8, by omega⟩ (by
    simp only [ne_eq, Fin.ext_iff, Fin.val_zero]
    omega) ⟨i, hi⟩
  simpa only [hm, Fin.ext_iff, Fin.val_zero] using hc

/-! ### Data RAM (R38) -/

/-- Only coefficient RAM goes through views (R195). -/
theorem Lane.place_low (L : Lane) {a : Nat} (h : a < 0x30000000) : L.place a = a := by
  rw [Lane.place, if_neg (by omega)]

/-- No other byte stands at the place of a byte below coefficient RAM. -/
theorem Lane.place_ne_low (L : Lane) {a c : Nat} (h : a < 0x30000000) (hc : c ≠ a) : L.place c ≠ a := by
  unfold Lane.place
  split <;> omega

/-- A byte written below coefficient RAM lies at its address, and every other byte reads as before. -/
theorem Lane.byte_setByte_low (L : Lane) {a : Nat} (b : Byte) (c : Nat) (h : a < 0x30000000) :
    (L.setByte a b).byte c = if c = a then b else L.byte c := by
  by_cases hc : c = a
  · rw [if_pos hc, hc, Lane.byte_setByte_same]
  · rw [if_neg hc, Lane.byte_setByte_other L b (by rw [L.place_low h]; exact L.place_ne_low h hc)]

/-- A word written below coefficient RAM lies there, least significant byte first (R14). -/
theorem Lane.byte_setMemW_low (L : Lane) {a : Nat} (w : Word) (c : Nat) (h : a + 3 < 0x30000000) :
    (L.setMemW a w).byte c = if a ≤ c ∧ c < a + 4 then byteOf w.toNat (c - a) else L.byte c := by
  simp only [Lane.setMemW, Lane.byte_setByte_low _ _ c h, Lane.byte_setByte_low _ _ c (show a + 2 < 0x30000000 by omega),
    Lane.byte_setByte_low _ _ c (show a + 1 < 0x30000000 by omega), Lane.byte_setByte_low _ _ c (show a < 0x30000000 by omega)]
  by_cases hc : a ≤ c ∧ c < a + 4
  · rw [if_pos hc]
    obtain ⟨i, hi⟩ : ∃ i, c = a + i := ⟨c - a, by omega⟩
    have h4 : i < 4 := by omega
    subst hi
    interval_cases i <;> simp
  · rw [if_neg hc, if_neg (by omega), if_neg (by omega), if_neg (by omega), if_neg (by omega)]

/-- A store leaves every register. -/
theorem Lane.rd_storeW (L : Lane) (a : Nat) (w : Word) (r : Reg) : (L.storeW a w).rd r = L.rd r := Lane.rd_congr rfl r

/-- A store below coefficient RAM writes the bytes of its word; its signature is no byte (R106). -/
theorem Lane.byte_storeW_low (L : Lane) {a : Nat} (w : Word) (c : Nat) (h : a + 3 < 0x30000000) :
    (L.storeW a w).byte c = if a ≤ c ∧ c < a + 4 then byteOf w.toNat (c - a) else L.byte c := by
  rw [← L.byte_setMemW_low w c h]
  exact Lane.byte_congr rfl rfl c

/-- The lane map has data RAM, which may be written. -/
theorem memWritable_dataRam {a : Nat} (h : 0x20000000 ≤ a) (h' : a < 0x20100000) : memWritable a = some true := by
  have hb : memBank a = some (8 + (a - 0x20000000) / 0x20000) := by
    rw [memBank, if_neg (by omega), if_pos ⟨h, h'⟩]
  rw [memWritable, if_neg (by omega), if_neg (by simp [hb])]

/-- An aligned word written to data RAM is stored, and counts in the write signature (R106). -/
theorem Lane.busWrite_dataRam {L : Lane} {a : Nat} (v : Word) (h : 0x20000000 ≤ a) (h' : a < 0x20100000) (ha : a % 4 = 0) (hb : L.bankOut a = false) :
    L.busWrite .word a v = (L.busEnd L.rdata false a).storeW a v := by
  have hp : ¬ a / 0x10000 = 0x3200 := by omega
  have hs : L.shadowBusy a = none := by
    rw [Lane.shadowBusy, if_neg (by omega)]
  have hn : (L.busEnd L.rdata false a).noteWrite a = L.busEnd L.rdata false a := by
    rw [Lane.noteWrite, if_neg (by omega)]
  simp only [Lane.busWrite, hb, memWritable_dataRam h h', hp, hs, hn, Bool.false_eq_true, if_false]
  rw [Lane.memWrite, if_pos ⟨rfl, ha⟩]

/-! ### The statement -/

/-- A write to IRQ_LVLn stores the levels, and IRQ_INSVC shows the sources in service at their new levels. -/
theorem RunsLane.irqLvl {s : State} (l : LaneId) (n : Fin 32) (v : Word) (hq : s.Quiet) :
    RunsLane (.registerWrite l .word (w32 (R.IRQ_LVL n).addr) v) s l fun L M =>
      (∀ k, k < 256 → n.val = k / 8 → k ≠ 0 → M.irqLevel k = (v.toNat >>> (4 * (k % 8))) % 16) ∧ M.busErr = false ∧ M.inSvc = L.inSvc
        ∧ (∀ k, k < 16 → bitOf (M.rd R.IRQ_INSVC) k = M.inSvc.any fun x => decide (M.irqLevel x = k))
        ∧ Lane.Frame [(R.IRQ_LVL n).addr, R.IRQ_INSVC.addr] L M := by
  have ha : (R.IRQ_LVL n).addr = 0x40100100 + 4 * n.val := rfl
  have hw : (R.IRQ_LVL n).addr / 0x10000 = 0x4010 := by omega
  obtain ⟨row, hr, hl, h1, hd, hm⟩ : ∃ row, regRow (R.IRQ_LVL n).addr = some row ∧ row.rwl = 0 ∧ row.w1c = 0 ∧ row.reset = 0
      ∧ row.rw = if n.val = 0 then 0xFFFFFFF0 else 0xFFFFFFFF := by
    refine ⟨_, regRow_IRQ_LVL n, ?_⟩
    by_cases hn : n = 0 <;> simp [hn]
  have e : (s.lane l).busWrite .word (R.IRQ_LVL n).addr v = ((s.lane l).storedIn row (R.IRQ_LVL n).addr v).showSvc := by
    rw [Lane.busWrite_irq _ v hw hr hl, Lane.written_irqLvl]
  refine RunsLane.of_write (exec_registerWrite_reg l _ v s (by omega)) hq ?_ (by rw [e]; exact hq l) ?_
  · simp only [R.BMB_INCTL]
    omega
  · rw [e]
    refine ⟨fun k hk hn h0 => ?_, rfl, rfl, fun k hk => Lane.bitOf_showSvc _ (by omega), ?_⟩
    · refine (Lane.irqLevel_showSvc _ k).trans ?_
      rw [hn]
      rw [hn] at hm
      exact Lane.irqLevel_storedIn _ row v h0 hk hl h1 hd hm
    · have hf := (Lane.Frame.storedIn (s.lane l) row v (AX_BANK_ne_irq hw)).mono (qs := [(R.IRQ_LVL n).addr, R.IRQ_INSVC.addr]) (by simp)
      refine hf.trans (Lane.Frame.mono (rs := [R.IRQ_INSVC.addr]) ?_ (by simp))
      exact Lane.Frame.regs (Lane.RegsBut.wr _ _ _) rfl rfl fun x hx => by simpa using AX_BANK_ne_irq (by decide) x hx

/-- A word written to data RAM. -/
theorem RunsLane.dataRam {s : State} (l : LaneId) {a : Nat} (v : Word) (hq : s.Quiet) (h : 0x20000000 ≤ a) (h' : a + 4 ≤ 0x20100000)
    (h4 : a % 4 = 0) (hb : (s.lane l).bankOut a = false) :
    RunsLane (.registerWrite l .word (w32 a) v) s l fun L M =>
      (∀ i, i < 4 → M.byte (a + i) = byteOf v.toNat i) ∧ (∀ c, c < a ∨ a + 4 ≤ c → M.byte c = L.byte c) ∧ (∀ c, M.flashByte c = L.flashByte c)
        ∧ Lane.RegsBut [] L M ∧ M.busErr = false ∧ M.rdata = L.rdata := by
  have e := Lane.busWrite_dataRam v h (by omega) h4 hb
  have hy : ∀ c, (((s.lane l).busEnd (s.lane l).rdata false a).storeW a v).byte c
      = if a ≤ c ∧ c < a + 4 then byteOf v.toNat (c - a) else (s.lane l).byte c := by
    intro c
    rw [Lane.byte_storeW_low _ v c (by omega), Lane.byte_congr (L := s.lane l) (M := (s.lane l).busEnd (s.lane l).rdata false a) rfl rfl c]
  refine RunsLane.of_write (r := ⟨a, 0⟩) (exec_registerWrite_reg l ⟨a, 0⟩ v s (by show a < 2 ^ 32; omega)) hq ?_ ?_ ?_
  · show a ≠ 0x400F000C
    omega
  · rw [e]
    exact hq l
  · rw [e]
    refine ⟨fun i hi => ?_, fun c hc => ?_, Lane.flashByte_of rfl, fun r _ => Lane.rd_storeW _ a v r, rfl, rfl⟩
    · refine (hy (a + i)).trans ?_
      rw [if_pos (by omega), Nat.add_sub_cancel_left]
    · refine (hy c).trans ?_
      rw [if_neg (by omega)]

/-- IRQ_THRESH stores its level; its reserved bits keep (R16, R42). -/
theorem RunsLane.irqThresh {s : State} (l : LaneId) (v : Word) (hq : s.Quiet) :
    RunsLane (.registerWrite l .word (w32 R.IRQ_THRESH.addr) v) s l fun L M =>
      M.rd R.IRQ_THRESH = L.taken R.IRQ_THRESH 0xF v ∧ M.busErr = false ∧ Lane.Frame [R.IRQ_THRESH.addr] L M := by
  have hw : R.IRQ_THRESH.addr / 0x10000 = 0x4010 := by decide
  have hs : storeSpecial R.IRQ_THRESH.addr = false := by decide +kernel
  have hi : (idxOf R.IRQ_THRESH.addr (R.IRQ_LVL 0) 4 32).isSome = false := by decide
  have h := RunsLane.irq_plain (r := R.IRQ_THRESH) l v hq hw regRow_IRQ_THRESH rfl rfl rfl hs hi (by decide) (by decide)
  exact h

/-- IRQ_ENn stores its bits; that of source 0 is reserved (R42). -/
theorem RunsLane.irqEn {s : State} (l : LaneId) (n : Fin 8) (v : Word) (hq : s.Quiet) :
    RunsLane (.registerWrite l .word (w32 (R.IRQ_EN n).addr) v) s l fun L M =>
      M.rd (R.IRQ_EN n) = L.taken (R.IRQ_EN n) (w32 (if n = 0 then 0xFFFFFFFE else 0xFFFFFFFF)) v ∧ M.busErr = false
        ∧ Lane.Frame [(R.IRQ_EN n).addr] L M := by
  obtain ⟨row, hr, hl, h1, hd, hm⟩ : ∃ row, regRow (R.IRQ_EN n).addr = some row ∧ row.rwl = 0 ∧ row.w1c = 0 ∧ row.reset = 0
      ∧ row.rw = if n = 0 then 0xFFFFFFFE else 0xFFFFFFFF := by
    refine ⟨_, regRow_IRQ_EN n, ?_⟩
    by_cases hn : n = 0 <;> simp [hn]
  have ha : (R.IRQ_EN n).addr = 0x40100040 + 4 * n.val := rfl
  have hx : ∀ n : Fin 8, storeSpecial (R.IRQ_EN n).addr = false ∧ (idxOf (R.IRQ_EN n).addr (R.IRQ_LVL 0) 4 32).isSome = false := by decide +kernel
  rw [← hm]
  exact RunsLane.irq_plain l v hq (by omega) hr hl h1 (by rw [hd]; rfl) (hx n).1 (hx n).2 (by simp only [R.IRQ_COMPLETE]; omega)
    (by simp only [R.IRQ_CTRL]; omega)

/-- Settles O3: the write of each register through the rule of its block, and the write of a word through that of its bytes. -/
theorem writesStore : Obligations.WritesStore := by
  refine ⟨fun s l v hq => ⟨RunsLane.irqThresh l v hq, fun n => ?_, fun n => RunsLane.irqLvl l n v hq⟩,
    fun s l a v hq h h' h4 hb => RunsLane.dataRam l v hq h h' h4 hb⟩
  obtain ⟨t, he, ho, hv, hb, hf⟩ := RunsLane.irqEn l n v hq
  refine ⟨t, he, ho, fun hn => ?_, fun k hk hn => ?_, hb, hf⟩
  · rw [hv, if_neg hn, Lane.taken_all]
  · have hbit : ∀ k : Fin 32, (w32 0xFFFFFFFE).getLsbD k = !decide (k.val = 0) := by decide
    rw [hv, if_pos hn, bitOf, Lane.getLsbD_taken, hbit ⟨k, hk⟩]
    by_cases h0 : k = 0 <;> simp [h0, bitOf]

end Sys2Proof.Machine
end

section
/-! SUPPORT. Accesses that are not performed, and writes that the safety lock refuses (R14, R15, R21). -/

namespace Sys2Proof.Machine

/-! ### Accesses that are not performed (R14, R15) -/

/-- A write to an address in the blocks' windows at which no register is listed, or of less than a word, is a bus error and nothing else. -/
theorem Lane.busWrite_unperformed (L : Lane) {sz : AccSize} {a : Nat} (v : Word) (ha : 0x40000000 ≤ a) (h : regRow a = none ∨ sz ≠ .word) :
    L.busWrite sz a v = L.busBad a := by
  unfold Lane.busWrite
  rw [L.bankOut_reg ha, memWritable_reg ha]
  cases hr : regRow a with
  | none => rfl
  | some row =>
    have hs : sz ≠ .word := h.resolve_left (by simp [hr])
    simp [hs]

/-- Such a read is a bus error that returns 0. -/
theorem Lane.busRead_unperformed (L : Lane) (m : Master) {sz : AccSize} {a : Nat} (ha : 0x40000000 ≤ a) (h : regRow a = none ∨ sz ≠ .word) :
    L.busRead m sz a = L.busBad a := by
  unfold Lane.busRead
  rw [L.bankOut_reg ha, memWritable_reg ha]
  cases hr : regRow a with
  | none => rfl
  | some row =>
    have hs : sz ≠ .word := h.resolve_left (by simp [hr])
    simp [hs]

/-- A bus error changes no register and no byte. -/
theorem Lane.Frame.busBad (L : Lane) (a : Nat) : Lane.Frame [] L (L.busBad a) := Lane.Frame.of_eq rfl rfl rfl []

/-- The Binnacle hears no answer in a write that is not one of a word to BMB_INCTL. -/
theorem State.hearAnswer_unheard (s : State) (L : Lane) {sz : AccSize} {a : Nat} (v : Word) (h : sz ≠ .word ∨ a ≠ R.BMB_INCTL.addr) :
    s.hearAnswer L sz a v = s := by
  have hc : (decide (sz = .word) && decide (a = R.BMB_INCTL.addr) && L.inOpen) = false := by
    rcases h with h | h <;> simp [h]
  unfold State.hearAnswer
  split
  · rw [hc]
    rfl
  · rfl

/-- A write that is not performed reaches nothing but what its lane records of the access. -/
theorem State.busWrite_unperformed {s : State} (l : LaneId) {sz : AccSize} {a : Nat} (v : Word) (hq : s.Quiet) (ha : 0x40000000 ≤ a)
    (h : regRow a = none ∨ sz ≠ .word) : s.busWrite l sz a v = s.run l fun L => L.busBad a := by
  have hu : sz ≠ .word ∨ a ≠ R.BMB_INCTL.addr := by
    rcases h with h | h
    · right
      rintro rfl
      rw [regRow_BMB_INCTL] at h
      exact absurd h (by simp)
    · exact .inl h
  have hw : (fun L : Lane => L.busWrite sz a v) = fun L => L.busBad a := funext fun L => L.busWrite_unperformed v ha h
  rw [State.busWrite, hw, State.hearAnswer_unheard _ _ v hu]
  apply State.helmSettle_quiet
  intro k
  by_cases hk : k = l
  · subst hk
    rw [State.lane_run_same]
    exact hq k
  · rw [State.lane_run_other s _ hk]
    exact hq k

/-! ### Writes that the safety lock refuses (R21) -/

/-- The lane after a write to an RWL register under the lock: VIOL is set, and IMG_LOCK_ADDR holds the first address since VIOL was cleared. -/
def Lane.lockRefused (L : Lane) (a : Nat) : Lane :=
  (if L.on R.IMG_LOCK_STAT F.IMG_LOCK_STAT_VIOL then L else L.wr R.IMG_LOCK_ADDR (w32 a)).raise R.IMG_LOCK_STAT F.IMG_LOCK_STAT_VIOL

/-- A write to a register whose writable bits are all RWL, under the lock, stores nothing. -/
theorem Lane.busWrite_locked {L : Lane} {a : Nat} {row : RegRow} (v : Word) (hr : regRow a = some row) (hp : L.absentReg a = false)
    (hl : row.rwl ≠ 0) (hw : row.rw = 0) (hk : L.on R.IMG_LOCK_STAT F.IMG_LOCK_STAT_LOCKED = true) :
    L.busWrite .word a v = (L.busEnd L.rdata false a).lockRefused a := by
  have ha := regRow_window hr
  unfold Lane.busWrite
  rw [L.bankOut_reg ha, memWritable_reg ha, hr]
  simp only [Bool.false_eq_true, if_false, ne_eq, not_true_eq_false, hp]
  unfold Lane.regWrite
  rw [if_pos ⟨hl, hk⟩, if_pos hw]
  rfl

theorem Lane.on_VIOL_lockRefused (L : Lane) (a : Nat) : (L.lockRefused a).on R.IMG_LOCK_STAT F.IMG_LOCK_STAT_VIOL = true :=
  Lane.on_raise_same _ _ _ (by decide) (by decide)

theorem Lane.rd_IMG_LOCK_ADDR_lockRefused (L : Lane) (a : Nat) : (L.lockRefused a).rd R.IMG_LOCK_ADDR
    = if L.on R.IMG_LOCK_STAT F.IMG_LOCK_STAT_VIOL then L.rd R.IMG_LOCK_ADDR else w32 a := by
  rw [Lane.lockRefused, Lane.rd_raise_other _ _ (by decide)]
  split
  · rfl
  · exact Lane.rd_wr_same _ _ _

theorem Lane.hn_lockRefused (L : Lane) (a : Nat) : (L.lockRefused a).hn = L.hn := by
  unfold Lane.lockRefused
  split <;> rfl

theorem Lane.Frame.lockRefused (L : Lane) (a : Nat) : Lane.Frame [R.IMG_LOCK_STAT.addr, R.IMG_LOCK_ADDR.addr] L (L.lockRefused a) := by
  have hb : ∀ x, x < 12 → (R.AX_BANK x).addr ∉ [R.IMG_LOCK_STAT.addr, R.IMG_LOCK_ADDR.addr] := by decide
  have hs (K : Lane) : Lane.Frame [R.IMG_LOCK_STAT.addr, R.IMG_LOCK_ADDR.addr] K (K.raise R.IMG_LOCK_STAT F.IMG_LOCK_STAT_VIOL) :=
    Lane.Frame.regs (fun q hq => Lane.RegsBut.raise K _ _ q (by simp_all)) rfl rfl hb
  unfold Lane.lockRefused
  split
  · exact hs L
  · exact Lane.Frame.trans (Lane.Frame.regs (fun q hq => Lane.RegsBut.wr L R.IMG_LOCK_ADDR _ q (by simp_all)) rfl rfl hb) (hs _)

/-- A command that writes a register whose writable bits are all RWL, under the lock. -/
theorem RunsLane.locked {i : Instr} {s : State} {l : LaneId} {r : Reg} {v : Word} {row : RegRow} (he : exec i s = s.write l r v) (hq : s.Quiet)
    (hk : (s.lane l).on R.IMG_LOCK_STAT F.IMG_LOCK_STAT_LOCKED = true) (hs : (s.lane l).small = false) (hr : regRow r.addr = some row)
    (hl : row.rwl ≠ 0) (hw : row.rw = 0) :
    RunsLane i s l fun L M => M.on R.IMG_LOCK_STAT F.IMG_LOCK_STAT_VIOL = true
        ∧ M.rd R.IMG_LOCK_ADDR = (if L.on R.IMG_LOCK_STAT F.IMG_LOCK_STAT_VIOL then L.rd R.IMG_LOCK_ADDR else w32 r.addr)
        ∧ Lane.Frame [R.IMG_LOCK_STAT.addr, R.IMG_LOCK_ADDR.addr] L M := by
  have e := Lane.busWrite_locked v hr (Lane.absentReg_full r.addr hs) hl hw hk
  have hb : r.addr ≠ R.BMB_INCTL.addr := by
    intro h
    rw [h, regRow_BMB_INCTL, Option.some.injEq] at hr
    exact hl (by rw [← hr])
  refine RunsLane.of_write he hq hb ?_ ?_
  · rw [e, Lane.hn_lockRefused]
    exact hq l
  · rw [e]
    exact ⟨Lane.on_VIOL_lockRefused _ _, Lane.rd_IMG_LOCK_ADDR_lockRefused _ _,
      (Lane.Frame.of_eq rfl rfl rfl _).trans (Lane.Frame.lockRefused _ _)⟩

/-! ### The statement -/

/-- Settles O4: a write that is not performed is a bus error, and each command that writes an RWL register meets the lock. -/
theorem accessesRefused : Obligations.AccessesRefused := by
  refine ⟨fun s l sz a v hq ha h => ⟨?_, fun L m => ?_⟩, fun s l i r v hq hk hs hi => ?_⟩
  · refine RunsLane.of_run (f := fun L => L.busBad a.toNat) ?_ ⟨rfl, rfl, rfl, Lane.Frame.busBad (s.lane l) a.toNat⟩
    show execRegisterWrite l sz a v s = _
    rw [execRegisterWrite, State.busWrite_unperformed l v hq ha h]
  · rw [Lane.busRead_unperformed L m ha h]
    exact ⟨rfl, rfl, Lane.Frame.busBad L _⟩
  · obtain ⟨w, row, he, hr, hl, hw⟩ : ∃ w row, exec i s = s.write l r w ∧ regRow r.addr = some row ∧ row.rwl ≠ 0 ∧ row.rw = 0 := by
      rcases hi with ⟨row, rfl, hn, hr, hl, hw⟩ | ⟨a, rfl, rfl⟩ | ⟨a, rfl, rfl⟩ | ⟨rfl, rfl⟩ | ⟨b, rfl, rfl⟩ | ⟨b, rfl, rfl⟩ | ⟨b, rfl, rfl⟩
        | ⟨n, rfl, rfl⟩ | ⟨n, rfl, rfl⟩ | ⟨q, rfl, rfl⟩ | ⟨n, rfl, rfl⟩ | ⟨n, rfl, rfl⟩ | ⟨m, rfl, rfl⟩ | ⟨rfl, rfl⟩ | ⟨rfl, rfl⟩
        | ⟨n, h0, rfl, rfl⟩ | ⟨rfl, rfl⟩ | ⟨a, rfl, rfl⟩
      · exact ⟨v, row, exec_registerWrite_reg l r v s hn, hr, hl, hw⟩
      · exact ⟨_, _, rfl, regRow_AX_CFG a, by decide, rfl⟩
      · exact ⟨_, _, rfl, regRow_AX_CFG a, by decide, rfl⟩
      · exact ⟨_, _, rfl, regRow_FIX_CTRL, by decide, rfl⟩
      · exact ⟨_, _, rfl, regRow_EDG_BCFG b, by decide, rfl⟩
      · exact ⟨_, _, rfl, regRow_EDG_MCTL b, by decide, rfl⟩
      · exact ⟨_, _, rfl, regRow_EDG_MCTL b, by decide, rfl⟩
      · exact ⟨_, _, rfl, regRow_CE_TASK n, by decide, rfl⟩
      · exact ⟨_, _, rfl, regRow_MEAS_SLCFG n, by decide, rfl⟩
      · exact ⟨_, _, rfl, regRow_MEAS_SQCFG q, by decide, rfl⟩
      · exact ⟨_, _, rfl, regRow_MEAS_GBHI n, by decide, rfl⟩
      · exact ⟨_, _, rfl, regRow_POS_CFG n, by decide, rfl⟩
      · exact ⟨_, _, rfl, regRow_SENT_CFG m, by decide, rfl⟩
      · exact ⟨_, _, rfl, regRow_POS_TRCFG, by decide, rfl⟩
      · exact ⟨_, _, rfl, regRow_SAFE_CTRL, by decide, rfl⟩
      · exact ⟨_, _, rfl, regRow_SAFE_SCFG n h0, by decide, rfl⟩
      · exact ⟨_, _, rfl, regRow_SFN_CTRL, by decide, rfl⟩
      · exact ⟨_, _, rfl, regRow_SFN_ACFG a, by decide, rfl⟩
    exact RunsLane.locked he hq hk hs hr hl hw

end Sys2Proof.Machine
end

section
/-! SUPPORT. Reads that clear or have another effect (R17, R20, R113, R359, R422). -/

namespace Sys2Proof.Machine

/-! ### Reads as commands -/

/-- A command that is a read by a master that reaches the lane: the lane's part of the read, as `N` gives it, is all that happens. -/
theorem RunsLane.of_read {i : Instr} {s : State} {l : LaneId} {m : Master} {r : Reg} {N : Lane} {Q : Lane → Lane → Prop}
    (he : exec i s = s.read l m r) (hm : s.reaches l m = true) (hN : (s.lane l).busRead m .word r.addr = N)
    (hQ : Q (s.lane l) { N with outP := [], outR := [] }) : RunsLane i s l Q := by
  subst hN
  refine RunsLane.of_run (f := fun L => L.busRead m .word r.addr) ?_ hQ
  rw [he, State.read, State.busRead_reached _ _ hm]

/-- A command that is a read by a master that does not reach the lane changes nothing (R139). -/
theorem exec_read_unreached {i : Instr} {s : State} {l : LaneId} {m : Master} {r : Reg} (he : exec i s = s.read l m r)
    (hm : s.reaches l m = false) : exec i s = .next s := by
  rw [he, State.read, State.busRead_unreached _ _ hm]

/-! ### Registers that a read clears (R17) -/

/-- A read of the register by the lane processor clears the bits of `rc`, and does nothing else; what is read is what the register holds. -/
def Reg.ClearsOnRead (r : Reg) (rc : Word) : Prop :=
  ∃ row, regRow r.addr = some row ∧ row.wo = false ∧ row.rc ≠ 0 ∧ w32 row.rc = rc ∧ r.rst = w32 row.reset
    ∧ viewSpecial r.addr = false ∧ clearSpecial r.addr = false

/-- Each command of the list reads its register, which clears on reads. -/
theorem clearedBy_spec {i : Instr} {l : LaneId} {m : Master} {r : Reg} {rc : Word} (h : clearedBy i = some (l, m, r, rc)) :
    (∀ s, exec i s = s.read l m r) ∧ r.ClearsOnRead rc := by
  unfold clearedBy at h
  split at h
  case h_17 =>
    split at h
    · exact absurd h (by simp)
    · next n hn =>
      simp only [Option.some.injEq, Prod.mk.injEq] at h
      obtain ⟨rfl, rfl, rfl, rfl⟩ := h
      exact ⟨fun _ => rfl, _, regRow_SAFE_SERR n hn, rfl, by decide, rfl, rfl, by revert n; decide +kernel⟩
  case h_21 => exact absurd h (by simp)
  all_goals
    simp only [Option.some.injEq, Prod.mk.injEq] at h
    obtain ⟨rfl, rfl, rfl, rfl⟩ := h
    refine ⟨fun _ => rfl, ?_⟩
  case h_1 => exact ⟨_, regRow_RKN_ADM_ACC, rfl, by decide, rfl, rfl, by decide +kernel⟩
  case h_2 => exact ⟨_, regRow_RKN_ADM_REF, rfl, by decide, rfl, rfl, by decide +kernel⟩
  case h_3 n => exact ⟨_, regRow_RKN_TMAX n, rfl, by decide, rfl, rfl, by revert n; decide +kernel⟩
  case h_4 d => exact ⟨_, regRow_DLK_MISS d, rfl, by decide, rfl, rfl, by revert d; decide +kernel⟩
  case h_5 d => exact ⟨_, regRow_DLK_LATE d, rfl, by decide, rfl, rfl, by revert d; decide +kernel⟩
  case h_6 d => exact ⟨_, regRow_DLK_CRC d, rfl, by decide, rfl, rfl, by revert d; decide +kernel⟩
  case h_7 d => exact ⟨_, regRow_DLK_OUTL d, rfl, by decide, rfl, rfl, by revert d; decide +kernel⟩
  case h_8 d => exact ⟨_, regRow_DLK_NOAGR d, rfl, by decide, rfl, rfl, by revert d; decide +kernel⟩
  case h_9 => exact ⟨_, regRow_CE_UTIL, rfl, by decide, rfl, rfl, by decide +kernel⟩
  case h_10 b => exact ⟨_, regRow_EDG_MCNT b, rfl, by decide, rfl, rfl, by revert b; decide +kernel⟩
  case h_11 b => exact ⟨_, regRow_EDG_BCNT b, rfl, by decide, rfl, rfl, by revert b; decide +kernel⟩
  case h_12 n => exact ⟨_, regRow_POS_ERRCNT n, rfl, by decide, rfl, rfl, by revert n; decide +kernel⟩
  case h_13 => exact ⟨_, regRow_HNET_CNT, rfl, by decide, rfl, rfl, by decide +kernel⟩
  case h_14 => exact ⟨_, regRow_HNET_NOAGR, rfl, by decide, rfl, rfl, by decide +kernel⟩
  case h_15 p => exact ⟨_, regRow_ETH_CNT p, rfl, by decide, rfl, rfl, by revert p; decide +kernel⟩
  case h_16 => exact ⟨_, regRow_SAFE_CNT, rfl, by decide, rfl, rfl, by decide +kernel⟩
  case h_18 => exact ⟨_, regRow_FIX_FLTCNT, rfl, by decide, rfl, rfl, by decide +kernel⟩
  case h_19 => exact ⟨_, regRow_BMB_CNT, rfl, by decide, rfl, rfl, by decide +kernel⟩
  case h_20 => exact ⟨_, regRow_SND_CNT, rfl, by decide, rfl, rfl, by decide +kernel⟩

/-- A register that a read clears is no special result. -/
theorem Reg.ClearsOnRead.ne_spot {r : Reg} {rc : Word} (h : r.ClearsOnRead rc) : r.addr ≠ R.MEAS_SPOT_RES.addr := by
  obtain ⟨row, -, -, -, -, -, -, hc⟩ := h
  intro he
  rw [he] at hc
  exact absurd hc (by decide)

/-- A register that a read clears is no bank register, whose reads clear nothing. -/
theorem Reg.ClearsOnRead.ne_bank {r : Reg} {rc : Word} (h : r.ClearsOnRead rc) (x : Nat) (hx : x < 12) : (R.AX_BANK x).addr ≠ r.addr := by
  obtain ⟨row, hr, -, h0, -⟩ := h
  intro he
  rw [← he, regRow_AX_BANK ⟨x, hx⟩, Option.some.injEq] at hr
  exact h0 (by rw [← hr])

/-- What the lane is after a read of a register that reads as it is held and clears the bits `rc`. -/
def Lane.clearRead (L : Lane) (r : Reg) (rc : Word) : Master → Lane
  | .processor => (L.wr r (L.rd r &&& ~~~rc)).busEnd (L.rd r) false r.addr
  | .debugger => L.busEnd (L.rd r) false r.addr

theorem Lane.busRead_clears (L : Lane) {r : Reg} {rc : Word} (m : Master) (h : r.ClearsOnRead rc) (hp : L.absentReg r.addr = false) :
    L.busRead m .word r.addr = L.clearRead r rc m := by
  have hne := h.ne_spot
  obtain ⟨row, hr, hw, h0, rfl, hd, hv, hc⟩ := h
  rw [Lane.busRead_reg L m (regRow_window hr) hr hp hw, if_neg hne, L.view_plain hv hr, ← hd]
  cases m with
  | processor => rw [L.readClears_plain hc hv hr h0, ← hd]; rfl
  | debugger => rfl

theorem Lane.rdata_clearRead (L : Lane) (r : Reg) (rc : Word) (m : Master) : (L.clearRead r rc m).rdata = L.rd r := by cases m <;> rfl
theorem Lane.busErr_clearRead (L : Lane) (r : Reg) (rc : Word) (m : Master) : (L.clearRead r rc m).busErr = false := by cases m <;> rfl

/-- A read leaves every other register, and every byte. -/
theorem Lane.Frame.clearRead (L : Lane) {r : Reg} {rc : Word} (m : Master) (h : r.ClearsOnRead rc) : Lane.Frame [r.addr] L (L.clearRead r rc m) := by
  cases m with
  | processor =>
    exact (Lane.Frame.regs (Lane.RegsBut.wr L r _) rfl rfl fun x hx => by simpa using h.ne_bank x hx).trans (Lane.Frame.of_eq rfl rfl rfl _)
  | debugger => exact Lane.Frame.of_eq rfl rfl rfl _

/-! ### Reads with an effect of their own -/

/-- FIX_DECAGR shows the oldest agreed decision word (R113). -/
theorem Lane.view_decisions (L : Lane) : L.view R.FIX_DECAGR.addr = L.ck.agreed.headD 0 := rfl

/-- HNET_BSTk reads as it is held. -/
theorem Lane.view_bufferStatus (L : Lane) (k : Fin 64) : L.view (R.HNET_BST k).addr = L.rd (R.HNET_BST k) := by
  have hv : ∀ k : Fin 64, viewSpecial (R.HNET_BST k).addr = false := by decide +kernel
  exact L.view_plain (hv k) (regRow_HNET_BST k)

theorem Lane.readClears_decisions (L : Lane) (rc : Nat) :
    L.readClears R.FIX_DECAGR.addr rc = L.updCk fun c => { c with agreed := c.agreed.drop 1 } := by
  rw [Lane.readClears, if_neg (by decide), if_pos rfl]

theorem Lane.readClears_spot (L : Lane) (rc : Nat) : L.readClears R.MEAS_SPOT_RES.addr rc = L.spotRead.2 := by
  rw [Lane.readClears, if_neg (by decide), if_neg (by decide), if_pos rfl]

theorem Lane.readClears_bufferStatus (L : Lane) (k : Fin 64) (rc : Nat) : L.readClears (R.HNET_BST k).addr rc = L.bstLatch k := by
  have hk : idxOf (R.HNET_BST k).addr (R.HNET_BST 0) 4 64 = some k.val := by
    revert k
    decide
  have ha : (R.HNET_BST k).addr = 0x40081100 + 4 * k.val := rfl
  rw [Lane.readClears, if_neg (by simp only [R.IRQ_CLAIM]; omega), if_neg (by simp only [R.FIX_DECAGR]; omega),
    if_neg (by simp only [R.MEAS_SPOT_RES]; omega)]
  simp only [hk]

/-- A read of FIX_DECAGR takes the oldest agreed word, which a read by the debugger leaves in the queue. -/
theorem Lane.busRead_decisions (L : Lane) : L.busRead .processor .word R.FIX_DECAGR.addr
      = (L.updCk fun c => { c with agreed := c.agreed.drop 1 }).busEnd (L.ck.agreed.headD 0) false R.FIX_DECAGR.addr
    ∧ L.busRead .debugger .word R.FIX_DECAGR.addr = L.busEnd (L.ck.agreed.headD 0) false R.FIX_DECAGR.addr := by
  have h (m : Master) := Lane.busRead_reg L m (by decide) regRow_FIX_DECAGR (L.absentReg_other (by decide) (by decide)) rfl
  constructor
  · rw [h, if_neg (by decide), Lane.view_decisions, ← Lane.readClears_decisions]
  · rw [h, if_neg (by decide), Lane.view_decisions]

/-- A read of MEAS_SPOT_RES takes the result, which a read by the debugger leaves. -/
theorem Lane.busRead_spot (L : Lane) : L.busRead .processor .word R.MEAS_SPOT_RES.addr = L.spotRead.2.busEnd L.spotRead.1 false R.MEAS_SPOT_RES.addr
    ∧ L.busRead .debugger .word R.MEAS_SPOT_RES.addr = L.busEnd L.spotRead.1 false R.MEAS_SPOT_RES.addr := by
  have h (m : Master) := Lane.busRead_reg L m (by decide) regRow_MEAS_SPOT_RES (L.absentReg_other (by decide) (by decide)) rfl
  constructor
  · rw [h, if_pos rfl, Lane.readClears_spot]
  · rw [h, if_pos rfl]

/-- A read of HNET_BSTk latches the buffer, but not for the debugger. -/
theorem Lane.busRead_bufferStatus (L : Lane) (k : Fin 64) : L.busRead .processor .word (R.HNET_BST k).addr
      = (L.bstLatch k).busEnd (L.rd (R.HNET_BST k)) false (R.HNET_BST k).addr
    ∧ L.busRead .debugger .word (R.HNET_BST k).addr = L.busEnd (L.rd (R.HNET_BST k)) false (R.HNET_BST k).addr := by
  have ha : (R.HNET_BST k).addr = 0x40081100 + 4 * k.val := rfl
  have h (m : Master) := Lane.busRead_reg L m (by omega) (regRow_HNET_BST k) (L.absentReg_other (by omega) (by omega)) rfl
  have hs : (R.HNET_BST k).addr ≠ R.MEAS_SPOT_RES.addr := by
    simp only [R.MEAS_SPOT_RES]
    omega
  constructor
  · rw [h, if_neg hs, Lane.view_bufferStatus, Lane.readClears_bufferStatus]
  · rw [h, if_neg hs, Lane.view_bufferStatus]

/-- A spot result of an earlier tick is returned and cleared (R359). -/
theorem Lane.spotRead_held {L : Lane} (h : L.meas.spotTick ≠ L.ticks + 1) : L.spotRead = (L.rd R.MEAS_SPOT_RES, L.wr R.MEAS_SPOT_RES 0) := by
  rw [Lane.spotRead, if_neg h]

/-- The read in a result's own tick returns the result before and leaves the new one. -/
theorem Lane.spotRead_now {L : Lane} (h : L.meas.spotTick = L.ticks + 1) : L.spotRead = (L.meas.spotOld,
    (if L.meas.spotOvr then L.setF R.MEAS_STAT F.MEAS_STAT_SPOVR 0 else L).updMeas fun m => { m with spotOld := 0, spotOvr := false }) := by
  rw [Lane.spotRead, if_pos h]

theorem Lane.Frame.wr_spotRes (L : Lane) (v : Word) : Lane.Frame [R.MEAS_SPOT_RES.addr] L (L.wr R.MEAS_SPOT_RES v) :=
  Lane.Frame.regs (Lane.RegsBut.wr L _ v) rfl rfl (by decide)

theorem Lane.Frame.spotRead_now {L : Lane} (h : L.meas.spotTick = L.ticks + 1) : Lane.Frame [R.MEAS_STAT.addr] L L.spotRead.2 := by
  rw [Lane.spotRead_now h]
  split
  · exact (Lane.Frame.regs (Lane.RegsBut.setF L _ _ 0) rfl rfl (by decide)).trans (Lane.Frame.of_eq rfl rfl rfl _)
  · exact Lane.Frame.of_eq rfl rfl rfl _

/-- A late read takes back the overrun that the new result would have raised. -/
theorem Lane.on_SPOVR_spotRead {L : Lane} (h : L.meas.spotTick = L.ticks + 1) (ho : L.meas.spotOvr = true) :
    L.spotRead.2.on R.MEAS_STAT F.MEAS_STAT_SPOVR = false := by
  have hf : (L.setF R.MEAS_STAT F.MEAS_STAT_SPOVR 0).fld R.MEAS_STAT F.MEAS_STAT_SPOVR = 0 := Lane.fld_setF_same L _ _ 0 (by decide)
  rw [Lane.spotRead_now h, if_pos ho]
  exact bne_eq_false_iff_eq.mpr hf

/-- The status of a receive buffer latches what the buffer held at the start of the tick (R422). -/
theorem Lane.bstLatch_receive {L : Lane} {k : Nat} (h : L.on (R.HNET_BCFG k) F.HNET_BCFG_DIR = false) :
    (L.bstLatch k).hn.latched.at k = true
      ∧ (L.bstLatch k).hn.view.at k = if L.hn.rxAt.at k = L.ticks + 1 then L.hn.rxOld.at k else L.bufView k := by
  rw [Lane.bstLatch, h, if_neg Bool.false_ne_true]
  exact ⟨Tab.at_set_same L.hn.latched k true, Tab.at_set_same L.hn.view k _⟩

theorem Lane.hn_bstLatch_transmit {L : Lane} {k : Nat} (h : L.on (R.HNET_BCFG k) F.HNET_BCFG_DIR = true) : (L.bstLatch k).hn = L.hn := by
  rw [Lane.bstLatch, if_pos h]

theorem Lane.Frame.bstLatch (L : Lane) (k : Nat) : Lane.Frame [] L (L.bstLatch k) := by
  unfold Lane.bstLatch
  split
  · exact Lane.Frame.refl [] L
  · exact Lane.Frame.of_eq rfl rfl rfl []

/-! ### The statement -/

/-- Settles O5: each read through the rule of its register. -/
theorem readsWithEffects : Obligations.ReadsWithEffects := by
  refine ⟨fun i s l m r rc hc hs => ?_, fun s l => ⟨?_, ?_, ?_, ?_, ?_, fun k => ⟨?_, ?_, ?_⟩⟩⟩
  · obtain ⟨he, hr⟩ := clearedBy_spec hc
    refine ⟨exec_read_unreached (he s), fun hm => ?_⟩
    refine RunsLane.of_read (he s) hm (Lane.busRead_clears _ m hr (Lane.absentReg_full _ hs))
      ⟨Lane.rdata_clearRead _ r rc m, Lane.busErr_clearRead _ r rc m, Lane.Frame.clearRead _ m hr, ?_⟩
    cases m with
    | processor => exact Lane.rd_wr_same (s.lane l) r _
    | debugger => rfl
  · exact RunsLane.of_read rfl rfl (s.lane l).busRead_decisions.1 ⟨rfl, rfl, Lane.Frame.of_eq rfl rfl rfl _⟩
  · exact fun hm => RunsLane.of_read rfl hm (s.lane l).busRead_decisions.2 ⟨rfl, rfl, Lane.Frame.of_eq rfl rfl rfl _⟩
  · intro ht
    have hN := (s.lane l).busRead_spot.1
    rw [Lane.spotRead_held ht] at hN
    exact RunsLane.of_read rfl rfl hN ⟨rfl, Lane.rd_wr_same (s.lane l) R.MEAS_SPOT_RES 0, Lane.Frame.wr_spotRes (s.lane l) 0⟩
  · intro ht
    have hf := Lane.Frame.spotRead_now ht
    refine RunsLane.of_read rfl rfl (s.lane l).busRead_spot.1 ⟨?_, hf.1 R.MEAS_SPOT_RES (by decide), Lane.on_SPOVR_spotRead ht, hf⟩
    exact congrArg Prod.fst (Lane.spotRead_now ht)
  · exact fun hm => RunsLane.of_read rfl hm (s.lane l).busRead_spot.2 ⟨rfl, Lane.Frame.of_eq rfl rfl rfl _⟩
  · exact RunsLane.of_read rfl rfl ((s.lane l).busRead_bufferStatus k).1
      ⟨rfl, Lane.Frame.bstLatch (s.lane l) k, Lane.bstLatch_receive, Lane.hn_bstLatch_transmit⟩
  · exact fun hm => RunsLane.of_read rfl hm ((s.lane l).busRead_bufferStatus k).2 ⟨rfl, rfl, Lane.Frame.of_eq rfl rfl rfl _⟩
  · rintro hm i (rfl | rfl | rfl | ⟨k, rfl⟩)
    · exact exec_read_unreached (r := R.FIX_DECAGR) rfl hm
    · exact exec_read_unreached (r := R.MEAS_SPOT_RES) rfl hm
    · exact exec_read_unreached (r := R.IRQ_CLAIM) rfl hm
    · exact exec_read_unreached (r := R.HNET_BST k) rfl hm

end Sys2Proof.Machine
end

section
/-! SUPPORT. Well-formed lanes, the well-formed Binnacle and the well-formed device: stores in canonical form (log entries 6 and 7) and every lane at
its place on the ring (R25). Each rule says that an operation keeps what it is applied to well-formed. -/

namespace Sys2Proof.Machine

/-! ### Well-formed lanes -/

/-- The stores of a lane are canonical and the lane stands at place `site` of the ring (R25, log entries 6 and 7). -/
def Lane.Wf (L : Lane) (site : Nat) : Prop := Tab.canon L.mem 0#8 = true ∧ Tab.canon L.flash 0xFF#8 = true ∧ L.me = site

section
variable {L : Lane} {site : Nat}

/-- A change of the other fields keeps a lane well-formed. -/
theorem Lane.Wf.upd {small regs pmPar rdata busErr busAddr setNow w1sNow irqPrev inSvc ticks free gt slewHelm slewLane slewWait rkn rate est frac wp rknClosing eng
    ax edg mc posts retained reqAt goneAt nvmWait meas posIf sent trav hn isb svc eth safe ck dg pw snd outP outR} (h : L.Wf site) :
    Lane.Wf ⟨L.me, small, regs, L.mem, pmPar, rdata, busErr, busAddr, setNow, w1sNow, irqPrev, inSvc, ticks, free, gt, slewHelm, slewLane, slewWait, rkn, rate, est, frac,
      wp, rknClosing, eng, ax, edg, mc, posts, retained, reqAt, goneAt, L.flash, nvmWait, meas, posIf, sent, trav, hn, isb, svc, eth, safe, ck, dg, pw, snd, outP, outR⟩ site := h

theorem Lane.Wf.ite {c : Prop} [Decidable c] {M : Lane} (hL : L.Wf site) (hM : M.Wf site) : Lane.Wf (if c then L else M) site := by
  split
  · exact hL
  · exact hM

theorem Lane.Wf.iteFst {β : Type} {c : Prop} [Decidable c] {x y : Lane × β} (hx : x.1.Wf site) (hy : y.1.Wf site) : Lane.Wf (if c then x else y).1 site := by
  split
  · exact hx
  · exact hy
theorem Lane.Wf.iteSnd {β : Type} {c : Prop} [Decidable c] {x y : β × Lane} (hx : x.2.Wf site) (hy : y.2.Wf site) : Lane.Wf (if c then x else y).2 site := by
  split
  · exact hx
  · exact hy
theorem Lane.Wf.foldl {α : Type} {f : Lane → α → Lane} {xs : List α} (h : L.Wf site) (hf : ∀ X x, X.Wf site → (f X x).Wf site) : (xs.foldl f L).Wf site := by
  induction xs generalizing L with
  | nil => exact h
  | cons x xs ih => exact ih (hf L x h)

theorem Lane.Wf.foldlFst {α β : Type} {f : Lane × β → α → Lane × β} {xs : List α} {acc : Lane × β} (h : acc.1.Wf site) (hf : ∀ X x, X.1.Wf site → (f X x).1.Wf site) :
    (xs.foldl f acc).1.Wf site := by
  induction xs generalizing acc with
  | nil => exact h
  | cons x xs ih => exact ih (hf acc x h)

theorem Lane.Wf.setByte {a b} (h : L.Wf site) : (L.setByte a b).Wf site := ⟨Lane.canon_setByte a b h.1, h.2⟩
theorem Lane.Wf.flashBytes {a bs} (h : L.Wf site) : (L.flashBytes a bs).Wf site := by
  induction bs generalizing L a with
  | nil => exact h
  | cons b t ih => exact ih (L := { L with flash := put L.flash a b 0xFF#8 }) ⟨h.1, canon_put a b h.2.1, h.2.2⟩
theorem Lane.Wf.flashErase {a} (h : L.Wf site) : (L.flashErase a).Wf site := ⟨h.1, Lane.canon_flashErase a h.2.1, h.2.2⟩
theorem Lane.Wf.clearMem {ret} (h : L.Wf site) : (L.clearMem ret).Wf site := ⟨canon_filter _ h.1, h.2⟩
end

/-- The keys of a rising store lie at its bound or above. -/
theorem le_of_mem_risingFrom {α : Type} : ∀ {t : Tab α} {n : Nat} {e : Nat × α}, risingFrom n t = true → e ∈ t → n ≤ e.1
  | x :: t, n, e, h, he => by
    simp only [risingFrom, Bool.and_eq_true, decide_eq_true_eq] at h
    rcases List.mem_cons.mp he with rfl | he
    · exact h.1
    · exact Nat.le_trans (Nat.le_trans h.1 (Nat.le_succ _)) (le_of_mem_risingFrom h.2 he)

/-- Entries of a canonical store set where no entry stands keep the canonical form. -/
theorem canon_foldl_ins {α : Type} [DecidableEq α] {d : α} : ∀ (u : Tab α) {k : Nat} {t : Tab α}, risingFrom k u = true → (∀ e ∈ u, e.2 ≠ d) →
    (∀ e ∈ t, ∀ x ∈ u, e.1 ≠ x.1) → t.canon d = true → Tab.canon (u.foldl (fun t e => ins t e.1 e.2) t) d = true
  | [], _, _, _, _, _, ht => ht
  | x :: u, k, t, hr, hv, hne, ht => by
    simp only [risingFrom, Bool.and_eq_true, decide_eq_true_eq] at hr
    refine canon_foldl_ins u hr.2 (fun e he => hv e (List.mem_cons_of_mem _ he)) (fun e he y hy => ?_) ?_
    · rcases mem_ins _ _ _ _ he with rfl | he
      · exact Nat.ne_of_lt (le_of_mem_risingFrom hr.2 hy)
      · exact hne e he y (List.mem_cons_of_mem _ hy)
    · simp only [Tab.canon, Bool.and_eq_true, List.all_eq_true, decide_eq_true_eq] at ht ⊢
      refine ⟨risingFrom_ins _ _ _ 0 (Nat.zero_le _) ht.1 fun e he => hne e he x List.mem_cons_self, fun e he => ?_⟩
      rcases mem_ins _ _ _ _ he with rfl | he
      · exact hv x List.mem_cons_self
      · exact ht.2 e he

/-- The keys that `p` names from one canonical store and the others from a second make a canonical store. -/
theorem canon_mergeTab {α : Type} [DecidableEq α] {t u : Tab α} {d : α} (p : Nat → Bool) (ht : t.canon d = true) (hu : u.canon d = true) :
    Tab.canon (mergeTab p t u) d = true := by
  unfold mergeTab
  have hq := canon_filter (fun e => p e.1) ht
  simp only [Tab.canon, Bool.and_eq_true, List.all_eq_true, decide_eq_true_eq] at hq
  refine canon_foldl_ins _ hq.1 hq.2 (fun e he x hx hex => ?_) (canon_filter (fun e => !p e.1) hu)
  have hpe := (List.mem_filter.mp he).2
  have hpx := (List.mem_filter.mp hx).2
  simp [hex, hpx] at hpe

/-! ### Results of an issue -/

/-- What an opcode leaves at issue is well-formed, where it leaves a lane. -/
def Iss.Wf (r : Iss) (site : Nat) : Prop := ∀ M nx, r = .go M nx → M.Wf site

section
variable {L : Lane} {site : Nat}
theorem Iss.Wf.go {nx} (h : L.Wf site) : (Iss.go L nx).Wf site := by
  rintro _ _ ⟨⟩
  exact h
theorem Iss.Wf.fault {f} : (Iss.fault f).Wf site := fun _ _ h => Iss.noConfusion h
theorem Iss.Wf.ends {y} : (Iss.ends y).Wf site := fun _ _ h => Iss.noConfusion h
theorem Iss.Wf.waits {ev} : (Iss.waits ev).Wf site := fun _ _ h => Iss.noConfusion h
theorem Iss.Wf.ite {c : Prop} [Decidable c] {x y : Iss} (hx : x.Wf site) (hy : y.Wf site) : Iss.Wf (if c then x else y) site := by
  split
  · exact hx
  · exact hy
end

/-! ### The Binnacle and the device -/

/-- The store of the log flash is canonical. -/
def Bin.Wf (b : Bin) : Prop := Tab.canon b.flash 0xFF#8 = true

section
variable {b : Bin}

/-- A change of the other fields keeps the Binnacle well-formed. -/
theorem Bin.Wf.upd {on ms regs posts segs msgs sendq reqs tag sram dropped stat sens session port lastReq unlocked seed wrong delay xfer progWait round sentW imgLen stage staged sndLane sndReg sndWait keys auth authBlocked authOtp uid ir dr dbgSeed free} (h : b.Wf) :
    Bin.Wf ⟨on, ms, regs, posts, segs, msgs, sendq, reqs, tag, sram, dropped, b.flash, stat, sens, session, port, lastReq, unlocked, seed, wrong, delay, xfer, progWait, round, sentW, imgLen, stage, staged, sndLane, sndReg, sndWait, keys, auth, authBlocked, authOtp, uid, ir, dr, dbgSeed, free⟩ := h

theorem Bin.Wf.ite {c : Prop} [Decidable c] {d : Bin} (hb : b.Wf) (hd : d.Wf) : Bin.Wf (if c then b else d) := by
  split
  · exact hb
  · exact hd
theorem Bin.Wf.iteFst {β : Type} {c : Prop} [Decidable c] {x y : Bin × β} (hx : x.1.Wf) (hy : y.1.Wf) : Bin.Wf (if c then x else y).1 := by
  split
  · exact hx
  · exact hy
theorem Bin.Wf.foldl {α : Type} {f : Bin → α → Bin} {xs : List α} (h : b.Wf) (hf : ∀ X x, X.Wf → (f X x).Wf) : (xs.foldl f b).Wf := by
  induction xs generalizing b with
  | nil => exact h
  | cons x xs ih => exact ih (hf b x h)
theorem Bin.Wf.flashBytes {a bs} (h : b.Wf) : (b.flashBytes a bs).Wf := by
  induction bs generalizing b a with
  | nil => exact h
  | cons x t ih => exact ih (b := { b with flash := put b.flash a x 0xFF#8 }) (canon_put a x h)
theorem Bin.Wf.stageBytes {i bs} (h : b.Wf) : (b.stageBytes i bs).Wf := by
  induction bs generalizing b i with
  | nil => exact h
  | cons x t ih => exact ih (b := { b with flash := put b.flash (b.stageAt i) x 0xFF#8 }) (canon_put _ x h)
theorem Bin.Wf.erase {sec} (h : b.Wf) : (b.erase sec).Wf := canon_filter _ h
end

/-- Every lane is well-formed at its place, and the Binnacle is. -/
structure State.Wf (s : State) : Prop where
  a : s.a.Wf 0
  b : s.b.Wf 1
  c : s.c.Wf 2
  bin : s.bin.Wf

/-- A command ends in a well-formed state. -/
def EndsWf (o : Host.Outcome State Fault Refusal) : Prop := ∀ t, o = .next t → t.Wf

section
variable {s : State}

theorem State.Wf.lane (h : s.Wf) (l : LaneId) : (s.lane l).Wf l.num := by
  cases l
  · exact h.a
  · exact h.b
  · exact h.c
theorem State.Wf.of_lanes (h : ∀ l, (s.lane l).Wf l.num) (hb : s.bin.Wf) : s.Wf := ⟨h .A, h .B, h .C, hb⟩

theorem State.wf_iff : s.Wf ↔ s.Canonical ∧ s.Placed := by
  constructor
  · intro h
    exact ⟨⟨fun l => by simp [Lane.canonical, (h.lane l).1, (h.lane l).2.1], h.bin⟩, fun l => (h.lane l).2.2⟩
  · rintro ⟨⟨hl, hb⟩, hp⟩
    refine .of_lanes (fun l => ?_) hb
    obtain ⟨hm, hf⟩ := (Bool.and_eq_true _ _).mp (hl l)
    exact ⟨hm, hf, hp l⟩

/-- A change of the other fields keeps the device well-formed. -/
theorem State.Wf.upd {d0 d1 d2 d3 keep dbgq pending} (h : s.Wf) : State.Wf ⟨s.a, s.b, s.c, d0, d1, d2, d3, s.bin, keep, dbgq, pending⟩ := ⟨h.a, h.b, h.c, h.bin⟩
theorem State.Wf.ite {c : Prop} [Decidable c] {t : State} (hs : s.Wf) (ht : t.Wf) : State.Wf (if c then s else t) := by
  split
  · exact hs
  · exact ht
theorem State.Wf.foldl {α : Type} {f : State → α → State} {xs : List α} (h : s.Wf) (hf : ∀ X x, X.Wf → (f X x).Wf) : (xs.foldl f s).Wf := by
  induction xs generalizing s with
  | nil => exact h
  | cons x xs ih => exact ih (hf s x h)
theorem State.Wf.setLane {l M} (h : s.Wf) (hM : M.Wf l.num) : (s.setLane l M).Wf := by
  refine .of_lanes (fun k => ?_) (State.bin_setLane s l M ▸ h.bin)
  by_cases e : k = l
  · subst e
    exact (State.lane_setLane_same s k M).symm ▸ hM
  · exact (State.lane_setLane_other s M e).symm ▸ h.lane k
theorem State.Wf.onLane {l f} (h : s.Wf) (hf : ∀ L, L.Wf l.num → (f L).Wf l.num) : (s.onLane l f).Wf := h.setLane (hf _ (h.lane l))
theorem State.Wf.onLanes {f} (h : s.Wf) (hf : ∀ l L, L.Wf l.num → (f l L).Wf l.num) : (s.onLanes f).Wf := ⟨hf .A _ h.a, hf .B _ h.b, hf .C _ h.c, h.bin⟩
theorem State.Wf.of_same {t : State} (h : s.Wf) (hl : ∀ l, t.lane l = s.lane l) (hb : t.bin = s.bin) : t.Wf :=
  .of_lanes (fun l => hl l ▸ h.lane l) (hb ▸ h.bin)
theorem State.Wf.setDie {n d} (h : s.Wf) : (s.setDie n d).Wf := h.of_same (State.lane_setDie s n d) (State.bin_setDie s n d)
theorem State.Wf.onDie {n f} (h : s.Wf) : (s.onDie n f).Wf := h.setDie
theorem State.Wf.putPkts {ps} (h : s.Wf) : (s.putPkts ps).Wf := h.of_same (State.lane_putPkts s ps) (State.bin_putPkts s ps)
theorem State.Wf.putRecs {ps} (h : s.Wf) : (s.putRecs ps).Wf := h.of_same (State.lane_putRecs s ps) (State.bin_putRecs s ps)
theorem State.Wf.run {l f} (h : s.Wf) (hf : ∀ L, L.Wf l.num → (f L).Wf l.num) : (s.run l f).Wf := .putRecs (.putPkts (h.setLane (hf _ (h.lane l))))
theorem State.Wf.laneSend {l f} (h : s.Wf) (hf : ∀ L, L.Wf l.num → (f L).1.Wf l.num) : (s.laneSend l f).Wf := .putPkts (h.setLane (hf _ (h.lane l)))

theorem EndsWf.next (h : s.Wf) : EndsWf (.next s) := by
  rintro t ⟨⟩
  exact h
theorem EndsWf.ite {c : Prop} [Decidable c] {x y : Host.Outcome State Fault Refusal} (hx : EndsWf x) (hy : EndsWf y) : EndsWf (if c then x else y) := by
  split
  · exact hx
  · exact hy
end

end Sys2Proof.Machine
end

section
/-! SUPPORT. Every operation of the model keeps lanes, the Binnacle and the device well-formed: the rule `X.Wf.f` speaks of the operation `f`, and the
rules stand in the order of the definitions. A proof follows the definition: the rule of each operation that it applies, and a case for each branch. -/

namespace Sys2Proof.Machine

/-! ### State -/

section
variable {L : Lane} {site : Nat} {s : State} {b : Bin}

theorem Lane.Wf.off {site : Nat} : (Lane.off site).Wf site := ⟨rfl, rfl, rfl⟩
end

/-! ### Ops -/

section
variable {L : Lane} {site : Nat} {s : State} {b : Bin}

theorem Lane.Wf.wr {r v} (h : L.Wf site) : (L.wr r v).Wf site := .upd h
theorem Lane.Wf.setF {r f n} (h : L.Wf site) : (L.setF r f n).Wf site := .wr h
theorem Lane.Wf.raise {r f} (h : L.Wf site) : (L.raise r f).Wf site := .upd (.setF h)
theorem Lane.Wf.raiseBit {r i} (h : L.Wf site) : (L.raiseBit r i).Wf site := .raise h
theorem Lane.Wf.setW1s {r f} (h : L.Wf site) : (L.setW1s r f).Wf site := .upd (.setF h)
theorem Lane.Wf.dropW1s {r f} (h : L.Wf site) : (L.dropW1s r f).Wf site := .ite (.setF h) h
theorem Lane.Wf.bump {r f n} (h : L.Wf site) : (L.bump r f n).Wf site := .setF h
theorem Lane.Wf.raiseMask {r m} (h : L.Wf site) : (L.raiseMask r m).Wf site := .upd (.wr h)
theorem Lane.Wf.setMemW {a w} (h : L.Wf site) : (L.setMemW a w).Wf site := .setByte (.setByte (.setByte (.setByte h)))
theorem Lane.Wf.setCoef {w v} (h : L.Wf site) : (L.setCoef w v).Wf site := .setMemW h
theorem Lane.Wf.signW {a w} (h : L.Wf site) : (L.signW a w).Wf site := .upd h
theorem Lane.Wf.storeW {a w} (h : L.Wf site) : (L.storeW a w).Wf site := .signW (.setMemW h)
theorem Lane.Wf.flashWords {a ws} (h : L.Wf site) : (L.flashWords a ws).Wf site := .flashBytes (.flashErase h)
theorem Lane.Wf.takeFree {who} (h : L.Wf site) : (L.takeFree who).2.Wf site := .upd h
theorem Lane.Wf.flashNoise {a n} (h : L.Wf site) : (L.flashNoise a n).Wf site := .upd (.flashBytes h)
theorem Lane.Wf.flashFree {a n} (h : L.Wf site) : (L.flashFree a n).Wf site := .flashNoise (.flashErase h)
theorem Lane.Wf.updAx {a f} (h : L.Wf site) : (L.updAx a f).Wf site := .upd h
theorem Lane.Wf.updMc {b f} (h : L.Wf site) : (L.updMc b f).Wf site := .upd h
theorem Lane.Wf.updWp {w f} (h : L.Wf site) : (L.updWp w f).Wf site := .upd h
end

/-! ### Log -/

section
variable {L : Lane} {site : Nat} {s : State} {b : Bin}

theorem Lane.Wf.showPosts (h : L.Wf site) : L.showPosts.Wf site := .setF (.setF h)
theorem Lane.Wf.post {kind ws} (h : L.Wf site) : (L.post kind ws).Wf site :=
  .ite (.ite (.showPosts (.upd h)) (.raise (.bump h))) (.ite (.raise (.bump h)) (.showPosts (.upd h)))
theorem Lane.Wf.logRec {ty p0 p1 p2 p3} (h : L.Wf site) : (L.logRec ty p0 p1 p2 p3).Wf site := .post h
theorem Lane.Wf.reportRec {ty p0 p1 p2 p3} (h : L.Wf site) : (L.reportRec ty p0 p1 p2 p3).Wf site := .ite (.logRec h) (.showPosts (.upd h))
theorem Lane.Wf.fault {cls loc} (h : L.Wf site) : (L.fault cls loc).Wf site := .logRec (.bump (.setF (.setF h)))
theorem Lane.Wf.faultIf {c cls loc} (h : L.Wf site) : (L.faultIf c cls loc).Wf site := .ite (.fault h) h
end

/-! ### Edge -/

section
variable {L : Lane} {site : Nat} {s : State} {b : Bin}

theorem Lane.Wf.updEdg {f} (h : L.Wf site) : (L.updEdg f).Wf site := .upd h
theorem Lane.Wf.outBridge {b idx w} (h : L.Wf site) : (L.outBridge b idx w).Wf site := .ite (.ite (.updEdg h) h) (.ite (.updEdg h) (.raise h))
theorem Lane.Wf.outValve {v w} (h : L.Wf site) : (L.outValve v w).Wf site := .updEdg h
theorem Lane.Wf.holdKeys {p} (h : L.Wf site) : (L.holdKeys p).Wf site := .updEdg h
theorem Lane.Wf.holdOutputs (h : L.Wf site) : L.holdOutputs.Wf site := .holdKeys h
theorem Lane.Wf.served {key seq} (h : L.Wf site) : (L.served key seq).Wf site := .updEdg h
theorem Lane.Wf.sendRes {me key seq} (h : L.Wf site) : (L.sendRes me key seq).1.Wf site := .iteFst (.served h) h
theorem Lane.Wf.sendDie {me n seq} (h : L.Wf site) : (L.sendDie me n seq).1.Wf site := .iteFst (.updEdg (.served h)) h
theorem Lane.Wf.loadEdges {me mask} (h : L.Wf site) : (L.loadEdges me mask).1.Wf site := by
  unfold Lane.loadEdges
  extract_lets _ L0
  have hL0 : L0.Wf site := .updEdg (.setF h)
  refine .foldlFst hL0 fun _ _ h2 => ?_
  refine .iteFst ?_ h2
  extract_lets _ L1 _ L2 _
  have hL1 : L1.Wf site := .updEdg h2
  have hL2 : L2.Wf site := .ite (.raiseBit hL1) hL1
  exact .sendRes hL2
theorem Lane.Wf.stopNow {me keys dies} (h : L.Wf site) : (L.stopNow me keys dies).1.Wf site :=
  .foldlFst (.foldlFst h (fun _ _ h1 => .sendRes h1)) (fun _ _ h1 => .sendDie h1)
theorem Lane.Wf.sendDeadline {me key} (h : L.Wf site) : (L.sendDeadline me key).1.Wf site := .iteFst (.sendRes h) h
theorem Lane.Wf.buildDie {me n} (h : L.Wf site) : (L.buildDie me n).1.Wf site := .iteFst (.sendDie h) h
theorem Lane.Wf.heard {n report} (h : L.Wf site) : (L.heard n report).Wf site := .updEdg h
theorem Lane.Wf.closeKey {r key} (h : L.Wf site) : (L.closeKey r key).Wf site := .updEdg h
theorem Lane.Wf.closeAt {key seq} (h : L.Wf site) : (L.closeAt key seq).Wf site := by
  unfold Lane.closeAt
  extract_lets _ _ L0 L1 L2
  have hL0 : L0.Wf site := .ite (.setF h) h
  have hL1 : L1.Wf site := .updEdg hL0
  have hL2 : L2.Wf site := .ite (.setF hL1) hL1
  exact .ite (.setF hL2) hL2
theorem Lane.Wf.closeDie {n} (h : L.Wf site) : (L.closeDie n).Wf site := .foldl h (fun _ _ h1 => .ite (.closeAt h1) h1)
theorem Lane.Wf.mark {me n place seq} (h : L.Wf site) : (L.mark me n place seq).Wf site := by
  unfold Lane.mark
  extract_lets _ _ L1 L2
  have hL1 : L1.Wf site := .updEdg (.heard h)
  have hL2 : L2.Wf site := .ite (.setF hL1) hL1
  exact .closeAt hL2
theorem Lane.Wf.bridgeReport {n place rep} (h : L.Wf site) : (L.bridgeReport n place rep).Wf site := by
  unfold Lane.bridgeReport
  extract_lets _ _ _ _ _ _ _ _ _ _ _ L1 L1' L1'' _ L1''' L1'''' L1''''' _ _
  have hL1 : L1.Wf site := .wr (.heard h)
  have hL1' : L1'.Wf site := .wr (.wr (.wr hL1))
  have hL1'' : L1''.Wf site := .bump (.bump hL1')
  have hL1''' : L1'''.Wf site := .ite (.setF (.setF hL1'')) hL1''
  have hL1'''' : L1''''.Wf site := .raiseMask hL1'''
  have hL1''''' : L1'''''.Wf site := .ite hL1'''' (.setF hL1'''')
  exact .faultIf (.faultIf hL1''''')
theorem Lane.Wf.valveReport {n place rep} (h : L.Wf site) : (L.valveReport n place rep).Wf site := .faultIf (.faultIf (.setF (.raiseMask (.wr (.heard h)))))
theorem Lane.Wf.soReport {s o} (h : L.Wf site) : (L.soReport s o).Wf site := .faultIf (.faultIf (.setF (.setF (.setF (.setF (.raiseMask h))))))
theorem Lane.Wf.trReport {t o} (h : L.Wf site) : (L.trReport t o).Wf site := .setF (.setF (.raiseMask h))
theorem Lane.Wf.dieReport {n r} (h : L.Wf site) : (L.dieReport n r).Wf site := by
  unfold Lane.dieReport
  extract_lets _ L1 L1' L1'' L1''' L1'''' L1''''' L1'''''' L1''''''' L1'''''''' _ L1''''''''' _ L1''''''''''
  have hL1 : L1.Wf site := .closeAt (.updEdg (.heard h))
  have hL1' : L1'.Wf site := .soReport (.soReport hL1)
  have hL1'' : L1''.Wf site := .trReport (.trReport hL1')
  have hL1''' : L1'''.Wf site := .foldl hL1'' (fun _ _ h4 => .ite (.raise h4) h4)
  have hL1'''' : L1''''.Wf site := .foldl hL1''' (fun _ _ h5 => .ite (.raise h5) h5)
  have hL1''''' : L1'''''.Wf site := .setF (.raiseMask hL1'''')
  have hL1'''''' : L1''''''.Wf site := .setF hL1'''''
  have hL1''''''' : L1'''''''.Wf site := .setF hL1''''''
  have hL1'''''''' : L1''''''''.Wf site := .wr hL1'''''''
  have hL1''''''''' : L1'''''''''.Wf site := .wr hL1''''''''
  have hL1'''''''''' : L1''''''''''.Wf site := .wr hL1'''''''''
  exact .ite (.fault (.raise hL1'''''''''')) hL1''''''''''
theorem Lane.Wf.laneCount {r k n} (h : L.Wf site) : (L.laneCount r k n).Wf site := .bump h
theorem Lane.Wf.voteReported {n r} (h : L.Wf site) : (L.voteReported n r).Wf site := by
  unfold Lane.voteReported
  extract_lets L1 L1' L2 L3
  have h1 : L1.Wf site := .foldl (.heard h) fun _ _ hX => .laneCount (.laneCount (.laneCount (.laneCount hX)))
  have h1' : L1'.Wf site := .updEdg h1
  have h2 : L2.Wf site := .ite (.bump (.raise h1')) h1'
  have h3 : L3.Wf site := .ite (.raise h2) h2
  exact .setF h3
theorem Lane.Wf.dieSilent {n} (h : L.Wf site) : (L.dieSilent n).Wf site := .ite (.closeDie (.updEdg h)) h
theorem Lane.Wf.addClear {n bit} (h : L.Wf site) : (L.addClear n bit).Wf site := .updEdg h
theorem Lane.Wf.bridgeEnabled {b} (h : L.Wf site) : (L.bridgeEnabled b).Wf site := by
  unfold Lane.bridgeEnabled
  extract_lets _ L1
  have hL1 : L1.Wf site := .updEdg h
  exact .ite hL1 (.raise hL1)
end

/-! ### PortFix -/

section
variable {L : Lane} {site : Nat} {s : State} {b : Bin}

theorem State.Wf.portOutl {n mask} (h : s.Wf) : (s.portOutl n mask).Wf := .onLanes h (fun _ _ h1 => .foldl h1 (fun _ _ h2 => .ite (.updEdg (.laneCount h2)) h2))
theorem Lane.Wf.hnFlag {tag f} (h : L.Wf site) : (L.hnFlag tag f).Wf site := by
  unfold Lane.hnFlag
  split
  · exact .raise h
  · exact h
theorem Lane.Wf.hnErr {p d} (h : L.Wf site) : (L.hnErr p d).Wf site := .wr h
theorem Lane.Wf.canErr {n d was} (h : L.Wf site) : (L.canErr n d was).Wf site := by
  unfold Lane.canErr
  extract_lets _ L1
  have hL1 : L1.Wf site := .wr h
  exact .ite (.raise hL1) hL1
theorem Lane.Wf.updCan {n f} (h : L.Wf site) : (L.updCan n f).Wf site := .ite (.upd h) (.upd h)
theorem Lane.Wf.canClose {n} (h : L.Wf site) : (L.canClose n).Wf site := by
  unfold Lane.canClose
  refine .ite ?_ h
  extract_lets L1
  have hL1 : L1.Wf site := .setF (.updCan h)
  exact .ite (.wr hL1) hL1
theorem Lane.Wf.canOut {n tag sent} (h : L.Wf site) : (L.canOut n tag sent).Wf site := by
  unfold Lane.canOut
  split
  · exact h
  · exact .canClose (.ite (.updCan h) (.ite (.updCan (.setF (.raise (.dropW1s (.setF (.updCan h)))))) (.raise (.dropW1s (.setF (.updCan h))))))
theorem State.Wf.portVote {n port tag} (h : s.Wf) : (s.portVote n port tag).Wf := by
  unfold State.portVote
  extract_lets _ _ _ s1
  have hs1 : s1.Wf := .portOutl (.onDie h)
  split
  · exact .ite (.onDie hs1) (.onLanes hs1 (fun _ _ h2 => .canOut (.raise h2)))
  · exact .ite (.onDie hs1) (.ite (.onLanes hs1 (fun _ _ h2 => .canOut (.raise h2))) (.onDie hs1))
theorem State.Wf.portArrive {n l good} (h : s.Wf) : (s.portArrive n l good).Wf := by
  unfold State.portArrive
  dsimp only
  split
  · exact h
  · split
    · exact .onDie h
    · exact .ite (.portVote (.onDie (.onDie h))) (.onDie (.onDie h))
theorem State.Wf.portTimeout {n port tag} (h : s.Wf) : (s.portTimeout n port tag).Wf := .ite (.portVote h) h
theorem State.Wf.windowVote {n tag} (h : s.Wf) : (s.windowVote n tag).Wf := by
  unfold State.windowVote
  dsimp only
  refine .ite h ?_
  split
  · exact .ite (.portOutl (.onDie h)) (.onDie (.portOutl (.onDie h)))
  · exact .ite (.onLanes (.portOutl (.onDie h)) (fun _ _ h1 => .bump (.hnFlag h1))) (.portOutl (.onDie h))
theorem State.Wf.lateSof {tag} (h : s.Wf) : (s.lateSof tag).Wf := .onLanes h (fun _ _ h1 => .bump (.hnFlag h1))
theorem State.Wf.windowStart {n tag busy} (h : s.Wf) : (s.windowStart n tag busy).Wf := by
  unfold State.windowStart
  extract_lets _
  split
  · exact h
  · exact .ite (.onDie h) (.ite (.onDie h) (.ite (.onDie h) (.lateSof (.onDie h))))
theorem State.Wf.helmIdle {n since} (h : s.Wf) : (s.helmIdle n since).Wf := by
  unfold State.helmIdle
  extract_lets s1 _
  have hs1 : s1.Wf := .onDie h
  split
  · exact hs1
  · exact .ite (.onDie hs1) (.ite (.onDie hs1) (.lateSof (.onDie hs1)))
theorem Lane.Wf.hnReqEnd {k} (h : L.Wf site) : (L.hnReqEnd k).Wf site := .ite (.upd (.dropW1s h)) h
theorem State.Wf.giveUpPath {n} (h : s.Wf) : (s.giveUpPath n).Wf := by
  unfold State.giveUpPath
  dsimp only
  exact .onLanes (.onDie h) (fun _ _ h1 => .ite h1 (.foldl (.fault (.raise (.setF h1))) (fun _ _ h2 => .hnReqEnd h2)))
end

/-! ### Hnet -/

section
variable {L : Lane} {site : Nat} {s : State} {b : Bin}

theorem Lane.Wf.updHn {f} (h : L.Wf site) : (L.updHn f).Wf site := .upd h
theorem Lane.Wf.setSyn {st} (h : L.Wf site) : (L.setSyn st).Wf site := by
  unfold Lane.setSyn
  refine .ite h ?_
  extract_lets L1 L1' L1'' L1'''
  have hL1 : L1.Wf site := .raise (.setF h)
  have hL1' : L1'.Wf site := .ite (.raise hL1) hL1
  have hL1'' : L1''.Wf site := .setF hL1'
  have hL1''' : L1'''.Wf site := .ite hL1'' (.setF hL1'')
  exact .updHn hL1'''
theorem Lane.Wf.stepGt {d} (h : L.Wf site) : (L.stepGt d).Wf site := .raise (.upd (.ite (.upd (.setF h)) h))
theorem Lane.Wf.backoff {me} (h : L.Wf site) : (L.backoff me).Wf site := .updHn (.raise (.setSyn (.takeFree h)))
theorem Lane.Wf.hnEnable (h : L.Wf site) : L.hnEnable.Wf site := .ite (.raise (.setF (.setF h))) (.setSyn (.setF (.updHn (.setF (.setF h)))))
theorem Lane.Wf.hnOff (h : L.Wf site) : L.hnOff.Wf site := .updHn (.setF (.setSyn h))
theorem Lane.Wf.hnClosed (h : L.Wf site) : L.hnClosed.Wf site := .ite (.hnEnable (.hnOff h)) (.hnOff h)
theorem State.Wf.laneRecs {l f} (h : s.Wf) (hf : ∀ L, L.Wf l.num → (f L).1.Wf l.num) : (s.laneRecs l f).Wf := .putRecs (h.setLane (hf _ (h.lane l)))
theorem Lane.Wf.txCopy {me e} (h : L.Wf site) : (L.txCopy me e).1.Wf site :=
  .iteFst h (.iteFst (.iteFst (.updHn (.updHn h)) (.updHn h)) (.iteFst (.ite (.updHn h) (.updHn (.updHn h))) (.ite (.updHn (.ite (.updHn h) (.updHn (.updHn h)))) (.ite (.updHn h) (.updHn (.updHn h))))))
theorem Lane.Wf.sendRef {me cold tsof} (h : L.Wf site) : (L.sendRef me cold tsof).1.Wf site := .updHn h
theorem Lane.Wf.refTurn {me} (h : L.Wf site) : (L.refTurn me).1.Wf site := .iteFst (.sendRef (.updHn h)) h
theorem Lane.Wf.coldSend {me} (h : L.Wf site) : (L.coldSend me).1.Wf site := .iteFst (.sendRef (.updHn h)) h
theorem Lane.Wf.coldRepeat {me} (h : L.Wf site) : (L.coldRepeat me).1.Wf site := .iteFst (.sendRef (.updHn h)) h
theorem Lane.Wf.becomeMaster (h : L.Wf site) : L.becomeMaster.Wf site := .raise (.setF (.setF (.setF h)))
theorem Lane.Wf.coldAck (h : L.Wf site) : L.coldAck.1.Wf site := .iteFst (.stepGt (.becomeMaster (.setSyn h))) h
theorem Lane.Wf.backoffEnd (h : L.Wf site) : L.backoffEnd.Wf site := .ite (.setSyn h) h
theorem Lane.Wf.listenTimeout (h : L.Wf site) : L.listenTimeout.Wf site := .ite (.setSyn h) h
theorem Lane.Wf.refTimeout (h : L.Wf site) : L.refTimeout.Wf site := .ite (.setSyn (.ite h (.raise h))) h
theorem Lane.Wf.sof {p own} (h : L.Wf site) : (L.sof p own).Wf site := by
  unfold Lane.sof
  extract_lets L1
  have hL1 : L1.Wf site := .updHn h
  exact .ite hL1 (.ite (.ite (.updHn hL1) hL1) (.ite hL1 (.setSyn hL1)))
theorem Lane.Wf.liftGt {tsof cyc} (h : L.Wf site) : (L.liftGt tsof cyc).Wf site := by
  unfold Lane.liftGt
  split
  · exact h
  · exact .upd h
theorem Lane.Wf.refReceive {me p f} (h : L.Wf site) : (L.refReceive me p f).1.Wf site := by
  unfold Lane.refReceive
  extract_lets b node rank cyc rate tsof L0 off L1 newM L2 L2' rateOk L2'' L2''' near X X' Y
  have h0 : L0.Wf site := .updHn h
  have h1 : L1.Wf site := .updHn (.wr h0)
  have h2 : L2.Wf site := .setF (.setF (.setF h1))
  have h2' : L2'.Wf site := .ite (.raise h2) h2
  have h2'' : L2''.Wf site := .updHn h2'
  have h3 : L2'''.Wf site := .ite h2'' (.raise h2'')
  have hX : X.Wf site := .liftGt (.stepGt h3)
  have hX' : X'.Wf site := .upd h3
  have hY : Y.Wf site := .updHn hX'
  clear_value L2''' X X' Y
  refine .iteFst h0 (.iteFst (.iteFst (.backoff h0) (.setSyn (.updHn h0))) (.iteFst (.setSyn h3) (.iteFst ?_ (.iteFst ?_ ?_))))
  · split
    · split
      · dsimp only
        exact .setSyn (.liftGt (.stepGt h3))
      · exact h3
    · exact h3
  · exact .ite hX (.updHn (.setSyn hX))
  · exact .iteFst (.iteFst (.updHn (.setSyn hX')) (.iteFst (.updHn (.setSyn hX')) hX')) (.iteFst (.setSyn hY) hY)
theorem Lane.Wf.basicCycle (h : L.Wf site) : L.basicCycle.Wf site := .ite h (.updHn (.foldl (.setF (.setF h)) (fun _ _ h1 => .ite (.setF (.updHn h1)) (.updHn h1))))
theorem Lane.Wf.matrixCycle (h : L.Wf site) : L.matrixCycle.Wf site := by
  unfold Lane.matrixCycle
  refine .ite h ?_
  extract_lets L1 L2
  have hL1 : L1.Wf site := .updHn (.wr h)
  have hL2 : L2.Wf site := by
    dsimp only [L2]
    split
    · exact .updHn (.raise (.setF hL1))
    · exact hL1
  exact .ite (.updHn hL2) hL2
theorem Lane.Wf.takeFrame {p kind entry f} (h : L.Wf site) : (L.takeFrame p kind entry f).Wf site := by
  unfold Lane.takeFrame
  split
  · exact h
  · exact .ite (.bump h) (.setF (.setF (.setF (.raise (.ite (.raise (.wr (.foldl (.updHn h) (fun _ _ h1 => .wr h1)))) (.wr (.foldl (.updHn h) (fun _ _ h1 => .wr h1))))))))
theorem Lane.Wf.frameEnd {p f} (h : L.Wf site) : (L.frameEnd p f).Wf site := by
  unfold Lane.frameEnd
  refine .ite (.backoff h) ?_
  refine .ite h ?_
  extract_lets _ _ _ _ L1
  have hL1 : L1.Wf site := .updHn h
  exact .ite (.takeFrame hL1) hL1
theorem Lane.Wf.bstLatch {k} (h : L.Wf site) : (L.bstLatch k).Wf site := .ite h (.updHn h)
theorem Lane.Wf.switchPath (h : L.Wf site) : L.switchPath.Wf site := .foldl (.bump (.raise (.setF (.setF h)))) (fun _ _ h1 => .ite (.takeFrame h1) h1)
theorem Lane.Wf.pathFail {p} (h : L.Wf site) : (L.pathFail p).Wf site :=
  .ite h (.ite (.ite (.switchPath (.ite h (.updHn (.fault (.raise (.setF h)))))) (.ite h (.updHn (.fault (.raise (.setF h)))))) h)
theorem Lane.Wf.delayProbe {p node} (h : L.Wf site) : (L.delayProbe p node).Wf site := .ite (.updHn h) h
theorem Lane.Wf.delayAnswer {p t2 t3} (h : L.Wf site) : (L.delayAnswer p t2 t3).Wf site := .ite h (.updHn (.setF h))
theorem Lane.Wf.capability {node mask} (h : L.Wf site) : (L.capability node mask).Wf site := .updHn h
theorem Lane.Wf.hnSent {p tag} (h : L.Wf site) : (L.hnSent p tag).Wf site := by
  unfold Lane.hnSent
  refine .ite (.ite (.becomeMaster h) h) ?_
  refine .ite (.ite (.updHn h) h) ?_
  split
  · exact h
  · extract_lets L1
    have hL1 : L1.Wf site := .raise h
    exact .ite hL1 (.hnReqEnd (.updHn hL1))
theorem State.Wf.helmDone {n e} (h : s.Wf) : (s.helmDone n e).Wf := by
  unfold State.helmDone
  dsimp only
  split
  · exact h
  · refine .onLanes ?_ (fun _ _ h1 => .ite (.hnClosed (.ite (.pathFail (.hnErr h1)) (.hnErr h1))) (.ite (.pathFail (.hnErr h1)) (.hnErr h1)))
    refine .onDie ?_
    split
    · exact .onLanes (.onDie h) (fun _ _ h1 => .hnSent h1)
    · exact .ite (.onLanes (.onDie h) (fun _ _ h1 => .ite (.setSyn h1) h1)) (.onLanes (.onDie h) (fun _ _ h1 => .hnFlag h1))
    · exact .ite (.giveUpPath (.ite (.onLanes (.onDie h) (fun _ _ h1 => .ite (.backoff h1) h1)) (.onDie h))) (.ite (.onLanes (.onDie h) (fun _ _ h1 => .ite (.backoff h1) h1)) (.onDie h))
    · exact .ite (.giveUpPath (.onDie h)) (.onDie h)
theorem State.Wf.canDone {n e} (h : s.Wf) : (s.canDone n e).Wf := by
  unfold State.canDone
  dsimp only
  split
  · exact h
  · refine .onLanes ?_ (fun _ _ h1 => .canErr h1)
    split
    · exact .onLanes (.onDie h) (fun _ _ h1 => .canOut h1)
    · exact .ite (.onDie h) (.onLanes (.onDie h) (fun _ _ h1 => .canOut h1))
    · exact .ite (.onDie h) (.onLanes (.onDie h) (fun _ _ h1 => .canOut h1))
theorem State.Wf.frameDone {n e} (h : s.Wf) : (s.frameDone n e).Wf := .ite (.helmDone h) (.canDone h)
theorem State.Wf.busIdle {n since} (h : s.Wf) : (s.busIdle n since).Wf := .ite (.helmIdle h) (.onDie h)
theorem State.Wf.busRecover {n} (h : s.Wf) : (s.busRecover n).Wf := .ite h (.onLanes (.onDie h) (fun _ _ h1 => .canErr h1))
end

/-! ### Can -/

section
variable {L : Lane} {site : Nat} {s : State} {b : Bin}

theorem Lane.Wf.setAcst {st sa} (h : L.Wf site) : (L.setAcst st sa).Wf site := .wr h
theorem Lane.Wf.canSend {me n k f} (h : L.Wf site) : (L.canSend me n k f).1.Wf site := .updCan h
theorem Lane.Wf.sendClaim {me} (h : L.Wf site) : (L.sendClaim me).1.Wf site := .canSend h
theorem Lane.Wf.canDrop {n k} (h : L.Wf site) : (L.canDrop n k).Wf site := .raise (.setF (.setF h))
theorem Lane.Wf.canFlush {me n} (h : L.Wf site) : (L.canFlush me n).1.Wf site := by
  unfold Lane.canFlush
  split
  · exact h
  · split
    · exact .foldl (.updCan h) fun _ _ hX => .canDrop hX
    · split
      · exact h
      · exact .foldlFst (.updCan h) fun X k hX => show (X.1.canSend me n k (X.1.canBufFrame n k)).1.Wf site from .canSend hX
theorem Lane.Wf.canRequest {me n k was} (h : L.Wf site) : (L.canRequest me n k was).1.Wf site := .iteFst h (.iteFst (.canDrop h) (.canFlush (.updCan (.setF h))))
theorem Lane.Wf.canEnable {me n was} (h : L.Wf site) : (L.canEnable me n was).1.Wf site :=
  .iteFst h (.iteFst (.iteFst h (.iteFst (.sendClaim (.updCan (.setAcst (.setF h)))) (.canFlush (.setF h)))) (.iteFst (.canClose (.updCan h)) h))
theorem Lane.Wf.canAgain {me n} (h : L.Wf site) : (L.canAgain me n).1.Wf site := .iteFst (.canEnable h) h
theorem Lane.Wf.loseAddr {me} (h : L.Wf site) : (L.loseAddr me).1.Wf site := by
  unfold Lane.loseAddr
  extract_lets L1 _ _ _
  have hL1 : L1.Wf site := .raise h
  split
  · exact .sendClaim (.updCan (.setAcst hL1))
  · exact .canFlush (.sendClaim (.raise (.setAcst hL1)))
theorem Lane.Wf.claimReceive {me sa name} (h : L.Wf site) : (L.claimReceive me sa name).1.Wf site := by
  unfold Lane.claimReceive
  refine .iteFst h ?_
  extract_lets L1
  have hL1 : L1.Wf site := .updCan h
  exact .iteFst (.iteFst (.loseAddr hL1) (.iteFst (.sendClaim (.updCan hL1)) hL1)) hL1
theorem Lane.Wf.claimRequest {me} (h : L.Wf site) : (L.claimRequest me).1.Wf site := .iteFst (.sendClaim h) h
theorem Lane.Wf.claimTimeout {me} (h : L.Wf site) : (L.claimTimeout me).1.Wf site := .iteFst (.canFlush (.raise (.setAcst h))) h
theorem Lane.Wf.canReceive {n f} (h : L.Wf site) : (L.canReceive n f).Wf site := by
  unfold Lane.canReceive
  refine .ite h ?_
  split
  · exact h
  · exact .wr (.wr (.wr (.setF (.raise (.ite (.raise h) h)))))
theorem Lane.Wf.negotiate (h : L.Wf site) : L.negotiate.Wf site := by
  unfold Lane.negotiate
  extract_lets _ L1
  have hL1 : L1.Wf site := .setF h
  exact .ite (.raise hL1) hL1
end

/-! ### Meas -/

section
variable {L : Lane} {site : Nat} {s : State} {b : Bin}

theorem Lane.Wf.updMeas {f} (h : L.Wf site) : (L.updMeas f).Wf site := .upd h
theorem Lane.Wf.refOff (h : L.Wf site) : L.refOff.Wf site := .ite (.updMeas (.setF h)) h
theorem Lane.Wf.refWritten {was} (h : L.Wf site) : (L.refWritten was).Wf site := .ite (.ite h (.updMeas h)) (.refOff h)
theorem Lane.Wf.refReady (h : L.Wf site) : L.refReady.Wf site := .ite (.updMeas (.raise (.setF h))) h
theorem Lane.Wf.refFault {me} (h : L.Wf site) : (L.refFault me).Wf site := .ite (.fault (.updMeas (.raise (.refOff h)))) h
theorem Lane.Wf.calLoad (h : L.Wf site) : L.calLoad.Wf site := by
  unfold Lane.calLoad
  refine .foldl ?_ (fun _ _ h1 => .ite (.wr (.wr h1)) (.wr (.wr h1)))
  split
  · exact .setF (.setF (.updMeas h))
  · exact .setF (.updMeas h)
theorem Lane.Wf.slotOn {s} (h : L.Wf site) : (L.slotOn s).Wf site := .updMeas (.wr h)
theorem Lane.Wf.calRefuse {cause} (h : L.Wf site) : (L.calRefuse cause).Wf site := .setF (.raise h)
theorem Lane.Wf.calStop (h : L.Wf site) : L.calStop.Wf site := .calRefuse (.updMeas (.setF (.setF h)))
theorem Lane.Wf.slotOff {s} (h : L.Wf site) : (L.slotOff s).Wf site := by
  unfold Lane.slotOff
  extract_lets L1 L1'
  have hL1 : L1.Wf site := .setF (.setF (.setF h))
  have hL1' : L1'.Wf site := .updMeas hL1
  exact .ite (.calStop hL1') hL1'
theorem Lane.Wf.measCfgErr {cause} (h : L.Wf site) : (L.measCfgErr cause).Wf site := .ite h (.setF (.raise h))
theorem Lane.Wf.measStart (h : L.Wf site) : L.measStart.Wf site :=
  .foldl (.foldl (.measCfgErr (.setF h)) (fun _ _ h1 => .ite (.slotOn h1) h1)) (fun _ _ h1 => .ite (.setF h1) h1)
theorem Lane.Wf.measWritten {was} (h : L.Wf site) : (L.measWritten was).Wf site := .ite (.ite h (.measStart h)) (.ite (.updMeas h) h)
theorem Lane.Wf.measSettle (h : L.Wf site) : L.measSettle.Wf site := by
  unfold Lane.measSettle
  refine .ite ?_ h
  extract_lets L1 L2 L3
  have hL1 : L1.Wf site := .foldl h (fun _ _ h1 => .ite (.slotOff h1) h1)
  have hL2 : L2.Wf site := .foldl hL1 (fun _ _ h2 => .setF (.setF h2))
  have hL3 : L3.Wf site := .updMeas (.setF hL2)
  exact .ite (.measStart hL3) hL3
theorem Lane.Wf.slotWritten {s was} (h : L.Wf site) : (L.slotWritten s was).Wf site := .ite (.ite h (.ite (.measCfgErr h) (.ite (.slotOn h) h))) (.ite (.slotOff h) h)
theorem Lane.Wf.seqOn {q} (h : L.Wf site) : (L.seqOn q).Wf site := .ite (.measCfgErr h) (.ite (.setF h) h)
theorem Lane.Wf.seqWritten {q was} (h : L.Wf site) : (L.seqWritten q was).Wf site := .ite (.ite h (.seqOn h)) (.ite (.updMeas h) (.setF h))
theorem Lane.Wf.wakeSeq {q} (h : L.Wf site) : (L.wakeSeq q).Wf site := .upd h
theorem Lane.Wf.seqDone {q} (h : L.Wf site) : (L.seqDone q).Wf site :=
  .ite (.wakeSeq (.ite (.updMeas (.setF (.setF (.raise h)))) (.ite (.seqOn (.setF (.updMeas (.setF (.setF (.raise h)))))) (.setF (.updMeas (.setF (.setF (.raise h)))))))) h
theorem Lane.Wf.seqStart {q} (h : L.Wf site) : (L.seqStart q).Wf site := .ite (.raise h) (.ite (.ite h (.raise h)) (.updMeas (.setF h)))
theorem Lane.Wf.seqStarts {mask} (h : L.Wf site) : (L.seqStarts mask).Wf site := .foldl h (fun _ _ h1 => .ite (.seqStart h1) h1)
theorem Lane.Wf.groupStart {q} (h : L.Wf site) : (L.groupStart q).Wf site := .ite (.seqDone (.updMeas (.ite (.raise h) h))) h
theorem Lane.Wf.band {s x} (h : L.Wf site) : (L.band s x).Wf site :=
  .ite h (.ite (.updMeas h) (.ite (.ite (.updMeas (.setF h)) (.ite (.raiseBit (.updMeas (.setF h))) (.raiseBit (.updMeas (.setF h))))) (.updMeas h)))
theorem Lane.Wf.bandWritten {s} (h : L.Wf site) : (L.bandWritten s).Wf site := .updMeas h
theorem Lane.Wf.capture {s x1} (h : L.Wf site) : (L.capture s x1).Wf site := .ite (.updMeas h) h
theorem Lane.Wf.deliver {s codes} (h : L.Wf site) : (L.deliver s codes).Wf site := by
  unfold Lane.deliver
  split
  · exact h
  · refine .ite h ?_
    refine .measSettle ?_
    refine .seqDone ?_
    refine .ite ?_ ?_
    · refine .ite (.setF (.setF (.wr (.updMeas h)))) ?_
      refine .capture ?_
      refine .band ?_
      refine .setF ?_
      refine .setF ?_
      refine .setF ?_
      refine .wr ?_
      refine .updMeas ?_
      split
      · exact .updMeas (.wr (.wr (.wr (.updMeas h))))
      · exact .wr (.updMeas h)
    · refine .slotOff ?_
      refine .ite (.setF (.setF (.wr (.updMeas h)))) ?_
      refine .capture ?_
      refine .band ?_
      refine .setF ?_
      refine .setF ?_
      refine .setF ?_
      refine .wr ?_
      refine .updMeas ?_
      split
      · exact .updMeas (.wr (.wr (.wr (.updMeas h))))
      · exact .wr (.updMeas h)
theorem Lane.Wf.spotGo (h : L.Wf site) : L.spotGo.Wf site := .ite (.raise h) (.updMeas h)
theorem Lane.Wf.spotTry (h : L.Wf site) : L.spotTry.Wf site := .ite (.updMeas h) h
theorem Lane.Wf.spotResult {code} (h : L.Wf site) : (L.spotResult code).Wf site := by
  unfold Lane.spotResult
  refine .ite ?_ h
  extract_lets _ _ _ _ L1
  have hL1 : L1.Wf site := .updMeas (.wr h)
  exact .ite (.raise hL1) hL1
theorem Lane.Wf.spotRead (h : L.Wf site) : L.spotRead.2.Wf site := .iteSnd (.updMeas (.ite (.setF h) h)) (.wr h)
theorem Lane.Wf.calStart (h : L.Wf site) : L.calStart.Wf site :=
  .ite (.calRefuse h) (.ite (.calRefuse h) (.ite (.calRefuse h) (.ite (.calRefuse h) (.updMeas (.setF (.ite h (.setF (.setF h))))))))
theorem Lane.Wf.calCompute (h : L.Wf site) : L.calCompute.Wf site := .ite (.ite (.calRefuse h) (.ite (.calRefuse h) (.ite (.calRefuse h) (.updMeas (.raise h))))) h
theorem Lane.Wf.calPoint (h : L.Wf site) : L.calPoint.Wf site := by
  unfold Lane.calPoint
  split
  · exact h
  · refine .ite h ?_
    extract_lets _ L1 L1' L1''
    have hL1 : L1.Wf site := .updMeas (.setF h)
    have hL1' : L1'.Wf site := .wr hL1
    have hL1'' : L1''.Wf site := .wr hL1'
    exact .ite (.calRefuse (.setF hL1'')) (.calCompute (.setF hL1''))
theorem Lane.Wf.calAbort (h : L.Wf site) : L.calAbort.Wf site := .ite (.ite (.raise h) h) (.ite (.raise h) (.ite (.calStop h) h))
theorem Lane.Wf.nvmBegin {k} (h : L.Wf site) : (L.nvmBegin k).Wf site := .ite (.upd (.setF (.upd h))) (.upd h)
theorem Lane.Wf.nvmEnd {k} (h : L.Wf site) : (L.nvmEnd k).Wf site := .upd (.setF h)
theorem Lane.Wf.calCommit (h : L.Wf site) : L.calCommit.Wf site := by
  unfold Lane.calCommit
  split
  · exact .ite (.nvmBegin (.updMeas (.setF h))) (.calRefuse h)
  · exact .calRefuse h
theorem Lane.Wf.calStored {ok} (h : L.Wf site) : (L.calStored ok).Wf site := by
  unfold Lane.calStored
  split
  · exact h
  · exact .ite h (.ite (.calRefuse (.flashFree (.nvmEnd (.updMeas (.setF h))))) (.setF (.setF (.updMeas (.flashWords (.nvmEnd (.updMeas (.setF h))))))))
theorem Lane.Wf.calCmd {v} (h : L.Wf site) : (L.calCmd v).Wf site := by
  unfold Lane.calCmd
  extract_lets L1 L2
  have hL1 : L1.Wf site := .ite (.calAbort h) h
  have hL2 : L2.Wf site := .ite (.calStart hL1) hL1
  exact .ite (.calCommit hL2) hL2
end

/-! ### Pos -/

section
variable {L : Lane} {site : Nat} {s : State} {b : Bin}

theorem Lane.Wf.updPos {n f} (h : L.Wf site) : (L.updPos n f).Wf site := .upd h
theorem Lane.Wf.posShow {n} (h : L.Wf site) : (L.posShow n).Wf site := .wr (.wr (.wr h))
theorem Lane.Wf.posStep {n d} (h : L.Wf site) : (L.posStep n d).Wf site := .wr h
theorem Lane.Wf.posOn {n} (h : L.Wf site) : (L.posOn n).Wf site := .posShow (.updPos (.setF (.wr (.setF h))))
theorem Lane.Wf.posOff {n} (h : L.Wf site) : (L.posOff n).Wf site := .setF h
theorem Lane.Wf.posWritten {n was} (h : L.Wf site) : (L.posWritten n was).Wf site := .ite (.ite h (.ite (.raise h) (.ite (.posOn h) h))) (.posOff h)
theorem Lane.Wf.travelOff (h : L.Wf site) : L.travelOff.Wf site := .setF (.setF (.setF (.setF h)))
theorem Lane.Wf.gsOff (h : L.Wf site) : L.gsOff.Wf site := .upd (.setF h)
theorem Lane.Wf.posCtrlWritten {was} (h : L.Wf site) : (L.posCtrlWritten was).Wf site :=
  .ite (.ite h (.foldl (.setF h) (fun _ _ h1 => .ite (.posOn h1) h1))) (.upd (.foldl (.setF h) (fun _ _ h1 => .posOff h1)))
theorem Lane.Wf.posErr {n flag cnt} (h : L.Wf site) : (L.posErr n flag cnt).Wf site := .bump (.raise h)
theorem Lane.Wf.quadEdge {n a b} (h : L.Wf site) : (L.quadEdge n a b).Wf site :=
  .ite (.updPos h) (.ite (.posErr (.ite (.posErr (.updPos h)) (.updPos h))) (.ite (.ite (.posErr (.updPos h)) (.updPos h)) (.ite (.posStep (.ite (.posErr (.updPos h)) (.updPos h))) (.posStep (.ite (.posErr (.updPos h)) (.updPos h))))))
theorem Lane.Wf.hallEdge {n h} (hw : L.Wf site) : (L.hallEdge n h).Wf site := by
  unfold Lane.hallEdge
  refine .ite (.updPos hw) ?_
  split
  · exact .ite (.raise (.ite (.posErr (.updPos hw)) (.updPos hw))) (.ite (.ite (.posErr (.updPos hw)) (.updPos hw)) (.posStep (.ite (.posErr (.updPos hw)) (.updPos hw))))
  · exact .raise (.ite (.posErr (.updPos hw)) (.updPos hw))
  · exact .ite (.raise (.ite (.posErr (.updPos hw)) (.updPos hw))) (.ite (.posErr (.updPos hw)) (.updPos hw))
theorem Lane.Wf.indexEdge {n} (h : L.Wf site) : (L.indexEdge n).Wf site :=
  .ite h (.ite (.updPos (.raise (.setF (.wr h)))) (.ite (.ite (.raise (.updPos (.wr h))) (.ite (.updPos (.setF (.setF (.raise (.updPos (.wr h)))))) (.setF (.setF (.raise (.updPos (.wr h))))))) (.raise (.posErr (.updPos (.wr h))))))
theorem Lane.Wf.posCorrect {n} (h : L.Wf site) : (L.posCorrect n).Wf site := .ite (.posShow (.updPos (.wr h))) h
theorem Lane.Wf.sincosPair {n} (h : L.Wf site) : (L.sincosPair n).Wf site :=
  .ite h (.ite (.updPos (.updPos h)) (.ite (.ite (.raise (.posErr (.updPos (.updPos h)))) (.updPos (.updPos h))) (.updPos (.ite (.posStep (.updPos h)) (.updPos h)))))
theorem Lane.Wf.pulseEdge {n high} (h : L.Wf site) : (L.pulseEdge n high).Wf site := by
  unfold Lane.pulseEdge
  refine .ite h ?_
  extract_lets _ L1
  have hL1 : L1.Wf site := .updPos (.posStep h)
  exact .ite hL1 (.wr (.wr hL1))
theorem Lane.Wf.pulseTimeout {n level} (h : L.Wf site) : (L.pulseTimeout n level).Wf site := .ite (.updPos (.wr (.wr h))) h
theorem Lane.Wf.posObserve {n} (h : L.Wf site) : (L.posObserve n).Wf site := .ite h (.ite (.posShow (.updPos h)) (.posShow (.updPos h)))
theorem Lane.Wf.updSent {m f} (h : L.Wf site) : (L.updSent m f).Wf site := .upd h
theorem Lane.Wf.sentOff {m} (h : L.Wf site) : (L.sentOff m).Wf site := .setF (.setF h)
theorem Lane.Wf.sentWritten {m was} (h : L.Wf site) : (L.sentWritten m was).Wf site :=
  .ite (.ite h (.ite (.raise h) (.updSent (.setF (.setF (.setF (.setF (.setF h)))))))) (.sentOff h)
theorem Lane.Wf.sentReject {m flag} (h : L.Wf site) : (L.sentReject m flag).Wf site := by
  unfold Lane.sentReject
  extract_lets _ L1
  have hL1 : L1.Wf site := .updSent (.setF (.raise h))
  exact .ite (.setF hL1) hL1
theorem Lane.Wf.sentCode {m code} (h : L.Wf site) : (L.sentCode m code).Wf site := by
  unfold Lane.sentCode
  dsimp only
  refine .ite (.setF h) ?_
  split
  · exact .updSent (.setF (.raise (.setF h)))
  · exact .ite (.updSent (.setF (.setF (.setF h)))) (.ite (.setF (.updSent (.setF h))) (.updSent (.setF h)))
theorem Lane.Wf.sentSlow {m id data} (h : L.Wf site) : (L.sentSlow m id data).Wf site := by
  unfold Lane.sentSlow
  extract_lets L1
  have hL1 : L1.Wf site := .ite (.sentCode h) h
  exact .ite (.wr hL1) hL1
theorem Lane.Wf.slowStep {m status} (h : L.Wf site) : (L.slowStep m status).Wf site :=
  .ite (.ite (.raise (.updSent h)) (.ite (.sentSlow (.updSent h)) (.sentSlow (.updSent h)))) (.ite (.ite (.raise (.updSent h)) (.sentSlow (.updSent h))) (.updSent h))
theorem Lane.Wf.sentFrame {m cal pulses} (h : L.Wf site) : (L.sentFrame m cal pulses).Wf site := by
  unfold Lane.sentFrame
  refine .ite h ?_
  refine .ite (.sentReject (.wr h)) ?_
  refine .ite (.sentReject (.wr h)) ?_
  refine .ite (.sentReject (.wr h)) ?_
  refine .slowStep ?_
  refine .ite ?_ ?_
  · refine .ite ?_ ?_
    · refine .updSent ?_
      refine .wr ?_
      refine .wr ?_
      split
      · exact .updSent (.raise (.setF (.updSent (.wr (.setF (.wr h))))))
      · exact .updSent (.wr (.setF (.wr h)))
    · refine .setF ?_
      refine .updSent ?_
      refine .wr ?_
      refine .wr ?_
      split
      · exact .updSent (.raise (.setF (.updSent (.wr (.setF (.wr h))))))
      · exact .updSent (.wr (.setF (.wr h)))
  · split
    · exact .updSent (.raise (.setF (.updSent (.wr (.setF (.wr h))))))
    · exact .updSent (.wr (.setF (.wr h)))
theorem Lane.Wf.sentTimeout {m} (h : L.Wf site) : (L.sentTimeout m).Wf site := .ite (.setF (.raise h)) h
theorem Lane.Wf.updTrav {f} (h : L.Wf site) : (L.updTrav f).Wf site := .upd h
theorem Lane.Wf.travShow (h : L.Wf site) : L.travShow.Wf site := by
  unfold Lane.travShow
  extract_lets _ _ L1 L1' L1'' L1'''
  have hL1 : L1.Wf site := .setF (.setF (.setF h))
  have hL1' : L1'.Wf site := .foldl hL1 (fun _ _ h2 => .wr h2)
  have hL1'' : L1''.Wf site := .wr hL1'
  have hL1''' : L1'''.Wf site := .wr hL1''
  exact .ite (.raise hL1''') hL1'''
theorem Lane.Wf.travPulse {src} (h : L.Wf site) : (L.travPulse src).Wf site := by
  unfold Lane.travPulse
  refine .ite h ?_
  extract_lets _ _ L1 L2 L3
  have hL1 : L1.Wf site := .updTrav (.wr h)
  have hL2 : L2.Wf site := .ite (.updTrav hL1) hL1
  have hL3 : L3.Wf site := .ite (.updTrav hL2) hL2
  exact .travShow hL3
theorem Lane.Wf.travStill {src} (h : L.Wf site) : (L.travStill src).Wf site := .ite (.travShow (.updTrav h)) h
theorem Lane.Wf.travApply {pos12} (h : L.Wf site) : (L.travApply pos12).Wf site := by
  unfold Lane.travApply
  extract_lets ctl en X X' L1
  have hX : X'.Wf site := .foldl (.wr (.setF (.setF h))) fun _ _ hY => .wr hY
  have h1 : L1.Wf site := .ite (.travShow (.updTrav hX)) (.ite (.updTrav (.travelOff h)) h)
  exact .ite (.updTrav (.gsOff h1)) (.ite (.updTrav (.setF h1)) h1)
theorem Lane.Wf.gsWritten {was} (h : L.Wf site) : (L.gsWritten was).Wf site := .ite (.ite (.setF (.raise h)) (.updTrav h)) (.updTrav h)
theorem Lane.Wf.gsAdvance {steps} (h : L.Wf site) : (L.gsAdvance steps).Wf site := .ite (.updTrav h) h
end

/-! ### Out -/

section
variable {L : Lane} {site : Nat} {s : State} {b : Bin}

theorem Lane.Wf.emit {r} (h : r.1.Wf site) : (Lane.emit r).Wf site := .upd h
theorem Lane.Wf.emitR {r} (h : r.1.Wf site) : (Lane.emitR r).Wf site := .upd h
end

/-! ### Eth -/

section
variable {L : Lane} {site : Nat} {s : State} {b : Bin}

theorem Lane.Wf.updEth {p f} (h : L.Wf site) : (L.updEth p f).Wf site := .upd h
theorem Lane.Wf.dma {a b} (h : L.Wf site) : (L.dma a b).Wf site := .ite (.setByte h) h
theorem Lane.Wf.dmaBytes {a bs} (h : L.Wf site) : (L.dmaBytes a bs).Wf site := by
  induction bs generalizing L a with
  | nil => exact h
  | cons b t ih => exact ih (.dma h)
theorem Lane.Wf.ethEnable {p was} (h : L.Wf site) : (L.ethEnable p was).Wf site :=
  .ite h (.ite (.ite h (.ite (.wr (.setF h)) (.raise h))) (.ite (.ite (.setF h) (.updEth h)) h))
theorem Lane.Wf.ethClose {p} (h : L.Wf site) : (L.ethClose p).Wf site := by
  unfold Lane.ethClose
  refine .ite ?_ h
  extract_lets L1
  have hL1 : L1.Wf site := .setF (.updEth h)
  exact .ite (.ethEnable hL1) hL1
theorem Lane.Wf.ethSend {p k bytes} (h : L.Wf site) : (L.ethSend p k bytes).Wf site := .emitR (.updEth h)
theorem Lane.Wf.txTake {p} (h : L.Wf site) : (L.txTake p).Wf site := .ite h (.ethSend (.setF h))
theorem Lane.Wf.txDone {p tag why} (h : L.Wf site) : (L.txDone p tag why).Wf site := by
  unfold Lane.txDone
  split
  · exact h
  · exact .ethClose (.ite (.ite (.bump (.updEth h)) (.raise (.updEth h))) (.raise (.dmaBytes (.ite (.bump (.updEth h)) (.raise (.updEth h))))))
theorem State.Wf.ethDone {p} (h : s.Wf) : (s.ethDone p).Wf := by
  unfold State.ethDone
  split
  · exact h
  · exact .ite h (.onLanes (.onDie h) (fun _ _ h1 => .txDone h1))
theorem Lane.Wf.ethReceive {p bytes good} (h : L.Wf site) : (L.ethReceive p bytes good).Wf site :=
  .ite h (.ite (.raise h) (.ite (.upd h) (.ite h (.ite (.raise h) (.bump (.raise (.setF (.dmaBytes (.dmaBytes h)))))))))
theorem Lane.Wf.phyGo {p was} (h : L.Wf site) : (L.phyGo p was).Wf site := .ite h (.updEth (.setF h))
theorem State.Wf.phyDone {p data} (h : s.Wf) : (s.phyDone p data).Wf := by
  unfold State.phyDone
  refine .ite h ?_
  refine .onLanes (.portOutl h) fun _ _ h1 => ?_
  split
  · exact h1
  · refine .phyGo ?_
    split
    · exact .ite (.raise (.dropW1s (.setF (.updEth h1)))) (.setF (.raise (.dropW1s (.setF (.updEth h1)))))
    · exact .raise (.dropW1s (.setF (.updEth h1)))
theorem Lane.Wf.refclk {p ok} (h : L.Wf site) : (L.refclk p ok).Wf site := by
  unfold Lane.refclk
  refine .ite h ?_
  extract_lets L1
  have hL1 : L1.Wf site := .setF h
  exact .ite hL1 (.raise hL1)
end

/-! ### Safe -/

section
variable {L : Lane} {site : Nat} {s : State} {b : Bin}

theorem Lane.Wf.updSafe {f} (h : L.Wf site) : (L.updSafe f).Wf site := .upd h
theorem Lane.Wf.updSess {n f} (h : L.Wf site) : (L.updSess n f).Wf site := .updSafe h
theorem Lane.Wf.updMon {a f} (h : L.Wf site) : (L.updMon a f).Wf site := .updSafe h
theorem Lane.Wf.updCk {f} (h : L.Wf site) : (L.updCk f).Wf site := .upd h
theorem Lane.Wf.updDg {f} (h : L.Wf site) : (L.updDg f).Wf site := .upd h
theorem Lane.Wf.updPw {f} (h : L.Wf site) : (L.updPw f).Wf site := .upd h
theorem Lane.Wf.cmdStale {n} (h : L.Wf site) : (L.cmdStale n).Wf site := .foldl h (fun _ _ h1 => .ite (.updAx h1) h1)
theorem Lane.Wf.setSess {n st} (h : L.Wf site) : (L.setSess n st).Wf site := .ite h (.cmdStale (.raise (.setF h)))
theorem Lane.Wf.pduBad {n flag} (h : L.Wf site) : (L.pduBad n flag).Wf site := .bump (.raise h)
theorem Lane.Wf.updStops (h : L.Wf site) : L.updStops.Wf site := by
  unfold Lane.updStops
  extract_lets _ _ _ _ L1
  have hL1 : L1.Wf site := .updEdg h
  exact .ite hL1 (.emit (.stopNow hL1))
theorem Lane.Wf.lockOut {axes dev} (h : L.Wf site) : (L.lockOut axes dev).Wf site := by
  unfold Lane.lockOut
  extract_lets new L1 L2 L3 L4
  have h1 : L1.Wf site := .setF (.setF h)
  have h2 : L2.Wf site := .ite (.setF (.setF h1)) h1
  have h3 : L3.Wf site := .foldl h2 fun _ _ hX => .ite (.updMon (.setF (.setF (.setF (.setF (.setF hX)))))) hX
  have h4 : L4.Wf site := .ite h3 (.raise h3)
  exact .ite h (.nvmBegin (.updDg (.raise h4)))
theorem Lane.Wf.axisReact {a code} (h : L.Wf site) : (L.axisReact a code).Wf site := .ite h (.ite (.lockOut h) (.ite h (.updMon h)))
theorem Lane.Wf.axesReact {mask code} (h : L.Wf site) : (L.axesReact mask code).Wf site := .foldl h (fun _ _ h1 => .ite (.axisReact h1) h1)
theorem Lane.Wf.reactAgreed {x} (h : L.Wf site) : (L.reactAgreed x).Wf site := by
  unfold Lane.reactAgreed
  split
  · exact .ite (.updStops (.axesReact (.updSess (.setSess h)))) h
  · exact .updStops (.axisReact h)
  · exact h
theorem Lane.Wf.postTrip {t} (h : L.Wf site) : (L.postTrip t).Wf site := .ite h (.updCk h)
theorem Lane.Wf.react {t} (h : L.Wf site) : (L.react t).Wf site := .ite (.reactAgreed h) (.updStops (.postTrip h))
theorem Lane.Wf.sessReact {n stop both} (h : L.Wf site) : (L.sessReact n stop both).Wf site := by
  unfold Lane.sessReact
  dsimp only
  split
  · exact .react (.updCk h)
  · exact .react h
theorem Lane.Wf.sessExpire {n} (h : L.Wf site) : (L.sessExpire n).Wf site := .ite (.sessReact (.updSess h)) h
theorem Lane.Wf.pduTake {r age} (h : L.Wf site) : (L.pduTake r age).Wf site := by
  unfold Lane.pduTake
  extract_lets _ _ _ L1 L2
  have hL1 : L1.Wf site := .updSess (.setF h)
  have hL2 : L2.Wf site := .updSafe hL1
  exact .ite (.sessReact hL2) hL2
theorem Lane.Wf.pduCheck {L0 : Lane} (h : L0.Wf site) : L0.pduCheck.Wf site := by
  unfold Lane.pduCheck
  split
  · exact h
  · extract_lets L _ _ _ _ _ _ _ _
    have hL : L.Wf site := .updSafe h
    exact .ite hL (.ite (.bump hL) (.ite (.pduBad hL) (.ite (.pduBad hL) (.ite (.pduBad hL) (.ite (.pduTake hL) (.ite (.bump hL) (.ite (.pduBad hL) (.pduTake hL))))))))
theorem Lane.Wf.pduCheckTy {ty} (h : L.Wf site) : (L.pduCheckTy ty).Wf site := by
  unfold Lane.pduCheckTy
  split
  · exact h
  · exact .ite (.pduCheck h) h
theorem Lane.Wf.helmPdu {k f} (h : L.Wf site) : (L.helmPdu k f).Wf site := .ite (.updSafe h) h
theorem Lane.Wf.reply {c n seq ty result w1 w2} (h : L.Wf site) : (L.reply c n seq ty result w1 w2).Wf site :=
  .ite h (.ite (.ethSend (.updSess h)) (.setF (.foldl (.updSess h) (fun _ _ h1 => .wr h1))))
theorem Lane.Wf.sessEnable {n was} (h : L.Wf site) : (L.sessEnable n was).Wf site := .ite (.ite (.raise (.updSess h)) (.updSess h)) h
theorem Lane.Wf.safeWritten {was} (h : L.Wf site) : (L.safeWritten was).Wf site := .ite h (.ite (.ite h (.setF h)) (.ite (.setF h) (.updSafe h)))
theorem Lane.Wf.sessApply (h : L.Wf site) : L.sessApply.Wf site := by
  unfold Lane.sessApply
  extract_lets _ L1
  have hL1 : L1.Wf site := .foldl h (fun _ _ h1 => .ite (.ite (.setSess h1) h1) (.ite (.updStops (.updSess (.setSess h1))) h1))
  exact .ite (.setF (.updSafe hL1)) hL1
theorem Lane.Wf.helloAgreed {c p} (h : L.Wf site) : (L.helloAgreed c p).Wf site :=
  .ite (.reply h) (.ite (.reply h) (.reply (.updStops (.updSess (.setF (.setF (.setF (.setSess h))))))))
theorem Lane.Wf.queryAgreed {c p} (h : L.Wf site) : (L.queryAgreed c p).Wf site := .ite (.reply (.setF (.updSafe h))) (.reply h)
theorem Lane.Wf.confirmAgreed {c p} (h : L.Wf site) : (L.confirmAgreed c p).Wf site := .ite (.reply (.raise h)) (.nvmBegin (.setF (.updSafe h)))
theorem Lane.Wf.relBegin {mask sess seq} (h : L.Wf site) : (L.relBegin mask sess seq).Wf site := .nvmBegin (.updDg (.updSafe h))
theorem Lane.Wf.resetAgreed {c p} (h : L.Wf site) : (L.resetAgreed c p).Wf site := .ite (.relBegin h) (.reply (.ite (.raise h) h))
theorem Lane.Wf.recWrite {base mark cur ws} (h : L.Wf site) : (L.recWrite base mark cur ws).Wf site := .flashWords h
theorem Lane.Wf.recSpoil {base n cur} (h : L.Wf site) : (L.recSpoil base n cur).Wf site := .flashFree h
theorem Lane.Wf.comWrite {id cp ccv} (h : L.Wf site) : (L.comWrite id cp ccv).Wf site := .recWrite h
theorem Lane.Wf.comLoad (h : L.Wf site) : L.comLoad.Wf site := by
  unfold Lane.comLoad
  split
  · exact .setF h
  · exact .setF (.setF (.setF h))
theorem Lane.Wf.comStale (h : L.Wf site) : L.comStale.Wf site := by
  unfold Lane.comStale
  split
  · exact h
  · exact .recWrite h
theorem Lane.Wf.comDone {ok} (h : L.Wf site) : (L.comDone ok).Wf site := by
  unfold Lane.comDone
  split
  · exact h
  · exact .ite h (.updSafe (.nvmEnd (.comLoad (.ite (.comWrite h) (.recSpoil h)))))
theorem Lane.Wf.chalExpire (h : L.Wf site) : L.chalExpire.Wf site := .ite (.setF (.updSafe h)) h
theorem Lane.Wf.loLoad (h : L.Wf site) : L.loLoad.Wf site := by
  unfold Lane.loLoad
  split
  · exact .updDg h
  · exact .updDg h
theorem Lane.Wf.loDone {ok} (h : L.Wf site) : (L.loDone ok).Wf site := by
  unfold Lane.loDone
  refine .ite h ?_
  extract_lets _ _ _ L1
  have hL1 : L1.Wf site := .ite (.recWrite h) (.recSpoil h)
  exact .ite (.updSafe (.nvmEnd hL1)) (.nvmEnd hL1)
theorem Lane.Wf.relTake {mask} (h : L.Wf site) : (L.relTake mask).Wf site := by
  unfold Lane.relTake
  extract_lets _ _ L1 L2 L3
  have hL1 : L1.Wf site := .setF (.setF h)
  have hL2 : L2.Wf site := .foldl hL1 (fun _ _ h2 => .ite (.setF (.setF (.setF h2))) h2)
  have hL3 : L3.Wf site := .ite (.setF hL2) hL2
  exact .updStops (.updDg (.raise (.holdKeys hL3)))
end

/-! ### Sfn -/

section
variable {L : Lane} {site : Nat} {s : State} {b : Bin}

theorem Lane.Wf.sfnEnable {a was} (h : L.Wf site) : (L.sfnEnable a was).Wf site := .ite h (.ite (.raise (.updMon h)) (.updMon h))
theorem Lane.Wf.monitor {a dt sp} (h : L.Wf site) : (L.monitor a dt sp).1.Wf site := by
  unfold Lane.monitor
  extract_lets c m src p v bad env dir cP cR cD cE up m1 vP vR vD vE codes code flag L1 L1' L1'' L1''' x0 x1 x2 step x3 x4 L2 L3
  have hflag : ∀ X y f, X.Wf site → (flag X y f).Wf site := fun _ _ _ hX => .ite (.raise hX) hX
  have h1 : L1'.Wf site := .wr (.wr (.updMon h))
  have h1' : L1''.Wf site := hflag _ _ _ (hflag _ _ _ (hflag _ _ _ (hflag _ _ _ (hflag _ _ _ h1))))
  have h2 : L2.Wf site := .setF (.ite (.raise h1') h1')
  exact .iteFst (.setF h) (.ite h2 (.react h2))
theorem Lane.Wf.cstopStart {a ck} (h : L.Wf site) : (L.cstopStart a ck).Wf site := .ite (.raise (.setF (.setF (.updMon h)))) h
theorem Lane.Wf.cstopEnd {a} (h : L.Wf site) : (L.cstopEnd a).Wf site := by
  unfold Lane.cstopEnd
  split
  · exact .ite (.react (.updMon h)) h
  · exact h
theorem Lane.Wf.ucCheck (h : L.Wf site) : L.ucCheck.Wf site := .ite (.foldl (.raise (.updSafe h)) (fun _ _ h1 => .ite (.react h1) h1)) h
end

/-! ### Degr -/

section
variable {L : Lane} {site : Nat} {s : State} {b : Bin}

theorem Lane.Wf.setSta {k st} (h : L.Wf site) : (L.setSta k st).Wf site := by
  unfold Lane.setSta
  extract_lets L1 L1'
  have hL1 : L1.Wf site := .setF h
  have hL1' : L1'.Wf site := .ite (.raise hL1) hL1
  exact .ite (.setF hL1') hL1'
theorem State.Wf.setSta {k st} (h : s.Wf) : (s.setSta k st).Wf := .onLanes h (fun _ _ h1 => .setSta h1)
theorem Lane.Wf.adoptMode {w} (h : L.Wf site) : (L.adoptMode w).Wf site := .ite h (.logRec (.raise (.wr h)))
theorem Lane.Wf.setDmode {d} (h : L.Wf site) : (L.setDmode d).Wf site := .adoptMode (.setF h)
theorem Lane.Wf.sdStart (h : L.Wf site) : L.sdStart.Wf site := .updDg (.raise (.setDmode (.foldl h (fun _ _ h1 => .ite (.setSta h1) (.ite (.setSta h1) h1)))))
theorem Lane.Wf.sdEnd {bad} (h : L.Wf site) : (L.sdEnd bad).Wf site := .ite (.updDg (.setF h)) h
theorem Lane.Wf.giveUp {failed} (h : L.Wf site) : (L.giveUp failed).Wf site := .updDg (.updEdg h)
theorem Lane.Wf.enterLast {ph keep} (h : L.Wf site) : (L.enterLast ph keep).Wf site := .updDg (.setDmode (.raise (.setF (.setF h))))
theorem Lane.Wf.enterHeave {cause lanes} (h : L.Wf site) : (L.enterHeave cause lanes).Wf site := .updDg (.setDmode (.raise (.setF (.setF h))))
theorem Lane.Wf.sdOutcome {pass} (h : L.Wf site) : (L.sdOutcome pass).Wf site := by
  unfold Lane.sdOutcome
  extract_lets diag fail L0 out L1 L2
  have h1 : L1.Wf site := .foldl (.raise (.setF (.setF h))) fun _ _ hX => .ite (.setSta hX) hX
  have h2 : L2.Wf site := .updEdg h1
  exact .ite (.ite (.enterLast h2) (.enterHeave h2)) (.ite (.giveUp h1) h1)
theorem Lane.Wf.giveUpEnd {flash} (h : L.Wf site) : (L.giveUpEnd flash).Wf site := .ite (.updDg (.updEdg (.ite (.recWrite h) h))) h
theorem Lane.Wf.otherGone {k} (h : L.Wf site) : (L.otherGone k).Wf site := by
  unfold Lane.otherGone
  refine .ite ?_ h
  extract_lets _ L1
  have hL1 : L1.Wf site := .setF (.updEdg h)
  exact .ite (.enterLast hL1) hL1
theorem Lane.Wf.enterLock (h : L.Wf site) : L.enterLock.Wf site := .updStops (.lockOut (.setDmode h))
theorem Lane.Wf.dgSample (h : L.Wf site) : L.dgSample.Wf site := .ite h (.ite (.enterLock h) (.ite (.ite (.ite (.updDg (.setF h)) h) (.ite (.updDg h) h)) h))
theorem Lane.Wf.crawlEnd (h : L.Wf site) : L.crawlEnd.Wf site := .ite (.updDg (.setF h)) h
theorem Lane.Wf.stillWait (h : L.Wf site) : L.stillWait.Wf site := by
  unfold Lane.stillWait
  refine .ite ?_ h
  extract_lets L1
  have hL1 : L1.Wf site := .updDg h
  exact .ite (.enterLock hL1) hL1
theorem Lane.Wf.axisLost {a} (h : L.Wf site) : (L.axisLost a).Wf site := .ite (.enterHeave (.raise (.setF h))) h
end

/-! ### Reck -/

section
variable {L : Lane} {site : Nat} {s : State} {b : Bin}

theorem Lane.Wf.rknDir {r d} (h : L.Wf site) : (L.rknDir r d).Wf site := .ite h (.setF h)
theorem Lane.Wf.rknRun {r b} (h : L.Wf site) : (L.rknRun r b).Wf site := .setF h
theorem Lane.Wf.rknFollow {r ang rate} (h : L.Wf site) : (L.rknFollow r ang rate).Wf site := .upd (.rknRun (.rknDir h))
theorem Lane.Wf.rknTake {r id ang rate} (h : L.Wf site) : (L.rknTake r id ang rate).Wf site := .upd (.rknFollow h)
theorem Lane.Wf.rknHold {r} (h : L.Wf site) : (L.rknHold r).Wf site := .upd (.rknRun h)
theorem Lane.Wf.rknStill {r} (h : L.Wf site) : (L.rknStill r).Wf site := .upd (.rknRun h)
theorem Lane.Wf.rknStep {r} (h : L.Wf site) : (L.rknStep r).Wf site := .upd (.rknDir h)
theorem Lane.Wf.rknSource {r id ang rate} (h : L.Wf site) : (L.rknSource r id ang rate).Wf site := .ite (.rknStep h) (.rknTake h)
theorem Lane.Wf.rknMech {r} (h : L.Wf site) : (L.rknMech r).Wf site := by
  unfold Lane.rknMech
  split
  · exact .rknHold h
  · exact .ite (.rknSource h) (.rknStill h)
theorem Lane.Wf.rknPath {r pos run} (h : L.Wf site) : (L.rknPath r pos run).Wf site :=
  .ite (.rknRun h) (.ite (.gsAdvance (.updTrav (.setF (.rknRun h)))) (.updTrav (.setF (.rknRun h))))
theorem Lane.Wf.rknTravel (h : L.Wf site) : L.rknTravel.Wf site := .rknPath (.rknPath h)
theorem Lane.Wf.rknSnap (h : L.Wf site) : L.rknSnap.Wf site := .foldl h (fun _ _ h1 => .wr h1)
end

/-! ### Commut -/

section
variable {L : Lane} {site : Nat} {s : State} {b : Bin}

theorem Lane.Wf.mcFlag {b f} (h : L.Wf site) : (L.mcFlag b f).Wf site := .raise h
theorem Lane.Wf.mcTick {b} (h : L.Wf site) : (L.mcTick b).Wf site := .ite (.rknHold h) (.ite (.rknSource h) (.ite (.rknHold h) (.rknStep (.rknRun h))))
theorem Lane.Wf.mcEstimate {k} (h : L.Wf site) : (L.mcEstimate k).Wf site := by
  unfold Lane.mcEstimate
  refine .foldl h fun _ _ h1 => ?_
  extract_lets _ _ _ _ _ _ X1
  have hX1 : X1.Wf site := .ite (.updMc h1) h1
  exact .ite hX1 (.ite (.rknFollow hX1) (.ite (.rknFollow hX1) hX1))
theorem Lane.Wf.mcOut {b} (h : L.Wf site) : (L.mcOut b).Wf site := .updEdg h
theorem Lane.Wf.mcPost {b c} (h : L.Wf site) : (L.mcPost b c).Wf site := .ite h (.postTrip (.updMc h))
theorem Lane.Wf.mcGo {b dst} (h : L.Wf site) : (L.mcGo b dst).Wf site := .mcPost h
theorem Lane.Wf.mcRest {b} (h : L.Wf site) : (L.mcRest b).Wf site := .ite (.mcGo h) (.ite (.mcGo h) (.mcGo (.mcFlag h)))
theorem Lane.Wf.mcOfsEnd {b} (h : L.Wf site) : (L.mcOfsEnd b).Wf site :=
  .ite h (.ite (.mcGo (.mcFlag (.wr h))) (.ite (.wr h) (.ite (.mcGo (.wr h)) (.mcRest (.wr h)))))
theorem Lane.Wf.mcOther {b} (h : L.Wf site) : (L.mcOther b).Wf site := by
  unfold Lane.mcOther
  split
  · exact .ite (.mcOfsEnd h) h
  · exact h
theorem Lane.Wf.mcSet {b st from_} (h : L.Wf site) : (L.mcSet b st from_).Wf site := by
  unfold Lane.mcSet
  extract_lets _ L1 L1' L1'' L1''' L1'''' L2
  have hL1 : L1.Wf site := .setF (.setF h)
  have hL1' : L1'.Wf site := .setF (.setF (.setF hL1))
  have hL1'' : L1''.Wf site := .updMc hL1'
  have hL1''' : L1'''.Wf site := .updEdg hL1''
  have hL1'''' : L1''''.Wf site := by
    dsimp only [L1'''']
    split
    · exact .bump hL1'''
    · exact .rknFollow hL1'''
    · exact .bump (.setF hL1''')
    · exact .mcFlag hL1'''
    · exact hL1'''
  have hL2 : L2.Wf site := .mcOut hL1''''
  exact .ite (.mcOther hL2) hL2
theorem Lane.Wf.mcRunAngle {b old flip} (h : L.Wf site) : (L.mcRunAngle b old flip).Wf site :=
  .ite (.updMc (.setF (.setF (.rknFollow h)))) (.ite (.bump (.mcFlag (.rknFollow h))) (.ite (.rknFollow h) (.rknFollow h)))
theorem Lane.Wf.mcEnter {b dst flip} (h : L.Wf site) : (L.mcEnter b dst flip).Wf site := by
  unfold Lane.mcEnter
  dsimp only
  refine .ite (.mcSet (.ite (.updMc h) h)) ?_
  split
  · exact .ite (.rknFollow (.mcSet (.mcRunAngle (.mcSet (.ite (.updMc h) h))))) (.mcRunAngle (.mcSet (.ite (.updMc h) h)))
  · exact .mcRunAngle (.mcSet (.ite (.updMc h) h))
theorem Lane.Wf.mcDue {b ck} (h : L.Wf site) : (L.mcDue b ck).Wf site := by
  unfold Lane.mcDue
  dsimp only
  split
  · exact .mcEnter (.updMc h)
  · refine .foldl (.updMc h) fun _ _ h1 => ?_
    split
    · exact .ite (.updMc (.setF h1)) h1
    · exact h1
theorem Lane.Wf.mcRetry {b} (h : L.Wf site) : (L.mcRetry b).Wf site := .ite (.mcGo h) (.mcGo (.mcFlag h))
theorem Lane.Wf.mcStart {b} (h : L.Wf site) : (L.mcStart b).Wf site := .ite (.mcFlag (.updMc h)) (.mcSet (.bump (.setF (.setF (.updMc h)))))
theorem Lane.Wf.mcWritten {b was} (h : L.Wf site) : (L.mcWritten b was).Wf site := .mcOut (.ite (.ite h (.updMc h)) (.updMc h))
theorem Lane.Wf.mcMark {b} (h : L.Wf site) : (L.mcMark b).Wf site := by
  unfold Lane.mcMark
  extract_lets m legs p L0 L1 L1' L2 v span lim L3
  have h0 : L0.Wf site := .ite (.mcFlag h) h
  have h1 : L1'.Wf site := .ite (.updMc (.updMc h0)) (.updMc h0)
  have h2 : L2.Wf site := .updMc (.mcSet h1)
  have h3 : L3.Wf site := .ite (.mcFlag h1) h1
  exact .ite (.mcOut h1) (.ite (.ite (.updMc h2) h2) (.ite (.mcOut (.setF h3)) (.mcOut h1)))
theorem Lane.Wf.mcTimed {b} (h : L.Wf site) : (L.mcTimed b).Wf site := .ite (.updMc (.mcSet h)) (.ite (.updMc (.mcSet h)) h)
theorem Lane.Wf.mcRelockOut {b} (h : L.Wf site) : (L.mcRelockOut b).Wf site := .ite (.mcSet h) h
theorem Lane.Wf.mcVerEnd {b} (h : L.Wf site) : (L.mcVerEnd b).Wf site := .ite (.setF (.setF h)) h
theorem Lane.Wf.mcSinCos {b} (h : L.Wf site) : (L.mcSinCos b).Wf site := .ite h (.ite (.ite (.rknTake (.updMc (.updMc h))) (.updMc (.updMc h))) (.updMc h))
theorem Lane.Wf.mcLine {b} (h : L.Wf site) : (L.mcLine b).Wf site := .ite h (.ite (.updMc h) (.rknFollow (.updMc h)))
theorem Lane.Wf.mcPulse {b} (h : L.Wf site) : (L.mcPulse b).Wf site := .ite (.updMc h) (.ite (.updMc h) h)
theorem Lane.Wf.mcCross {b} (h : L.Wf site) : (L.mcCross b).Wf site :=
  .ite (.updMc h) (.ite (.updMc h) (.ite (.mcGo (.mcFlag (.updMc (.updMc h)))) (.mcFlag (.updMc (.updMc h)))))
theorem Lane.Wf.mcWindings {b} (h : L.Wf site) : (L.mcWindings b).Wf site := by
  unfold Lane.mcWindings
  split
  · exact .ite h (.ite (.updMc h) (.ite (.mcFlag (.mcFlag (.updMc h))) (.updMc h)))
  · exact h
theorem Lane.Wf.mcInjSwitch {b} (h : L.Wf site) : (L.mcInjSwitch b).Wf site := .ite (.setF h) (.ite (.mcPost h) (.ite (.mcPost h) h))
theorem Lane.Wf.mcStop {b} (h : L.Wf site) : (L.mcStop b).Wf site := .updEdg h
theorem Lane.Wf.mcLoss {b} (h : L.Wf site) : (L.mcLoss b).Wf site :=
  .ite (.updMc h) (.ite (.updMc h) (.ite (.updMc (.mcFlag (.updMc h))) (.ite (.mcGo (.mcStop (.mcFlag (.updMc h)))) (.mcGo (.mcStop (.mcFlag (.updMc h)))))))
theorem Lane.Wf.mcJerk {b} (h : L.Wf site) : (L.mcJerk b).Wf site := by
  unfold Lane.mcJerk
  refine .ite h ?_
  extract_lets _ _ L1
  have hL1 : L1.Wf site := .updMc h
  exact .ite (.mcRetry (.mcStop (.mcFlag hL1))) hL1
theorem Lane.Wf.mcSample {b} (h : L.Wf site) : (L.mcSample b).Wf site := by
  unfold Lane.mcSample
  refine .ite h ?_
  refine .ite (.updMc (.mcSinCos h)) ?_
  split
  · exact .ite (.updMc (.updMc (.mcSinCos h))) (.updMc (.mcSinCos h))
  · exact .mcLine (.updMc (.mcSinCos h))
  · exact .mcLine (.updMc (.mcSinCos h))
  · exact .mcOut (.updMc (.updMc (.mcSinCos h)))
  · exact .mcPulse (.updMc (.mcSinCos h))
  · exact .updMc (.mcSinCos h)
theorem Lane.Wf.mcGot {b q s} (h : L.Wf site) : (L.mcGot b q s).Wf site := .ite h (.ite (.mcSample (.updMc h)) (.updMc h))
theorem Lane.Wf.mcInstant {b} (h : L.Wf site) : (L.mcInstant b).Wf site := by
  unfold Lane.mcInstant
  refine .ite h ?_
  extract_lets _ L1 _
  have hL1 : L1.Wf site := .foldl (.updMc h) (fun _ _ h1 => .seqStart h1)
  exact .ite hL1 (.mcSample hL1)
theorem Lane.Wf.mcChecks {b} (h : L.Wf site) : (L.mcChecks b).Wf site := .ite (.mcJerk (.mcLoss (.mcInjSwitch (.mcWindings (.mcCross h))))) h
theorem Lane.Wf.mcAxis {b n act first} (h : L.Wf site) : (L.mcAxis b n act first).Wf site := by
  unfold Lane.mcAxis
  extract_lets _ L1 L2 L3 _ _ _
  have hL1 : L1.Wf site := by
    dsimp only [L1]
    split
    · exact .mcDue h
    · exact h
  have hL2 : L2.Wf site := .ite (.mcStart hL1) hL1
  have hL3 : L3.Wf site := .mcChecks hL2
  exact .mcOut (.updMc hL3)
theorem Lane.Wf.mcAlignEnd {b} (h : L.Wf site) : (L.mcAlignEnd b).Wf site := by
  unfold Lane.mcAlignEnd
  extract_lets _
  refine .ite h ?_
  split
  · refine .ite ?_ (.mcRetry (.mcFlag h))
    extract_lets L1
    have hL1 : L1.Wf site := .updMc h
    exact .ite (.mcPost hL1) (.mcGo hL1)
  · exact .mcRetry (.mcFlag h)
theorem Lane.Wf.mcPolEnd {b} (h : L.Wf site) : (L.mcPolEnd b).Wf site := .ite h (.ite (.mcPost h) (.ite (.mcPost h) (.mcRetry (.mcFlag h))))
theorem Lane.Wf.mcMeasured {b} (h : L.Wf site) : (L.mcMeasured b).Wf site := .wr h
theorem Lane.Wf.mcCatchEnd {b} (h : L.Wf site) : (L.mcCatchEnd b).Wf site :=
  .ite h (.ite (.mcGo (.mcFlag (.mcMeasured h))) (.ite (.ite (.mcGo (.mcMeasured h)) (.mcGo (.mcMeasured h))) (.mcRest (.mcMeasured h))))
theorem Lane.Wf.mcRelockEnd {b} (h : L.Wf site) : (L.mcRelockEnd b).Wf site := .ite h (.ite (.mcGo (.mcMeasured h)) (.updMc (.mcMeasured h)))
theorem Lane.Wf.mcReport {b rep} (h : L.Wf site) : (L.mcReport b rep).Wf site := .ite (.updMc h) (.updMc h)
theorem Lane.Wf.mcHeld {b} (h : L.Wf site) : (L.mcHeld b).Wf site := .ite (.mcFlag (.mcGo h)) h
theorem Lane.Wf.ccApply {c a adopted} (h : L.Wf site) : (L.ccApply c a adopted).Wf site := by
  unfold Lane.ccApply
  split
  · exact h
  · exact .ite h (.ite (.updAx h) (.ite (.updAx h) h))
theorem Lane.Wf.ccSample {a first x} (h : L.Wf site) : (L.ccSample a first x).Wf site := by
  unfold Lane.ccSample
  refine .ite h ?_
  extract_lets _ L1
  have hL1 : L1.Wf site := by
    dsimp only [L1]
    split
    · exact .updAx (.setF h)
    · exact h
  exact .ite (.wr hL1) (.ite (.setF (.wr hL1)) (.ite (.setF (.wr hL1)) (.setF (.wr hL1))))
end

/-! ### CkList -/

section
variable {L : Lane} {site : Nat} {s : State} {b : Bin}

theorem Lane.Wf.capAxis {a} (h : L.Wf site) : (L.capAxis a).Wf site := by
  unfold Lane.capAxis
  split
  · exact .ite (.updCk h) h
  · exact h
theorem Lane.Wf.decPost {w} (h : L.Wf site) : (L.decPost w).Wf site := .ite h (.ite (.raise h) (.updCk h))
end

/-! ### Lbook -/

section
variable {L : Lane} {site : Nat} {s : State} {b : Bin}

theorem Lane.Wf.lbSet {a st} (h : L.Wf site) : (L.lbSet a st).Wf site := .setF (.setF h)
theorem Lane.Wf.lbStart {a} (h : L.Wf site) : (L.lbStart a).Wf site := .updAx (.setF (.wr (.lbSet h)))
theorem Lane.Wf.lbEvent {a src} (h : L.Wf site) : (L.lbEvent a src).Wf site := .ite (.updAx h) h
theorem Lane.Wf.lbFault {a k} (h : L.Wf site) : (L.lbFault a k).Wf site := .ite (.lbEvent h) h
theorem Lane.Wf.lbToggle {a} (h : L.Wf site) : (L.lbToggle a).Wf site := by
  unfold Lane.lbToggle
  extract_lets _ L1 _
  have hL1 : L1.Wf site := .setF h
  exact .ite (.lbEvent hL1) hL1
theorem Lane.Wf.lbProtBridge {b} (h : L.Wf site) : (L.lbProtBridge b).Wf site := by
  unfold Lane.lbProtBridge
  split
  · exact .lbFault h
  · exact h
theorem Lane.Wf.lbProtValve {v} (h : L.Wf site) : (L.lbProtValve v).Wf site := by
  unfold Lane.lbProtValve
  split
  · exact .lbFault h
  · exact h
theorem Lane.Wf.lbEnable {a} (h : L.Wf site) : (L.lbEnable a).Wf site := .ite (.raise h) (.lbStart h)
theorem Lane.Wf.lbRecord {a abandoned} (h : L.Wf site) : (L.lbRecord a abandoned).Wf site := by
  unfold Lane.lbRecord
  extract_lets x th cross src trig k hdr at_ ws L1 wrap L1' L1'' L1''' done X L2 late X'
  have h1 : L1'.Wf site := .wr (.foldl h fun _ _ hY => .setMemW hY)
  have h1' : L1'''.Wf site := .updAx (.ite (.setF h1) h1)
  have hdone : ∀ Y, Y.Wf site → (done Y).Wf site := fun _ hY => .updAx (.raise (.lbSet hY))
  have hX : X.Wf site := .wr (.setF (.lbSet h1'))
  have h2 : L2.Wf site := .ite (.ite (hdone _ hX) (.updAx hX)) (.ite (.ite (hdone _ h1') (.updAx h1')) h1')
  have hX' : X'.Wf site := .updAx (.ite (.raise h2) (.lbSet h2))
  exact .ite h (.ite h2 (.ite (.lbEnable hX') hX'))
theorem Lane.Wf.lbWritten {a was swtrig rearm} (h : L.Wf site) : (L.lbWritten a was swtrig rearm).Wf site := by
  unfold Lane.lbWritten
  extract_lets en X L1 L2
  have hX : X.Wf site := .setF h
  have h1 : L1.Wf site := .ite (.ite h (.lbEnable h)) (.ite (.ite (.raise h) (.ite (.updAx hX) (.lbSet hX))) h)
  have h2 : L2.Wf site := .ite (.lbStart h1) h1
  exact .ite (.lbEvent h2) h2
end

/-! ### Axis -/

section
variable {L : Lane} {site : Nat} {s : State} {b : Bin}

theorem Lane.Wf.axSplit {a} (h : L.Wf site) : (L.axSplit a).Wf site := .setF h
theorem Lane.Wf.regw {a} (h : L.Wf site) : (L.regw a).Wf site := .setCoef (.setF h)
theorem Lane.Wf.copyStart {a r init} (h : L.Wf site) : (L.copyStart a r init).Wf site := .updAx (.setF h)
theorem Lane.Wf.copyWords {a n} (h : L.Wf site) : (L.copyWords a n).Wf site := by
  unfold Lane.copyWords
  dsimp only
  split
  · exact .updAx (.foldl h (fun _ _ h1 => .setCoef h1))
  · exact h
theorem Lane.Wf.copyTick {a} (h : L.Wf site) : (L.copyTick a).Wf site := .copyWords h
theorem Lane.Wf.copyDone {a} (h : L.Wf site) : (L.copyDone a).Wf site := .ite (.updAx (.setF (.copyWords h))) h
theorem Lane.Wf.chApply {c a v0 v1} (h : L.Wf site) : (L.chApply c a v0 v1).Wf site := by
  unfold Lane.chApply
  refine .ite (.regw h) ?_
  refine .regw ?_
  refine .ite ?_ ?_
  · refine .setF ?_
    refine .setF ?_
    split
    · exact .ite (.updAx h) h
    · exact h
  · refine .ite ?_ ?_
    · refine .updAx ?_
      refine .updAx ?_
      refine .setF ?_
      refine .setF ?_
      refine .setF ?_
      split
      · exact .ite (.updAx h) h
      · exact h
    · refine .copyStart ?_
      refine .updAx ?_
      refine .setF ?_
      refine .setF ?_
      refine .setF ?_
      split
      · exact .ite (.updAx h) h
      · exact h
theorem Lane.Wf.swapNow {a ck} (h : L.Wf site) : (L.swapNow a ck).Wf site := by
  unfold Lane.swapNow
  refine .ite (.updAx h) ?_
  refine .regw ?_
  split
  · refine .copyStart ?_
    refine .updAx ?_
    split
    · exact .updAx (.setF (.updAx (.setF h)))
    · exact .updAx (.setF h)
  · split
    · exact .updAx (.setF (.updAx (.setF h)))
    · exact .updAx (.setF h)
theorem Lane.Wf.swReq {a} (h : L.Wf site) : (L.swReq a).Wf site := .ite (.raise h) (.decPost h)
theorem Lane.Wf.admDrop {a} (h : L.Wf site) : (L.admDrop a).Wf site := by
  unfold Lane.admDrop
  extract_lets _ _ L1
  have hL1 : L1.Wf site := .setF (.updCk h)
  exact .ite (.raise hL1) hL1
theorem Lane.Wf.axTry {a} (h : L.Wf site) : (L.axTry a).Wf site := by
  unfold Lane.axTry
  extract_lets c ch L1 L1' ks dies two L2 L3 L4 i j g st
  have h1 : L1.Wf site := .ite h (.setF (.raise h))
  have h1' : L1'.Wf site := .ite h1 (.setF (.raise h1))
  have h3 : L3.Wf site := .foldl (.updAx h1') fun _ _ hX => .ite (.ite (.updAx (.setF (.raise hX))) (.updAx (.setF (.raise hX)))) hX
  have h4 : L4.Wf site := .ite (.logRec h3) h3
  exact .ite h1' (.ite (.copyStart (.wr h4)) h4)
theorem Lane.Wf.axOff {a} (h : L.Wf site) : (L.axOff a).Wf site := by
  unfold Lane.axOff
  extract_lets L1 L2
  have hL1 : L1.Wf site := .admDrop (.setF h)
  have hL2 : L2.Wf site := .setF (.updAx (.setF hL1))
  exact .ite (.axTry hL2) hL2
theorem Lane.Wf.axWritten {a was} (h : L.Wf site) : (L.axWritten a was).Wf site :=
  .ite (.ite h (.axTry h)) (.ite (.ite (.ite (.updAx h) (.axOff h)) (.updAx (.setF h))) h)
theorem Lane.Wf.axTaken (h : L.Wf site) : L.axTaken.Wf site := .foldl h (fun _ _ h1 => .ite (.axOff h1) h1)
theorem Lane.Wf.axMark {key} (h : L.Wf site) : (L.axMark key).Wf site := by
  unfold Lane.axMark
  dsimp only
  refine .foldl h fun _ _ h1 => ?_
  split
  · exact .ite (.foldl (.updAx (.setF h1)) (fun _ _ h2 => .ite (.updMc h2) h2)) h1
  · exact h1
theorem Lane.Wf.spSample {a} (h : L.Wf site) : (L.spSample a).Wf site := by
  unfold Lane.spSample
  extract_lets _ _ _ _ _ _ _ _ _ _ _ _ L1 L1'
  have hL1 : L1.Wf site := .wr (.wr (.wr h))
  have hL1' : L1'.Wf site := .ite (.raise hL1) hL1
  exact .setCoef (.setCoef hL1')
theorem Lane.Wf.cmdApply {a e} (h : L.Wf site) : (L.cmdApply a e).Wf site := by
  unfold Lane.cmdApply
  refine .ite ?_ h
  split
  · exact .updAx (.wr h)
  · exact .updAx h
theorem Lane.Wf.admApply {a ck} (h : L.Wf site) : (L.admApply a ck).Wf site := .setF (.updCk (.foldl h (fun _ _ h1 => .cmdApply h1)))
theorem Lane.Wf.addOfs {o} (h : L.Wf site) : (L.addOfs o).Wf site := .setMemW h
theorem Lane.Wf.axStart {a} (h : L.Wf site) : (L.axStart a).Wf site := by
  unfold Lane.axStart
  extract_lets x n fired later ck first dt L0 X X' L1 L2 m sp L3 out L4 L4' L5
  have h0 : L0.Wf site := .updAx h
  have hX : X.Wf site := .foldl (.updAx h0) fun _ _ hY => .addOfs hY
  have hX' : X'.Wf site := .ite (.wr hX) hX
  have h1 : L1.Wf site := .ite (.updAx h0) (.cstopStart (.admApply (.swapNow hX')))
  have hm : m.1.Wf site := .monitor (.spSample h1)
  have h4 : L4.Wf site := .updAx (.ccSample (.updMon hm))
  have h4' : L4'.Wf site := .ite (.lbFault h4) h4
  exact .foldl (.dgSample (.ucCheck h4')) fun _ _ hY => .ite (.mcAxis hY) hY
theorem Lane.Wf.axEnd {a abandoned} (h : L.Wf site) : (L.axEnd a abandoned).Wf site := by
  unfold Lane.axEnd
  extract_lets L1 L2
  have hL1 : L1.Wf site := .updAx h
  have hL2 : L2.Wf site := .capAxis (.lbRecord hL1)
  exact .ite (.axOff hL2) hL2
end

/-! ### Ckpt -/

section
variable {L : Lane} {site : Nat} {s : State} {b : Bin}

theorem Lane.Wf.travPost (h : L.Wf site) : L.travPost.Wf site := .ite (.postTrip h) h
theorem Lane.Wf.sleepStop (h : L.Wf site) : L.sleepStop.Wf site := by
  unfold Lane.sleepStop
  extract_lets k L0 L1 L2 L3 L4 L5
  have h0 : L0.Wf site := .setF h
  have h1 : L1.Wf site := .ite (.updHn h0) h0
  have h2 : L2.Wf site := .ite (.setF h1) h1
  have h3 : L3.Wf site := .ite (.setF h2) h2
  have h4 : L4.Wf site := .ite (.setF h) h
  have h5 : L5.Wf site := .ite (.foldl h fun _ _ hX => .setF (.setF hX)) h
  have h6 : (((List.range 8).foldl (fun X n => (X.posOff n).sentOff n) L5).travelOff.gsOff).refOff.Wf site :=
    .refOff (.gsOff (.travelOff (.foldl h5 fun _ _ hX => .sentOff (.posOff hX))))
  exact .ite h (.ite (.foldl h3 fun _ _ hX => .ite (.setF hX) hX) (.ite (.setF h4) (.ite h6 h)))
theorem Lane.Wf.copyCheck {a} (h : L.Wf site) : (L.copyCheck a).Wf site := by
  unfold Lane.copyCheck
  extract_lets _ _ L1
  have hL1 : L1.Wf site := .updAx h
  exact .ite (.raise hL1) hL1
theorem Lane.Wf.capture_ {L0 : Lane} {din ball} (h : L0.Wf site) : (L0.capture_ din ball).Wf site :=
  .ite h (.updCk (.setF (.setF (.foldl (.wr (.wr (.wr (.sleepStop (.travPost h))))) (fun _ _ h1 => .copyCheck (.wr h1))))))
theorem Lane.Wf.takeData {k cap tap skew} (h : L.Wf site) : (L.takeData k cap tap skew).Wf site := by
  unfold Lane.takeData
  split
  · exact .ite (.updCk h) h
  · exact h
theorem Lane.Wf.admitPdu {c p j} (h : L.Wf site) : (L.admitPdu c p j).Wf site := .ite (.reply (.bump (.raise (.setF h)))) (.reply (.bump (.setF (.updCk h))))
theorem Lane.Wf.pduDevice {c last p j} (h : L.Wf site) : (L.pduDevice c last p j).Wf site := by
  unfold Lane.pduDevice
  extract_lets L0 L1
  have hL0 : L0.Wf site := .updSafe h
  have hL1 : L1.Wf site := .ite (.helloAgreed hL0) (.ite (.admitPdu hL0) (.ite (.resetAgreed hL0) (.ite (.queryAgreed hL0) (.ite (.confirmAgreed hL0) (.reply hL0)))))
  exact .updSafe hL1
theorem Lane.Wf.pdusDevice {c ps} (h : L.Wf site) : (L.pdusDevice c ps).Wf site := by
  induction ps generalizing L with
  | nil => exact h
  | cons p t ih => exact ih (.pduDevice h)
theorem Lane.Wf.pduRest {c ags} (h : L.Wf site) : (L.pduRest c ags).Wf site := by
  unfold Lane.pduRest
  extract_lets _ _ _ L1
  have hL1 : L1.Wf site := .updSafe h
  exact .ite (.raise hL1) hL1
end

/-! ### Engine -/

section
variable {L : Lane} {site : Nat} {s : State} {b : Bin}

theorem Lane.Wf.updEng {f} (h : L.Wf site) : (L.updEng f).Wf site := .upd h
theorem Lane.Wf.updInst {n f} (h : L.Wf site) : (L.updInst n f).Wf site := .updEng h
theorem Lane.Wf.dropInst {n} (h : L.Wf site) : (L.dropInst n).Wf site := .updEng h
theorem Lane.Wf.engPick (h : L.Wf site) : L.engPick.Wf site := by
  unfold Lane.engPick
  split
  · exact h
  · split
    · exact .updInst (.updEng h)
    · exact h
theorem Lane.Wf.engPreempt (h : L.Wf site) : L.engPreempt.Wf site := by
  unfold Lane.engPreempt
  split
  · exact h
  · split
    · exact h
    · exact .updInst (.updEng h)
theorem Lane.Wf.waitDone {n} (h : L.Wf site) : (L.waitDone n).Wf site := by
  unfold Lane.waitDone
  split
  · split
    · exact .ite (.updInst h) h
    · exact h
  · exact h
theorem Lane.Wf.engStart (h : L.Wf site) : L.engStart.Wf site := .ite (.setF h) (.setF (.setF h))
theorem Lane.Wf.engSettle (h : L.Wf site) : L.engSettle.Wf site := by
  unfold Lane.engSettle
  refine .ite ?_ h
  extract_lets L1
  have hL1 : L1.Wf site := .updEng (.setF h)
  exact .ite (.engStart hL1) hL1
theorem Lane.Wf.instEnd {i c abandoned} (h : L.Wf site) : (L.instEnd i c abandoned).Wf site := by
  unfold Lane.instEnd
  extract_lets L1 L2
  have hL1 : L1.Wf site := .updEng (.dropInst h)
  have hL2 : L2.Wf site := .ite (.axEnd hL1) hL1
  exact .engSettle hL2
theorem Lane.Wf.recTask {n} (h : L.Wf site) : (L.recTask n).Wf site := .ite h (.updEng (.setF h))
theorem Lane.Wf.deadlineFault {n} (h : L.Wf site) : (L.deadlineFault n).Wf site := by
  unfold Lane.deadlineFault
  extract_lets L1 _ L2
  have hL1 : L1.Wf site := .raise (.raise (.recTask h))
  have hL2 : L2.Wf site := .ite (.lbFault hL1) hL1
  exact .fault hL2
theorem Lane.Wf.ceFault {n pc f} (h : L.Wf site) : (L.ceFault n pc f).Wf site := .raise (.ite (.setF (.setF h)) h)
theorem Lane.Wf.abandon {i c} (h : L.Wf site) : (L.abandon i c).Wf site :=
  .ite (.instEnd (.deadlineFault h)) (.foldl (.setF (.setF (.instEnd (.deadlineFault h)))) (fun _ _ h1 => .instEnd (.deadlineFault (.ceFault h1))))
theorem Lane.Wf.deadlineExpire {n} (h : L.Wf site) : (L.deadlineExpire n).Wf site := by
  unfold Lane.deadlineExpire
  split
  · exact .ite (.abandon h) h
  · exact h
theorem Lane.Wf.taskTrigger {n} (h : L.Wf site) : (L.taskTrigger n).1.Wf site :=
  .iteFst h (.iteFst (.fault (.ite (.lbFault (.raise (.raise (.recTask h)))) (.raise (.raise (.recTask h))))) (.ite (.axStart (.updEng h)) (.updEng h)))
theorem Lane.Wf.engWritten {was} (h : L.Wf site) : (L.engWritten was).Wf site :=
  .ite (.ite h (.engStart h)) (.ite (.ite (.engSettle (.updEng (.foldl h (fun _ _ h1 => .ite (.axEnd (.dropInst h1)) (.dropInst h1))))) (.foldl h (fun _ _ h1 => .ite (.axEnd (.dropInst h1)) (.dropInst h1)))) h)
theorem Lane.Wf.landWord {addr place w} (h : L.Wf site) : (L.landWord addr place w).Wf site :=
  .signW (.updEng (.foldl h fun _ _ hX => ⟨canon_put _ _ hX.1, hX.2⟩))
theorem Lane.Wf.noteWrite {a} (h : L.Wf site) : (L.noteWrite a).Wf site := .ite (.updEng h) h
theorem Lane.Wf.setVreg {lv r v} (h : L.Wf site) : (L.setVreg lv r v).Wf site := .updEng h
theorem Lane.Wf.landStat {l set clr} (h : L.Wf site) : (L.landStat l set clr).Wf site := .updEng h
theorem Lane.Wf.landOne {l} (h : L.Wf site) : (L.landOne l).Wf site := by
  unfold Lane.landOne
  split
  · exact .setVreg h
  · exact .setVreg h
  · exact .setVreg h
  · exact .landStat (.updEng h)
  · exact .landStat h
  · exact .landWord h
  · exact .wr (.wr h)
  · exact .updEng h
  · exact .landStat (.updEng h)
theorem Lane.Wf.landCyc {c} (h : L.Wf site) : (L.landCyc c).Wf site := .foldl (.foldl (.updEng h) (fun _ _ h1 => .landOne h1)) (fun _ _ h1 => .landOne h1)
theorem Lane.Wf.landUpto {fuel c} (h : L.Wf site) : (Lane.landUpto fuel L c).Wf site := by
  induction fuel generalizing L with
  | zero => exact h
  | succ fuel ih =>
    unfold Lane.landUpto
    split
    · exact h
    · exact ih (.landCyc h)
theorem Lane.Wf.landTo {c} (h : L.Wf site) : (L.landTo c).Wf site := .landUpto h
theorem Lane.Wf.loopChecks {a lv} (h : L.Wf site) : (L.loopChecks a lv).1.Wf site := by
  unfold Lane.loopChecks
  extract_lets hit one
  have hone : ∀ X k, X.Wf site → (one X k).1.Wf site := fun X k hX => by
    dsimp only [one]
    split
    · exact hX
    · split
      · exact .setF hX
      · exact .setF hX
  have h1 := hone L 1 h
  split
  next X t e => exact e ▸ h1
  next X e =>
    rw [e] at h1
    exact hone X 0 h1
theorem Lane.Wf.fly {i c es} (h : L.Wf site) : (L.fly i c es).Wf site := .updEng h
theorem Lane.Wf.hold {c n} (h : L.Wf site) : (L.hold c n).Wf site := .updEng h
theorem Iss.Wf.res {i c k es} (h : L.Wf site) : (L.res i c k es).Wf site := .go (.fly h)
theorem Iss.Wf.resV {i c k d r} (h : L.Wf site) : (L.resV i c k d r).Wf site := .res h
theorem Lane.Wf.firstOut {i} (h : L.Wf site) : (L.firstOut i).Wf site := by
  unfold Lane.firstOut
  refine .ite h ?_
  extract_lets _ L1
  have hL1 : L1.Wf site := .setF (.updInst h)
  exact .ite (.setF hL1) hL1
theorem Lane.Wf.statNow {n set} (h : L.Wf site) : (L.statNow n set).Wf site := .updInst h
theorem Lane.Wf.engIssue {w f} (h : L.Wf site) (hf : ∀ M i c, M.Wf site → (f M i c).Wf site) : (L.engIssue w f).Wf site := by
  unfold Lane.engIssue
  split
  · exact h
  next c _ =>
    have h1 : (L.landTo c).engPick.Wf site := .engPick (.landTo h)
    dsimp only
    split
    · exact h
    next n _ =>
      split
      · exact h
      next i _ =>
        have hbad : ∀ fl, ((((L.landTo c).engPick.loopChecks i.pc i.level).1.ceFault n i.pc fl).abandon i c).Wf site :=
          fun _ => .abandon (.ceFault (.loopChecks h1))
        refine .ite h (.ite (hbad _) (.ite (hbad _) (.ite (hbad _) (.ite (hbad _) (.ite (hbad _) ?_)))))
        have hi := hf _ i c h1
        split
        · exact hbad _
        · exact .ite (.instEnd (.setF (.loopChecks (.updEng (.bump h1))))) (.emit (.loadEdges (.instEnd (.setF (.loopChecks (.updEng (.bump h1)))))))
        · exact .ite (.updInst (.loopChecks (.updEng (.bump h1)))) (.updEng (.updInst (.updInst (.loopChecks (.updEng (.bump h1))))))
        next L2 nx _ =>
          have h2 : L2.Wf site := hi L2 nx ‹_›
          exact .ite (.updInst (.loopChecks (.updEng (.bump h2)))) (.updInst (.loopChecks (.updEng (.bump h2))))
theorem Iss.Wf.issNop (h : L.Wf site) : (issNop L).Wf site := .go h
theorem Iss.Wf.issJump {w i take} (h : L.Wf site) : (issJump w L i take).Wf site := .ite .fault (.go (.updInst h))
theorem Iss.Wf.issLoop {w i} (h : L.Wf site) : (issLoop w L i).Wf site := .ite .fault (.ite (.go h) (.go (.wr (.wr h))))
theorem Iss.Wf.issLpst {w i c} (h : L.Wf site) : (issLpst w L i c).Wf site := .ite .fault (.res (.updInst h))
theorem Iss.Wf.issLpld {w i c} (h : L.Wf site) : (issLpld w L i c).Wf site := .ite .fault (.res (.updInst h))
theorem Iss.Wf.issWait {w} : (issWait w).Wf site := by
  unfold Machine.issWait
  split
  · exact .waits
  · exact .waits
  · exact .waits
theorem Iss.Wf.issVld {w i c} (h : L.Wf site) : (issVld w L i c).Wf site := .ite .fault (.res h)
theorem Iss.Wf.issEld {w i c} (h : L.Wf site) : (issEld w L i c).Wf site := .ite .fault (.res h)
theorem Iss.Wf.issVst {w i c} (h : L.Wf site) : (issVst w L i c).Wf site := .ite .fault (.res h)
theorem Iss.Wf.issEst {w i c} (h : L.Wf site) : (issEst w L i c).Wf site := .ite .fault (.res h)
theorem Iss.Wf.issIn {w i c} (h : L.Wf site) : (issIn w L i c).Wf site := by
  unfold Machine.issIn
  split
  · exact .fault
  · exact .res h
theorem Lane.Wf.outDest {c n sub w raw M} (h : L.Wf site) (e : L.outDest c n sub w raw = some M) : M.Wf site := by
  unfold Lane.outDest at e
  split at e
  · split at e
    · obtain rfl := Option.some.inj e
      exact .ite h (.outBridge h)
    · cases e
  · split at e
    · obtain rfl := Option.some.inj e
      exact .ite h (.outValve h)
    · cases e
  · split at e
    · obtain rfl := Option.some.inj e
      exact .updAx h
    · cases e
  · split at e
    · obtain rfl := Option.some.inj e
      exact .updMon h
    · cases e
  · split at e
    · obtain rfl := Option.some.inj e
      exact .ite (.mcEstimate (.raiseBit (.wr h))) (.raiseBit (.wr h))
    · cases e
  · cases e
theorem Iss.Wf.issOut {w i} (h : L.Wf site) : (issOut w L i).Wf site := by
  unfold Machine.issOut
  extract_lets v raw q x
  split
  · exact .fault
  next X e => exact .go (.statNow (.firstOut (.outDest h e)))
theorem Iss.Wf.macs {c n r} (h : L.Wf site) (hr : ∀ M, M.Wf site → (r M).Wf site) : (L.macs c n r).Wf site := .ite .fault (hr _ (.hold h))
theorem Iss.Wf.issVmul {w i c} (h : L.Wf site) : (issVmul w L i c).Wf site := .macs h (fun _ h1 => .resV h1)
theorem Iss.Wf.issVdot {w i c} (h : L.Wf site) : (issVdot w L i c).Wf site := .macs h (fun _ h1 => .res h1)
theorem Iss.Wf.issMacs {w i c} (h : L.Wf site) : (issMacs w L i c).Wf site := .macs h (fun _ h1 => .res h1)
theorem Iss.Wf.issSt {w i c} (h : L.Wf site) : (issSt w L i c).Wf site := .res h
theorem Iss.Wf.issMatvec {w i c} (h : L.Wf site) : (issMatvec w L i c).Wf site :=
  .ite .fault (.ite .fault (.ite .fault (.macs h (fun _ h1 => .go (.landTo (.updEng h1))))))
theorem Iss.Wf.issMvst {w i c} (h : L.Wf site) : (issMvst w L i c).Wf site := .res h
theorem Iss.Wf.issShv {w i c} (h : L.Wf site) : (issShv w L i c).Wf site := .resV h
theorem Iss.Wf.issVlim {w i c} (h : L.Wf site) : (issVlim w L i c).Wf site := .res h
theorem Iss.Wf.issVsel {w i c} (h : L.Wf site) : (issVsel w L i c).Wf site := .res h
theorem Iss.Wf.issCmp {w i c} (h : L.Wf site) : (issCmp w L i c).Wf site := .res h
theorem Lane.Wf.taskWritten {n} (h : L.Wf site) : (L.taskWritten n).Wf site := .setF h
end

/-! ### Way -/

section
variable {L : Lane} {site : Nat} {s : State} {b : Bin}

theorem Lane.Wf.wpAction {w} (h : L.Wf site) : (L.wpAction w).Wf site := by
  unfold Lane.wpAction
  split
  · exact .ite h (.ite (.raise (.taskTrigger h)) (.taskTrigger h))
  · exact .seqStart h
  · exact .emit (.loadEdges h)
  · exact .ite (.lbToggle h) h
  · exact h
theorem Lane.Wf.wpRecord {w late adv} (h : L.Wf site) : (L.wpRecord w late adv).Wf site := by
  unfold Lane.wpRecord
  extract_lets L1 step cmp rep next d behind k c L2 L3 L4
  have h1 : L1.Wf site := .updWp (.setF (.raise h))
  have h2 : L2.Wf site := .ite h1 (.ite (.setF (.wr h1)) (.setF h1))
  have h3 : L3.Wf site := .raise h2
  have h4 : L4.Wf site := .ite h3 (.setF h3)
  exact .ite (.ite (.fault (.raise h4)) h3) h2
theorem Lane.Wf.wpFollow {w} (h : L.Wf site) : (L.wpFollow w).Wf site := .wr h
theorem Lane.Wf.wpFire {w late adv} (h : L.Wf site) : (L.wpFire w late adv).Wf site := by
  unfold Lane.wpFire
  split
  · exact .wpAction (.wpRecord h)
  · exact .wpAction (.setF (.setF (.ite (.wpRecord (.wpRecord h)) (.wpFollow (.wpRecord h)))))
theorem Lane.Wf.wpCheck {ws late} (h : L.Wf site) : (L.wpCheck ws late).Wf site := .foldl h (fun _ _ h1 => .ite h1 (.wpFire h1))
theorem Lane.Wf.wpArm {w} (h : L.Wf site) : (L.wpArm w).Wf site := by
  unfold Lane.wpArm
  refine .ite (.raise (.setF h)) ?_
  extract_lets _ _ L1
  have hL1 : L1.Wf site := .updWp (.setF h)
  split
  · exact .wpCheck hL1
  · exact .ite hL1 (.ite (.raise (.setF (.setF hL1))) (.wpCheck hL1))
theorem Lane.Wf.wpDisarm {w due} (h : L.Wf site) : (L.wpDisarm w due).Wf site := by
  unfold Lane.wpDisarm
  extract_lets L1 L2
  have hL1 : L1.Wf site := .ite (.wpFire h) h
  have hL2 : L2.Wf site := .setF hL1
  exact .ite (.raise hL2) (.setF hL2)
theorem Lane.Wf.wpCfgWritten {old : Lane} {w} (h : L.Wf site) (hold : old.Wf site) : (L.wpCfgWritten old w).Wf site := by
  unfold Lane.wpCfgWritten
  extract_lets L0
  have hL0 : L0.Wf site := .ite (.setF h) h
  exact .ite (.wpArm hL0) (.ite (.ite (.wr (.wpDisarm hold)) (.wpDisarm hL0)) hL0)
theorem Lane.Wf.wpCmpWrite {w v} (h : L.Wf site) : (L.wpCmpWrite w v).Wf site := by
  unfold Lane.wpCmpWrite
  extract_lets L1 L2
  have hL1 : L1.Wf site := .ite (.wpFire h) h
  have hL2 : L2.Wf site := .wr hL1
  exact .ite (.wpArm hL2) hL2
theorem Lane.Wf.wpFresh (h : L.Wf site) : L.wpFresh.Wf site := .upd h
theorem Lane.Wf.wpSettle (h : L.Wf site) : L.wpSettle.Wf site := .upd h
theorem Lane.Wf.rknStart (h : L.Wf site) : L.rknStart.Wf site := .wpCheck (.setF (.wpFresh h))
theorem Lane.Wf.rknWritten {was} (h : L.Wf site) : (L.rknWritten was).Wf site := .ite (.ite h (.rknStart h)) (.ite (.upd h) h)
theorem Lane.Wf.rknSettle (h : L.Wf site) : L.rknSettle.Wf site := by
  unfold Lane.rknSettle
  refine .ite ?_ h
  extract_lets L1
  have hL1 : L1.Wf site := .setF (.upd h)
  exact .ite (.rknStart hL1) hL1
theorem Lane.Wf.wpCross {w} (h : L.Wf site) : (L.wpCross w).Wf site := .ite (.wpFire h) h
theorem Lane.Wf.wpStep13 (h : L.Wf site) : L.wpStep13.Wf site := .ite (.wpCheck h) h
theorem Lane.Wf.wpResume (h : L.Wf site) : L.wpResume.Wf site := .ite (.wpCheck (.wpFresh h)) h
end

/-! ### CkApply -/

section
variable {L : Lane} {site : Nat} {s : State} {b : Bin}

theorem Lane.Wf.declareOdd {k cause} (h : L.Wf site) : (L.declareOdd k cause).Wf site := by
  unfold Lane.declareOdd
  extract_lets L1 L2 L3 L4 L5
  have hL1 : L1.Wf site := .setF (.setF (.raise h))
  have hL2 : L2.Wf site := .bump (.setSta hL1)
  have hL3 : L3.Wf site := .fault hL2
  have hL4 : L4.Wf site := .foldl hL3 (fun _ _ h4 => .lbFault h4)
  have hL5 : L5.Wf site := .ite (.updCk hL4) hL4
  exact .ite (.setSta hL5) hL5
theorem Lane.Wf.sleepRestart {k} (h : L.Wf site) : (L.sleepRestart k).Wf site := by
  unfold Lane.sleepRestart
  refine .ite ?_ ?_
  · extract_lets L0 L1 L2 L3
    have hL0 : L0.Wf site := .setF h
    have hL1 : L1.Wf site := .ite (.hnEnable hL0) hL0
    have hL2 : L2.Wf site := .ite (.emitR (.canEnable hL1)) hL1
    have hL3 : L3.Wf site := .ite (.emitR (.canEnable hL2)) hL2
    exact .foldl hL3 (fun _ _ h5 => .ite (.ethEnable h5) h5)
  · refine .ite ?_ ?_
    · extract_lets L1
      have hL1 : L1.Wf site := .ite (.engStart h) h
      exact .ite (.rknStart hL1) hL1
    · refine .ite ?_ h
      extract_lets L1
      have hL1 : L1.Wf site := .posCtrlWritten (.measWritten (.ite (.refWritten h) h))
      exact .foldl hL1 (fun _ _ h2 => .ite (.sentWritten h2) h2)
theorem Lane.Wf.sleepStep {k} (h : L.Wf site) : (L.sleepStep k).Wf site := .updPw (.setF h)
theorem Lane.Wf.modeReq {req wake} (h : L.Wf site) : (L.modeReq req wake).Wf site :=
  .ite h (.ite (.setF (.raise h)) (.ite (.adoptMode h) (.ite h (.updPw (.sleepStep (.setF h))))))
theorem Lane.Wf.sleepAbort {k cause} (h : L.Wf site) : (L.sleepAbort k cause).Wf site := .logRec (.updPw (.raise (.setF (.setF h))))
theorem Lane.Wf.sleepApply {need as} (h : L.Wf site) : (L.sleepApply need as).Wf site :=
  .ite h (.ite (.ite (.updPw (.setF (.setF (.sleepRestart h)))) (.setF (.sleepRestart h))) (.ite (.ite (.updPw h) (.sleepStep h)) (.ite (.sleepAbort h) h)))
theorem Lane.Wf.sleepTimeout (h : L.Wf site) : L.sleepTimeout.Wf site := .ite (.updPw h) h
theorem Lane.Wf.sleepWake (h : L.Wf site) : L.sleepWake.Wf site := .ite (.updPw h) h
theorem Lane.Wf.setSplit {st} (h : L.Wf site) : (L.setSplit st).Wf site := .ite h (.raise (.setF h))
theorem Lane.Wf.splitRefuse {cause} (h : L.Wf site) : (L.splitRefuse cause).Wf site := .updEdg (.raise (.setF (.setF (.setF h))))
theorem Lane.Wf.splitRequest (h : L.Wf site) : L.splitRequest.Wf site := .ite h (.ite (.setSplit (.decPost h)) (.decPost h))
theorem Lane.Wf.splitAgree (h : L.Wf site) : L.splitAgree.Wf site := .ite (.splitRefuse h) (.updCk (.updEdg (.setSplit h)))
theorem Lane.Wf.splitApply (h : L.Wf site) : L.splitApply.Wf site := .ite (.updCk (.setSplit (.foldl h (fun _ _ h1 => .ite (.setSta h1) h1)))) h
theorem Lane.Wf.splitTimeout (h : L.Wf site) : L.splitTimeout.Wf site := .ite (.updCk (.splitRefuse h)) h
theorem Lane.Wf.keyRevoke {slot} (h : L.Wf site) : (L.keyRevoke slot).Wf site := .ite (.setF h) (.raise h)
theorem Lane.Wf.travTake {src} (h : L.Wf site) : (L.travTake src).Wf site := .ite (.travShow (.raise (.setF h))) h
theorem Lane.Wf.tripAgreed {x} (h : L.Wf site) : (L.tripAgreed x).Wf site := by
  unfold Lane.tripAgreed
  split
  · exact .updMc h
  · exact .reactAgreed h
  · exact .reactAgreed h
  · exact h
  · exact .keyRevoke h
theorem Lane.Wf.tripLone {x} (h : L.Wf site) : (L.tripLone x).Wf site := by
  unfold Lane.tripLone
  split
  · exact .updMc h
  · exact .bump (.raise (.updSess h))
  · exact .bump (.raise h)
  · exact h
theorem Lane.Wf.tripsApply {need mine ls} (h : L.Wf site) : (L.tripsApply need mine ls).Wf site := by
  unfold Lane.tripsApply
  refine .updStops ?_
  split
  · refine .travTake ?_
    refine .foldl (.foldl (.foldl (.updCk h) (fun _ _ h1 => .tripAgreed h1)) (fun _ _ h1 => .tripLone h1)) fun _ _ h1 => ?_
    split
    · exact .updMc h1
    · exact h1
  · refine .foldl (.foldl (.foldl (.updCk h) (fun _ _ h1 => .tripAgreed h1)) (fun _ _ h1 => .tripLone h1)) fun _ _ h1 => ?_
    split
    · exact .updMc h1
    · exact h1
theorem Lane.Wf.wordAgreed {wake w} (h : L.Wf site) : (L.wordAgreed wake w).Wf site :=
  .ite (.splitAgree h) (.ite (.modeReq h) (.ite (.ite (.regw (.updAx h)) h) (.updCk h)))
theorem Lane.Wf.postRest {mine ags ps} (h : L.Wf site) : (L.postRest mine ags ps).Wf site := by
  unfold Lane.postRest
  extract_lets _ _ _ L1
  have hL1 : L1.Wf site := .updCk h
  exact .ite (.splitRefuse hL1) hL1
theorem Lane.Wf.axApply {c a own cs ofs} (h : L.Wf site) : (L.axApply c a own cs ofs).Wf site := by
  unfold Lane.axApply
  split
  · exact h
  · exact .ite h (.ite (.raise (.wr (.wr h))) (.ite (.wr (.wr h)) (.updAx (.wr (.ite (.raise (.wr (.wr h))) (.wr (.wr h)))))))
theorem Lane.Wf.chartApply {c adopted a} (h : L.Wf site) : (L.chartApply c adopted a).Wf site := .ccApply (.chApply h)
theorem Lane.Wf.common {own caps num centre} (h : L.Wf site) : (L.common own caps num centre).Wf site :=
  .foldl (.foldl (.foldl (.wr h) (fun _ _ h1 => .addOfs h1)) (fun _ _ h1 => .axApply h1)) (fun _ _ h1 => .chartApply h1)
theorem Lane.Wf.distAdopt {own caps} (h : L.Wf site) : (L.distAdopt own caps).Wf site := .updTrav h
theorem Lane.Wf.ballApply {low high} (h : L.Wf site) : (L.ballApply low high).Wf site := by
  unfold Lane.ballApply
  refine .ite (.setF (.setF (.setF h))) ?_
  refine .ite ?_ h
  extract_lets _ _ _ _ L1 _
  have hL1 : L1.Wf site := .setF (.setF h)
  exact .ite (.ite (.relBegin hL1) (.raise hL1)) hL1
theorem Lane.Wf.recApply {c cf rl} (h : L.Wf site) : (L.recApply c cf rl).Wf site := by
  unfold Lane.recApply
  dsimp only
  split
  · refine .ite ?_ ?_
    · refine .ite ?_ ?_
      · refine .ite ?_ ?_
        · refine .ite ?_ ?_
          · refine .adoptMode ?_
            refine .relTake ?_
            refine .updSafe ?_
            split
            · exact .ite (.reply (.updSafe (.raise h))) h
            · exact h
          · refine .relTake ?_
            refine .updSafe ?_
            split
            · exact .ite (.reply (.updSafe (.raise h))) h
            · exact h
        · refine .updDg ?_
          refine .updSafe ?_
          split
          · exact .ite (.reply (.updSafe (.raise h))) h
          · exact h
      · refine .reply ?_
        refine .ite ?_ ?_
        · refine .ite ?_ ?_
          · refine .adoptMode ?_
            refine .relTake ?_
            refine .updSafe ?_
            split
            · exact .ite (.reply (.updSafe (.raise h))) h
            · exact h
          · refine .relTake ?_
            refine .updSafe ?_
            split
            · exact .ite (.reply (.updSafe (.raise h))) h
            · exact h
        · refine .updDg ?_
          refine .updSafe ?_
          split
          · exact .ite (.reply (.updSafe (.raise h))) h
          · exact h
    · split
      · exact .ite (.reply (.updSafe (.raise h))) h
      · exact h
  · split
    · exact .ite (.reply (.updSafe (.raise h))) h
    · exact h
theorem Lane.Wf.soundRec (h : L.Wf site) : L.soundRec.Wf site := .reportRec h
theorem Lane.Wf.zeroForm {fix cs join} (h : L.Wf site) : (L.zeroForm fix cs join).Wf site := by
  unfold Lane.zeroForm
  extract_lets _ L1 _ _ _ _ _ L2 L3 L4 L5 _ L6 L7 L8
  have hL1 : L1.Wf site := .foldl h (fun _ _ h1 => .setSta h1)
  have hL2 : L2.Wf site := .setF (.setF hL1)
  have hL3 : L3.Wf site := .setF (.setF hL2)
  have hL4 : L4.Wf site := .foldl hL3 (fun _ _ h4 => .ite (.setF (.setF h4)) h4)
  have hL5 : L5.Wf site := .ite (.raise hL4) hL4
  have hL6 : L6.Wf site := .adoptMode (.setF hL5)
  have hL7 : L7.Wf site := .ite (.holdOutputs (.updEdg (.setSplit hL6))) (.soundRec (.wr (.setF (.setF hL6))))
  have hL8 : L8.Wf site := .ite (.setF hL7) (.ite hL7 (.setF hL7))
  exact .updStops (.updPw hL8)
theorem Lane.Wf.zeroApply {all_} (h : L.Wf site) : (L.zeroApply all_).Wf site := by
  unfold Lane.zeroApply
  dsimp only
  split
  · exact h
  · have hX : (((L.setSta L.me 6).updCk fun c => { c with oddAt := L.ticks, caught := false }).Wf site) := .updCk (.setSta h)
    have hout : ∀ {X : Lane}, X.Wf site → ∀ k, ((if k = L.me then if decide (L.mySt = 7) = true then
        (((X.setSta k 9).setF R.FIX_SPLIT F.FIX_SPLIT_RCAUSE 4).setSplit 0) else (X.setSta k 9).soundRec else X.setSta k 9).Wf site) :=
      fun hX _ => .ite (.ite (.setSplit (.setF (.setSta hX))) (.soundRec (.setSta hX))) (.setSta hX)
    refine .ite (.ite (.ite (.holdOutputs (.updEdg (.setSplit hX))) hX) (hout h _)) ?_
    exact .ite (.foldl (.zeroForm h) fun _ _ hY => hout hY _) (.ite (hout h _) h)
theorem Lane.Wf.slewSet {sk} (h : L.Wf site) : (L.slewSet sk).Wf site := .upd h
theorem Lane.Wf.voidApply (h : L.Wf site) : L.voidApply.Wf site := by
  unfold Lane.voidApply
  extract_lets L1
  have hL1 : L1.Wf site := .updCk (.raise h)
  exact .ite (.sdStart hL1) hL1
theorem Lane.Wf.agreeApply {c wake own cs} (h : L.Wf site) : (L.agreeApply c wake own cs).Wf site :=
  .sleepApply (.recApply (.ballApply (.foldl (.pduRest (.pdusDevice (.tripsApply (.postRest h)))) (fun _ _ h1 => .wordAgreed h1))))
theorem Lane.Wf.fixApply {c wake own cs} (h : L.Wf site) : (L.fixApply c wake own cs).Wf site := by
  unfold Lane.fixApply
  refine .ite ?_ ?_
  · refine .sdStart ?_
    refine .ite ?_ ?_
    · refine .common ?_
      refine .ite ?_ ?_
      · refine .raise ?_
        split
        · exact .setF (.setF (.foldl h (fun _ _ h1 => .wr h1)))
        · exact .foldl h (fun _ _ h1 => .wr h1)
      · split
        · exact .setF (.setF (.foldl h (fun _ _ h1 => .wr h1)))
        · exact .foldl h (fun _ _ h1 => .wr h1)
    · refine .distAdopt ?_
      refine .common ?_
      refine .ite ?_ ?_
      · refine .raise ?_
        split
        · exact .setF (.setF (.foldl h (fun _ _ h1 => .wr h1)))
        · exact .foldl h (fun _ _ h1 => .wr h1)
      · split
        · exact .setF (.setF (.foldl h (fun _ _ h1 => .wr h1)))
        · exact .foldl h (fun _ _ h1 => .wr h1)
  · refine .foldl ?_ (fun _ _ h1 => .declareOdd h1)
    refine .agreeApply ?_
    refine .ite ?_ ?_
    · refine .common ?_
      refine .ite ?_ ?_
      · refine .raise ?_
        split
        · exact .setF (.setF (.foldl h (fun _ _ h1 => .wr h1)))
        · exact .foldl h (fun _ _ h1 => .wr h1)
      · split
        · exact .setF (.setF (.foldl h (fun _ _ h1 => .wr h1)))
        · exact .foldl h (fun _ _ h1 => .wr h1)
    · refine .distAdopt ?_
      refine .common ?_
      refine .ite ?_ ?_
      · refine .raise ?_
        split
        · exact .setF (.setF (.foldl h (fun _ _ h1 => .wr h1)))
        · exact .foldl h (fun _ _ h1 => .wr h1)
      · split
        · exact .setF (.setF (.foldl h (fun _ _ h1 => .wr h1)))
        · exact .foldl h (fun _ _ h1 => .wr h1)
theorem Lane.Wf.diagApply {wake own got} (h : L.Wf site) : (L.diagApply wake own got).Wf site :=
  .ite (.ite (.agreeApply (.sdOutcome (.ite (.voidApply h) (.common (.updCk h))))) (.sdOutcome (.ite (.voidApply h) (.common (.updCk h))))) (.ite (.voidApply h) (.common (.updCk h)))
theorem Lane.Wf.rejoin {wake own fix} (h : L.Wf site) : (L.rejoin wake own fix).Wf site := .agreeApply (.updCk (.raise (.setSta (.distAdopt (.common h)))))
theorem Lane.Wf.apply_ {wake} (h : L.Wf site) : (L.apply_ wake).Wf site := by
  unfold Lane.apply_
  split
  · exact h
  · refine .ite h ?_
    extract_lets _ _ _ _ L0 _ L1 L2 L3 L4 L5
    have hL0 : L0.Wf site := .slewSet (.updCk h)
    have hL1 : L1.Wf site := .ite (.ite (.fixApply hL0) (.ite (.voidApply hL0) (.fixApply (.updCk hL0)))) (.ite (.diagApply hL0) (.ite (.ite (.rejoin hL0) hL0) (.zeroApply hL0)))
    have hL2 : L2.Wf site := .ite (.foldl hL1 (fun _ _ h3 => .ite (.raise (.setSta h3)) h3)) hL1
    have hL3 : L3.Wf site := .updEdg hL2
    have hL4 : L4.Wf site := .foldl hL3 (fun _ _ h5 => .ite (.updMc h5) h5)
    have hL5 : L5.Wf site := .ite (.sessApply (.travApply hL4)) hL4
    exact .ite (.splitApply hL5) hL5
end

/-! ### Sound -/

section
variable {L : Lane} {site : Nat} {s : State} {b : Bin}

theorem Lane.Wf.mailWritten (h : L.Wf site) : L.mailWritten.Wf site := .setF h
theorem Lane.Wf.outCtl {v} (h : L.Wf site) : (L.outCtl v).Wf site := .ite (.post h) h
theorem Lane.Wf.inCtl {v} (h : L.Wf site) : (L.inCtl v).Wf site := by
  unfold Lane.inCtl
  refine .ite ?_ h
  extract_lets L1 X
  have hL1 : L1.Wf site := .setF h
  have hX : X.Wf site := .ite (.setF hL1) hL1
  exact .upd hX
theorem Lane.Wf.sndWritten (h : L.Wf site) : L.sndWritten.Wf site := .setF h
theorem Lane.Wf.sndPhase {n} (h : L.Wf site) : (L.sndPhase n).Wf site := .setF h
theorem Lane.Wf.sndGo {base} (h : L.Wf site) : (L.sndGo base).Wf site := .ite (.setF (.raise h)) (.upd (.sndPhase (.setF h)))
theorem Lane.Wf.sndAbort (h : L.Wf site) : L.sndAbort.Wf site := by
  unfold Lane.sndAbort
  refine .ite ?_ (.ite (.raise h) h)
  extract_lets _ L1
  have hL1 : L1.Wf site := .ite (.setF h) h
  exact .ite (.upd hL1) (.ite (.sndPhase hL1) hL1)
theorem Lane.Wf.sndReq {v} (h : L.Wf site) : (L.sndReq v).Wf site := by
  unfold Lane.sndReq
  extract_lets L1
  have hL1 : L1.Wf site := .ite (.sndGo h) h
  exact .ite (.sndAbort hL1) hL1
theorem Lane.Wf.sndSaved (h : L.Wf site) : L.sndSaved.Wf site := .ite (.sndPhase h) h
theorem Lane.Wf.sndTested {fails} (h : L.Wf site) : (L.sndTested fails).Wf site := by
  unfold Lane.sndTested
  dsimp only
  refine .ite h ?_
  split
  · exact .setF (.upd (.sndPhase h))
  · exact .wr (.wr (.raise (.setF (.upd (.sndPhase h)))))
theorem Lane.Wf.sndRow {b} (h : L.Wf site) : (L.sndRow b).Wf site := .ite (.upd (.setF (.raise h))) (.raise h)
theorem Lane.Wf.sndRestored (h : L.Wf site) : L.sndRestored.Wf site := by
  unfold Lane.sndRestored
  refine .ite h ?_
  extract_lets _ _ L1 _ L2 L3 L4 L5
  have hL1 : L1.Wf site := .foldl h (fun _ _ h1 => .sndRow h1)
  have hL2 : L2.Wf site := .ite (.fault hL1) hL1
  have hL3 : L3.Wf site := .raise (.sndPhase (.setF hL2))
  have hL4 : L4.Wf site := .bump (.wr hL3)
  have hL5 : L5.Wf site := .ite hL4 (.bump hL4)
  exact .sndWritten (.upd hL5)
end

/-! ### Boot -/

section
variable {L : Lane} {site : Nat} {s : State} {b : Bin}

theorem Lane.Wf.powerOff {ret} (h : L.Wf site) : (L.powerOff ret).Wf site := by
  refine ⟨?_, h.2⟩
  dsimp only [Lane.powerOff]
  split
  · exact canon_filter _ h.1
  · rfl
theorem Lane.Wf.resetDie (h : L.Wf site) : L.resetDie.Wf site := .wr (.wr (show Lane.Wf _ site from ⟨h.1, h.2.1, h.2.2⟩))
theorem Lane.Wf.copyBytes {n src dst} (h : L.Wf site) : (Lane.copyBytes n L src dst).Wf site := by
  induction n generalizing L src dst with
  | zero => exact h
  | succ n ih => exact ih (.setByte h)
theorem Lane.Wf.copySections {slot} (h : L.Wf site) : (L.copySections slot).Wf site := .upd (.foldl h (fun _ _ h1 => .copyBytes h1))
theorem Lane.Wf.slotRecLoad (h : L.Wf site) : L.slotRecLoad.Wf site := by
  unfold Lane.slotRecLoad
  extract_lets L0
  have hL0 : L0.Wf site := .updPw (.setF h)
  split
  · exact .updPw (.setF (.setF (.setF hL0)))
  · exact .updPw (.setF (.setF hL0))
theorem Lane.Wf.slotRecWrite {act} (h : L.Wf site) : (L.slotRecWrite act).Wf site := .updPw (.recWrite h)
theorem Lane.Wf.imgFail {cause} (h : L.Wf site) : (L.imgFail cause).Wf site := .soundRec (.setF (.setF h))
theorem Lane.Wf.slotFail {cause} (h : L.Wf site) : (L.slotFail cause).1.Wf site := .iteFst (.imgFail h) (.updPw (.setF (.setF (.ite h (.clearMem h)))))
theorem Lane.Wf.imageRead {flash} (h : L.Wf site) : (L.imageRead flash).1.Wf site := by
  unfold Lane.imageRead
  refine .iteFst (.imgFail h) ?_
  extract_lets L1 _
  have hL1 : L1.Wf site := .ite h (.slotRecLoad h)
  exact .iteFst (.slotFail hL1) (.iteFst (.slotFail hL1) (.updPw (.copySections hL1)))
theorem Lane.Wf.capList (h : L.Wf site) : L.capList.Wf site := .foldl h (fun _ _ h1 => .wr h1)
theorem Lane.Wf.step9 (h : L.Wf site) : L.step9.Wf site := by
  unfold Lane.step9
  extract_lets L1 L2 L3
  have hL1 : L1.Wf site := .wr h
  have hL2 : L2.Wf site := .wr (.wr hL1)
  have hL3 : L3.Wf site := .setF (.capList (.loLoad (.comLoad hL2)))
  exact .updCk (.updPw hL3)
theorem Lane.Wf.setLock (h : L.Wf site) : L.setLock.Wf site := .updPw (.setF h)
theorem Lane.Wf.sigVerify (h : L.Wf site) : L.sigVerify.1.Wf site :=
  .iteFst (.slotFail h) (.iteFst (.imgFail h) (.ite (.setLock (.updPw (.setF (.wr (.wr (.wr (.wr (.setF h)))))))) (.updPw (.setF (.wr (.wr (.wr (.wr (.setF h)))))))))
theorem Lane.Wf.joinRequest (h : L.Wf site) : L.joinRequest.Wf site := .ite (.updEdg (.updPw (.wr (.resetDie (.setSplit h))))) h
end

/-! ### Irq -/

section
variable {L : Lane} {site : Nat} {s : State} {b : Bin}

theorem Lane.Wf.showSvc (h : L.Wf site) : L.showSvc.Wf site := .wr h
theorem Lane.Wf.irqClaim (h : L.Wf site) : L.irqClaim.2.Wf site := .iteSnd h (.wr (.upd h))
theorem Lane.Wf.irqComplete {n} (h : L.Wf site) : (L.irqComplete n).Wf site := .ite (.wr (.upd h)) (.raise h)
end

/-! ### Bus -/

section
variable {L : Lane} {site : Nat} {s : State} {b : Bin}

theorem Lane.Wf.busEnd {v err a} (h : L.Wf site) : (L.busEnd v err a).Wf site := .upd h
theorem Lane.Wf.busBad {a} (h : L.Wf site) : (L.busBad a).Wf site := .busEnd h
theorem Lane.Wf.readClears {a rc} (h : L.Wf site) : (L.readClears a rc).Wf site := by
  unfold Lane.readClears
  refine .ite (.irqClaim h) ?_
  refine .ite (.updCk h) ?_
  refine .ite (.spotRead h) ?_
  split
  · exact .bstLatch h
  · exact .ite h (.upd h)
theorem Lane.Wf.busRead {m sz a} (h : L.Wf site) : (L.busRead m sz a).Wf site := by
  unfold Lane.busRead
  refine .ite (.busBad h) ?_
  refine .ite (.busEnd h) ?_
  split
  · exact .busBad h
  · refine .ite (.busBad h) ?_
    refine .ite (.busEnd h) ?_
    extract_lets _
    split
    · exact .busEnd h
    · exact .busEnd (.readClears h)
theorem Lane.Wf.fixWritten {was} (h : L.Wf site) : (L.fixWritten was).Wf site := .ite (.setF (.setF h)) h
theorem Lane.Wf.decWrite {w} (h : L.Wf site) : (L.decWrite w).Wf site := .ite h (.ite h (.ite (.swReq h) (.ite (.ite (.decPost h) h) (.decPost h))))
theorem Lane.Wf.releaseKeys {p} (h : L.Wf site) : (L.releaseKeys p).Wf site := .updEdg h
theorem Lane.Wf.edgWritten {was} (h : L.Wf site) : (L.edgWritten was).Wf site :=
  .ite (.ite (.setF h) (.foldl h (fun _ _ h1 => .closeKey h1))) (.ite (.releaseKeys (.ite h (.setF h))) h)
theorem Lane.Wf.keyWritten {key was} (h : L.Wf site) : (L.keyWritten key was).Wf site :=
  .ite (.releaseKeys (.ite (.bridgeEnabled h) h)) (.ite (.closeKey h) (.ite (.setF h) h))
theorem Lane.Wf.bevtCleared {b} (h : L.Wf site) : (L.bevtCleared b).Wf site := .ite (.setF (.setF h)) h
theorem Lane.Wf.hnWritten {was} (h : L.Wf site) : (L.hnWritten was).Wf site := .ite (.ite h (.hnEnable h)) (.ite (.updHn h) h)
theorem Lane.Wf.onRkn {old : Lane} {a v} (h : L.Wf site) (hold : old.Wf site) : (L.onRkn old a v).Wf site := by
  unfold Lane.onRkn
  refine .ite ?_ ?_
  · extract_lets L1
    have hL1 : L1.Wf site := .rknWritten h
    exact .ite (.rknSnap hL1) hL1
  · refine .ite (.ite (.updEng h) h) ?_
    split
    · exact .wpCfgWritten h hold
    · split
      · exact .wpCmpWrite hold
      · exact h
theorem Lane.Wf.onFix {old : Lane} {a v} (h : L.Wf site) : (L.onFix old a v).Wf site := by
  unfold Lane.onFix
  refine .ite (.fixWritten h) ?_
  refine .ite (.decWrite h) ?_
  refine .ite ?_ h
  extract_lets L1
  have hL1 : L1.Wf site := .ite (.splitRequest h) h
  exact .ite (.joinRequest hL1) hL1
theorem Lane.Wf.onCe {old : Lane} {a} (h : L.Wf site) : (L.onCe old a).Wf site := by
  unfold Lane.onCe
  refine .ite (.engWritten h) ?_
  split
  · exact .taskWritten h
  · exact h
theorem Lane.Wf.onAx {old : Lane} {a v} (h : L.Wf site) : (L.onAx old a v).Wf site :=
  .ite (.axWritten (.axSplit h)) (.ite (.axSplit h) (.ite (.ite (.swReq h) h) (.ite (.lbWritten h) h)))
theorem Lane.Wf.onEdg {old : Lane} {a v} (h : L.Wf site) : (L.onEdg old a v).Wf site := by
  unfold Lane.onEdg
  extract_lets _
  refine .ite (.edgWritten h) ?_
  refine .ite (.emit (.loadEdges h)) ?_
  split
  · exact .mcWritten h
  · split
    · exact .keyWritten h
    · split
      · exact .keyWritten h
      · split
        · exact .ite (.releaseKeys h) h
        · split
          · exact .bevtCleared h
          · split
            · exact .ite (.addClear h) h
            · split
              · exact .ite (.addClear h) h
              · split
                · exact .ite (.addClear h) h
                · split
                  · exact .ite (.addClear h) h
                  · exact h
theorem Lane.Wf.onMeas {old : Lane} {a v} (h : L.Wf site) : (L.onMeas old a v).Wf site := by
  unfold Lane.onMeas
  refine .ite (.measSettle (.measWritten h)) ?_
  refine .ite (.refWritten h) ?_
  refine .ite (.ite (.spotTry (.spotGo h)) h) ?_
  refine .ite (.seqStarts h) ?_
  refine .ite (.calCmd h) ?_
  split
  · exact .slotWritten h
  · split
    · exact .seqWritten h
    · split
      · exact .ite (.bandWritten h) h
      · exact h
theorem Lane.Wf.onPos {old : Lane} {a} (h : L.Wf site) : (L.onPos old a).Wf site := by
  unfold Lane.onPos
  refine .ite (.posCtrlWritten h) ?_
  refine .ite (.gsWritten h) ?_
  split
  · exact .posWritten h
  · split
    · exact .sentWritten h
    · exact h
theorem Lane.Wf.onHnet {old : Lane} {a v} (h : L.Wf site) : (L.onHnet old a v).Wf site := by
  unfold Lane.onHnet
  refine .ite (.hnWritten h) ?_
  split
  · exact .ite (.setW1s h) h
  · exact h
theorem Lane.Wf.onCan {old : Lane} {a v} (h : L.Wf site) : (L.onCan old a v).Wf site := by
  unfold Lane.onCan
  refine .ite (.emitR (.canEnable h)) ?_
  refine .ite (.negotiate h) ?_
  split
  · exact .ite (.emitR (.canRequest (.setW1s h))) h
  · exact h
theorem Lane.Wf.onEth {old : Lane} {a v} (h : L.Wf site) : (L.onEth old a v).Wf site := by
  unfold Lane.onEth
  split
  · exact .ethEnable h
  · split
    · exact .ite (.phyGo (.setW1s h)) h
    · exact h
theorem Lane.Wf.onSafe {old : Lane} {a} (h : L.Wf site) : (L.onSafe old a).Wf site := by
  unfold Lane.onSafe
  refine .ite (.safeWritten h) ?_
  split
  · exact .sessEnable h
  · exact h
theorem Lane.Wf.onSfn {old : Lane} {a} (h : L.Wf site) : (L.onSfn old a).Wf site := by
  unfold Lane.onSfn
  refine .ite (.setF h) ?_
  split
  · exact .sfnEnable h
  · exact h
theorem Lane.Wf.onBmb {a v} (h : L.Wf site) : (L.onBmb a v).Wf site := .ite (.mailWritten h) (.ite (.outCtl h) (.ite (.inCtl h) (.ite (.keyRevoke h) h)))
theorem Lane.Wf.written {old : Lane} {a v} (h : L.Wf site) (hold : old.Wf site) : (L.written old a v).Wf site := by
  unfold Lane.written
  split
  · exact .onRkn h hold
  · exact .onFix h
  · exact .onCe h
  · exact .onAx h
  · exact .onEdg h
  · exact .onMeas h
  · exact .onPos h
  · exact .onHnet h
  · exact .onCan h
  · exact .onEth h
  · exact .onSafe h
  · exact .onSfn h
  · exact .ite (.decWrite h) h
  · exact .ite (.sndWritten h) (.ite (.sndReq h) h)
  · exact .onBmb h
  · exact .ite (.showSvc h) (.ite (.irqComplete h) (.ite (.setF h) h))
  · exact h
theorem Lane.Wf.store {a row mask v} (h : L.Wf site) : (L.store a row mask v).Wf site := .ite h (.upd h)
theorem Lane.Wf.regWrite {a row v} (h : L.Wf site) : (L.regWrite a row v).Wf site := by
  unfold Lane.regWrite
  refine .ite (.ite (.raise (.ite h (.wr h))) (.written (.store (.ite (.signW h) (.signW (.raise (.ite h (.wr h)))))) (.ite (.signW h) (.signW (.raise (.ite h (.wr h))))))) ?_
  split
  · exact .raise h
  · exact .written (.store (.signW h)) (.signW h)
theorem Lane.Wf.memWrite {a n v} (h : L.Wf site) : (L.memWrite a n v).Wf site := .ite (.storeW h) (.signW (.foldl h (fun _ _ h1 => .setByte h1)))
theorem Lane.Wf.parUpd {old : Lane} {a} (h : L.Wf site) : (L.parUpd old a).Wf site := .ite (.upd h) (.upd h)
theorem Lane.Wf.busWrite {sz a v} (h : L.Wf site) : (L.busWrite sz a v).Wf site := by
  unfold Lane.busWrite
  refine .ite (.busBad h) ?_
  split
  · exact .busEnd h
  · extract_lets L0
    have hL0 : L0.Wf site := .busEnd h
    refine .ite (.ite (.raise hL0) (.parUpd (.memWrite hL0))) ?_
    split
    · exact .raise hL0
    · exact .memWrite (.noteWrite hL0)
  · split
    · exact .busBad h
    · refine .ite (.busBad h) ?_
      extract_lets L0
      have hL0 : L0.Wf site := .busEnd h
      exact .ite hL0 (.regWrite hL0)
end

/-! ### Wire -/

section
variable {L : Lane} {site : Nat} {s : State} {b : Bin}

theorem Bin.Wf.answered {k ans} (h : b.Wf) : (b.answered k ans).Wf := by
  unfold Bin.answered
  extract_lets _ _ _
  refine .ite (.upd h) ?_
  split
  · exact .upd h
  · exact h
theorem State.Wf.hearAnswer {sz a v} (h : s.Wf) : (s.hearAnswer L sz a v).Wf := by
  unfold State.hearAnswer
  split
  · exact .ite ⟨h.a, h.b, h.c, .answered h.bin⟩ h
  · exact h
theorem State.Wf.helmSettle (h : s.Wf) : s.helmSettle.Wf := .ite h (.onLanes h (fun _ _ h1 => .ite (.hnClosed h1) h1))
theorem State.Wf.busWrite {l sz a v} (h : s.Wf) : (s.busWrite l sz a v).Wf := .helmSettle (.hearAnswer (.run h (fun _ h1 => .busWrite h1)))
theorem State.Wf.busRead {l m sz a} (h : s.Wf) : (s.busRead l m sz a).Wf := .ite (.run h (fun _ h1 => .busRead h1)) h
theorem EndsWf.write {l r v} (h : s.Wf) : EndsWf (s.write l r v) := .next (.busWrite h)
theorem EndsWf.read {l m r} (h : s.Wf) : EndsWf (s.read l m r) := .next (.busRead h)
end

/-! ### Bin -/

section
variable {L : Lane} {site : Nat} {s : State} {b : Bin}

theorem Bin.Wf.wr {o v} (h : b.Wf) : (b.wr o v).Wf := .upd h
theorem Bin.Wf.setF {o f n} (h : b.Wf) : (b.setF o f n).Wf := .wr h
theorem Bin.Wf.setUpd {st cause} (h : b.Wf) : (b.setUpd st cause).Wf := .setF (.setF h)
theorem Bin.Wf.logCnt {f} (h : b.Wf) : (b.logCnt f).Wf := .setF h
theorem Bin.Wf.hold {rcd} (h : b.Wf) : (b.hold rcd).Wf := .ite (.upd h) (.upd (.logCnt h))
theorem Bin.Wf.record {wakes src held ty cnum ps} (h : b.Wf) : (b.record wakes src held ty cnum ps).Wf := .hold h
theorem Bin.Wf.own {wakes ty ps} (h : b.Wf) : (b.own wakes ty ps).Wf := .record h
theorem Bin.Wf.oldAtLeast {n} (h : b.Wf) : (b.oldAtLeast n).Wf := .ite (.wr h) h
theorem Bin.Wf.program {rcd} (h : b.Wf) : (b.program rcd).Wf := .wr (.flashBytes (.ite (.oldAtLeast (.erase (.erase h))) h))
theorem Bin.Wf.programN {wakes k} (h : b.Wf) : (b.programN wakes k).Wf :=
  .ite (.upd (.own (.upd (.foldl h (fun _ _ h1 => .program h1))))) (.upd (.foldl h (fun _ _ h1 => .program h1)))
theorem Bin.Wf.page {wakes ok} (h : b.Wf) : (b.page wakes ok).Wf := .ite h (.ite (.programN h) (.setF h))
theorem Bin.Wf.flush {wakes ok} (h : b.Wf) : (b.flush wakes ok).Wf := .ite h (.ite (.programN h) (.setF h))
theorem Bin.Wf.ask {lanes op in1 in2 in3 buf} (h : b.Wf) : (b.ask lanes op in1 in2 in3 buf).Wf := .upd h
theorem Bin.Wf.replied {l ws} (h : b.Wf) : (b.replied l ws).Wf := .upd h
theorem Bin.Wf.lost {l} (h : b.Wf) : (b.lost l).Wf := .upd h
theorem Bin.Wf.withdraw {l} (h : b.Wf) : (b.withdraw l).Wf := .upd h
theorem State.Wf.onBin {f} (h : s.Wf) (hf : ∀ b, b.Wf → (f b).Wf) : (s.onBin f).Wf := ⟨h.a, h.b, h.c, hf _ h.bin⟩
theorem State.Wf.askAll {op in1 in2 buf} (h : s.Wf) : (s.askAll op in1 in2 buf).Wf := .onBin h (fun _ h1 => .ask h1)
theorem State.Wf.deliver {l op} (h : s.Wf) : (s.deliver l op).Wf := by
  unfold State.deliver
  split
  · exact .ite (.onBin (.setLane h (.upd (.setF (.foldl (.foldl (State.Wf.lane h _) (fun _ _ h1 => .wr h1)) (fun _ _ h1 => .wr h1))))) (fun _ h1 => .upd h1)) h
  · exact h
theorem State.Wf.answer {l ans} (h : s.Wf) : (s.answer l ans).Wf := .onBin (.onLane h (fun _ h1 => .upd (.setF h1))) (fun _ h1 => .answered h1)
theorem Lane.Wf.replyPost {tag res ws} (h : L.Wf site) : (L.replyPost tag res ws).Wf site := .post h
theorem Bin.Wf.statRecord {wakes} (h : b.Wf) : (b.statRecord wakes).Wf := .ite h (.upd (.own h))
theorem Bin.Wf.vibRecord {wakes} (h : b.Wf) : (b.vibRecord wakes).Wf := .ite h (.upd (.own (.wr (.wr h))))
theorem Bin.Wf.sample {small x} (h : b.Wf) : (b.sample small x).Wf := by
  unfold Bin.sample
  split
  · extract_lets b1
    have hb1 : b1.Wf := .foldl h (fun _ _ h1 => .wr h1)
    exact .upd hb1
  · extract_lets b1 X
    have hb1 : b1.Wf := .foldl h (fun _ _ h1 => .wr h1)
    have hX : X.Wf := .wr hb1
    exact .upd hX
  · exact .upd h
end

/-! ### Power -/

section
variable {L : Lane} {site : Nat} {s : State} {b : Bin}

theorem State.Wf.showDom (h : s.Wf) : s.showDom.Wf := .onLanes h (fun _ _ h1 => .wr h1)
theorem Bin.Wf.wake {wakeRec wakes} (h : b.Wf) : (b.wake wakeRec wakes).Wf := .own (.upd (.setF (.wr (.wr h))))
theorem State.Wf.wake {src act frm latched} (h : s.Wf) : (s.wake src act frm latched).Wf := .showDom ⟨h.a, h.b, h.c, .wake h.bin⟩
theorem State.Wf.wakeBy {act} (h : s.Wf) : (s.wakeBy act).Wf := .wake h
theorem State.Wf.wakeSeen {on} (h : s.Wf) : (s.wakeSeen on).Wf := .onLanes h (fun _ _ h1 => .ite (.sleepWake h1) h1)
theorem State.Wf.latch {k} (h : s.Wf) : (s.latch k).Wf := .upd h
theorem State.Wf.wakeEvent {k cycle on} (h : s.Wf) : (s.wakeEvent k cycle on).Wf := by
  unfold State.wakeEvent
  split
  · exact .ite (.wakeBy h) h
  · exact .ite (.latch h) h
  · exact .ite (.wakeSeen h) (.ite (.latch h) h)
  · exact h
theorem State.Wf.wakeLevel {k high} (h : s.Wf) : (s.wakeLevel k high).Wf := by
  unfold State.wakeLevel
  dsimp only
  split
  · exact .ite (.wakeBy (.upd h)) (.upd h)
  · exact .ite (.wakeSeen (.upd h)) (.upd h)
  · exact .upd h
theorem State.Wf.entryEnd (h : s.Wf) : s.entryEnd.Wf := .ite (.ite (.upd h) (.wakeBy (.upd h))) h
theorem State.Wf.onDies {f} (h : s.Wf) : (s.onDies f).Wf := .upd h
theorem Bin.Wf.powerOff (h : b.Wf) : b.powerOff.Wf := h
theorem State.Wf.allOff {ret bin} (h : s.Wf) : (s.allOff ret bin).Wf := by
  unfold State.allOff
  extract_lets s1
  have hs1 : s1.Wf := .onDies (.onLanes h (fun _ _ h1 => .powerOff h1))
  exact ⟨hs1.a, hs1.b, hs1.c, .ite (.foldl hs1.bin (fun _ _ h2 => .lost h2)) (.powerOff hs1.bin)⟩
theorem State.Wf.powerDown (h : s.Wf) : s.powerDown.Wf := by
  unfold State.powerDown
  split
  · exact h
  · exact .ite (.showDom (.allOff (.upd h))) h
theorem State.Wf.resetN (h : s.Wf) : s.resetN.Wf := .ite h (.upd (.allOff h))
theorem State.Wf.resetNEnd (h : s.Wf) : s.resetNEnd.Wf := .ite (.wake h) h
theorem State.Wf.keepOn (h : s.Wf) : s.keepOn.Wf := .ite (.wake ⟨h.a, h.b, h.c, .upd (.setF h.bin)⟩) h
theorem State.Wf.startStep {l r} (h : s.Wf) (hr : r.1.Wf l.num) : (s.startStep l r).Wf :=
  .ite (.setSta (.run h fun _ _ => hr)) (.run h fun _ _ => hr)
theorem State.Wf.laneRelease {l strap us} (h : s.Wf) : (s.laneRelease l strap us).Wf := by
  unfold State.laneRelease
  extract_lets L L1 s1
  have h1 : L1.Wf l.num := .setF (.updPw (h.lane l))
  have hs : s1.Wf := .showDom (.setSta (.setLane h (.calLoad (.wr h1))))
  exact .ite (.ite (.startStep hs (.imgFail (hs.lane l))) hs) h
theorem Lane.Wf.memBist {rows ecc anchor us} (h : L.Wf site) : (L.memBist rows ecc anchor us).Wf site :=
  .showPosts (.upd (.updPw (.clearMem (.setF (.wr (.wr (.wr h)))))))
theorem Lane.Wf.logicBist {pass cov us mac oos} (h : L.Wf site) : (L.logicBist pass cov us mac oos).1.Wf site := by
  unfold Lane.logicBist
  extract_lets L1 L2 L3
  have hL1 : L1.Wf site := .wr h
  have hL2 : L2.Wf site := by
    dsimp only [L2]
    split
    · exact .setF (.setF hL1)
    · exact .setF (.setF hL1)
  have hL3 : L3.Wf site := .updPw (.setF hL2)
  exact .iteFst hL3 (.imgFail hL3)
theorem State.Wf.letters (h : s.Wf) : s.letters.Wf :=
  .foldl h (fun _ _ h1 => .ite h1 (.ite (.onLane h1 (fun _ h2 => .setF h2)) (.ite (.setSta (.onLane h1 (fun _ h2 => .soundRec h2))) h1)))
theorem State.Wf.train {l lat} (h : s.Wf) : (s.train l lat).Wf :=
  .onLane (.foldl (.onDies h) (fun _ _ h1 => .onLanes h1 (fun _ _ h2 => .setF h2))) (fun _ h1 => .setF h1)
theorem State.Wf.ringBringUp {l lat} (h : s.Wf) : (s.ringBringUp l lat).Wf := .ite (.letters (.train (.setLane h (.updPw (.upd (State.Wf.lane h _)))))) h
theorem State.Wf.listEnd {l} (h : s.Wf) : (s.listEnd l).Wf := .ite (.setSta (.run h (fun _ h1 => .step9 h1))) h
theorem Lane.Wf.loadEntry (h : L.Wf site) : L.loadEntry.1.Wf site := by
  unfold Lane.loadEntry
  split
  · exact h
  next a v t _ =>
    have h1 : (L.updPw fun p => { p with list := t, rlAt := L.ticks }).Wf site := .updPw h
    have h2 : ((L.updPw fun p => { p with list := t, rlAt := L.ticks }).setF R.IMG_RLCNT F.IMG_RLCNT_CNT (L.fld R.IMG_RLCNT F.IMG_RLCNT_CNT + 1)).Wf site :=
      .setF h1
    refine .iteFst (.iteFst (.setF (.updPw h2)) (.imgFail h)) (.iteFst (.imgFail h) ?_)
    exact .iteFst (.imgFail (.busWrite h1)) (.iteFst (.imgFail (.busWrite h2)) (.ite (.setLock (.busWrite h2)) (.busWrite h2)))
theorem Lane.Wf.loadWaitEnd (h : L.Wf site) : L.loadWaitEnd.Wf site := by
  unfold Lane.loadWaitEnd
  split
  · refine .ite ?_ h
    extract_lets L1
    have hL1 : L1.Wf site := .updPw h
    exact .ite (.setLock hL1) hL1
  · exact h
theorem Lane.Wf.loneTimeout (h : L.Wf site) : L.loneTimeout.Wf site := .ite (.logRec (.updPw h)) h
theorem Lane.Wf.guardOn {feed} (h : L.Wf site) : (L.guardOn feed).Wf site := .ite (.upd (.setF (.raise (.setF (.setF h))))) (.setF h)
theorem Lane.Wf.unretain (h : L.Wf site) : L.unretain.Wf site := .showPosts (.upd h)
theorem Lane.Wf.guardOff {feed} (h : L.Wf site) : (L.guardOff feed).Wf site := .ite (.unretain (.upd (.raise (.setF (.setF (.setF h)))))) (.setF h)
theorem Lane.Wf.nvmTimeout {k} (h : L.Wf site) : (L.nvmTimeout k).Wf site := by
  unfold Lane.nvmTimeout
  refine .ite ?_ h
  extract_lets L1 L2
  have hL1 : L1.Wf site := .upd h
  have hL2 : L2.Wf site := .ite (.calStored hL1) (.ite (.comDone hL1) (.ite (.loDone hL1) (.nvmEnd hL1)))
  exact .raise (.setF hL2)
theorem State.Wf.linkDown {l} (h : s.Wf) : (s.linkDown l).Wf := .ite (.onBin (.onLane h (fun _ h1 => .raise (.setF h1))) (fun _ h1 => .lost h1)) h
theorem State.Wf.linkUp {l} (h : s.Wf) : (s.linkUp l).Wf := .ite (.onLane h (fun _ h1 => .unretain (.setF h1))) h
end

/-! ### Update -/

section
variable {L : Lane} {site : Nat} {s : State} {b : Bin}

theorem State.Wf.udsSend {port bs} (h : s.Wf) : (s.udsSend port bs).Wf := .askAll h
theorem State.Wf.nrc {port sid code} (h : s.Wf) : (s.nrc port sid code).Wf := .udsSend h
theorem State.Wf.udsJoined {port bs} (h : s.Wf) : (s.udsJoined port bs).Wf := .ite h (.ite (.onBin h (fun _ h1 => .upd h1)) (.ite h (.nrc h)))
theorem State.Wf.segment {ws} (h : s.Wf) : (s.segment ws).Wf :=
  .ite h (.ite (.onBin h (fun _ h1 => .upd h1)) (.ite (.udsJoined (.onBin h (fun _ h1 => .upd h1))) (.onBin h (fun _ h1 => .upd h1))))
theorem Bin.Wf.wrReg {o v} (h : b.Wf) : (b.wrReg o v).Wf := .ite (.wr h) (.ite (.wr h) h)
theorem State.Wf.readReg {o} (h : s.Wf) : (s.readReg o).2.Wf := by
  unfold State.readReg
  split
  · exact h
  · exact .ite (.onBin h fun _ hb => .wr hb) h
theorem State.Wf.regval {l o res v} (h : s.Wf) : (s.regval l o res v).Wf := .onBin h (fun _ h1 => .ask h1)
theorem State.Wf.sleepPost {ok} (h : s.Wf) : (s.sleepPost ok).Wf := by
  unfold State.sleepPost
  refine .ite (.askAll h) ?_
  extract_lets s1
  have hs1 : s1.Wf := .onBin h (fun _ h1 => .flush h1)
  exact .ite (.askAll hs1) (.askAll hs1)
theorem State.Wf.actPost {ok p ls} (h : s.Wf) : (s.actPost ok p ls).Wf :=
  .ite (.ite (.onBin h (fun _ h1 => .wrReg h1)) (.onBin (.foldl (.readReg h) (fun _ _ h1 => .regval h1)) (fun _ h1 => .upd h1))) (.ite (.segment h) (.sleepPost h))
theorem State.Wf.matchPost {l ok p} (h : s.Wf) : (s.matchPost l ok p).Wf := by
  unfold State.matchPost
  refine .ite (.actPost h) ?_
  split
  · exact .ite (.ite (.regval (.onBin h (fun _ h1 => .upd h1))) (.onBin h (fun _ h1 => .upd h1))) (.onBin h (fun _ h1 => .upd h1))
  · split
    · exact .ite (.actPost (.onBin h (fun _ h1 => .upd h1))) (.onBin (.actPost (.onBin h (fun _ h1 => .upd h1))) (fun _ h1 => .upd h1))
    · exact .onBin h (fun _ h1 => .upd h1)
theorem State.Wf.takePost {l ok} (h : s.Wf) : (s.takePost l ok).Wf := by
  unfold State.takePost
  extract_lets _
  split
  · exact h
  · refine .ite ?_ h
    extract_lets s1
    have hs1 : s1.Wf := .onLane h (fun _ h2 => .unretain (.bump (.showPosts (.upd h2))))
    exact .ite (.onBin hs1 (fun _ h3 => .record h3)) (.ite (.onBin hs1 (fun _ h3 => .replied h3)) (.ite (.matchPost hs1) hs1))
theorem State.Wf.dropPost {l} (h : s.Wf) : (s.dropPost l).Wf := .onBin h (fun _ h1 => .upd h1)
theorem Bin.Wf.eraseStage (h : b.Wf) : b.eraseStage.Wf := .upd (.oldAtLeast (.foldl h (fun _ _ h1 => .erase h1)))
theorem Bin.Wf.updFail {cause} (h : b.Wf) : (b.updFail cause).Wf := .upd (.setUpd h)
theorem State.Wf.updAbort {cause} (h : s.Wf) : (s.updAbort cause).Wf := .onBin (.askAll h) (fun _ h1 => .updFail h1)
theorem State.Wf.updRound {op in1 buf} (h : s.Wf) : (s.updRound op in1 buf).Wf := .onBin (.askAll h) (fun _ h1 => .upd h1)
theorem State.Wf.updBlock (h : s.Wf) : s.updBlock.Wf := .updRound h
theorem Bin.Wf.keepStat {rs} (h : b.Wf) : (b.keepStat rs).Wf := .upd h
theorem Bin.Wf.endSession (h : b.Wf) : b.endSession.Wf := by
  unfold Bin.endSession
  extract_lets b1
  have hb1 : b1.Wf := .upd h
  exact .ite (.updFail hb1) (.upd hb1)
theorem State.Wf.progOver {port rs} (h : s.Wf) : (s.progOver port rs).Wf :=
  .ite (.udsSend (.onBin (.onBin h (fun _ h1 => .upd (.keepStat h1))) (fun _ h1 => .upd (.endSession h1)))) (.nrc (.onBin (.onBin h (fun _ h1 => .upd (.keepStat h1))) (fun _ h1 => .setF h1)))
theorem State.Wf.joinOver {rs} (h : s.Wf) : (s.joinOver rs).Wf := by
  unfold State.joinOver
  dsimp only
  exact .onBin h fun _ hb => .own (.wr (.setF (.setF (.upd (.keepStat hb)))))
theorem State.Wf.roundStep {op rs} (h : s.Wf) : (s.roundStep op rs).Wf := by
  unfold State.roundStep
  extract_lets s0 c c' s1
  have h0 : s0.Wf := .onBin h fun _ hb => .upd hb
  have h1 : s1.Wf := .onBin h0 fun _ hb => .upd hb
  refine .ite ?_ (.ite (.ite (.updAbort h0) (.updBlock (.onBin h0 fun _ hb => .upd (.setUpd hb)))) ?_)
  · split
    · exact .progOver h0
    · exact .joinOver h0
  · refine .ite (.ite (.updAbort h0) (.ite (.updBlock h1) (.updRound (.onBin h1 fun _ hb => .setUpd hb)))) ?_
    exact .ite (.ite (.updAbort h0) (.updRound (.onBin h0 fun _ hb => .setUpd hb))) (.onBin h0 fun _ hb => .setF hb)
theorem Bin.Wf.sweep (h : b.Wf) : b.sweep.Wf := .upd h
theorem State.Wf.binStep (h : s.Wf) : s.binStep.Wf := by
  unfold State.binStep
  refine .onBin ?_ (fun _ h1 => .sweep h1)
  split
  · split
    · exact .roundStep h
    · exact h
  · exact .ite (.updRound h) h
end

/-! ### BinCmds -/

section
variable {L : Lane} {site : Nat} {s : State} {b : Bin}

theorem EndsWf.binnaclePostReceive {l ok} (h : s.Wf) : EndsWf (execBinnaclePostReceive l ok s) := .next (.binStep (.takePost h))
theorem EndsWf.postMatchTimeout {l} (h : s.Wf) : EndsWf (execPostMatchTimeout l s) := .next (.dropPost h)
theorem EndsWf.requestTimeout {l} (h : s.Wf) : EndsWf (execRequestTimeout l s) :=
  .ite (.next (.onBin (.onLane h (fun _ h1 => .upd (.raise (.setF h1)))) (fun _ h1 => .withdraw h1))) (.next h)
theorem State.Wf.request {l op act} (h : s.Wf) (hact : ∀ t, t.Wf → (act t).Wf) : (s.request l op act).Wf := .ite (hact _ (.binStep h)) (.deliver (.binStep h))
theorem State.Wf.accept {l f} (h : s.Wf) (hf : ∀ L, L.Wf l.num → (f L).Wf l.num) : (s.accept l f).Wf := .run (.answer h) hf
theorem EndsWf.status {l} (h : s.Wf) : EndsWf (execStatus l s) := .next (.request h (fun _ h1 => .accept h1 (fun _ h2 => .replyPost h2)))
theorem Lane.Wf.soundReply {tag} (h : L.Wf site) : (L.soundReply tag).Wf site := by
  unfold Lane.soundReply
  extract_lets _ L1
  have hL1 : L1.Wf site := .replyPost h
  exact .ite (.logRec hL1) hL1
theorem EndsWf.sound {l} (h : s.Wf) : EndsWf (execSound l s) := by
  unfold execSound
  split
  · exact .ite (.next h) (.next (.binStep (.onBin (.run h (fun _ h1 => .soundReply h1)) (fun _ h1 => .upd h1))))
  · exact .next (.request h (fun _ h1 => .accept h1 (fun _ h2 => .busWrite h2)))
theorem EndsWf.regval {l} (h : s.Wf) : EndsWf (execRegval l s) := .next (.request h fun _ ht => .accept ht fun _ hL => hL)
theorem EndsWf.send {l} (h : s.Wf) : EndsWf (execSend l s) := .next (.request h fun _ ht => .accept ht fun _ hL => hL)
theorem State.Wf.splitReq {l op f} (h : s.Wf) (hf : ∀ L, L.Wf l.num → (f L).Wf l.num) : (s.splitReq l op f).Wf :=
  .request h fun _ ht => .ite (.accept ht hf) (.answer ht)
theorem EndsWf.updBegin {l} (h : s.Wf) : EndsWf (execUpdBegin l s) := by
  unfold execUpdBegin
  split
  · exact .ite (.next (.run h (fun _ h1 => .replyPost h1))) (.ite (.next (.run h (fun _ h1 => .replyPost h1))) (.next h))
  · exact .next (.request h (fun _ h1 => .accept h1 (fun _ h2 => .busWrite h2)))
theorem Lane.Wf.updProgram {ok ofs ws} (h : L.Wf site) : (L.updProgram ok ofs ws).Wf site :=
  .ite h (.ite (.flashBytes (.ite (.flashErase h) h)) (.flashNoise (.ite (.flashErase h) h)))
theorem EndsWf.updData {l ok} (h : s.Wf) : EndsWf (execUpdData l ok s) :=
  .next (.ite h (.splitReq h (fun _ h1 => .ite (.replyPost (.updProgram h1)) (.replyPost h1))))
theorem EndsWf.updEnd {l} (h : s.Wf) : EndsWf (execUpdEnd l s) := .next (.splitReq h (fun _ h1 => .replyPost h1))
theorem Lane.Wf.updRecord {ok} (h : L.Wf site) : (L.updRecord ok).Wf site := .ite (.slotRecWrite h) (.ite (.raise h) (.recSpoil h))
theorem EndsWf.updCommit {l ok} (h : s.Wf) : EndsWf (execUpdCommit l ok s) := .next (.ite h (.splitReq h (fun _ h1 => .joinRequest (.replyPost (.updRecord h1)))))
theorem EndsWf.updAbort {l} (h : s.Wf) : EndsWf (execUpdAbort l s) := .next (.splitReq h (fun _ h1 => .joinRequest (.replyPost h1)))
theorem EndsWf.keyrev {l} (h : s.Wf) : EndsWf (execKeyrev l s) := .next (.request h (fun _ h1 => .accept h1 (fun _ h2 => .postTrip (.replyPost h2))))
theorem EndsWf.sleepok {l} (h : s.Wf) : EndsWf (execSleepok l s) := .next (.request h (fun _ h1 => .accept h1 (fun _ h2 => .ite (.updPw h2) h2)))
theorem EndsWf.sleepno {l} (h : s.Wf) : EndsWf (execSleepno l s) := .next (.request h (fun _ h1 => .accept h1 (fun _ h2 => .ite (.updPw h2) h2)))
theorem EndsWf.logPageProgram {ok} (h : s.Wf) : EndsWf (execLogPageProgram ok s) := .next (.onBin h (fun _ h1 => .ite (.page h1) h1))
theorem EndsWf.binnacleSensorSample {x} (h : s.Wf) : EndsWf (execBinnacleSensorSample x s) := .next (.binStep (.onBin h (fun _ h1 => .ite (.sample h1) h1)))
theorem EndsWf.sensorStatisticsRecord (h : s.Wf) : EndsWf (execSensorStatisticsRecord s) := .next (.onBin h (fun _ h1 => .ite (.statRecord h1) h1))
theorem EndsWf.vibrationSummaryRecord (h : s.Wf) : EndsWf (execVibrationSummaryRecord s) := .next (.onBin h (fun _ h1 => .ite (.vibRecord h1) h1))
theorem EndsWf.runtimeSoundingInterval (h : s.Wf) : EndsWf (execRuntimeSoundingInterval s) := by
  unfold execRuntimeSoundingInterval
  extract_lets s1 _
  have hs1 : s1.Wf := .binStep h
  refine .ite (.next hs1) ?_
  split
  · exact .next hs1
  · extract_lets _
    split
    · exact .next hs1
    · refine .next ?_
      refine .onBin hs1 fun _ h3 => ?_
      extract_lets X
      have hX : X.Wf := .ask h3
      exact .upd hX
theorem EndsWf.soundingSaveDone {l} (h : s.Wf) : EndsWf (execSoundingSaveDone l s) := .next (.run h (fun _ h1 => .sndSaved h1))
theorem EndsWf.soundingTestDone {l fails} (h : s.Wf) : EndsWf (execSoundingTestDone l fails s) := .next (.run h (fun _ h1 => .sndTested h1))
theorem EndsWf.soundingRestoreDone {l} (h : s.Wf) : EndsWf (execSoundingRestoreDone l s) := .next (.run h (fun _ h1 => .sndRestored h1))
end

/-! ### Debug -/

section
variable {L : Lane} {site : Nat} {s : State} {b : Bin}

theorem Lane.Wf.dbgHalt (h : L.Wf site) : L.dbgHalt.Wf site := .emit (.stopNow (.setF h))
theorem Lane.Wf.dbgResume (h : L.Wf site) : L.dbgResume.Wf site := .ite (.wpResume (.updCk (.holdOutputs (.setF (.setF h))))) h
theorem Lane.Wf.dbgDo {x} (h : L.Wf site) : (L.dbgDo x).Wf site := by
  unfold Lane.dbgDo
  split
  · exact .dbgHalt h
  · exact .dbgResume h
  · exact .updCk (.dbgResume h)
  · exact .busWrite h
theorem State.Wf.showDbg (h : s.Wf) : s.showDbg.Wf := .onLanes h (fun _ _ h1 => .setF (.setF h1))
theorem State.Wf.dbgRefuse (h : s.Wf) : s.dbgRefuse.Wf := .onLane h (fun _ h1 => .raise h1)
theorem State.Wf.dbgPush {a} (h : s.Wf) : (s.dbgPush a).Wf :=
  .ite (.dbgRefuse h) (.ite (.foldl h (fun _ _ h1 => .ite (.run h1 (fun _ h2 => .dbgDo h2)) h1)) (.ite (.dbgRefuse h) (.showDbg (.upd h))))
theorem State.Wf.dbgApply {l} (h : s.Wf) : (s.dbgApply l).Wf := by
  unfold State.dbgApply
  extract_lets s1 _ s2 _
  have hs1 : s1.Wf := .ite (.run h (fun _ h1 => .dbgHalt (.updCk h1))) h
  have hs2 : s2.Wf := .foldl hs1 (fun _ _ h2 => .run h2 (fun _ h3 => .dbgDo h3))
  exact .ite hs2 (.showDbg (.upd hs2))
theorem EndsWf.debug {a} (h : s.Wf) : EndsWf (s.debug a) := .next (.ite (.dbgPush h) h)
theorem EndsWf.debugHalt (h : s.Wf) : EndsWf (execDebugHalt s) := .debug h
theorem EndsWf.debugStep (h : s.Wf) : EndsWf (execDebugStep s) := .debug h
theorem EndsWf.debugResume (h : s.Wf) : EndsWf (execDebugResume s) := .debug h
theorem EndsWf.debugWrite {addr v} (h : s.Wf) : EndsWf (execDebugWrite addr v s) := .debug h
theorem EndsWf.breakpointHit {addr} (h : s.Wf) : EndsWf (execBreakpointHit addr s) := .ite (.next h) (.next (.dbgPush (.onLane h (fun _ h1 => .setF (.wr h1)))))
end

/-! ### CkCmds -/

section
variable {L : Lane} {site : Nat} {s : State} {b : Bin}

theorem Lane.Wf.resync {H G : Lane} {i j} (h : L.Wf site) (hH : H.Wf i) (hG : G.Wf j) : (L.resync H G).Wf site := by
  unfold Lane.resync
  extract_lets _ _ _ _ _ _ _ X X1 X2 X3
  have hX : X.Wf site := ⟨canon_filter _ (canon_mergeTab _ hH.1 hG.1), h.2⟩
  have h3 : X3.Wf site := .foldl (.wr (.wr (.wr hX))) fun _ _ hY => .setF hY
  exact .setF (.setSta (.setF h3))
theorem State.Wf.resyncLane {l} (h : s.Wf) : (s.resyncLane l).Wf := by
  unfold State.resyncLane
  split
  · exact .setLane h (.resync (h.lane l) (h.lane _) (h.lane _))
  · exact h
theorem State.Wf.catchUp {l} (h : s.Wf) : (s.catchUp l).Wf := .ite (.resyncLane h) h
theorem EndsWf.checkpointCapture {l din ball} (h : s.Wf) : EndsWf (execCheckpointCapture l din ball s) :=
  .next (.helmSettle (.run (.catchUp h) (fun _ h1 => .capture_ h1)))
theorem EndsWf.checkpointDataReceive {l frm tap skew} (h : s.Wf) : EndsWf (execCheckpointDataReceive l frm tap skew s) := by
  unfold execCheckpointDataReceive
  extract_lets _
  split
  · exact .ite (.next (.run h (fun _ h2 => .takeData h2))) (.next h)
  · exact .next h
theorem State.Wf.follow {k} (h : s.Wf) : (s.follow k).Wf :=
  .ite (.run h (fun _ h1 => .resetDie (.updCk (.bump (.setSta h1))))) (.ite (.run h (fun _ h1 => .setSta h1)) h)
theorem State.Wf.settleApply {old : State} {l} (h : s.Wf) : (s.settleApply old l).Wf := by
  unfold State.settleApply
  extract_lets _ s1 _ s2 s3
  have hs1 : s1.Wf := .ite (.run h (fun _ h3 => .resetDie h3)) h
  have hs2 : s2.Wf := .ite (.setSta hs1) hs1
  have hs3 : s3.Wf := .foldl hs2 (fun _ _ h5 => .follow h5)
  exact .ite (.binStep hs3) hs3
theorem State.Wf.apply {l} (h : s.Wf) : (s.apply l).Wf := .ite h (.dbgApply (.settleApply (.run h (fun _ h1 => .apply_ h1))))
theorem EndsWf.checkpointApply {l} (h : s.Wf) : EndsWf (execCheckpointApply l s) := .next (.apply h)
theorem EndsWf.clockFault {l} (h : s.Wf) : EndsWf (execClockFault l s) :=
  .ite (.next (.run (.foldl h (fun _ _ h1 => .run h1 (fun _ h2 => .declareOdd h2))) (fun _ h1 => .resetDie h1))) (.next h)
theorem EndsWf.splitOffconfTimeout {l} (h : s.Wf) : EndsWf (execSplitOffconfTimeout l s) := .next (.run h (fun _ h1 => .splitTimeout h1))
theorem EndsWf.joinReloadDone {l} (h : s.Wf) : EndsWf (execJoinReloadDone l s) := .next (.run h (fun _ h1 => .ite (.step9 h1) h1))
theorem EndsWf.laneResetDone {l} (h : s.Wf) : EndsWf (execLaneResetDone l s) := .ite (.next (.setSta h)) (.next h)
theorem EndsWf.quickSoundingDone {l pass} (h : s.Wf) : EndsWf (execQuickSoundingDone l pass s) :=
  .ite (.next (.setSta (.run h (fun _ h1 => .ite (.calLoad h1) h1)))) (.next h)
theorem EndsWf.resyncTransferDone {l} (h : s.Wf) : EndsWf (execResyncTransferDone l s) := .next (.ite (.resyncLane h) h)
theorem EndsWf.resyncTimeout {l} (h : s.Wf) : EndsWf (execResyncTimeout l s) := .ite (.next (.setSta h)) (.next h)
theorem EndsWf.safetyPduReceive {l} (h : s.Wf) : EndsWf (execSafetyPduReceive l s) := .next (.run h (fun _ h1 => .pduCheck h1))
theorem EndsWf.hello {l} (h : s.Wf) : EndsWf (execHello l s) := .next (.run h (fun _ h1 => .pduCheckTy h1))
theorem EndsWf.command {l} (h : s.Wf) : EndsWf (execCommand l s) := .next (.run h (fun _ h1 => .pduCheckTy h1))
theorem EndsWf.heartbeat {l} (h : s.Wf) : EndsWf (execHeartbeat l s) := .next (.run h (fun _ h1 => .pduCheckTy h1))
theorem EndsWf.stop {l} (h : s.Wf) : EndsWf (execStop l s) := .next (.run h (fun _ h1 => .pduCheckTy h1))
theorem EndsWf.reset {l} (h : s.Wf) : EndsWf (execReset l s) := .next (.run h (fun _ h1 => .pduCheckTy h1))
theorem EndsWf.query {l} (h : s.Wf) : EndsWf (execQuery l s) := .next (.run h (fun _ h1 => .pduCheckTy h1))
theorem EndsWf.confirm {l} (h : s.Wf) : EndsWf (execConfirm l s) := .next (.run h (fun _ h1 => .pduCheckTy h1))
theorem EndsWf.sessionExpire {l n} (h : s.Wf) : EndsWf (execSessionExpire l n s) := .next (.run h (fun _ h1 => .sessExpire h1))
theorem EndsWf.controlledStopTimeout {l a} (h : s.Wf) : EndsWf (execControlledStopTimeout l a s) := .next (.run h (fun _ h1 => .cstopEnd h1))
theorem EndsWf.challengeExpire {l} (h : s.Wf) : EndsWf (execChallengeExpire l s) := .next (.run h (fun _ h1 => .chalExpire h1))
theorem EndsWf.commissioningRecordWriteDone {l ok} (h : s.Wf) : EndsWf (execCommissioningRecordWriteDone l ok s) := .next (.run h (fun _ h1 => .comDone h1))
theorem EndsWf.lockoutRecordWriteDone {l ok} (h : s.Wf) : EndsWf (execLockoutRecordWriteDone l ok s) := .next (.run h (fun _ h1 => .loDone h1))
theorem EndsWf.selfDiagnosisEnd {l pat ecc ref clk} (h : s.Wf) : EndsWf (execSelfDiagnosisEnd l pat ecc ref clk s) := .next (.run h (fun _ h1 => .ite (.sdEnd h1) h1))
theorem EndsWf.giveUpEnd {l flash} (h : s.Wf) : EndsWf (execGiveUpEnd l flash s) := by
  unfold execGiveUpEnd
  extract_lets s1 _
  have hs1 : s1.Wf := .run h (fun _ h1 => .giveUpEnd h1)
  exact .ite (.next (.setSta hs1)) (.next hs1)
theorem EndsWf.survivorFault {l} (h : s.Wf) : EndsWf (execSurvivorFault l s) :=
  .ite (.next (.foldl (.run h (fun _ h1 => .giveUp h1)) (fun _ _ h1 => .run h1 (fun _ h2 => .otherGone h2)))) (.next h)
theorem EndsWf.crawlTimeout {l} (h : s.Wf) : EndsWf (execCrawlTimeout l s) := .next (.run h (fun _ h1 => .crawlEnd h1))
theorem EndsWf.steeringAxisLost {l a} (h : s.Wf) : EndsWf (execSteeringAxisLost l a s) := .next (.run h (fun _ h1 => .axisLost h1))
theorem EndsWf.standstillWaitEnd {l} (h : s.Wf) : EndsWf (execStandstillWaitEnd l s) := .next (.run h (fun _ h1 => .stillWait h1))
end

/-! ### DieCmds -/

section
variable {L : Lane} {site : Nat} {s : State} {b : Bin}

theorem EndsWf.atDie {n f} (h : s.Wf) : EndsWf (s.atDie n f) := .next (.onDie h)
theorem EndsWf.periodStart {r imeas} (h : s.Wf) : EndsWf (execPeriodStart r imeas s) := .atDie h
theorem EndsWf.linkPacketReceive {d l good} (h : s.Wf) : EndsWf (execLinkPacketReceive d l good s) := .atDie h
theorem EndsWf.dieVote {r} (h : s.Wf) : EndsWf (execDieVote r s) := .atDie h
theorem EndsWf.voteHoldOff {r} (h : s.Wf) : EndsWf (execVoteHoldOff r s) := .atDie h
theorem State.Wf.windowVotes {n} (h : s.Wf) : (s.windowVotes n).Wf := .ite (.foldl h (fun _ _ h1 => .windowVote h1)) h
theorem EndsWf.diePacketVote {d bst} (h : s.Wf) : EndsWf (execDiePacketVote d bst s) := .ite (.next (.windowVotes (.onDie h))) (.next h)
theorem EndsWf.packetSendDeadline {l r} (h : s.Wf) : EndsWf (execPacketSendDeadline l r s) := .next (.laneSend h (fun _ h1 => .sendDeadline h1))
theorem EndsWf.diePacketBuild {l d} (h : s.Wf) : EndsWf (execDiePacketBuild l d s) := .next (.laneSend h (fun _ h1 => .buildDie h1))
theorem State.Wf.silentFault {l n} (h : s.Wf) : (s.silentFault l n).Wf :=
  .ite (.onLane h (fun _ h1 => .fault h1)) (.foldl (.onLane h (fun _ h1 => .fault h1)) (fun _ _ h1 => .onLane h1 (fun _ h2 => .fault h2)))
theorem EndsWf.dieSilentTimeout {l d} (h : s.Wf) : EndsWf (execDieSilentTimeout l d s) :=
  .ite (.next h) (.next (.silentFault (.setLane h (.dieSilent (State.Wf.lane h _)))))
theorem EndsWf.oppositeGateFall {b leg side} (h : s.Wf) : EndsWf (execOppositeGateFall b leg side s) := .atDie h
theorem EndsWf.interlockFault {b leg} (h : s.Wf) : EndsWf (execInterlockFault b leg s) := .atDie h
theorem EndsWf.gateRailUndervoltage {d} (h : s.Wf) : EndsWf (execGateRailUndervoltage d s) := .atDie h
theorem EndsWf.gateRailRecover {d} (h : s.Wf) : EndsWf (execGateRailRecover d s) := .atDie h
theorem EndsWf.refreshInsert {b leg rloss} (h : s.Wf) : EndsWf (execRefreshInsert b leg rloss s) := .atDie h
theorem EndsWf.highSideStuck {b leg} (h : s.Wf) : EndsWf (execHighSideStuck b leg s) := .atDie h
theorem EndsWf.bootstrapUndervoltage {b leg on} (h : s.Wf) : EndsWf (execBootstrapUndervoltage b leg on s) := .atDie h
theorem EndsWf.desaturation {b leg side t} (h : s.Wf) : EndsWf (execDesaturation b leg side t s) := .atDie h
theorem EndsWf.hardShort {b leg side t} (h : s.Wf) : EndsWf (execHardShort b leg side t s) := .atDie h
theorem EndsWf.tripInputActive {t blank} (h : s.Wf) : EndsWf (execTripInputActive t blank s) := .atDie h
theorem EndsWf.tripInputInactive {t} (h : s.Wf) : EndsWf (execTripInputInactive t s) := .atDie h
theorem EndsWf.blankingWindowEnd {t} (h : s.Wf) : EndsWf (execBlankingWindowEnd t s) := .atDie h
theorem EndsWf.valveOpenLoad {v} (h : s.Wf) : EndsWf (execValveOpenLoad v s) := .atDie h
theorem EndsWf.valveLowSideOvercurrent {v} (h : s.Wf) : EndsWf (execValveLowSideOvercurrent v s) := .atDie h
theorem EndsWf.valveMainOvercurrent {v} (h : s.Wf) : EndsWf (execValveMainOvercurrent v s) := .atDie h
theorem EndsWf.valveDeviation {v} (h : s.Wf) : EndsWf (execValveDeviation v s) := .atDie h
theorem EndsWf.safetyOutputShort {o} (h : s.Wf) : EndsWf (execSafetyOutputShort o s) := .atDie h
theorem EndsWf.safetyOutputOverload {o} (h : s.Wf) : EndsWf (execSafetyOutputOverload o s) := .atDie h
theorem EndsWf.offPulseTestStart {d item} (h : s.Wf) : EndsWf (execOffPulseTestStart d item s) := .atDie h
theorem EndsWf.offPulseTestEnd {d pass} (h : s.Wf) : EndsWf (execOffPulseTestEnd d pass s) := .atDie h
theorem EndsWf.checkerMismatch {d} (h : s.Wf) : EndsWf (execCheckerMismatch d s) := .atDie h
theorem EndsWf.dieTick {d} (h : s.Wf) : EndsWf (execDieTick d s) := .atDie h
end

/-! ### EdgeCmds -/

section
variable {L : Lane} {site : Nat} {s : State} {b : Bin}

theorem EndsWf.takeRet {α : Type} {n l} {p : Ret → Option α} {f} (h : s.Wf) (hf : ∀ L x, L.Wf l.num → (f L x).Wf l.num) : EndsWf (s.takeRet n l p f) := by
  refine .next ?_
  split
  · exact .run (.setDie h) fun _ hL => hf _ _ hL
  · exact h
theorem Lane.Wf.onMark {n place seq} (h : L.Wf site) : (L.onMark n place seq).Wf site := by
  unfold Lane.onMark
  extract_lets _ L1
  have hL1 : L1.Wf site := .mark h
  exact .axMark (.ite (.mcMark hL1) hL1)
theorem EndsWf.periodStartMarkReceive {l d} (h : s.Wf) : EndsWf (execPeriodStartMarkReceive l d s) := .takeRet h (fun _ _ h1 => .onMark h1)
theorem Lane.Wf.lbProt {n place hit} (h : L.Wf site) : (L.lbProt n place hit).Wf site := .ite (.ite (.lbProtBridge h) (.lbProtValve h)) h
theorem EndsWf.bridgeReportReceive {l d} (h : s.Wf) : EndsWf (execBridgeReportReceive l d s) := .takeRet h (fun _ _ h1 => .mcReport (.lbProt (.bridgeReport h1)))
theorem EndsWf.valveReportReceive {l d} (h : s.Wf) : EndsWf (execValveReportReceive l d s) := .takeRet h (fun _ _ h1 => .lbProt (.valveReport h1))
theorem EndsWf.dieReportReceive {l d} (h : s.Wf) : EndsWf (execDieReportReceive l d s) := .takeRet h (fun _ _ h1 => .dieReport h1)
theorem EndsWf.voteReportReceive {l d} (h : s.Wf) : EndsWf (execVoteReportReceive l d s) :=
  .takeRet h (fun _ _ h1 => .foldl (.voteReported h1) (fun _ _ h2 => .lbProt h2))
theorem EndsWf.commutationTimedChange {l b} (h : s.Wf) : EndsWf (execCommutationTimedChange l b s) := .next (.run h (fun _ h1 => .mcTimed h1))
theorem EndsWf.offsetCheckEnd {l b} (h : s.Wf) : EndsWf (execOffsetCheckEnd l b s) := .next (.run h (fun _ h1 => .mcOfsEnd h1))
theorem EndsWf.alignEnd {l b} (h : s.Wf) : EndsWf (execAlignEnd l b s) := .next (.run h (fun _ h1 => .mcAlignEnd h1))
theorem EndsWf.poltestDone {l b} (h : s.Wf) : EndsWf (execPoltestDone l b s) := .next (.run h (fun _ h1 => .mcPolEnd h1))
theorem EndsWf.verifyWindowEnd {l b} (h : s.Wf) : EndsWf (execVerifyWindowEnd l b s) := .next (.run h (fun _ h1 => .mcVerEnd h1))
theorem EndsWf.catchEnd {l b} (h : s.Wf) : EndsWf (execCatchEnd l b s) := .next (.run h (fun _ h1 => .mcCatchEnd h1))
theorem EndsWf.externalHoldDetect {l b} (h : s.Wf) : EndsWf (execExternalHoldDetect l b s) := .next (.run h (fun _ h1 => .mcHeld h1))
theorem EndsWf.relockMeasureEnd {l b} (h : s.Wf) : EndsWf (execRelockMeasureEnd l b s) := .next (.run h (fun _ h1 => .mcRelockEnd h1))
theorem EndsWf.relockTimeout {l b} (h : s.Wf) : EndsWf (execRelockTimeout l b s) := .next (.run h (fun _ h1 => .mcRelockOut h1))
theorem EndsWf.samplingInstant {l b} (h : s.Wf) : EndsWf (execSamplingInstant l b s) := .next (.run h (fun _ h1 => .mcInstant h1))
theorem EndsWf.regionCopyDone {l a} (h : s.Wf) : EndsWf (execRegionCopyDone l a s) := .next (.run h (fun _ h1 => .copyDone h1))
end

/-! ### EngCmds -/

section
variable {L : Lane} {site : Nat} {s : State} {b : Bin}

theorem EndsWf.issue {l w op f} (h : s.Wf) (hf : ∀ L i c, L.Wf l.num → (f L i c).Wf l.num) : EndsWf (s.issue l w op f) :=
  .next (.ite (.run h fun _ hL => .engIssue hL hf) h)
theorem EndsWf.taskDeadlineExpire {l n} (h : s.Wf) : EndsWf (execTaskDeadlineExpire l n s) := .next (.run h (fun _ h1 => .deadlineExpire h1))
theorem EndsWf.waitComplete {l n} (h : s.Wf) : EndsWf (execWaitComplete l n s) := .next (.run h (fun _ h1 => .waitDone h1))
theorem EndsWf.enginePreempt {l} (h : s.Wf) : EndsWf (execEnginePreempt l s) := .next (.run h (fun _ h1 => .engPreempt h1))
theorem EndsWf.waypointFire {l w} (h : s.Wf) : EndsWf (execWaypointFire l w s) := .next (.run h (fun _ h1 => .wpCross h1))
theorem EndsWf.nop {l w} (h : s.Wf) : EndsWf (execNop l w s) := .issue h (fun _ _ _ h1 => .issNop h1)
theorem EndsWf.endInst {l w} (h : s.Wf) : EndsWf (execEndInst l w s) := .issue h fun _ _ _ _ => .ends
theorem EndsWf.yieldInst {l w} (h : s.Wf) : EndsWf (execYieldInst l w s) := .issue h fun _ _ _ _ => .ends
theorem EndsWf.jmp {l w} (h : s.Wf) : EndsWf (execJmp l w s) := .issue h (fun _ _ _ h1 => .issJump h1)
theorem EndsWf.brc {l w} (h : s.Wf) : EndsWf (execBrc l w s) := .issue h (fun _ _ _ h1 => .issJump h1)
theorem EndsWf.loop {l w} (h : s.Wf) : EndsWf (execLoop l w s) := .issue h (fun _ _ _ h1 => .issLoop h1)
theorem EndsWf.lpst {l w} (h : s.Wf) : EndsWf (execLpst l w s) := .issue h (fun _ _ _ h1 => .issLpst h1)
theorem EndsWf.lpld {l w} (h : s.Wf) : EndsWf (execLpld l w s) := .issue h (fun _ _ _ h1 => .issLpld h1)
theorem EndsWf.wait {l w} (h : s.Wf) : EndsWf (execWait l w s) := .issue h fun _ _ _ _ => .issWait
theorem EndsWf.vld {l w} (h : s.Wf) : EndsWf (execVld l w s) := .issue h (fun _ _ _ h1 => .issVld h1)
theorem EndsWf.vst {l w} (h : s.Wf) : EndsWf (execVst l w s) := .issue h (fun _ _ _ h1 => .issVst h1)
theorem EndsWf.vmov {l w} (h : s.Wf) : EndsWf (execVmov l w s) := .issue h (fun _ _ _ h1 => .res h1)
theorem EndsWf.eld {l w} (h : s.Wf) : EndsWf (execEld l w s) := .issue h (fun _ _ _ h1 => .issEld h1)
theorem EndsWf.est {l w} (h : s.Wf) : EndsWf (execEst l w s) := .issue h (fun _ _ _ h1 => .issEst h1)
theorem EndsWf.vset {l w} (h : s.Wf) : EndsWf (execVset l w s) := .issue h (fun _ _ _ h1 => .res h1)
theorem EndsWf.exps {l w} (h : s.Wf) : EndsWf (execExps l w s) := .issue h (fun _ _ _ h1 => .res h1)
theorem EndsWf.inWord {l w} (h : s.Wf) : EndsWf (execInWord l w s) := .issue h (fun _ _ _ h1 => .issIn h1)
theorem EndsWf.outWord {l w} (h : s.Wf) : EndsWf (execOutWord l w s) := .issue h (fun _ _ _ h1 => .issOut h1)
theorem EndsWf.vadd {l w} (h : s.Wf) : EndsWf (execVadd l w s) := .issue h (fun _ _ _ h1 => .resV h1)
theorem EndsWf.vsub {l w} (h : s.Wf) : EndsWf (execVsub l w s) := .issue h (fun _ _ _ h1 => .resV h1)
theorem EndsWf.vmul {l w} (h : s.Wf) : EndsWf (execVmul l w s) := .issue h (fun _ _ _ h1 => .issVmul h1)
theorem EndsWf.vdot {l w} (h : s.Wf) : EndsWf (execVdot l w s) := .issue h (fun _ _ _ h1 => .issVdot h1)
theorem EndsWf.macs {l w} (h : s.Wf) : EndsWf (execMacs l w s) := .issue h (fun _ _ _ h1 => .issMacs h1)
theorem EndsWf.stAcc {l w} (h : s.Wf) : EndsWf (execStAcc l w s) := .issue h (fun _ _ _ h1 => .issSt h1)
theorem EndsWf.matvec {l w} (h : s.Wf) : EndsWf (execMatvec l w s) := .issue h (fun _ _ _ h1 => .issMatvec h1)
theorem EndsWf.mvst {l w} (h : s.Wf) : EndsWf (execMvst l w s) := .issue h (fun _ _ _ h1 => .issMvst h1)
theorem EndsWf.norm {l w} (h : s.Wf) : EndsWf (execNorm l w s) := .issue h (fun _ _ _ h1 => .res h1)
theorem EndsWf.expx {l w} (h : s.Wf) : EndsWf (execExpx l w s) := .issue h (fun _ _ _ h1 => .res h1)
theorem EndsWf.shv {l w} (h : s.Wf) : EndsWf (execShv l w s) := .issue h (fun _ _ _ h1 => .issShv h1)
theorem EndsWf.vlim {l w} (h : s.Wf) : EndsWf (execVlim l w s) := .issue h (fun _ _ _ h1 => .issVlim h1)
theorem EndsWf.vsel {l w} (h : s.Wf) : EndsWf (execVsel l w s) := .issue h (fun _ _ _ h1 => .issVsel h1)
theorem EndsWf.cmp {l w} (h : s.Wf) : EndsWf (execCmp l w s) := .issue h (fun _ _ _ h1 => .issCmp h1)
end

/-! ### MeasCmds -/

section
variable {L : Lane} {site : Nat} {s : State} {b : Bin}

theorem EndsWf.referenceReady {l} (h : s.Wf) : EndsWf (execReferenceReady l s) := .next (.run h (fun _ h1 => .refReady h1))
theorem EndsWf.referenceFault {l} (h : s.Wf) : EndsWf (execReferenceFault l s) := .next (.run h (fun _ h1 => .refFault h1))
theorem EndsWf.sequenceGroupStart {l q} (h : s.Wf) : EndsWf (execSequenceGroupStart l q s) := .next (.run h (fun _ h1 => .groupStart h1))
theorem Lane.Wf.slotDelivered {x codes} (h : L.Wf site) : (L.slotDelivered x codes).Wf site := by
  unfold Lane.slotDelivered
  split
  · exact h
  · refine .ite h ?_
    extract_lets L1
    have hL1 : L1.Wf site := .deliver h
    exact .ite (.mcGot hL1) hL1
theorem EndsWf.slotDelivery {l x codes} (h : s.Wf) : EndsWf (execSlotDelivery l x codes s) := .next (.run h (fun _ h1 => .slotDelivered h1))
theorem EndsWf.spotResult {l code} (h : s.Wf) : EndsWf (execSpotResult l code s) := .next (.run h (fun _ h1 => .spotResult h1))
theorem EndsWf.calCaptureDone {l} (h : s.Wf) : EndsWf (execCalCaptureDone l s) := .next (.run h (fun _ h1 => .calPoint h1))
theorem Lane.Wf.calWritten {ok} (h : L.Wf site) : (L.calWritten ok).Wf site := by
  unfold Lane.calWritten
  extract_lets _ L1
  have hL1 : L1.Wf site := .calStored h
  exact .ite (.comLoad (.comStale hL1)) hL1
theorem EndsWf.calStoreWriteDone {l ok} (h : s.Wf) : EndsWf (execCalStoreWriteDone l ok s) := .next (.run h (fun _ h1 => .calWritten h1))
theorem EndsWf.quadratureEdge {l n a b} (h : s.Wf) : EndsWf (execQuadratureEdge l n a b s) := .next (.run h (fun _ h1 => .quadEdge h1))
theorem EndsWf.hallTransition {l n h} (hw : s.Wf) : EndsWf (execHallTransition l n h s) := .next (.run hw (fun _ h1 => .hallEdge h1))
theorem EndsWf.indexEdge {l n} (h : s.Wf) : EndsWf (execIndexEdge l n s) := .next (.run h (fun _ h1 => .indexEdge h1))
theorem EndsWf.sincosPair {l n} (h : s.Wf) : EndsWf (execSincosPair l n s) := .next (.run h (fun _ h1 => .sincosPair h1))
theorem EndsWf.pulseRisingEdge {l n high} (h : s.Wf) : EndsWf (execPulseRisingEdge l n high s) := .next (.run h (fun _ h1 => .pulseEdge h1))
theorem EndsWf.pulseTimeout {l n level} (h : s.Wf) : EndsWf (execPulseTimeout l n level s) := .next (.run h (fun _ h1 => .pulseTimeout h1))
theorem EndsWf.trackingObserverUpdate {l n} (h : s.Wf) : EndsWf (execTrackingObserverUpdate l n s) := .next (.run h (fun _ h1 => .posObserve h1))
theorem EndsWf.sentFrame {l m cal pulses} (h : s.Wf) : EndsWf (execSentFrame l m cal pulses s) := .next (.run h (fun _ h1 => .sentFrame h1))
theorem EndsWf.sentFrameTimeout {l m} (h : s.Wf) : EndsWf (execSentFrameTimeout l m s) := .next (.run h (fun _ h1 => .sentTimeout h1))
theorem EndsWf.travelPulse {l src} (h : s.Wf) : EndsWf (execTravelPulse l src s) := .next (.run h (fun _ h1 => .travPulse h1))
theorem EndsWf.travelStillTimeout {l src} (h : s.Wf) : EndsWf (execTravelStillTimeout l src s) := .next (.run h (fun _ h1 => .travStill h1))
end

/-! ### NetCmds -/

section
variable {L : Lane} {site : Nat} {s : State} {b : Bin}

theorem Lane.Wf.helmNew {old : Lane} (h : L.Wf site) : (L.helmNew old).Wf site := .foldl h (fun _ _ h2 => .ite (.helmPdu h2) h2)
theorem Lane.Wf.canFresh {old : Lane} (h : L.Wf site) : (L.canFresh old).Wf site :=
  .foldl h (fun _ _ h2 => .ite (.emitR (.canAgain h2)) (.ite (.emitR (.canFlush h2)) h2))
theorem State.Wf.netSettle {old : State} (h : s.Wf) : (s.netSettle old).Wf := .foldl h (fun _ _ h2 => .run h2 (fun _ h3 => .canFresh (.helmNew h3)))
theorem EndsWf.net {f} (h : s.Wf) (hf : ∀ t, t.Wf → (f t).Wf) : EndsWf (s.net f) := .next (.netSettle (hf _ h))
theorem EndsWf.sendRecs {l f} (h : s.Wf) (hf : ∀ L, L.Wf l.num → (f L).1.Wf l.num) : EndsWf (s.sendRecs l f) := .next (.run h fun _ hL => .emitR (hf _ hL))
theorem EndsWf.stepping {l f} (h : s.Wf) (hf : ∀ L, L.Wf l.num → (f L).1.Wf l.num) : EndsWf (s.stepping l f) :=
  .next (.run h fun _ hL => .ite (hf _ hL) (.wpStep13 (hf _ hL)))
theorem EndsWf.portRecordReceive {d l good} (h : s.Wf) : EndsWf (execPortRecordReceive d l good s) := .net h (fun _ h1 => .portArrive h1)
theorem EndsWf.portRecordVoteTimeout {d port tag} (h : s.Wf) : EndsWf (execPortRecordVoteTimeout d port tag s) := .net h (fun _ h1 => .portTimeout h1)
theorem EndsWf.helmNetWindowVote {p tag} (h : s.Wf) : EndsWf (execHelmNetWindowVote p tag s) := .net h (fun _ h1 => .windowVote h1)
theorem EndsWf.canFrameTransmitDone {d e} (h : s.Wf) : EndsWf (execCanFrameTransmitDone d e s) := .net h (fun _ h1 => .frameDone h1)
theorem EndsWf.busOffRecovery {d} (h : s.Wf) : EndsWf (execBusOffRecovery d s) := .net h (fun _ h1 => .busRecover h1)
theorem EndsWf.windowStart {p tag busy} (h : s.Wf) : EndsWf (execWindowStart p tag busy s) := .net h (fun _ h1 => .windowStart h1)
theorem EndsWf.guardianWindow {p tag opens} (h : s.Wf) : EndsWf (execGuardianWindow p tag opens s) := .next (.onDie h)
theorem EndsWf.busIdle {d since} (h : s.Wf) : EndsWf (execBusIdle d since s) := .net h (fun _ h1 => .busIdle h1)
theorem EndsWf.txBufferCopy {l e} (h : s.Wf) : EndsWf (execTxBufferCopy l e s) := .sendRecs h (fun _ h1 => .txCopy h1)
theorem EndsWf.helmNetFrameReceive {l p f} (h : s.Wf) : EndsWf (execHelmNetFrameReceive l p f s) := .net h (fun _ h1 => .run h1 (fun _ h2 => .frameEnd h2))
theorem EndsWf.referenceMessageReceive {l p f} (h : s.Wf) : EndsWf (execReferenceMessageReceive l p f s) :=
  .stepping h (fun _ h1 => .refReceive (.helmNew (.frameEnd h1)))
theorem EndsWf.referenceSendTimeout {l} (h : s.Wf) : EndsWf (execReferenceSendTimeout l s) := .sendRecs h (fun _ h1 => .refTurn h1)
theorem EndsWf.referenceTimeout {l} (h : s.Wf) : EndsWf (execReferenceTimeout l s) := .next (.run h (fun _ h1 => .refTimeout h1))
theorem EndsWf.listenTimeout {l} (h : s.Wf) : EndsWf (execListenTimeout l s) := .next (.run h (fun _ h1 => .listenTimeout h1))
theorem EndsWf.coldStartSend {l} (h : s.Wf) : EndsWf (execColdStartSend l s) := .sendRecs h (fun _ h1 => .coldSend h1)
theorem EndsWf.coldStartAck {l} (h : s.Wf) : EndsWf (execColdStartAck l s) := .stepping h (fun _ h1 => .coldAck h1)
theorem EndsWf.coldStartRepeat {l} (h : s.Wf) : EndsWf (execColdStartRepeat l s) := .sendRecs h (fun _ h1 => .coldRepeat h1)
theorem EndsWf.backoffEnd {l} (h : s.Wf) : EndsWf (execBackoffEnd l s) := .next (.run h (fun _ h1 => .backoffEnd h1))
theorem EndsWf.matrixCycleStart {l} (h : s.Wf) : EndsWf (execMatrixCycleStart l s) := .next (.run h (fun _ h1 => .matrixCycle h1))
theorem EndsWf.basicCycleStart {l} (h : s.Wf) : EndsWf (execBasicCycleStart l s) := .next (.run h (fun _ h1 => .basicCycle h1))
theorem EndsWf.delayProbe {l p node} (h : s.Wf) : EndsWf (execDelayProbe l p node s) := .next (.run h (fun _ h1 => .delayProbe h1))
theorem EndsWf.delayAnswer {l p t2 t3} (h : s.Wf) : EndsWf (execDelayAnswer l p t2 t3 s) := .next (.run h (fun _ h1 => .delayAnswer h1))
theorem EndsWf.capabilityFrame {l node mask} (h : s.Wf) : EndsWf (execCapabilityFrame l node mask s) := .next (.run h (fun _ h1 => .capability h1))
theorem EndsWf.pathFailTimeout {l p} (h : s.Wf) : EndsWf (execPathFailTimeout l p s) := .net h (fun _ h1 => .run h1 (fun _ h2 => .pathFail h2))
theorem EndsWf.startOfFrame {l p own} (h : s.Wf) : EndsWf (execStartOfFrame l p own s) := .next (.run h (fun _ h1 => .sof h1))
theorem EndsWf.addressClaimReceive {l sa name} (h : s.Wf) : EndsWf (execAddressClaimReceive l sa name s) := .sendRecs h (fun _ h1 => .claimReceive h1)
theorem EndsWf.addressClaimRequest {l} (h : s.Wf) : EndsWf (execAddressClaimRequest l s) := .sendRecs h (fun _ h1 => .claimRequest h1)
theorem EndsWf.addressClaimTimeout {l} (h : s.Wf) : EndsWf (execAddressClaimTimeout l s) := .sendRecs h (fun _ h1 => .claimTimeout h1)
theorem EndsWf.isobusFrameReceive {l f} (h : s.Wf) : EndsWf (execIsobusFrameReceive l f s) := .next (.run h (fun _ h1 => .canReceive h1))
theorem EndsWf.svcFrameReceive {l f} (h : s.Wf) : EndsWf (execSvcFrameReceive l f s) := .next (.run h (fun _ h1 => .canReceive h1))
theorem EndsWf.ethTxDescriptorTake {l p} (h : s.Wf) : EndsWf (execEthTxDescriptorTake l p s) := .next (.run h (fun _ h1 => .txTake h1))
theorem EndsWf.ethTxDone {p} (h : s.Wf) : EndsWf (execEthTxDone p s) := .net h (fun _ h1 => .ethDone h1)
theorem EndsWf.ethFrameReceive {l p bytes good} (h : s.Wf) : EndsWf (execEthFrameReceive l p bytes good s) := .next (.run h (fun _ h1 => .ethReceive h1))
theorem EndsWf.phyAccessDone {p da db dc} (h : s.Wf) : EndsWf (execPhyAccessDone p da db dc s) := .net h (fun _ h1 => .phyDone h1)
theorem EndsWf.refclkLoss {l p} (h : s.Wf) : EndsWf (execRefclkLoss l p s) := .next (.run h (fun _ h1 => .refclk h1))
theorem EndsWf.refclkReturn {l p} (h : s.Wf) : EndsWf (execRefclkReturn l p s) := .next (.run h (fun _ h1 => .refclk h1))
end

/-! ### PowerCmds -/

section
variable {L : Lane} {site : Nat} {s : State} {b : Bin}

theorem EndsWf.keepPowerOn (h : s.Wf) : EndsWf (execKeepPowerOn s) := .next (.keepOn h)
theorem EndsWf.wakeLevel {src high} (h : s.Wf) : EndsWf (execWakeLevel src high s) := .next (.wakeLevel h)
theorem EndsWf.wakeEdge {src rising cycle} (h : s.Wf) : EndsWf (execWakeEdge src rising cycle s) := .next (.wakeEvent h)
theorem EndsWf.wakeUpFrame {f cycle} (h : s.Wf) : EndsWf (execWakeUpFrame f cycle s) := .next (.wakeEvent h)
theorem EndsWf.resetNAssert (h : s.Wf) : EndsWf (execResetNAssert s) := .next (.resetN h)
theorem EndsWf.resetNRelease (h : s.Wf) : EndsWf (execResetNRelease s) := .next (.resetNEnd h)
theorem EndsWf.powerDown (h : s.Wf) : EndsWf (execPowerDown s) := .next (.powerDown h)
theorem EndsWf.keepEntryEnd (h : s.Wf) : EndsWf (execKeepEntryEnd s) := .next (.entryEnd h)
theorem EndsWf.laneFeedStart {l feed ms} (h : s.Wf) : EndsWf (execLaneFeedStart l feed ms s) :=
  .ite (.ite (.next (.setLane h (.setF (.updPw (State.Wf.lane h _))))) (.next (.setLane h (.updPw (State.Wf.lane h _))))) (.next h)
theorem EndsWf.laneFeedLoss {l} (h : s.Wf) : EndsWf (execLaneFeedLoss l s) :=
  .ite (.next (.showDom (.onBin (.onDies (.setLane h (.updPw (.powerOff (State.Wf.lane h _))))) (fun _ h1 => .lost h1)))) (.next h)
theorem EndsWf.driverDiePowerOn {d} (h : s.Wf) : EndsWf (execDriverDiePowerOn d s) := .ite (.next (.showDom (.setDie h))) (.next h)
theorem EndsWf.dieSoundingDone {d pass} (h : s.Wf) : EndsWf (execDieSoundingDone d pass s) := .next (.onDie h)
theorem EndsWf.laneResetRelease {l strap us} (h : s.Wf) : EndsWf (execLaneResetRelease l strap us s) := .next (.laneRelease h)
theorem EndsWf.memoryBistDone {l rows ecc us} (h : s.Wf) : EndsWf (execMemoryBistDone l rows ecc us s) := .next (.run h (fun _ h1 => .ite (.memBist h1) h1))
theorem EndsWf.logicBistDone {l pass cov us mac oos} (h : s.Wf) : EndsWf (execLogicBistDone l pass cov us mac oos s) :=
  .ite (.next (.startStep h (.logicBist (State.Wf.lane h _)))) (.next h)
theorem EndsWf.ringBringUpDone {l lat} (h : s.Wf) : EndsWf (execRingBringUpDone l lat s) := .next (.ringBringUp h)
theorem EndsWf.imageReadDone {l flash} (h : s.Wf) : EndsWf (execImageReadDone l flash s) := .ite (.next (.startStep h (.imageRead (State.Wf.lane h _)))) (.next h)
theorem EndsWf.signatureVerifyDone {l} (h : s.Wf) : EndsWf (execSignatureVerifyDone l s) :=
  .ite (.next (.listEnd (.startStep h (.sigVerify (State.Wf.lane h _))))) (.next h)
theorem EndsWf.registerLoadEntry {l} (h : s.Wf) : EndsWf (execRegisterLoadEntry l s) :=
  .ite (.next (.listEnd (.startStep h (.loadEntry (State.Wf.lane h _))))) (.next h)
theorem EndsWf.registerLoadWaitEnd {l} (h : s.Wf) : EndsWf (execRegisterLoadWaitEnd l s) := .next (.listEnd (.run h (fun _ h1 => .loadWaitEnd h1)))
theorem EndsWf.loneLaneTimeout {l} (h : s.Wf) : EndsWf (execLoneLaneTimeout l s) := .next (.run h (fun _ h1 => .loneTimeout h1))
theorem EndsWf.nvmGuardOn {l feed} (h : s.Wf) : EndsWf (execNvmGuardOn l feed s) := .next (.run h (fun _ h1 => .guardOn h1))
theorem EndsWf.nvmGuardOff {l feed} (h : s.Wf) : EndsWf (execNvmGuardOff l feed s) := .next (.run h (fun _ h1 => .guardOff h1))
theorem EndsWf.nvmWriteTimeout {l k} (h : s.Wf) : EndsWf (execNvmWriteTimeout l k s) := .next (.run h (fun _ h1 => .nvmTimeout h1))
theorem EndsWf.sleepStepTimeout {l} (h : s.Wf) : EndsWf (execSleepStepTimeout l s) := .next (.run h (fun _ h1 => .sleepTimeout h1))
theorem EndsWf.managementLinkTimeout {l} (h : s.Wf) : EndsWf (execManagementLinkTimeout l s) := .next (.linkDown h)
theorem EndsWf.managementLinkUp {l} (h : s.Wf) : EndsWf (execManagementLinkUp l s) := .next (.linkUp h)
end

/-! ### RegCmds -/

section
variable {L : Lane} {site : Nat} {s : State} {b : Bin}

theorem EndsWf.registerWrite {l size addr v} (h : s.Wf) : EndsWf (execRegisterWrite l size addr v s) := .next (.busWrite h)
theorem EndsWf.programMemoryWrite {l size ofs v} (h : s.Wf) : EndsWf (execProgramMemoryWrite l size ofs v s) := .next (.busWrite h)
theorem EndsWf.shadowWrite {l a i v} (h : s.Wf) : EndsWf (execShadowWrite l a i v s) := .next (.busWrite h)
theorem EndsWf.guardBandWrite {l x r v} (h : s.Wf) : EndsWf (execGuardBandWrite l x r v s) := .write h
theorem EndsWf.irqComplete {l v} (h : s.Wf) : EndsWf (execIrqComplete l v s) := .write h
theorem EndsWf.axisEnable {l a v} (h : s.Wf) : EndsWf (execAxisEnable l a v s) := .write h
theorem EndsWf.axisDisable {l a v} (h : s.Wf) : EndsWf (execAxisDisable l a v s) := .write h
theorem EndsWf.rknEnable {l v} (h : s.Wf) : EndsWf (execRknEnable l v s) := .write h
theorem EndsWf.rknDisable {l v} (h : s.Wf) : EndsWf (execRknDisable l v s) := .write h
theorem EndsWf.snap {l v} (h : s.Wf) : EndsWf (execSnap l v s) := .write h
theorem EndsWf.waypointArm {l w v} (h : s.Wf) : EndsWf (execWaypointArm l w v s) := .write h
theorem EndsWf.waypointCompareWrite {l w v} (h : s.Wf) : EndsWf (execWaypointCompareWrite l w v s) := .write h
theorem EndsWf.waypointDisarm {l w v} (h : s.Wf) : EndsWf (execWaypointDisarm l w v s) := .write h
theorem EndsWf.fixEnable {l v} (h : s.Wf) : EndsWf (execFixEnable l v s) := .write h
theorem EndsWf.decisionPost {l v} (h : s.Wf) : EndsWf (execDecisionPost l v s) := .write h
theorem EndsWf.edgeLoad {l v} (h : s.Wf) : EndsWf (execEdgeLoad l v s) := .write h
theorem EndsWf.bridgeClear {l b} (h : s.Wf) : EndsWf (execBridgeClear l b s) := .write h
theorem EndsWf.valveClear {l x} (h : s.Wf) : EndsWf (execValveClear l x s) := .write h
theorem EndsWf.safetyOutputClear {l o} (h : s.Wf) : EndsWf (execSafetyOutputClear l o s) := .write h
theorem EndsWf.tripClear {l t} (h : s.Wf) : EndsWf (execTripClear l t s) := .write h
theorem EndsWf.bridgeEnable {l b v} (h : s.Wf) : EndsWf (execBridgeEnable l b v s) := .write h
theorem EndsWf.commutationEnable {l b v} (h : s.Wf) : EndsWf (execCommutationEnable l b v s) := .write h
theorem EndsWf.commutationDisable {l b v} (h : s.Wf) : EndsWf (execCommutationDisable l b v s) := .write h
theorem EndsWf.engineEnable {l v} (h : s.Wf) : EndsWf (execEngineEnable l v s) := .write h
theorem EndsWf.engineDisable {l v} (h : s.Wf) : EndsWf (execEngineDisable l v s) := .write h
theorem EndsWf.taskConfigWrite {l n v} (h : s.Wf) : EndsWf (execTaskConfigWrite l n v s) := .write h
theorem EndsWf.bankSwapRequest {l a} (h : s.Wf) : EndsWf (execBankSwapRequest l a s) := .write h
theorem EndsWf.logbookEnable {l a v} (h : s.Wf) : EndsWf (execLogbookEnable l a v s) := .write h
theorem EndsWf.logbookDisable {l a v} (h : s.Wf) : EndsWf (execLogbookDisable l a v s) := .write h
theorem EndsWf.logbookSoftwareTrigger {l a v} (h : s.Wf) : EndsWf (execLogbookSoftwareTrigger l a v s) := .write h
theorem EndsWf.logbookRearm {l a v} (h : s.Wf) : EndsWf (execLogbookRearm l a v s) := .write h
theorem EndsWf.referenceEnable {l v} (h : s.Wf) : EndsWf (execReferenceEnable l v s) := .write h
theorem EndsWf.measEnable {l v} (h : s.Wf) : EndsWf (execMeasEnable l v s) := .write h
theorem EndsWf.slotEnable {l x v} (h : s.Wf) : EndsWf (execSlotEnable l x v s) := .write h
theorem EndsWf.sequenceEnable {l q v} (h : s.Wf) : EndsWf (execSequenceEnable l q v s) := .write h
theorem EndsWf.sequenceStart {l v} (h : s.Wf) : EndsWf (execSequenceStart l v s) := .write h
theorem EndsWf.spotConversion {l v} (h : s.Wf) : EndsWf (execSpotConversion l v s) := .write h
theorem EndsWf.calStart {l v} (h : s.Wf) : EndsWf (execCalStart l v s) := .write h
theorem EndsWf.calCommit {l v} (h : s.Wf) : EndsWf (execCalCommit l v s) := .write h
theorem EndsWf.calAbort {l v} (h : s.Wf) : EndsWf (execCalAbort l v s) := .write h
theorem EndsWf.posEnable {l v} (h : s.Wf) : EndsWf (execPosEnable l v s) := .write h
theorem EndsWf.positionInterfaceEnable {l n v} (h : s.Wf) : EndsWf (execPositionInterfaceEnable l n v s) := .write h
theorem EndsWf.sentEnable {l m v} (h : s.Wf) : EndsWf (execSentEnable l m v s) := .write h
theorem EndsWf.travelEnable {l v} (h : s.Wf) : EndsWf (execTravelEnable l v s) := .write h
theorem EndsWf.groundSpeedEnable {l v} (h : s.Wf) : EndsWf (execGroundSpeedEnable l v s) := .write h
theorem EndsWf.helmNetEnable {l v} (h : s.Wf) : EndsWf (execHelmNetEnable l v s) := .write h
theorem EndsWf.helmNetDisable {l v} (h : s.Wf) : EndsWf (execHelmNetDisable l v s) := .write h
theorem EndsWf.transmitRequest {l k} (h : s.Wf) : EndsWf (execTransmitRequest l k s) := .write h
theorem EndsWf.isobusEnable {l v} (h : s.Wf) : EndsWf (execIsobusEnable l v s) := .write h
theorem EndsWf.isbTransmitRequest {l k v} (h : s.Wf) : EndsWf (execIsbTransmitRequest l k v s) := .write h
theorem EndsWf.svcTransmitRequest {l k v} (h : s.Wf) : EndsWf (execSvcTransmitRequest l k v s) := .write h
theorem EndsWf.versionNegotiate {l v} (h : s.Wf) : EndsWf (execVersionNegotiate l v s) := .write h
theorem EndsWf.ethernetEnable {l p v} (h : s.Wf) : EndsWf (execEthernetEnable l p v s) := .write h
theorem EndsWf.phyAccess {l p v} (h : s.Wf) : EndsWf (execPhyAccess l p v s) := .write h
theorem EndsWf.safetyLayerEnable {l v} (h : s.Wf) : EndsWf (execSafetyLayerEnable l v s) := .write h
theorem EndsWf.sessionEnable {l n v} (h : s.Wf) : EndsWf (execSessionEnable l n v s) := .write h
theorem EndsWf.monitorEnable {l v} (h : s.Wf) : EndsWf (execMonitorEnable l v s) := .write h
theorem EndsWf.functionEnable {l a v} (h : s.Wf) : EndsWf (execFunctionEnable l a v s) := .write h
theorem EndsWf.splitRequest {l} (h : s.Wf) : EndsWf (execSplitRequest l s) := .write h
theorem EndsWf.joinRequest {l} (h : s.Wf) : EndsWf (execJoinRequest l s) := .write h
theorem EndsWf.modeRequest {l v} (h : s.Wf) : EndsWf (execModeRequest l v s) := .write h
theorem EndsWf.logRecordPost {l} (h : s.Wf) : EndsWf (execLogRecordPost l s) := .write h
theorem EndsWf.replyPost {l} (h : s.Wf) : EndsWf (execReplyPost l s) := .write h
theorem EndsWf.binnacleRegisterAccess {l} (h : s.Wf) : EndsWf (execBinnacleRegisterAccess l s) := .write h
theorem EndsWf.diagnosticSegment {l} (h : s.Wf) : EndsWf (execDiagnosticSegment l s) := .write h
theorem EndsWf.sleepStepPost {l} (h : s.Wf) : EndsWf (execSleepStepPost l s) := .write h
theorem EndsWf.requestAccept {l} (h : s.Wf) : EndsWf (execRequestAccept l s) := .write h
theorem EndsWf.requestRefuse {l rcode} (h : s.Wf) : EndsWf (execRequestRefuse l rcode s) := .write h
theorem EndsWf.keyRevoke {l v} (h : s.Wf) : EndsWf (execKeyRevoke l v s) := .write h
theorem EndsWf.soundingStart {l v} (h : s.Wf) : EndsWf (execSoundingStart l v s) := .write h
theorem EndsWf.soundingAbort {l v} (h : s.Wf) : EndsWf (execSoundingAbort l v s) := .write h
theorem EndsWf.irqClaim {l m} (h : s.Wf) : EndsWf (execIrqClaim l m s) := .read h
theorem EndsWf.decisionRead {l m} (h : s.Wf) : EndsWf (execDecisionRead l m s) := .read h
theorem EndsWf.spotResultRead {l m} (h : s.Wf) : EndsWf (execSpotResultRead l m s) := .read h
theorem EndsWf.bufferStatusRead {l m k} (h : s.Wf) : EndsWf (execBufferStatusRead l m k s) := .read h
theorem EndsWf.rknAdmAccRead {l m} (h : s.Wf) : EndsWf (execRknAdmAccRead l m s) := .read h
theorem EndsWf.rknAdmRefRead {l m} (h : s.Wf) : EndsWf (execRknAdmRefRead l m s) := .read h
theorem EndsWf.rknTmaxRead {l m n} (h : s.Wf) : EndsWf (execRknTmaxRead l m n s) := .read h
theorem EndsWf.dlkMissRead {l m d} (h : s.Wf) : EndsWf (execDlkMissRead l m d s) := .read h
theorem EndsWf.dlkLateRead {l m d} (h : s.Wf) : EndsWf (execDlkLateRead l m d s) := .read h
theorem EndsWf.dlkCrcRead {l m d} (h : s.Wf) : EndsWf (execDlkCrcRead l m d s) := .read h
theorem EndsWf.dlkOutlRead {l m d} (h : s.Wf) : EndsWf (execDlkOutlRead l m d s) := .read h
theorem EndsWf.dlkNoagrRead {l m d} (h : s.Wf) : EndsWf (execDlkNoagrRead l m d s) := .read h
theorem EndsWf.ceUtilRead {l m} (h : s.Wf) : EndsWf (execCeUtilRead l m s) := .read h
theorem EndsWf.edgMcntRead {l m b} (h : s.Wf) : EndsWf (execEdgMcntRead l m b s) := .read h
theorem EndsWf.edgBcntRead {l m b} (h : s.Wf) : EndsWf (execEdgBcntRead l m b s) := .read h
theorem EndsWf.posErrcntRead {l m n} (h : s.Wf) : EndsWf (execPosErrcntRead l m n s) := .read h
theorem EndsWf.hnetCntRead {l m} (h : s.Wf) : EndsWf (execHnetCntRead l m s) := .read h
theorem EndsWf.hnetNoagrRead {l m} (h : s.Wf) : EndsWf (execHnetNoagrRead l m s) := .read h
theorem EndsWf.ethCntRead {l m p} (h : s.Wf) : EndsWf (execEthCntRead l m p s) := .read h
theorem EndsWf.safeCntRead {l m} (h : s.Wf) : EndsWf (execSafeCntRead l m s) := .read h
theorem EndsWf.safeSerrRead {l m n} (h : s.Wf) : EndsWf (execSafeSerrRead l m n s) := .read h
theorem EndsWf.fixFltcntRead {l m} (h : s.Wf) : EndsWf (execFixFltcntRead l m s) := .read h
theorem EndsWf.bmbCntRead {l m} (h : s.Wf) : EndsWf (execBmbCntRead l m s) := .read h
theorem EndsWf.sndCntRead {l m} (h : s.Wf) : EndsWf (execSndCntRead l m s) := .read h
end

/-! ### Tick -/

section
variable {L : Lane} {site : Nat} {s : State} {b : Bin}

theorem Lane.Wf.slew (h : L.Wf site) : L.slew.2.Wf site := .iteSnd (.upd h) (.iteSnd (.upd h) (.upd h))
theorem Lane.Wf.clocks {L0 : Lane} (h : L0.Wf site) : L0.clocks.Wf site := .ite (.upd (.slew (.rknRun (.rknDir (.rknRun (.rknDir h)))))) (.upd (.rknRun (.rknDir h)))
theorem Lane.Wf.tick (h : L.Wf site) : L.tick.Wf site := by
  unfold Lane.tick
  extract_lets L0 L1 L2 L3 L4 L5
  have h1 : L1.Wf site := .upd (.clocks h)
  have h2 : L2.Wf site := .foldl h1 fun _ _ hX => .mcTick hX
  have h3 : L3.Wf site := .foldl h2 fun _ _ hX => .rknMech hX
  have h4 : L4.Wf site := .updEng (.landTo (.rknTravel h3))
  have h5 : L5.Wf site := .foldl (.foldl h4 fun _ _ hX => .posCorrect hX) fun _ _ hX => .copyTick hX
  exact .measSettle (.engSettle (.rknSettle (.wpSettle (.spotTry h5))))
theorem EndsWf.reckonerInterpolation {l} (h : s.Wf) : EndsWf (execReckonerInterpolation l s) := .next (.run h (fun _ h1 => .tick h1))
end

/-! ### Uds -/

section
variable {L : Lane} {site : Nat} {s : State} {b : Bin}

theorem EndsWf.serve {p f} (h : s.Wf) (hf : ∀ t port bs, t.Wf → (f t port bs).Wf) : EndsWf (s.serve p f) := by
  unfold State.serve
  extract_lets s1
  have h1 : s1.Wf := .binStep h
  split
  · exact .next (hf _ _ _ (.onBin h1 fun _ hb => .upd hb))
  · exact .next h1
theorem EndsWf.diagnosticSessionControl (h : s.Wf) : EndsWf (execDiagnosticSessionControl s) :=
  .serve h (fun _ _ _ h1 => .ite (.nrc h1) (.ite (.udsSend (.onBin h1 (fun _ h2 => .endSession h2))) (.ite (.onBin (.updRound h1) (fun _ h2 => .upd h2)) (.ite (.udsSend (.onBin h1 (fun _ h2 => .upd (.endSession h2)))) (.nrc h1)))))
theorem EndsWf.readDataByIdentifier (h : s.Wf) : EndsWf (execReadDataByIdentifier s) := by
  unfold execReadDataByIdentifier
  refine .serve h fun _ _ _ h1 => ?_
  refine .ite (.nrc h1) ?_
  split
  · exact .udsSend h1
  · exact .nrc h1
theorem Bin.Wf.randomSeed (h : b.Wf) : b.randomSeed.2.Wf := .upd h
theorem EndsWf.securityAccessSeed (h : s.Wf) : EndsWf (execSecurityAccessSeed s) :=
  .serve h (fun _ _ _ h1 => .ite (.nrc h1) (.ite (.nrc h1) (.ite (.nrc h1) (.ite (.nrc h1) (.udsSend (.onBin h1 (fun _ _ => .upd (.randomSeed h1.bin))))))))
theorem EndsWf.securityAccessKey (h : s.Wf) : EndsWf (execSecurityAccessKey s) := by
  unfold execSecurityAccessKey
  refine .serve h fun _ _ _ h1 => ?_
  refine .ite (.nrc h1) ?_
  refine .ite (.nrc h1) ?_
  split
  · exact .nrc h1
  · exact .ite (.udsSend (.onBin h1 (fun _ h2 => .upd h2))) (.nrc (.onBin h1 (fun _ h2 => .upd h2)))
theorem EndsWf.securityDelayEnd (h : s.Wf) : EndsWf (execSecurityDelayEnd s) := by
  unfold execSecurityDelayEnd
  refine .next ?_
  refine .onBin h fun _ h1 => ?_
  split
  · exact .ite (.upd h1) h1
  · exact h1
theorem EndsWf.activateImage (h : s.Wf) : EndsWf (execActivateImage s) := by
  unfold execActivateImage
  refine .serve h fun _ _ _ h1 => ?_
  split
  · exact .nrc h1
  · exact .ite (.nrc h1) (.ite (.nrc h1) (.ite (.nrc h1) (.ite (.nrc h1) (.ite (.nrc h1) (.updRound (.onBin (.udsSend h1) (fun _ h2 => .setUpd h2)))))))
theorem EndsWf.activateImageResults (h : s.Wf) : EndsWf (execActivateImageResults s) := by
  unfold execActivateImageResults
  refine .serve h fun _ _ _ h1 => ?_
  split
  · exact .nrc h1
  · exact .ite (.nrc h1) (.udsSend h1)
theorem EndsWf.revokeKeySlot (h : s.Wf) : EndsWf (execRevokeKeySlot s) := by
  unfold execRevokeKeySlot
  refine .serve h fun _ _ _ h1 => ?_
  split
  · exact .nrc h1
  · exact .ite (.nrc h1) (.ite (.nrc h1) (.udsSend (.onBin (.askAll h1) (fun _ h2 => .setF h2))))
theorem EndsWf.requestDownload (h : s.Wf) : EndsWf (execRequestDownload s) := by
  unfold execRequestDownload
  refine .serve h fun _ _ _ h1 => ?_
  split
  · exact .nrc h1
  · exact .nrc h1
  · exact .ite (.nrc h1) (.udsSend (.onBin (.nrc h1) (fun _ h2 => .upd (.setUpd (.eraseStage h2)))))
theorem EndsWf.requestUpload (h : s.Wf) : EndsWf (execRequestUpload s) := by
  unfold execRequestUpload
  refine .serve h fun _ _ _ h1 => ?_
  refine .ite (.nrc h1) ?_
  split
  · exact .nrc h1
  · exact .ite (.nrc h1) (.udsSend (.onBin h1 (fun _ h2 => .upd h2)))
theorem Bin.Wf.stageBlock {x blk dat} (h : b.Wf) : (b.stageBlock x blk dat).1.Wf :=
  .iteFst (.updFail h) (.iteFst (.upd (.stageBytes h)) (.iteFst (.updFail (.upd (.stageBytes h))) (.upd (.stageBytes h))))
theorem EndsWf.transferData (h : s.Wf) : EndsWf (execTransferData s) := by
  unfold execTransferData
  refine .serve h fun _ _ _ ht => ?_
  split
  · exact .nrc ht
  · refine .ite (.nrc ht) (.ite (.nrc (.ite (.onBin ht fun _ hb => .updFail hb) ht)) (.ite ?_ (.ite (.nrc ht) ?_)))
    · exact .ite (.udsSend (.onBin ht fun _ _ => .stageBlock ht.bin)) (.nrc (.onBin ht fun _ _ => .stageBlock ht.bin))
    · exact .udsSend (.onBin ht fun _ hb => .upd (.setF hb))
theorem EndsWf.requestTransferExit (h : s.Wf) : EndsWf (execRequestTransferExit s) := by
  unfold execRequestTransferExit
  refine .serve h fun _ _ _ h1 => ?_
  split
  · exact .nrc h1
  · exact .ite (.nrc h1) (.ite (.udsSend (.onBin h1 (fun _ h2 => .upd h2))) (.ite (.nrc (.onBin h1 (fun _ h2 => .updFail h2))) (.ite (.udsSend (.onBin h1 (fun _ h3 => .upd h3))) (.nrc (.onBin h1 (fun _ h3 => .updFail h3))))))
theorem EndsWf.testerPresent (h : s.Wf) : EndsWf (execTesterPresent s) := .serve h (fun _ _ _ h1 => .ite (.nrc h1) (.ite (.udsSend h1) (.ite h1 (.nrc h1))))
theorem EndsWf.diagnosticSessionTimeout (h : s.Wf) : EndsWf (execDiagnosticSessionTimeout s) := .next (.onBin h (fun _ h1 => .ite (.endSession h1) h1))
theorem Bin.Wf.tap {ir dr} (h : b.Wf) : (b.tap ir dr).Wf := .ite (.upd h) h
theorem EndsWf.bypass {code} (h : s.Wf) : EndsWf (execBypass code s) := .ite (.next h) (.next (.onBin h (fun _ h1 => .tap h1)))
theorem EndsWf.idcode (h : s.Wf) : EndsWf (execIdcode s) := .next (.onBin h (fun _ h1 => .tap h1))
theorem Bin.Wf.balls {ir} (h : b.Wf) : (b.balls ir).Wf := .ite (.upd (.tap h)) h
theorem EndsWf.samplePreload (h : s.Wf) : EndsWf (execSamplePreload s) := .next (.onBin h (fun _ h1 => .balls h1))
theorem EndsWf.extest (h : s.Wf) : EndsWf (execExtest s) := .next (.onBin h (fun _ h1 => .ite (.balls h1) (.tap h1)))
theorem EndsWf.ieee1687Network {addr} (h : s.Wf) : EndsWf (execIeee1687Network addr s) :=
  .ite (.next h) (.ite (.next (.onBin (.busRead h) (fun _ h1 => .tap h1))) (.next (.onBin h (fun _ h1 => .balls h1))))
theorem EndsWf.debugAuthenticate {key} (h : s.Wf) : EndsWf (execDebugAuthenticate key s) := by
  unfold execDebugAuthenticate
  refine .ite (.next h) ?_
  split
  · exact .next (.onBin h (fun _ h1 => .upd (.randomSeed h.bin)))
  · split
    · exact .next h
    · exact .ite (.next (.onBin h (fun _ h1 => .setF (.upd h.bin)))) (.next (.onBin h (fun _ h1 => .upd h.bin)))
theorem Bin.Wf.scanned (h : b.Wf) : b.scanned.Wf := .upd (.setF (.setF (.powerOff h)))
theorem EndsWf.scanreq (h : s.Wf) : EndsWf (execScanreq s) := by
  unfold execScanreq
  extract_lets s1
  have h1 : s1.Wf := .onDies (.onLanes h fun _ _ hL => .powerOff hL)
  refine .ite (.next h) (.ite (.next (.wake ⟨h1.a, h1.b, h1.c, .upd (.scanned h1.bin)⟩)) (.next ?_))
  exact .onBin h fun _ hb => .own (.tap hb)
end

/-! ### Step -/

section
variable {L : Lane} {site : Nat} {s : State} {b : Bin}

theorem State.Wf.withFetchWord {nbits w} (h : s.Wf) : (s.withFetchWord nbits w).Wf := by
  unfold State.withFetchWord
  split
  · exact .upd h
  · exact h
end

/-! ### Bus -/

section
variable {L : Lane} {site : Nat} {s : State} {b : Bin}

theorem Lane.Wf.storedIn {row a v} (h : L.Wf site) : (L.storedIn row a v).Wf site := .upd (.signW (.busEnd h))
end

/-! ### WellFormed -/

section
variable {L : Lane} {site : Nat} {s : State} {b : Bin}

theorem Lane.Wf.lockRefused {a} (h : L.Wf site) : (L.lockRefused a).Wf site := .raise (.ite h (.wr h))
theorem Lane.Wf.clearRead {r rc x} (h : L.Wf site) : (L.clearRead r rc x).Wf site := by
  unfold Lane.clearRead
  split
  · exact .busEnd (.wr h)
  · exact .busEnd h
end

end Sys2Proof.Machine
end

section
/-! The stores stay canonical and the lanes at their places. -/

namespace Sys2Proof.Machine

/-- Every command keeps the device well-formed: the rule of its meaning. -/
theorem State.Wf.exec {s : State} (h : s.Wf) : ∀ i, EndsWf (exec i s)
  | .registerWrite .. => .registerWrite h
  | .irqClaim .. => .irqClaim h
  | .irqComplete .. => .irqComplete h
  | .axisEnable .. => .axisEnable h
  | .axisDisable .. => .axisDisable h
  | .rknEnable .. => .rknEnable h
  | .rknDisable .. => .rknDisable h
  | .snap .. => .snap h
  | .waypointArm .. => .waypointArm h
  | .waypointCompareWrite .. => .waypointCompareWrite h
  | .waypointDisarm .. => .waypointDisarm h
  | .waypointFire .. => .waypointFire h
  | .taskDeadlineExpire .. => .taskDeadlineExpire h
  | .checkpointCapture .. => .checkpointCapture h
  | .checkpointDataReceive .. => .checkpointDataReceive h
  | .checkpointApply .. => .checkpointApply h
  | .fixEnable .. => .fixEnable h
  | .decisionPost .. => .decisionPost h
  | .decisionRead .. => .decisionRead h
  | .clockFault .. => .clockFault h
  | .periodStart .. => .periodStart h
  | .periodStartMarkReceive .. => .periodStartMarkReceive h
  | .linkPacketReceive .. => .linkPacketReceive h
  | .dieVote .. => .dieVote h
  | .voteHoldOff .. => .voteHoldOff h
  | .diePacketVote .. => .diePacketVote h
  | .edgeLoad .. => .edgeLoad h
  | .packetSendDeadline .. => .packetSendDeadline h
  | .diePacketBuild .. => .diePacketBuild h
  | .bridgeReportReceive .. => .bridgeReportReceive h
  | .valveReportReceive .. => .valveReportReceive h
  | .dieReportReceive .. => .dieReportReceive h
  | .voteReportReceive .. => .voteReportReceive h
  | .dieSilentTimeout .. => .dieSilentTimeout h
  | .oppositeGateFall .. => .oppositeGateFall h
  | .interlockFault .. => .interlockFault h
  | .gateRailUndervoltage .. => .gateRailUndervoltage h
  | .gateRailRecover .. => .gateRailRecover h
  | .refreshInsert .. => .refreshInsert h
  | .highSideStuck .. => .highSideStuck h
  | .bootstrapUndervoltage .. => .bootstrapUndervoltage h
  | .desaturation .. => .desaturation h
  | .hardShort .. => .hardShort h
  | .tripInputActive .. => .tripInputActive h
  | .blankingWindowEnd .. => .blankingWindowEnd h
  | .bridgeClear .. => .bridgeClear h
  | .valveClear .. => .valveClear h
  | .safetyOutputClear .. => .safetyOutputClear h
  | .tripClear .. => .tripClear h
  | .valveOpenLoad .. => .valveOpenLoad h
  | .valveLowSideOvercurrent .. => .valveLowSideOvercurrent h
  | .valveMainOvercurrent .. => .valveMainOvercurrent h
  | .valveDeviation .. => .valveDeviation h
  | .safetyOutputShort .. => .safetyOutputShort h
  | .safetyOutputOverload .. => .safetyOutputOverload h
  | .offPulseTestStart .. => .offPulseTestStart h
  | .offPulseTestEnd .. => .offPulseTestEnd h
  | .checkerMismatch .. => .checkerMismatch h
  | .bridgeEnable .. => .bridgeEnable h
  | .commutationEnable .. => .commutationEnable h
  | .commutationDisable .. => .commutationDisable h
  | .commutationTimedChange .. => .commutationTimedChange h
  | .offsetCheckEnd .. => .offsetCheckEnd h
  | .alignEnd .. => .alignEnd h
  | .poltestDone .. => .poltestDone h
  | .verifyWindowEnd .. => .verifyWindowEnd h
  | .catchEnd .. => .catchEnd h
  | .externalHoldDetect .. => .externalHoldDetect h
  | .relockMeasureEnd .. => .relockMeasureEnd h
  | .relockTimeout .. => .relockTimeout h
  | .samplingInstant .. => .samplingInstant h
  | .nop .. => .nop h
  | .endInst .. => .endInst h
  | .yieldInst .. => .yieldInst h
  | .jmp .. => .jmp h
  | .brc .. => .brc h
  | .loop .. => .loop h
  | .lpst .. => .lpst h
  | .lpld .. => .lpld h
  | .wait .. => .wait h
  | .waitComplete .. => .waitComplete h
  | .vld .. => .vld h
  | .vst .. => .vst h
  | .vmov .. => .vmov h
  | .eld .. => .eld h
  | .est .. => .est h
  | .vset .. => .vset h
  | .exps .. => .exps h
  | .inWord .. => .inWord h
  | .outWord .. => .outWord h
  | .vadd .. => .vadd h
  | .vsub .. => .vsub h
  | .vmul .. => .vmul h
  | .vdot .. => .vdot h
  | .macs .. => .macs h
  | .stAcc .. => .stAcc h
  | .matvec .. => .matvec h
  | .mvst .. => .mvst h
  | .norm .. => .norm h
  | .expx .. => .expx h
  | .shv .. => .shv h
  | .vlim .. => .vlim h
  | .vsel .. => .vsel h
  | .cmp .. => .cmp h
  | .enginePreempt .. => .enginePreempt h
  | .engineEnable .. => .engineEnable h
  | .engineDisable .. => .engineDisable h
  | .taskConfigWrite .. => .taskConfigWrite h
  | .programMemoryWrite .. => .programMemoryWrite h
  | .bankSwapRequest .. => .bankSwapRequest h
  | .regionCopyDone .. => .regionCopyDone h
  | .shadowWrite .. => .shadowWrite h
  | .logbookEnable .. => .logbookEnable h
  | .logbookDisable .. => .logbookDisable h
  | .logbookSoftwareTrigger .. => .logbookSoftwareTrigger h
  | .logbookRearm .. => .logbookRearm h
  | .referenceEnable .. => .referenceEnable h
  | .referenceReady .. => .referenceReady h
  | .referenceFault .. => .referenceFault h
  | .measEnable .. => .measEnable h
  | .slotEnable .. => .slotEnable h
  | .sequenceEnable .. => .sequenceEnable h
  | .sequenceStart .. => .sequenceStart h
  | .sequenceGroupStart .. => .sequenceGroupStart h
  | .slotDelivery .. => .slotDelivery h
  | .guardBandWrite .. => .guardBandWrite h
  | .spotConversion .. => .spotConversion h
  | .spotResult .. => .spotResult h
  | .spotResultRead .. => .spotResultRead h
  | .calStart .. => .calStart h
  | .calCaptureDone .. => .calCaptureDone h
  | .calCommit .. => .calCommit h
  | .calStoreWriteDone .. => .calStoreWriteDone h
  | .calAbort .. => .calAbort h
  | .posEnable .. => .posEnable h
  | .positionInterfaceEnable .. => .positionInterfaceEnable h
  | .quadratureEdge .. => .quadratureEdge h
  | .hallTransition .. => .hallTransition h
  | .indexEdge .. => .indexEdge h
  | .sincosPair .. => .sincosPair h
  | .pulseRisingEdge .. => .pulseRisingEdge h
  | .pulseTimeout .. => .pulseTimeout h
  | .trackingObserverUpdate .. => .trackingObserverUpdate h
  | .sentEnable .. => .sentEnable h
  | .sentFrame .. => .sentFrame h
  | .sentFrameTimeout .. => .sentFrameTimeout h
  | .travelEnable .. => .travelEnable h
  | .travelPulse .. => .travelPulse h
  | .travelStillTimeout .. => .travelStillTimeout h
  | .groundSpeedEnable .. => .groundSpeedEnable h
  | .portRecordReceive .. => .portRecordReceive h
  | .portRecordVoteTimeout .. => .portRecordVoteTimeout h
  | .helmNetWindowVote .. => .helmNetWindowVote h
  | .canFrameTransmitDone .. => .canFrameTransmitDone h
  | .busOffRecovery .. => .busOffRecovery h
  | .helmNetEnable .. => .helmNetEnable h
  | .helmNetDisable .. => .helmNetDisable h
  | .txBufferCopy .. => .txBufferCopy h
  | .transmitRequest .. => .transmitRequest h
  | .bufferStatusRead .. => .bufferStatusRead h
  | .windowStart .. => .windowStart h
  | .guardianWindow .. => .guardianWindow h
  | .helmNetFrameReceive .. => .helmNetFrameReceive h
  | .referenceMessageReceive .. => .referenceMessageReceive h
  | .referenceSendTimeout .. => .referenceSendTimeout h
  | .referenceTimeout .. => .referenceTimeout h
  | .listenTimeout .. => .listenTimeout h
  | .coldStartSend .. => .coldStartSend h
  | .coldStartAck .. => .coldStartAck h
  | .coldStartRepeat .. => .coldStartRepeat h
  | .backoffEnd .. => .backoffEnd h
  | .matrixCycleStart .. => .matrixCycleStart h
  | .basicCycleStart .. => .basicCycleStart h
  | .delayProbe .. => .delayProbe h
  | .delayAnswer .. => .delayAnswer h
  | .capabilityFrame .. => .capabilityFrame h
  | .pathFailTimeout .. => .pathFailTimeout h
  | .isobusEnable .. => .isobusEnable h
  | .addressClaimReceive .. => .addressClaimReceive h
  | .addressClaimRequest .. => .addressClaimRequest h
  | .addressClaimTimeout .. => .addressClaimTimeout h
  | .isbTransmitRequest .. => .isbTransmitRequest h
  | .isobusFrameReceive .. => .isobusFrameReceive h
  | .svcTransmitRequest .. => .svcTransmitRequest h
  | .svcFrameReceive .. => .svcFrameReceive h
  | .versionNegotiate .. => .versionNegotiate h
  | .ethernetEnable .. => .ethernetEnable h
  | .ethTxDescriptorTake .. => .ethTxDescriptorTake h
  | .ethTxDone .. => .ethTxDone h
  | .ethFrameReceive .. => .ethFrameReceive h
  | .phyAccess .. => .phyAccess h
  | .phyAccessDone .. => .phyAccessDone h
  | .refclkLoss .. => .refclkLoss h
  | .safetyLayerEnable .. => .safetyLayerEnable h
  | .sessionEnable .. => .sessionEnable h
  | .monitorEnable .. => .monitorEnable h
  | .functionEnable .. => .functionEnable h
  | .safetyPduReceive .. => .safetyPduReceive h
  | .hello .. => .hello h
  | .command .. => .command h
  | .heartbeat .. => .heartbeat h
  | .stop .. => .stop h
  | .reset .. => .reset h
  | .query .. => .query h
  | .confirm .. => .confirm h
  | .sessionExpire .. => .sessionExpire h
  | .controlledStopTimeout .. => .controlledStopTimeout h
  | .challengeExpire .. => .challengeExpire h
  | .commissioningRecordWriteDone .. => .commissioningRecordWriteDone h
  | .selfDiagnosisEnd .. => .selfDiagnosisEnd h
  | .giveUpEnd .. => .giveUpEnd h
  | .survivorFault .. => .survivorFault h
  | .crawlTimeout .. => .crawlTimeout h
  | .steeringAxisLost .. => .steeringAxisLost h
  | .standstillWaitEnd .. => .standstillWaitEnd h
  | .lockoutRecordWriteDone .. => .lockoutRecordWriteDone h
  | .splitRequest .. => .splitRequest h
  | .splitOffconfTimeout .. => .splitOffconfTimeout h
  | .joinRequest .. => .joinRequest h
  | .joinReloadDone .. => .joinReloadDone h
  | .laneResetDone .. => .laneResetDone h
  | .quickSoundingDone .. => .quickSoundingDone h
  | .resyncTransferDone .. => .resyncTransferDone h
  | .resyncTimeout .. => .resyncTimeout h
  | .debugHalt => .debugHalt h
  | .debugStep => .debugStep h
  | .debugResume => .debugResume h
  | .debugWrite .. => .debugWrite h
  | .breakpointHit .. => .breakpointHit h
  | .keepPowerOn => .keepPowerOn h
  | .wakeLevel .. => .wakeLevel h
  | .wakeEdge .. => .wakeEdge h
  | .wakeUpFrame .. => .wakeUpFrame h
  | .resetNAssert => .resetNAssert h
  | .resetNRelease => .resetNRelease h
  | .laneFeedStart .. => .laneFeedStart h
  | .laneFeedLoss .. => .laneFeedLoss h
  | .driverDiePowerOn .. => .driverDiePowerOn h
  | .dieSoundingDone .. => .dieSoundingDone h
  | .laneResetRelease .. => .laneResetRelease h
  | .memoryBistDone .. => .memoryBistDone h
  | .logicBistDone .. => .logicBistDone h
  | .ringBringUpDone .. => .ringBringUpDone h
  | .imageReadDone .. => .imageReadDone h
  | .signatureVerifyDone .. => .signatureVerifyDone h
  | .registerLoadEntry .. => .registerLoadEntry h
  | .registerLoadWaitEnd .. => .registerLoadWaitEnd h
  | .loneLaneTimeout .. => .loneLaneTimeout h
  | .modeRequest .. => .modeRequest h
  | .sleepStepTimeout .. => .sleepStepTimeout h
  | .powerDown => .powerDown h
  | .keepEntryEnd => .keepEntryEnd h
  | .nvmGuardOn .. => .nvmGuardOn h
  | .nvmGuardOff .. => .nvmGuardOff h
  | .nvmWriteTimeout .. => .nvmWriteTimeout h
  | .managementLinkTimeout .. => .managementLinkTimeout h
  | .logRecordPost .. => .logRecordPost h
  | .replyPost .. => .replyPost h
  | .binnacleRegisterAccess .. => .binnacleRegisterAccess h
  | .diagnosticSegment .. => .diagnosticSegment h
  | .sleepStepPost .. => .sleepStepPost h
  | .binnaclePostReceive .. => .binnaclePostReceive h
  | .postMatchTimeout .. => .postMatchTimeout h
  | .status .. => .status h
  | .sound .. => .sound h
  | .regval .. => .regval h
  | .send .. => .send h
  | .updBegin .. => .updBegin h
  | .updData .. => .updData h
  | .updEnd .. => .updEnd h
  | .updCommit .. => .updCommit h
  | .updAbort .. => .updAbort h
  | .keyrev .. => .keyrev h
  | .sleepok .. => .sleepok h
  | .sleepno .. => .sleepno h
  | .requestAccept .. => .requestAccept h
  | .requestRefuse .. => .requestRefuse h
  | .requestTimeout .. => .requestTimeout h
  | .keyRevoke .. => .keyRevoke h
  | .logPageProgram .. => .logPageProgram h
  | .sensorStatisticsRecord => .sensorStatisticsRecord h
  | .vibrationSummaryRecord => .vibrationSummaryRecord h
  | .diagnosticSessionControl => .diagnosticSessionControl h
  | .readDataByIdentifier => .readDataByIdentifier h
  | .securityAccessSeed => .securityAccessSeed h
  | .securityAccessKey => .securityAccessKey h
  | .securityDelayEnd => .securityDelayEnd h
  | .activateImage => .activateImage h
  | .activateImageResults => .activateImageResults h
  | .revokeKeySlot => .revokeKeySlot h
  | .requestDownload => .requestDownload h
  | .requestUpload => .requestUpload h
  | .transferData => .transferData h
  | .requestTransferExit => .requestTransferExit h
  | .testerPresent => .testerPresent h
  | .diagnosticSessionTimeout => .diagnosticSessionTimeout h
  | .runtimeSoundingInterval => .runtimeSoundingInterval h
  | .soundingStart .. => .soundingStart h
  | .soundingAbort .. => .soundingAbort h
  | .soundingSaveDone .. => .soundingSaveDone h
  | .soundingTestDone .. => .soundingTestDone h
  | .soundingRestoreDone .. => .soundingRestoreDone h
  | .bypass .. => .bypass h
  | .idcode => .idcode h
  | .samplePreload => .samplePreload h
  | .extest => .extest h
  | .ieee1687Network .. => .ieee1687Network h
  | .debugAuthenticate .. => .debugAuthenticate h
  | .scanreq => .scanreq h
  | .rknAdmAccRead .. => .rknAdmAccRead h
  | .rknAdmRefRead .. => .rknAdmRefRead h
  | .rknTmaxRead .. => .rknTmaxRead h
  | .dlkMissRead .. => .dlkMissRead h
  | .dlkLateRead .. => .dlkLateRead h
  | .dlkCrcRead .. => .dlkCrcRead h
  | .dlkOutlRead .. => .dlkOutlRead h
  | .dlkNoagrRead .. => .dlkNoagrRead h
  | .ceUtilRead .. => .ceUtilRead h
  | .edgMcntRead .. => .edgMcntRead h
  | .edgBcntRead .. => .edgBcntRead h
  | .posErrcntRead .. => .posErrcntRead h
  | .hnetCntRead .. => .hnetCntRead h
  | .hnetNoagrRead .. => .hnetNoagrRead h
  | .ethCntRead .. => .ethCntRead h
  | .safeCntRead .. => .safeCntRead h
  | .safeSerrRead .. => .safeSerrRead h
  | .fixFltcntRead .. => .fixFltcntRead h
  | .bmbCntRead .. => .bmbCntRead h
  | .sndCntRead .. => .sndCntRead h
  | .tripInputInactive .. => .tripInputInactive h
  | .managementLinkUp .. => .managementLinkUp h
  | .refclkReturn .. => .refclkReturn h
  | .startOfFrame .. => .startOfFrame h
  | .busIdle .. => .busIdle h
  | .dieTick .. => .dieTick h
  | .reckonerInterpolation .. => .reckonerInterpolation h
  | .binnacleSensorSample .. => .binnacleSensorSample h

/-- A step keeps the device well-formed. -/
theorem State.Wf.step {s : State} (h : s.Wf) : EndsWf (step s) := by
  unfold Machine.step
  split
  · exact .next h
  · exact State.Wf.exec (.upd h) _

/-- Settles O60: the canonical stores and the places of the lanes are the well-formedness of the device, which every command keeps. -/
theorem storesStayCanonical : Obligations.StoresStayCanonical := by
  intro s t hc hp ht
  exact State.wf_iff.mp ((State.wf_iff.mpr ⟨hc, hp⟩).step t ht)

theorem reset_wf : State.reset.Wf := ⟨⟨rfl, rfl, rfl⟩, ⟨rfl, rfl, rfl⟩, ⟨rfl, rfl, rfl⟩, rfl⟩

/-- In the phase before the first power-on the mode is awake, nothing is latched and no wake has been counted. -/
theorem reset_keepLegal : keepLegal State.reset := ⟨by decide, by decide, by decide, rfl, rfl, rfl⟩

/-- Settles O58: every store of the state before the first power-on is empty, and no supply is there. -/
theorem resetMeetsInvariants : Obligations.ResetMeetsInvariants :=
  ⟨reset_keepLegal, (State.wf_iff.mp reset_wf).1, (State.wf_iff.mp reset_wf).2, rfl, rfl⟩

end Sys2Proof.Machine
end

section
/-! The claim and completion of interrupts (R44, R45). -/

namespace Sys2Proof.Machine

/-- The registers of a lane after its part of a step. -/
theorem State.rd_run (s : State) (l : LaneId) (f : Lane → Lane) (r : Reg) : ((s.run l f).lane l).rd r = (f (s.lane l)).rd r := by
  rw [State.lane_run_same]
  rfl

/-- Before the first power-on, but with IRQ_COMPLETE listed in the register store of Lane A at the value it resets to. -/
def listedComplete : State := { State.reset with a := { State.reset.a with regs := [(R.IRQ_COMPLETE.addr, 0)] } }

theorem listedComplete_quiet : listedComplete.Quiet := by
  intro k
  cases k <;> rfl

/-- The completion stores IRQ_COMPLETE at its reset value, which takes the entry out of the register store. -/
theorem rd_complete_listedComplete : (listedComplete.lane .A).rd ⟨R.IRQ_COMPLETE.addr, 1⟩ = 0
    ∧ ((listedComplete.lane .A).busWrite .word R.IRQ_COMPLETE.addr 0).rd ⟨R.IRQ_COMPLETE.addr, 1⟩ = 1 := by decide +kernel

/-- Refutes O6: the frame of a completion speaks of every register at an address outside IRQ_CTRL with whatever value that register resets to. A completion writes
IRQ_COMPLETE, and where the register store lists that register at its reset value the entry goes, so that a register at this address which resets to 1 reads 1 after
the completion and read 0 before. -/
theorem not_interruptClaims : ¬ Obligations.InterruptClaims := by
  intro h
  obtain ⟨-, -, h⟩ := h
  obtain ⟨t, ht, -, -, hQ⟩ := h listedComplete .A 0 listedComplete_quiet
  have he : exec (.irqComplete .A 0) listedComplete = .next (listedComplete.run .A fun L => L.busWrite .word R.IRQ_COMPLETE.addr 0) := by
    show listedComplete.write .A R.IRQ_COMPLETE 0 = _
    rw [State.write, State.busWrite_quiet listedComplete_quiet (by decide) (by decide +kernel)]
  obtain rfl := Host.Outcome.next.inj (he.symm.trans ht)
  obtain ⟨-, -, hf⟩ := hQ (by decide)
  have hr := hf.1 ⟨R.IRQ_COMPLETE.addr, 1⟩ (by decide)
  rw [State.rd_run, rd_complete_listedComplete.1, rd_complete_listedComplete.2] at hr
  exact absurd hr (by decide)

end Sys2Proof.Machine
end

section
/-! SUPPORT. Register writes as commands, and fields and flags after changes of registers. -/

namespace Sys2Proof.Machine

/-- A command that writes a listed register, where the write is neither locked nor refused: `N` is the lane once the block has acted. -/
theorem RunsLane.of_row {i : Instr} {s : State} {l : LaneId} {r : Reg} {v : Word} {row : RegRow} {N : Lane} {Q : Lane → Lane → Prop}
    (he : exec i s = s.write l r v) (hq : s.Quiet) (ha : r.addr ≠ R.BMB_INCTL.addr) (hr : regRow r.addr = some row)
    (hp : (s.lane l).absentReg r.addr = false) (hl : row.rwl = 0 ∨ (s.lane l).Unlocked)
    (hf : ((s.lane l).busEnd (s.lane l).rdata false r.addr).refusal r.addr row v = none) (hc : idxOf r.addr (R.RKN_WP_CMP 0) 0x20 128 = none)
    (hN : ((s.lane l).storedIn row r.addr v).written (((s.lane l).busEnd (s.lane l).rdata false r.addr).signW r.addr v) r.addr v = N)
    (hh : N.hn.closing = false) (hQ : Q (s.lane l) { N with outP := [], outR := [] }) : RunsLane i s l Q := by
  have e : (s.lane l).busWrite .word r.addr v = N := (Lane.busWrite_row (regRow_window hr) hr hp hl hf hc).trans hN
  exact RunsLane.of_write he hq ha (by rw [e]; exact hh) (by rw [e]; exact hQ)

/-- A register without flags to clear holds the bits written once a write is stored. -/
theorem Lane.rd_storedIn_plain (L : Lane) {row : RegRow} {r : Reg} (v : Word) (hs : storeSpecial r.addr = false) (hc : row.w1c = 0)
    (hr : r.rst = w32 row.reset) : (L.storedIn row r.addr v).rd r = L.taken r (w32 (row.rw ||| row.rwl)) v := by
  rw [Lane.rd_storedIn_same L row r v hr, Reg.stored_plain v hs hc hr]

/-- A change of a register leaves the flags of the others. -/
theorem Lane.on_wr_other (L : Lane) {r q : Reg} (v : Word) (g : Bf) (h : q.addr ≠ r.addr) : (L.wr r v).on q g = L.on q g :=
  congrArg g.on (L.rd_wr_other v h)
theorem Lane.on_setF_other (L : Lane) {r q : Reg} (f : Bf) (n : Nat) (g : Bf) (h : q.addr ≠ r.addr) : (L.setF r f n).on q g = L.on q g :=
  L.on_wr_other _ g h
theorem Lane.on_raise_other (L : Lane) {r q : Reg} (f g : Bf) (h : q.addr ≠ r.addr) : (L.raise r f).on q g = L.on q g := L.on_wr_other _ g h

/-- A change of a field leaves the flags of its register that it does not overlap. -/
theorem Lane.on_setF_field (L : Lane) (r : Reg) {f g : Bf} (n : Nat) (h : f.lo + f.wid ≤ g.lo ∨ g.lo + g.wid ≤ f.lo) :
    (L.setF r f n).on r g = L.on r g := congrArg (· != 0) (L.fld_setF_field r n h)
theorem Lane.on_raise_field (L : Lane) (r : Reg) {f g : Bf} (h : f.lo + f.wid ≤ g.lo ∨ g.lo + g.wid ≤ f.lo) : (L.raise r f).on r g = L.on r g :=
  L.on_setF_field r _ h

/-- A flag of one bit is that bit. -/
theorem Bf.on_eq_getLsbD {f : Bf} (h : f.wid = 1) (w : Word) : f.on w = w.getLsbD f.lo := by
  have ht := f.testBit_get w 0
  have hl := f.get_lt w
  rw [h] at ht hl
  obtain h0 | h1 : f.get w = 0 ∨ f.get w = 1 := by omega
  · simpa [Bf.on, h0] using ht
  · simpa [Bf.on, h1] using ht

/-- A flag that has been set to 0 is off. -/
theorem Lane.on_setF_zero (L : Lane) (r : Reg) (f : Bf) (h : f.lo + f.wid ≤ 32) : (L.setF r f 0).on r f = false := by
  have e := L.fld_setF_same r f 0 h
  rw [Nat.zero_mod] at e
  exact congrArg (· != 0) e

/-- A change of a register at an address listed. -/
theorem Lane.Frame.wr (L : Lane) {r : Reg} (v : Word) (hb : ∀ x, x < 12 → (R.AX_BANK x).addr ≠ r.addr) : Lane.Frame [r.addr] L (L.wr r v) :=
  Lane.Frame.regs (Lane.RegsBut.wr L r v) rfl rfl fun x hx => by simpa using hb x hx

/-- A further change of a register listed keeps a frame. -/
theorem Lane.Frame.wrIn {rs : List Nat} {L M : Lane} {r : Reg} {v : Word} (h : Lane.Frame rs L M) (hr : r.addr ∈ rs)
    (hb : ∀ x, x < 12 → (R.AX_BANK x).addr ≠ r.addr) : Lane.Frame rs L (M.wr r v) := h.trans ((Lane.Frame.wr M v hb).mono (by simpa using hr))
theorem Lane.Frame.setFIn {rs : List Nat} {L M : Lane} {r : Reg} {f : Bf} {n : Nat} (h : Lane.Frame rs L M) (hr : r.addr ∈ rs)
    (hb : ∀ x, x < 12 → (R.AX_BANK x).addr ≠ r.addr) : Lane.Frame rs L (M.setF r f n) := h.wrIn hr hb
theorem Lane.Frame.raiseIn {rs : List Nat} {L M : Lane} {r : Reg} {f : Bf} (h : Lane.Frame rs L M) (hr : r.addr ∈ rs)
    (hb : ∀ x, x < 12 → (R.AX_BANK x).addr ≠ r.addr) : Lane.Frame rs L (M.raise r f) :=
  (h.setFIn hr hb).trans (Lane.Frame.of_eq (L := M.setF r f (2 ^ f.wid - 1)) rfl rfl rfl rs)

end Sys2Proof.Machine
end

section
/-! The enabling and the disabling of an axis (R48, R49, R50, R54, R55, R57, R202, R215). -/

namespace Sys2Proof.Machine

/-! ### Writes of AX_CFG -/

theorem AX_BANK_ne_AX_CFG (a x : Nat) : (R.AX_BANK x).addr ≠ (R.AX_CFG a).addr := by
  simp only [R.AX_BANK, R.AX_CFG]
  omega
theorem AX_BANK_ne_AX_STAT (a x : Nat) : (R.AX_BANK x).addr ≠ (R.AX_STAT a).addr := by
  simp only [R.AX_BANK, R.AX_STAT]
  omega
theorem AX_BANK_ne_AX_CHST (a x : Nat) : (R.AX_BANK x).addr ≠ (R.AX_CHST a).addr := by
  simp only [R.AX_BANK, R.AX_CHST]
  omega

theorem grpOf_axCfg (a : Fin 12) : grpOf (R.AX_CFG a).addr (R.AX_CFG 0) 0x1000 12 = some a.val := by
  revert a
  decide

theorem Lane.written_axCfg (L old : Lane) (a : Fin 12) (v : Word) :
    L.written old (R.AX_CFG a).addr v = (L.axSplit a).axWritten a (old.on (R.AX_CFG a) F.AX_CFG_EN) := by
  have hw : (R.AX_CFG a).addr / 0x10000 = 0x4004 := by
    simp only [R.AX_CFG]
    omega
  have hx : ((R.AX_CFG a).addr - 0x40040000) / 0x1000 = a.val := by
    simp only [R.AX_CFG]
    omega
  simp only [Lane.written, hw, Lane.onAx, hx, if_true]

/-- The row of AX_CFGa. -/
def axCfgRow : RegRow := ⟨0x40040000, 12, 0x1000, 1, 0x4, 0x0, 0x0, 0x71, 0x0, 0x0, false⟩

/-- The lane with AX_CFGa written and AX_STAT.SPLIT shown. -/
def Lane.axStored (L : Lane) (a : Nat) (v : Word) : Lane := (L.storedIn axCfgRow (R.AX_CFG a).addr v).axSplit a

/-- A write of AX_CFGa while the lock is not set, which the axis does not refuse. -/
theorem RunsLane.axCfg {i : Instr} {s : State} {l : LaneId} {a : Fin 12} {v : Word} {N : Lane} {Q : Lane → Lane → Prop}
    (he : exec i s = s.write l (R.AX_CFG a) v) (hq : s.Quiet) (hu : (s.lane l).Unlocked)
    (hf : (s.lane l).axActive a = false ∨ onlyClears ((s.lane l).rd (R.AX_CFG a)) v 0x71 0 = true)
    (hN : ((s.lane l).axStored a v).axWritten a ((s.lane l).on (R.AX_CFG a) F.AX_CFG_EN) = N)
    (hh : N.hn.closing = false) (hQ : Q (s.lane l) { N with outP := [], outR := [] }) : RunsLane i s l Q := by
  have hv : ∀ a : Fin 12, viewSpecial (R.AX_CFG a).addr = false := by decide +kernel
  refine RunsLane.of_row he hq ?_ (regRow_AX_CFG a) (Lane.absentReg_other _ ?_ ?_) (.inr hu) ?_ ?_ ?_ hh hQ
  · simp only [R.AX_CFG, R.BMB_INCTL]
    omega
  · simp only [R.AX_CFG]
    omega
  · simp only [R.AX_CFG]
    omega
  · unfold Lane.refusal
    rw [Lane.view_plain _ (hv a) (regRow_AX_CFG a)]
    simp only [grpOf_axCfg]
    rcases hf with h | h
    · have e : ((s.lane l).busEnd (s.lane l).rdata false (R.AX_CFG a).addr).axActive a = false := h
      simp [e]
    · have e : onlyClears (look (s.lane l).regs (R.AX_CFG a).addr (w32 0x0)) v 0x71 0 = true := h
      simp [e]
  · rw [idxOf, if_neg (by simp only [R.AX_CFG, R.RKN_WP_CMP]; omega)]
  · rw [Lane.written_axCfg]
    exact hN

/-- The lane with AX_CFGa written holds the bits written there, and has changed nothing else but AX_STATa. -/
theorem Lane.rd_axCfg_stored (L : Lane) (a : Fin 12) (v : Word) :
    (L.storedIn axCfgRow (R.AX_CFG a).addr v).rd (R.AX_CFG a) = L.taken (R.AX_CFG a) 0x71 v := by
  have hs : ∀ a : Fin 12, storeSpecial (R.AX_CFG a).addr = false := by decide +kernel
  exact L.rd_storedIn_plain v (hs a) rfl rfl

theorem Lane.Frame.axStored (L : Lane) (a : Nat) (v : Word) :
    Lane.Frame [(R.AX_CFG a).addr, (R.AX_STAT a).addr] L (L.axStored a v) :=
  ((Lane.Frame.storedIn L _ v fun x _ => AX_BANK_ne_AX_CFG a x).mono (by simp)).trans
    ((Lane.Frame.wr _ _ fun x _ => AX_BANK_ne_AX_STAT a x).mono (by simp))

theorem Lane.axActive_axSplit (L : Lane) (a b : Nat) : (L.axSplit a).axActive b = L.axActive b := by
  by_cases h : b = a
  · subst h
    exact L.on_setF_field _ _ (.inr (by decide))
  · exact L.on_setF_other _ _ _ (by simp only [R.AX_STAT]; omega)

theorem Lane.rd_axSplit_cfg (L : Lane) (a : Nat) : (L.axSplit a).rd (R.AX_CFG a) = L.rd (R.AX_CFG a) :=
  L.rd_setF_other _ _ (by simp only [R.AX_STAT, R.AX_CFG]; omega)

/-! ### The checks (R54, R201, R215, R279) -/

/-- Two lanes that differ in AX_STATa and outside the registers, memory, the axes and the part alone. -/
structure Lane.ChecksAs (a : Nat) (L M : Lane) : Prop where
  rd : ∀ r, r.addr ≠ (R.AX_STAT a).addr → M.rd r = L.rd r
  byte : ∀ x, M.byte x = L.byte x
  small : M.small = L.small
  ax : M.ax = L.ax

namespace Lane.ChecksAs
variable {a : Nat} {L M : Lane}

theorem on (h : Lane.ChecksAs a L M) {r : Reg} (hr : r.addr ≠ (R.AX_STAT a).addr) (f : Bf) : M.on r f = L.on r f := congrArg f.on (h.rd r hr)
theorem fld (h : Lane.ChecksAs a L M) {r : Reg} (hr : r.addr ≠ (R.AX_STAT a).addr) (f : Bf) : M.fld r f = L.fld r f := congrArg f.get (h.rd r hr)
theorem rdI (h : Lane.ChecksAs a L M) {r : Reg} (hr : r.addr ≠ (R.AX_STAT a).addr) : M.rdI r = L.rdI r := congrArg BitVec.toInt (h.rd r hr)

theorem memW (h : Lane.ChecksAs a L M) (x : Nat) : M.memW x = L.memW x := by simp only [Lane.memW, h.byte]

theorem axHolds (h : Lane.ChecksAs a L M) {b : Nat} (hb : b < a) : M.axHolds b = L.axHolds b := by
  have e : M.axActive b = L.axActive b := h.on (by simp only [R.AX_STAT]; omega) _
  rw [Lane.axHolds, Lane.axHolds, e, h.ax]

theorem axKind (h : Lane.ChecksAs a L M) (b : Nat) : M.axKind b = L.axKind b := h.fld (by simp only [R.AX_CFG, R.AX_STAT]; omega) _

theorem rd_bind (h : Lane.ChecksAs a L M) (b : Nat) : M.rd (R.AX_BIND b) = L.rd (R.AX_BIND b) :=
  h.rd _ (by simp only [R.AX_BIND, R.AX_STAT]; omega)

theorem axKeys (h : Lane.ChecksAs a L M) (b : Nat) : M.axKeys b = L.axKeys b := by
  simp only [Lane.axKeys, h.axKind, h.rd_bind]

theorem ccX (h : Lane.ChecksAs a L M) (ha : a < 12) (i : Nat) : M.ccX a i = L.ccX a i := by
  rw [Lane.ccX, Lane.ccX, Lane.coef, Lane.coef, h.memW, h.rd (R.EDG_CCBASE a) (by simp only [R.EDG_CCBASE, R.AX_STAT]; omega)]

theorem ccFails (h : Lane.ChecksAs a L M) (ha : a < 12) : M.ccFails a = L.ccFails a := by
  have hn : M.ccN a = L.ccN a := h.fld (by simp only [R.EDG_CCCFG, R.AX_STAT]; omega) _
  have he : M.on (R.EDG_CCCFG a) F.EDG_CCCFG_EN = L.on (R.EDG_CCCFG a) F.EDG_CCCFG_EN := h.on (by simp only [R.EDG_CCCFG, R.AX_STAT]; omega) _
  have hb : M.rd (R.EDG_CCBASE a) = L.rd (R.EDG_CCBASE a) := h.rd _ (by simp only [R.EDG_CCBASE, R.AX_STAT]; omega)
  have hi : M.rdI (R.EDG_CCON a) = L.rdI (R.EDG_CCON a) := h.rdI (by simp only [R.EDG_CCON, R.AX_STAT]; omega)
  have ho : M.rdI (R.EDG_CCOFF a) = L.rdI (R.EDG_CCOFF a) := h.rdI (by simp only [R.EDG_CCOFF, R.AX_STAT]; omega)
  simp only [Lane.ccFails, hn, he, hb, hi, ho, h.ccX ha, h.axKind]

/-- The binding check of the axis finds the same. -/
theorem axCauses (h : Lane.ChecksAs a L M) (ha : a < 12) : M.axCauses a = L.axCauses a := by
  have hs : M.rd (R.AX_SPSRC a) = L.rd (R.AX_SPSRC a) := h.rd _ (by simp only [R.AX_SPSRC, R.AX_STAT]; omega)
  have hp (f : Bf) : M.fld R.PWR_STAT f = L.fld R.PWR_STAT f := h.fld (by simp only [R.PWR_STAT, R.AX_STAT]; omega) f
  have hq : M.on (R.AX_PSLOT a) F.AX_PSLOT_SLOT_V = L.on (R.AX_PSLOT a) F.AX_PSLOT_SLOT_V := h.on (by simp only [R.AX_PSLOT, R.AX_STAT]; omega) _
  have hx : M.rdI (R.AX_SPMAX a) = L.rdI (R.AX_SPMAX a) := h.rdI (by simp only [R.AX_SPMAX, R.AX_STAT]; omega)
  have hn : M.rdI (R.AX_SPMIN a) = L.rdI (R.AX_SPMIN a) := h.rdI (by simp only [R.AX_SPMIN, R.AX_STAT]; omega)
  have hb : ((List.range a).any fun b => M.axHolds b && (L.axKeys b).any (L.axKeys a).contains)
      = (List.range a).any fun b => L.axHolds b && (L.axKeys b).any (L.axKeys a).contains := by
    apply Bool.eq_iff_iff.mpr
    simp only [List.any_eq_true, List.mem_range]
    exact exists_congr fun b => and_congr_right fun hb => by rw [h.axHolds hb]
  simp only [Lane.axCauses, hs, hp, hq, hx, hn, hb, h.rd_bind, h.axKind, h.axKeys, h.small, h.ccFails ha]

theorem rsrc (h : Lane.ChecksAs a L M) (r : Nat) : M.rsrc a r = L.rsrc a r := by
  rw [Lane.rsrc, Lane.rsrc, h.rd (R.AX_RSRC a r) (by simp only [R.AX_RSRC, R.AX_STAT]; omega)]

theorem listed (h : Lane.ChecksAs a L M) (k o : Nat) : M.listed a k o = L.listed a k o := by
  have hb : M.listBase = L.listBase := congrArg BitVec.toNat (h.rd R.FIX_LISTBASE (by simp only [R.FIX_LISTBASE, R.AX_STAT]; omega))
  have hc : M.listCount = L.listCount := h.fld (by simp only [R.FIX_LISTCNT, R.AX_STAT]; omega) _
  have he : M.lentry = L.lentry := funext fun i => by simp only [Lane.lentry, hb, h.memW]
  simp only [Lane.listed, Lane.lentries, hc, he]

/-- The chart check of the axis finds the same. -/
theorem chCause (h : Lane.ChecksAs a L M) : M.chCause a = L.chCause a := by
  have hi : M.chNI a = L.chNI a := h.fld (by simp only [R.AX_CHCFG, R.AX_STAT]; omega) _
  have hj : M.chNJ a = L.chNJ a := h.fld (by simp only [R.AX_CHCFG, R.AX_STAT]; omega) _
  have he : M.chen a = L.chen a := h.on (by simp only [R.AX_LAW, R.AX_STAT]; omega) _
  have hl : M.clen a = L.clen a := h.fld (by simp only [R.AX_LAW, R.AX_STAT]; omega) _
  have hf (f : Bf) : M.fld (R.AX_CHCFG a) f = L.fld (R.AX_CHCFG a) f := h.fld (by simp only [R.AX_CHCFG, R.AX_STAT]; omega) f
  have hr (c : Nat) : M.chRegion a c = L.chRegion a c := by
    rw [Lane.chRegion, Lane.chRegion, h.rd]
    split <;> simp only [R.AX_CHMAP0, R.AX_CHMAP1, R.AX_STAT] <;> omega
  have h0 (k : Nat) : M.rdI (R.AX_BP0 a k) = L.rdI (R.AX_BP0 a k) := h.rdI (by simp only [R.AX_BP0, R.AX_STAT]; omega)
  have h1 (k : Nat) : M.rdI (R.AX_BP1 a k) = L.rdI (R.AX_BP1 a k) := h.rdI (by simp only [R.AX_BP1, R.AX_STAT]; omega)
  have h2 (k : Nat) : M.rd (R.AX_HY0 a k) = L.rd (R.AX_HY0 a k) := h.rd _ (by simp only [R.AX_HY0, R.AX_STAT]; omega)
  have h3 (k : Nat) : M.rd (R.AX_HY1 a k) = L.rd (R.AX_HY1 a k) := h.rd _ (by simp only [R.AX_HY1, R.AX_STAT]; omega)
  simp only [Lane.chCause, he, hi, hj, hl, hf, hr, h0, h1, h2, h3, h.rsrc, h.listed]

end Lane.ChecksAs

/-- The stored write with AX_STAT.SPLIT shown checks as the stored write. -/
theorem Lane.ChecksAs.axStored (L : Lane) (a : Fin 12) (v : Word) : Lane.ChecksAs a (L.wr (R.AX_CFG a) (L.taken (R.AX_CFG a) 0x71 v))
    (L.axStored a v) := by
  have hs : ∀ a : Fin 12, storeSpecial (R.AX_CFG a).addr = false := by decide +kernel
  have hr : (L.storedIn axCfgRow (R.AX_CFG a).addr v).regs = (L.wr (R.AX_CFG a) (L.taken (R.AX_CFG a) 0x71 v)).regs :=
    congrArg (fun w => put L.regs (R.AX_CFG a).addr w 0) (Reg.stored_plain v (hs a) rfl rfl)
  have h : ∀ r, r.addr ≠ (R.AX_STAT a).addr →
      (L.axStored a v).rd r = (L.wr (R.AX_CFG a) (L.taken (R.AX_CFG a) 0x71 v)).rd r := fun r hr' =>
    (Lane.rd_setF_other _ _ _ hr').trans (Lane.rd_congr hr r)
  exact ⟨h, Lane.byte_of rfl fun x _ => h _ (AX_BANK_ne_AX_STAT a x), rfl, rfl⟩

/-! ### An axis that fails its checks, and one that passes (R54, R55, R57, R202) -/

theorem lowCause_le {xs : List (Nat × Bool)} {n : Nat} (h : ∀ x ∈ xs, x.1 ≤ n) : lowCause xs ≤ n := by
  unfold lowCause
  split
  · next x hx => exact h x (List.mem_of_find?_eq_some hx)
  · exact Nat.zero_le n

theorem Lane.lowCause_axCauses_le (L : Lane) (a : Nat) : lowCause (L.axCauses a) ≤ 9 := lowCause_le (by simp [Lane.axCauses])
theorem Lane.chCause_le (L : Lane) (a : Nat) : L.chCause a ≤ 6 := by
  unfold Lane.chCause
  split
  · exact Nat.zero_le 6
  · exact lowCause_le (by simp)

/-- A cause other than 0 raises its flag and is shown beside it. -/
def Lane.causeShown (L : Lane) (r : Reg) (flag cause : Bf) (n : Nat) : Lane := if n = 0 then L else (L.raise r flag).setF r cause n

theorem Lane.shows_causeShown (L : Lane) (r : Reg) {flag cause : Bf} {n : Nat} (hn : n ≠ 0) (hlt : n < 2 ^ cause.wid) (hf : flag.lo + flag.wid ≤ 32)
    (hw : 0 < flag.wid) (hc : cause.lo + cause.wid ≤ 32) (hd : cause.lo + cause.wid ≤ flag.lo ∨ flag.lo + flag.wid ≤ cause.lo) :
    (L.causeShown r flag cause n).shows r flag cause n := by
  rw [Lane.causeShown, if_neg hn]
  refine ⟨?_, ?_⟩
  · rw [Lane.on_setF_field _ _ _ hd, Lane.on_raise_same L r flag hf hw]
  · rw [Lane.fld_setF_same _ _ _ _ hc, Nat.mod_eq_of_lt hlt]

theorem Lane.rd_causeShown_other (L : Lane) {r q : Reg} (flag cause : Bf) (n : Nat) (h : q.addr ≠ r.addr) :
    (L.causeShown r flag cause n).rd q = L.rd q := by
  unfold Lane.causeShown
  split
  · rfl
  · exact (Lane.rd_setF_other _ _ _ h).trans (L.rd_raise_other flag h)

theorem Lane.ax_causeShown (L : Lane) (r : Reg) (flag cause : Bf) (n : Nat) : (L.causeShown r flag cause n).ax = L.ax := by
  unfold Lane.causeShown
  split <;> rfl
theorem Lane.hn_causeShown (L : Lane) (r : Reg) (flag cause : Bf) (n : Nat) : (L.causeShown r flag cause n).hn = L.hn := by
  unfold Lane.causeShown
  split <;> rfl

theorem Lane.Frame.causeShown (L : Lane) (r : Reg) (flag cause : Bf) (n : Nat) (hb : ∀ x, x < 12 → (R.AX_BANK x).addr ≠ r.addr) :
    Lane.Frame [r.addr] L (L.causeShown r flag cause n) := by
  refine Lane.Frame.regs (fun q hq => L.rd_causeShown_other flag cause n (by simpa using hq)) ?_ ?_ fun x hx => by simpa using hb x hx
  · unfold Lane.causeShown
    split <;> rfl
  · unfold Lane.causeShown
    split <;> rfl

/-- What the checks of an axis show. -/
def Lane.checksShown (L : Lane) (a : Nat) : Lane :=
  (L.causeShown (R.AX_STAT a) F.AX_STAT_BIND_ERR F.AX_STAT_CAUSE (lowCause (L.axCauses a))).causeShown (R.AX_CHST a) F.AX_CHST_CHERR
    F.AX_CHST_CHCAUSE (L.chCause a)

/-- An axis that fails its checks shows the causes, and nothing more. -/
theorem Lane.axTry_fails {L : Lane} {a : Nat} (h : lowCause (L.axCauses a) ≠ 0 ∨ L.chCause a ≠ 0) : L.axTry a = L.checksShown a := if_pos h

theorem Lane.bindErr_checksShown (L : Lane) (a : Nat) (h : lowCause (L.axCauses a) ≠ 0) :
    (L.checksShown a).shows (R.AX_STAT a) F.AX_STAT_BIND_ERR F.AX_STAT_CAUSE (lowCause (L.axCauses a)) := by
  have hr (M : Lane) : (M.causeShown (R.AX_CHST a) F.AX_CHST_CHERR F.AX_CHST_CHCAUSE (L.chCause a)).rd (R.AX_STAT a) = M.rd (R.AX_STAT a) :=
    M.rd_causeShown_other _ _ _ (by simp only [R.AX_STAT, R.AX_CHST]; omega)
  have hs := L.shows_causeShown (R.AX_STAT a) (flag := F.AX_STAT_BIND_ERR) (cause := F.AX_STAT_CAUSE) h
    (Nat.lt_of_le_of_lt (L.lowCause_axCauses_le a) (by decide)) (by decide) (by decide) (by decide) (by decide)
  exact ⟨(congrArg F.AX_STAT_BIND_ERR.on (hr _)).trans hs.1, (congrArg F.AX_STAT_CAUSE.get (hr _)).trans hs.2⟩

theorem Lane.chErr_checksShown (L : Lane) (a : Nat) (h : L.chCause a ≠ 0) :
    (L.checksShown a).shows (R.AX_CHST a) F.AX_CHST_CHERR F.AX_CHST_CHCAUSE (L.chCause a) :=
  Lane.shows_causeShown _ _ h (Nat.lt_of_le_of_lt (L.chCause_le a) (by decide)) (by decide) (by decide) (by decide) (by decide)

theorem Lane.ax_checksShown (L : Lane) (a : Nat) : (L.checksShown a).ax = L.ax := (Lane.ax_causeShown _ _ _ _ _).trans (Lane.ax_causeShown _ _ _ _ _)
theorem Lane.hn_checksShown (L : Lane) (a : Nat) : (L.checksShown a).hn = L.hn := (Lane.hn_causeShown _ _ _ _ _).trans (Lane.hn_causeShown _ _ _ _ _)
theorem Lane.Frame.checksShown (L : Lane) (a : Nat) : Lane.Frame [(R.AX_STAT a).addr, (R.AX_CHST a).addr] L (L.checksShown a) :=
  ((Lane.Frame.causeShown L _ _ _ _ fun x _ => AX_BANK_ne_AX_STAT a x).mono (by simp)).trans
    ((Lane.Frame.causeShown _ _ _ _ _ fun x _ => AX_BANK_ne_AX_CHST a x).mono (by simp))

/-- The axis waits for activation, with its activity and its configuration as in `L`. -/
structure Lane.AxWaits (a : Nat) (L M : Lane) : Prop where
  waiting : (M.ax.at a).waiting = true
  active : M.axActive a = L.axActive a
  cfg : M.rd (R.AX_CFG a) = L.rd (R.AX_CFG a)
  hn : M.hn = L.hn

namespace Lane.AxWaits
variable {a : Nat} {L M : Lane}

/-- A change of a register other than AX_CFGa and AX_STATa. -/
theorem wr (h : Lane.AxWaits a L M) {r : Reg} {v : Word} (hc : (R.AX_CFG a).addr ≠ r.addr) (hs : (R.AX_STAT a).addr ≠ r.addr) :
    Lane.AxWaits a L (M.wr r v) := ⟨h.waiting, (M.on_wr_other v _ hs).trans h.active, (M.rd_wr_other v hc).trans h.cfg, h.hn⟩

/-- A change of another axis. -/
theorem updOther (h : Lane.AxWaits a L M) {b : Nat} {f : Ax → Ax} (hb : a ≠ b) : Lane.AxWaits a L (M.updAx b f) :=
  ⟨(congrArg Ax.waiting (Tab.at_upd_other M.ax f hb)).trans h.waiting, h.active, h.cfg, h.hn⟩

/-- A change that lets the axis wait on. -/
theorem updSame (h : Lane.AxWaits a L M) {f : Ax → Ax} (hf : (f (M.ax.at a)).waiting = true) : Lane.AxWaits a L (M.updAx a f) :=
  ⟨(congrArg Ax.waiting (Tab.at_upd_same M.ax a f)).trans hf, h.active, h.cfg, h.hn⟩

theorem setF (h : Lane.AxWaits a L M) {r : Reg} {f : Bf} {n : Nat} (hc : (R.AX_CFG a).addr ≠ r.addr) (hs : (R.AX_STAT a).addr ≠ r.addr) :
    Lane.AxWaits a L (M.setF r f n) := h.wr hc hs
theorem raise (h : Lane.AxWaits a L M) {r : Reg} {f : Bf} (hc : (R.AX_CFG a).addr ≠ r.addr) (hs : (R.AX_STAT a).addr ≠ r.addr) :
    Lane.AxWaits a L (M.raise r f) := ⟨h.waiting, (M.on_raise_other f _ hs).trans h.active, (M.rd_raise_other f hc).trans h.cfg, h.hn⟩

theorem showPosts (h : Lane.AxWaits a L M) (ha : a < 12) : Lane.AxWaits a L M.showPosts := by
  refine .setF (.setF h ?_ ?_) ?_ ?_ <;> simp only [R.AX_CFG, R.AX_STAT, R.BMB_STAT, R.PWR_NVMST] <;> omega

theorem logRec (h : Lane.AxWaits a L M) (ha : a < 12) {ty : Nat} {p q r t : Word} : Lane.AxWaits a L (M.logRec ty p q r t) := by
  unfold Lane.logRec Lane.post
  split
  · split
    · exact .showPosts ⟨h.waiting, h.active, h.cfg, h.hn⟩ ha
    · refine .raise (.setF h ?_ ?_) ?_ ?_ <;> simp only [R.AX_CFG, R.AX_STAT, R.PWR_EVT, R.PWR_NVMST] <;> omega
  · split
    · refine .raise (.setF h ?_ ?_) ?_ ?_ <;> simp only [R.AX_CFG, R.AX_STAT, R.BMB_STAT, R.BMB_CNT] <;> omega
    · exact .showPosts ⟨h.waiting, h.active, h.cfg, h.hn⟩ ha

end Lane.AxWaits

/-- Axis b loses its resource where axis a, of a lower number, takes it (R57). -/
def Lane.axLoses (a : Nat) (ks : List Nat) (X : Lane) (b : Nat) : Lane :=
  if a < b ∧ X.axHolds b = true ∧ (X.axKeys b).any ks.contains = true then
    let Y := (X.raise (R.AX_STAT b) F.AX_STAT_BIND_ERR).setF (R.AX_STAT b) F.AX_STAT_CAUSE 2
    if X.axActive b then Y.updAx b fun x => { x with disabling := true } else Y.updAx b fun x => { x with waiting := false, actSample := none }
  else X

theorem Lane.AxWaits.axLoses {a : Nat} {L M : Lane} (h : Lane.AxWaits a L M) (ks : List Nat) (b : Nat) : Lane.AxWaits a L (M.axLoses a ks b) := by
  unfold Lane.axLoses
  split
  · next hb =>
    have hc : (R.AX_CFG a).addr ≠ (R.AX_STAT b).addr := by
      simp only [R.AX_CFG, R.AX_STAT]
      omega
    have hs : (R.AX_STAT a).addr ≠ (R.AX_STAT b).addr := by
      simp only [R.AX_STAT]
      omega
    have hY := (h.raise (f := F.AX_STAT_BIND_ERR) hc hs).setF (f := F.AX_STAT_CAUSE) (n := 2) hc hs
    have hne : a ≠ b := Nat.ne_of_lt hb.1
    dsimp only
    split
    · exact hY.updOther hne
    · exact hY.updOther hne
  · exact h

/-- The axis waits, and the higher-numbered axes have lost what it binds. -/
def Lane.axAwaits (L : Lane) (a : Nat) : Lane :=
  (List.range 12).foldl (Lane.axLoses a (L.axKeys a)) (L.updAx a fun x => { x.fresh with waiting := true })

theorem Lane.AxWaits.axAwaits (L : Lane) (a : Nat) : Lane.AxWaits a L (L.axAwaits a) := by
  have h : Lane.AxWaits a L (L.updAx a fun x => { x.fresh with waiting := true }) := by
    refine ⟨?_, rfl, rfl, rfl⟩
    rw [Lane.ax_updAx, Tab.at_upd_same]
  exact List.foldlRecOn (List.range 12) (Lane.axLoses a (L.axKeys a)) h fun X hX b _ => hX.axLoses _ b

/-- An axis that passes its checks waits for activation. -/
theorem Lane.axTry_passes {L : Lane} {a : Nat} (ha : a < 12) (hc : lowCause (L.axCauses a) = 0) (hh : L.chCause a = 0) :
    Lane.AxWaits a L (L.axTry a) := by
  unfold Lane.axTry
  rw [hc, hh]
  extract_lets c L1 L1' ks dies two L2 L3 L4 i j g st
  have h3 : Lane.AxWaits a L L3 := Lane.AxWaits.axAwaits L a
  have h4 : Lane.AxWaits a L L4 := by
    dsimp only [L4]
    split
    · exact h3.logRec ha
    · exact h3
  rw [if_neg (by simp [c])]
  split
  · have hc : (R.AX_CFG a).addr ≠ (R.AX_CHST a).addr := by
      simp only [R.AX_CFG, R.AX_CHST]
      omega
    have hs : (R.AX_STAT a).addr ≠ (R.AX_CHST a).addr := by
      simp only [R.AX_STAT, R.AX_CHST]
      omega
    have hw := h4.wr (v := st) hc hs
    refine .updSame (.setF hw ?_ (AX_BANK_ne_AX_STAT a a).symm) ?_
    · exact (AX_BANK_ne_AX_CFG a a).symm
    · exact hw.waiting
  · exact h4

/-! ### Enabling (R54, R55, R202) -/

theorem Lane.rd_axStored (L : Lane) (a : Fin 12) (v : Word) : (L.axStored a v).rd (R.AX_CFG a) = L.taken (R.AX_CFG a) 0x71 v :=
  (Lane.rd_axSplit_cfg _ _).trans (L.rd_axCfg_stored a v)

/-- AX_CFG.EN holds what has been written to it. -/
theorem Lane.on_axStored (L : Lane) (a : Fin 12) (v : Word) (n : Nat) :
    (L.axStored a (F.AX_CFG_EN.set v n)).on (R.AX_CFG a) F.AX_CFG_EN = (n % 2 != 0) := by
  show (F.AX_CFG_EN.get ((L.axStored a (F.AX_CFG_EN.set v n)).rd (R.AX_CFG a)) != 0) = _
  rw [L.rd_axStored, Lane.get_taken L _ _ (by decide), Bf.get_set_same _ _ _ (by decide)]
  rfl

theorem Lane.axActive_axStored (L : Lane) (a : Nat) (v : Word) (b : Nat) : (L.axStored a v).axActive b = L.axActive b := by
  rw [Lane.axStored, Lane.axActive_axSplit]
  exact congrArg F.AX_STAT_ACTIVE.on (L.rd_storedIn_other axCfgRow v (by simp only [R.AX_CFG, R.AX_STAT]; omega))

theorem RunsLane.axisEnable (s : State) (l : LaneId) (a : Fin 12) (v : Word) (hq : s.Quiet) (hu : (s.lane l).Unlocked)
    (hi : (s.lane l).axActive a = false) (he : (s.lane l).on (R.AX_CFG a) F.AX_CFG_EN = false) :
    let w := F.AX_CFG_EN.set v 1
    let N := (s.lane l).wr (R.AX_CFG a) ((s.lane l).taken (R.AX_CFG a) 0x71 w)
    let c := lowCause (N.axCauses a)
    let ch := N.chCause a
    RunsLane (.axisEnable l a v) s l fun L M => M.rd (R.AX_CFG a) = N.rd (R.AX_CFG a)
      ∧ (c ≠ 0 → M.shows (R.AX_STAT a) F.AX_STAT_BIND_ERR F.AX_STAT_CAUSE c) ∧ (ch ≠ 0 → M.shows (R.AX_CHST a) F.AX_CHST_CHERR F.AX_CHST_CHCAUSE ch)
      ∧ (c ≠ 0 ∨ ch ≠ 0 → M.ax = L.ax ∧ Lane.Frame [(R.AX_CFG a).addr, (R.AX_STAT a).addr, (R.AX_CHST a).addr] L M)
      ∧ (c = 0 → ch = 0 → (M.ax.at a).waiting = true ∧ M.axActive a = false) := by
  intro w N c ch
  have hk : Lane.ChecksAs a N ((s.lane l).axStored a w) := .axStored _ a w
  have hc : lowCause (((s.lane l).axStored a w).axCauses a) = c := by rw [hk.axCauses a.isLt]
  have hh : ((s.lane l).axStored a w).chCause a = ch := hk.chCause
  have hr : ((s.lane l).axStored a w).rd (R.AX_CFG a) = N.rd (R.AX_CFG a) := ((s.lane l).rd_axStored a w).trans (Lane.rd_wr_same _ _ _).symm
  have hA : ((s.lane l).axStored a w).axActive a = false := ((s.lane l).axActive_axStored a w a).trans hi
  have hw : ((s.lane l).axStored a w).axWritten a ((s.lane l).on (R.AX_CFG a) F.AX_CFG_EN) = ((s.lane l).axStored a w).axTry a := by
    simp [Lane.axWritten, (s.lane l).on_axStored a v 1, w, he, hA]
  by_cases hf : c ≠ 0 ∨ ch ≠ 0
  · have ht := Lane.axTry_fails (L := (s.lane l).axStored a w) (a := a) (by rw [hc, hh]; exact hf)
    have hF := Lane.Frame.checksShown ((s.lane l).axStored a w) a
    refine RunsLane.axCfg rfl hq hu (.inl hi) (hw.trans ht) ?_ ⟨?_, ?_, ?_, ?_, ?_⟩
    · rw [Lane.hn_checksShown]
      exact hq l
    · refine (hF.1 (R.AX_CFG a) ?_).trans hr
      simp [R.AX_CFG, R.AX_STAT, R.AX_CHST]
    · intro h
      have := Lane.bindErr_checksShown ((s.lane l).axStored a w) a (by rw [hc]; exact h)
      rw [hc] at this
      exact this
    · intro h
      have := Lane.chErr_checksShown ((s.lane l).axStored a w) a (by rw [hh]; exact h)
      rw [hh] at this
      exact this
    · exact fun _ => ⟨Lane.ax_checksShown _ _, ((Lane.Frame.axStored _ a w).mono (by simp)).trans (hF.mono (by simp))⟩
    · exact fun h h' => absurd hf (by simp [h, h'])
  · have h0 : c = 0 ∧ ch = 0 := by simpa using hf
    have ht := Lane.axTry_passes (L := (s.lane l).axStored a w) a.isLt (hc.trans h0.1) (hh.trans h0.2)
    refine RunsLane.axCfg rfl hq hu (.inl hi) hw ?_ ⟨?_, ?_, ?_, ?_, ?_⟩
    · rw [ht.hn]
      exact hq l
    · exact ht.cfg.trans hr
    · exact fun h => absurd h0.1 h
    · exact fun h => absurd h0.2 h
    · exact fun h => absurd h hf
    · exact fun _ _ => ⟨ht.waiting, ht.active.trans hA⟩

end Sys2Proof.Machine
end

section
/-! The disabling of an axis (R48, R50), and the statement. -/

namespace Sys2Proof.Machine

/-! ### Disabling (R48, R50) -/

/-- The bits of AX_BANK beside ACTB decide no view of coefficient RAM (R195). -/
theorem Lane.Frame.axBank (L : Lane) (a : Nat) {f : Bf} (n : Nat) (h : 1 ≤ f.lo) : Lane.Frame [(R.AX_BANK a).addr] L (L.setF (R.AX_BANK a) f n) := by
  refine ⟨Lane.RegsBut.setF L _ f n, Lane.byte_bank rfl fun x hx => ?_, fun _ => rfl⟩
  by_cases he : x = a
  · subst he
    exact L.on_setF_field _ n (.inr h)
  · exact L.on_setF_other f n _ (by simp only [R.AX_BANK]; omega)

/-- An axis that is not active waits no longer. -/
def Lane.axUnwait (L : Lane) (a : Nat) : Lane :=
  (L.setF (R.AX_BANK a) F.AX_BANK_BUSY 0).updAx a fun x => { x with waiting := false, actSample := none, copy := none }

theorem Lane.waiting_axUnwait (L : Lane) (a : Nat) : ((L.axUnwait a).ax.at a).waiting = false :=
  congrArg Ax.waiting (Tab.at_upd_same L.ax a fun x => { x with waiting := false, actSample := none, copy := none })
theorem Lane.ax_axUnwait_other (L : Lane) {a b : Nat} (h : b ≠ a) : (L.axUnwait a).ax.at b = L.ax.at b :=
  Tab.at_upd_other L.ax (fun x => { x with waiting := false, actSample := none, copy := none }) h
theorem Lane.on_cfg_axUnwait (L : Lane) (a : Nat) : (L.axUnwait a).on (R.AX_CFG a) F.AX_CFG_EN = L.on (R.AX_CFG a) F.AX_CFG_EN :=
  L.on_setF_other _ _ _ (AX_BANK_ne_AX_CFG a a).symm
theorem Lane.axActive_axUnwait (L : Lane) (a : Nat) : (L.axUnwait a).axActive a = L.axActive a :=
  L.on_setF_other _ _ _ (AX_BANK_ne_AX_STAT a a).symm
theorem Lane.Frame.axUnwait (L : Lane) (a : Nat) : Lane.Frame [(R.AX_BANK a).addr] L (L.axUnwait a) :=
  (Lane.Frame.axBank L a 0 (by decide)).trans (Lane.Frame.of_eq rfl rfl rfl _)

/-- The sample in progress is the axis's last. -/
def Lane.axLast (L : Lane) (a : Nat) : Lane := L.updAx a fun x => { x with disabling := true }

theorem Lane.disabling_axLast (L : Lane) (a : Nat) : ((L.axLast a).ax.at a).disabling = true :=
  congrArg Ax.disabling (Tab.at_upd_same L.ax a fun x => { x with disabling := true })

/-- The axis has stopped, with EN at 0. -/
def Lane.axStopped (L : Lane) (a : Nat) : Lane :=
  ((((L.setF (R.AX_STAT a) F.AX_STAT_ACTIVE 0).admDrop a).setF (R.AX_BANK a) F.AX_BANK_BUSY 0).updAx a Ax.fresh).setF (R.AX_BANK a) F.AX_BANK_DUE 0

theorem Lane.Frame.admDrop (L : Lane) (a : Nat) : Lane.Frame [R.RKN_ADM_STAT.addr] L (L.admDrop a) := by
  have hb : ∀ x, x < 12 → (R.AX_BANK x).addr ≠ R.RKN_ADM_STAT.addr := by decide
  have h1 (n : Nat) (g : Ck → Ck) : Lane.Frame [R.RKN_ADM_STAT.addr] L ((L.updCk g).setF R.RKN_ADM_STAT F.RKN_ADM_STAT_QLEVEL n) :=
    (Lane.Frame.of_eq rfl rfl rfl _).setFIn (by simp) hb
  unfold Lane.admDrop
  dsimp only
  split
  · exact (h1 _ _).raiseIn (by simp) hb
  · exact h1 _ _

theorem Lane.hn_admDrop (L : Lane) (a : Nat) : (L.admDrop a).hn = L.hn := by
  unfold Lane.admDrop
  dsimp only
  split <;> rfl

theorem Lane.Frame.axStopped (L : Lane) (a : Nat) :
    Lane.Frame [(R.AX_STAT a).addr, (R.AX_BANK a).addr, R.RKN_ADM_STAT.addr] L (L.axStopped a) := by
  have h1 : Lane.Frame [(R.AX_STAT a).addr, (R.AX_BANK a).addr, R.RKN_ADM_STAT.addr] L (L.setF (R.AX_STAT a) F.AX_STAT_ACTIVE 0) :=
    (Lane.Frame.refl _ L).setFIn (by simp) fun x _ => AX_BANK_ne_AX_STAT a x
  have hB (M : Lane) {f : Bf} (h : 1 ≤ f.lo) := (Lane.Frame.axBank M a (f := f) 0 h).mono (qs := [(R.AX_STAT a).addr, (R.AX_BANK a).addr, R.RKN_ADM_STAT.addr]) (by simp)
  have h2 := (h1.trans ((Lane.Frame.admDrop _ a).mono (by simp))).trans (hB _ (f := F.AX_BANK_BUSY) (by decide))
  exact (h2.trans (Lane.Frame.of_eq rfl rfl rfl _)).trans (hB _ (by decide))

/-- An axis that has stopped is not active. -/
theorem Lane.axActive_axStopped (L : Lane) {a : Nat} (ha : a < 12) : (L.axStopped a).axActive a = false := by
  have hd : ((L.setF (R.AX_STAT a) F.AX_STAT_ACTIVE 0).admDrop a).rd (R.AX_STAT a) = (L.setF (R.AX_STAT a) F.AX_STAT_ACTIVE 0).rd (R.AX_STAT a) := by
    refine (Lane.Frame.admDrop _ a).1 _ ?_
    simp only [R.AX_STAT, R.RKN_ADM_STAT, List.mem_singleton]
    omega
  have hu (M : Lane) (f : Ax → Ax) : (M.updAx a f).on (R.AX_STAT a) F.AX_STAT_ACTIVE = M.on (R.AX_STAT a) F.AX_STAT_ACTIVE := rfl
  unfold Lane.axStopped Lane.axActive
  rw [Lane.on_setF_other _ _ _ _ (AX_BANK_ne_AX_STAT a a).symm, hu, Lane.on_setF_other _ _ _ _ (AX_BANK_ne_AX_STAT a a).symm, Lane.on, hd]
  exact L.on_setF_zero _ _ (by decide)

theorem Lane.hn_axStopped (L : Lane) (a : Nat) : (L.axStopped a).hn = L.hn := Lane.hn_admDrop _ a

theorem Lane.on_cfg_axStopped (L : Lane) {a : Nat} (ha : a < 12) : (L.axStopped a).on (R.AX_CFG a) F.AX_CFG_EN = L.on (R.AX_CFG a) F.AX_CFG_EN := by
  refine congrArg F.AX_CFG_EN.on ((Lane.Frame.axStopped L a).1 _ ?_)
  simp only [R.AX_CFG, R.AX_STAT, R.AX_BANK, R.RKN_ADM_STAT, List.mem_cons, List.not_mem_nil, or_false]
  omega

/-- With EN at 0 the axis stops and is not tried again (R49). -/
theorem Lane.axOff_disabled {L : Lane} {a : Nat} (ha : a < 12) (he : L.on (R.AX_CFG a) F.AX_CFG_EN = false) : L.axOff a = L.axStopped a :=
  if_neg (by
    have h := (L.on_cfg_axStopped ha).trans he
    unfold Lane.axStopped at h
    rw [h]
    exact Bool.false_ne_true)

/-- Clearing EN (R48): an axis with a sample in progress finishes it first, another active one stops, and one that is not active waits no longer. -/
theorem Lane.axWritten_disabled {L : Lane} {a : Nat} (ha : a < 12) (he : L.on (R.AX_CFG a) F.AX_CFG_EN = false) :
    L.axWritten a true = if L.axActive a then (if L.axRunning a then L.axLast a else L.axStopped a) else L.axUnwait a := by
  unfold Lane.axWritten
  simp only [he, Bool.not_true, Bool.and_false, Bool.false_eq_true, if_false, Bool.not_false, Bool.and_true, if_true, Lane.axOff_disabled ha he]
  rfl

/-- The write that clears EN alone passes the refusals of an active axis (R624). -/
theorem onlyClears_en {w v : Word} (he : F.AX_CFG_EN.on w = true) (hx : (w ^^^ F.AX_CFG_EN.set v 0) &&& 0x71#32 = 1#32) :
    onlyClears w (F.AX_CFG_EN.set v 0) 0x71 0 = true := by
  have h1 : bitOf w 0 = true := (Bf.on_eq_getLsbD rfl w).symm.trans he
  have h0 : bitOf (F.AX_CFG_EN.set v 0) 0 = false := by
    rw [bitOf, Bf.getLsbD_set]
    rfl
  rw [onlyClears, h1, h0]
  exact decide_eq_true hx

theorem RunsLane.axisDisable (s : State) (l : LaneId) (a : Fin 12) (v : Word) (hq : s.Quiet) (hu : (s.lane l).Unlocked)
    (he : (s.lane l).on (R.AX_CFG a) F.AX_CFG_EN = true) (hx : ((s.lane l).rd (R.AX_CFG a) ^^^ F.AX_CFG_EN.set v 0) &&& 0x71#32 = 1#32) :
    RunsLane (.axisDisable l a v) s l fun L M => M.on (R.AX_CFG a) F.AX_CFG_EN = false
      ∧ (L.axActive a = false → (M.ax.at a).waiting = false ∧ M.axActive a = false ∧ (∀ b, b < 12 → b ≠ a → M.ax.at b = L.ax.at b)
          ∧ Lane.Frame [(R.AX_CFG a).addr, (R.AX_STAT a).addr, (R.AX_BANK a).addr] L M)
      ∧ (L.axActive a = true → L.axRunning a = true → (M.ax.at a).disabling = true ∧ M.axActive a = true ∧ Lane.Frame [(R.AX_CFG a).addr, (R.AX_STAT a).addr] L M)
      ∧ (L.axActive a = true → L.axRunning a = false → M.axActive a = false
          ∧ Lane.Frame [(R.AX_CFG a).addr, (R.AX_STAT a).addr, (R.AX_BANK a).addr, R.RKN_ADM_STAT.addr] L M) := by
  have hR := onlyClears_en he hx
  have hF := Lane.Frame.axStored (s.lane l) a (F.AX_CFG_EN.set v 0)
  have hE : ((s.lane l).axStored a (F.AX_CFG_EN.set v 0)).on (R.AX_CFG a) F.AX_CFG_EN = false := (s.lane l).on_axStored a v 0
  have hA : ((s.lane l).axStored a (F.AX_CFG_EN.set v 0)).axActive a = (s.lane l).axActive a := (s.lane l).axActive_axStored a _ a
  have hG : ((s.lane l).axStored a (F.AX_CFG_EN.set v 0)).axRunning a = (s.lane l).axRunning a := rfl
  have hH : ((s.lane l).axStored a (F.AX_CFG_EN.set v 0)).hn = (s.lane l).hn := rfl
  have hX : ((s.lane l).axStored a (F.AX_CFG_EN.set v 0)).ax = (s.lane l).ax := rfl
  have hw := Lane.axWritten_disabled (L := (s.lane l).axStored a (F.AX_CFG_EN.set v 0)) a.isLt hE
  rw [hA, hG] at hw
  have hrun {N : Lane} {Q : Lane → Lane → Prop} (hN : ((s.lane l).axStored a (F.AX_CFG_EN.set v 0)).axWritten a true = N) (hh : N.hn = (s.lane l).hn)
      (hQ : Q (s.lane l) { N with outP := [], outR := [] }) : RunsLane (.axisDisable l a v) s l Q := by
    refine RunsLane.axCfg rfl hq hu (.inr hR) (by rw [he]; exact hN) (by rw [hh]; exact hq l) hQ
  generalize (s.lane l).axStored a (F.AX_CFG_EN.set v 0) = S at *
  cases hA' : (s.lane l).axActive a with
  | false =>
    rw [hA', if_neg Bool.false_ne_true] at hw
    refine hrun hw hH ⟨(S.on_cfg_axUnwait a).trans hE, fun _ => ⟨?_, ?_, fun b _ hb => ?_, ?_⟩, fun h => ?_, fun h => ?_⟩
    · exact S.waiting_axUnwait a
    · exact (S.axActive_axUnwait a).trans (hA.trans hA')
    · exact (S.ax_axUnwait_other (Fin.val_ne_of_ne hb)).trans (congrArg (fun t => Tab.at t b.val) hX)
    · exact (hF.mono (by simp)).trans ((Lane.Frame.axUnwait S a).mono (by simp))
    · exact absurd (hA'.symm.trans h) Bool.false_ne_true
    · exact absurd (hA'.symm.trans h) Bool.false_ne_true
  | true =>
    rw [hA', if_pos rfl] at hw
    cases hG' : (s.lane l).axRunning a with
    | true =>
      rw [hG', if_pos rfl] at hw
      refine hrun hw hH ⟨hE, fun h => ?_, fun _ _ => ⟨?_, hA.trans hA', hF.trans (Lane.Frame.of_eq rfl rfl rfl _)⟩, fun _ h => ?_⟩
      · exact absurd (hA'.symm.trans h).symm Bool.false_ne_true
      · exact S.disabling_axLast a
      · exact absurd (hG'.symm.trans h).symm Bool.false_ne_true
    | false =>
      rw [hG', if_neg Bool.false_ne_true] at hw
      refine hrun hw ((S.hn_axStopped a).trans hH) ⟨(S.on_cfg_axStopped a.isLt).trans hE, fun h => ?_, fun _ h => ?_, fun _ _ => ⟨?_, ?_⟩⟩
      · exact absurd (hA'.symm.trans h).symm Bool.false_ne_true
      · exact absurd (hG'.symm.trans h) Bool.false_ne_true
      · exact S.axActive_axStopped a.isLt
      · exact (hF.mono (by simp)).trans ((Lane.Frame.axStopped S a).mono (by simp))

/-- Settles O7: enabling by whether the axis passes its checks, disabling by whether it is active and whether a sample is in progress. -/
theorem axisEnableAndDisable : Obligations.AxisEnableAndDisable :=
  ⟨fun s l a v hq hu hi he => RunsLane.axisEnable s l a v hq hu hi he, fun s l a v hq hu he hx => RunsLane.axisDisable s l a v hq hu he hx⟩

end Sys2Proof.Machine
end

section
/-! The tick of the chronometer and the reckoners (R58 to R63). -/

namespace Sys2Proof.Machine

/-- The reckoners of a lane after its part of a step. -/
theorem State.rkn_run (s : State) (l : LaneId) (f : Lane → Lane) : ((s.run l f).lane l).rkn = (f (s.lane l)).rkn := by
  rw [State.lane_run_same]

theorem exec_tick (s : State) (l : LaneId) : exec (.reckonerInterpolation l) s = .next (s.run l (·.tick)) := rfl

/-- A lane whose reckoner unit's disable waits with EN set again and waypoint 0 armed on task 0 of axis 0. The axis binds bridge 0 as its first winding and 9, which no
bridge is, as its second; an agreed change of bridge 0 into RUN is due on the sample that the task starts. No axis is the source of reckoner 9. -/
def closingLane : Lane := { State.reset.a with
  rknClosing := true
  regs := [(R.RKN_CTRL.addr, 1), ((R.RKN_WP_CFG 0).addr, 0x10000), ((R.RKN_WP_STAT 0).addr, F.RKN_WP_STAT_ARMED.set 0 1), (R.CE_CTRL.addr, 3),
    ((R.CE_TASK 0).addr, 0x1000000), ((R.RKN_TDL 0).addr, 1), ((R.AX_CFG 0).addr, F.AX_CFG_KIND.set 0 1), ((R.AX_STAT 0).addr, 1),
    ((R.AX_BIND 0).addr, 0x8980), ((R.EDG_MSTAT 9).addr, 1), ((R.EDG_MWOFS 9).addr, 1)]
  ax := State.reset.a.ax.set 0 { State.reset.a.ax.at 0 with due := [⟨0, 0, []⟩] }
  mc := State.reset.a.mc.set 0 { State.reset.a.mc.at 0 with due := [(0, .state 0 6 false)] } }

def closingState : State := { State.reset with a := closingLane }

theorem closingLane_axis : (closingState.lane .A).rknAxis 9 = none := by decide +kernel

/-- The start of the unit at the end of the tick fires waypoint 0, and the second winding that follows bridge 0 into RUN moves reckoner 9. -/
theorem closingLane_moves : (closingState.lane .A).tick.rkn.at 9 ≠ (closingState.lane .A).rkn.at 9 := by decide +kernel

/-- Refutes O8: in a tick that starts the reckoner unit afresh, an armed waypoint can start a sample whose agreed change moves a reckoner that no axis
is the source of. -/
theorem not_reckonersAdvance : ¬ Obligations.ReckonersAdvance := by
  rintro ⟨-, -, htick⟩
  obtain ⟨t, ht, -, -, -, -, -, -, -, -, hrkn⟩ := htick closingState .A
  obtain rfl := Host.Outcome.next.inj ((exec_tick closingState .A).symm.trans ht)
  have hkept := (hrkn 9 (Nat.le_succ 8) (by decide)).1 closingLane_axis
  rw [State.rkn_run] at hkept
  exact closingLane_moves hkept

end Sys2Proof.Machine
end

section
/-! SUPPORT. What a firing of a waypoint records and leaves (R67, R74 to R76, R81). -/

namespace Sys2Proof.Machine

/-! ### Changes of registers beside reckoners and clocks -/

/-- A change of registers at addresses listed that leaves memory, flash, the reckoners with their clocks and Helm Net. -/
structure Lane.Records (rs : List Nat) (L M : Lane) : Prop where
  frame : Lane.Frame rs L M
  rkn : M.rkn = L.rkn
  gt : M.gt = L.gt
  ticks : M.ticks = L.ticks
  trav : M.trav = L.trav
  hn : M.hn = L.hn

theorem Lane.Records.refl (rs : List Nat) (L : Lane) : Lane.Records rs L L := ⟨Lane.Frame.refl rs L, rfl, rfl, rfl, rfl, rfl⟩

theorem Lane.Records.trans {rs : List Nat} {L M N : Lane} (h : Lane.Records rs L M) (k : Lane.Records rs M N) : Lane.Records rs L N :=
  ⟨h.frame.trans k.frame, k.rkn.trans h.rkn, k.gt.trans h.gt, k.ticks.trans h.ticks, k.trav.trans h.trav, k.hn.trans h.hn⟩

theorem Lane.Records.mono {rs qs : List Nat} {L M : Lane} (h : Lane.Records rs L M) (hs : ∀ x ∈ rs, x ∈ qs) : Lane.Records qs L M :=
  ⟨h.frame.mono hs, h.rkn, h.gt, h.ticks, h.trav, h.hn⟩

theorem Lane.Records.rd {rs : List Nat} {L M : Lane} (h : Lane.Records rs L M) {r : Reg} (hr : r.addr ∉ rs) : M.rd r = L.rd r := h.frame.1 r hr

theorem Lane.Records.rknVal {rs : List Nat} {L M : Lane} (h : Lane.Records rs L M) (r : Nat) : M.rknVal r = L.rknVal r := by
  simp only [Lane.rknVal, h.rkn, h.gt, h.ticks, h.trav]

theorem AX_BANK_ne_of_window {a : Nat} (h : a / 0x10000 ≠ 0x4004) (x : Nat) (hx : x < 12) : (R.AX_BANK x).addr ≠ a := by
  simp only [R.AX_BANK]
  omega

theorem Lane.Records.wr {rs : List Nat} {L M : Lane} (h : Lane.Records rs L M) (r : Reg) (v : Word) (hr : r.addr ∈ rs) (hw : r.addr / 0x10000 ≠ 0x4004) :
    Lane.Records rs L (M.wr r v) := ⟨h.frame.wrIn hr (AX_BANK_ne_of_window hw), h.rkn, h.gt, h.ticks, h.trav, h.hn⟩
theorem Lane.Records.setF {rs : List Nat} {L M : Lane} (h : Lane.Records rs L M) (r : Reg) (f : Bf) (n : Nat) (hr : r.addr ∈ rs)
    (hw : r.addr / 0x10000 ≠ 0x4004) : Lane.Records rs L (M.setF r f n) := h.wr r _ hr hw
theorem Lane.Records.bump {rs : List Nat} {L M : Lane} (h : Lane.Records rs L M) (r : Reg) (f : Bf) (n : Nat) (hr : r.addr ∈ rs)
    (hw : r.addr / 0x10000 ≠ 0x4004) : Lane.Records rs L (M.bump r f n) := h.wr r _ hr hw
theorem Lane.Records.raise {rs : List Nat} {L M : Lane} (h : Lane.Records rs L M) (r : Reg) (f : Bf) (hr : r.addr ∈ rs)
    (hw : r.addr / 0x10000 ≠ 0x4004) : Lane.Records rs L (M.raise r f) :=
  ⟨h.frame.raiseIn hr (AX_BANK_ne_of_window hw), h.rkn, h.gt, h.ticks, h.trav, h.hn⟩
theorem Lane.Records.updWp {rs : List Nat} {L M : Lane} (h : Lane.Records rs L M) (w : Nat) (f : Wp → Wp) : Lane.Records rs L (M.updWp w f) :=
  ⟨h.frame.trans (Lane.Frame.of_eq rfl rfl rfl rs), h.rkn, h.gt, h.ticks, h.trav, h.hn⟩

/-- The registers that a recorded fault shows in (R489, R524, R579, R584). -/
def faultRegs : List Nat :=
  [R.FIX_FLTLAST.addr, R.FIX_FLTCNT.addr, R.BMB_STAT.addr, R.PWR_NVMST.addr, R.PWR_EVT.addr, R.BMB_CNT.addr]

theorem Lane.Records.showPosts {L M : Lane} (h : Lane.Records faultRegs L M) : Lane.Records faultRegs L M.showPosts :=
  (h.setF R.BMB_STAT _ _ (by decide) (by decide)).setF R.PWR_NVMST _ _ (by decide) (by decide)

/-- A post changes its queue and what the registers show of it. -/
theorem Lane.Records.post {L M : Lane} (h : Lane.Records faultRegs L M) (k : Nat) (ws : List Word) : Lane.Records faultRegs L (M.post k ws) := by
  have hq : ∀ ps qs, Lane.Records faultRegs L { M with posts := ps, retained := qs } := fun ps qs =>
    ⟨h.frame.trans (Lane.Frame.of_eq rfl rfl rfl _), h.rkn, h.gt, h.ticks, h.trav, h.hn⟩
  unfold Lane.post
  split
  · split
    · exact (hq _ _).showPosts
    · exact (h.bump R.PWR_NVMST _ _ (by decide) (by decide)).raise R.PWR_EVT _ (by decide) (by decide)
  · split
    · exact (h.bump R.BMB_CNT _ _ (by decide) (by decide)).raise R.BMB_STAT _ (by decide) (by decide)
    · exact (hq _ _).showPosts

theorem Lane.Records.fault (L : Lane) (cls loc : Nat) : Lane.Records faultRegs L (L.fault cls loc) :=
  ((((Lane.Records.refl _ L).setF R.FIX_FLTLAST _ _ (by decide) (by decide)).setF R.FIX_FLTLAST _ _ (by decide) (by decide)).bump R.FIX_FLTCNT _ _
    (by decide) (by decide)).post _ _

@[simp] theorem Lane.wp_post (L : Lane) (k : Nat) (ws : List Word) : (L.post k ws).wp = L.wp := by
  unfold Lane.post
  split
  · split <;> rfl
  · split <;> rfl

@[simp] theorem Lane.wp_fault (L : Lane) (cls loc : Nat) : (L.fault cls loc).wp = L.wp := Lane.wp_post _ _ _

/-! ### The registers of waypoints -/

theorem RKN_WP_STAT_ne_CMP (w x : Nat) : (R.RKN_WP_STAT w).addr ≠ (R.RKN_WP_CMP x).addr := by
  simp only [R.RKN_WP_STAT, R.RKN_WP_CMP]
  omega
theorem RKN_WP_STAT_ne_CFG (w x : Nat) : (R.RKN_WP_STAT w).addr ≠ (R.RKN_WP_CFG x).addr := by
  simp only [R.RKN_WP_STAT, R.RKN_WP_CFG]
  omega
theorem RKN_WP_STAT_ne_STEP (w x : Nat) : (R.RKN_WP_STAT w).addr ≠ (R.RKN_WP_STEP x).addr := by
  simp only [R.RKN_WP_STAT, R.RKN_WP_STEP]
  omega
theorem RKN_WP_CMP_ne_CFG (w x : Nat) : (R.RKN_WP_CMP w).addr ≠ (R.RKN_WP_CFG x).addr := by
  simp only [R.RKN_WP_CMP, R.RKN_WP_CFG]
  omega
theorem RKN_WP_CMP_ne_STEP (w x : Nat) : (R.RKN_WP_CMP w).addr ≠ (R.RKN_WP_STEP x).addr := by
  simp only [R.RKN_WP_CMP, R.RKN_WP_STEP]
  omega
theorem RKN_WP_STAT_ne_STAT {w x : Nat} (h : w ≠ x) : (R.RKN_WP_STAT w).addr ≠ (R.RKN_WP_STAT x).addr := by
  simp only [R.RKN_WP_STAT]
  omega
theorem RKN_WP_CMP_ne_CMP {w x : Nat} (h : w ≠ x) : (R.RKN_WP_CMP w).addr ≠ (R.RKN_WP_CMP x).addr := by
  simp only [R.RKN_WP_CMP]
  omega

theorem RKN_WP_STAT_window {w : Nat} (h : w < 128) : (R.RKN_WP_STAT w).addr / 0x10000 ≠ 0x4004 := by
  simp only [R.RKN_WP_STAT]
  omega
theorem RKN_WP_CMP_window {w : Nat} (h : w < 128) : (R.RKN_WP_CMP w).addr / 0x10000 ≠ 0x4004 := by
  simp only [R.RKN_WP_CMP]
  omega
theorem RKN_WP_CFG_window {w : Nat} (h : w < 128) : (R.RKN_WP_CFG w).addr / 0x10000 ≠ 0x4004 := by
  simp only [R.RKN_WP_CFG]
  omega

/-- What a firing of waypoint `w` can write (R75, R76, R81). -/
def firedRegs (w : Nat) : List Nat := (R.RKN_WP_STAT w).addr :: (R.RKN_WP_CMP w).addr :: R.RKN_FAULT.addr :: faultRegs

/-- No register outside the firing waypoint's own below 0x40012000 but RKN_FAULT is among them. -/
theorem not_mem_firedRegs {w a : Nat} (hs : a ≠ (R.RKN_WP_STAT w).addr) (hc : a ≠ (R.RKN_WP_CMP w).addr) (hf : a ≠ R.RKN_FAULT.addr) (ha : a < 0x40012000) :
    a ∉ firedRegs w := by
  simp only [firedRegs, faultRegs, R.FIX_FLTLAST, R.FIX_FLTCNT, R.BMB_STAT, R.PWR_NVMST, R.PWR_EVT, R.BMB_CNT, List.mem_cons, List.not_mem_nil, or_false, not_or]
  exact ⟨hs, hc, hf, by omega, by omega, by omega, by omega, by omega, by omega⟩

/-! ### The parts of a firing -/

/-- FIRED and COUNT, and the tick of the firing. -/
def Lane.wpMarked (L : Lane) (w : Nat) : Lane :=
  ((L.raise (R.RKN_WP_STAT w) F.RKN_WP_STAT_FIRED).setF (R.RKN_WP_STAT w) F.RKN_WP_STAT_COUNT
    (L.fld (R.RKN_WP_STAT w) F.RKN_WP_STAT_COUNT + 1)).updWp w fun x => { x with firedAt := L.ticks + 1 }

/-- The compare value one step on in a direction. -/
def Lane.wpNext (L : Lane) (w : Nat) (back : Bool) : Word :=
  if back then L.rd (R.RKN_WP_CMP w) - L.rd (R.RKN_WP_STEP w) else L.rd (R.RKN_WP_CMP w) + L.rd (R.RKN_WP_STEP w)
/-- How far the reckoner has passed that value. -/
def Lane.wpPast (L : Lane) (w : Nat) (back : Bool) : Int :=
  let d := (L.rknVal (L.wpRkn w) - L.wpNext w back).toInt
  if back then -d else d
/-- The steps skipped (R76). -/
def Lane.wpSkips (L : Lane) (w : Nat) (back adv : Bool) : Nat :=
  if adv ∧ L.wpRepeat w ∧ 0 ≤ L.wpPast w back then furtherSteps (L.wpPast w back).toNat (L.rd (R.RKN_WP_STEP w)).toNat else 0

/-- The advance or the end of the arming. -/
def Lane.wpMoved (L : Lane) (w : Nat) (adv : Bool) : Lane :=
  let back := L.wpBack w
  let k := L.wpSkips w back adv
  if L.wpRepeat w && !adv then L.wpMarked w
  else if L.wpRepeat w then
    ((L.wpMarked w).wr (R.RKN_WP_CMP w) (if back then L.wpNext w back - w32 k * L.rd (R.RKN_WP_STEP w) else L.wpNext w back + w32 k * L.rd (R.RKN_WP_STEP w))).setF
      (R.RKN_WP_STAT w) F.RKN_WP_STAT_SKIP (min 255 k)
  else (L.wpMarked w).setF (R.RKN_WP_STAT w) F.RKN_WP_STAT_ARMED 0

/-- The strict fault of R81. -/
def Lane.wpStrict (L : Lane) (w me : Nat) : Lane :=
  ((if L.on R.RKN_FAULT F.RKN_FAULT_STRICTF then L else L.setF R.RKN_FAULT F.RKN_FAULT_WPNUM w).raise R.RKN_FAULT F.RKN_FAULT_STRICTF).fault 1 me

/-- A late firing without the fault. -/
def Lane.wpLated (L : Lane) (w : Nat) (adv : Bool) : Lane := (L.wpMoved w adv).raise (R.RKN_WP_STAT w) F.RKN_WP_STAT_LATE

theorem Lane.wpRecord_eq (L : Lane) (w : Nat) (late adv : Bool) :
    L.wpRecord w late adv = if late || decide (0 < L.wpSkips w (L.wpBack w) adv) then
        (if F.RKN_WP_CFG_STRICT.on (L.wpCfg w) then (L.wpLated w adv).wpStrict w L.me else L.wpLated w adv)
      else L.wpMoved w adv := rfl

/-! ### What the parts leave -/

theorem Lane.rd_setF_same (L : Lane) (r : Reg) (f : Bf) (n : Nat) : (L.setF r f n).rd r = f.set (L.rd r) n := L.rd_wr_same r _
theorem Lane.rd_raise_same (L : Lane) (r : Reg) (f : Bf) : (L.raise r f).rd r = f.set (L.rd r) (2 ^ f.wid - 1) := L.rd_wr_same r _
theorem Lane.fld_raise_field (L : Lane) (r : Reg) {f g : Bf} (h : f.lo + f.wid ≤ g.lo ∨ g.lo + g.wid ≤ f.lo) : (L.raise r f).fld r g = L.fld r g :=
  L.fld_setF_field r _ h
@[simp] theorem Lane.rd_updWp (L : Lane) (w : Nat) (f : Wp → Wp) (r : Reg) : (L.updWp w f).rd r = L.rd r := rfl

section
variable {L : Lane} {w : Nat} (hw : w < 128)
include hw

theorem Lane.Records.wpMarked : Lane.Records [(R.RKN_WP_STAT w).addr] L (L.wpMarked w) :=
  (((Lane.Records.refl _ L).raise _ _ (List.mem_singleton_self _) (RKN_WP_STAT_window hw)).setF _ _ _ (List.mem_singleton_self _) (RKN_WP_STAT_window hw)).updWp _ _

theorem Lane.Records.wpMoved (adv : Bool) : Lane.Records [(R.RKN_WP_STAT w).addr, (R.RKN_WP_CMP w).addr] L (L.wpMoved w adv) := by
  have hm := (Lane.Records.wpMarked hw (L := L)).mono (qs := [(R.RKN_WP_STAT w).addr, (R.RKN_WP_CMP w).addr]) (by simp)
  unfold Lane.wpMoved
  dsimp only
  split
  · exact hm
  · split
    · exact (hm.wr _ _ (by simp) (RKN_WP_CMP_window hw)).setF _ _ _ (by simp) (RKN_WP_STAT_window hw)
    · exact hm.setF _ _ _ (by simp) (RKN_WP_STAT_window hw)

end

theorem Lane.Records.wpStrict (L : Lane) (w me : Nat) : Lane.Records (R.RKN_FAULT.addr :: faultRegs) L (L.wpStrict w me) := by
  refine Lane.Records.trans ?_ ((Lane.Records.fault _ 1 me).mono fun x hx => List.mem_cons_of_mem _ hx)
  refine Lane.Records.raise ?_ _ _ (by simp) (by decide)
  split
  · exact Lane.Records.refl _ L
  · exact (Lane.Records.refl _ L).setF _ _ _ (by simp) (by decide)

theorem Lane.Records.wpRecord {L : Lane} {w : Nat} (hw : w < 128) (late adv : Bool) : Lane.Records (firedRegs w) L (L.wpRecord w late adv) := by
  have hm := (Lane.Records.wpMoved hw adv (L := L)).mono (qs := firedRegs w) (by simp [firedRegs])
  have hl := hm.raise (R.RKN_WP_STAT w) F.RKN_WP_STAT_LATE (by simp [firedRegs]) (RKN_WP_STAT_window hw)
  rw [Lane.wpRecord_eq]
  split
  · split
    · exact hl.trans ((Lane.Records.wpStrict _ w L.me).mono fun _ hx => List.mem_cons_of_mem _ (List.mem_cons_of_mem _ hx))
    · exact hl
  · exact hm

end Sys2Proof.Machine
end

section
/-! SUPPORT. The status register and the compare value of a waypoint after a firing. -/

namespace Sys2Proof.Machine

theorem Lane.rd_wpMarked (L : Lane) (w : Nat) : (L.wpMarked w).rd (R.RKN_WP_STAT w) =
    F.RKN_WP_STAT_COUNT.set (F.RKN_WP_STAT_FIRED.set (L.rd (R.RKN_WP_STAT w)) 1) (L.fld (R.RKN_WP_STAT w) F.RKN_WP_STAT_COUNT + 1) := by
  simp only [Lane.wpMarked, Lane.rd_updWp, Lane.rd_setF_same, Lane.rd_raise_same]
  rfl

/-- A field of RKN_WP_STAT beside SKIP and ARMED is the one of the mark. -/
theorem Lane.get_STAT_wpMoved (L : Lane) (w : Nat) (adv : Bool) {g : Bf} (hs : F.RKN_WP_STAT_SKIP.lo + F.RKN_WP_STAT_SKIP.wid ≤ g.lo ∨ g.lo + g.wid ≤ F.RKN_WP_STAT_SKIP.lo)
    (ha : F.RKN_WP_STAT_ARMED.lo + F.RKN_WP_STAT_ARMED.wid ≤ g.lo ∨ g.lo + g.wid ≤ F.RKN_WP_STAT_ARMED.lo) :
    (L.wpMoved w adv).fld (R.RKN_WP_STAT w) g = (L.wpMarked w).fld (R.RKN_WP_STAT w) g := by
  unfold Lane.wpMoved
  dsimp only
  split
  · rfl
  · split
    · rw [Lane.fld_setF_field _ _ _ hs, Lane.fld, Lane.rd_wr_other _ _ (RKN_WP_STAT_ne_CMP w w), Lane.fld]
    · rw [Lane.fld_setF_field _ _ _ ha]

theorem Lane.fld_FIRED_wpMarked (L : Lane) (w : Nat) : (L.wpMarked w).fld (R.RKN_WP_STAT w) F.RKN_WP_STAT_FIRED = 1 := by
  simp (disch := decide) only [Lane.fld, Lane.rd_wpMarked, Bf.get_set_other, Bf.get_set_same]
  rfl
theorem Lane.fld_COUNT_wpMarked (L : Lane) (w : Nat) :
    (L.wpMarked w).fld (R.RKN_WP_STAT w) F.RKN_WP_STAT_COUNT = (L.fld (R.RKN_WP_STAT w) F.RKN_WP_STAT_COUNT + 1) % 65536 := by
  simp (disch := decide) only [Lane.fld, Lane.rd_wpMarked, Bf.get_set_same]
  rfl
/-- The other fields of RKN_WP_STAT keep what they hold. -/
theorem Lane.fld_wpMarked (L : Lane) (w : Nat) {g : Bf} (hf : F.RKN_WP_STAT_FIRED.lo + F.RKN_WP_STAT_FIRED.wid ≤ g.lo ∨ g.lo + g.wid ≤ F.RKN_WP_STAT_FIRED.lo)
    (hc : F.RKN_WP_STAT_COUNT.lo + F.RKN_WP_STAT_COUNT.wid ≤ g.lo ∨ g.lo + g.wid ≤ F.RKN_WP_STAT_COUNT.lo) :
    (L.wpMarked w).fld (R.RKN_WP_STAT w) g = L.fld (R.RKN_WP_STAT w) g := by
  rw [Lane.fld, Lane.rd_wpMarked, Bf.get_set_other _ _ _ _ hc, Bf.get_set_other _ _ _ _ hf, Lane.fld]

/-- A waypoint stays armed where it repeats. -/
theorem Lane.wpArmed_wpMoved (L : Lane) (w : Nat) (adv : Bool) : (L.wpMoved w adv).wpArmed w = (L.wpArmed w && L.wpRepeat w) := by
  have hm : (L.wpMarked w).wpArmed w = L.wpArmed w := congrArg (· != 0) (L.fld_wpMarked w (by decide) (by decide))
  unfold Lane.wpMoved
  dsimp only
  cases hr : L.wpRepeat w
  · simp only [Bool.false_and, Bool.false_eq_true, if_false, Bool.and_false]
    exact Lane.on_setF_zero _ _ _ (by decide)
  · cases adv
    · simpa using hm
    · simp only [Bool.not_true, Bool.and_false, Bool.false_eq_true, if_false, if_true, Bool.and_true]
      rw [← hm]
      exact (Lane.on_setF_field _ _ _ (by decide)).trans (Lane.on_wr_other _ _ _ (RKN_WP_STAT_ne_CMP w w))

theorem Lane.wp_wpMoved (L : Lane) (w : Nat) (adv : Bool) : (L.wpMoved w adv).wp = L.wp.upd w fun x => { x with firedAt := L.ticks + 1 } := by
  unfold Lane.wpMoved
  dsimp only
  split
  · rfl
  · split <;> rfl

/-! ### The record -/

section
variable {L : Lane} {w : Nat} (hw : w < 128) (late adv : Bool)
include hw

theorem Lane.rd_STAT_wpStrict (me : Nat) : (L.wpStrict w me).rd (R.RKN_WP_STAT w) = L.rd (R.RKN_WP_STAT w) := by
  refine (Lane.Records.wpStrict L w me).rd ?_
  simp only [faultRegs, R.RKN_FAULT, R.RKN_WP_STAT, R.FIX_FLTLAST, R.FIX_FLTCNT, R.BMB_STAT, R.PWR_NVMST, R.PWR_EVT, R.BMB_CNT, List.mem_cons, List.not_mem_nil, or_false]
  omega

/-- A field of RKN_WP_STAT beside LATE is the one of the advance. -/
theorem Lane.fld_STAT_wpRecord {g : Bf} (h : F.RKN_WP_STAT_LATE.lo + F.RKN_WP_STAT_LATE.wid ≤ g.lo ∨ g.lo + g.wid ≤ F.RKN_WP_STAT_LATE.lo) :
    (L.wpRecord w late adv).fld (R.RKN_WP_STAT w) g = (L.wpMoved w adv).fld (R.RKN_WP_STAT w) g := by
  have hl : (L.wpLated w adv).fld (R.RKN_WP_STAT w) g = (L.wpMoved w adv).fld (R.RKN_WP_STAT w) g :=
    (L.wpMoved w adv).fld_raise_field (R.RKN_WP_STAT w) h
  rw [Lane.wpRecord_eq]
  split
  · split
    · exact (congrArg g.get (Lane.rd_STAT_wpStrict hw L.me)).trans hl
    · exact hl
  · rfl

theorem Lane.on_FIRED_wpRecord : (L.wpRecord w late adv).on (R.RKN_WP_STAT w) F.RKN_WP_STAT_FIRED = true := by
  show ((L.wpRecord w late adv).fld (R.RKN_WP_STAT w) F.RKN_WP_STAT_FIRED != 0) = true
  rw [Lane.fld_STAT_wpRecord hw late adv (by decide), Lane.get_STAT_wpMoved L w adv (by decide) (by decide), Lane.fld_FIRED_wpMarked]
  rfl

theorem Lane.fld_COUNT_wpRecord :
    (L.wpRecord w late adv).fld (R.RKN_WP_STAT w) F.RKN_WP_STAT_COUNT = (L.fld (R.RKN_WP_STAT w) F.RKN_WP_STAT_COUNT + 1) % 65536 := by
  rw [Lane.fld_STAT_wpRecord hw late adv (by decide), Lane.get_STAT_wpMoved L w adv (by decide) (by decide), Lane.fld_COUNT_wpMarked]

theorem Lane.wpArmed_wpRecord : (L.wpRecord w late adv).wpArmed w = (L.wpArmed w && L.wpRepeat w) :=
  (congrArg (· != 0) (Lane.fld_STAT_wpRecord hw late adv (by decide))).trans (L.wpArmed_wpMoved w adv)

end

theorem Lane.wp_wpRecord (L : Lane) (w : Nat) (late adv : Bool) : (L.wpRecord w late adv).wp = L.wp.upd w fun x => { x with firedAt := L.ticks + 1 } := by
  rw [Lane.wpRecord_eq, ← L.wp_wpMoved w adv]
  split
  · split
    · unfold Lane.wpStrict
      rw [Lane.wp_fault, Lane.wp_raise]
      split <;> rfl
    · rfl
  · rfl

/-- A firing that is neither late nor skips a step records no strict fault. -/
theorem Lane.wpRecord_timely (L : Lane) {w : Nat} {late adv : Bool} (hl : late = false) (hk : L.wpSkips w (L.wpBack w) adv = 0) :
    L.wpRecord w late adv = L.wpMoved w adv := by
  rw [Lane.wpRecord_eq, hl, hk]
  rfl

/-- A firing whose advance is discarded (R74). -/
theorem Lane.wpRecord_kept (L : Lane) (w : Nat) : L.wpRecord w false false = L.wpMoved w false :=
  L.wpRecord_timely rfl (if_neg fun h => Bool.false_ne_true h.1)

end Sys2Proof.Machine
end

section
/-! SUPPORT. A firing as the spec words it, and a new arming. -/

namespace Sys2Proof.Machine

/-! ### A firing -/

theorem Lane.wpSkips_true (L : Lane) (w : Nat) (back : Bool) : L.wpSkips w back true =
    if L.wpRepeat w = true ∧ 0 ≤ L.wpPast w back then furtherSteps (L.wpPast w back).toNat (L.rd (R.RKN_WP_STEP w)).toNat else 0 :=
  if_congr (by simp) rfl rfl

theorem Lane.rd_CMP_wpRecord {L : Lane} {w : Nat} (hw : w < 128) (late adv : Bool) :
    (L.wpRecord w late adv).rd (R.RKN_WP_CMP w) = (L.wpMoved w adv).rd (R.RKN_WP_CMP w) := by
  have hl : (L.wpLated w adv).rd (R.RKN_WP_CMP w) = (L.wpMoved w adv).rd (R.RKN_WP_CMP w) := Lane.rd_raise_other _ _ (RKN_WP_STAT_ne_CMP w w).symm
  have hs : ((L.wpLated w adv).wpStrict w L.me).rd (R.RKN_WP_CMP w) = (L.wpLated w adv).rd (R.RKN_WP_CMP w) := by
    refine (Lane.Records.wpStrict (L.wpLated w adv) w L.me).rd ?_
    simp only [faultRegs, R.RKN_FAULT, R.RKN_WP_CMP, R.FIX_FLTLAST, R.FIX_FLTCNT, R.BMB_STAT, R.PWR_NVMST, R.PWR_EVT, R.BMB_CNT, List.mem_cons, List.not_mem_nil, or_false]
    omega
  rw [Lane.wpRecord_eq]
  split
  · split
    · exact hs.trans hl
    · exact hl
  · rfl

theorem Lane.wpMoved_once {L : Lane} {w : Nat} (adv : Bool) (hr : L.wpRepeat w = false) :
    L.wpMoved w adv = (L.wpMarked w).setF (R.RKN_WP_STAT w) F.RKN_WP_STAT_ARMED 0 := by simp [Lane.wpMoved, hr]

theorem Lane.wpMoved_repeat {L : Lane} {w : Nat} (hr : L.wpRepeat w = true) : L.wpMoved w true =
    ((L.wpMarked w).wr (R.RKN_WP_CMP w) (if L.wpBack w then L.wpNext w (L.wpBack w) - w32 (L.wpSkips w (L.wpBack w) true) * L.rd (R.RKN_WP_STEP w)
      else L.wpNext w (L.wpBack w) + w32 (L.wpSkips w (L.wpBack w) true) * L.rd (R.RKN_WP_STEP w))).setF
      (R.RKN_WP_STAT w) F.RKN_WP_STAT_SKIP (min 255 (L.wpSkips w (L.wpBack w) true)) := by simp [Lane.wpMoved, hr]

theorem Lane.rd_CMP_wpMarked {L : Lane} {w : Nat} (hw : w < 128) : (L.wpMarked w).rd (R.RKN_WP_CMP w) = L.rd (R.RKN_WP_CMP w) :=
  (Lane.Records.wpMarked hw (L := L)).rd (by simpa using (RKN_WP_STAT_ne_CMP w w).symm)

/-- A late firing with the strict fault or without. -/
theorem Lane.on_LATE_wpRecord {L : Lane} {w : Nat} (hw : w < 128) {late adv : Bool} (h : late = true ∨ 0 < L.wpSkips w (L.wpBack w) adv) :
    (L.wpRecord w late adv).on (R.RKN_WP_STAT w) F.RKN_WP_STAT_LATE = true
      ∧ (F.RKN_WP_CFG_STRICT.on (L.wpCfg w) = true → (L.wpRecord w late adv).on R.RKN_FAULT F.RKN_FAULT_STRICTF = true) := by
  have hl : (L.wpLated w adv).on (R.RKN_WP_STAT w) F.RKN_WP_STAT_LATE = true := Lane.on_raise_same _ _ _ (by decide) (by decide)
  have hf : ((L.wpLated w adv).wpStrict w L.me).on R.RKN_FAULT F.RKN_FAULT_STRICTF = true := by
    unfold Lane.wpStrict
    generalize (if (L.wpLated w adv).on R.RKN_FAULT F.RKN_FAULT_STRICTF = true then _ else _ : Lane) = X
    have hx : (X.raise R.RKN_FAULT F.RKN_FAULT_STRICTF).on R.RKN_FAULT F.RKN_FAULT_STRICTF = true := X.on_raise_same _ _ (by decide) (by decide)
    exact (congrArg F.RKN_FAULT_STRICTF.on ((Lane.Records.fault _ 1 L.me).rd (by decide))).trans hx
  rw [Lane.wpRecord_eq, if_pos (by simpa using h)]
  by_cases hs : F.RKN_WP_CFG_STRICT.on (L.wpCfg w) = true
  · rw [if_pos hs]
    exact ⟨(congrArg F.RKN_WP_STAT_LATE.on (Lane.rd_STAT_wpStrict hw L.me)).trans hl, fun _ => hf⟩
  · rw [if_neg hs]
    exact ⟨hl, fun h => absurd h hs⟩

theorem firesAs_iff (N M : Lane) (w : Nat) (back late : Bool) : firesAs N M w back late ↔
    M.on (R.RKN_WP_STAT w) F.RKN_WP_STAT_FIRED = true
      ∧ M.fld (R.RKN_WP_STAT w) F.RKN_WP_STAT_COUNT = (N.fld (R.RKN_WP_STAT w) F.RKN_WP_STAT_COUNT + 1) % 65536
      ∧ (N.wpRepeat w = false → M.rd (R.RKN_WP_CMP w) = N.rd (R.RKN_WP_CMP w))
      ∧ (N.wpRepeat w = true → M.rd (R.RKN_WP_CMP w) = (if back then N.wpNext w back - w32 (N.wpSkips w back true) * N.rd (R.RKN_WP_STEP w)
            else N.wpNext w back + w32 (N.wpSkips w back true) * N.rd (R.RKN_WP_STEP w))
          ∧ M.fld (R.RKN_WP_STAT w) F.RKN_WP_STAT_SKIP = min 255 (N.wpSkips w back true))
      ∧ (late = true ∨ 0 < N.wpSkips w back true → M.on (R.RKN_WP_STAT w) F.RKN_WP_STAT_LATE = true
          ∧ (F.RKN_WP_CFG_STRICT.on (N.wpCfg w) = true → M.on R.RKN_FAULT F.RKN_FAULT_STRICTF = true))
      ∧ (late = false → N.wpSkips w back true = 0 → M.on (R.RKN_WP_STAT w) F.RKN_WP_STAT_LATE = N.on (R.RKN_WP_STAT w) F.RKN_WP_STAT_LATE)
      ∧ (F.RKN_WP_CFG_STRICT.on (N.wpCfg w) = false ∨ (late = false ∧ N.wpSkips w back true = 0) →
          Lane.Frame [(R.RKN_WP_STAT w).addr, (R.RKN_WP_CMP w).addr] N M) := by
  rw [N.wpSkips_true w back]
  exact Iff.rfl

/-- The record of a firing without an action of its own says what R67, R75, R76 and R81 ask for. -/
theorem Lane.firesAs_wpRecord {L : Lane} {w : Nat} (hw : w < 128) (late : Bool) : firesAs L (L.wpRecord w late true) w (L.wpBack w) late := by
  have hm := Lane.Records.wpMoved hw true (L := L)
  refine (firesAs_iff _ _ _ _ _).mpr ⟨Lane.on_FIRED_wpRecord hw late true, Lane.fld_COUNT_wpRecord hw late true, fun hr => ?_, fun hr => ⟨?_, ?_⟩,
    Lane.on_LATE_wpRecord hw, fun hl hk => ?_, ?_⟩
  · rw [Lane.rd_CMP_wpRecord hw, Lane.wpMoved_once _ hr, Lane.rd_setF_other _ _ _ (RKN_WP_STAT_ne_CMP w w).symm, Lane.rd_CMP_wpMarked hw]
  · rw [Lane.rd_CMP_wpRecord hw, Lane.wpMoved_repeat hr, Lane.rd_setF_other _ _ _ (RKN_WP_STAT_ne_CMP w w).symm, Lane.rd_wr_same]
  · rw [Lane.fld_STAT_wpRecord hw late true (by decide), Lane.wpMoved_repeat hr, Lane.fld_setF_same _ _ _ _ (by decide)]
    exact Nat.mod_eq_of_lt (Nat.lt_of_le_of_lt (Nat.min_le_left 255 _) (by decide))
  · rw [L.wpRecord_timely hl hk]
    exact congrArg (· != 0) ((L.get_STAT_wpMoved w true (by decide) (by decide)).trans (L.fld_wpMarked w (by decide) (by decide)))
  · intro h
    rw [Lane.wpRecord_eq]
    split
    · next hlate =>
      obtain hs | ⟨hl, hk⟩ := h
      · rw [if_neg (by simp [hs])]
        exact (hm.raise _ _ (by simp) (RKN_WP_STAT_window hw)).frame
      · simp [hl, hk] at hlate
    · exact hm.frame

/-! ### Actions -/

/-- No action, and the interrupt, change nothing in the tick of the firing (R71, R90). -/
theorem Lane.wpAction_quiet {L : Lane} {w : Nat} (h : quietAction L w) : L.wpAction w = L := by
  unfold Lane.wpAction
  obtain h | h := h <;> simp only [h]

/-- What a firing writes leaves the configuration of every waypoint. -/
theorem Lane.wpCfg_wpRecord {L : Lane} {w : Nat} (hw : w < 128) (late adv : Bool) {x : Nat} (hx : x < 128) : (L.wpRecord w late adv).wpCfg x = L.wpCfg x := by
  refine (Lane.Records.wpRecord hw late adv).rd (not_mem_firedRegs (RKN_WP_STAT_ne_CFG w x).symm (RKN_WP_CMP_ne_CFG w x).symm ?_ ?_)
  · simp only [R.RKN_WP_CFG, R.RKN_FAULT]
    omega
  · simp only [R.RKN_WP_CFG]
    omega

theorem Lane.wpFire_single {L : Lane} {w : Nat} (hp : L.wpPair w = none) (late adv : Nat → Bool) :
    L.wpFire w late adv = (L.wpRecord w (late w) (adv w)).wpAction w := by
  unfold Lane.wpFire
  rw [hp]

theorem Lane.wpFire_quiet {L : Lane} {w : Nat} (hw : w < 128) (hp : L.wpPair w = none) (hq : quietAction L w) (late adv : Nat → Bool) :
    L.wpFire w late adv = L.wpRecord w (late w) (adv w) := by
  rw [Lane.wpFire_single hp, Lane.wpAction_quiet]
  rw [quietAction, Lane.wpCfg_wpRecord hw _ _ hw]
  exact hq

end Sys2Proof.Machine
end

section
/-! SUPPORT. A new arming of a waypoint (R66, R68, R69, R77, R78). -/

namespace Sys2Proof.Machine

/-! ### Lanes that waypoints cannot tell apart -/

/-- Every register, byte, reckoner and clock is the same, and what is kept beside the registers of the waypoints. -/
structure Lane.SameWay (L M : Lane) : Prop where
  records : Lane.Records [] L M
  wp : M.wp = L.wp

namespace Lane.SameWay
variable {L M : Lane} (h : Lane.SameWay L M) (w : Nat)
include h

theorem rd (r : Reg) : M.rd r = L.rd r := h.records.rd (List.not_mem_nil)
theorem rknVal (r : Nat) : M.rknVal r = L.rknVal r := h.records.rknVal r
theorem wpCfg : M.wpCfg w = L.wpCfg w := h.rd _
theorem wpRkn : M.wpRkn w = L.wpRkn w := congrArg F.RKN_WP_CFG_RKN.get (h.wpCfg w)
theorem wpRepeat : M.wpRepeat w = L.wpRepeat w := congrArg F.RKN_WP_CFG_REPEAT.on (h.wpCfg w)
theorem wpArmed : M.wpArmed w = L.wpArmed w := congrArg F.RKN_WP_STAT_ARMED.on (h.rd _)
theorem wpUnit : M.wpUnit = L.wpUnit := congrArg F.RKN_CTRL_ACTIVE.on (h.rd _)
theorem wpBack : M.wpBack w = L.wpBack w := by rw [Lane.wpBack, h.wp, Lane.wpBack]
theorem wpPair : M.wpPair w = L.wpPair w := by simp only [Lane.wpPair, h.wpCfg]
theorem wpD : M.wpD w = L.wpD w := by rw [Lane.wpD, h.rknVal, h.wpRkn, h.rd, Lane.wpD]
theorem wpBad : M.wpBad w = L.wpBad w := by simp only [Lane.wpBad, h.wpCfg, h.wpRkn, h.wpRepeat, h.rd]
theorem armDir_eq : armDir M w = armDir L w := by simp only [armDir, h.wpCfg, h.wpRkn, h.rd]
theorem armReached_iff : armReached M w ↔ armReached L w := by
  simp only [armReached, h.wpUnit, h.armDir_eq, h.wpD, Lane.on, h.rd]
theorem quietAction_iff : quietAction M w ↔ quietAction L w := by simp only [quietAction, h.wpCfg]
theorem wpNext (b : Bool) : M.wpNext w b = L.wpNext w b := by simp only [Lane.wpNext, h.rd]
theorem wpSkips (b : Bool) : M.wpSkips w b true = L.wpSkips w b true := by
  simp only [Lane.wpSkips, Lane.wpPast, h.rknVal, h.wpRkn, h.wpNext, h.wpRepeat, h.rd]
theorem frame {N : Lane} {rs : List Nat} (k : Lane.Frame rs M N) : Lane.Frame rs L N := (h.records.frame.mono (by simp)).trans k

/-- What such a lane fires as and is armed as. -/
theorem firesAs_of {N : Lane} {b late : Bool} (k : firesAs M N w b late) : firesAs L N w b late := by
  rw [firesAs_iff] at k ⊢
  simp only [h.wpSkips, h.wpNext, h.wpRepeat, h.wpCfg, h.rd, Lane.fld, Lane.on] at k ⊢
  obtain ⟨k1, k2, k3, k4, k5, k6, k7⟩ := k
  exact ⟨k1, k2, k3, k4, k5, k6, fun hs => h.frame (k7 hs)⟩

theorem armsAs_of {N : Lane} (k : armsAs M N w) : armsAs L N w := by
  unfold armsAs at k ⊢
  simp only [h.wpBad, h.wpPair, h.wpArmed, h.wpRepeat, h.wpUnit, h.armDir_eq, h.armReached_iff, h.quietAction_iff, h.wpD] at k ⊢
  obtain ⟨k1, k2, k3⟩ := k
  refine ⟨fun hb => ?_, fun hb hp => ⟨fun hn => ?_, fun hr hq => ?_⟩, fun hb x hp => ⟨fun ho => ?_, fun ho hr => ?_, fun ho hr hu => ?_⟩⟩
  · obtain ⟨h1, h2, h3⟩ := k1 hb
    exact ⟨h1, h2, h.frame h3⟩
  · obtain ⟨h1, h2, h3⟩ := (k2 hb hp).1 hn
    exact ⟨h1, h2, h.frame h3⟩
  · obtain ⟨h1, h2⟩ := (k2 hb hp).2 hr hq
    exact ⟨h.firesAs_of w h1, h2⟩
  · obtain ⟨h1, h2, h3⟩ := (k3 hb x hp).1 ho
    exact ⟨h1, h2, h.frame h3⟩
  · obtain ⟨h1, h2, h3, h4⟩ := (k3 hb x hp).2.1 ho hr
    exact ⟨h1, h2, h3, h.frame h4⟩
  · obtain ⟨h1, h2, h3⟩ := (k3 hb x hp).2.2 ho hr hu
    exact ⟨h1, h2, h.frame h3⟩

end Lane.SameWay

/-! ### The arming -/

/-- An armed waypoint that waits, with its direction (R66). -/
def Lane.wpAwaits (L : Lane) (w : Nat) : Lane :=
  (L.setF (R.RKN_WP_STAT w) F.RKN_WP_STAT_ARMED 1).updWp w fun x => { x with back := armDir L w, skip := false }

theorem Lane.wpArm_bad {L : Lane} {w : Nat} (h : L.wpBad w = true) :
    L.wpArm w = (L.setF (R.RKN_WP_STAT w) F.RKN_WP_STAT_ARMED 0).raise (R.RKN_WP_STAT w) F.RKN_WP_STAT_CFG_ERR := by
  unfold Lane.wpArm
  rw [if_pos h]

/-- The other waypoints of the configuration are not concerned. -/
theorem Lane.Records.wpAwaits {L : Lane} {w : Nat} (hw : w < 128) : Lane.Records [(R.RKN_WP_STAT w).addr] L (L.wpAwaits w) :=
  ((Lane.Records.refl _ L).setF _ _ _ (List.mem_singleton_self _) (RKN_WP_STAT_window hw)).updWp _ _

theorem Lane.wpCfg_wpAwaits (L : Lane) (w x : Nat) : (L.wpAwaits w).wpCfg x = L.wpCfg x := Lane.rd_setF_other _ _ _ (RKN_WP_STAT_ne_CFG w x).symm
theorem Lane.wpPair_wpAwaits (L : Lane) (w x : Nat) : (L.wpAwaits w).wpPair x = L.wpPair x := by simp only [Lane.wpPair, L.wpCfg_wpAwaits]
theorem Lane.wpRepeat_wpAwaits (L : Lane) (w x : Nat) : (L.wpAwaits w).wpRepeat x = L.wpRepeat x := by simp only [Lane.wpRepeat, L.wpCfg_wpAwaits]
theorem Lane.wpArmed_wpAwaits (L : Lane) (w : Nat) : (L.wpAwaits w).wpArmed w = true :=
  congrArg (· != 0) (Lane.fld_setF_same L (R.RKN_WP_STAT w) F.RKN_WP_STAT_ARMED 1 (by decide))
theorem Lane.wpArmed_wpAwaits_other (L : Lane) {w x : Nat} (h : x ≠ w) : (L.wpAwaits w).wpArmed x = L.wpArmed x :=
  L.on_setF_other _ _ _ (RKN_WP_STAT_ne_STAT h)
theorem Lane.wpBack_wpAwaits (L : Lane) (w : Nat) : (L.wpAwaits w).wpBack w = armDir L w := by
  rw [Lane.wpBack, Lane.wpAwaits, Lane.wp_updWp, Tab.at_upd_same]
theorem Lane.wpUnit_wpAwaits (L : Lane) (w : Nat) : (L.wpAwaits w).wpUnit = L.wpUnit := by
  refine L.on_setF_other _ _ _ ?_
  simp only [R.RKN_CTRL, R.RKN_WP_STAT]
  omega
theorem Lane.wpD_wpAwaits {L : Lane} {w : Nat} (hw : w < 128) (x : Nat) : (L.wpAwaits w).wpD x = L.wpD x := by
  rw [Lane.wpD, Lane.wpRkn, L.wpCfg_wpAwaits, (Lane.Records.wpAwaits hw).rknVal, (Lane.Records.wpAwaits hw).rd (by simpa using (RKN_WP_STAT_ne_CMP w x).symm)]
  rfl
theorem Lane.halted_wpAwaits {L : Lane} {w : Nat} (hw : w < 128) : (L.wpAwaits w).on R.FIX_DBG F.FIX_DBG_HALTED = L.on R.FIX_DBG F.FIX_DBG_HALTED := by
  refine L.on_setF_other _ _ _ ?_
  simp only [R.FIX_DBG, R.RKN_WP_STAT]
  omega

/-- Armed alone, a waypoint is due where its compare value does not lie ahead (R68). -/
theorem Lane.wpDue_wpAwaits {L : Lane} {w : Nat} (hw : w < 128) (hp : L.wpPair w = none) : (L.wpAwaits w).wpDue w = true ↔ armReached L w := by
  have hskip : ((L.wpAwaits w).wp.at w).skip = false := by rw [Lane.wpAwaits, Lane.wp_updWp, Tab.at_upd_same]
  simp only [Lane.wpDue, Lane.wpHeld, Lane.wpReached, L.wpUnit_wpAwaits, Lane.halted_wpAwaits hw, L.wpArmed_wpAwaits, L.wpPair_wpAwaits, hp, hskip, L.wpBack_wpAwaits,
    Lane.wpD_wpAwaits hw, armReached]
  cases armDir L w <;> simp [and_assoc]

/-- A check of one waypoint without a pair. -/
theorem Lane.wpCheck_single {L : Lane} {w : Nat} (hp : L.wpPair w = none) (late : Lane → Nat → Bool) :
    L.wpCheck [w] late = if L.wpDue w then L.wpFire w (fun x => [w].contains x && late L x) (fun _ => true) else L := by
  unfold Lane.wpCheck
  by_cases h : L.wpDue w = true
  · simp [h, hp]
  · simp [h]

theorem Lane.wpArm_good {L : Lane} {w : Nat} (hb : L.wpBad w = false) : L.wpArm w =
    match (L.wpAwaits w).wpPair w with
    | none => (L.wpAwaits w).wpCheck [w] Lane.wpBehind
    | some k =>
      if !(L.wpAwaits w).wpArmed (wpOther w) then L.wpAwaits w
      else if !(L.wpAwaits w).wpRepeat k || !(L.wpAwaits w).wpRepeat (k + 1) then
        (((L.wpAwaits w).setF (R.RKN_WP_STAT k) F.RKN_WP_STAT_ARMED 0).setF (R.RKN_WP_STAT (k + 1)) F.RKN_WP_STAT_ARMED 0).raise (R.RKN_WP_STAT k)
          F.RKN_WP_STAT_CFG_ERR
      else (L.wpAwaits w).wpCheck (if L.wpArmed w then [w] else [k, k + 1]) Lane.wpBehind := if_neg (by simp [hb])

theorem Lane.wpArm_single {L : Lane} {w : Nat} (hb : L.wpBad w = false) (hp : L.wpPair w = none) :
    L.wpArm w = (L.wpAwaits w).wpCheck [w] Lane.wpBehind := by
  rw [Lane.wpArm_good hb, L.wpPair_wpAwaits, hp]

theorem Lane.wpArm_pair {L : Lane} {w k : Nat} (hb : L.wpBad w = false) (hp : L.wpPair w = some k) :
    L.wpArm w = if !(L.wpAwaits w).wpArmed (wpOther w) then L.wpAwaits w
      else if !(L.wpAwaits w).wpRepeat k || !(L.wpAwaits w).wpRepeat (k + 1) then
        (((L.wpAwaits w).setF (R.RKN_WP_STAT k) F.RKN_WP_STAT_ARMED 0).setF (R.RKN_WP_STAT (k + 1)) F.RKN_WP_STAT_ARMED 0).raise (R.RKN_WP_STAT k)
          F.RKN_WP_STAT_CFG_ERR
      else (L.wpAwaits w).wpCheck (if L.wpArmed w then [w] else [k, k + 1]) Lane.wpBehind := by
  rw [Lane.wpArm_good hb, L.wpPair_wpAwaits, hp]

end Sys2Proof.Machine
end

section
/-! A new arming as the spec words it. -/

namespace Sys2Proof.Machine

theorem Lane.wpPair_eq {L : Lane} {w k : Nat} (h : L.wpPair w = some k) : k = w - w % 2 := by
  unfold Lane.wpPair at h
  dsimp only at h
  split at h
  · exact (Option.some.inj h).symm
  · cases h

theorem Lane.wpNext_wpAwaits (L : Lane) (w : Nat) (b : Bool) (hw : w < 128) : (L.wpAwaits w).wpNext w b = L.wpNext w b := by
  have hr := Lane.Records.wpAwaits hw (L := L)
  rw [Lane.wpNext, hr.rd (by simpa using (RKN_WP_STAT_ne_CMP w w).symm), hr.rd (by simpa using (RKN_WP_STAT_ne_STEP w w).symm), Lane.wpNext]

theorem Lane.wpSkips_wpAwaits (L : Lane) (w : Nat) (b : Bool) (hw : w < 128) : (L.wpAwaits w).wpSkips w b true = L.wpSkips w b true := by
  have hr := Lane.Records.wpAwaits hw (L := L)
  have hp : (L.wpAwaits w).wpPast w b = L.wpPast w b := by
    simp only [Lane.wpPast, hr.rknVal, Lane.wpRkn, L.wpCfg_wpAwaits, L.wpNext_wpAwaits w b hw]
  simp only [Lane.wpSkips, hp, L.wpRepeat_wpAwaits, hr.rd (r := R.RKN_WP_STEP w) (by simpa using (RKN_WP_STAT_ne_STEP w w).symm)]

/-- A firing in the tick of the arming is one of the lane before it. -/
theorem firesAs_of_wpAwaits {L M : Lane} {w : Nat} {b late : Bool} (hw : w < 128) (h : firesAs (L.wpAwaits w) M w b late) : firesAs L M w b late := by
  have hr := Lane.Records.wpAwaits hw (L := L)
  have hc : (L.wpAwaits w).fld (R.RKN_WP_STAT w) F.RKN_WP_STAT_COUNT = L.fld (R.RKN_WP_STAT w) F.RKN_WP_STAT_COUNT := L.fld_setF_field _ _ (by decide)
  have hl : (L.wpAwaits w).on (R.RKN_WP_STAT w) F.RKN_WP_STAT_LATE = L.on (R.RKN_WP_STAT w) F.RKN_WP_STAT_LATE := L.on_setF_field _ _ (by decide)
  rw [firesAs_iff] at h ⊢
  rw [hc, hl, L.wpRepeat_wpAwaits, L.wpSkips_wpAwaits w b hw, L.wpNext_wpAwaits w b hw, L.wpCfg_wpAwaits,
    hr.rd (r := R.RKN_WP_CMP w) (by simpa using (RKN_WP_STAT_ne_CMP w w).symm), hr.rd (r := R.RKN_WP_STEP w) (by simpa using (RKN_WP_STAT_ne_STEP w w).symm)] at h
  obtain ⟨h1, h2, h3, h4, h5, h6, h7⟩ := h
  exact ⟨h1, h2, h3, h4, h5, h6, fun hs => (hr.frame.mono (by simp)).trans (h7 hs)⟩

/-- No waypoint of an inactive unit fires. -/
theorem Lane.wpCheck_inactive {L : Lane} (h : L.wpUnit = false) (ws : List Nat) (late : Lane → Nat → Bool) : L.wpCheck ws late = L := by
  have hd : ws.filter L.wpDue = [] := List.filter_eq_nil_iff.mpr fun x _ => by simp [Lane.wpDue, h]
  simp only [Lane.wpCheck, hd, List.foldl_nil]

section
variable {L : Lane} {w : Nat} (hw : w < 128)
include hw

theorem Lane.wpArm_refused (hb : L.wpBad w = true) :
    (L.wpArm w).wpArmed w = false ∧ (L.wpArm w).on (R.RKN_WP_STAT w) F.RKN_WP_STAT_CFG_ERR = true ∧ Lane.Frame [(R.RKN_WP_STAT w).addr] L (L.wpArm w) := by
  rw [Lane.wpArm_bad hb]
  exact ⟨(Lane.on_raise_field _ _ (by decide)).trans (L.on_setF_zero _ _ (by decide)), Lane.on_raise_same _ _ _ (by decide) (by decide),
    (((Lane.Records.refl _ L).setF _ _ _ (List.mem_singleton_self _) (RKN_WP_STAT_window hw)).raise _ _ (List.mem_singleton_self _) (RKN_WP_STAT_window hw)).frame⟩

/-- The state of a waypoint that waits. -/
theorem Lane.wpAwaits_state :
    (L.wpAwaits w).wpArmed w = true ∧ (L.wpAwaits w).wpBack w = armDir L w ∧ Lane.Frame [(R.RKN_WP_STAT w).addr] L (L.wpAwaits w) :=
  ⟨L.wpArmed_wpAwaits w, L.wpBack_wpAwaits w, (Lane.Records.wpAwaits hw).frame⟩

theorem Lane.wpArm_ahead (hb : L.wpBad w = false) (hp : L.wpPair w = none) (hn : ¬armReached L w) : L.wpArm w = L.wpAwaits w := by
  rw [Lane.wpArm_single hb hp, Lane.wpCheck_single ((L.wpPair_wpAwaits w w).trans hp), if_neg (mt (Lane.wpDue_wpAwaits hw hp).mp hn)]

theorem Lane.wpArm_reached (hb : L.wpBad w = false) (hp : L.wpPair w = none) (hr : armReached L w) (hq : quietAction L w) :
    L.wpArm w = (L.wpAwaits w).wpRecord w (decide (L.wpD w ≠ 0)) true := by
  have hp' := (L.wpPair_wpAwaits w w).trans hp
  have hq' : quietAction (L.wpAwaits w) w := by rwa [quietAction, L.wpCfg_wpAwaits]
  rw [Lane.wpArm_single hb hp, Lane.wpCheck_single hp', if_pos ((Lane.wpDue_wpAwaits hw hp).mpr hr), Lane.wpFire_quiet hw hp' hq']
  simp [Lane.wpBehind, Lane.wpD_wpAwaits hw]

theorem Lane.wpArm_pair_refused {k : Nat} (hb : L.wpBad w = false) (hp : L.wpPair w = some k) (ho : L.wpArmed (wpOther w) = true)
    (hr : (L.wpRepeat k && L.wpRepeat (k + 1)) = false) :
    (L.wpArm w).wpArmed k = false ∧ (L.wpArm w).wpArmed (k + 1) = false ∧ (L.wpArm w).on (R.RKN_WP_STAT k) F.RKN_WP_STAT_CFG_ERR = true
      ∧ Lane.Frame [(R.RKN_WP_STAT k).addr, (R.RKN_WP_STAT (k + 1)).addr] L (L.wpArm w) := by
  have hk := Lane.wpPair_eq hp
  have hne : wpOther w ≠ w := by unfold wpOther; split <;> omega
  have hkk : (R.RKN_WP_STAT (k + 1)).addr ≠ (R.RKN_WP_STAT k).addr := RKN_WP_STAT_ne_STAT (by omega)
  have hmem : (R.RKN_WP_STAT w).addr ∈ [(R.RKN_WP_STAT k).addr, (R.RKN_WP_STAT (k + 1)).addr] := by
    obtain rfl | rfl : w = k ∨ w = k + 1 := by omega
    · exact List.mem_cons_self
    · exact List.mem_cons_of_mem _ List.mem_cons_self
  rw [Lane.wpArm_pair hb hp, L.wpArmed_wpAwaits_other hne, ho, if_neg (by simp), L.wpRepeat_wpAwaits, L.wpRepeat_wpAwaits, ← Bool.not_and, hr, if_pos (by simp)]
  refine ⟨?_, ?_, Lane.on_raise_same _ _ _ (by decide) (by decide), ?_⟩
  · exact (Lane.on_raise_field _ _ (by decide)).trans ((Lane.on_setF_other _ _ _ _ hkk.symm).trans (Lane.on_setF_zero _ _ _ (by decide)))
  · exact (Lane.on_raise_other _ _ _ hkk).trans (Lane.on_setF_zero _ _ _ (by decide))
  · have h0 := (Lane.Records.wpAwaits hw (L := L)).mono (qs := [(R.RKN_WP_STAT k).addr, (R.RKN_WP_STAT (k + 1)).addr]) (by simpa using hmem)
    exact (((h0.setF _ _ _ (by simp) (RKN_WP_STAT_window (by omega))).setF _ _ _ (by simp) (RKN_WP_STAT_window (by omega))).raise _ _ (by simp)
      (RKN_WP_STAT_window (by omega))).frame

theorem armsAs_wpArm : armsAs L (L.wpArm w) w := by
  refine ⟨Lane.wpArm_refused hw, fun hb hp => ⟨fun hn => ?_, fun hr hq => ?_⟩, fun hb k hp => ⟨fun ho => ?_, Lane.wpArm_pair_refused hw hb hp, fun ho hr hu => ?_⟩⟩
  · rw [Lane.wpArm_ahead hw hb hp hn]
    exact Lane.wpAwaits_state hw
  · rw [Lane.wpArm_reached hw hb hp hr hq]
    have hf := Lane.firesAs_wpRecord hw (decide (L.wpD w ≠ 0)) (L := L.wpAwaits w)
    rw [L.wpBack_wpAwaits] at hf
    refine ⟨firesAs_of_wpAwaits hw hf, ?_⟩
    rw [Lane.wpArmed_wpRecord hw, L.wpArmed_wpAwaits, L.wpRepeat_wpAwaits, Bool.true_and]
  · have hne : wpOther w ≠ w := by unfold wpOther; split <;> omega
    rw [Lane.wpArm_pair hb hp, L.wpArmed_wpAwaits_other hne, ho, if_pos (by simp)]
    exact Lane.wpAwaits_state hw
  · have hne : wpOther w ≠ w := by unfold wpOther; split <;> omega
    rw [Lane.wpArm_pair hb hp, L.wpArmed_wpAwaits_other hne, ho, if_neg (by simp), L.wpRepeat_wpAwaits, L.wpRepeat_wpAwaits, ← Bool.not_and, hr, if_neg (by simp),
      Lane.wpCheck_inactive ((L.wpUnit_wpAwaits w).trans hu)]
    exact Lane.wpAwaits_state hw

end

end Sys2Proof.Machine
end

section
/-! SUPPORT. Register writes that can leave a Helm Net disable to settle (R48, R430). -/

namespace Sys2Proof.Machine

/-- The lane after a command whose part of the step left `N`: a disable of Helm Net that waits then may settle at once. -/
def Lane.Settles (N M : Lane) : Prop :=
  M = { N with outP := [], outR := [] } ∨ N.hn.closing = true ∧ M = Lane.hnClosed { N with outP := [], outR := [] }

theorem Lane.Settles.eq {N M : Lane} (h : Lane.Settles N M) (hc : N.hn.closing = false) : M = { N with outP := [], outR := [] } := by
  obtain h | ⟨h, -⟩ := h
  · exact h
  · rw [hc] at h
    cases h

/-- The registers of Helm Net that a settled disable shows in. -/
def settleRegs : List Nat := [R.HNET_STAT.addr, R.HNET_EVT.addr, R.RKN_GT.addr, R.HNET_CTRL.addr, R.HNET_PATH.addr]

theorem Lane.RegsBut.mono {rs qs : List Nat} {L M : Lane} (h : Lane.RegsBut rs L M) (hs : ∀ x ∈ rs, x ∈ qs) : Lane.RegsBut qs L M :=
  fun r hr => h r fun hm => hr (hs _ hm)

theorem Lane.RegsBut.setFIn {rs : List Nat} {L M : Lane} (h : Lane.RegsBut rs L M) (r : Reg) (f : Bf) (n : Nat) (hr : r.addr ∈ rs) : Lane.RegsBut rs L (M.setF r f n) :=
  h.trans ((Lane.RegsBut.setF M r f n).mono (by simpa using hr))
theorem Lane.RegsBut.raiseIn {rs : List Nat} {L M : Lane} (h : Lane.RegsBut rs L M) (r : Reg) (f : Bf) (hr : r.addr ∈ rs) : Lane.RegsBut rs L (M.raise r f) :=
  h.trans ((Lane.RegsBut.raise M r f).mono (by simpa using hr))
theorem Lane.RegsBut.updHn {rs : List Nat} {L M : Lane} (h : Lane.RegsBut rs L M) (f : Hn → Hn) : Lane.RegsBut rs L (M.updHn f) := fun r hr => h r hr

theorem Lane.RegsBut.setSyn {L M : Lane} (h : Lane.RegsBut settleRegs L M) (n : Nat) : Lane.RegsBut settleRegs L (M.setSyn n) := by
  unfold Lane.setSyn
  split
  · exact h
  · have h1 : Lane.RegsBut settleRegs L ((M.setF R.HNET_STAT F.HNET_STAT_SYNST n).raise R.HNET_EVT F.HNET_EVT_STCHG) :=
      (h.setFIn R.HNET_STAT _ _ (by decide)).raiseIn R.HNET_EVT _ (by decide)
    generalize (M.setF R.HNET_STAT F.HNET_STAT_SYNST n).raise R.HNET_EVT F.HNET_EVT_STCHG = X at h1 ⊢
    have h2 : Lane.RegsBut settleRegs L (if n = 5 then X.raise R.HNET_EVT F.HNET_EVT_PASSEV else X) := by
      split
      · exact h1.raiseIn R.HNET_EVT _ (by decide)
      · exact h1
    have h3 := h2.setFIn R.RKN_GT F.RKN_GT_GT_VALID (b2n (decide (n = 4 ∨ n = 5))) (by decide)
    dsimp only
    split
    · exact h3.updHn _
    · exact (h3.setFIn R.HNET_STAT _ _ (by decide)).updHn _

theorem Lane.RegsBut.hnEnable {L M : Lane} (h : Lane.RegsBut settleRegs L M) : Lane.RegsBut settleRegs L M.hnEnable := by
  unfold Lane.hnEnable
  dsimp only
  split
  · exact ((h.setFIn R.HNET_STAT _ _ (by decide)).setFIn R.HNET_STAT _ _ (by decide)).raiseIn R.HNET_EVT _ (by decide)
  · exact ((((h.setFIn R.HNET_CTRL _ _ (by decide)).setFIn R.HNET_STAT _ _ (by decide)).updHn _).setFIn R.HNET_PATH _ _ (by decide)).setSyn 1

theorem Lane.RegsBut.hnOff {L M : Lane} (h : Lane.RegsBut settleRegs L M) : Lane.RegsBut settleRegs L M.hnOff :=
  ((h.setSyn 0).setFIn R.HNET_CTRL _ _ (by decide)).updHn _

theorem Lane.RegsBut.hnClosed (L : Lane) : Lane.RegsBut settleRegs L L.hnClosed := by
  have h : Lane.RegsBut settleRegs L L.hnOff := Lane.RegsBut.hnOff fun _ _ => rfl
  unfold Lane.hnClosed
  split
  · exact h.hnEnable
  · exact h

/-- A settled disable leaves the registers of the other blocks. -/
theorem Lane.Settles.rd {N M : Lane} (h : Lane.Settles N M) {r : Reg} (hr : r.addr ∉ settleRegs) : M.rd r = N.rd r := by
  obtain rfl | ⟨-, rfl⟩ := h
  · rfl
  · exact Lane.RegsBut.hnClosed { N with outP := [], outR := [] } r hr

theorem State.lane_helmSettle (s : State) (l : LaneId) : s.helmSettle.lane l = s.lane l ∨ (s.lane l).hn.closing = true ∧ s.helmSettle.lane l = (s.lane l).hnClosed := by
  unfold State.helmSettle
  split
  · exact .inl rfl
  · rw [State.lane_onLanes]
    split
    · next h => exact .inr ⟨h, rfl⟩
    · exact .inl rfl

theorem State.LanesOnly.helmSettle (s : State) : s.LanesOnly s.helmSettle := by
  unfold State.helmSettle
  split
  · exact State.LanesOnly.refl s
  · exact ⟨rfl, rfl, rfl, rfl, Die.LinksOnly.refl _, Die.LinksOnly.refl _, Die.LinksOnly.refl _, Die.LinksOnly.refl _⟩

/-- A register write in a quiet device, whatever its block does. -/
theorem RunsLane.of_write_settled {i : Instr} {s : State} {l : LaneId} {r : Reg} {v : Word} {Q : Lane → Lane → Prop} (he : exec i s = s.write l r v)
    (hq : s.Quiet) (ha : r.addr ≠ R.BMB_INCTL.addr) (hQ : ∀ M, Lane.Settles ((s.lane l).busWrite .word r.addr v) M → Q (s.lane l) M) : RunsLane i s l Q := by
  have hh : (s.run l fun L => L.busWrite .word r.addr v).hearAnswer (s.lane l) .word r.addr v = s.run l fun L => L.busWrite .word r.addr v := by
    unfold State.hearAnswer
    split
    · simp [ha]
    · rfl
  have he' : exec i s = .next (s.run l fun L => L.busWrite .word r.addr v).helmSettle := by
    rw [he, State.write, State.busWrite, hh]
  obtain ⟨hl, ho⟩ := State.LaneOnly.run s l fun L => L.busWrite .word r.addr v
  refine ⟨_, he', ⟨hl.trans (State.LanesOnly.helmSettle _), fun k hk => ?_⟩, hQ _ ?_⟩
  · obtain h | ⟨h, -⟩ := State.lane_helmSettle (s.run l fun L => L.busWrite .word r.addr v) k
    · rw [h, ho k hk]
    · rw [ho k hk, hq k] at h
      cases h
  · obtain h | ⟨hc, h⟩ := State.lane_helmSettle (s.run l fun L => L.busWrite .word r.addr v) l
    · exact .inl (h.trans (State.lane_run_same s l _))
    · rw [State.lane_run_same] at hc h
      exact .inr ⟨hc, h⟩

end Sys2Proof.Machine
end

section
/-! SUPPORT. Writes of RKN_WP_CFG and RKN_WP_CMP (R66, R73, R74). -/

namespace Sys2Proof.Machine

/-! ### A register after two writes, whatever value it resets to -/

theorem look_put_any {α : Type} [DecidableEq α] (t : Tab α) (k : Nat) (v d d' : α) : look (put t k v d) k d' = if v = d then d' else v := by
  unfold put
  split
  · exact look_del_same t k d'
  · exact look_ins_del t k v d'

theorem Lane.rd_wr_any (L : Lane) (r q : Reg) (v : Word) : (L.wr r v).rd q = if q.addr = r.addr then (if v = r.rst then q.rst else v) else L.rd q := by
  by_cases h : q.addr = r.addr
  · rw [if_pos h, Lane.rd, Lane.wr, h]
    exact look_put_any L.regs r.addr v r.rst q.rst
  · rw [if_neg h, L.rd_wr_other v h]

/-- The last value written to a register counts. -/
theorem Lane.rd_wr_wr (L : Lane) (r q : Reg) (u v : Word) : ((L.wr r u).wr r v).rd q = (L.wr r v).rd q := by
  rw [Lane.rd_wr_any, Lane.rd_wr_any L r q v]
  split
  · rfl
  · next h => exact L.rd_wr_other u h

/-- A write of one value in two lanes leaves what they have in common. -/
theorem Lane.Records.wrBoth {rs : List Nat} {L M : Lane} (h : Lane.Records rs L M) (r : Reg) (v : Word) (hw : r.addr / 0x10000 ≠ 0x4004) :
    Lane.Records rs (L.wr r v) (M.wr r v) := by
  have hb : ∀ X : Lane, Lane.BytesSame X (X.wr r v) := fun X => (Lane.Frame.wr X v (AX_BANK_ne_of_window hw)).2
  refine ⟨⟨fun q hq => ?_, fun a => ?_, fun a => h.frame.2.2 a⟩, h.rkn, h.gt, h.ticks, h.trav, h.hn⟩
  · rw [Lane.rd_wr_any, Lane.rd_wr_any, h.rd hq]
  · rw [(hb M).1, h.frame.2.1, (hb L).1]

/-- What a write of a register without a rule of its own stores. -/
theorem Lane.regs_storedIn (L : Lane) {row : RegRow} {r : Reg} (v : Word) (hs : storeSpecial r.addr = false) (hc : row.w1c = 0)
    (hr : r.rst = w32 row.reset) : (L.storedIn row r.addr v).regs = (L.wr r (L.taken r (w32 (row.rw ||| row.rwl)) v)).regs := by
  rw [Lane.wr, hr]
  exact congrArg (fun x => put L.regs r.addr x (w32 row.reset)) (Reg.stored_plain v hs hc hr)

/-! ### The configuration -/

/-- The row of RKN_WP_CFG. -/
def wpCfgRow : RegRow := ⟨0x40011000, 128, 0x20, 1, 0x4, 0x0, 0x70F3F, 0x0, 0x0, 0x0, false⟩

/-- RKN_WP_CFG once a write is stored, before the waypoint is armed or disarmed. -/
def Lane.wpStored (L : Lane) (w : Nat) (v : Word) : Lane :=
  if w % 2 = 1 then (L.storedIn wpCfgRow (R.RKN_WP_CFG w).addr v).setF (R.RKN_WP_CFG w) F.RKN_WP_CFG_PAIR 0 else L.storedIn wpCfgRow (R.RKN_WP_CFG w).addr v

/-- The lane with the register written is the one that the arming finds. -/
theorem sameWay_wpStored (L : Lane) (w : Fin 128) (v : Word) : Lane.SameWay (L.wr (R.RKN_WP_CFG w) (cfgWord L w v)) (L.wpStored w v) := by
  have hs : ∀ w : Fin 128, storeSpecial (R.RKN_WP_CFG w).addr = false := by decide +kernel
  have hr : (L.storedIn wpCfgRow (R.RKN_WP_CFG w).addr v).regs = (L.wr (R.RKN_WP_CFG w) (L.taken (R.RKN_WP_CFG w) 0x70F3F v)).regs :=
    L.regs_storedIn v (hs w) rfl rfl
  have hrd : ∀ q, (L.storedIn wpCfgRow (R.RKN_WP_CFG w).addr v).rd q = (L.wr (R.RKN_WP_CFG w) (L.taken (R.RKN_WP_CFG w) 0x70F3F v)).rd q := Lane.rd_congr hr
  have hq : ∀ q, (L.wpStored w v).rd q = (L.wr (R.RKN_WP_CFG w) (cfgWord L w v)).rd q := by
    intro q
    unfold Lane.wpStored cfgWord
    dsimp only
    split
    · rw [Lane.setF, hrd, Lane.rd_wr_same, Lane.rd_wr_any, Lane.rd_wr_any]
      split
      · rfl
      · next h => rw [hrd, L.rd_wr_other _ h]
    · exact hrd q
  refine ⟨⟨⟨fun q _ => hq q, Lane.byte_of ?_ fun x _ => hq _, Lane.flashByte_of ?_⟩, ?_, ?_, ?_, ?_, ?_⟩, ?_⟩ <;>
  · unfold Lane.wpStored
    split <;> rfl

theorem wpCfg_facts (w : Fin 128) : (R.RKN_WP_CFG w).addr / 0x10000 = 0x4001 ∧ (R.RKN_WP_CFG w).addr ≠ R.RKN_CTRL.addr ∧ (R.RKN_WP_CFG w).addr ≠ R.RKN_FAULT.addr
    ∧ idxOf (R.RKN_WP_CFG w).addr (R.RKN_WP_CFG 0) 0x20 128 = some w.val ∧ idxOf (R.RKN_WP_CFG w).addr (R.RKN_WP_CMP 0) 0x20 128 = none
    ∧ refSpecial (R.RKN_WP_CFG w).addr = false := by
  revert w
  decide +kernel

/-- A write of RKN_WP_CFG (R66, R73): the lane before it, as the waypoint finds it. -/
def Lane.wpBefore (L : Lane) (a : Nat) (v : Word) : Lane := (L.busEnd L.rdata false a).signW a v

theorem Lane.SameWay.wpBefore (L : Lane) (a : Nat) (v : Word) : Lane.SameWay L (L.wpBefore a v) :=
  ⟨⟨Lane.Frame.of_eq rfl rfl rfl _, rfl, rfl, rfl, rfl, rfl⟩, rfl⟩

theorem Lane.busWrite_wpCfg (L : Lane) (w : Fin 128) (v : Word) : L.busWrite .word (R.RKN_WP_CFG w).addr v =
    if F.RKN_WP_CFG_ARM.on ((L.wpStored w v).wpCfg w) then (L.wpStored w v).wpArm w
    else if F.RKN_WP_CFG_ARM.on (L.wpCfg w) then
      (if (L.wpBefore (R.RKN_WP_CFG w).addr v).wpDue w then
        ((L.wpBefore (R.RKN_WP_CFG w).addr v).wpDisarm w true).wr (R.RKN_WP_CFG w) ((L.wpStored w v).wpCfg w)
      else (L.wpStored w v).wpDisarm w false)
    else L.wpStored w v := by
  obtain ⟨hw, h1, h2, h3, h4, h5⟩ := wpCfg_facts w
  rw [Lane.busWrite_row (regRow_window (regRow_RKN_WP_CFG w)) (regRow_RKN_WP_CFG w) (L.absentReg_other (by omega) (by omega)) (.inl rfl)
    (Lane.refusal_none _ _ _ h5) h4]
  simp only [Lane.written, hw, Lane.onRkn, h1, h2, h3, if_false]
  rfl

end Sys2Proof.Machine
end

section
/-! Arming, comparing, disarming and firing of waypoints (R65 to R81). -/

namespace Sys2Proof.Machine

/-! ### An arming and a disable of Helm Net that waits -/

/-- Where the spec's words say what an arming leaves, it does not touch Helm Net. -/
theorem Lane.hn_wpArm {L : Lane} {w : Nat} (hw : w < 128) : (L.wpArm w).hn = L.hn ∨ ∀ M, armsAs L M w := by
  cases hb : L.wpBad w
  case true =>
    rw [Lane.wpArm_bad hb]
    exact .inl rfl
  cases hp : L.wpPair w with
  | none =>
    by_cases hr : armReached L w
    · by_cases hq : quietAction L w
      · rw [Lane.wpArm_reached hw hb hp hr hq]
        exact .inl (Lane.Records.wpRecord hw _ _).hn
      · refine .inr fun M => ⟨fun h => ?_, fun _ _ => ⟨fun h => absurd hr h, fun _ h => absurd h hq⟩, fun _ k h => ?_⟩
        · cases hb.symm.trans h
        · cases hp.symm.trans h
    · rw [Lane.wpArm_ahead hw hb hp hr]
      exact .inl rfl
  | some k =>
    have hne : wpOther w ≠ w := by unfold wpOther; split <;> omega
    have he := Lane.wpArm_pair hb hp
    rw [L.wpArmed_wpAwaits_other hne, L.wpRepeat_wpAwaits, L.wpRepeat_wpAwaits, ← Bool.not_and] at he
    cases ho : L.wpArmed (wpOther w)
    · rw [he, ho]
      exact .inl rfl
    cases hr : L.wpRepeat k && L.wpRepeat (k + 1)
    · rw [he, ho, hr]
      exact .inl rfl
    cases hu : L.wpUnit
    · rw [he, ho, hr, if_neg (by simp), if_neg (by simp), Lane.wpCheck_inactive ((L.wpUnit_wpAwaits w).trans hu)]
      exact .inl rfl
    · refine .inr fun M => ⟨fun h => ?_, fun _ h => ?_, fun _ j h => ?_⟩
      · cases hb.symm.trans h
      · cases hp.symm.trans h
      · obtain rfl := Option.some.inj (hp.symm.trans h)
        exact ⟨fun h => (by cases ho.symm.trans h), fun _ h => (by cases hr.symm.trans h), fun _ _ h => (by cases hu.symm.trans h)⟩

theorem armsAs_sent {L N : Lane} {w : Nat} (h : armsAs L N w) : armsAs L { N with outP := [], outR := [] } w := h

theorem armsAs_settles {L M : Lane} {w : Nat} (hw : w < 128) (hc : L.hn.closing = false) (h : Lane.Settles (L.wpArm w) M) : armsAs L M w := by
  obtain hn | ha := Lane.hn_wpArm hw (L := L)
  · rw [h.eq (by rw [hn, hc])]
    exact armsAs_sent (armsAs_wpArm hw)
  · exact ha M

/-! ### The configuration written -/

theorem on_ARM_cfgWord (L : Lane) (w : Nat) (v : Word) : F.RKN_WP_CFG_ARM.on (cfgWord L w v) = F.RKN_WP_CFG_ARM.on v := by
  have ht : F.RKN_WP_CFG_ARM.on (L.taken (R.RKN_WP_CFG w) 0x70F3F v) = F.RKN_WP_CFG_ARM.on v := congrArg (· != 0) (L.get_taken _ v (by decide))
  unfold cfgWord
  dsimp only
  split
  · exact (congrArg (· != 0) (Bf.get_set_other _ _ _ _ (by decide))).trans ht
  · exact ht

theorem wpCfg_wpStored (L : Lane) (w : Fin 128) (v : Word) : (L.wpStored w v).wpCfg w = cfgWord L w v :=
  ((sameWay_wpStored L w v).rd _).trans (L.rd_wr_same _ _)

theorem Bf.on_set_flag {f : Bf} (h : f.lo + f.wid ≤ 32) (v : Word) (n : Nat) : f.on (f.set v n) = (n % 2 ^ f.wid != 0) := congrArg (· != 0) (f.get_set_same v n h)

theorem RKN_WP_CFG_ne_INCTL (w : Fin 128) : (R.RKN_WP_CFG w).addr ≠ R.BMB_INCTL.addr := by
  simp only [R.RKN_WP_CFG, R.BMB_INCTL]
  omega

theorem waypointArm_arms {s : State} (hq : s.Quiet) (l : LaneId) (w : Fin 128) (v : Word) :
    RunsLane (.waypointArm l w v) s l fun L M => armsAs (L.wr (R.RKN_WP_CFG w) (cfgWord L w (F.RKN_WP_CFG_ARM.set v 1))) M w := by
  refine RunsLane.of_write_settled rfl hq (RKN_WP_CFG_ne_INCTL w) fun M hM => ?_
  have hs := sameWay_wpStored (s.lane l) w (F.RKN_WP_CFG_ARM.set v 1)
  have hon : F.RKN_WP_CFG_ARM.on (((s.lane l).wpStored w (F.RKN_WP_CFG_ARM.set v 1)).wpCfg w) = true := by
    rw [wpCfg_wpStored, on_ARM_cfgWord, Bf.on_set_flag (by decide)]
    rfl
  rw [Lane.busWrite_wpCfg, if_pos hon] at hM
  refine hs.armsAs_of w (armsAs_settles w.isLt ?_ hM)
  rw [hs.records.hn]
  exact hq l

/-! ### The compare value written (R74) -/

namespace Lane.SameWay
variable {L M : Lane} (h : Lane.SameWay L M) (w : Nat)
include h

theorem wpHeld : M.wpHeld w = L.wpHeld w := by simp only [Lane.wpHeld, h.wpPair, h.wpArmed]
theorem wpReached : M.wpReached w = L.wpReached w := by simp only [Lane.wpReached, h.wp, h.wpBack, h.wpD]
theorem wpDue : M.wpDue w = L.wpDue w := by simp only [Lane.wpDue, h.wpUnit, h.wpArmed, h.wpHeld, h.wpReached, Lane.on, h.rd]
theorem wr (r : Reg) (v : Word) (hw : r.addr / 0x10000 ≠ 0x4004) : Lane.SameWay (L.wr r v) (M.wr r v) := ⟨h.records.wrBoth r v hw, h.wp⟩

end Lane.SameWay

theorem wpCmp_facts (w : Fin 128) : (R.RKN_WP_CMP w).addr / 0x10000 = 0x4001 ∧ (R.RKN_WP_CMP w).addr ≠ R.RKN_CTRL.addr ∧ (R.RKN_WP_CMP w).addr ≠ R.RKN_FAULT.addr
    ∧ idxOf (R.RKN_WP_CMP w).addr (R.RKN_WP_CFG 0) 0x20 128 = none ∧ idxOf (R.RKN_WP_CMP w).addr (R.RKN_WP_CMP 0) 0x20 128 = some w.val
    ∧ refSpecial (R.RKN_WP_CMP w).addr = false := by
  revert w
  decide +kernel

theorem Lane.busWrite_wpCmp (L : Lane) (w : Fin 128) (v : Word) :
    L.busWrite .word (R.RKN_WP_CMP w).addr v = (L.wpBefore (R.RKN_WP_CMP w).addr v).wpCmpWrite w v := by
  obtain ⟨hw, h1, h2, h3, h4, h5⟩ := wpCmp_facts w
  rw [Lane.busWrite_reg (memWritable_reg (regRow_window (regRow_RKN_WP_CMP w))) (memBank_reg (regRow_window (regRow_RKN_WP_CMP w))) (regRow_RKN_WP_CMP w)
    (L.absentReg_other (by omega) (by omega)) (.inl rfl) (Lane.refusal_none _ _ _ h5), Lane.store, if_pos (by rw [h4]; rfl)]
  simp only [Lane.written, hw, Lane.onRkn, h1, h2, h3, h4, if_false]
  rfl

/-- A write of the compare value of a waypoint that is not due. -/
theorem Lane.wpCmpWrite_idle {L : Lane} {w : Nat} (h : L.wpDue w = false) (v : Word) :
    L.wpCmpWrite w v = if L.on (R.RKN_WP_CFG w) F.RKN_WP_CFG_ARM then (L.wr (R.RKN_WP_CMP w) v).wpArm w else L.wr (R.RKN_WP_CMP w) v := by
  have hc : (L.wr (R.RKN_WP_CMP w) v).wpCfg w = L.rd (R.RKN_WP_CFG w) := L.rd_wr_other _ (RKN_WP_CMP_ne_CFG w w).symm
  simp only [Lane.wpCmpWrite, h, Bool.false_eq_true, if_false, hc]
  rfl

/-- A waypoint that is due fires on the old value, and its own advance is discarded (R74). -/
def Lane.wpRewritten (L : Lane) (w : Nat) (v : Word) : Lane := (L.wpMoved w false).wr (R.RKN_WP_CMP w) v

theorem Lane.rd_CFG_wpMoved {L : Lane} {w : Nat} (hw : w < 128) (adv : Bool) (x : Nat) : (L.wpMoved w adv).rd (R.RKN_WP_CFG x) = L.rd (R.RKN_WP_CFG x) := by
  refine (Lane.Records.wpMoved hw adv).rd ?_
  simpa using ⟨(RKN_WP_STAT_ne_CFG w x).symm, (RKN_WP_CMP_ne_CFG w x).symm⟩

theorem Lane.wpCfg_wpRewritten {L : Lane} {w : Nat} (hw : w < 128) (v : Word) (x : Nat) : (L.wpRewritten w v).wpCfg x = L.wpCfg x :=
  (Lane.rd_wr_other _ _ (RKN_WP_CMP_ne_CFG w x).symm).trans (Lane.rd_CFG_wpMoved hw false x)

theorem Lane.wpCmpWrite_due {L : Lane} {w : Nat} (hw : w < 128) (h : L.wpDue w = true) (hp : L.wpPair w = none) (hq : quietAction L w) (v : Word) :
    L.wpCmpWrite w v = if L.on (R.RKN_WP_CFG w) F.RKN_WP_CFG_ARM then (L.wpRewritten w v).wpArm w else L.wpRewritten w v := by
  have hf : L.wpFire w (fun _ => false) (fun x => decide (x ≠ w)) = L.wpMoved w false := by
    rw [Lane.wpFire_quiet hw hp hq, ← L.wpRecord_kept w]
    simp
  have hc := Lane.wpCfg_wpRewritten hw v w (L := L)
  rw [Lane.wpRewritten] at hc ⊢
  simp only [Lane.wpCmpWrite, h, if_true, hf, hc]
  rfl

/-- A firing whose advance is discarded writes RKN_WP_STAT alone. -/
theorem Lane.Records.wpMoved_kept {L : Lane} {w : Nat} (hw : w < 128) : Lane.Records [(R.RKN_WP_STAT w).addr] L (L.wpMoved w false) := by
  unfold Lane.wpMoved
  cases hr : L.wpRepeat w
  · exact (Lane.Records.wpMarked hw).setF _ _ _ (List.mem_singleton_self _) (RKN_WP_STAT_window hw)
  · exact Lane.Records.wpMarked hw

/-- RKN_WP_STAT does not decide whether an arming is refused, nor its direction, nor whether it is to fire at once. -/
theorem arming_of_stat {L M : Lane} {w : Nat} (hw : w < 128) (h : Lane.Records [(R.RKN_WP_STAT w).addr] L M) :
    M.wpBad w = L.wpBad w ∧ armDir M w = armDir L w ∧ (armReached M w ↔ armReached L w) := by
  have hcfg : M.wpCfg w = L.wpCfg w := h.rd (by simpa using (RKN_WP_STAT_ne_CFG w w).symm)
  have hrkn : M.wpRkn w = L.wpRkn w := congrArg F.RKN_WP_CFG_RKN.get hcfg
  have hstep : M.rd (R.RKN_WP_STEP w) = L.rd (R.RKN_WP_STEP w) := h.rd (by simpa using (RKN_WP_STAT_ne_STEP w w).symm)
  have hcmp : M.rd (R.RKN_WP_CMP w) = L.rd (R.RKN_WP_CMP w) := h.rd (by simpa using (RKN_WP_STAT_ne_CMP w w).symm)
  have hstat : M.rd R.RKN_STAT = L.rd R.RKN_STAT := h.rd (by simp only [R.RKN_STAT, R.RKN_WP_STAT, List.mem_singleton]; omega)
  have hctrl : M.rd R.RKN_CTRL = L.rd R.RKN_CTRL := h.rd (by simp only [R.RKN_CTRL, R.RKN_WP_STAT, List.mem_singleton]; omega)
  have hdbg : M.rd R.FIX_DBG = L.rd R.FIX_DBG := h.rd (by simp only [R.FIX_DBG, R.RKN_WP_STAT, List.mem_singleton]; omega)
  have hdir : armDir M w = armDir L w := by simp only [armDir, hcfg, hrkn, hstat]
  have hd : M.wpD w = L.wpD w := by simp only [Lane.wpD, hrkn, hcmp, h.rknVal]
  refine ⟨?_, hdir, ?_⟩
  · simp only [Lane.wpBad, Lane.wpRepeat, hcfg, hrkn, hstep, hstat]
  · simp only [armReached, Lane.wpUnit, Lane.on, hdir, hd, hctrl, hdbg]

/-- An arming of a waypoint without a pair and without an action of its own leaves Helm Net, and FIRED where it is set. -/
theorem Lane.wpArm_quiet {L : Lane} {w : Nat} (hw : w < 128) (hp : L.wpPair w = none) (hq : quietAction L w) :
    (L.wpArm w).hn = L.hn ∧ (L.on (R.RKN_WP_STAT w) F.RKN_WP_STAT_FIRED = true → (L.wpArm w).on (R.RKN_WP_STAT w) F.RKN_WP_STAT_FIRED = true) := by
  cases hb : L.wpBad w
  · by_cases hr : armReached L w
    · rw [Lane.wpArm_reached hw hb hp hr hq]
      exact ⟨(Lane.Records.wpRecord hw _ _).hn, fun _ => Lane.on_FIRED_wpRecord hw _ _⟩
    · rw [Lane.wpArm_ahead hw hb hp hr]
      exact ⟨rfl, fun h => (L.on_setF_field _ _ (by decide)).trans h⟩
  · rw [Lane.wpArm_bad hb]
    exact ⟨rfl, fun h => (Lane.on_raise_field _ _ (by decide)).trans ((L.on_setF_field _ _ (by decide)).trans h)⟩

end Sys2Proof.Machine
end

section
/-! Comparing, disarming and firing of waypoints (R65 to R81), and the statement. -/

namespace Sys2Proof.Machine

/-! ### The compare value written (R74) -/

section
variable {L M : Lane} {w : Fin 128} {v : Word} (hc : L.hn.closing = false) (hM : Lane.Settles (L.busWrite .word (R.RKN_WP_CMP w).addr v) M)
include hc hM

theorem wpCmp_unarmed (hd : L.wpDue w = false) (ha : L.on (R.RKN_WP_CFG w) F.RKN_WP_CFG_ARM = false) :
    M.rd (R.RKN_WP_CMP w) = v ∧ Lane.Frame [(R.RKN_WP_CMP w).addr] L M := by
  have hb := Lane.SameWay.wpBefore L (R.RKN_WP_CMP w).addr v
  rw [Lane.busWrite_wpCmp, Lane.wpCmpWrite_idle ((hb.wpDue w).trans hd)] at hM
  generalize L.wpBefore (R.RKN_WP_CMP w).addr v = B at hb hM
  have ha' : B.on (R.RKN_WP_CFG w) F.RKN_WP_CFG_ARM = false := (congrArg F.RKN_WP_CFG_ARM.on (hb.rd _)).trans ha
  rw [ha', if_neg Bool.false_ne_true] at hM
  obtain rfl := hM.eq (show B.hn.closing = false by rw [hb.records.hn, hc])
  exact ⟨Lane.rd_wr_same B _ v, hb.frame (Lane.Frame.wr B v (AX_BANK_ne_of_window (RKN_WP_CMP_window w.isLt)))⟩

theorem wpCmp_armed (hd : L.wpDue w = false) (ha : L.on (R.RKN_WP_CFG w) F.RKN_WP_CFG_ARM = true) : armsAs (L.wr (R.RKN_WP_CMP w) v) M w := by
  have hb := Lane.SameWay.wpBefore L (R.RKN_WP_CMP w).addr v
  rw [Lane.busWrite_wpCmp, Lane.wpCmpWrite_idle ((hb.wpDue w).trans hd)] at hM
  generalize L.wpBefore (R.RKN_WP_CMP w).addr v = B at hb hM
  have ha' : B.on (R.RKN_WP_CFG w) F.RKN_WP_CFG_ARM = true := (congrArg F.RKN_WP_CFG_ARM.on (hb.rd _)).trans ha
  rw [ha', if_pos rfl] at hM
  refine (hb.wr (R.RKN_WP_CMP w) v (RKN_WP_CMP_window w.isLt)).armsAs_of w (armsAs_settles w.isLt ?_ hM)
  show B.hn.closing = false
  rw [hb.records.hn, hc]

theorem wpCmp_due (hd : L.wpDue w = true) (hp : L.wpPair w = none) (hq : quietAction L w) :
    M.on (R.RKN_WP_STAT w) F.RKN_WP_STAT_FIRED = true
      ∧ (L.on (R.RKN_WP_CFG w) F.RKN_WP_CFG_ARM = true → (L.wr (R.RKN_WP_CMP w) v).wpBad w = false → ¬armReached (L.wr (R.RKN_WP_CMP w) v) w →
        M.wpArmed w = true ∧ M.wpBack w = armDir (L.wr (R.RKN_WP_CMP w) v) w
          ∧ M.fld (R.RKN_WP_STAT w) F.RKN_WP_STAT_COUNT = (L.fld (R.RKN_WP_STAT w) F.RKN_WP_STAT_COUNT + 1) % 65536
          ∧ M.rd (R.RKN_WP_CMP w) = v ∧ Lane.Frame [(R.RKN_WP_STAT w).addr, (R.RKN_WP_CMP w).addr] L M) := by
  have hb := Lane.SameWay.wpBefore L (R.RKN_WP_CMP w).addr v
  rw [Lane.busWrite_wpCmp, Lane.wpCmpWrite_due w.isLt ((hb.wpDue w).trans hd) ((hb.wpPair w).trans hp) ((hb.quietAction_iff w).mpr hq)] at hM
  generalize L.wpBefore (R.RKN_WP_CMP w).addr v = B at hb hM
  have hz : Lane.Records [(R.RKN_WP_STAT w).addr] (L.wr (R.RKN_WP_CMP w) v) (B.wpRewritten w v) :=
    ((hb.records.mono (by simp)).trans (Lane.Records.wpMoved_kept w.isLt)).wrBoth (R.RKN_WP_CMP w) v (RKN_WP_CMP_window w.isLt)
  have hfired : (B.wpRewritten w v).on (R.RKN_WP_STAT w) F.RKN_WP_STAT_FIRED = true := by
    refine (Lane.on_wr_other _ _ _ (RKN_WP_STAT_ne_CMP w w)).trans ?_
    rw [← B.wpRecord_kept w]
    exact Lane.on_FIRED_wpRecord w.isLt _ _
  have hcount : (B.wpRewritten w v).fld (R.RKN_WP_STAT w) F.RKN_WP_STAT_COUNT = (L.fld (R.RKN_WP_STAT w) F.RKN_WP_STAT_COUNT + 1) % 65536 := by
    refine (congrArg F.RKN_WP_STAT_COUNT.get (Lane.rd_wr_other _ _ (RKN_WP_STAT_ne_CMP w w))).trans ?_
    rw [← B.wpRecord_kept w]
    refine (Lane.fld_COUNT_wpRecord w.isLt _ _).trans ?_
    rw [Lane.fld, hb.rd, ← Lane.fld]
  have hcmp : (B.wpRewritten w v).rd (R.RKN_WP_CMP w) = v := Lane.rd_wr_same _ _ v
  have hpZ : (B.wpRewritten w v).wpPair w = none := by
    simp only [Lane.wpPair, Lane.wpCfg_wpRewritten w.isLt, hb.wpCfg] at hp ⊢
    exact hp
  have hqZ : quietAction (B.wpRewritten w v) w := by
    rw [quietAction, Lane.wpCfg_wpRewritten w.isLt, hb.wpCfg]
    exact hq
  have hhn : (B.wpRewritten w v).hn.closing = false := by
    rw [hz.hn]
    exact hc
  have ha : B.on (R.RKN_WP_CFG w) F.RKN_WP_CFG_ARM = L.on (R.RKN_WP_CFG w) F.RKN_WP_CFG_ARM := congrArg F.RKN_WP_CFG_ARM.on (hb.rd _)
  have hfr : Lane.Frame [(R.RKN_WP_STAT w).addr, (R.RKN_WP_CMP w).addr] L (B.wpRewritten w v) :=
    (((Lane.Records.refl _ L).wr _ v (by simp) (RKN_WP_CMP_window w.isLt)).trans (hz.mono (by simp))).frame
  rw [ha] at hM
  generalize B.wpRewritten w v = Z at hM hz hfired hcount hcmp hpZ hqZ hhn hfr
  obtain ⟨hn, hkeep⟩ := Lane.wpArm_quiet w.isLt hpZ hqZ
  obtain ⟨hbad, hdir, hreach⟩ := arming_of_stat w.isLt hz
  cases harm : L.on (R.RKN_WP_CFG w) F.RKN_WP_CFG_ARM
  · rw [harm, if_neg Bool.false_ne_true] at hM
    obtain rfl := hM.eq hhn
    exact ⟨hfired, fun h => absurd h Bool.false_ne_true⟩
  · rw [harm, if_pos rfl] at hM
    obtain rfl := hM.eq (hn ▸ hhn)
    refine ⟨hkeep hfired, fun _ hb1 hr1 => ?_⟩
    have hahead : Z.wpArm w = Z.wpAwaits w := Lane.wpArm_ahead w.isLt (hbad.trans hb1) hpZ (mt hreach.mp hr1)
    rw [hahead]
    have hcmpA : (Z.wpAwaits w).rd (R.RKN_WP_CMP w) = v :=
      ((Lane.Records.wpAwaits w.isLt).rd (by simpa using (RKN_WP_STAT_ne_CMP w w).symm)).trans hcmp
    have hcountA : (Z.wpAwaits w).fld (R.RKN_WP_STAT w) F.RKN_WP_STAT_COUNT = Z.fld (R.RKN_WP_STAT w) F.RKN_WP_STAT_COUNT := Z.fld_setF_field _ _ (by decide)
    exact ⟨Z.wpArmed_wpAwaits w, (Z.wpBack_wpAwaits w).trans hdir, hcountA.trans hcount, hcmpA, hfr.trans ((Lane.Records.wpAwaits w.isLt).frame.mono (by simp))⟩

end

end Sys2Proof.Machine
end

section
/-! Disarming and firing of waypoints (R67, R72, R73, R79), and the statement. -/

namespace Sys2Proof.Machine

/-! ### The end of an arming (R51, R73) -/

/-- ABORT_LATE says whether the waypoint has fired in the same tick. -/
theorem Lane.wpDisarm_early {L : Lane} {w : Nat} (hw : w < 128) :
    (L.wpDisarm w false).wpArmed w = false ∧ Lane.Records [(R.RKN_WP_STAT w).addr] L (L.wpDisarm w false)
      ∧ (L.wpDisarm w false).on (R.RKN_WP_STAT w) F.RKN_WP_STAT_ABORT_LATE = decide ((L.wp.at w).firedAt = L.ticks + 1) := by
  have hoff : (L.setF (R.RKN_WP_STAT w) F.RKN_WP_STAT_ARMED 0).wpArmed w = false := L.on_setF_zero _ _ (by decide)
  have hr : Lane.Records [(R.RKN_WP_STAT w).addr] L (L.setF (R.RKN_WP_STAT w) F.RKN_WP_STAT_ARMED 0) :=
    (Lane.Records.refl _ L).setF _ _ _ (List.mem_singleton_self _) (RKN_WP_STAT_window hw)
  unfold Lane.wpDisarm
  simp only [Bool.false_eq_true, if_false, false_or]
  by_cases hf : (L.wp.at w).firedAt = L.ticks + 1
  · rw [if_pos hf, decide_eq_true hf]
    exact ⟨(Lane.on_raise_field _ _ (by decide)).trans hoff, hr.raise _ _ (List.mem_singleton_self _) (RKN_WP_STAT_window hw),
      Lane.on_raise_same _ _ _ (by decide) (by decide)⟩
  · rw [if_neg hf, decide_eq_false hf]
    exact ⟨(Lane.on_setF_field _ _ _ (by decide)).trans hoff, hr.setF _ _ _ (List.mem_singleton_self _) (RKN_WP_STAT_window hw),
      Lane.on_setF_zero _ _ _ (by decide)⟩

/-- A waypoint that is due fires first, and the end of its arming comes late. -/
def Lane.wpEnded (L : Lane) (w : Nat) : Lane := (L.setF (R.RKN_WP_STAT w) F.RKN_WP_STAT_ARMED 0).raise (R.RKN_WP_STAT w) F.RKN_WP_STAT_ABORT_LATE

theorem Lane.wpDisarm_late (L : Lane) (w : Nat) : L.wpDisarm w true = (L.wpFire w (fun _ => false) (fun _ => true)).wpEnded w := by
  simp [Lane.wpDisarm, Lane.wpEnded]

theorem Lane.wpEnded_state (L : Lane) (w : Nat) :
    (L.wpEnded w).wpArmed w = false ∧ (L.wpEnded w).on (R.RKN_WP_STAT w) F.RKN_WP_STAT_ABORT_LATE = true :=
  ⟨(Lane.on_raise_field _ _ (by decide)).trans (L.on_setF_zero _ _ (by decide)), Lane.on_raise_same _ _ _ (by decide) (by decide)⟩

theorem Lane.fld_wpEnded (L : Lane) (w : Nat) {g : Bf} (ha : F.RKN_WP_STAT_ARMED.lo + F.RKN_WP_STAT_ARMED.wid ≤ g.lo ∨ g.lo + g.wid ≤ F.RKN_WP_STAT_ARMED.lo)
    (hb : F.RKN_WP_STAT_ABORT_LATE.lo + F.RKN_WP_STAT_ABORT_LATE.wid ≤ g.lo ∨ g.lo + g.wid ≤ F.RKN_WP_STAT_ABORT_LATE.lo) :
    (L.wpEnded w).fld (R.RKN_WP_STAT w) g = L.fld (R.RKN_WP_STAT w) g :=
  (Lane.fld_raise_field _ _ hb).trans (L.fld_setF_field _ _ ha)

theorem Lane.Records.wpEnded {L : Lane} {w : Nat} (hw : w < 128) : Lane.Records [(R.RKN_WP_STAT w).addr] L (L.wpEnded w) :=
  ((Lane.Records.refl _ L).setF _ _ _ (List.mem_singleton_self _) (RKN_WP_STAT_window hw)).raise _ _ (List.mem_singleton_self _) (RKN_WP_STAT_window hw)

section
variable {L M : Lane} {w : Fin 128} {v : Word} (hc : L.hn.closing = false)
  (hM : Lane.Settles (L.busWrite .word (R.RKN_WP_CFG w).addr (F.RKN_WP_CFG_ARM.set v 0)) M)

theorem busWrite_disarm (L : Lane) (w : Fin 128) (v : Word) : L.busWrite .word (R.RKN_WP_CFG w).addr (F.RKN_WP_CFG_ARM.set v 0) =
    if L.on (R.RKN_WP_CFG w) F.RKN_WP_CFG_ARM then
      (if L.wpDue w then ((L.wpBefore (R.RKN_WP_CFG w).addr (F.RKN_WP_CFG_ARM.set v 0)).wpDisarm w true).wr (R.RKN_WP_CFG w) (cfgWord L w (F.RKN_WP_CFG_ARM.set v 0))
      else (L.wpStored w (F.RKN_WP_CFG_ARM.set v 0)).wpDisarm w false)
    else L.wpStored w (F.RKN_WP_CFG_ARM.set v 0) := by
  have hon : F.RKN_WP_CFG_ARM.on ((L.wpStored w (F.RKN_WP_CFG_ARM.set v 0)).wpCfg w) = false := by
    rw [wpCfg_wpStored, on_ARM_cfgWord, Bf.on_set_flag (by decide)]
    rfl
  rw [Lane.busWrite_wpCfg, hon, if_neg Bool.false_ne_true, wpCfg_wpStored, (Lane.SameWay.wpBefore L _ _).wpDue]
  rfl

/-- What the stored configuration leaves. -/
theorem Lane.Records.wpStored (L : Lane) (w : Fin 128) (v : Word) : Lane.Records [(R.RKN_WP_CFG w).addr] L (L.wpStored w v) :=
  ((Lane.Records.refl _ L).wr (R.RKN_WP_CFG w) _ (List.mem_singleton_self _) (RKN_WP_CFG_window w.isLt)).trans ((sameWay_wpStored L w v).records.mono (by simp))

theorem not_mem_settleRegs_wp {a : Nat} (h : 0x40011000 ≤ a) (ha : a < 0x40012000) : a ∉ settleRegs := by
  simp only [settleRegs, R.HNET_STAT, R.HNET_EVT, R.RKN_GT, R.HNET_CTRL, R.HNET_PATH, List.mem_cons, List.not_mem_nil, or_false]
  omega

include hM

theorem wpDisarm_cfg : M.rd (R.RKN_WP_CFG w) = cfgWord L w (F.RKN_WP_CFG_ARM.set v 0) := by
  rw [hM.rd (not_mem_settleRegs_wp (by simp only [R.RKN_WP_CFG]; omega) (by simp only [R.RKN_WP_CFG]; omega)), busWrite_disarm]
  have hs := wpCfg_wpStored L w (F.RKN_WP_CFG_ARM.set v 0)
  split
  · split
    · exact Lane.rd_wr_same _ _ _
    · exact ((Lane.wpDisarm_early w.isLt).2.1.rd (by simpa using (RKN_WP_STAT_ne_CFG w w).symm)).trans hs
  · exact hs

theorem wpDisarm_armed (ha : L.on (R.RKN_WP_CFG w) F.RKN_WP_CFG_ARM = true) : M.wpArmed w = false := by
  have hm : M.rd (R.RKN_WP_STAT w) = _ :=
    hM.rd (not_mem_settleRegs_wp (by simp only [R.RKN_WP_STAT]; omega) (by simp only [R.RKN_WP_STAT]; omega))
  refine (congrArg F.RKN_WP_STAT_ARMED.on hm).trans ?_
  rw [busWrite_disarm, if_pos ha]
  split
  · rw [Lane.wpDisarm_late, Lane.rd_wr_other _ _ (RKN_WP_STAT_ne_CFG w w)]
    exact (Lane.wpEnded_state _ w).1
  · exact (Lane.wpDisarm_early w.isLt).1

include hc

theorem wpDisarm_unarmed (ha : L.on (R.RKN_WP_CFG w) F.RKN_WP_CFG_ARM = false) : Lane.Frame [(R.RKN_WP_CFG w).addr] L M := by
  have hr := Lane.Records.wpStored L w (F.RKN_WP_CFG_ARM.set v 0)
  rw [busWrite_disarm, ha, if_neg Bool.false_ne_true] at hM
  generalize L.wpStored w (F.RKN_WP_CFG_ARM.set v 0) = P at hM hr
  obtain rfl := hM.eq (by rw [hr.hn, hc])
  exact hr.frame

theorem wpDisarm_waiting (ha : L.on (R.RKN_WP_CFG w) F.RKN_WP_CFG_ARM = true) (hd : L.wpDue w = false) :
    M.on (R.RKN_WP_STAT w) F.RKN_WP_STAT_ABORT_LATE = decide ((L.wp.at w).firedAt = L.ticks + 1)
      ∧ Lane.Frame [(R.RKN_WP_CFG w).addr, (R.RKN_WP_STAT w).addr] L M := by
  have hs := sameWay_wpStored L w (F.RKN_WP_CFG_ARM.set v 0)
  have hr := (Lane.Records.wpStored L w (F.RKN_WP_CFG_ARM.set v 0)).mono (qs := [(R.RKN_WP_CFG w).addr, (R.RKN_WP_STAT w).addr]) (by simp)
  rw [busWrite_disarm, if_pos ha, hd, if_neg Bool.false_ne_true] at hM
  have hwp : (L.wpStored w (F.RKN_WP_CFG_ARM.set v 0)).wp = L.wp := hs.wp
  have hticks : (L.wpStored w (F.RKN_WP_CFG_ARM.set v 0)).ticks = L.ticks := hs.records.ticks
  obtain ⟨-, he, hl⟩ := Lane.wpDisarm_early w.isLt (L := L.wpStored w (F.RKN_WP_CFG_ARM.set v 0))
  rw [hwp, hticks] at hl
  have hall := hr.trans (he.mono (by simp))
  generalize (L.wpStored w (F.RKN_WP_CFG_ARM.set v 0)).wpDisarm w false = P at hM hl hall
  obtain rfl := hM.eq (by rw [hall.hn, hc])
  exact ⟨hl, hall.frame⟩

theorem wpDisarm_due (ha : L.on (R.RKN_WP_CFG w) F.RKN_WP_CFG_ARM = true) (hd : L.wpDue w = true) (hp : L.wpPair w = none) (hq : quietAction L w) :
    M.on (R.RKN_WP_STAT w) F.RKN_WP_STAT_ABORT_LATE = true ∧ M.on (R.RKN_WP_STAT w) F.RKN_WP_STAT_FIRED = true
      ∧ M.fld (R.RKN_WP_STAT w) F.RKN_WP_STAT_COUNT = (L.fld (R.RKN_WP_STAT w) F.RKN_WP_STAT_COUNT + 1) % 65536
      ∧ (F.RKN_WP_CFG_STRICT.on (L.wpCfg w) = false →
          Lane.Frame [(R.RKN_WP_CFG w).addr, (R.RKN_WP_STAT w).addr, (R.RKN_WP_CMP w).addr] L M) := by
  have hb := Lane.SameWay.wpBefore L (R.RKN_WP_CFG w).addr (F.RKN_WP_CFG_ARM.set v 0)
  rw [busWrite_disarm, if_pos ha, if_pos hd, Lane.wpDisarm_late, Lane.wpFire_quiet w.isLt ((hb.wpPair w).trans hp) ((hb.quietAction_iff w).mpr hq)] at hM
  generalize L.wpBefore (R.RKN_WP_CFG w).addr (F.RKN_WP_CFG_ARM.set v 0) = B at hb hM
  have hf := hb.firesAs_of w (Lane.firesAs_wpRecord w.isLt false (L := B))
  have hhn := (Lane.Records.wpRecord w.isLt false true (L := B)).hn.trans hb.records.hn
  rw [firesAs_iff] at hf
  obtain ⟨h1, h2, -, -, -, -, h7⟩ := hf
  generalize B.wpRecord w false true = X at hM h1 h2 h7 hhn
  have hst : ((X.wpEnded w).wr (R.RKN_WP_CFG w) (cfgWord L w (F.RKN_WP_CFG_ARM.set v 0))).rd (R.RKN_WP_STAT w) = (X.wpEnded w).rd (R.RKN_WP_STAT w) :=
    Lane.rd_wr_other _ _ (RKN_WP_STAT_ne_CFG w w)
  have hfr : F.RKN_WP_CFG_STRICT.on (L.wpCfg w) = false → Lane.Frame [(R.RKN_WP_CFG w).addr, (R.RKN_WP_STAT w).addr, (R.RKN_WP_CMP w).addr] L
      ((X.wpEnded w).wr (R.RKN_WP_CFG w) (cfgWord L w (F.RKN_WP_CFG_ARM.set v 0))) := fun hs =>
    (((h7 (.inl hs)).mono (by simp)).trans ((Lane.Records.wpEnded w.isLt).frame.mono (by simp))).wrIn (by simp) (AX_BANK_ne_of_window (RKN_WP_CFG_window w.isLt))
  have hcl : ((X.wpEnded w).wr (R.RKN_WP_CFG w) (cfgWord L w (F.RKN_WP_CFG_ARM.set v 0))).hn.closing = false := by
    show X.hn.closing = false
    rw [hhn, hc]
  generalize (X.wpEnded w).wr (R.RKN_WP_CFG w) (cfgWord L w (F.RKN_WP_CFG_ARM.set v 0)) = Z at hM hst hfr hcl
  obtain rfl := hM.eq hcl
  refine ⟨(congrArg F.RKN_WP_STAT_ABORT_LATE.on hst).trans (X.wpEnded_state w).2, ?_, ?_, hfr⟩
  · exact (congrArg F.RKN_WP_STAT_FIRED.on hst).trans ((congrArg (· != 0) (X.fld_wpEnded w (by decide) (by decide))).trans h1)
  · exact (congrArg F.RKN_WP_STAT_COUNT.get hst).trans ((X.fld_wpEnded w (by decide) (by decide)).trans h2)

end

end Sys2Proof.Machine
end

section
/-! Crossings of waypoints (R67, R72, R79), and the statement. -/

namespace Sys2Proof.Machine

theorem Lane.wpCross_idle {L : Lane} {w : Nat} (h : L.wpDue w = false) : L.wpCross w = L := by
  unfold Lane.wpCross
  simp only [h, Bool.false_and, Bool.false_eq_true, if_false]

/-- A lower-numbered waypoint of another pair goes first (R72). -/
theorem Lane.wpCross_behind {L : Lane} {w : Nat} (hp : L.wpPair w = none) (h : ∃ k, k < w ∧ L.wpDue k = true) : L.wpCross w = L := by
  obtain ⟨k, hk, hd⟩ := h
  have ha : (List.range w).any L.wpDue = true := List.any_eq_true.mpr ⟨k, List.mem_range.mpr hk, hd⟩
  unfold Lane.wpCross
  simp [hp, ha]

/-- The waypoints that a crossing waits for. -/
def Lane.wpFirst (L : Lane) (w : Nat) : Nat := if (L.wpPair w).isSome && L.wpDue (wpOther w) then w - w % 2 else w

theorem Lane.wpCross_due {L : Lane} {w : Nat} (hd : L.wpDue w = true) (h : ∀ k, k < L.wpFirst w → L.wpDue k = false) :
    L.wpCross w = L.wpFire w (fun _ => false) (fun _ => true) := by
  have ha : (List.range (L.wpFirst w)).any L.wpDue = false := List.any_eq_false.mpr fun k hk => by simp [h k (List.mem_range.mp hk)]
  unfold Lane.wpCross
  exact if_pos (by rw [hd]; exact congrArg (!·) ha)

/-! ### The two of a pair (R79) -/

/-- BOTH and BY_PARTNER of a pair. -/
def Lane.wpShowPair (L : Lane) (k : Nat) (both by_ : Bool) : Lane :=
  (L.setF (R.RKN_WP_STAT k) F.RKN_WP_STAT_BOTH (b2n both)).setF (R.RKN_WP_STAT k) F.RKN_WP_STAT_BY_PARTNER (b2n by_)

theorem Lane.wpFire_pair {L : Lane} {w k : Nat} (hp : L.wpPair w = some k) : L.wpFire w (fun _ => false) (fun _ => true) =
    ((if L.wpDue (wpOther w) then (L.wpRecord k false true).wpRecord (k + 1) false true
      else (L.wpRecord w false true).wpFollow (wpOther w)).wpShowPair k (L.wpDue (wpOther w)) (!L.wpDue (wpOther w) && decide (w ≠ k))).wpAction k := by
  unfold Lane.wpFire
  rw [hp]
  rfl

theorem Lane.wpShowPair_state (L : Lane) (k : Nat) (both by_ : Bool) :
    (L.wpShowPair k both by_).on (R.RKN_WP_STAT k) F.RKN_WP_STAT_BOTH = both ∧ (L.wpShowPair k both by_).on (R.RKN_WP_STAT k) F.RKN_WP_STAT_BY_PARTNER = by_ := by
  have hb : ∀ (X : Lane) (f : Bf) (b : Bool), f.lo + f.wid ≤ 32 → f.wid = 1 → (X.setF (R.RKN_WP_STAT k) f (b2n b)).on (R.RKN_WP_STAT k) f = b := by
    intro X f b h h1
    refine (congrArg (· != 0) (X.fld_setF_same _ f _ h)).trans ?_
    rw [h1]
    cases b <;> rfl
  exact ⟨(Lane.on_setF_field _ _ _ (by decide)).trans (hb _ _ _ (by decide) rfl), hb _ _ _ (by decide) rfl⟩

/-- The other fields of RKN_WP_STAT, and the status of the other waypoints. -/
theorem Lane.fld_wpShowPair (L : Lane) (k j : Nat) (both by_ : Bool) {g : Bf}
    (hb : F.RKN_WP_STAT_BOTH.lo + F.RKN_WP_STAT_BOTH.wid ≤ g.lo ∨ g.lo + g.wid ≤ F.RKN_WP_STAT_BOTH.lo)
    (hp : F.RKN_WP_STAT_BY_PARTNER.lo + F.RKN_WP_STAT_BY_PARTNER.wid ≤ g.lo ∨ g.lo + g.wid ≤ F.RKN_WP_STAT_BY_PARTNER.lo) :
    (L.wpShowPair k both by_).fld (R.RKN_WP_STAT j) g = L.fld (R.RKN_WP_STAT j) g := by
  by_cases h : j = k
  · subst h
    exact (Lane.fld_setF_field _ _ _ hp).trans (L.fld_setF_field _ _ hb)
  · exact congrArg g.get ((Lane.rd_setF_other _ _ _ (RKN_WP_STAT_ne_STAT h)).trans (L.rd_setF_other _ _ (RKN_WP_STAT_ne_STAT h)))

theorem Lane.rd_wpShowPair (L : Lane) (k : Nat) (both by_ : Bool) {r : Reg} (h : r.addr ≠ (R.RKN_WP_STAT k).addr) : (L.wpShowPair k both by_).rd r = L.rd r :=
  (Lane.rd_setF_other _ _ _ h).trans (L.rd_setF_other _ _ h)

/-- A firing leaves the status of every other waypoint. -/
theorem Lane.rd_STAT_wpRecord_other {L : Lane} {w x : Nat} (hw : w < 128) (hx : x < 128) (h : x ≠ w) (late adv : Bool) :
    (L.wpRecord w late adv).rd (R.RKN_WP_STAT x) = L.rd (R.RKN_WP_STAT x) := by
  refine (Lane.Records.wpRecord hw late adv).rd (not_mem_firedRegs (RKN_WP_STAT_ne_STAT h) (RKN_WP_STAT_ne_CMP x w) ?_ ?_) <;>
  · simp only [R.RKN_WP_STAT, R.RKN_FAULT]
    omega

section
variable {L : Lane} {k : Nat} (hk : k + 1 < 128)
include hk

/-- Two that are due fire together. -/
theorem Lane.wpBoth_state : let X := (L.wpRecord k false true).wpRecord (k + 1) false true
    (∀ j, j = k ∨ j = k + 1 → X.on (R.RKN_WP_STAT j) F.RKN_WP_STAT_FIRED = true
      ∧ X.fld (R.RKN_WP_STAT j) F.RKN_WP_STAT_COUNT = (L.fld (R.RKN_WP_STAT j) F.RKN_WP_STAT_COUNT + 1) % 65536) ∧ X.wpCfg k = L.wpCfg k := by
  have h0 : ((L.wpRecord k false true).wpRecord (k + 1) false true).rd (R.RKN_WP_STAT k) = (L.wpRecord k false true).rd (R.RKN_WP_STAT k) :=
    Lane.rd_STAT_wpRecord_other hk (by omega) (by omega) _ _
  have h1 : (L.wpRecord k false true).rd (R.RKN_WP_STAT (k + 1)) = L.rd (R.RKN_WP_STAT (k + 1)) := Lane.rd_STAT_wpRecord_other (by omega) hk (by omega) _ _
  refine ⟨fun j hj => ?_, (Lane.wpCfg_wpRecord hk _ _ (by omega)).trans (Lane.wpCfg_wpRecord (by omega) _ _ (by omega))⟩
  obtain rfl | rfl := hj
  · exact ⟨(congrArg F.RKN_WP_STAT_FIRED.on h0).trans (Lane.on_FIRED_wpRecord (by omega) _ _),
      (congrArg F.RKN_WP_STAT_COUNT.get h0).trans (Lane.fld_COUNT_wpRecord (by omega) _ _)⟩
  · refine ⟨Lane.on_FIRED_wpRecord hk _ _, (Lane.fld_COUNT_wpRecord hk _ _).trans ?_⟩
    rw [Lane.fld, h1, ← Lane.fld]

end

section
variable {L : Lane} {w o : Nat} (hw : w < 128) (ho : o < 128) (hne : o ≠ w)
include hw ho hne

/-- One that is due alone fires, and the other's compare value follows its reckoner. -/
theorem Lane.wpAlone_state : let X := (L.wpRecord w false true).wpFollow o
    X.on (R.RKN_WP_STAT w) F.RKN_WP_STAT_FIRED = true
      ∧ X.fld (R.RKN_WP_STAT w) F.RKN_WP_STAT_COUNT = (L.fld (R.RKN_WP_STAT w) F.RKN_WP_STAT_COUNT + 1) % 65536
      ∧ X.rd (R.RKN_WP_CMP o) = (if L.wpBack o then L.rknVal (L.wpRkn o) - L.rd (R.RKN_WP_STEP o) else L.rknVal (L.wpRkn o) + L.rd (R.RKN_WP_STEP o))
      ∧ ∀ k, k < 128 → X.wpCfg k = L.wpCfg k := by
  have hst : ((L.wpRecord w false true).wpFollow o).rd (R.RKN_WP_STAT w) = (L.wpRecord w false true).rd (R.RKN_WP_STAT w) :=
    Lane.rd_wr_other _ _ (RKN_WP_STAT_ne_CMP w o)
  have hr := Lane.Records.wpRecord hw false true (L := L)
  have hback : (L.wpRecord w false true).wpBack o = L.wpBack o := by
    rw [Lane.wpBack, Lane.wp_wpRecord, Tab.at_upd_other _ _ hne, Lane.wpBack]
  have hval : (L.wpRecord w false true).rknVal ((L.wpRecord w false true).wpRkn o) = L.rknVal (L.wpRkn o) := by
    rw [hr.rknVal, Lane.wpRkn, Lane.wpCfg_wpRecord hw _ _ ho, Lane.wpRkn]
  have hstep : (L.wpRecord w false true).rd (R.RKN_WP_STEP o) = L.rd (R.RKN_WP_STEP o) := by
    refine hr.rd (not_mem_firedRegs (RKN_WP_STAT_ne_STEP w o).symm (RKN_WP_CMP_ne_STEP w o).symm ?_ ?_) <;>
    · simp only [R.RKN_WP_STEP, R.RKN_FAULT]
      omega
  refine ⟨(congrArg F.RKN_WP_STAT_FIRED.on hst).trans (Lane.on_FIRED_wpRecord hw _ _),
    (congrArg F.RKN_WP_STAT_COUNT.get hst).trans (Lane.fld_COUNT_wpRecord hw _ _), (Lane.rd_wr_same _ _ _).trans ?_, fun k hk => ?_⟩
  · rw [hback, hval, hstep]
  · exact (Lane.rd_wr_other _ _ (RKN_WP_CMP_ne_CFG o k).symm).trans (Lane.wpCfg_wpRecord hw _ _ hk)

end

/-! ### The crossing -/

theorem quietAction_wpShowPair {L X : Lane} {k : Nat} (both by_ : Bool) (hc : X.wpCfg k = L.wpCfg k) (hq : quietAction L k) :
    (X.wpShowPair k both by_).wpAction k = X.wpShowPair k both by_ := by
  refine Lane.wpAction_quiet ?_
  rw [quietAction, Lane.wpCfg, X.rd_wpShowPair k _ _ (RKN_WP_STAT_ne_CFG k k).symm, ← Lane.wpCfg, hc]
  exact hq

section
variable {L : Lane} {w k : Nat} (hw : w < 128) (hp : L.wpPair w = some k) (hd : L.wpDue w = true) (hq : quietAction L k)
include hw hp hd hq

theorem wpCross_both (ho : L.wpDue (wpOther w) = true) (hf : ∀ j, j < k → L.wpDue j = false) :
    (L.wpCross w).on (R.RKN_WP_STAT k) F.RKN_WP_STAT_FIRED = true ∧ (L.wpCross w).on (R.RKN_WP_STAT (k + 1)) F.RKN_WP_STAT_FIRED = true
      ∧ (L.wpCross w).on (R.RKN_WP_STAT k) F.RKN_WP_STAT_BOTH = true ∧ (L.wpCross w).on (R.RKN_WP_STAT k) F.RKN_WP_STAT_BY_PARTNER = false
      ∧ ∀ j, j = k ∨ j = k + 1 → (L.wpCross w).fld (R.RKN_WP_STAT j) F.RKN_WP_STAT_COUNT = (L.fld (R.RKN_WP_STAT j) F.RKN_WP_STAT_COUNT + 1) % 65536 := by
  have hk := Lane.wpPair_eq hp
  obtain ⟨hx, hc⟩ := Lane.wpBoth_state (L := L) (k := k) (by omega)
  have e : L.wpCross w = ((L.wpRecord k false true).wpRecord (k + 1) false true).wpShowPair k true false := by
    rw [Lane.wpCross_due hd (by rw [Lane.wpFirst, hp, ho]; exact hk ▸ hf), Lane.wpFire_pair hp, ho]
    exact quietAction_wpShowPair true false hc hq
  rw [e]
  generalize (L.wpRecord k false true).wpRecord (k + 1) false true = X at hx
  obtain ⟨hs1, hs2⟩ := X.wpShowPair_state k true false
  have hfired : ∀ j, j = k ∨ j = k + 1 → (X.wpShowPair k true false).on (R.RKN_WP_STAT j) F.RKN_WP_STAT_FIRED = true := fun j hj =>
    (congrArg (· != 0) (X.fld_wpShowPair k j _ _ (by decide) (by decide))).trans (hx j hj).1
  exact ⟨hfired k (.inl rfl), hfired (k + 1) (.inr rfl), hs1, hs2, fun j hj => (X.fld_wpShowPair k j _ _ (by decide) (by decide)).trans (hx j hj).2⟩

theorem wpCross_alone (ho : L.wpDue (wpOther w) = false) (hf : ∀ j, j < w → L.wpDue j = false) :
    (L.wpCross w).on (R.RKN_WP_STAT w) F.RKN_WP_STAT_FIRED = true ∧ (L.wpCross w).on (R.RKN_WP_STAT k) F.RKN_WP_STAT_BOTH = false
      ∧ (L.wpCross w).on (R.RKN_WP_STAT k) F.RKN_WP_STAT_BY_PARTNER = decide (w ≠ k)
      ∧ (L.wpCross w).fld (R.RKN_WP_STAT w) F.RKN_WP_STAT_COUNT = (L.fld (R.RKN_WP_STAT w) F.RKN_WP_STAT_COUNT + 1) % 65536
      ∧ (L.wpCross w).rd (R.RKN_WP_CMP (wpOther w)) = (if L.wpBack (wpOther w) then L.rknVal (L.wpRkn (wpOther w)) - L.rd (R.RKN_WP_STEP (wpOther w))
          else L.rknVal (L.wpRkn (wpOther w)) + L.rd (R.RKN_WP_STEP (wpOther w))) := by
  have hk := Lane.wpPair_eq hp
  obtain ⟨hne, hlt⟩ : wpOther w ≠ w ∧ wpOther w < 128 := by unfold wpOther; split <;> omega
  obtain ⟨h1, h2, h3, hc⟩ := Lane.wpAlone_state hw hlt hne (L := L)
  have e : L.wpCross w = ((L.wpRecord w false true).wpFollow (wpOther w)).wpShowPair k false (decide (w ≠ k)) := by
    rw [Lane.wpCross_due hd (by rw [Lane.wpFirst, ho, Bool.and_false]; exact hf), Lane.wpFire_pair hp, ho, Bool.not_false, Bool.true_and]
    exact quietAction_wpShowPair _ _ (hc k (by omega)) hq
  rw [e]
  generalize (L.wpRecord w false true).wpFollow (wpOther w) = X at h1 h2 h3
  obtain ⟨hs1, hs2⟩ := X.wpShowPair_state k false (decide (w ≠ k))
  exact ⟨(congrArg (· != 0) (X.fld_wpShowPair k w _ _ (by decide) (by decide))).trans h1, hs1, hs2, (X.fld_wpShowPair k w _ _ (by decide) (by decide)).trans h2,
    (X.rd_wpShowPair k _ _ (RKN_WP_STAT_ne_CMP k _).symm).trans h3⟩

end

theorem wpCross_single {L : Lane} {w : Nat} (hw : w < 128) (hp : L.wpPair w = none) (hd : L.wpDue w = true) (hf : ∀ k, k < w → L.wpDue k = false)
    (hq : quietAction L w) : firesAs L (L.wpCross w) w (L.wpBack w) false ∧ (L.wpCross w).wpArmed w = L.wpRepeat w := by
  have harmed : L.wpArmed w = true := by
    simp only [Lane.wpDue, Bool.and_eq_true] at hd
    exact hd.1.1.2
  rw [Lane.wpCross_due hd (by rw [Lane.wpFirst, hp]; exact hf), Lane.wpFire_quiet hw hp hq]
  refine ⟨Lane.firesAs_wpRecord hw false, ?_⟩
  rw [Lane.wpArmed_wpRecord hw, harmed, Bool.true_and]

/-- What the lane has put on its links is not part of what a crossing leaves. -/
theorem Lane.Frame.sent (L : Lane) : Lane.Frame [] L { L with outP := [], outR := [] } := Lane.Frame.of_eq rfl rfl rfl _

theorem firesAs_sent {L N : Lane} {w : Nat} {b late : Bool} (h : firesAs L N w b late ∧ N.wpArmed w = L.wpRepeat w) :
    firesAs L { N with outP := [], outR := [] } w b late ∧ Lane.wpArmed { N with outP := [], outR := [] } w = L.wpRepeat w := h

theorem RKN_WP_CMP_ne_INCTL (w : Fin 128) : (R.RKN_WP_CMP w).addr ≠ R.BMB_INCTL.addr := by
  simp only [R.RKN_WP_CMP, R.BMB_INCTL]
  omega

/-- Settles O9: an arming waits or fires by the place of its compare value, a firing records and advances, and every command that arms, disarms, compares or crosses
is one of these after the register written. -/
theorem waypoints : Obligations.Waypoints := by
  refine ⟨fun s l w v hq => waypointArm_arms hq l w v, fun s l w v hq => ⟨?_, ?_⟩, fun s l w => ?_⟩
  · refine RunsLane.of_write_settled rfl hq (RKN_WP_CMP_ne_INCTL w) fun M hM => ?_
    exact ⟨wpCmp_unarmed (hq l) hM, wpCmp_armed (hq l) hM, wpCmp_due (hq l) hM⟩
  · refine RunsLane.of_write_settled rfl hq (RKN_WP_CFG_ne_INCTL w) fun M hM => ?_
    exact ⟨wpDisarm_cfg hM, wpDisarm_unarmed (hq l) hM, fun ha => ⟨wpDisarm_armed hM ha, wpDisarm_waiting (hq l) hM ha, wpDisarm_due (hq l) hM ha⟩⟩
  · refine RunsLane.of_run rfl ⟨fun hd => ?_, fun hp hk => ?_, fun hp hd hf hq => ?_, fun k hp hd hq => ⟨fun ho hf => ?_, fun ho hf => ?_⟩⟩
    · rw [Lane.wpCross_idle hd]
      exact Lane.Frame.sent _
    · rw [Lane.wpCross_behind hp hk]
      exact Lane.Frame.sent _
    · exact firesAs_sent (wpCross_single w.isLt hp hd hf hq)
    · exact wpCross_both w.isLt hp hd hq ho hf
    · exact wpCross_alone w.isLt hp hd hq ho hf

end Sys2Proof.Machine
end

section
/-! Control of an axis logbook (R222 to R225). -/

namespace Sys2Proof.Machine

/-! ### The registers of a logbook -/

theorem AX_LBST_ne_LBCFG (a : Nat) : (R.AX_LBST a).addr ≠ (R.AX_LBCFG a).addr := by
  simp only [R.AX_LBST, R.AX_LBCFG]
  omega
theorem AX_LBWP_ne_LBCFG (a : Nat) : (R.AX_LBWP a).addr ≠ (R.AX_LBCFG a).addr := by
  simp only [R.AX_LBWP, R.AX_LBCFG]
  omega
theorem AX_LBST_ne_LBWP (a : Nat) : (R.AX_LBST a).addr ≠ (R.AX_LBWP a).addr := by
  simp only [R.AX_LBST, R.AX_LBWP]
  omega
theorem AX_BANK_ne_LBST (a x : Nat) : (R.AX_BANK x).addr ≠ (R.AX_LBST a).addr := by
  simp only [R.AX_BANK, R.AX_LBST]
  omega
theorem AX_BANK_ne_LBCFG (a x : Nat) : (R.AX_BANK x).addr ≠ (R.AX_LBCFG a).addr := by
  simp only [R.AX_BANK, R.AX_LBCFG]
  omega
theorem AX_BANK_ne_LBWP (a x : Nat) : (R.AX_BANK x).addr ≠ (R.AX_LBWP a).addr := by
  simp only [R.AX_BANK, R.AX_LBWP]
  omega

/-! ### States -/

/-- The lane after a state has been entered. -/
theorem Lane.lbSet_state (L : Lane) (a : Nat) {n : Nat} (h : n < 4) :
    (L.lbSet a n).lbSt a = n ∧ (L.lbSet a n).on (R.AX_LBCFG a) F.AX_LBCFG_ACTIVE = decide (n = 1 ∨ n = 2) := by
  refine ⟨?_, (congrArg (· != 0) (Lane.fld_setF_same _ _ _ _ (by decide))).trans ?_⟩
  · refine (congrArg F.AX_LBST_STATE.get (Lane.rd_setF_other _ _ _ (AX_LBST_ne_LBCFG a))).trans ((L.fld_setF_same _ _ n (by decide)).trans ?_)
    exact Nat.mod_eq_of_lt h
  · cases decide (n = 1 ∨ n = 2) <;> rfl

/-- The other fields of AX_LBST. -/
theorem Lane.on_LBST_lbSet (L : Lane) (a n : Nat) {g : Bf} (h : F.AX_LBST_STATE.lo + F.AX_LBST_STATE.wid ≤ g.lo ∨ g.lo + g.wid ≤ F.AX_LBST_STATE.lo) :
    (L.lbSet a n).on (R.AX_LBST a) g = L.on (R.AX_LBST a) g :=
  (Lane.on_setF_other _ _ _ _ (AX_LBST_ne_LBCFG a)).trans (L.on_setF_field _ _ h)

theorem Lane.Frame.lbSet (L : Lane) (a n : Nat) : Lane.Frame [(R.AX_LBCFG a).addr, (R.AX_LBST a).addr] L (L.lbSet a n) :=
  ((Lane.Frame.refl _ L).setFIn (by simp) fun x _ => AX_BANK_ne_LBST a x).setFIn (by simp) fun x _ => AX_BANK_ne_LBCFG a x

/-- Pre-trigger (R222). -/
theorem Lane.lbStart_state (L : Lane) (a : Nat) :
    (L.lbStart a).lbSt a = 1 ∧ (L.lbStart a).on (R.AX_LBCFG a) F.AX_LBCFG_ACTIVE = true ∧ (L.lbStart a).rd (R.AX_LBWP a) = 0
      ∧ ((L.lbStart a).ax.at a).lbTrig = 0 := by
  obtain ⟨h1, h2⟩ := L.lbSet_state a (n := 1) (by decide)
  refine ⟨?_, ?_, ?_, ?_⟩
  · exact (((L.lbSet a 1).wr (R.AX_LBWP a) 0).fld_setF_field (R.AX_LBST a) 0 (by decide)).trans
      ((congrArg F.AX_LBST_STATE.get ((L.lbSet a 1).rd_wr_other 0 (AX_LBST_ne_LBWP a))).trans h1)
  · exact (((L.lbSet a 1).wr (R.AX_LBWP a) 0).on_setF_other F.AX_LBST_WRAPPED 0 _ (AX_LBST_ne_LBCFG a).symm).trans
      (((L.lbSet a 1).on_wr_other 0 _ (AX_LBWP_ne_LBCFG a).symm).trans h2)
  · exact (((L.lbSet a 1).wr (R.AX_LBWP a) 0).rd_setF_other F.AX_LBST_WRAPPED 0 (AX_LBST_ne_LBWP a).symm).trans ((L.lbSet a 1).rd_wr_same _ _)
  · unfold Lane.lbStart
    rw [Lane.ax_updAx, Tab.at_upd_same]

theorem Lane.Frame.lbStart (L : Lane) (a : Nat) : Lane.Frame [(R.AX_LBCFG a).addr, (R.AX_LBST a).addr, (R.AX_LBWP a).addr] L (L.lbStart a) := by
  have h : Lane.Frame [(R.AX_LBCFG a).addr, (R.AX_LBST a).addr, (R.AX_LBWP a).addr] L (L.lbSet a 1) := (Lane.Frame.lbSet L a 1).mono (by simp)
  have hp := h.wrIn (r := R.AX_LBWP a) (v := 0) (by simp) fun x _ => AX_BANK_ne_LBWP a x
  have hs := hp.setFIn (r := R.AX_LBST a) (f := F.AX_LBST_WRAPPED) (n := 0) (by simp) fun x _ => AX_BANK_ne_LBST a x
  exact hs.trans (Lane.Frame.of_eq rfl rfl rfl _)

/-- A trigger event notes its source. -/
theorem Lane.lbTrig_upd (L : Lane) (a src : Nat) :
    ((L.updAx a fun x => { x with lbTrig := x.lbTrig ||| 2 ^ src }).ax.at a).lbTrig = (L.ax.at a).lbTrig ||| 2 ^ src := by
  rw [Lane.ax_updAx, Tab.at_upd_same]

/-! ### Writes of AX_LBCFG -/

/-- The row of AX_LBCFG. -/
def lbCfgRow : RegRow := ⟨0x40040200, 12, 0x1000, 1, 0x4, 0x30, 0xF71, 0x0, 0x0, 0x0, false⟩
/-- The lane with AX_LBCFG written. -/
def Lane.lbStored (L : Lane) (a : Nat) (v : Word) : Lane := L.storedIn lbCfgRow (R.AX_LBCFG a).addr v

theorem lbCfg_facts (a : Fin 12) : (R.AX_LBCFG a).addr / 0x10000 = 0x4004 ∧ ((R.AX_LBCFG a).addr - 0x40040000) / 0x1000 = a.val
    ∧ grpOf (R.AX_LBCFG a).addr (R.AX_CFG 0) 0x1000 12 = some a.val ∧ idxOf (R.AX_LBCFG a).addr (R.RKN_WP_CMP 0) 0x20 128 = none
    ∧ storeSpecial (R.AX_LBCFG a).addr = false := by
  revert a
  decide +kernel

theorem Lane.written_lbCfg (L old : Lane) (a : Fin 12) (v : Word) : L.written old (R.AX_LBCFG a).addr v =
    L.lbWritten a (old.on (R.AX_LBCFG a) F.AX_LBCFG_EN) (F.AX_LBCFG_SWTRIG.on v) (F.AX_LBCFG_REARM.on v) := by
  obtain ⟨hw, hx, -, -, -⟩ := lbCfg_facts a
  have h1 : (R.AX_LBCFG a).addr ≠ (R.AX_CFG a).addr := by
    simp only [R.AX_LBCFG, R.AX_CFG]
    omega
  have h2 : (R.AX_LBCFG a).addr ≠ (R.AX_BIND a).addr := by
    simp only [R.AX_LBCFG, R.AX_BIND]
    omega
  simp only [Lane.written, hw, Lane.onAx, hx, h1, h2, (AX_BANK_ne_LBCFG a a).symm, if_false, if_true]

/-- A write of AX_LBCFG, which nothing refuses. -/
theorem RunsLane.lbCfg {i : Instr} {s : State} {l : LaneId} {a : Fin 12} {v : Word} {N : Lane} {Q : Lane → Lane → Prop}
    (he : exec i s = s.write l (R.AX_LBCFG a) v) (hq : s.Quiet)
    (hN : ((s.lane l).lbStored a v).lbWritten a ((s.lane l).on (R.AX_LBCFG a) F.AX_LBCFG_EN) (F.AX_LBCFG_SWTRIG.on v) (F.AX_LBCFG_REARM.on v) = N)
    (hh : N.hn = (s.lane l).hn) (hQ : Q (s.lane l) { N with outP := [], outR := [] }) : RunsLane i s l Q := by
  obtain ⟨hw, -, hg, hc, -⟩ := lbCfg_facts a
  refine RunsLane.of_row he hq ?_ (regRow_AX_LBCFG a) (Lane.absentReg_other _ (by omega) (by omega)) (.inl rfl) ?_ hc ?_ (by rw [hh]; exact hq l) hQ
  · simp only [R.AX_LBCFG, R.BMB_INCTL]
    omega
  · have hm : ([R.AX_LBMASK a, R.AX_LBBASE a, R.AX_LBLEN a, R.AX_LBPOST a].any fun r => decide (r.addr = (R.AX_LBCFG a).addr)) = false := by
      simp [R.AX_LBMASK, R.AX_LBBASE, R.AX_LBLEN, R.AX_LBPOST, R.AX_LBCFG]
    unfold Lane.refusal
    simp only [hg, hm]
    simp
  · rw [Lane.written_lbCfg]
    exact hN

section
variable (L : Lane) (a : Fin 12) (v : Word)

theorem Lane.rd_lbStored : (L.lbStored a v).rd (R.AX_LBCFG a) = L.taken (R.AX_LBCFG a) 0xF71 v :=
  L.rd_storedIn_plain v (lbCfg_facts a).2.2.2.2 rfl rfl

theorem Lane.on_EN_lbStored : (L.lbStored a v).on (R.AX_LBCFG a) F.AX_LBCFG_EN = F.AX_LBCFG_EN.on v := by
  rw [Lane.on, Lane.rd_lbStored]
  exact congrArg (· != 0) (L.get_taken _ v (by decide))

theorem Lane.Frame.lbStored : Lane.Frame [(R.AX_LBCFG a).addr] L (L.lbStored a v) := Lane.Frame.storedIn L _ v fun x _ => AX_BANK_ne_LBCFG a x

theorem Lane.rd_LBST_lbStored : (L.lbStored a v).rd (R.AX_LBST a) = L.rd (R.AX_LBST a) := L.rd_storedIn_other _ v (AX_LBST_ne_LBCFG a)

/-- The check of R225 speaks of registers alone. -/
theorem Lane.lbFails_congr {L M : Lane} (h : M.regs = L.regs) (a : Nat) : M.lbFails a = L.lbFails a := by
  have hlen : ∀ b, M.lbLen b = L.lbLen b := fun b => by rw [Lane.lbLen, Lane.rd_congr h, Lane.lbLen]
  have hbase : ∀ b, M.lbBase b = L.lbBase b := fun b => by rw [Lane.lbBase, Lane.rd_congr h, Lane.lbBase]
  have hpost : M.lbPost a = L.lbPost a := by rw [Lane.lbPost, Lane.rd_congr h, Lane.lbPost]
  have hwords : ∀ b, M.lbWords b = L.lbWords b := fun b => by simp only [Lane.lbWords, Lane.lbProbes, Lane.rd_congr h]
  have hst : ∀ b, M.lbSt b = L.lbSt b := fun b => congrArg F.AX_LBST_STATE.get (Lane.rd_congr h _)
  simp only [Lane.lbFails, hlen, hbase, hpost, hwords, hst, Lane.rd_congr h]

theorem Lane.lbFails_lbStored : (L.lbStored a v).lbFails a = (L.wr (R.AX_LBCFG a) (L.taken (R.AX_LBCFG a) 0xF71 v)).lbFails a :=
  Lane.lbFails_congr (L.regs_storedIn v (lbCfg_facts a).2.2.2.2 rfl rfl) a

end

/-! ### What the write does -/

theorem Lane.lbWritten_enabled {L : Lane} {a : Nat} (he : L.on (R.AX_LBCFG a) F.AX_LBCFG_EN = true) (hc : (L.ax.at a).lbClosing = 0) :
    L.lbWritten a false false false = L.lbEnable a := by simp [Lane.lbWritten, he, hc]

theorem Lane.lbWritten_disabled {L : Lane} {a : Nat} (he : L.on (R.AX_LBCFG a) F.AX_LBCFG_EN = false) (hr : L.axRunning a = false) :
    L.lbWritten a true false false = if L.lbSt a = 3 ∧ (L.ax.at a).lbDoneAt = L.ticks + 1 then L.raise (R.AX_LBST a) F.AX_LBST_ABORT_LATE
      else (L.setF (R.AX_LBST a) F.AX_LBST_ABORT_LATE 0).lbSet a 0 := by
  have hx : (L.setF (R.AX_LBST a) F.AX_LBST_ABORT_LATE 0).axRunning a = false := hr
  simp [Lane.lbWritten, he, hx]

theorem Lane.lbWritten_triggered {L : Lane} {a : Nat} (he : L.on (R.AX_LBCFG a) F.AX_LBCFG_EN = true) : L.lbWritten a true true false = L.lbEvent a 2 := by
  simp [Lane.lbWritten, he]

theorem Lane.lbWritten_rearmed {L : Lane} {a : Nat} (he : L.on (R.AX_LBCFG a) F.AX_LBCFG_EN = true) :
    L.lbWritten a true false true = if L.lbSt a = 3 then L.lbStart a else L := by simp [Lane.lbWritten, he]

/-! ### The commands -/

section
variable {s : State} (hq : s.Quiet) (l : LaneId) (a : Fin 12) (v : Word)
include hq

theorem RunsLane.logbookEnable (he : (s.lane l).on (R.AX_LBCFG a) F.AX_LBCFG_EN = false) (hc : ((s.lane l).ax.at a).lbClosing = 0)
    (hp : F.AX_LBCFG_SWTRIG.on v = false ∧ F.AX_LBCFG_REARM.on v = false) :
    RunsLane (.logbookEnable l a v) s l fun L M =>
      let N := L.wr (R.AX_LBCFG a) (L.taken (R.AX_LBCFG a) 0xF71 (F.AX_LBCFG_EN.set v 1))
      (N.lbFails a = true → M.on (R.AX_LBST a) F.AX_LBST_CFGERR = true ∧ M.lbSt a = L.lbSt a)
        ∧ (N.lbFails a = false → M.lbSt a = 1 ∧ M.on (R.AX_LBCFG a) F.AX_LBCFG_ACTIVE = true ∧ M.rd (R.AX_LBWP a) = 0 ∧ (M.ax.at a).lbTrig = 0)
        ∧ Lane.Frame [(R.AX_LBCFG a).addr, (R.AX_LBST a).addr, (R.AX_LBWP a).addr] L M := by
  have hs : F.AX_LBCFG_SWTRIG.on (F.AX_LBCFG_EN.set v 1) = false := (congrArg (· != 0) (Bf.get_set_other _ _ _ _ (by decide))).trans hp.1
  have hr : F.AX_LBCFG_REARM.on (F.AX_LBCFG_EN.set v 1) = false := (congrArg (· != 0) (Bf.get_set_other _ _ _ _ (by decide))).trans hp.2
  have hen : ((s.lane l).lbStored a (F.AX_LBCFG_EN.set v 1)).on (R.AX_LBCFG a) F.AX_LBCFG_EN = true := by
    rw [Lane.on_EN_lbStored, Bf.on_set_flag (by decide)]
    rfl
  have hF := Lane.Frame.lbStored (s.lane l) a (F.AX_LBCFG_EN.set v 1)
  have hst := (s.lane l).rd_LBST_lbStored a (F.AX_LBCFG_EN.set v 1)
  have hfail := (s.lane l).lbFails_lbStored a (F.AX_LBCFG_EN.set v 1)
  have hw := Lane.lbWritten_enabled hen (show (((s.lane l).lbStored a (F.AX_LBCFG_EN.set v 1)).ax.at a).lbClosing = 0 from hc)
  have hrun : ∀ {N : Lane} {Q : Lane → Lane → Prop}, ((s.lane l).lbStored a (F.AX_LBCFG_EN.set v 1)).lbWritten a false false false = N → N.hn = (s.lane l).hn →
      Q (s.lane l) { N with outP := [], outR := [] } → RunsLane (.logbookEnable l a v) s l Q := fun hN hh hQ =>
    RunsLane.lbCfg rfl hq (by rw [he, hs, hr]; exact hN) hh hQ
  have hhn : ((s.lane l).lbStored a (F.AX_LBCFG_EN.set v 1)).hn = (s.lane l).hn := rfl
  rw [Lane.lbEnable, hfail] at hw
  generalize (s.lane l).lbStored a (F.AX_LBCFG_EN.set v 1) = S at *
  cases hb : ((s.lane l).wr (R.AX_LBCFG a) ((s.lane l).taken (R.AX_LBCFG a) 0xF71 (F.AX_LBCFG_EN.set v 1))).lbFails a
  · rw [hb, if_neg Bool.false_ne_true] at hw
    refine hrun hw hhn ⟨fun h => absurd (hb.symm.trans h) Bool.false_ne_true, fun _ => S.lbStart_state a, (hF.mono (by simp)).trans (Lane.Frame.lbStart S a)⟩
  · rw [hb, if_pos rfl] at hw
    refine hrun hw hhn ⟨fun _ => ⟨S.on_raise_same _ _ (by decide) (by decide), ?_⟩, fun h => absurd (hb.symm.trans h).symm Bool.false_ne_true, ?_⟩
    · exact (S.fld_raise_field _ (by decide)).trans (congrArg F.AX_LBST_STATE.get hst)
    · exact (hF.mono (by simp)).raiseIn (by simp) fun x _ => AX_BANK_ne_LBST a x

theorem RunsLane.logbookDisable (he : (s.lane l).on (R.AX_LBCFG a) F.AX_LBCFG_EN = true) (hx : (s.lane l).axRunning a = false)
    (hp : F.AX_LBCFG_SWTRIG.on v = false ∧ F.AX_LBCFG_REARM.on v = false) :
    RunsLane (.logbookDisable l a v) s l fun L M =>
      (L.lbSt a = 3 → (L.ax.at a).lbDoneAt = L.ticks + 1 → M.lbSt a = 3 ∧ M.on (R.AX_LBST a) F.AX_LBST_ABORT_LATE = true)
        ∧ (L.lbSt a ≠ 3 ∨ (L.ax.at a).lbDoneAt ≠ L.ticks + 1 → M.lbSt a = 0 ∧ M.on (R.AX_LBST a) F.AX_LBST_ABORT_LATE = false
            ∧ M.on (R.AX_LBCFG a) F.AX_LBCFG_ACTIVE = false)
        ∧ Lane.Frame [(R.AX_LBCFG a).addr, (R.AX_LBST a).addr] L M := by
  have hs : F.AX_LBCFG_SWTRIG.on (F.AX_LBCFG_EN.set v 0) = false := (congrArg (· != 0) (Bf.get_set_other _ _ _ _ (by decide))).trans hp.1
  have hr : F.AX_LBCFG_REARM.on (F.AX_LBCFG_EN.set v 0) = false := (congrArg (· != 0) (Bf.get_set_other _ _ _ _ (by decide))).trans hp.2
  have hen : ((s.lane l).lbStored a (F.AX_LBCFG_EN.set v 0)).on (R.AX_LBCFG a) F.AX_LBCFG_EN = false := by
    rw [Lane.on_EN_lbStored, Bf.on_set_flag (by decide)]
    rfl
  have hF := (Lane.Frame.lbStored (s.lane l) a (F.AX_LBCFG_EN.set v 0)).mono (qs := [(R.AX_LBCFG a).addr, (R.AX_LBST a).addr]) (by simp)
  have hst : ((s.lane l).lbStored a (F.AX_LBCFG_EN.set v 0)).lbSt a = (s.lane l).lbSt a := congrArg F.AX_LBST_STATE.get ((s.lane l).rd_LBST_lbStored a _)
  have hw := Lane.lbWritten_disabled hen (show ((s.lane l).lbStored a (F.AX_LBCFG_EN.set v 0)).axRunning a = false from hx)
  have hrun : ∀ {N : Lane} {Q : Lane → Lane → Prop}, ((s.lane l).lbStored a (F.AX_LBCFG_EN.set v 0)).lbWritten a true false false = N → N.hn = (s.lane l).hn →
      Q (s.lane l) { N with outP := [], outR := [] } → RunsLane (.logbookDisable l a v) s l Q := fun hN hh hQ =>
    RunsLane.lbCfg rfl hq (by rw [he, hs, hr]; exact hN) hh hQ
  have hhn : ((s.lane l).lbStored a (F.AX_LBCFG_EN.set v 0)).hn = (s.lane l).hn := rfl
  have hax : ((s.lane l).lbStored a (F.AX_LBCFG_EN.set v 0)).ax = (s.lane l).ax := rfl
  have htk : ((s.lane l).lbStored a (F.AX_LBCFG_EN.set v 0)).ticks = (s.lane l).ticks := rfl
  rw [hst, hax, htk] at hw
  generalize (s.lane l).lbStored a (F.AX_LBCFG_EN.set v 0) = S at *
  by_cases hb : (s.lane l).lbSt a = 3 ∧ ((s.lane l).ax.at a).lbDoneAt = (s.lane l).ticks + 1
  · rw [if_pos hb] at hw
    refine hrun hw hhn ⟨fun _ _ => ⟨?_, S.on_raise_same _ _ (by decide) (by decide)⟩, fun h => ?_, hF.raiseIn (by simp) fun x _ => AX_BANK_ne_LBST a x⟩
    · exact (S.fld_raise_field _ (by decide)).trans (hst.trans hb.1)
    · exact absurd h (by simp [hb])
  · rw [if_neg hb] at hw
    obtain ⟨h1, h2⟩ := Lane.lbSet_state (S.setF (R.AX_LBST a) F.AX_LBST_ABORT_LATE 0) a (n := 0) (by decide)
    have h3 := (Lane.on_LBST_lbSet (S.setF (R.AX_LBST a) F.AX_LBST_ABORT_LATE 0) a 0 (g := F.AX_LBST_ABORT_LATE) (by decide)).trans (S.on_setF_zero _ _ (by decide))
    have hFr := (hF.setFIn (r := R.AX_LBST a) (f := F.AX_LBST_ABORT_LATE) (n := 0) (by simp) fun x _ => AX_BANK_ne_LBST a x).trans (Lane.Frame.lbSet _ a 0)
    exact hrun hw hhn ⟨fun h h' => absurd ⟨h, h'⟩ hb, fun _ => ⟨h1, h3, h2⟩, hFr⟩

theorem RunsLane.logbookSoftwareTrigger (he : (s.lane l).on (R.AX_LBCFG a) F.AX_LBCFG_EN = true) (hv : F.AX_LBCFG_EN.on v = true)
    (hp : F.AX_LBCFG_REARM.on v = false) :
    RunsLane (.logbookSoftwareTrigger l a v) s l fun L M =>
      (L.lbSt a = 1 → (M.ax.at a).lbTrig = (L.ax.at a).lbTrig ||| 4) ∧ (L.lbSt a ≠ 1 → M.ax = L.ax) ∧ Lane.Frame [(R.AX_LBCFG a).addr] L M := by
  have hs : F.AX_LBCFG_SWTRIG.on (F.AX_LBCFG_SWTRIG.set v 1) = true := Bf.on_set_flag (by decide) v 1
  have hr : F.AX_LBCFG_REARM.on (F.AX_LBCFG_SWTRIG.set v 1) = false := (congrArg (· != 0) (Bf.get_set_other _ _ _ _ (by decide))).trans hp
  have hen : ((s.lane l).lbStored a (F.AX_LBCFG_SWTRIG.set v 1)).on (R.AX_LBCFG a) F.AX_LBCFG_EN = true := by
    rw [Lane.on_EN_lbStored]
    exact (congrArg (· != 0) (Bf.get_set_other _ _ _ _ (by decide))).trans hv
  have hF := Lane.Frame.lbStored (s.lane l) a (F.AX_LBCFG_SWTRIG.set v 1)
  have hst : ((s.lane l).lbStored a (F.AX_LBCFG_SWTRIG.set v 1)).lbSt a = (s.lane l).lbSt a := congrArg F.AX_LBST_STATE.get ((s.lane l).rd_LBST_lbStored a _)
  have hw := Lane.lbWritten_triggered hen
  rw [Lane.lbEvent, hst] at hw
  have hhn : ((s.lane l).lbStored a (F.AX_LBCFG_SWTRIG.set v 1)).hn = (s.lane l).hn := rfl
  have hax : ((s.lane l).lbStored a (F.AX_LBCFG_SWTRIG.set v 1)).ax = (s.lane l).ax := rfl
  have hrun : ∀ {N : Lane} {Q : Lane → Lane → Prop}, ((s.lane l).lbStored a (F.AX_LBCFG_SWTRIG.set v 1)).lbWritten a true true false = N → N.hn = (s.lane l).hn →
      Q (s.lane l) { N with outP := [], outR := [] } → RunsLane (.logbookSoftwareTrigger l a v) s l Q := fun hN hh hQ =>
    RunsLane.lbCfg rfl hq (by rw [he, hs, hr]; exact hN) hh hQ
  generalize (s.lane l).lbStored a (F.AX_LBCFG_SWTRIG.set v 1) = S at *
  by_cases hb : (s.lane l).lbSt a = 1
  · rw [if_pos hb] at hw
    refine hrun hw hhn ⟨fun _ => ?_, fun h => absurd hb h, hF.trans (Lane.Frame.of_eq rfl rfl rfl _)⟩
    exact hax ▸ S.lbTrig_upd a 2
  · rw [if_neg hb] at hw
    exact hrun hw hhn ⟨fun h => absurd h hb, fun _ => hax, hF⟩

theorem RunsLane.logbookRearm (he : (s.lane l).on (R.AX_LBCFG a) F.AX_LBCFG_EN = true) (hv : F.AX_LBCFG_EN.on v = true)
    (hp : F.AX_LBCFG_SWTRIG.on v = false) :
    RunsLane (.logbookRearm l a v) s l fun L M =>
      (L.lbSt a = 3 → M.lbSt a = 1 ∧ M.on (R.AX_LBCFG a) F.AX_LBCFG_ACTIVE = true ∧ M.rd (R.AX_LBWP a) = 0) ∧ (L.lbSt a ≠ 3 → M.lbSt a = L.lbSt a)
        ∧ Lane.Frame [(R.AX_LBCFG a).addr, (R.AX_LBST a).addr, (R.AX_LBWP a).addr] L M := by
  have hs : F.AX_LBCFG_REARM.on (F.AX_LBCFG_REARM.set v 1) = true := Bf.on_set_flag (by decide) v 1
  have hr : F.AX_LBCFG_SWTRIG.on (F.AX_LBCFG_REARM.set v 1) = false := (congrArg (· != 0) (Bf.get_set_other _ _ _ _ (by decide))).trans hp
  have hen : ((s.lane l).lbStored a (F.AX_LBCFG_REARM.set v 1)).on (R.AX_LBCFG a) F.AX_LBCFG_EN = true := by
    rw [Lane.on_EN_lbStored]
    exact (congrArg (· != 0) (Bf.get_set_other _ _ _ _ (by decide))).trans hv
  have hF := Lane.Frame.lbStored (s.lane l) a (F.AX_LBCFG_REARM.set v 1)
  have hst : ((s.lane l).lbStored a (F.AX_LBCFG_REARM.set v 1)).lbSt a = (s.lane l).lbSt a := congrArg F.AX_LBST_STATE.get ((s.lane l).rd_LBST_lbStored a _)
  have hw := Lane.lbWritten_rearmed hen
  rw [hst] at hw
  have hhn : ((s.lane l).lbStored a (F.AX_LBCFG_REARM.set v 1)).hn = (s.lane l).hn := rfl
  have hrun : ∀ {N : Lane} {Q : Lane → Lane → Prop}, ((s.lane l).lbStored a (F.AX_LBCFG_REARM.set v 1)).lbWritten a true false true = N → N.hn = (s.lane l).hn →
      Q (s.lane l) { N with outP := [], outR := [] } → RunsLane (.logbookRearm l a v) s l Q := fun hN hh hQ =>
    RunsLane.lbCfg rfl hq (by rw [he, hs, hr]; exact hN) hh hQ
  generalize (s.lane l).lbStored a (F.AX_LBCFG_REARM.set v 1) = S at *
  by_cases hb : (s.lane l).lbSt a = 3
  · rw [if_pos hb] at hw
    obtain ⟨h1, h2, h3, -⟩ := S.lbStart_state a
    exact hrun hw hhn ⟨fun _ => ⟨h1, h2, h3⟩, fun h => absurd hb h, (hF.mono (by simp)).trans (Lane.Frame.lbStart S a)⟩
  · rw [if_neg hb] at hw
    exact hrun hw hhn ⟨fun h => absurd h hb, fun _ => hst, hF.mono (by simp)⟩

end

/-- Settles O11: each command is a write of AX_LBCFG, and what follows depends on the state of the logbook. -/
theorem logbookControl : Obligations.LogbookControl := fun _ l a v hq =>
  ⟨RunsLane.logbookEnable hq l a v, RunsLane.logbookDisable hq l a v, RunsLane.logbookSoftwareTrigger hq l a v, RunsLane.logbookRearm hq l a v⟩

end Sys2Proof.Machine
end

section
/-! Enabling and disabling of the engine, task configuration and program memory (R175, R179, R185 to R187). -/

namespace Sys2Proof.Machine

/-! ### CE_CTRL -/

/-- The row of CE_CTRL, and the lane with it written. -/
def ceCtrlRow : RegRow := ⟨0x40030000, 1, 0x10000, 1, 0x4, 0x0, 0x1, 0x0, 0x0, 0x0, false⟩
def Lane.ceStored (L : Lane) (v : Word) : Lane := L.storedIn ceCtrlRow R.CE_CTRL.addr v

theorem AX_BANK_ne_CE_CTRL (x : Nat) (hx : x < 12) : (R.AX_BANK x).addr ≠ R.CE_CTRL.addr := AX_BANK_ne_of_window (by decide) x hx
theorem AX_BANK_ne_CE_STAT (x : Nat) (hx : x < 12) : (R.AX_BANK x).addr ≠ R.CE_STAT.addr := AX_BANK_ne_of_window (by decide) x hx

/-- A write of CE_CTRL, which nothing refuses. -/
theorem RunsLane.ceCtrl {i : Instr} {s : State} {l : LaneId} {v : Word} {N : Lane} {Q : Lane → Lane → Prop} (he : exec i s = s.write l R.CE_CTRL v) (hq : s.Quiet)
    (hN : ((s.lane l).ceStored v).engWritten ((s.lane l).on R.CE_CTRL F.CE_CTRL_EN) = N) (hh : N.hn = (s.lane l).hn)
    (hQ : Q (s.lane l) { N with outP := [], outR := [] }) : RunsLane i s l Q :=
  RunsLane.of_row he hq (by decide) regRow_CE_CTRL (Lane.absentReg_other _ (by decide) (by decide)) (.inl rfl) (Lane.refusal_none _ _ _ (by decide +kernel))
    (by decide +kernel) hN (by rw [hh]; exact hq l) hQ

theorem Lane.Frame.ceStored (L : Lane) (v : Word) : Lane.Frame [R.CE_CTRL.addr] L (L.ceStored v) := Lane.Frame.storedIn L _ v AX_BANK_ne_CE_CTRL

/-- The write sets EN and leaves ACTIVE. -/
theorem Lane.on_ceStored (L : Lane) (v : Word) (n : Nat) :
    (L.ceStored (F.CE_CTRL_EN.set v n)).on R.CE_CTRL F.CE_CTRL_EN = (n % 2 != 0)
      ∧ (L.ceStored (F.CE_CTRL_EN.set v n)).on R.CE_CTRL F.CE_CTRL_ACTIVE = L.on R.CE_CTRL F.CE_CTRL_ACTIVE := by
  have hr : (L.ceStored (F.CE_CTRL_EN.set v n)).rd R.CE_CTRL = L.taken R.CE_CTRL 1 (F.CE_CTRL_EN.set v n) :=
    L.rd_storedIn_plain (row := ceCtrlRow) (r := R.CE_CTRL) _ (by decide +kernel) rfl rfl
  constructor
  · rw [Lane.on, hr]
    exact (congrArg (· != 0) (L.get_taken _ _ (by decide))).trans (Bf.on_set_flag (by decide) v n)
  · rw [Lane.on, hr, Bf.on_eq_getLsbD rfl, Lane.getLsbD_taken, if_neg (by decide), ← Bf.on_eq_getLsbD rfl]
    rfl

/-- The check of the task table speaks of CE_TASK alone. -/
theorem Lane.engBad_ceStored (L : Lane) (v : Word) : (L.ceStored v).engBad = L.engBad := by
  have h : ∀ n, (L.ceStored v).rd (R.CE_TASK n) = L.rd (R.CE_TASK n) := fun n =>
    (Lane.Frame.ceStored L v).1 _ (by simp only [R.CE_TASK, R.CE_CTRL, List.mem_singleton]; omega)
  have hen : ∀ n, (L.ceStored v).on (R.CE_TASK n) F.CE_TASK_EN = L.on (R.CE_TASK n) F.CE_TASK_EN := fun n => congrArg F.CE_TASK_EN.on (h n)
  have hax : ∀ n, (L.ceStored v).fld (R.CE_TASK n) F.CE_TASK_AXIS = L.fld (R.CE_TASK n) F.CE_TASK_AXIS := fun n => congrArg F.CE_TASK_AXIS.get (h n)
  simp only [Lane.engBad, hen, hax]

theorem Lane.engWritten_enabled {L : Lane} (he : L.on R.CE_CTRL F.CE_CTRL_EN = true) (ha : L.on R.CE_CTRL F.CE_CTRL_ACTIVE = false) :
    L.engWritten false = L.engStart := by simp [Lane.engWritten, he, ha]

/-- With no task's run waiting to begin, a cleared EN drops none. -/
theorem Lane.engWritten_disabled {L : Lane} (he : L.on R.CE_CTRL F.CE_CTRL_EN = false) (ha : L.on R.CE_CTRL F.CE_CTRL_ACTIVE = true)
    (hb : ∀ i ∈ L.eng.insts, i.begun = true) : L.engWritten true = (L.updEng fun e => { e with closing := true }).engSettle := by
  have hf : L.eng.insts.filter (fun i => !i.begun) = [] := List.filter_eq_nil_iff.mpr fun i hi => by simp [hb i hi]
  simp [Lane.engWritten, he, ha, hf]

/-! ### Enabling -/

/-- The task table decides whether the engine starts (R187). -/
theorem Lane.engStart_state {L : Lane} (ha : L.on R.CE_CTRL F.CE_CTRL_ACTIVE = false) :
    L.engStart.on R.CE_CTRL F.CE_CTRL_EN = L.on R.CE_CTRL F.CE_CTRL_EN ∧ L.engStart.on R.CE_CTRL F.CE_CTRL_ACTIVE = !L.engBad
      ∧ L.engStart.on R.CE_STAT F.CE_STAT_CFGERR = L.engBad ∧ L.engStart.eng = L.eng ∧ Lane.Frame [R.CE_CTRL.addr, R.CE_STAT.addr] L L.engStart
      ∧ L.engStart.hn = L.hn := by
  have hset : ∀ X : Lane, (X.setF R.CE_STAT F.CE_STAT_CFGERR 1).on R.CE_STAT F.CE_STAT_CFGERR = true := fun X =>
    congrArg (· != 0) (X.fld_setF_same R.CE_STAT F.CE_STAT_CFGERR 1 (by decide))
  have hact : ∀ X : Lane, (X.setF R.CE_CTRL F.CE_CTRL_ACTIVE 1).on R.CE_CTRL F.CE_CTRL_ACTIVE = true := fun X =>
    congrArg (· != 0) (X.fld_setF_same R.CE_CTRL F.CE_CTRL_ACTIVE 1 (by decide))
  unfold Lane.engStart
  cases hb : L.engBad
  · rw [if_neg Bool.false_ne_true]
    refine ⟨?_, hact _, ?_, rfl, ?_, rfl⟩
    · exact (Lane.on_setF_field _ _ _ (by decide)).trans (L.on_setF_other _ _ _ (by decide))
    · exact (Lane.on_setF_other _ _ _ _ (by decide)).trans (L.on_setF_zero _ _ (by decide))
    · have h := (Lane.Frame.refl [R.CE_CTRL.addr, R.CE_STAT.addr] L).setFIn (r := R.CE_STAT) (f := F.CE_STAT_CFGERR) (n := 0) (by decide) AX_BANK_ne_CE_STAT
      exact h.setFIn (r := R.CE_CTRL) (by decide) AX_BANK_ne_CE_CTRL
  · rw [if_pos rfl]
    exact ⟨L.on_setF_other _ _ _ (by decide), (L.on_setF_other _ _ _ (by decide)).trans ha, hset L, rfl,
      (Lane.Frame.refl [R.CE_CTRL.addr, R.CE_STAT.addr] L).setFIn (r := R.CE_STAT) (by decide) AX_BANK_ne_CE_STAT, rfl⟩

section
variable {s : State} (hq : s.Quiet) (l : LaneId) (v : Word)
include hq

theorem RunsLane.engineEnable (he : (s.lane l).on R.CE_CTRL F.CE_CTRL_EN = false) (ha : (s.lane l).on R.CE_CTRL F.CE_CTRL_ACTIVE = false) :
    RunsLane (.engineEnable l v) s l fun L M => M.on R.CE_CTRL F.CE_CTRL_EN = true ∧ M.on R.CE_CTRL F.CE_CTRL_ACTIVE = !L.engBad
      ∧ M.on R.CE_STAT F.CE_STAT_CFGERR = L.engBad ∧ M.eng = L.eng ∧ Lane.Frame [R.CE_CTRL.addr, R.CE_STAT.addr] L M := by
  obtain ⟨h1, h2⟩ := (s.lane l).on_ceStored v 1
  have hb := (s.lane l).engBad_ceStored (F.CE_CTRL_EN.set v 1)
  have hF := (Lane.Frame.ceStored (s.lane l) (F.CE_CTRL_EN.set v 1)).mono (qs := [R.CE_CTRL.addr, R.CE_STAT.addr]) (by simp)
  have hw := Lane.engWritten_enabled h1 (h2.trans ha)
  obtain ⟨k1, k2, k3, k4, k5, k6⟩ := Lane.engStart_state (h2.trans ha)
  rw [hb] at k2 k3
  exact RunsLane.ceCtrl rfl hq (by rw [he]; exact hw) k6 ⟨k1.trans h1, k2, k3, k4, hF.trans k5⟩

end

/-! ### Disabling -/

/-- The engine ended (R48), and one that ends once its instances have. -/
def Lane.engStopped (L : Lane) : Lane := (L.setF R.CE_CTRL F.CE_CTRL_ACTIVE 0).updEng fun e => { e with closing := false }
def Lane.engEnding (L : Lane) : Lane := L.updEng fun e => { e with closing := true }

/-- A cleared EN ends the engine at once where nothing runs (R48, R187). -/
theorem Lane.engWritten_idle {L : Lane} (he : L.on R.CE_CTRL F.CE_CTRL_EN = false) (ha : L.on R.CE_CTRL F.CE_CTRL_ACTIVE = true) (hi : L.eng.insts = []) :
    L.engWritten true = L.engStopped := by
  have hact : (L.updEng fun e => { e with closing := true }).on R.CE_CTRL F.CE_CTRL_ACTIVE = true := ha
  have hoff : (((L.updEng fun e => { e with closing := true }).setF R.CE_CTRL F.CE_CTRL_ACTIVE 0).updEng fun e => { e with closing := false }).on R.CE_CTRL
      F.CE_CTRL_EN = false := (L.on_setF_field R.CE_CTRL 0 (by decide)).trans he
  rw [Lane.engWritten_disabled he ha (by simp [hi])]
  unfold Lane.engSettle
  rw [if_pos (by rw [hact]; simp [hi])]
  exact if_neg (by rw [hoff]; exact Bool.false_ne_true)

theorem Lane.engWritten_busy {L : Lane} (he : L.on R.CE_CTRL F.CE_CTRL_EN = false) (ha : L.on R.CE_CTRL F.CE_CTRL_ACTIVE = true) (hi : L.eng.insts ≠ [])
    (hb : ∀ i ∈ L.eng.insts, i.begun = true) : L.engWritten true = L.engEnding := by
  have hall : (L.eng.insts.all fun i => !i.begun) = false := by
    obtain ⟨i, hm⟩ := List.exists_mem_of_ne_nil _ hi
    exact List.all_eq_false.mpr ⟨i, hm, by simp [hb i hm]⟩
  rw [Lane.engWritten_disabled he ha hb]
  exact if_neg fun h => Bool.false_ne_true (hall.symm.trans (Bool.and_eq_true _ _ ▸ h).2)

/-- What the end of the engine leaves. -/
theorem Lane.engStopped_state (L : Lane) : L.engStopped.on R.CE_CTRL F.CE_CTRL_EN = L.on R.CE_CTRL F.CE_CTRL_EN
    ∧ L.engStopped.on R.CE_CTRL F.CE_CTRL_ACTIVE = false ∧ L.engStopped.eng = { L.eng with closing := false } ∧ Lane.Frame [R.CE_CTRL.addr] L L.engStopped :=
  ⟨L.on_setF_field R.CE_CTRL 0 (by decide), L.on_setF_zero R.CE_CTRL F.CE_CTRL_ACTIVE (by decide), rfl,
    ((Lane.Frame.refl _ L).setFIn (r := R.CE_CTRL) (by simp) AX_BANK_ne_CE_CTRL).trans (Lane.Frame.of_eq rfl rfl rfl _)⟩

section
variable {s : State} (hq : s.Quiet) (l : LaneId) (v : Word) (he : (s.lane l).on R.CE_CTRL F.CE_CTRL_EN = true)
  (ha : (s.lane l).on R.CE_CTRL F.CE_CTRL_ACTIVE = true)
include hq he ha

theorem RunsLane.engineDisable_idle (hi : (s.lane l).eng.insts = []) :
    RunsLane (.engineDisable l v) s l fun L M => M.on R.CE_CTRL F.CE_CTRL_EN = false ∧ M.on R.CE_CTRL F.CE_CTRL_ACTIVE = false
      ∧ M.eng = { L.eng with closing := false } ∧ Lane.Frame [R.CE_CTRL.addr] L M := by
  obtain ⟨h1, h2⟩ := (s.lane l).on_ceStored v 0
  have hF := Lane.Frame.ceStored (s.lane l) (F.CE_CTRL_EN.set v 0)
  have hw := Lane.engWritten_idle h1 (h2.trans ha) hi
  obtain ⟨k1, k2, k3, k4⟩ := ((s.lane l).ceStored (F.CE_CTRL_EN.set v 0)).engStopped_state
  exact RunsLane.ceCtrl (N := ((s.lane l).ceStored (F.CE_CTRL_EN.set v 0)).engStopped) rfl hq (by rw [he]; exact hw) rfl ⟨k1.trans h1, k2, k3, hF.trans k4⟩

theorem RunsLane.engineDisable_busy (hi : (s.lane l).eng.insts ≠ []) (hb : ∀ i ∈ (s.lane l).eng.insts, i.begun = true) :
    RunsLane (.engineDisable l v) s l fun L M => M.on R.CE_CTRL F.CE_CTRL_EN = false ∧ M.on R.CE_CTRL F.CE_CTRL_ACTIVE = true
      ∧ M.eng = { L.eng with closing := true } ∧ Lane.Frame [R.CE_CTRL.addr] L M := by
  obtain ⟨h1, h2⟩ := (s.lane l).on_ceStored v 0
  have hF := Lane.Frame.ceStored (s.lane l) (F.CE_CTRL_EN.set v 0)
  have hw := Lane.engWritten_busy h1 (h2.trans ha) hi hb
  exact RunsLane.ceCtrl (N := ((s.lane l).ceStored (F.CE_CTRL_EN.set v 0)).engEnding) rfl hq (by rw [he]; exact hw) rfl ⟨h1, h2.trans ha, rfl, hF.trans (Lane.Frame.of_eq rfl rfl rfl _)⟩

end

end Sys2Proof.Machine
end

section
/-! Task configuration and program memory (R179, R185, R186), and the statement. -/

namespace Sys2Proof.Machine

/-! ### CE_TASK (R179) -/

/-- The row of CE_TASK. -/
def ceTaskRow : RegRow := ⟨0x40030100, 64, 0x4, 1, 0x4, 0xF00000, 0x0, 0x1F31FFF, 0x0, 0x0, false⟩

theorem ceTask_facts (n : Fin 64) : (R.CE_TASK n).addr / 0x10000 = 0x4003 ∧ (R.CE_TASK n).addr ≠ R.CE_CTRL.addr
    ∧ idxOf (R.CE_TASK n).addr (R.CE_TASK 0) 4 64 = some n.val ∧ idxOf (R.CE_TASK n).addr (R.RKN_WP_CMP 0) 0x20 128 = none
    ∧ storeSpecial (R.CE_TASK n).addr = false ∧ refSpecial (R.CE_TASK n).addr = false := by
  revert n
  decide +kernel

theorem CE_TASK_ne_TST (n : Fin 64) : (R.CE_TASK n).addr ≠ (R.CE_TST n).addr := by
  simp only [R.CE_TASK, R.CE_TST]
  omega

theorem RunsLane.taskConfigWrite {s : State} (hq : s.Quiet) (l : LaneId) (n : Fin 64) (v : Word) (hu : (s.lane l).Unlocked) :
    RunsLane (.taskConfigWrite l n v) s l fun L M => M.rd (R.CE_TASK n) = L.taken (R.CE_TASK n) 0x1F31FFF v
      ∧ M.fld (R.CE_TST n) F.CE_TST_CONT = M.fld (R.CE_TASK n) F.CE_TASK_ENTRY ∧ Lane.Frame [(R.CE_TASK n).addr, (R.CE_TST n).addr] L M := by
  obtain ⟨hw, h1, h2, h3, h4, h5⟩ := ceTask_facts n
  have hb1 : ∀ x, x < 12 → (R.AX_BANK x).addr ≠ (R.CE_TASK n).addr := AX_BANK_ne_of_window (by omega)
  have hb2 : ∀ x, x < 12 → (R.AX_BANK x).addr ≠ (R.CE_TST n).addr := AX_BANK_ne_of_window (by simp only [R.CE_TST]; omega)
  have hwr : ∀ L old : Lane, L.written old (R.CE_TASK n).addr v = L.taskWritten n := fun L old => by
    simp only [Lane.written, hw, Lane.onCe, h1, h2, if_false]
  have hst : ((s.lane l).storedIn ceTaskRow (R.CE_TASK n).addr v).rd (R.CE_TASK n) = (s.lane l).taken (R.CE_TASK n) 0x1F31FFF v :=
    (s.lane l).rd_storedIn_plain v h4 rfl rfl
  have hF : Lane.Frame [(R.CE_TASK n).addr, (R.CE_TST n).addr] (s.lane l) ((s.lane l).storedIn ceTaskRow (R.CE_TASK n).addr v) :=
    (Lane.Frame.storedIn _ _ v hb1).mono (by simp)
  refine RunsLane.of_row (N := ((s.lane l).storedIn ceTaskRow (R.CE_TASK n).addr v).taskWritten n) rfl hq ?_ (regRow_CE_TASK n)
    (Lane.absentReg_other _ (by omega) (by omega)) (.inr hu) (Lane.refusal_none _ _ _ h5) h3 (hwr _ _) (hq l) ⟨?_, ?_, hF.setFIn (r := R.CE_TST n) (by simp) hb2⟩
  · simp only [R.CE_TASK, R.BMB_INCTL]
    omega
  · exact (Lane.rd_setF_other _ _ _ (CE_TASK_ne_TST n)).trans hst
  · generalize (s.lane l).storedIn ceTaskRow (R.CE_TASK n).addr v = S
    have hc : (S.taskWritten n).fld (R.CE_TST n) F.CE_TST_CONT = S.fld (R.CE_TASK n) F.CE_TASK_ENTRY :=
      (S.fld_setF_same _ _ _ (by decide)).trans (Nat.mod_eq_of_lt (Bf.get_lt _ _))
    exact hc.trans (congrArg F.CE_TASK_ENTRY.get (S.rd_setF_other _ _ (CE_TASK_ne_TST n))).symm

/-! ### Program memory (R38, R185, R186) -/

/-- Above coefficient RAM too, a byte stands at its own address, and no other byte there. -/
theorem Lane.place_high (L : Lane) {a : Nat} (h : 0x30080000 ≤ a) : L.place a = a := by
  rw [Lane.place, if_neg (by omega)]

/-- The views of an axis stay within coefficient RAM (R195). -/
theorem Lane.coefIdx_lt (L : Lane) {w : Nat} (h : w < 0x20000) : L.coefIdx w < 0x20000 := by
  unfold Lane.coefIdx
  dsimp only
  split
  · split
    · split
      · omega
      · split <;> omega
    · exact h
  · exact h

theorem Lane.place_ne_high (L : Lane) {a c : Nat} (h : 0x30080000 ≤ a) (hc : c ≠ a) : L.place c ≠ a := by
  unfold Lane.place
  split
  · next hr =>
    have := L.coefIdx_lt (w := (c - 0x30000000) / 4) (by omega)
    omega
  · exact hc

theorem Lane.byte_setByte_high (L : Lane) {a : Nat} (b : Byte) (c : Nat) (h : 0x30080000 ≤ a) : (L.setByte a b).byte c = if c = a then b else L.byte c := by
  by_cases hc : c = a
  · rw [if_pos hc, hc, Lane.byte_setByte_same]
  · rw [if_neg hc, Lane.byte_setByte_other L b (by rw [L.place_high h]; exact L.place_ne_high h hc)]

theorem Lane.byte_setMemW_high (L : Lane) {a : Nat} (w : Word) (c : Nat) (h : 0x30080000 ≤ a) :
    (L.setMemW a w).byte c = if a ≤ c ∧ c < a + 4 then byteOf w.toNat (c - a) else L.byte c := by
  simp only [Lane.setMemW, Lane.byte_setByte_high _ _ c h, Lane.byte_setByte_high _ _ c (show 0x30080000 ≤ a + 3 by omega),
    Lane.byte_setByte_high _ _ c (show 0x30080000 ≤ a + 2 by omega), Lane.byte_setByte_high _ _ c (show 0x30080000 ≤ a + 1 by omega)]
  by_cases hc : a ≤ c ∧ c < a + 4
  · rw [if_pos hc]
    obtain ⟨i, hi⟩ : ∃ i, c = a + i := ⟨c - a, by omega⟩
    have h4 : i < 4 := by omega
    subst hi
    interval_cases i <;> simp
  · rw [if_neg hc, if_neg (by omega), if_neg (by omega), if_neg (by omega), if_neg (by omega)]

/-- What a write to a word of program memory does (R186). -/
theorem Lane.busWrite_program {L : Lane} {o : Nat} (v : Word) (h : o < 0x10000) (h4 : o % 4 = 0) (hb : L.bankOut 0x32000000 = false) :
    L.busWrite .word (0x32000000 + o) v = if L.pmLocked then (L.busEnd L.rdata false (0x32000000 + o)).raise R.CE_STAT F.CE_STAT_PMWREF
      else ((L.busEnd L.rdata false (0x32000000 + o)).storeW (0x32000000 + o) v).parUpd L (0x32000000 + o) := by
  have hm : ∀ o, o < 0x10000 → memBank (0x32000000 + o) = some 22 := fun o h => by
    rw [memBank, if_neg (by omega), if_neg (by omega), if_neg (by omega), if_neg (by omega), if_pos (by omega)]
  have hbank : L.bankOut (0x32000000 + o) = false := by
    rw [Lane.bankOut, hm 0 (by omega)] at hb
    rw [Lane.bankOut, hm o h]
    exact hb
  have hwr : memWritable (0x32000000 + o) = some true := by
    rw [memWritable, if_neg (by omega), hm o h, if_neg (by simp)]
  have hp : (0x32000000 + o) / 0x10000 = 0x3200 := by omega
  have hn : (L.busEnd L.rdata false (0x32000000 + o)).memWrite (0x32000000 + o) 4 v = (L.busEnd L.rdata false (0x32000000 + o)).storeW (0x32000000 + o) v := by
    rw [Lane.memWrite, if_pos ⟨rfl, by omega⟩]
  unfold Lane.busWrite
  rw [hbank, if_neg Bool.false_ne_true, hwr]
  dsimp only [accBytes]
  rw [if_pos hp, hn]

/-- Nothing but the bytes of the word, the write signature and the parity of the instruction changes. -/
theorem Lane.parUpd_state (X old : Lane) (a : Nat) : (X.parUpd old a).regs = X.regs ∧ (X.parUpd old a).mem = X.mem ∧ (X.parUpd old a).flash = X.flash
    ∧ (X.parUpd old a).hn = X.hn ∧ (4 ≤ a % 8 → (X.parUpd old a).pmPar.at ((a - 0x32000000) / 8) = false) := by
  unfold Lane.parUpd
  dsimp only
  split
  · exact ⟨rfl, rfl, rfl, rfl, fun _ => Tab.at_set_same X.pmPar ((a - 0x32000000) / 8) false⟩
  · next h => exact ⟨rfl, rfl, rfl, rfl, fun h' => absurd h' h⟩

theorem RunsLane.programMemoryWrite {s : State} (hq : s.Quiet) (l : LaneId) (ofs : BitVec 16) (v : Word) (h4 : ofs.toNat % 4 = 0)
    (hb : (s.lane l).bankOut 0x32000000 = false) :
    RunsLane (.programMemoryWrite l .word ofs v) s l fun L M =>
      (L.pmLocked = true → M.on R.CE_STAT F.CE_STAT_PMWREF = true ∧ Lane.Frame [R.CE_STAT.addr] L M)
        ∧ (L.pmLocked = false → (∀ i, i < 4 → M.byte (0x32000000 + ofs.toNat + i) = byteOf v.toNat i)
            ∧ (∀ c, c < 0x32000000 + ofs.toNat ∨ 0x32000000 + ofs.toNat + 4 ≤ c → M.byte c = L.byte c) ∧ (∀ c, M.flashByte c = L.flashByte c) ∧ Lane.RegsBut [] L M
            ∧ (ofs.toNat % 8 = 4 → M.pmPar.at (ofs.toNat / 8) = false)) := by
  have hlt : ofs.toNat < 0x10000 := ofs.isLt
  have e := Lane.busWrite_program v hlt h4 hb
  have hne : (⟨0x32000000 + ofs.toNat, 0⟩ : Reg).addr ≠ R.BMB_INCTL.addr := by
    simp only [R.BMB_INCTL]
    omega
  have hrun : ∀ {N : Lane} {Q : Lane → Lane → Prop}, (s.lane l).busWrite .word (0x32000000 + ofs.toNat) v = N → N.hn = (s.lane l).hn →
      Q (s.lane l) { N with outP := [], outR := [] } → RunsLane (.programMemoryWrite l .word ofs v) s l Q := fun {N} {Q} hN hh hQ =>
    RunsLane.of_write (r := ⟨0x32000000 + ofs.toNat, 0⟩) rfl hq hne (by rw [hN, hh]; exact hq l) (by rw [hN]; exact hQ)
  cases hl : (s.lane l).pmLocked
  · rw [hl, if_neg Bool.false_ne_true] at e
    have hy : ∀ c, (((s.lane l).busEnd (s.lane l).rdata false (0x32000000 + ofs.toNat)).storeW (0x32000000 + ofs.toNat) v).byte c
        = if 0x32000000 + ofs.toNat ≤ c ∧ c < 0x32000000 + ofs.toNat + 4 then byteOf v.toNat (c - (0x32000000 + ofs.toNat)) else (s.lane l).byte c := fun c => by
      have hs := Lane.byte_setMemW_high ((s.lane l).busEnd (s.lane l).rdata false (0x32000000 + ofs.toNat)) (a := 0x32000000 + ofs.toNat) v c (by omega)
      rw [Lane.byte_congr (L := s.lane l) (M := (s.lane l).busEnd (s.lane l).rdata false (0x32000000 + ofs.toNat)) rfl rfl c] at hs
      rw [← hs]
      exact Lane.byte_congr rfl rfl c
    have hr : (((s.lane l).busEnd (s.lane l).rdata false (0x32000000 + ofs.toNat)).storeW (0x32000000 + ofs.toNat) v).regs = (s.lane l).regs := rfl
    have hf : (((s.lane l).busEnd (s.lane l).rdata false (0x32000000 + ofs.toNat)).storeW (0x32000000 + ofs.toNat) v).flash = (s.lane l).flash := rfl
    have hh : (((s.lane l).busEnd (s.lane l).rdata false (0x32000000 + ofs.toNat)).storeW (0x32000000 + ofs.toNat) v).hn = (s.lane l).hn := rfl
    generalize ((s.lane l).busEnd (s.lane l).rdata false (0x32000000 + ofs.toNat)).storeW (0x32000000 + ofs.toNat) v = X at e hy hr hf hh
    obtain ⟨p1, p2, p3, p4, p5⟩ := X.parUpd_state (s.lane l) (0x32000000 + ofs.toNat)
    generalize X.parUpd (s.lane l) (0x32000000 + ofs.toNat) = P at e p1 p2 p3 p4 p5
    have hyP : ∀ c, P.byte c = X.byte c := fun c => Lane.byte_congr p1 p2 c
    refine hrun e (p4.trans hh) ⟨fun h => absurd (hl.symm.trans h) Bool.false_ne_true, fun _ => ⟨fun i hi => ?_, fun c hc => ?_, Lane.flashByte_of (p3.trans hf),
      fun r _ => Lane.rd_congr (p1.trans hr) r, fun h8 => ?_⟩⟩
    · refine ((hyP _).trans (hy _)).trans ?_
      rw [if_pos (by omega), Nat.add_sub_cancel_left]
    · refine ((hyP _).trans (hy _)).trans ?_
      rw [if_neg (by omega)]
    · have := p5 (by omega)
      rwa [show 0x32000000 + ofs.toNat - 0x32000000 = ofs.toNat by omega] at this
  · rw [hl, if_pos rfl] at e
    refine hrun e rfl ⟨fun _ => ⟨?_, ?_⟩, fun h => absurd (hl.symm.trans h).symm Bool.false_ne_true⟩
    · exact Lane.on_raise_same ((s.lane l).busEnd (s.lane l).rdata false (0x32000000 + ofs.toNat)) R.CE_STAT F.CE_STAT_PMWREF (by decide) (by decide)
    · have h0 : Lane.Frame [R.CE_STAT.addr] (s.lane l) ((s.lane l).busEnd (s.lane l).rdata false (0x32000000 + ofs.toNat)) := Lane.Frame.of_eq rfl rfl rfl _
      exact h0.raiseIn (r := R.CE_STAT) (by simp) AX_BANK_ne_CE_STAT

/-- Settles O12: the engine's commands are writes of CE_CTRL, CE_TASK and program memory, and the branch that each takes is the one that the statement names. -/
theorem engineTasks : Obligations.EngineTasks :=
  ⟨fun _ l v hq => ⟨RunsLane.engineEnable hq l v, RunsLane.engineDisable_idle hq l v, RunsLane.engineDisable_busy hq l v⟩,
    fun _ l n v hq hu => RunsLane.taskConfigWrite hq l n v hu, fun _ l ofs v hq h4 hb => RunsLane.programMemoryWrite hq l ofs v h4 hb⟩

end Sys2Proof.Machine
end

section
/-! Enabling of a bridge and of its commutation (R230 to R232, R254, R335). -/

namespace Sys2Proof.Machine

/-! ### EDG_BCFG -/

/-- The row of EDG_BCFG, and the lane with it written. -/
def bcfgRow : RegRow := ⟨0x40050100, 8, 0x40, 1, 0x4, 0x0, 0x0, 0xD, 0x0, 0x0, false⟩
def Lane.bcfgStored (L : Lane) (b : Nat) (v : Word) : Lane := L.storedIn bcfgRow (R.EDG_BCFG b).addr v

theorem bcfg_facts (b : Fin 8) : (R.EDG_BCFG b).addr / 0x10000 = 0x4005 ∧ (R.EDG_BCFG b).addr ≠ R.EDG_CTRL.addr ∧ (R.EDG_BCFG b).addr ≠ R.EDG_LOAD.addr
    ∧ idxOf (R.EDG_BCFG b).addr (R.EDG_MCTL 0) 0x80 8 = none ∧ idxOf (R.EDG_BCFG b).addr (R.EDG_BCFG 0) 0x40 8 = some b.val
    ∧ idxOf (R.EDG_BCFG b).addr (R.RKN_WP_CMP 0) 0x20 128 = none ∧ refSpecial (R.EDG_BCFG b).addr = false ∧ (R.EDG_BCFG b).addr ≠ R.BMB_INCTL.addr := by
  revert b
  decide +kernel

/-- Of EDG_BCFG of an even bridge, SYNC is stored as 0 (R341). -/
theorem storedAs_bcfg (b : Fin 8) (v : Word) : storedAs (R.EDG_BCFG b).addr v = if b.val % 2 = 0 then F.EDG_BCFG_SYNC.set v 0 else v := by
  have h : ∀ b : Fin 8, (idxOf (R.EDG_BCFG b).addr (R.AX_SPDB 0) 0x1000 12).isSome = false ∧ (idxOf (R.EDG_BCFG b).addr (R.AX_SPRATE 0) 0x1000 12).isSome = false
      ∧ (idxOf (R.EDG_BCFG b).addr (R.AX_SPALPHA 0) 0x1000 12).isSome = false ∧ (R.EDG_BCFG b).addr ≠ R.RKN_ADM_CTRL.addr ∧ (R.EDG_BCFG b).addr ≠ R.FIX_CKP.addr
      ∧ (idxOf (R.EDG_BCFG b).addr (R.DLK_CFG 0) 0x100 4).isSome = false ∧ (idxOf (R.EDG_BCFG b).addr (R.DLK_WIN 0) 0x100 4).isSome = false
      ∧ (idxOf (R.EDG_BCFG b).addr (R.EDG_MINJ 0) 0x80 8).isSome = false ∧ (idxOf (R.EDG_BCFG b).addr (R.EDG_VCFG 0) 0x20 12).isSome = false
      ∧ (idxOf (R.EDG_BCFG b).addr (R.MEAS_GBFLT 0) 0x40 64).isSome = false ∧ (idxOf (R.EDG_BCFG b).addr (R.SENT_CFG 0) 0x40 8).isSome = false
      ∧ (R.EDG_BCFG b).addr ≠ R.HNET_TIM.addr ∧ (grpOf (R.EDG_BCFG b).addr (R.SAFE_SREACT 0) 0x20 128).isSome = false
      ∧ (grpOf (R.EDG_BCFG b).addr (R.SAFE_SCHK 0) 0x20 128).isSome = false ∧ (idxOf (R.EDG_BCFG b).addr (R.SFN_ACFG 0) 0x100 12).isSome = false
      ∧ (idxOf (R.EDG_BCFG b).addr (R.SFN_ACST 0) 0x100 12).isSome = false ∧ (R.EDG_BCFG b).addr ≠ R.FIX_DGCFG.addr ∧ (R.EDG_BCFG b).addr ≠ R.PWR_NVMG.addr := by
    decide +kernel
  obtain ⟨h1, h2, h3, h4, h5, h6, h7, h8, h9, h10, h11, h12, h13, h14, h15, h16, h17, h18⟩ := h b
  obtain ⟨-, -, -, -, hi, -⟩ := bcfg_facts b
  by_cases he : b.val % 2 = 0 <;>
    simp [storedAs, h1, h2, h3, h4, h5, h6, h7, h8, h9, h10, h11, h12, h13, h14, h15, h16, h17, h18, hi, he]

theorem Lane.rd_bcfgStored (L : Lane) (b : Fin 8) (v : Word) :
    (L.bcfgStored b v).rd (R.EDG_BCFG b) = L.taken (R.EDG_BCFG b) 0xD (if b.val % 2 = 0 then F.EDG_BCFG_SYNC.set v 0 else v) := by
  rw [Lane.bcfgStored, L.rd_storedIn_same bcfgRow (R.EDG_BCFG b) v rfl, Reg.stored, storedAs_bcfg]
  have h0 : v &&& w32 bcfgRow.w1c &&& ~~~(w32 (L.setNow.at (R.EDG_BCFG b).addr)) = 0 := by simp [bcfgRow, w32]
  rw [h0]
  exact (BitVec.and_allOnes (w := 32)).trans rfl

theorem AX_BANK_ne_EDG {r : Reg} (h : r.addr / 0x10000 = 0x4005) : ∀ x, x < 12 → (R.AX_BANK x).addr ≠ r.addr := AX_BANK_ne_of_window (by omega)

theorem Lane.Frame.bcfgStored (L : Lane) (b : Fin 8) (v : Word) : Lane.Frame [(R.EDG_BCFG b).addr] L (L.bcfgStored b v) :=
  Lane.Frame.storedIn L _ v (AX_BANK_ne_EDG (bcfg_facts b).1)

/-- The configuration checked does not stand in EDG_BCFG. -/
theorem Lane.bridgeOk_bcfgStored (L : Lane) (b : Fin 8) (v : Word) (k : Nat) : (L.bcfgStored b v).bridgeOk k = L.bridgeOk k := by
  have hfr := (Lane.Frame.bcfgStored L b v).1
  have h1 : ∀ f, (L.bcfgStored b v).fld (R.EDG_BTIM k) f = L.fld (R.EDG_BTIM k) f := fun f =>
    congrArg f.get (hfr _ (by simp only [R.EDG_BTIM, R.EDG_BCFG, List.mem_singleton]; omega))
  have h2 : ∀ f, (L.bcfgStored b v).fld (R.EDG_BREF k) f = L.fld (R.EDG_BREF k) f := fun f =>
    congrArg f.get (hfr _ (by simp only [R.EDG_BREF, R.EDG_BCFG, List.mem_singleton]; omega))
  have h3 : ∀ f, (L.bcfgStored b v).fld (R.EDG_BPER k) f = L.fld (R.EDG_BPER k) f := fun f =>
    congrArg f.get (hfr _ (by simp only [R.EDG_BPER, R.EDG_BCFG, List.mem_singleton]; omega))
  have h4 : ∀ f, (L.bcfgStored b v).fld (R.EDG_BVDS k) f = L.fld (R.EDG_BVDS k) f := fun f =>
    congrArg f.get (hfr _ (by simp only [R.EDG_BVDS, R.EDG_BCFG, List.mem_singleton]; omega))
  have h5 : ∀ f, (L.bcfgStored b v).fld (R.EDG_BBLK k) f = L.fld (R.EDG_BBLK k) f := fun f =>
    congrArg f.get (hfr _ (by simp only [R.EDG_BBLK, R.EDG_BCFG, List.mem_singleton]; omega))
  simp only [Lane.bridgeOk, h1, h2, h3, h4, h5]

theorem Lane.written_bcfg (L old : Lane) (b : Fin 8) (v : Word) :
    L.written old (R.EDG_BCFG b).addr v = L.keyWritten b (old.on (R.EDG_BCFG b) F.EDG_BCFG_EN) := by
  obtain ⟨hw, h1, h2, h3, h4, -⟩ := bcfg_facts b
  simp only [Lane.written, hw, Lane.onEdg, h1, h2, h3, h4, if_false]

/-- A flag outside a field that has been set. -/
theorem Bf.on_set_other (f : Bf) {g : Bf} (v : Word) (n : Nat) (h : f.lo + f.wid ≤ g.lo ∨ g.lo + g.wid ≤ f.lo) : g.on (f.set v n) = g.on v :=
  congrArg (· != 0) (f.get_set_other g v n h)

/-- A bridge that is being enabled (R335): whether its configuration passes, and the outputs that a join or a halt left off. -/
def Lane.bridgeBegins (L : Lane) (b : Nat) : Lane := (L.bridgeEnabled b).releaseKeys fun k => decide (k = b)

theorem Lane.keyWritten_enabled {L : Lane} {b : Nat} (hb : b < 8) (he : L.on (R.EDG_BCFG b) F.EDG_BCFG_EN = true) : L.keyWritten b false = L.bridgeBegins b := by
  have he' : L.on (keyCfg b) F.EDG_CTRL_EN = true := by rw [keyCfg, if_pos hb]; exact he
  simp [Lane.keyWritten, he', hb, Lane.bridgeBegins]

theorem Lane.bridgeBegins_edg (L : Lane) (b : Nat) :
    (L.bridgeBegins b).edg = { L.edg with bok := L.edg.bok.set b (L.bridgeOk b), held := L.edg.held.filter fun e => !decide (e.1 = b) } := by
  unfold Lane.bridgeBegins Lane.bridgeEnabled
  dsimp only
  split <;> rfl
theorem Lane.bridgeBegins_hn (L : Lane) (b : Nat) : (L.bridgeBegins b).hn = L.hn := by
  unfold Lane.bridgeBegins Lane.bridgeEnabled
  dsimp only
  split <;> rfl

/-- The check of the configuration shows in EDG_BEVT alone. -/
theorem Lane.Frame.bridgeBegins_passed {L : Lane} {b : Nat} (h : L.bridgeOk b = true) : Lane.Frame [] L (L.bridgeBegins b) := by
  unfold Lane.bridgeBegins Lane.bridgeEnabled
  rw [if_pos h]
  exact Lane.Frame.of_eq rfl rfl rfl _
theorem Lane.bridgeBegins_failed {L : Lane} {b : Nat} (h : L.bridgeOk b = false) (hb : (R.EDG_BEVT b).addr / 0x10000 = 0x4005) :
    (L.bridgeBegins b).on (R.EDG_BEVT b) F.EDG_BEVT_CFGERR = true ∧ Lane.Frame [(R.EDG_BEVT b).addr] L (L.bridgeBegins b) := by
  unfold Lane.bridgeBegins Lane.bridgeEnabled
  rw [if_neg (by rw [h]; decide)]
  have h0 : Lane.Frame [(R.EDG_BEVT b).addr] L (L.updEdg fun e => { e with bok := e.bok.set b (L.bridgeOk b) }) := Lane.Frame.of_eq rfl rfl rfl _
  generalize L.updEdg (fun e => { e with bok := e.bok.set b (L.bridgeOk b) }) = X at h0 ⊢
  exact ⟨X.on_raise_same (R.EDG_BEVT b) (f := F.EDG_BEVT_CFGERR) (by decide) (by decide),
    (h0.raiseIn (f := F.EDG_BEVT_CFGERR) (List.mem_singleton_self _) (AX_BANK_ne_EDG hb)).trans (Lane.Frame.of_eq rfl rfl rfl _)⟩

theorem RunsLane.bridgeEnable {s : State} {l : LaneId} (b : Fin 8) (v : Word) (hq : s.Quiet) (hu : (s.lane l).Unlocked) (hs : (s.lane l).small = false)
    (he : (s.lane l).on (R.EDG_BCFG b) F.EDG_BCFG_EN = false) :
    RunsLane (.bridgeEnable l b v) s l fun L M => M.rd (R.EDG_BCFG b) = L.taken (R.EDG_BCFG b) 0xD (if b.val % 2 = 0 then F.EDG_BCFG_SYNC.set (F.EDG_BCFG_EN.set v 1) 0 else F.EDG_BCFG_EN.set v 1)
        ∧ M.edg = { L.edg with bok := L.edg.bok.set b (L.bridgeOk b), held := L.edg.held.filter fun e => !decide (e.1 = b.val) }
        ∧ (L.bridgeOk b = false → M.on (R.EDG_BEVT b) F.EDG_BEVT_CFGERR = true ∧ Lane.Frame [(R.EDG_BCFG b).addr, (R.EDG_BEVT b).addr] L M)
        ∧ (L.bridgeOk b = true → Lane.Frame [(R.EDG_BCFG b).addr] L M) := by
  obtain ⟨hw, -, -, -, -, hwp, href, hin⟩ := bcfg_facts b
  have hrd := (s.lane l).rd_bcfgStored b (F.EDG_BCFG_EN.set v 1)
  have hok := (s.lane l).bridgeOk_bcfgStored b (F.EDG_BCFG_EN.set v 1) b
  have hfr := Lane.Frame.bcfgStored (s.lane l) b (F.EDG_BCFG_EN.set v 1)
  have hedg : ((s.lane l).bcfgStored b (F.EDG_BCFG_EN.set v 1)).edg = (s.lane l).edg := rfl
  have hhn : ((s.lane l).bcfgStored b (F.EDG_BCFG_EN.set v 1)).hn = (s.lane l).hn := rfl
  have hen : ((s.lane l).bcfgStored b (F.EDG_BCFG_EN.set v 1)).on (R.EDG_BCFG b) F.EDG_BCFG_EN = true := by
    have h1 : F.EDG_BCFG_EN.on (F.EDG_BCFG_EN.set v 1) = true := Bf.on_set_flag (by decide) v 1
    rw [Lane.on, hrd]
    refine (congrArg (· != 0) (Lane.get_taken _ _ _ (by decide))).trans ?_
    split
    · exact (Bf.on_set_other F.EDG_BCFG_SYNC _ 0 (.inr (by decide))).trans h1
    · exact h1
  refine RunsLane.of_row (N := ((s.lane l).bcfgStored b (F.EDG_BCFG_EN.set v 1)).bridgeBegins b) rfl hq hin (regRow_EDG_BCFG b) (Lane.absentReg_full _ hs) (.inr hu)
    (Lane.refusal_none _ _ _ href) hwp ?_ ?_ ?_
  · rw [Lane.written_bcfg]
    exact (congrArg _ he).trans (Lane.keyWritten_enabled b.isLt hen)
  · rw [Lane.bridgeBegins_hn, hhn]
    exact hq l
  · generalize (s.lane l).bcfgStored b (F.EDG_BCFG_EN.set v 1) = S at *
    have hE := S.bridgeBegins_edg b
    have hev : (R.EDG_BEVT b).addr / 0x10000 = 0x4005 := by
      simp only [R.EDG_BEVT]
      omega
    have hbr : Lane.RegsBut [(R.EDG_BEVT b).addr] S (S.bridgeBegins b) := by
      cases hk : S.bridgeOk b
      · exact (Lane.bridgeBegins_failed hk hev).2.1
      · exact (Lane.Frame.bridgeBegins_passed hk).1.mono (by simp)
    refine ⟨(hbr _ ?_).trans hrd, ?_, fun hk => ?_, fun hk => ?_⟩
    · simp only [R.EDG_BEVT, R.EDG_BCFG, List.mem_singleton]
      omega
    · rw [← hok, ← hedg]
      exact hE
    · obtain ⟨hc, hf⟩ := Lane.bridgeBegins_failed (hok.trans hk) hev
      exact ⟨hc, (hfr.mono (by simp)).trans (hf.mono (by simp))⟩
    · exact hfr.trans ((Lane.Frame.bridgeBegins_passed (hok.trans hk)).mono (by simp))

/-! ### EDG_MCTL -/

/-- The row of EDG_MCTL, and the lane with it written. -/
def mctlRow : RegRow := ⟨0x40054000, 8, 0x80, 1, 0x4, 0x34, 0x0, 0x7D, 0x0, 0x0, false⟩
def Lane.mctlStored (L : Lane) (b : Nat) (v : Word) : Lane := L.storedIn mctlRow (R.EDG_MCTL b).addr v

theorem mctl_facts (b : Fin 8) : (R.EDG_MCTL b).addr / 0x10000 = 0x4005 ∧ (R.EDG_MCTL b).addr ≠ R.EDG_CTRL.addr ∧ (R.EDG_MCTL b).addr ≠ R.EDG_LOAD.addr
    ∧ idxOf (R.EDG_MCTL b).addr (R.EDG_MCTL 0) 0x80 8 = some b.val ∧ grpOf (R.EDG_MCTL b).addr (R.AX_CFG 0) 0x1000 12 = none
    ∧ grpOf (R.EDG_MCTL b).addr (R.EDG_CCCFG 0) 0x20 12 = none ∧ grpOf (R.EDG_MCTL b).addr (R.EDG_MCTL 0) 0x80 8 = some b.val
    ∧ idxOf (R.EDG_MCTL b).addr (R.RKN_WP_CMP 0) 0x20 128 = none ∧ storeSpecial (R.EDG_MCTL b).addr = false ∧ (R.EDG_MCTL b).addr ≠ R.BMB_INCTL.addr := by
  revert b
  decide +kernel

theorem Lane.Frame.mctlStored (L : Lane) (b : Fin 8) (v : Word) : Lane.Frame [(R.EDG_MCTL b).addr] L (L.mctlStored b v) :=
  Lane.Frame.storedIn L _ v (AX_BANK_ne_EDG (mctl_facts b).1)

/-- No block refuses a write of EDG_MCTL (R284). -/
theorem Lane.refusal_mctl (L : Lane) (b : Fin 8) (v : Word) : L.refusal (R.EDG_MCTL b).addr mctlRow v = none := by
  obtain ⟨-, -, -, -, h1, h2, h3, -⟩ := mctl_facts b
  simp [Lane.refusal, h1, h2, h3]

/-- The write sets EN and leaves the winding's state and the axes. -/
theorem Lane.mcEn_mctlStored (L : Lane) (b : Fin 8) (v : Word) (n : Nat) : (L.mctlStored b (F.EDG_MCTL_EN.set v n)).mcEn b = (n % 2 != 0) := by
  obtain ⟨-, -, -, -, -, -, -, -, hs, -⟩ := mctl_facts b
  have hr : (L.mctlStored b (F.EDG_MCTL_EN.set v n)).rd (R.EDG_MCTL b) = L.taken (R.EDG_MCTL b) 0x7D (F.EDG_MCTL_EN.set v n) :=
    L.rd_storedIn_plain (row := mctlRow) (r := R.EDG_MCTL b) _ hs rfl rfl
  rw [Lane.mcEn, Lane.on, hr]
  exact (congrArg (· != 0) (L.get_taken _ _ (by decide))).trans (Bf.on_set_flag (by decide) v n)
theorem Lane.mcSt_mctlStored (L : Lane) (b : Fin 8) (v : Word) : (L.mctlStored b v).mcSt b = L.mcSt b :=
  congrArg F.EDG_MSTAT_STATE.get ((Lane.Frame.mctlStored L b v).1 _ (by simp only [R.EDG_MSTAT, R.EDG_MCTL, List.mem_singleton]; omega))
theorem Lane.axisOfBridge_mctlStored (L : Lane) (b : Fin 8) (v : Word) (k : Nat) : (L.mctlStored b v).axisOfBridge k = L.axisOfBridge k := by
  have hfr := (Lane.Frame.mctlStored L b v).1
  refine List.find?_congr fun x hx => ?_
  have hx12 := List.mem_range.mp hx
  have h1 : (L.mctlStored b v).axActive x = L.axActive x :=
    congrArg F.AX_STAT_ACTIVE.on (hfr _ (by simp only [R.AX_STAT, R.EDG_MCTL, List.mem_singleton]; omega))
  have h2 : (L.mctlStored b v).axKind x = L.axKind x :=
    congrArg F.AX_CFG_KIND.get (hfr _ (by simp only [R.AX_CFG, R.EDG_MCTL, List.mem_singleton]; omega))
  have h3 : (L.mctlStored b v).rd (R.AX_BIND x) = L.rd (R.AX_BIND x) :=
    hfr _ (by simp only [R.AX_BIND, R.EDG_MCTL, List.mem_singleton]; omega)
  simp only [Lane.bindsBridge, h1, h2, h3]

/-- A write of EDG_MCTL: the block acts on EN. -/
theorem RunsLane.mctl {i : Instr} {s : State} {l : LaneId} {b : Fin 8} {v : Word} {Q : Lane → Lane → Prop} (he : exec i s = s.write l (R.EDG_MCTL b) v)
    (hq : s.Quiet) (hu : (s.lane l).Unlocked) (hs : (s.lane l).small = false)
    (hQ : ∀ M : Lane, M.regs = ((s.lane l).mctlStored b v).regs → M.mem = (s.lane l).mem → M.flash = (s.lane l).flash
      → M.mc = (((s.lane l).mctlStored b v).mcWritten b ((s.lane l).mcEn b)).mc → Q (s.lane l) M) : RunsLane i s l Q := by
  obtain ⟨hw, h1, h2, h3, -, -, -, hwp, -, hin⟩ := mctl_facts b
  have hwr : ∀ L old : Lane, L.written old (R.EDG_MCTL b).addr v = L.mcWritten b (old.mcEn b) := fun L old => by
    simp only [Lane.written, hw, Lane.onEdg, h1, h2, h3, if_false]
  have hk : ∀ L : Lane, ∀ was, (L.mcWritten b was).regs = L.regs ∧ (L.mcWritten b was).mem = L.mem ∧ (L.mcWritten b was).flash = L.flash
      ∧ (L.mcWritten b was).hn = L.hn := fun L was => by
    unfold Lane.mcWritten
    dsimp only
    split
    · split <;> exact ⟨rfl, rfl, rfl, rfl⟩
    · exact ⟨rfl, rfl, rfl, rfl⟩
  obtain ⟨kr, km, kf, kh⟩ := hk ((s.lane l).mctlStored b v) ((s.lane l).mcEn b)
  refine RunsLane.of_row (N := ((s.lane l).mctlStored b v).mcWritten b ((s.lane l).mcEn b)) he hq hin (regRow_EDG_MCTL b) (Lane.absentReg_full _ hs) (.inr hu)
    (Lane.refusal_mctl _ b v) hwp (hwr _ _) (by rw [kh]; exact hq l) (hQ _ kr km kf rfl)

theorem Lane.Frame.of_mctlStored {L M : Lane} {b : Fin 8} {v : Word} (hr : M.regs = (L.mctlStored b v).regs) (hm : M.mem = L.mem) (hf : M.flash = L.flash) :
    Lane.Frame [(R.EDG_MCTL b).addr] L M := (Lane.Frame.mctlStored L b v).trans (Lane.Frame.of_eq hr hm hf _)

theorem Lane.mcWritten_enabled {L : Lane} {b : Nat} (he : L.mcEn b = true) (hst : L.mcSt b = 0) :
    (L.mcWritten b false).mc = if (L.axisOfBridge b).isSome then L.mc.upd b fun m => { m with armed := 1 } else L.mc := by
  cases h : L.axisOfBridge b <;> simp [Lane.mcWritten, he, hst, h, Lane.mcOut, Lane.updMc]
theorem Lane.mcWritten_disabled {L : Lane} {b : Nat} {was : Bool} (he : L.mcEn b = false) :
    (L.mcWritten b was).mc = L.mc.upd b fun m => { m with armed := 0, closing := m.closing || decide (L.mcSt b ≠ 0) } := by
  simp [Lane.mcWritten, he, Lane.mcOut, Lane.updMc]

theorem RunsLane.commutationEnable {s : State} {l : LaneId} (b : Fin 8) (v : Word) (hq : s.Quiet) (hu : (s.lane l).Unlocked) (hs : (s.lane l).small = false)
    (he : (s.lane l).mcEn b = false) (hst : (s.lane l).mcSt b = 0) :
    RunsLane (.commutationEnable l b v) s l fun L M => M.mcEn b = true ∧ M.mcSt b = 0
      ∧ M.mc = (if (L.axisOfBridge b).isSome then L.mc.upd b fun m => { m with armed := 1 } else L.mc) ∧ Lane.Frame [(R.EDG_MCTL b).addr] L M := by
  refine RunsLane.mctl (v := F.EDG_MCTL_EN.set v 1) rfl hq hu hs fun M hr hm hf hmc => ?_
  have hen := (s.lane l).mcEn_mctlStored b v 1
  have hs0 := ((s.lane l).mcSt_mctlStored b (F.EDG_MCTL_EN.set v 1)).trans hst
  refine ⟨(congrArg F.EDG_MCTL_EN.on (Lane.rd_congr hr _)).trans hen, (congrArg F.EDG_MSTAT_STATE.get (Lane.rd_congr hr _)).trans hs0, ?_, Lane.Frame.of_mctlStored hr hm hf⟩
  rw [hmc, he, Lane.mcWritten_enabled hen hs0, Lane.axisOfBridge_mctlStored]
  rfl

theorem RunsLane.commutationDisable {s : State} {l : LaneId} (b : Fin 8) (v : Word) (hq : s.Quiet) (hu : (s.lane l).Unlocked) (hs : (s.lane l).small = false) :
    RunsLane (.commutationDisable l b v) s l fun L M => M.mcEn b = false
      ∧ M.mc = L.mc.upd b (fun m => { m with armed := 0, closing := m.closing || decide (L.mcSt b ≠ 0) }) ∧ Lane.Frame [(R.EDG_MCTL b).addr] L M := by
  refine RunsLane.mctl (v := F.EDG_MCTL_EN.set v 0) rfl hq hu hs fun M hr hm hf hmc => ?_
  have hen := (s.lane l).mcEn_mctlStored b v 0
  refine ⟨(congrArg F.EDG_MCTL_EN.on (Lane.rd_congr hr _)).trans hen, ?_, Lane.Frame.of_mctlStored hr hm hf⟩
  rw [hmc, Lane.mcWritten_disabled hen, Lane.mcSt_mctlStored]
  rfl

/-- Settles O25: the check of a bridge's configuration, and the arming and the end of its commutation. -/
theorem bridgeControl : Obligations.BridgeControl :=
  ⟨fun _ _ b v hq hu hs he => RunsLane.bridgeEnable b v hq hu hs he,
    fun _ _ b v hq hu hs => ⟨fun he hst => RunsLane.commutationEnable b v hq hu hs he hst, fun _ => RunsLane.commutationDisable b v hq hu hs⟩⟩

end Sys2Proof.Machine
end

section
/-! Transmit requests of ISOBUS (R439 to R441). -/

namespace Sys2Proof.Machine

/-- ISOBUS of Lane A is active and cannot claim an address, with the request of transmit buffer 1 still in its queue; transmit buffer 0 holds an extended identifier. -/
def waitingState : State := { State.reset with a := { State.reset.a with
  small := false
  regs := [(R.ISB_CTRL.addr, 3), (R.ISB_ACST.addr, 0x3FE), ((R.ISB_TXID 0).addr, F.ISB_TXID_IDE.set 0 1)]
  isb := { State.reset.a.isb with queue := [1] } } }

theorem waitingState_quiet : waitingState.Quiet := by
  intro k
  cases k <;> rfl

theorem waitingState_idle : (waitingState.lane .A).small = false ∧ (waitingState.lane .A).on (R.ISB_TXCT 0) F.ISB_TXCT_PEND = false := by decide +kernel

/-- A request of buffer 0 flushes the queue, which sets DROP of buffer 1. -/
theorem waitingState_drops : ((waitingState.lane .A).busWrite .word (R.ISB_TXCT 0).addr (F.ISB_TXCT_REQ.set 0 1)).hn.closing = false
    ∧ ((waitingState.lane .A).busWrite .word (R.ISB_TXCT 0).addr (F.ISB_TXCT_REQ.set 0 1)).rd (R.ISB_TXCT 1) ≠ (waitingState.lane .A).rd (R.ISB_TXCT 1) := by
  decide +kernel

/-- Refutes O38: the frame of a transmit request of ISOBUS names that buffer's register alone, in every state. Where no address can be claimed and the queue holds another
buffer's request, the request drops both, and DROP shows in the register of the other. -/
theorem not_networkControl : ¬ Obligations.NetworkControl := by
  rintro ⟨-, hcan, -⟩
  obtain ⟨-, hreq, -⟩ := hcan waitingState .A 0 waitingState_quiet waitingState_idle.1
  obtain ⟨t, ht, -, hfr, -⟩ := hreq 0 waitingState_idle.2
  have he : exec (.isbTransmitRequest .A 0 0) waitingState
      = .next (waitingState.run .A fun L => L.busWrite .word (R.ISB_TXCT 0).addr (F.ISB_TXCT_REQ.set 0 1)) := by
    show waitingState.write .A (R.ISB_TXCT 0) (F.ISB_TXCT_REQ.set 0 1) = _
    rw [State.write, State.busWrite_quiet waitingState_quiet (by decide) waitingState_drops.1]
  obtain rfl := Host.Outcome.next.inj (he.symm.trans ht)
  have hr := hfr.1 (R.ISB_TXCT 1) (by decide)
  rw [State.rd_run] at hr
  exact waitingState_drops.2 hr

end Sys2Proof.Machine
end

section
/-! A record write that has waited for more than 1 s (R366, R369, R572). -/

namespace Sys2Proof.Machine

/-- The store write of a capture has waited in Lane A for 1 s, and the store copy that it is due to replace holds a byte 0. -/
def waitedState : State := { State.reset with a := { State.reset.a with
  nvmWait := [1]
  ticks := 200000000
  flash := [(calBase 0 + 2048, 0)]
  meas := { State.reset.a.meas with calWrite := some (0, 0, 0) } } }

theorem waitedState_due : (waitedState.lane .A).me = LaneId.A.num ∧ 1 ∈ (waitedState.lane .A).nvmWait
    ∧ (waitedState.lane .A).pw.nvmAt.at 1 + 200000000 ≤ (waitedState.lane .A).ticks := by decide +kernel

/-- A store that keeps no entry of a key reads the default there. -/
theorem look_filter_dropped {α : Type} {p : Nat × α → Bool} {k : Nat} (hp : ∀ v, p (k, v) = false) (t : Tab α) (d : α) : look (t.filter p) k d = d := by
  induction t with
  | nil => rfl
  | cons e t ih =>
    obtain ⟨a, v⟩ := e
    rw [List.filter_cons]
    split
    · next h =>
      have hne : a ≠ k := by
        rintro rfl
        rw [hp] at h
        cases h
      rw [look, if_neg hne, ih]
    · exact ih

/-- An erased sector reads 0xFF. -/
theorem Lane.flashByte_flashErase (L : Lane) {a x : Nat} (h : a ≤ x) (hx : x < a + 0x1000) : (L.flashErase a).flashByte x = 0xFF#8 :=
  look_filter_dropped (fun _ => by simpa using ⟨h, hx⟩) L.flash _

/-- A failed write leaves free values in the words that it was to program, and the rest of the sector erased. -/
theorem Lane.flashByte_flashFree_rest (L : Lane) {a n x : Nat} (h : a + 4 * n ≤ x) (hx : x < a + 0x1000) : (L.flashFree a n).flashByte x = 0xFF#8 := by
  have hlen : ∀ (g : Nat → Nat) (m : Nat), ((List.range m).flatMap fun i => leBytes 4 (g i)).length = 4 * m := by
    intro g m
    induction m with
    | zero => rfl
    | succ m ih =>
      rw [List.range_succ, List.flatMap_append, List.length_append, ih]
      rfl
  have hn := Lane.flashByte_flashBytes ((List.range n).flatMap fun i => leBytes 4 (Config.freeValue (L.flashErase a).me ((L.flashErase a).free + i)).toNat) (L.flashErase a) a x
  rw [if_neg (by rw [hlen]; omega), L.flashByte_flashErase (by omega) hx] at hn
  exact hn

/-- The lane whose store write has ended, before its copy is spoiled. -/
def Lane.calEnded (L : Lane) : Lane := ((L.setF R.MEAS_CALST F.MEAS_CALST_STORING 0).updMeas fun m => { m with calWrite := none }).nvmEnd 1

theorem Lane.flash_calStored_failed {L : Lane} {w : Nat × Word × Word} (hn : L.nvmWait.contains 1 = false) (hw : L.meas.calWrite = some w)
    (hc : L.meas.calCopy = none) : (L.calStored false).flash = (L.calEnded.flashFree (calBase 0) 131).flash := by
  have hr : ∀ X : Lane, (X.calRefuse 9).flash = X.flash := fun _ => rfl
  unfold Lane.calStored
  rw [hw]
  dsimp only
  rw [hn, if_neg (by decide), if_pos (by decide), hr, hc]
  rfl

/-- The store write of a lane without a store copy, given up after 1 s. -/
theorem Lane.flash_nvmTimeout_cal {L : Lane} {w : Nat × Word × Word} (hd : (L.nvmWait.contains 1 && decide (L.pw.nvmAt.at 1 + 200000000 ≤ L.ticks)) = true)
    (hw : L.meas.calWrite = some w) (hc : L.meas.calCopy = none) : ∃ X : Lane, (L.nvmTimeout 1).flash = (X.flashFree (calBase 0) 131).flash := by
  have hr : ∀ (X : Lane) (n : Nat), ((X.setF R.PWR_NVMST F.PWR_NVMST_WAITING n).raise R.PWR_EVT F.PWR_EVT_WRFAIL).flash = X.flash := fun _ _ => rfl
  have hf : Lane.flash (Lane.calStored { L with nvmWait := L.nvmWait.filter fun x => decide (x ≠ 1) } false) = _ :=
    Lane.flash_calStored_failed (by simp) hw hc
  unfold Lane.nvmTimeout
  rw [if_pos hd]
  dsimp only
  rw [hr, if_pos rfl]
  exact ⟨_, hf⟩

theorem waitedState_erases : ((waitedState.lane .A).nvmTimeout 1).flashByte (calBase 0 + 2048) = 0xFF#8 ∧ (waitedState.lane .A).flashByte (calBase 0 + 2048) = 0#8 := by
  obtain ⟨X, hX⟩ := Lane.flash_nvmTimeout_cal (L := waitedState.lane .A) (w := (0, 0, 0)) (by decide +kernel) rfl rfl
  have hx : (X.flashFree (calBase 0) 131).flashByte (calBase 0 + 2048) = 0xFF#8 :=
    X.flashByte_flashFree_rest (Nat.add_le_add_left (by decide) _) (Nat.add_lt_add_left (by decide) _)
  exact ⟨(Lane.flashByte_of hX _).trans hx, by decide +kernel⟩

theorem exec_nvmWriteTimeout (s : State) (l : LaneId) (k : Fin 5) : exec (.nvmWriteTimeout l k) s = .next (s.run l fun L => L.nvmTimeout k.val) := rfl

/-- The flash of a lane after its part of a step. -/
theorem State.flashByte_run (s : State) (l : LaneId) (f : Lane → Lane) (a : Nat) : ((s.run l f).lane l).flashByte a = (f (s.lane l)).flashByte a := by
  rw [State.lane_run_same]
  rfl

/-- Refutes O48: a record write given up after 1 s is said to leave every byte, and the calibration store's is taken as a write that has failed: its copy is erased
and holds free values. -/
theorem not_suppliesAndStartUp : ¬ Obligations.SuppliesAndStartUp := by
  rintro ⟨hsup, -⟩
  obtain ⟨hme, hwait, hat⟩ := waitedState_due
  obtain ⟨-, -, -, -, htime, -⟩ := hsup waitedState .A hme
  obtain ⟨t, ht, -, -, hdue⟩ := htime 1
  obtain rfl := Host.Outcome.next.inj ((exec_nvmWriteTimeout waitedState .A 1).symm.trans ht)
  obtain ⟨-, -, -, -, ⟨-, hflash⟩, -⟩ := hdue ⟨hwait, hat⟩
  have hb := hflash (calBase 0 + 2048)
  rw [State.flashByte_run] at hb
  rw [show ((1 : Fin 5) : Nat) = 1 from rfl, waitedState_erases.1, waitedState_erases.2] at hb
  exact absurd hb (by decide)

end Sys2Proof.Machine
end

section
/-! The test access port (R27, R139, R140, R604 to R606). -/

namespace Sys2Proof.Machine

/-! ### Registers of the Binnacle -/

theorem Bin.rd_wr_same (b : Bin) (o : Nat) (v : Word) : (b.wr o v).rd o = v := look_put_same b.regs o v (binRst o)
theorem Bin.rd_wr_other (b : Bin) {o q : Nat} (v : Word) (h : q ≠ o) : (b.wr o v).rd q = b.rd q := look_put_other b.regs v (binRst o) (binRst q) h

/-- A flag of a register after a field of it has been set. -/
theorem Bin.on_setF_same (b : Bin) (o : Nat) {f : Bf} (n : Nat) (h : f.lo + f.wid ≤ 32) : f.on ((b.setF o f n).rd o) = (n % 2 ^ f.wid != 0) := by
  rw [Bin.setF, Bin.rd_wr_same, Bf.on_set_flag h]
theorem Bin.on_setF_field (b : Bin) (o : Nat) {f g : Bf} (n : Nat) (h : f.lo + f.wid ≤ g.lo ∨ g.lo + g.wid ≤ f.lo) :
    g.on ((b.setF o f n).rd o) = g.on (b.rd o) := by
  rw [Bin.setF, Bin.rd_wr_same, Bf.on_set_other f _ n h]

/-! ### Without BIN_MAIN, the port does nothing -/

theorem State.onBin_self {s : State} {f : Bin → Bin} (h : f s.bin = s.bin) : s.onBin f = s := by
  rw [State.onBin, h]

theorem Bin.tap_off {b : Bin} (h : b.on = false) (ir : Nat) (dr : Word) : b.tap ir dr = b := by simp [Bin.tap, h]
theorem Bin.balls_off {b : Bin} (h : b.on = false) (ir : Nat) : b.balls ir = b := by simp [Bin.balls, h]

/-! ### The codes (R604) -/

theorem Bin.tap_on {b : Bin} (h : b.on = true) (ir : Nat) (dr : Word) : b.tap ir dr = { b with ir := ir, dr := dr } := by simp [Bin.tap, h]
theorem Bin.balls_on {b : Bin} (h : b.on = true) (ir : Nat) : b.balls ir = { b with ir := ir, dr := Config.freeValue 7 b.free, free := b.free + 1 } := by
  simp [Bin.balls, Bin.tap, h]

theorem exec_bypass_listed (s : State) {c : BitVec 8} (h : c.toNat ∈ [0x00, 0x01, 0x02, 0x10, 0x20]) : exec (.bypass c) s = .next s := by
  show execBypass c s = _
  rw [execBypass, if_pos (List.contains_iff_mem.mpr h)]
theorem exec_bypass_other (s : State) {c : BitVec 8} (h : c.toNat ∉ [0x00, 0x01, 0x02, 0x10, 0x20]) :
    exec (.bypass c) s = .next (s.onBin fun b => b.tap 0xFF 0) := by
  show execBypass c s = _
  rw [execBypass, if_neg fun hc => h (List.contains_iff_mem.mp hc)]

/-- A code that shows what the balls or the instruments show. -/
theorem runs_balls {i : Instr} {s : State} {ir : Nat} (hb : s.bin.on = true) (he : exec i s = .next (s.onBin fun b => b.balls ir)) :
    Runs i s fun t => t = { s with bin := { s.bin with ir := ir, dr := t.bin.dr, free := s.bin.free + 1 } } :=
  ⟨_, he, by rw [State.onBin, Bin.balls_on hb]⟩
/-- A code that shows a given register. -/
theorem runs_tap {i : Instr} {s : State} {ir : Nat} {dr : Word} (hb : s.bin.on = true) (he : exec i s = .next (s.onBin fun b => b.tap ir dr)) :
    Runs i s fun t => t = { s with bin := { s.bin with ir := ir, dr := t.bin.dr } } ∧ t.bin.dr = dr :=
  ⟨_, he, by rw [State.onBin, Bin.tap_on hb], by rw [State.onBin, Bin.tap_on hb]⟩

theorem exec_extest_dry {s : State} (h : bDry.on (s.bin.rd 4) = true) : exec .extest s = .next (s.onBin fun b => b.balls 0x00) := by
  have hd : s.bin.dry = true := h
  show execExtest s = _
  rw [execExtest, State.onBin, if_pos hd]
  rfl
theorem exec_extest_field {s : State} (h : ¬bDry.on (s.bin.rd 4) = true) : exec .extest s = .next (s.onBin fun b => b.tap 0xFF 0) := by
  have hd : ¬s.bin.dry = true := h
  show execExtest s = _
  rw [execExtest, State.onBin, if_neg hd]
  rfl

/-- Without BIN_MAIN no code does anything. -/
theorem testAccess_off {s : State} (hb : s.bin.on = false) :
    (∀ i ∈ ([.idcode, .samplePreload, .extest, .scanreq, .debugAuthenticate none] : List Instr), exec i s = .next s)
      ∧ (∀ c, exec (.bypass c) s = .next s) ∧ (∀ a, exec (.ieee1687Network a) s = .next s) ∧ ∀ k, exec (.debugAuthenticate (some k)) s = .next s := by
  have htap : ∀ ir dr, s.onBin (fun b => b.tap ir dr) = s := fun ir dr => State.onBin_self (Bin.tap_off hb ir dr)
  have hballs : ∀ ir, s.onBin (fun b => b.balls ir) = s := fun ir => State.onBin_self (Bin.balls_off hb ir)
  have hid : exec .idcode s = .next s := congrArg _ (State.onBin_self (Bin.tap_off hb _ _))
  have hsp : exec .samplePreload s = .next s := congrArg _ (hballs _)
  have hext : exec .extest s = .next s := by
    by_cases hd : bDry.on (s.bin.rd 4) = true
    · rw [exec_extest_dry hd, hballs]
    · rw [exec_extest_field hd, htap]
  have hscan : exec .scanreq s = .next s := by
    show execScanreq s = _
    simp [execScanreq, hb]
  have hauth : ∀ k, exec (.debugAuthenticate k) s = .next s := fun k => by
    show execDebugAuthenticate k s = _
    simp [execDebugAuthenticate, hb]
  refine ⟨?_, fun c => ?_, fun a => ?_, fun k => hauth _⟩
  · simp only [List.forall_mem_cons]
    exact ⟨hid, hsp, hext, hscan, hauth none, fun _ h => nomatch h⟩
  · by_cases hc : c.toNat ∈ [0x00, 0x01, 0x02, 0x10, 0x20]
    · exact exec_bypass_listed s hc
    · rw [exec_bypass_other s hc, htap]
  · show execIeee1687Network a s = _
    simp [execIeee1687Network, hb]

/-! ### The debug link (R139, R605) -/

/-- A word of TCM, read over the bus. -/
theorem Lane.memRead_word (L : Lane) {a : Nat} (h : a < 0x100000) : L.memRead a 4 = L.memW a := by
  rw [Lane.memRead, if_neg (by omega), Lane.memW]
  have hn : leNat ((List.range 4).map fun i => L.byte (a + i))
      = (L.byte a).toNat + 256 * ((L.byte (a + 1)).toNat + 256 * ((L.byte (a + 2)).toNat + 256 * ((L.byte (a + 3)).toNat + 256 * 0))) := rfl
  rw [hn]
  congr 1
  omega

/-- A read of TCM by the debugger changes the outcome of the access alone. -/
theorem Lane.busRead_tcm {L : Lane} {a : Nat} (h : a < 0x100000) (hb : L.bankOut a = false) : L.busRead .debugger .word a = L.busEnd (L.memW a) false a := by
  have hw : memWritable a = some true := by
    rw [memWritable, if_neg (by omega), memBank, if_pos h]
    rfl
  rw [Lane.busRead, hb, hw]
  exact congrArg (L.busEnd · false a) (L.memRead_word h)

theorem runs_network_closed {s : State} (a : Word) (hb : s.bin.on = true) (hd : ¬bDry.on (s.bin.rd 4) = true) (hk : bDbg.on (s.bin.rd 4) = false) :
    Runs (.ieee1687Network a) s fun t => t = { s with bin := { s.bin with ir := 0x10, dr := t.bin.dr, free := s.bin.free + 1 } } := by
  have hd' : s.bin.dry = false := by simpa [Bin.dry] using hd
  refine runs_balls hb ?_
  show execIeee1687Network a s = _
  simp [execIeee1687Network, hb, hd', hk]

theorem runs_network_open {s : State} (a : Word) (hb : s.bin.on = true) (ho : bDry.on (s.bin.rd 4) = true ∨ bDbg.on (s.bin.rd 4) = true)
    (ha : a.toNat < 0x100000) (hk : (s.lane .A).bankOut a.toNat = false) : Runs (.ieee1687Network a) s fun t =>
      t.bin = { s.bin with ir := 0x10, dr := (s.lane .A).memW a.toNat } ∧ s.LaneOnly .A { t with bin := s.bin } ∧ Lane.Frame [] (s.lane .A) (t.lane .A) := by
  have ho' : (s.bin.dry || bDbg.on (s.bin.rd 4)) = true := by simpa [Bin.dry] using ho
  have hr : s.busRead .A .debugger .word a.toNat = s.run .A fun L => L.busRead .debugger .word a.toNat :=
    State.busRead_reached _ _ (by simp [State.reaches, State.dbgOpen, hb, ho'])
  have he : exec (.ieee1687Network a) s
      = .next ((s.run .A fun L => L.busRead .debugger .word a.toNat).onBin fun b => b.tap 0x10 (s.run .A fun L => L.busRead .debugger .word a.toNat).a.rdata) := by
    show execIeee1687Network a s = _
    simp only [execIeee1687Network, hb, ho', hr, Bool.not_true, if_true, if_false, Bool.false_eq_true]
  have hlane := State.lane_run_same s .A fun L => L.busRead .debugger .word a.toNat
  rw [Lane.busRead_tcm ha hk] at hlane
  have hbin := State.bin_run s .A fun L => L.busRead .debugger .word a.toNat
  obtain ⟨⟨h1, h2, h3, h4, h5⟩, h6⟩ := State.LaneOnly.run s .A fun L => L.busRead .debugger .word a.toNat
  generalize s.run .A (fun L => L.busRead .debugger .word a.toNat) = t at *
  have hdata : t.a.rdata = (s.lane .A).memW a.toNat := congrArg Lane.rdata hlane
  refine ⟨_, he, ?_, ⟨⟨rfl, h2, h3, h4, h5⟩, h6⟩, ?_⟩
  · rw [State.onBin, hbin, hdata, Bin.tap_on hb]
  · show Lane.Frame [] (s.lane .A) (t.lane .A)
    rw [hlane]
    exact Lane.Frame.of_eq rfl rfl rfl _

theorem runs_seed {s : State} (hb : s.bin.on = true) : Runs (.debugAuthenticate none) s fun t =>
    ∃ seed : List Byte, seed.length = 16 ∧ t = { s with bin := { s.bin with dbgSeed := some seed, free := s.bin.free + 4 } } := by
  refine ⟨s.onBin fun _ => { s.bin.randomSeed.2 with dbgSeed := some s.bin.randomSeed.1 }, ?_, s.bin.randomSeed.1, rfl, rfl⟩
  show execDebugAuthenticate none s = _
  simp [execDebugAuthenticate, hb]

theorem exec_key_unasked {s : State} (k : List Byte) (hs : s.bin.dbgSeed = none) : exec (.debugAuthenticate (some k)) s = .next s := by
  show execDebugAuthenticate (some k) s = _
  simp [execDebugAuthenticate, hs]

/-- The Binnacle once a key has answered its seed. -/
def Bin.answeredSeed (b : Bin) : Bin := { b with dbgSeed := none }

/-- Whether a key answers a seed, in Field and with a key that is not blocked (R605). -/
def Bin.keyGood (b : Bin) (seed k : List Byte) : Bool := !b.dry && !b.authBlocked && !b.auth.isEmpty && decide (k = b.keyOf seed)

theorem Bin.keyGood_iff (b : Bin) (seed k : List Byte) : b.keyGood seed k = true
    ↔ ¬bDry.on (b.rd 4) = true ∧ b.authBlocked = false ∧ b.auth ≠ [] ∧ k = (hmac256 b.auth seed).take 16 := by
  rw [Bin.keyGood, Bool.and_eq_true, decide_eq_true_iff, Bin.keyOf]
  simp [Bin.dry, and_assoc]

theorem exec_key {s : State} (hb : s.bin.on = true) (k : List Byte) {seed : List Byte} (hs : s.bin.dbgSeed = some seed) :
    exec (.debugAuthenticate (some k)) s = if s.bin.keyGood seed k = true then .next (s.onBin fun b => b.answeredSeed.setF 4 bDbg 1) else .next (s.onBin Bin.answeredSeed) := by
  show execDebugAuthenticate (some k) s = _
  rw [execDebugAuthenticate, if_neg (by rw [hb]; decide)]
  simp only [hs]
  rfl

theorem runs_key {s : State} (hb : s.bin.on = true) (k : List Byte) {seed : List Byte} (hs : s.bin.dbgSeed = some seed) :
    let good := ¬bDry.on (s.bin.rd 4) = true ∧ s.bin.authBlocked = false ∧ s.bin.auth ≠ [] ∧ k = (hmac256 s.bin.auth seed).take 16
    Runs (.debugAuthenticate (some k)) s fun t => t = { s with bin := { s.bin with dbgSeed := none, regs := t.bin.regs } } ∧ (¬good → t.bin.regs = s.bin.regs)
      ∧ (good → bDbg.on (t.bin.rd 4) = true ∧ bDry.on (t.bin.rd 4) = false ∧ ∀ o, o ≠ 4 → t.bin.rd o = s.bin.rd o) := by
  intro good
  have hgood : s.bin.keyGood seed k = true ↔ good := s.bin.keyGood_iff seed k
  have he := exec_key hb k hs
  by_cases hg : good
  · have hd := hg.1
    rw [if_pos (hgood.mpr hg)] at he
    refine ⟨_, he, rfl, fun hn => absurd hg hn, fun _ => ⟨Bin.on_setF_same _ 4 1 (by decide), ?_, fun o ho => Bin.rd_wr_other _ _ ho⟩⟩
    exact (Bin.on_setF_field s.bin.answeredSeed 4 1 (.inr (by decide))).trans (Bool.eq_false_iff.mpr hd)
  · rw [if_neg fun h => hg (hgood.mp h)] at he
    exact ⟨_, he, rfl, fun _ => rfl, fun h => absurd h hg⟩

/-! ### SCANREQ in Field (R604) -/

theorem Bin.own_room {b : Bin} (h : b.sram.length < 8192) (wakes ty : Nat) (ps : List Word) :
    b.own wakes ty ps = { b with sram := b.sram ++ [closeRec ([w32 (ty % 256 + 256 * 3 + 1024 * b2n false + 65536 * (wakes % 65536)), w32 b.ms, 0xFFFFFFFF#32] ++ (ps ++ [0, 0, 0, 0]).take 4)] } := by
  rw [Bin.own, Bin.record, Bin.hold, if_pos h]

/-- The source and the type of a record, and its first word. -/
theorem closeRec_head (n : Nat) {m : Nat} (x c p : Word) (ps : List Word) (hm : m ∣ 2 ^ 32) :
    ((closeRec ([w32 n, x, c] ++ (p :: ps ++ [0, 0, 0, 0]).take 4)).getD 0 0).toNat % m = n % m
      ∧ (closeRec ([w32 n, x, c] ++ (p :: ps ++ [0, 0, 0, 0]).take 4)).getD 3 0 = p := by
  refine ⟨?_, rfl⟩
  show (w32 n).toNat % m = n % m
  rw [w32, BitVec.toNat_ofNat, Nat.mod_mod_of_dvd _ hm]

theorem runs_scanreq_field {s : State} (hb : s.bin.on = true) (hd : ¬bDry.on (s.bin.rd 4) = true) (hr : s.bin.sram.length < 8192) :
    Runs .scanreq s fun t => t = { s with bin := { s.bin with ir := 0xFF, dr := 0, sram := t.bin.sram } }
      ∧ ∃ r, t.bin.sram = s.bin.sram ++ [r] ∧ (r.getD 0 0).toNat % 1024 = 0x30D ∧ r.getD 3 0 = 0x20 := by
  have hd' : s.bin.dry = false := Bool.eq_false_iff.mpr hd
  have he : exec .scanreq s = .next (s.onBin fun b => (b.tap 0xFF 0).own s.keep.wakes 0xD [0x20#32]) := by
    show execScanreq s = _
    simp [execScanreq, hb, hd']
  rw [State.onBin, Bin.tap_on hb, Bin.own_room (by exact hr)] at he
  obtain ⟨h0, h3⟩ := closeRec_head (0xD % 256 + 256 * 3 + 1024 * b2n false + 65536 * (s.keep.wakes % 65536)) (m := 1024) (w32 s.bin.ms) 0xFFFFFFFF#32 0x20#32 []
    (by decide)
  have hn : (0xD % 256 + 256 * 3 + 1024 * b2n false + 65536 * (s.keep.wakes % 65536)) % 1024 = 0x30D := by
    simp only [b2n]
    omega
  exact ⟨_, he, rfl, _, rfl, h0.trans hn, h3⟩

/-! ### SCANREQ in Dry dock (R606) -/

/-- A store that keeps every entry of a key reads there as before. -/
theorem look_filter_kept {α : Type} {p : Nat × α → Bool} {k : Nat} (hp : ∀ v, p (k, v) = true) (t : Tab α) (d : α) : look (t.filter p) k d = look t k d := by
  induction t with
  | nil => rfl
  | cons e t ih =>
    obtain ⟨a, v⟩ := e
    by_cases hk : a = k
    · subst hk
      rw [List.filter_cons_of_pos (hp v), look, look, if_pos rfl, if_pos rfl]
    · rw [List.filter_cons]
      split
      · rw [look, look, if_neg hk, if_neg hk, ih]
      · rw [ih, look, if_neg hk]

/-- BIN_STAT of the Binnacle that SCANREQ leaves. -/
theorem Bin.scanned_stat (b : Bin) : bScan.on (b.scanned.rd 4) = true ∧ bDry.on (b.scanned.rd 4) = bDry.on (b.rd 4) := by
  have h0 : b.powerOff.rd 4 = (b.setF 4 bLogFail 0).rd 4 := look_filter_kept (fun _ => rfl) _ _
  have h1 : bDry.on (b.powerOff.rd 4) = bDry.on (b.rd 4) := by rw [h0, b.on_setF_field 4 0 (.inr (by decide))]
  have h2 := (b.powerOff.on_setF_field 4 (f := bDbg) (g := bDry) 0 (.inr (by decide))).trans h1
  generalize hX : b.powerOff.setF 4 bDbg 0 = X at h2
  have hS : b.scanned.rd 4 = (X.setF 4 bScan 1).rd 4 := by rw [← hX]; rfl
  rw [hS]
  exact ⟨X.on_setF_same 4 1 (by decide), (X.on_setF_field 4 1 (.inr (by decide))).trans h2⟩

/-- The Binnacle at a wake, before its record. -/
def Bin.woken (b : Bin) : Bin :=
  { (((b.wr 0x14 (binRst 0x14)).wr 0x18 (binRst 0x18)).setF 4 bDbg 0) with
    on := true, ms := 0, auth := if b.authBlocked then b.auth else b.authOtp, posts := [], lastReq := 0, delay := b.delay.map fun _ => 0 }

/-- Of BIN_STAT, a wake changes DBGAUTH. -/
theorem Bin.woken_stat (b : Bin) : bDbg.on (b.woken.rd 4) = false ∧ ∀ g : Bf, g.lo + g.wid ≤ bDbg.lo → g.on (b.woken.rd 4) = g.on (b.rd 4) := by
  have h1 : ((b.wr 0x14 (binRst 0x14)).wr 0x18 (binRst 0x18)).rd 4 = b.rd 4 := (Bin.rd_wr_other _ _ (by decide)).trans (Bin.rd_wr_other _ _ (by decide))
  generalize hX : (b.wr 0x14 (binRst 0x14)).wr 0x18 (binRst 0x18) = X at h1
  have hS : b.woken.rd 4 = (X.setF 4 bDbg 0).rd 4 := by rw [← hX]; rfl
  rw [hS]
  exact ⟨X.on_setF_same 4 0 (by decide), fun g hg => (X.on_setF_field 4 0 (.inr hg)).trans (congrArg g.on h1)⟩

/-- The record of a wake (R584). -/
def wakeLog (r : Word) (wakes : Nat) : List Word :=
  closeRec ([w32 (3 % 256 + 256 * 3 + 1024 * b2n false + 65536 * (wakes % 65536)), w32 0, 0xFFFFFFFF#32] ++ (r :: [w32 wakes] ++ [0, 0, 0, 0]).take 4)

theorem wakeLog_words (r : Word) (wakes : Nat) : ((wakeLog r wakes).getD 0 0).toNat % 65536 = 0x303 ∧ (wakeLog r wakes).getD 3 0 = r := by
  obtain ⟨h0, h3⟩ := closeRec_head (3 % 256 + 256 * 3 + 1024 * b2n false + 65536 * (wakes % 65536)) (m := 65536) (w32 0) 0xFFFFFFFF#32 r [w32 wakes] (by decide)
  have hz : b2n false = 0 := rfl
  have hn : (3 % 256 + 256 * 3 + 1024 * b2n false + 65536 * (wakes % 65536)) % 65536 = 0x303 := by
    rw [hz]
    omega
  exact ⟨h0.trans hn, h3⟩

/-- The Binnacle at a wake that finds no record waiting. -/
theorem Bin.wake_empty {b : Bin} (h : b.sram = []) (r : Word) (wakes : Nat) : b.wake r wakes = { b.woken with sram := [wakeLog r wakes] } := by
  have hs : b.woken.sram = [] := h
  have e : b.wake r wakes = b.woken.own wakes 3 [r, w32 wakes] := rfl
  rw [e, Bin.own_room (by rw [hs]; decide), hs]
  rfl

/-- A lane without power, as PWR_DOM shows it. -/
theorem Lane.powerOff_shown (L : Lane) (v : Word) : (∀ a, ((L.powerOff false).wr R.PWR_DOM v).byte a = 0)
    ∧ (∀ a, ((L.powerOff false).wr R.PWR_DOM v).flashByte a = L.flashByte a) ∧ ((L.powerOff false).wr R.PWR_DOM v).pw.on = false
    ∧ ((L.powerOff false).wr R.PWR_DOM v).pw.heldOff = false ∧ ((L.powerOff false).wr R.PWR_DOM v).pw.up = false
    ∧ ((L.powerOff false).wr R.PWR_DOM v).rd R.PWR_MODE = 0 ∧ ((L.powerOff false).wr R.PWR_DOM v).rd R.IMG_STAT = 0 := by
  have hr : ∀ r : Reg, r.addr ≠ R.PWR_DOM.addr → r.addr ≠ R.LANE_ID_LANE.addr → (otpReg r.addr || (false && wakeReg r.addr)) = false →
      ((L.powerOff false).wr R.PWR_DOM v).rd r = r.rst := fun r h1 h2 h3 => by
    rw [Lane.rd_wr_other _ _ h1]
    exact (look_put_other _ _ _ _ h2).trans (look_filter_dropped (fun _ => h3) _ _)
  exact ⟨fun _ => rfl, fun _ => rfl, rfl, rfl, rfl, hr R.PWR_MODE (by decide) (by decide) (by decide +kernel), hr R.IMG_STAT (by decide) (by decide) (by decide +kernel)⟩

/-- The device with every domain but KEEP off, as SCANREQ leaves it before the wake. -/
def State.scanOff (s : State) : State :=
  { (s.onLanes fun _ L => L.powerOff false).onDies fun _ => default with
    bin := { s.bin.scanned with free := s.bin.free + 1 }, dbgq := [], keep := { s.keep with anchored := false } }

/-- The wake record after SCANREQ. -/
def State.scanRec (s : State) : Word :=
  w32 ((Config.freeValue 7 s.bin.free).toNat % 8 + 8 * b2n false + 16 * 3 + 256 * levelMask s.keep.cfg s.keep.levels)

theorem State.scanRec_fields (s : State) : F.PWR_WAKESRC_FROM.get s.scanRec = 3 ∧ F.PWR_WAKESRC_LATCHED.on s.scanRec = false := by
  have h8 : (Config.freeValue 7 s.bin.free).toNat % 8 < 8 := Nat.mod_lt _ (by decide)
  unfold State.scanRec
  generalize (Config.freeValue 7 s.bin.free).toNat % 8 = x at h8
  generalize levelMask s.keep.cfg s.keep.levels = m
  have hz : b2n false = 0 := rfl
  have hf : F.PWR_WAKESRC_FROM.get (w32 (x + 8 * b2n false + 16 * 3 + 256 * m)) = 3 := by
    simp only [Bf.get, F.PWR_WAKESRC_FROM, w32, BitVec.toNat_ofNat, hz, Nat.shiftRight_eq_div_pow]
    omega
  have hl : F.PWR_WAKESRC_LATCHED.get (w32 (x + 8 * b2n false + 16 * 3 + 256 * m)) = 0 := by
    simp only [Bf.get, F.PWR_WAKESRC_LATCHED, w32, BitVec.toNat_ofNat, hz, Nat.shiftRight_eq_div_pow]
    omega
  exact ⟨hf, congrArg (· != 0) hl⟩

theorem exec_scanreq_dry {s : State} (hb : s.bin.on = true) (hd : bDry.on (s.bin.rd 4) = true) :
    exec .scanreq s = .next (s.scanOff.wake ((Config.freeValue 7 s.bin.free).toNat % 8) (levelMask s.keep.cfg s.keep.levels) 3 false) := by
  have hd' : s.bin.dry = true := hd
  show execScanreq s = _
  rw [execScanreq, if_neg (by rw [hb]; decide), if_pos hd']
  rfl

theorem State.lane_scanWake (s : State) (src act : Nat) (k : LaneId) :
    ∃ v, (s.scanOff.wake src act 3 false).lane k = ((s.lane k).powerOff false).wr R.PWR_DOM v := by
  cases k <;> exact ⟨_, rfl⟩

theorem State.die_onLanes (s : State) (f : LaneId → Lane → Lane) (n : Nat) : (s.onLanes f).die n = s.die n := rfl

/-- A wake switches no die on and takes no command. -/
theorem State.wake_rest (s : State) (src act frm : Nat) (latched : Bool) : (s.wake src act frm latched).pending = s.pending
    ∧ (s.wake src act frm latched).dbgq = s.dbgq ∧ ∀ n, (s.wake src act frm latched).die n = s.die n := by
  unfold State.wake State.showDom
  refine ⟨?_, ?_, fun n => ?_⟩
  · rw [State.pending_onLanes]
  · rw [State.dbgq_onLanes]
  · rw [State.die_onLanes]
    rfl

theorem State.scanOff_rest (s : State) : s.scanOff.pending = s.pending ∧ s.scanOff.dbgq = [] ∧ ∀ n, s.scanOff.die n = default := by
  refine ⟨rfl, rfl, fun n => ?_⟩
  match n with
  | 0 | 1 | 2 | _ + 3 => rfl

theorem State.bin_scanWake (s : State) : (s.scanOff.wake ((Config.freeValue 7 s.bin.free).toNat % 8) (levelMask s.keep.cfg s.keep.levels) 3 false).bin
    = s.scanOff.bin.wake s.scanRec (s.keep.wakes + 1) := rfl

theorem runs_scanreq_dry {s : State} (hb : s.bin.on = true) (hd : bDry.on (s.bin.rd 4) = true) : Runs .scanreq s fun t =>
    (∃ r rec, t.keep = { s.keep with ph := .awake, mode := 0, wakeRec := r, wakes := s.keep.wakes + 1, latched := 0, anchored := false }
        ∧ F.PWR_WAKESRC_FROM.get r = 3 ∧ F.PWR_WAKESRC_LATCHED.on r = false ∧ t.bin.sram = [rec] ∧ (rec.getD 0 0).toNat % 65536 = 0x303 ∧ rec.getD 3 0 = r)
      ∧ t.pending = s.pending ∧ t.dbgq = [] ∧ (∀ n : Fin 4, t.die n = default) ∧ bScan.on (t.bin.rd 4) = true ∧ bDry.on (t.bin.rd 4) = true ∧ bDbg.on (t.bin.rd 4) = false
      ∧ t.bin.auth = [] ∧ t.bin.authOtp = s.bin.authOtp ∧ t.bin.authBlocked = true ∧ t.bin.session = 0 ∧ t.bin.unlocked = false ∧ t.bin.seed = none ∧ t.bin.dbgSeed = none
      ∧ (∀ a, t.bin.flashByte a = s.bin.flashByte a)
      ∧ ∀ k, (∀ a, (t.lane k).byte a = 0) ∧ (∀ a, (t.lane k).flashByte a = (s.lane k).flashByte a) ∧ (t.lane k).pw.on = false ∧ (t.lane k).pw.heldOff = false
        ∧ (t.lane k).pw.up = false ∧ (t.lane k).rd R.PWR_MODE = 0 ∧ (t.lane k).rd R.IMG_STAT = 0 := by
  have hlane := s.lane_scanWake ((Config.freeValue 7 s.bin.free).toNat % 8) (levelMask s.keep.cfg s.keep.levels)
  have hbin := s.bin_scanWake.trans (Bin.wake_empty (b := s.scanOff.bin) rfl s.scanRec (s.keep.wakes + 1))
  obtain ⟨hdbg, hflags⟩ := s.scanOff.bin.woken_stat
  obtain ⟨hscan, hdry⟩ := s.bin.scanned_stat
  obtain ⟨hfrom, hlatched⟩ := s.scanRec_fields
  obtain ⟨h0, h3⟩ := wakeLog_words s.scanRec (s.keep.wakes + 1)
  have hkeep : (s.scanOff.wake ((Config.freeValue 7 s.bin.free).toNat % 8) (levelMask s.keep.cfg s.keep.levels) 3 false).keep
      = { s.keep with ph := .awake, mode := 0, wakeRec := s.scanRec, wakes := s.keep.wakes + 1, latched := 0, anchored := false } := rfl
  obtain ⟨hpend, hdbgq, hdies⟩ := s.scanOff.wake_rest ((Config.freeValue 7 s.bin.free).toNat % 8) (levelMask s.keep.cfg s.keep.levels) 3 false
  obtain ⟨hpend', hdbgq', hdies'⟩ := s.scanOff_rest
  refine ⟨_, exec_scanreq_dry hb hd, ?_⟩
  generalize s.scanOff.wake ((Config.freeValue 7 s.bin.free).toNat % 8) (levelMask s.keep.cfg s.keep.levels) 3 false = t at *
  have hstat : t.bin.rd 4 = s.scanOff.bin.woken.rd 4 := by rw [hbin]; rfl
  refine ⟨⟨s.scanRec, wakeLog s.scanRec (s.keep.wakes + 1), hkeep, hfrom, hlatched, congrArg Bin.sram hbin, h0, h3⟩, hpend.trans hpend', hdbgq.trans hdbgq', fun n => (hdies n).trans (hdies' n), ?_, ?_, ?_, congrArg Bin.auth hbin, (congrArg Bin.authOtp hbin).trans rfl,
    congrArg Bin.authBlocked hbin, congrArg Bin.session hbin, congrArg Bin.unlocked hbin, congrArg Bin.seed hbin, congrArg Bin.dbgSeed hbin, fun a => ?_, fun k => ?_⟩
  · rw [hstat]
    exact (hflags bScan (by decide)).trans hscan
  · rw [hstat]
    exact ((hflags bDry (by decide)).trans hdry).trans hd
  · rw [hstat]
    exact hdbg
  · rw [hbin]
    rfl
  · obtain ⟨v, hv⟩ := hlane k
    rw [hv]
    exact (s.lane k).powerOff_shown v

/-- Settles O56: each code of the port, in Field and in Dry dock. -/
theorem testAccess : Obligations.TestAccess := by
  intro s
  refine ⟨testAccess_off, fun c hc => exec_bypass_listed s hc, fun hb => ⟨fun c hc => runs_tap hb (exec_bypass_other s hc), ?_, runs_balls hb rfl, fun hd => runs_balls hb (exec_extest_dry hd),
    fun hd => ?_, fun a hd hk => runs_network_closed a hb hd hk, fun a ho _ ha hk => runs_network_open a hb ho ha hk, runs_seed hb,
    fun k => ⟨exec_key_unasked k, fun seed hs => runs_key hb k hs⟩, runs_scanreq_field hb, runs_scanreq_dry hb⟩⟩
  · obtain ⟨t, he, ht, hdr⟩ := runs_tap (ir := 0x01) (dr := w32 (0x0734054F + 0x10000000 * s.bin.fld 0 ⟨16, 4⟩)) hb (rfl : exec .idcode s = _)
    exact ⟨t, he, ht, fun h => by rw [hdr, h]; rfl, fun h => by rw [hdr, h]; rfl⟩
  · obtain ⟨t, he, ht, -⟩ := runs_tap hb (exec_extest_field hd)
    exact ⟨t, he, ht⟩

end Sys2Proof.Machine
end

section
/-! SUPPORT. What the parts of an apply instant leave alone (R98): the registers that show the lanes' states and the agreement, the counts of the
checkpoints, and, outside the charts, memory. -/

namespace Sys2Proof.Machine

/-! ### Two relations -/

/-- What a lane counts of its checkpoints: whether the last capture is applied, the void checkpoints in a row, the agreed words that wait to be read,
whether a step ends, and whether a split waits for the dies. -/
def Ck.counts (c : Ck) : Bool × Nat × List Word × Bool × Bool := (c.done, c.voids, c.agreed, c.stepOne, c.splitDue)

/-- No confirmation waits for the lanes' records, and no release that a PDU has asked for (R484, R523). -/
def Lane.RecQuiet (L : Lane) : Prop := L.safe.conf = none ∧ ∀ mask n seq, L.safe.rel = some (mask, n, seq) → n = 0

/-- The registers `ks` and what `v` shows of the checkpoints stand, and nothing new waits for the lanes' records. -/
structure Lane.Keeps {α : Type} (v : Ck → α) (ks : List Reg) (L M : Lane) : Prop where
  me : M.me = L.me
  slew : M.slewLane = L.slewLane
  ck : v M.ck = v L.ck
  quiet : L.RecQuiet → M.RecQuiet
  regs : ∀ q ∈ ks, M.rd q = L.rd q

/-- The same with everything of the checkpoints, memory and flash as they were. -/
structure Lane.Rests (ks : List Reg) (L M : Lane) : Prop where
  me : M.me = L.me
  slew : M.slewLane = L.slewLane
  ck : M.ck = L.ck
  mem : M.mem = L.mem
  flash : M.flash = L.flash
  quiet : L.RecQuiet → M.RecQuiet
  regs : ∀ q ∈ ks, M.rd q = L.rd q

section
variable {α : Type} {v : Ck → α} {ks : List Reg} {L M N : Lane}

theorem Lane.Keeps.refl (v : Ck → α) (ks : List Reg) (L : Lane) : Lane.Keeps v ks L L := ⟨rfl, rfl, rfl, id, fun _ _ => rfl⟩
theorem Lane.Keeps.trans (h : Lane.Keeps v ks L M) (k : Lane.Keeps v ks M N) : Lane.Keeps v ks L N :=
  ⟨k.me.trans h.me, k.slew.trans h.slew, k.ck.trans h.ck, k.quiet ∘ h.quiet, fun q hq => (k.regs q hq).trans (h.regs q hq)⟩

theorem Lane.Rests.refl (ks : List Reg) (L : Lane) : Lane.Rests ks L L := ⟨rfl, rfl, rfl, rfl, rfl, id, fun _ _ => rfl⟩
theorem Lane.Rests.trans (h : Lane.Rests ks L M) (k : Lane.Rests ks M N) : Lane.Rests ks L N :=
  ⟨k.me.trans h.me, k.slew.trans h.slew, k.ck.trans h.ck, k.mem.trans h.mem, k.flash.trans h.flash, k.quiet ∘ h.quiet,
    fun q hq => (k.regs q hq).trans (h.regs q hq)⟩
theorem Lane.Rests.keeps (h : Lane.Rests ks L M) : Lane.Keeps v ks L M := ⟨h.me, h.slew, congrArg v h.ck, h.quiet, h.regs⟩
theorem Lane.Rests.mono {qs : List Reg} (h : Lane.Rests ks L M) (hs : ∀ q ∈ qs, q ∈ ks) : Lane.Rests qs L M :=
  ⟨h.me, h.slew, h.ck, h.mem, h.flash, h.quiet, fun q hq => h.regs q (hs q hq)⟩

/-- A change outside the registers and what the relation speaks of. -/
theorem Lane.Rests.of_eq (ks : List Reg) (hr : M.regs = L.regs) (hm : M.me = L.me) (hs : M.slewLane = L.slewLane) (hc : M.ck = L.ck) (hb : M.mem = L.mem)
    (hf : M.flash = L.flash) (hq : L.RecQuiet → M.RecQuiet) : Lane.Rests ks L M := ⟨hm, hs, hc, hb, hf, hq, fun q _ => Lane.rd_congr hr q⟩

theorem Lane.Rests.wr (r : Reg) (w : Word) (h : Lane.Rests ks L M) (hr : ∀ q ∈ ks, q.addr ≠ r.addr) : Lane.Rests ks L (M.wr r w) :=
  h.trans ⟨rfl, rfl, rfl, rfl, rfl, id, fun q hq => M.rd_wr_other w (hr q hq)⟩
theorem Lane.Rests.setF (r : Reg) (f : Bf) (n : Nat) (h : Lane.Rests ks L M) (hr : ∀ q ∈ ks, q.addr ≠ r.addr) : Lane.Rests ks L (M.setF r f n) := h.wr r _ hr
theorem Lane.Rests.raise (r : Reg) (f : Bf) (h : Lane.Rests ks L M) (hr : ∀ q ∈ ks, q.addr ≠ r.addr) : Lane.Rests ks L (M.raise r f) :=
  h.trans ⟨rfl, rfl, rfl, rfl, rfl, id, fun q hq => M.rd_raise_other f (hr q hq)⟩
theorem Lane.Rests.updAx (a : Nat) (f : Ax → Ax) (h : Lane.Rests ks L M) : Lane.Rests ks L (M.updAx a f) :=
  h.trans (Lane.Rests.of_eq ks rfl rfl rfl rfl rfl rfl id)
theorem Lane.Rests.updMc (b : Nat) (f : Mc → Mc) (h : Lane.Rests ks L M) : Lane.Rests ks L (M.updMc b f) :=
  h.trans (Lane.Rests.of_eq ks rfl rfl rfl rfl rfl rfl id)
theorem Lane.Rests.updEdg (f : Edg → Edg) (h : Lane.Rests ks L M) : Lane.Rests ks L (M.updEdg f) :=
  h.trans (Lane.Rests.of_eq ks rfl rfl rfl rfl rfl rfl id)
theorem Lane.Rests.updTrav (f : Trav → Trav) (h : Lane.Rests ks L M) : Lane.Rests ks L (M.updTrav f) :=
  h.trans (Lane.Rests.of_eq ks rfl rfl rfl rfl rfl rfl id)
theorem Lane.Rests.updDg (f : Dg → Dg) (h : Lane.Rests ks L M) : Lane.Rests ks L (M.updDg f) :=
  h.trans (Lane.Rests.of_eq ks rfl rfl rfl rfl rfl rfl id)
theorem Lane.Rests.updSafe (f : Safe → Safe) (h : Lane.Rests ks L M) (hf : M.RecQuiet → (M.updSafe f).RecQuiet) : Lane.Rests ks L (M.updSafe f) :=
  h.trans (Lane.Rests.of_eq ks rfl rfl rfl rfl rfl rfl hf)
theorem Lane.Rests.updSess (n : Nat) (f : Sess → Sess) (h : Lane.Rests ks L M) : Lane.Rests ks L (M.updSess n f) := h.updSafe _ id

/-- A pass over a list whose every step rests. -/
theorem Lane.Rests.foldl {β : Type} {f : Lane → β → Lane} (l : List β) (h : Lane.Rests ks L M) (hf : ∀ x ∈ l, ∀ X, Lane.Rests ks X (f X x)) :
    Lane.Rests ks L (l.foldl f M) := by
  induction l generalizing M with
  | nil => exact h
  | cons x t ih => exact ih (h.trans (hf x (by simp) M)) fun y hy => hf y (by simp [hy])
/-- A pass over a list whose every step keeps. -/
theorem Lane.Keeps.foldl {β : Type} {f : Lane → β → Lane} (l : List β) (h : Lane.Keeps v ks L M) (hf : ∀ x ∈ l, ∀ X, Lane.Keeps v ks X (f X x)) :
    Lane.Keeps v ks L (l.foldl f M) := by
  induction l generalizing M with
  | nil => exact h
  | cons x t ih => exact ih (h.trans (hf x (by simp) M)) fun y hy => hf y (by simp [hy])
end

/-! ### The registers kept -/

/-- The registers of the Fix and of the modes that show what an apply instant in the regular Fix leaves. -/
def fixKept : List Reg := [R.FIX_CTRL, R.FIX_STAT, R.FIX_EVT, R.FIX_DIN, R.FIX_XSTAT, R.FIX_DIG 0, R.FIX_DIG 1, R.FIX_DIG 2, R.FIX_DGSTAT, R.PWR_SLPST, R.PWR_MODE]
/-- The same with the bank registers of the axes, by which memory is seen (R195). -/
def tailKept : List Reg := fixKept ++ (List.range 12).map R.AX_BANK

theorem fixKept_ne {r : Reg} (h : r.addr / 0x10000 ≠ 0x4002) (h' : r.addr / 0x10000 ≠ 0x400D) : ∀ q ∈ fixKept, q.addr ≠ r.addr := by
  have hw : ∀ q ∈ fixKept, q.addr / 0x10000 = 0x4002 ∨ q.addr / 0x10000 = 0x400D := by decide
  intro q hq e
  have := hw q hq
  rw [e] at this
  omega
theorem tailKept_ne {r : Reg} (h : r.addr / 0x10000 ≠ 0x4002) (h' : r.addr / 0x10000 ≠ 0x400D) (h4 : r.addr / 0x10000 ≠ 0x4004) : ∀ q ∈ tailKept, q.addr ≠ r.addr := by
  have hw : ∀ q ∈ tailKept, q.addr / 0x10000 = 0x4002 ∨ q.addr / 0x10000 = 0x400D ∨ q.addr / 0x10000 = 0x4004 := by decide
  intro q hq e
  have := hw q hq
  rw [e] at this
  omega

theorem fixKept_sub_tailKept : ∀ q ∈ fixKept, q ∈ tailKept := by decide

/-- What rests with the bank registers leaves every byte. -/
theorem Lane.Rests.bytesSame {L M : Lane} (h : Lane.Rests tailKept L M) : Lane.BytesSame L M :=
  Lane.BytesSame.of h.mem h.flash fun _ hx => h.regs _ (List.mem_append_right _ (List.mem_map_of_mem (List.mem_range.2 hx)))

/-! ### Stop bits (R467) -/

theorem Lane.Rests.served (ks : List Reg) (L : Lane) (key seq : Nat) : Lane.Rests ks L (L.served key seq) := (Lane.Rests.refl ks L).updEdg _

theorem Lane.Rests.sendRes (ks : List Reg) (L : Lane) (me key seq : Nat) : Lane.Rests ks L (L.sendRes me key seq).1 := by
  unfold Lane.sendRes
  split
  · exact Lane.Rests.served ks L key seq
  · exact Lane.Rests.refl ks L

theorem Lane.Rests.sendDie (ks : List Reg) (L : Lane) (me n seq : Nat) : Lane.Rests ks L (L.sendDie me n seq).1 := by
  unfold Lane.sendDie
  split
  · dsimp only
    exact (Lane.Rests.served ks L _ _).updEdg _
  · exact Lane.Rests.refl ks L

/-- A pass that gathers packets, whose every step rests. -/
theorem Lane.Rests.foldl_fst {α β : Type} {ks : List Reg} {L : Lane} {f : Lane × β → α → Lane × β} (l : List α) (acc : Lane × β) (h : Lane.Rests ks L acc.1)
    (hf : ∀ acc x, Lane.Rests ks acc.1 (f acc x).1) : Lane.Rests ks L (l.foldl f acc).1 := by
  induction l generalizing acc with
  | nil => exact h
  | cons _ t ih => exact ih _ (h.trans (hf acc _))

theorem Lane.Rests.stopNow (ks : List Reg) (L : Lane) (me : Nat) (keys dies : List Nat) : Lane.Rests ks L (L.stopNow me keys dies).1 :=
  Lane.Rests.foldl_fst _ _ (Lane.Rests.foldl_fst _ _ (Lane.Rests.refl ks L) fun _ _ => Lane.Rests.sendRes ks _ _ _ _) fun _ _ => Lane.Rests.sendDie ks _ _ _ _

theorem Lane.Rests.emit {ks : List Reg} {L : Lane} {r : Lane × List (Nat × Pkt)} (h : Lane.Rests ks L r.1) : Lane.Rests ks L (Lane.emit r) :=
  h.trans (Lane.Rests.of_eq ks rfl rfl rfl rfl rfl rfl id)

theorem Lane.Rests.updStops (ks : List Reg) (L : Lane) : Lane.Rests ks L L.updStops := by
  unfold Lane.updStops
  extract_lets axes dies keys fresh L1
  have h1 : Lane.Rests ks L L1 := (Lane.Rests.refl ks L).updEdg _
  split
  · exact h1
  · exact Lane.Rests.emit (h1.trans (Lane.Rests.stopNow ks _ _ _ _))

/-! ### Travel and sessions (R404, R459) -/

theorem POS_WSPD_window {w : Nat} (h : w < 4) : ∀ q ∈ tailKept, q.addr ≠ (R.POS_WSPD w).addr := by
  refine tailKept_ne ?_ ?_ ?_ <;> · simp only [R.POS_WSPD]; omega
theorem POS_WCNT_window {w : Nat} (h : w < 4) : ∀ q ∈ tailKept, q.addr ≠ (R.POS_WCNT w).addr := by
  refine tailKept_ne ?_ ?_ ?_ <;> · simp only [R.POS_WCNT]; omega
theorem SAFE_SST_window {n : Nat} (h : n < 128) : ∀ q ∈ tailKept, q.addr ≠ (R.SAFE_SST n).addr := by
  refine tailKept_ne ?_ ?_ ?_ <;> · simp only [R.SAFE_SST]; omega
theorem POS_TRSTAT_window : ∀ q ∈ tailKept, q.addr ≠ R.POS_TRSTAT.addr := tailKept_ne (by decide) (by decide) (by decide)

theorem Lane.Rests.travShow (L : Lane) : Lane.Rests tailKept L L.travShow := by
  have hs (M : Lane) (h : Lane.Rests tailKept L M) (f : Bf) (n : Nat) : Lane.Rests tailKept L (M.setF R.POS_TRSTAT f n) := h.setF _ f n POS_TRSTAT_window
  unfold Lane.travShow
  extract_lets wv ws L1 L2 L3 L4
  have h1 : Lane.Rests tailKept L L1 := hs _ (hs _ (hs _ (Lane.Rests.refl _ L) _ _) _ _) _ _
  have h2 : Lane.Rests tailKept L L2 := h1.foldl _ fun w hw X => (Lane.Rests.refl _ X).wr _ _ (POS_WSPD_window (List.mem_range.1 hw))
  have h4 : Lane.Rests tailKept L L4 := (h2.wr R.POS_RSPD _ (tailKept_ne (by decide) (by decide) (by decide))).wr R.POS_GSPD _ (tailKept_ne (by decide) (by decide) (by decide))
  split
  · exact h4.raise _ _ POS_TRSTAT_window
  · exact h4

theorem Lane.Rests.travelOff (L : Lane) : Lane.Rests tailKept L L.travelOff := by
  have h := (Lane.Rests.refl tailKept L).setF R.POS_TRCFG F.POS_TRCFG_ACTIVE 0 (tailKept_ne (by decide) (by decide) (by decide))
  exact ((h.setF R.POS_TRSTAT F.POS_TRSTAT_WVALID 0 POS_TRSTAT_window).setF R.POS_TRSTAT F.POS_TRSTAT_RVALID 0 POS_TRSTAT_window).setF _ _ _ POS_TRSTAT_window

theorem Lane.Rests.gsOff (L : Lane) : Lane.Rests tailKept L L.gsOff :=
  ((Lane.Rests.refl tailKept L).setF R.POS_GSCFG F.POS_GSCFG_ACTIVE 0 (tailKept_ne (by decide) (by decide) (by decide))).updTrav fun t => { t with bit := false }

theorem Lane.Rests.travApply (L : Lane) (p : Nat) : Lane.Rests tailKept L (L.travApply p) := by
  unfold Lane.travApply
  extract_lets ctl en X1 X2 L1
  have hx1 : Lane.Rests tailKept L X1 :=
    (((Lane.Rests.refl _ L).setF R.POS_TRCFG _ _ (tailKept_ne (by decide) (by decide) (by decide))).setF _ _ _ POS_TRSTAT_window).wr R.POS_RCNT _
      (tailKept_ne (by decide) (by decide) (by decide))
  have hx2 : Lane.Rests tailKept L X2 := hx1.foldl _ fun w hw X => (Lane.Rests.refl _ X).wr _ _ (POS_WCNT_window (List.mem_range.1 hw))
  have h1 : Lane.Rests tailKept L L1 := by
    dsimp only [L1]
    split
    · exact (hx2.updTrav _).trans (Lane.Rests.travShow _)
    · split
      · exact (Lane.Rests.travelOff L).updTrav _
      · exact Lane.Rests.refl _ L
  split
  · exact (h1.trans (Lane.Rests.gsOff L1)).updTrav _
  · split
    · exact (h1.setF R.POS_GSCFG _ _ (tailKept_ne (by decide) (by decide) (by decide))).updTrav _
    · exact h1

theorem Lane.Rests.cmdStale (ks : List Reg) (L : Lane) (n : Nat) : Lane.Rests ks L (L.cmdStale n) := by
  refine (Lane.Rests.refl ks L).foldl _ fun a _ X => ?_
  dsimp only
  split
  · exact (Lane.Rests.refl ks X).updAx _ _
  · exact Lane.Rests.refl ks X

theorem Lane.Rests.setSess (L : Lane) {n : Nat} (st : Nat) (h : n < 128) : Lane.Rests tailKept L (L.setSess n st) := by
  unfold Lane.setSess
  split
  · exact Lane.Rests.refl _ L
  · exact (((Lane.Rests.refl _ L).setF _ _ _ (SAFE_SST_window h)).raise _ _ (SAFE_SST_window h)).trans (Lane.Rests.cmdStale _ _ _)

theorem Lane.Rests.sessApply (L : Lane) : Lane.Rests tailKept L L.sessApply := by
  unfold Lane.sessApply
  extract_lets act L1
  have h1 : Lane.Rests tailKept L L1 := by
    refine (Lane.Rests.refl _ L).foldl _ fun i hi X => ?_
    have hn : i + 1 < 128 := by have := List.mem_range.1 hi; omega
    have hx := Lane.Rests.refl tailKept X
    dsimp only
    split
    · split
      · exact Lane.Rests.setSess X 1 hn
      · exact hx
    · split
      · exact ((Lane.Rests.setSess X 0 hn).updSess _ _).trans (Lane.Rests.updStops _ _)
      · exact hx
  clear_value L1
  split
  · exact (h1.updSafe (fun s => { s with closing := false }) id).setF R.SAFE_CTRL _ _ (tailKept_ne (by decide) (by decide) (by decide))
  · exact h1

end Sys2Proof.Machine
end

section
/-! SUPPORT. What releases, records, charts and agreements of an apply instant leave alone (R98, R113 to R115, R200, R484, R522, R523). -/

namespace Sys2Proof.Machine

/-! ### Releases and record writes (R484, R522, R523) -/

theorem Lane.Rests.nvmBegin (L : Lane) (k : Nat) : Lane.Rests fixKept L (L.nvmBegin k) := by
  have h1 : Lane.Rests fixKept L { L with pw := { L.pw with nvmAt := L.pw.nvmAt.set k (L.ticks + 1) } } := Lane.Rests.of_eq _ rfl rfl rfl rfl rfl rfl id
  unfold Lane.nvmBegin
  dsimp only
  split
  · exact (h1.setF R.PWR_NVMST F.PWR_NVMST_WAITING 1 (by decide)).trans (Lane.Rests.of_eq _ rfl rfl rfl rfl rfl rfl id)
  · exact h1

/-- A release that the ball asks for leaves nothing for a reply. -/
theorem Lane.Rests.relBegin (L : Lane) (mask : Nat) : Lane.Rests fixKept L (L.relBegin mask 0 0) := by
  refine (((Lane.Rests.refl _ L).updSafe _ fun h => ?_).updDg _).trans (Lane.Rests.nvmBegin _ 3)
  refine ⟨h.1, fun m n seq e => ?_⟩
  cases e
  rfl

theorem SFN_ASTAT_window {a : Nat} (h : a < 12) : ∀ q ∈ fixKept, q.addr ≠ (R.SFN_ASTAT a).addr := by
  refine fixKept_ne ?_ ?_ <;> · simp only [R.SFN_ASTAT]; omega
theorem SFN_TRIP_window : ∀ q ∈ fixKept, q.addr ≠ R.SFN_TRIP.addr := fixKept_ne (by decide) (by decide)

/-- A release outside DEVICE LOCK leaves the degraded state. -/
theorem Lane.Rests.relTake {L : Lane} (mask : Nat) (h : L.dmode = 0) : Lane.Rests fixKept L (L.relTake mask) := by
  unfold Lane.relTake
  extract_lets ax keep L1 L2 L3
  have h1 : Lane.Rests fixKept L L1 := ((Lane.Rests.refl _ L).setF R.FIX_LOSTAT _ _ (by decide)).setF R.FIX_LOSTAT _ _ (by decide)
  have h2 : Lane.Rests fixKept L L2 := by
    refine h1.foldl _ fun a ha X => ?_
    have hx := Lane.Rests.refl fixKept X
    split
    · exact ((hx.setF _ _ _ (SFN_ASTAT_window (List.mem_range.1 ha))).setF _ _ _ SFN_TRIP_window).setF _ _ _ SFN_TRIP_window
    · exact hx
  have e3 : L3 = L2 := if_neg (by simp [h])
  rw [e3]
  exact (((h2.updEdg _).raise R.FIX_DGEVT _ (by decide)).updDg _).trans (Lane.Rests.updStops _ _)

theorem Lane.Rests.ballApply (L : Lane) (low high : Bool) : Lane.Rests fixKept L (L.ballApply low high) := by
  have hs (f : Bf) (n : Nat) (M : Lane) (h : Lane.Rests fixKept L M) : Lane.Rests fixKept L (M.setF R.FIX_LOBALL f n) := h.setF _ f n (by decide)
  have h0 := Lane.Rests.refl fixKept L
  unfold Lane.ballApply
  extract_lets us old ck ms L1 mask
  have h1 : Lane.Rests fixKept L L1 := hs _ _ _ (hs _ _ _ h0)
  split
  · exact hs _ _ _ (hs _ _ _ (hs _ _ _ h0))
  · split
    · split
      · split
        · exact h1.trans (Lane.Rests.relBegin L1 mask)
        · exact h1.raise R.FIX_DGEVT _ (by decide)
      · exact h1
    · exact h0

/-- Where no confirmation waits and no release of a PDU, the lanes' records bring no reply. -/
theorem Lane.Rests.recApply {L : Lane} (c : Nat) (cf rl : List (Option Bool)) (hq : L.RecQuiet) (hd : L.dmode = 0) : Lane.Rests fixKept L (L.recApply c cf rl) := by
  obtain ⟨hc, hr⟩ := hq
  have h0 := Lane.Rests.refl fixKept L
  unfold Lane.recApply
  rw [hc]
  dsimp only
  split
  case h_2 => exact h0
  case h_1 mask n seq e =>
    obtain rfl := hr mask n seq e
    have h2 : Lane.Rests fixKept L (L.updSafe fun s => { s with rel := none, relRes := none }) :=
      h0.updSafe _ fun _ => ⟨hc, fun _ _ _ e => nomatch e⟩
    have e4 : ∀ b : Bool, (b && decide (L.dmode = 4)) = false := by simp [hd]
    split
    · simp only [e4, if_true, Bool.false_eq_true, if_false]
      split
      · exact h2.trans (Lane.Rests.relTake mask hd)
      · exact h2.updDg _
    · exact h0

/-! ### Charts and curves (R200, R280) -/

theorem Lane.Keeps.setCoef {α : Type} (v : Ck → α) (ks : List Reg) (L : Lane) (w : Nat) (x : Word) : Lane.Keeps v ks L (L.setCoef w x) := ⟨rfl, rfl, rfl, id, fun _ _ => rfl⟩

theorem AX_BANK_window {a : Nat} (h : a < 12) : ∀ q ∈ fixKept, q.addr ≠ (R.AX_BANK a).addr := by
  refine fixKept_ne ?_ ?_ <;> · simp only [R.AX_BANK]; omega
theorem AX_CHST_window {a : Nat} (h : a < 12) : ∀ q ∈ fixKept, q.addr ≠ (R.AX_CHST a).addr := by
  refine fixKept_ne ?_ ?_ <;> · simp only [R.AX_CHST]; omega

section
variable {α : Type} (v : Ck → α) {a : Nat} (ha : a < 12)
include ha

theorem Lane.Keeps.regw (L : Lane) : Lane.Keeps v fixKept L (L.regw a) :=
  ((Lane.Rests.refl _ L).setF _ _ _ (AX_BANK_window ha)).keeps.trans (Lane.Keeps.setCoef v _ _ _ _)

theorem Lane.Rests.copyStart (L : Lane) (r : Nat) (init : Bool) : Lane.Rests fixKept L (L.copyStart a r init) :=
  ((Lane.Rests.refl _ L).setF _ _ _ (AX_BANK_window ha)).updAx _ _

theorem Lane.Keeps.chApply (L : Lane) (c : Nat) (v0 v1 : Option Int) : Lane.Keeps v fixKept L (L.chApply c a v0 v1) := by
  have h0 := Lane.Rests.refl fixKept L
  unfold Lane.chApply
  split
  · exact Lane.Keeps.regw v ha L
  · extract_lets x L1 hy i0 j0 i j g L2 X L3
    have h1 : Lane.Rests fixKept L L1 := by
      dsimp only [L1]
      split
      · split
        · exact h0.updAx _ _
        · exact h0
      · exact h0
    have h2 : Lane.Rests fixKept L L2 := (h1.setF _ _ _ (AX_CHST_window ha)).setF _ _ _ (AX_CHST_window ha)
    have hx : Lane.Rests fixKept L X := (h2.setF _ _ _ (AX_CHST_window ha)).updAx _ _
    have h3 : Lane.Rests fixKept L L3 := by
      dsimp only [L3]
      split
      · exact h2
      · split
        · exact hx.updAx _ _
        · exact hx.trans (Lane.Rests.copyStart ha X g false)
    exact h3.keeps.trans (Lane.Keeps.regw v ha L3)

theorem Lane.Keeps.chartApply (L : Lane) (c : Nat) (adopted : List (Nat × Int)) : Lane.Keeps v fixKept L (L.chartApply c adopted a) := by
  have hcc (M : Lane) (x : Option Int) : Lane.Rests fixKept M (M.ccApply c a x) := by
    have h0 := Lane.Rests.refl fixKept M
    unfold Lane.ccApply
    split
    · exact h0
    · split
      · exact h0
      · split
        · exact h0.updAx _ _
        · split
          · exact h0.updAx _ _
          · exact h0
  exact (Lane.Keeps.chApply v ha L c _ _).trans (hcc _ _).keeps
end

/-! ### Agreements (R113 to R115, R462, R568) -/

/-- A lane that reads a word outside the Fix's own numbers keeps it to be read. -/
theorem Lane.wordAgreed_plain (L : Lane) (wake : Bool) {w : Word} (h : w.toNat < 0xFFFFFE00) :
    L.wordAgreed wake w = L.updCk fun c => { c with agreed := c.agreed ++ [w] } := by
  unfold Lane.wordAgreed
  extract_lets n
  have h1 : w ≠ splitWord := by
    rintro rfl
    exact absurd h (by decide)
  rw [if_neg h1, if_neg (by omega), if_neg (by omega)]

theorem Lane.foldl_wordAgreed (L : Lane) (wake : Bool) (ws : List Word) (h : ∀ w ∈ ws, w.toNat < 0xFFFFFE00) :
    ws.foldl (fun X w => X.wordAgreed wake w) L = L.updCk fun c => { c with agreed := c.agreed ++ ws } := by
  induction ws generalizing L with
  | nil => simp [Lane.updCk]
  | cons w t ih =>
    rw [List.foldl_cons, Lane.wordAgreed_plain L wake (h w (by simp)), ih _ fun x hx => h x (by simp [hx])]
    simp [Lane.updCk]

/-- Outside a sleep sequence an apply instant has no step of it. -/
theorem Lane.sleepApply_idle {L : Lane} (need : Nat) (as : List (Option (Nat × Nat))) (h : L.on R.PWR_SLPST F.PWR_SLPST_RUN = false) : L.sleepApply need as = L := by
  simp [Lane.sleepApply, h]

end Sys2Proof.Machine
end

section
/-! SUPPORT. The agreements of a checkpoint whose data all lanes of the Fix have (R98, R102 to R116): the words that two lanes posted, and what the
adoption leaves. -/

namespace Sys2Proof.Machine

/-! ### The words agreed (R113, R114) -/

theorem mem_poolStep {α : Type} [DecidableEq α] (xs acc : List α) (w : α) :
    w ∈ xs.foldl (fun acc x => if acc.contains x then acc else acc ++ [x]) acc ↔ w ∈ acc ∨ w ∈ xs := by
  induction xs generalizing acc with
  | nil => simp
  | cons x t ih =>
    rw [List.foldl_cons, ih]
    split
    · next h =>
      have hx : x ∈ acc := by simpa using h
      constructor
      · rintro (h | h)
        · exact .inl h
        · exact .inr (by simp [h])
      · rintro (h | h)
        · exact .inl h
        · rcases List.mem_cons.1 h with rfl | h
          · exact .inl hx
          · exact .inr h
    · simp [or_assoc]

theorem mem_pool {α : Type} [DecidableEq α] (ls : List (List α)) (w : α) : w ∈ pool ls ↔ ∃ l ∈ ls, w ∈ l := by
  rw [pool, mem_poolStep]
  simp

/-- What needs a holder is agreed where enough lanes hold it. -/
theorem mem_agreedOf {α β : Type} [DecidableEq α] (f : β → α) {need : Nat} (hn : 0 < need) (ps : List (Nat × List β × List α)) (w : α) :
    w ∈ agreedOf f need ps ↔ need ≤ holders w (ps.map fun x => x.2.1.map f) := by
  unfold agreedOf
  rw [List.mem_filter, decide_eq_true_eq, and_iff_right_iff_imp, mem_pool]
  intro h
  have hp : 0 < ((ps.map fun x => x.2.1.map f).filter fun l => l.contains w).length := by
    unfold holders at h
    omega
  obtain ⟨l, hl⟩ := List.exists_mem_of_length_pos hp
  obtain ⟨hm, hc⟩ := List.mem_filter.1 hl
  exact ⟨l, hm, by simpa using hc⟩

/-- Lanes that owe nothing have nothing to pay. -/
theorem paid_nil {α β : Type} [DecidableEq α] (f : β → α) (ls : List (Nat × List β)) : paid f [] ls = ls.map fun x => (x.1, x.2, []) := rfl

theorem mem_of_mem_consume {α β : Type} [DecidableEq α] (f : β → α) (ags : List α) (ps : List β) {p : β} (h : p ∈ consume f ags ps) : p ∈ ps := by
  induction ags generalizing ps with
  | nil => exact h
  | cons w t ih => exact List.mem_of_mem_eraseP (ih _ h)

/-- The posts of the three lanes, with nothing owed. -/
def freshPosts (caps : LaneId → Cap) : List (Nat × List Post × List Word) := lanes3.map fun k => (k.num, (caps k).posts, [])

theorem mem_freshPosts {caps : LaneId → Cap} {x : Nat × List Post × List Word} (h : x ∈ freshPosts caps) : ∃ k, x = (k.num, (caps k).posts, []) := by
  obtain ⟨k, -, rfl⟩ := List.mem_map.1 h
  exact ⟨k, rfl⟩

theorem mem_agreedOf_freshPosts (caps : LaneId → Cap) (w : Word) :
    w ∈ agreedOf Post.word 2 (freshPosts caps) ↔ 2 ≤ cnt (lanes3.map fun k => (caps k).posts.any fun p => decide (p.word = w)) := by
  rw [mem_agreedOf _ (by decide)]
  have e : ∀ k, ((caps k).posts.map Post.word).contains w = (caps k).posts.any fun p => decide (p.word = w) := fun k => by
    rw [Bool.eq_iff_iff]
    simp
  simp only [freshPosts, holders, cnt, List.map_map, List.countP_map, ← List.countP_eq_length_filter, Function.comp_def, e, id]

/-- An agreed word is one that a lane posted. -/
theorem exists_post_of_agreedOf {caps : LaneId → Cap} {w : Word} (h : w ∈ agreedOf Post.word 2 (freshPosts caps)) : ∃ k, ∃ p ∈ (caps k).posts, p.word = w := by
  obtain ⟨hp, -⟩ := List.mem_filter.1 h
  obtain ⟨l, hl, hw⟩ := (mem_pool _ _).1 hp
  obtain ⟨x, hx, rfl⟩ := List.mem_map.1 hl
  obtain ⟨k, rfl⟩ := mem_freshPosts hx
  obtain ⟨p, hm, e⟩ := List.mem_map.1 hw
  exact ⟨k, p, hm, e⟩

theorem mem_sortWords (ws : List Word) (w : Word) : w ∈ sortWords ws ↔ w ∈ ws := (List.perm_insertionSort _ ws).mem_iff

/-! ### What the agreements leave -/

/-- Posts of a first checkpoint age and stay (R114). -/
theorem Lane.Keeps.postRest (ks : List Reg) (L : Lane) {mine : List Post} (ags : List Word) {ps : List (Nat × List Post × List Word)} (hm : ∀ p ∈ mine, p.age = 0)
    (hp : ∀ x ∈ ps, ∀ p ∈ x.2.1, p.age = 0) : Lane.Keeps Ck.counts ks L (L.postRest mine ags ps) := by
  unfold Lane.postRest
  extract_lets left lone aged L1
  have h1 : Lane.Keeps Ck.counts ks L L1 := ⟨rfl, rfl, rfl, id, fun _ _ => rfl⟩
  have hl : ∀ p ∈ left, p.age = 0 := by
    dsimp only [left]
    split
    · next x hx => exact fun p h => hp x (List.mem_of_find?_eq_some hx) p (mem_of_mem_consume _ _ _ h)
    · exact hm
  have e : lone = [] := List.filter_eq_nil_iff.2 fun p h => by simp [hl p h]
  rw [e, if_neg (by simp)]
  exact h1

/-- With no lane's queue of reactions holding anything, none is agreed (R115). -/
theorem agreedOf_empty {α β : Type} [DecidableEq α] (f : β → α) (need : Nat) {ps : List (Nat × List β × List α)} (h : ∀ x ∈ ps, x.2.1 = []) : agreedOf f need ps = [] := by
  refine List.eq_nil_iff_forall_not_mem.2 fun w hw => ?_
  obtain ⟨hp, -⟩ := List.mem_filter.1 hw
  obtain ⟨l, hl, hm⟩ := (mem_pool _ _).1 hp
  obtain ⟨x, hx, rfl⟩ := List.mem_map.1 hl
  simp [h x hx] at hm

theorem payAll_nil {α β : Type} [DecidableEq α] (f : β → α) (owed : List α) (r : List β × List α) (h : r.1 = []) :
    (owed.foldl (fun r w => let x := payOwed (fun p => decide (f p = w)) r.1; (x.1, if x.2 then r.2 ++ [w] else r.2)) r).1 = [] := by
  induction owed generalizing r with
  | nil => exact h
  | cons w t ih => exact ih _ (by simp [payOwed, h])

theorem Lane.Keeps.tripsApply (ks : List Reg) (L : Lane) (need : Nat) {ls : List (Nat × List Trip)} (h : ∀ x ∈ ls, x.2 = []) : Lane.Keeps Ck.counts ks L (L.tripsApply need [] ls) := by
  have e : agreedOf id need (paid id L.ck.oweT ls) = [] := by
    refine agreedOf_empty id need fun x hx => ?_
    obtain ⟨y, hy, rfl⟩ := List.mem_map.1 hx
    exact payAll_nil id _ _ (h y hy)
  have h1 (f : Ck → Ck) (hf : (f L.ck).counts = L.ck.counts) : Lane.Keeps Ck.counts ks L (L.updCk f).updStops :=
    (show Lane.Keeps Ck.counts ks L (L.updCk f) from ⟨rfl, rfl, hf, id, fun _ _ => rfl⟩).trans (Lane.Rests.updStops ks (L.updCk f)).keeps
  unfold Lane.tripsApply
  simp only [e, List.filter_nil, List.contains_nil, Bool.false_and, List.filter_false, List.map_nil, List.foldl_nil]
  rw [List.find?_eq_none.2 (by simp)]
  exact h1 _ rfl

/-- Without a PDU in any capture none is agreed; one of this lane's own may be dropped (R462). -/
theorem Lane.Rests.pduRest (L : Lane) (c : Nat) (ags : List (Pdu × Nat)) : Lane.Rests fixKept L (L.pduRest c ags) := by
  unfold Lane.pduRest
  extract_lets done lone rest L1
  have h1 : Lane.Rests fixKept L L1 := (Lane.Rests.refl _ L).updSafe _ id
  split
  · exact h1.raise R.SAFE_EVT _ (by decide)
  · exact h1

theorem pduAgreed_empty (need : Nat) {ls : List (List Pdu)} (h : ∀ l ∈ ls, l = []) : pduAgreed need ls = [] := by
  have e : pool (ls.map fun l => l.map Pdu.key) = [] := by
    refine List.eq_nil_iff_forall_not_mem.2 fun w hw => ?_
    obtain ⟨l, hl, hm⟩ := (mem_pool _ _).1 hw
    obtain ⟨x, hx, rfl⟩ := List.mem_map.1 hl
    simp [h x hx] at hm
  rw [pduAgreed, e]
  rfl

/-! ### What every apply instant brings (R107, R108, R200) -/

theorem axMed_absent (xw : Nat) {cs : List AxCap} (h : ∀ x ∈ cs, x.present = false) : axMed xw cs = none := by
  have e : cs.filter (·.present) = [] := List.filter_eq_nil_iff.2 fun x hx => by simp [h x hx]
  simp [axMed, e]

/-- Without an axis and without offsets, the agreed inputs are all that an apply instant writes beside the charts. -/
theorem Lane.Keeps.common {α : Type} (v : Ck → α) (L : Lane) (own : Cap) {caps : List (Nat × Cap)} {num : NumRes} (centre : Bool) (hn : num.ofs = [])
    (ha : ∀ x ∈ caps, ∀ a, (x.2.ax.getD a default).present = false) :
    Lane.Keeps v fixKept (L.wr R.FIX_DIN (w32 (agreeBits (L.rd R.FIX_DIN).toNat (caps.map fun x => x.2.din.toNat)))) (L.common own caps num centre) := by
  have hax (X : Lane) (a : Nat) (ofs : List Ofs) : X.axApply own.num a (own.ax.getD a default) (caps.map fun x => x.2.ax.getD a default) ofs = X := by
    unfold Lane.axApply
    rw [axMed_absent]
    exact fun y hy => by
      obtain ⟨x, hx, rfl⟩ := List.mem_map.1 hy
      exact ha x hx a
  unfold Lane.common
  extract_lets ofs L1 L2 L3
  have e : ofs = [] := by dsimp only [ofs]; rw [hn, ite_self]
  have e2 : L2 = L1 := by dsimp only [L2]; rw [e]; rfl
  have e3 : L3 = L2 := by
    dsimp only [L3]
    simp only [hax]
    exact List.foldl_fixed _
  rw [e3, e2]
  exact (Lane.Keeps.refl v _ L1).foldl _ fun a h X => Lane.Keeps.chartApply v (List.mem_range.1 h) X _ _

theorem Lane.Rests.distAdopt (ks : List Reg) (L : Lane) (own : Cap) (caps : List (Nat × Cap)) : Lane.Rests ks L (L.distAdopt own caps) := (Lane.Rests.refl ks L).updTrav _

end Sys2Proof.Machine
end

section
/-! SUPPORT. The apply instant of a lane of the Fix that has the data of all three lanes (R98, R102 to R116). -/

namespace Sys2Proof.Machine

/-! ### The data of three lanes -/

/-- The captures of the three lanes, by their numbers. -/
def ofLanes {α : Type} (f : LaneId → α) : List (Nat × α) := lanes3.map fun k => (k.num, f k)
/-- The captures as received: no tap showed other data. -/
def rxOf (caps : LaneId → Cap) (skew : LaneId → Int) (k : LaneId) : CapRx := ⟨caps k, false, skew k⟩

theorem mem_ofLanes {α : Type} {f : LaneId → α} {x : Nat × α} (h : x ∈ ofLanes f) : ∃ k, x = (k.num, f k) := by
  obtain ⟨k, -, rfl⟩ := List.mem_map.1 h
  exact ⟨k, rfl⟩

/-- Captures without an axis, a reaction or a PDU, whose posts are all new and stand for software's words (R97, R112, R115). -/
structure PlainCaps (caps : LaneId → Cap) : Prop where
  ax : ∀ k a, ((caps k).ax.getD a default).present = false
  trips : ∀ k, (caps k).trips = []
  pdus : ∀ k, (caps k).pdus = []
  posts : ∀ k, ∀ p ∈ (caps k).posts, p.age = 0 ∧ p.word.toNat < 0xFFFFFE00

/-- A lane outside every degraded mode and sleep sequence that owes no word and waits for no record. -/
structure Lane.Calm (L : Lane) : Prop where
  dmode : L.dmode = 0
  owe : L.ck.owe = []
  run : L.on R.PWR_SLPST F.PWR_SLPST_RUN = false
  quiet : L.RecQuiet

/-- The words that two lanes posted. -/
def agreedWords (caps : LaneId → Cap) : List Word := sortWords (agreedOf Post.word 2 (freshPosts caps))

/-- A lane's agreed words wait to be read. -/
def Lane.agreedTo (L : Lane) (ws : List Word) : Lane := L.updCk fun c => { c with agreed := c.agreed ++ ws }

theorem Lane.Keeps.agreedTo {ks : List Reg} {L M : Lane} (h : Lane.Keeps Ck.counts ks L M) (ws : List Word) :
    Lane.Keeps Ck.counts ks (L.agreedTo ws) (M.agreedTo ws) := by
  have hc := h.ck
  simp only [Ck.counts, Prod.mk.injEq] at hc
  obtain ⟨hd, hv, ha, hs, hx⟩ := hc
  exact ⟨h.me, h.slew, by simp [Lane.agreedTo, Lane.updCk, Ck.counts, hd, hv, ha, hs, hx], h.quiet, h.regs⟩

section
variable {caps : LaneId → Cap} (hp : PlainCaps caps)
include hp

theorem PlainCaps.agreed_lt {w : Word} (h : w ∈ agreedWords caps) : w.toNat < 0xFFFFFE00 := by
  obtain ⟨k, p, hk, rfl⟩ := exists_post_of_agreedOf ((mem_sortWords _ _).1 h)
  exact (hp.posts k p hk).2

/-- Beside the agreed words, the agreements of a checkpoint leave the registers of the Fix. -/
theorem Lane.Calm.agreeApply {L : Lane} (hL : L.Calm) (c : Nat) (wake : Bool) (l : LaneId) :
    Lane.Keeps Ck.counts fixKept (L.agreedTo (agreedWords caps)) (L.agreeApply c wake (caps l) (ofLanes caps)) := by
  unfold Lane.agreeApply
  extract_lets need cs ps ags pds L1 L2 L3 L4 balls L5
  have hn : need = 2 := if_neg (by rw [hL.dmode]; decide)
  have eps : ps = freshPosts caps := by
    dsimp only [ps]
    rw [hL.owe, paid_nil]
    rfl
  have eags : ags = agreedWords caps := by
    dsimp only [ags]
    rw [hn, eps]
    rfl
  have h1 : Lane.Keeps Ck.counts fixKept L L1 := Lane.Keeps.postRest _ L ags (fun p h => (hp.posts l p h).1) fun x hx p h => by
    rw [eps] at hx
    obtain ⟨k, rfl⟩ := mem_freshPosts hx
    exact (hp.posts k p h).1
  have h2 : Lane.Keeps Ck.counts fixKept L L2 := by
    dsimp only [L2]
    rw [hp.trips l]
    refine h1.trans (Lane.Keeps.tripsApply _ L1 need fun x hx => ?_)
    obtain ⟨y, hy, rfl⟩ := List.mem_map.1 hx
    obtain ⟨k, rfl⟩ := mem_ofLanes hy
    exact hp.trips k
  have epds : pds = [] := pduAgreed_empty need fun x hx => by
    obtain ⟨y, hy, rfl⟩ := List.mem_map.1 hx
    obtain ⟨z, hz, rfl⟩ := List.mem_map.1 hy
    obtain ⟨k, rfl⟩ := mem_ofLanes hz
    exact hp.pdus k
  have h3 : Lane.Keeps Ck.counts fixKept L L3 := by
    dsimp only [L3]
    rw [epds]
    exact h2.trans (Lane.Rests.pduRest L2 c []).keeps
  have e4 : L4 = L3.agreedTo (agreedWords caps) := by
    dsimp only [L4]
    rw [eags]
    exact Lane.foldl_wordAgreed L3 wake _ fun w hw => hp.agreed_lt hw
  have h4 : Lane.Keeps Ck.counts fixKept (L.agreedTo (agreedWords caps)) L4 := by
    rw [e4]
    exact h3.agreedTo _
  have h5 : Lane.Keeps Ck.counts fixKept (L.agreedTo (agreedWords caps)) L5 := h4.trans (Lane.Rests.ballApply _ _ _).keeps
  clear_value L5
  have hd5 : L5.dmode = 0 := (congrArg F.FIX_DGSTAT_DMODE.get (h5.regs R.FIX_DGSTAT (by decide))).trans hL.dmode
  have h6 := h5.trans (Lane.Rests.recApply c (cs.map (·.confRes)) (cs.map (·.relRes)) (h5.quiet hL.quiet) hd5).keeps
  rw [Lane.sleepApply_idle]
  · exact h6
  · exact (congrArg F.PWR_SLPST_RUN.on (h6.regs R.PWR_SLPST (by decide))).trans hL.run
end

end Sys2Proof.Machine
end

section
/-! SUPPORT. Whom the comparisons of a checkpoint find odd, and what an apply instant then adopts (R92, R98, R102 to R116). -/

namespace Sys2Proof.Machine

/-! ### The lanes found odd (R92) -/

theorem median_three (x y z : Int) : median [x, y, z] = med3 x y z := rfl

/-- The median of three small values lies no farther from each than their spread. -/
theorem natAbs_sub_med3_le {x y z : Int} {n : Nat} (hs : x.natAbs ≤ n ∧ y.natAbs ≤ n ∧ z.natAbs ≤ n) (w : Int) (hw : w.natAbs ≤ n) :
    (w - med3 x y z).natAbs ≤ 2 * n := by
  unfold med3
  omega

/-- What the registers show of the digests and the inputs of three lanes (R105, R107). -/
def Lane.shown (L : Lane) (caps : LaneId → Cap) : Lane :=
  let L1 := (ofLanes caps).foldl (fun X x => X.wr (R.FIX_DIG x.1) (w32 x.2.digest)) L
  L1.wr R.FIX_DIN (w32 (agreeBits (L1.rd R.FIX_DIN).toNat ((ofLanes caps).map fun x => x.2.din.toNat)))

/-- A relation to everything of the checkpoints is one to what `v` shows of them. -/
theorem Lane.Keeps.view {α : Type} {v : Ck → α} {ks : List Reg} {L M : Lane} (h : Lane.Keeps id ks L M) : Lane.Keeps v ks L M :=
  ⟨h.me, h.slew, congrArg v h.ck, h.quiet, h.regs⟩

theorem Lane.Calm.keeps {ks : List Reg} {L M : Lane} (hL : L.Calm) (h : Lane.Keeps id ks L M) (hd : R.FIX_DGSTAT ∈ ks) (hs : R.PWR_SLPST ∈ ks) : M.Calm :=
  ⟨(congrArg F.FIX_DGSTAT_DMODE.get (h.regs _ hd)).trans hL.dmode, (congrArg Ck.owe h.ck).trans hL.owe, (congrArg F.PWR_SLPST_RUN.on (h.regs _ hs)).trans hL.run,
    h.quiet hL.quiet⟩

/-- The registers that the digests and the inputs leave. -/
def shownKept : List Reg := [R.FIX_CTRL, R.FIX_STAT, R.FIX_EVT, R.FIX_XSTAT, R.FIX_DGSTAT, R.PWR_SLPST, R.PWR_MODE]

theorem Lane.Rests.shown (L : Lane) (caps : LaneId → Cap) : Lane.Rests shownKept L (L.shown caps) := by
  refine Lane.Rests.wr _ _ ((Lane.Rests.refl _ L).foldl _ fun x hx X => ?_) (by decide)
  obtain ⟨k, rfl⟩ := mem_ofLanes hx
  refine (Lane.Rests.refl _ X).wr _ _ ?_
  dsimp only
  cases k <;> decide

theorem Lane.Calm.shown {L : Lane} (hL : L.Calm) (caps : LaneId → Cap) : (L.shown caps).Calm := hL.keeps (Lane.Rests.shown L caps).keeps (by decide) (by decide)

/-- The lanes declared odd, in order, each with the cause found first. -/
def Lane.declareAll (L : Lane) (odds : List (Nat × Nat)) : Lane :=
  (pool [odds.map (·.1)]).foldl (fun X k => X.declareOdd k ((odds.find? fun o => decide (o.1 = k)).getD (k, 1)).2) L

/-- New posts make no lane odd (R114). -/
theorem postOdd_fresh {caps : LaneId → Cap} (hp : PlainCaps caps) (ags : List Word) : postOdd ags (freshPosts caps) = [] := by
  refine List.map_eq_nil_iff.2 (List.filter_eq_nil_iff.2 fun x hx => ?_)
  obtain ⟨k, rfl⟩ := mem_freshPosts hx
  simp only [List.isEmpty_nil, Bool.not_true, Bool.false_or, Bool.not_eq_true, List.any_eq_false, decide_eq_true_eq]
  intro p h
  rw [(hp.posts k p (mem_of_mem_consume _ _ _ h)).1]
  decide

section
variable {L : Lane} {caps : LaneId → Cap} {skew : LaneId → Int} {od os : List Nat}

/-- With the data of all three lanes, digests and signatures alone decide who is odd; the rest of the apply instant leaves the registers of the Fix. -/
theorem Lane.fixApply_data (hp : PlainCaps caps) (hL : L.Calm) (hst : ∀ j, j < 3 → L.laneSt j = 3) (hlist : L.listCount = 0) (htr : L.travSrc = 7)
    (hodt : ∀ k, L.edg.outl.at k ≤ L.fld R.DLK_CTRL F.DLK_CTRL_ODT) (hsk : ∀ k, (skew k).natAbs ≤ 200)
    (hd : oddOne (ofLanes fun k => (caps k).digest) = (od, false)) (hs : oddOne (ofLanes fun k => (caps k).sig.toNat) = (os, false))
    (hlt : ∀ o ∈ od.map (fun k => (k, 2)) ++ os.map (fun k => (k, 3)), o.1 < 3) (c : Nat) (wake : Bool) (l : LaneId) :
    ∃ M, Lane.Keeps Ck.counts fixKept ((L.shown caps).agreedTo (agreedWords caps)) M
      ∧ L.fixApply c wake (caps l) (ofLanes (rxOf caps skew)) = M.declareAll (od.map (fun k => (k, 2)) ++ os.map (fun k => (k, 3))) := by
  unfold Lane.fixApply
  extract_lets cs solo free num digs dg sg mid ps sOdd dist dmid three odt odds odds' who nomaj L1 L1' L2 L3 L4
  have hsolo : ¬ solo := by dsimp only [solo]; rw [hL.dmode]; decide
  have hfree : ¬ free := by dsimp only [free]; rw [hL.dmode]; simp
  have ecs : cs = ofLanes caps := rfl
  have enum : num = default := by
    dsimp only [num, Lane.numRes, Lane.lentries]
    rw [hlist]
    rfl
  have edg : dg = (od, false) := hd
  have esg : sg = (os, false) := hs
  have eps : ps = freshPosts caps := by
    dsimp only [ps]
    rw [hL.owe, paid_nil]
    rfl
  have etap : (ofLanes (rxOf caps skew)).filter (fun x => x.2.tap) = [] := rfl
  have emid : ((ofLanes (rxOf caps skew)).filter fun x => decide (400 < (x.2.skew - mid).natAbs)) = [] := by
    refine List.filter_eq_nil_iff.2 fun x hx => ?_
    obtain ⟨k, rfl⟩ := mem_ofLanes hx
    have := natAbs_sub_med3_le ⟨hsk .A, hsk .B, hsk .C⟩ (skew k) (hsk k)
    simpa [rxOf, mid, ofLanes, lanes3, median_three] using this
  have eout : ((List.range 3).filter fun k => decide (odt < L.edg.outl.at k)) = [] :=
    List.filter_eq_nil_iff.2 fun k _ => by simpa using hodt k
  have emiss : ((List.range 3).filter fun k => decide (L.laneSt k = 3) && !(ofLanes (rxOf caps skew)).any fun x => decide (x.1 = k)) = [] := by
    refine List.filter_eq_nil_iff.2 fun k hk => ?_
    have hk := List.mem_range.1 hk
    interval_cases k <;> simp [ofLanes, lanes3, LaneId.num]
  have esodd : sOdd = [] := List.flatMap_eq_nil_iff.2 fun a _ => by
    rw [axMed_absent]
    intro y hy
    obtain ⟨x, hx, rfl⟩ := List.mem_map.1 hy
    obtain ⟨k, rfl⟩ := mem_ofLanes hx
    exact hp.ax k a
  have eodds : odds = od.map (fun k => (k, 2)) ++ os.map (fun k => (k, 3)) := by
    have h1 : ¬ (three = true ∧ L.travSrc ≠ 7) := by simp [htr]
    dsimp only [odds]
    rw [enum, edg, esg, eps, postOdd_fresh hp, etap, emid, eout, emiss, esodd, if_neg h1]
    simp [show (default : NumRes).odd = [] from rfl]
  have eodds' : odds' = odds := by
    dsimp only [odds']
    rw [if_neg (by simp [hsolo, hfree])]
    exact List.filter_eq_self.2 fun o ho => by simpa using hst _ (hlt o (eodds ▸ ho))
  have enomaj : nomaj = false := by
    dsimp only [nomaj]
    rw [enum, edg, esg]
    simp [show (default : NumRes).nomaj = false from rfl]
  have e1 : L1' = L1 := by dsimp only [L1']; rw [enum]; rfl
  have e2 : L2 = L1 := by dsimp only [L2]; rw [enomaj, e1]; rfl
  have h3 : Lane.Keeps id fixKept (L.shown caps) L3 := by
    dsimp only [L3]
    rw [e2]
    exact Lane.Keeps.common id L1 (caps l) _ (by rw [enum]; rfl) fun x hx a => by
      obtain ⟨k, rfl⟩ := mem_ofLanes (f := caps) hx
      exact hp.ax k a
  have h4 : Lane.Keeps id fixKept (L.shown caps) L4 := by
    dsimp only [L4]
    rw [if_neg hfree]
    exact h3.trans (Lane.Rests.distAdopt _ _ _ _).keeps
  clear_value L4
  have hc4 := (hL.shown caps).keeps h4 (by decide) (by decide)
  refine ⟨L4.agreeApply c wake (caps l) cs, (h4.view.agreedTo _).trans (hc4.agreeApply hp c wake l), ?_⟩
  rw [if_neg (by simp [enomaj])]
  dsimp only [who]
  rw [eodds', eodds]
  rfl
end

end Sys2Proof.Machine
end

section
/-! SUPPORT. What a lane shows of a lane that it declares odd (R126, R127, R489). -/

namespace Sys2Proof.Machine

/-! ### The states of the lanes (R126) -/

theorem Lane.laneSt_eq (L : Lane) (k : Nat) : L.laneSt k = (staOf k).get (L.rd R.FIX_STAT) := rfl

theorem staOf_disjoint {j k : Nat} (hj : j < 3) (hk : k < 3) (h : j ≠ k) : (staOf k).lo + (staOf k).wid ≤ (staOf j).lo ∨ (staOf j).lo + (staOf j).wid ≤ (staOf k).lo := by
  interval_cases j <;> interval_cases k <;> simp_all [staOf, F.FIX_STAT_STA, F.FIX_STAT_STB, F.FIX_STAT_STC]

/-- A lane's state short of OUT shown: FIX_EVT stands. -/
theorem Lane.rd_STAT_setSta (L : Lane) (k : Nat) {st : Nat} (h9 : st ≠ 9) :
    (L.setSta k st).rd R.FIX_STAT = (staOf k).set (L.rd R.FIX_STAT) st ∧ (L.setSta k st).rd R.FIX_EVT = L.rd R.FIX_EVT := by
  unfold Lane.setSta
  extract_lets L1 L2
  have e : L2 = L1 := if_neg fun h => h9 h.1
  have h1 : L1.rd R.FIX_STAT = (staOf k).set (L.rd R.FIX_STAT) st ∧ L1.rd R.FIX_EVT = L.rd R.FIX_EVT :=
    ⟨L.rd_setF_same _ _ _, L.rd_setF_other _ _ (by decide)⟩
  rw [e]
  split
  · exact ⟨(L1.rd_setF_other _ _ (by decide)).trans h1.1, (L1.rd_setF_other _ _ (by decide)).trans h1.2⟩
  · exact h1

theorem get_staOf_set {j k : Nat} (hj : j < 3) (hk : k < 3) {st : Nat} (hs : st < 16) (w : Word) :
    (staOf j).get ((staOf k).set w st) = if j = k then st else (staOf j).get w := by
  split
  · next h =>
    subst h
    have e : (staOf j).lo + (staOf j).wid ≤ 32 ∧ (staOf j).wid = 4 := by interval_cases j <;> decide
    rw [Bf.get_set_same _ _ _ e.1, e.2]
    exact Nat.mod_eq_of_lt hs
  · next h => exact Bf.get_set_other _ _ _ _ (staOf_disjoint hj hk h)

/-! ### Faults and logbook events (R223, R489) -/

theorem Lane.post_rest (L : Lane) (k : Nat) (ws : List Word) :
    (L.post k ws).me = L.me ∧ (L.post k ws).slewLane = L.slewLane ∧ (L.post k ws).ck = L.ck ∧ (L.post k ws).mem = L.mem ∧ (L.post k ws).flash = L.flash
      ∧ (L.post k ws).safe = L.safe := by
  unfold Lane.post
  split
  · split
    · exact ⟨rfl, rfl, rfl, rfl, rfl, rfl⟩
    · exact ⟨rfl, rfl, rfl, rfl, rfl, rfl⟩
  · split
    · exact ⟨rfl, rfl, rfl, rfl, rfl, rfl⟩
    · exact ⟨rfl, rfl, rfl, rfl, rfl, rfl⟩

theorem Lane.Rests.fault (L : Lane) (cls loc : Nat) : Lane.Rests fixKept L (L.fault cls loc) := by
  have hk : ∀ q ∈ fixKept, q.addr ∉ faultRegs := by decide
  have hr := Lane.Records.fault L cls loc
  obtain ⟨hm, hs, hc, hb, hf, hq⟩ := Lane.post_rest (((L.setF R.FIX_FLTLAST F.FIX_FLTLAST_CLASS cls).setF R.FIX_FLTLAST F.FIX_FLTLAST_LOC loc).bump R.FIX_FLTCNT
    F.FIX_FLTCNT_CNT 1) 0 _
  refine ⟨hm, hs, hc, hb, hf, fun h => ?_, fun q h => hr.rd (hk q h)⟩
  have e : (L.fault cls loc).safe = L.safe := hq
  exact ⟨e ▸ h.1, e ▸ h.2⟩

theorem Lane.Rests.lbFault (ks : List Reg) (L : Lane) (a k : Nat) : Lane.Rests ks L (L.lbFault a k) := by
  unfold Lane.lbFault
  split
  · unfold Lane.lbEvent
    split
    · exact (Lane.Rests.refl ks L).updAx _ _
    · exact Lane.Rests.refl ks L
  · exact Lane.Rests.refl ks L

/-! ### A lane declared odd -/

/-- FIX_EVT as an odd lane shows there. -/
def Lane.oddShown (L : Lane) (k cause : Nat) : Lane :=
  ((L.raise R.FIX_EVT F.FIX_EVT_ODDEV).setF R.FIX_EVT F.FIX_EVT_ODDLANE k).setF R.FIX_EVT F.FIX_EVT_CAUSE cause

section
variable {L : Lane} {k cause : Nat}

/-- Where resynchronisation is allowed, a lane declared odd is shown in ODD with its cause, and beside that the registers of the Fix stand. -/
theorem Lane.Keeps.declareOdd (hx : L.fld R.FIX_CTRL F.FIX_CTRL_MAXRESYNC ≠ 0) :
    Lane.Keeps Ck.counts fixKept ((L.oddShown k cause).setSta k 4) (L.declareOdd k cause) := by
  unfold Lane.declareOdd
  extract_lets L1 L2 L3 L4 L5
  have h2 : Lane.Rests fixKept ((L.oddShown k cause).setSta k 4) L2 := (Lane.Rests.refl _ _).setF R.FIX_RSCNT _ _ (by decide)
  have h4 : Lane.Rests fixKept ((L.oddShown k cause).setSta k 4) L4 := (h2.trans (Lane.Rests.fault L2 _ k)).foldl _ fun a _ X => Lane.Rests.lbFault _ X a 2
  clear_value L4
  have h5 : Lane.Keeps Ck.counts fixKept ((L.oddShown k cause).setSta k 4) L5 := by
    dsimp only [L5]
    split
    · exact h4.keeps.trans ⟨rfl, rfl, rfl, id, fun _ _ => rfl⟩
    · exact h4.keeps
  rw [if_neg hx]
  exact h5

theorem Lane.laneSt_declareOdd (hx : L.fld R.FIX_CTRL F.FIX_CTRL_MAXRESYNC ≠ 0) {j : Nat} (hj : j < 3) (hk : k < 3) :
    (L.declareOdd k cause).laneSt j = if j = k then 4 else L.laneSt j := by
  rw [Lane.laneSt_eq, (Lane.Keeps.declareOdd hx).regs R.FIX_STAT (by decide), (Lane.rd_STAT_setSta _ k (by decide)).1, get_staOf_set hj hk (by decide)]
  have e : (L.oddShown k cause).rd R.FIX_STAT = L.rd R.FIX_STAT := by
    unfold Lane.oddShown
    rw [Lane.rd_setF_other _ _ _ (by decide), Lane.rd_setF_other _ _ _ (by decide), Lane.rd_raise_other _ _ (by decide)]
  rw [e]
  rfl

theorem Lane.me_setSta (L : Lane) (k st : Nat) : (L.setSta k st).me = L.me := by
  unfold Lane.setSta
  dsimp only
  split <;> split <;> rfl

theorem Lane.ck_setSta (L : Lane) (k st : Nat) : (L.setSta k st).ck = L.ck := by
  unfold Lane.setSta
  dsimp only
  split <;> split <;> rfl

theorem Lane.counts_declareOdd (hx : L.fld R.FIX_CTRL F.FIX_CTRL_MAXRESYNC ≠ 0) : (L.declareOdd k cause).ck.counts = L.ck.counts :=
  (Lane.Keeps.declareOdd hx).ck.trans (congrArg Ck.counts (Lane.ck_setSta _ k 4))

theorem Lane.me_declareOdd (hx : L.fld R.FIX_CTRL F.FIX_CTRL_MAXRESYNC ≠ 0) : (L.declareOdd k cause).me = L.me :=
  (Lane.Keeps.declareOdd hx).me.trans (Lane.me_setSta _ k 4)

/-- FIX_EVT shows the lane and the cause. -/
theorem Lane.evt_declareOdd (hx : L.fld R.FIX_CTRL F.FIX_CTRL_MAXRESYNC ≠ 0) (hk : k < 3) (hc : cause < 16) :
    (L.declareOdd k cause).on R.FIX_EVT F.FIX_EVT_ODDEV = true ∧ (L.declareOdd k cause).fld R.FIX_EVT F.FIX_EVT_ODDLANE = k
      ∧ (L.declareOdd k cause).fld R.FIX_EVT F.FIX_EVT_CAUSE = cause := by
  have e : (L.declareOdd k cause).rd R.FIX_EVT = (L.oddShown k cause).rd R.FIX_EVT :=
    ((Lane.Keeps.declareOdd hx).regs R.FIX_EVT (by decide)).trans (Lane.rd_STAT_setSta _ k (by decide)).2
  rw [Lane.on, Lane.fld, Lane.fld, e]
  refine ⟨?_, ?_, ?_⟩
  · exact (Lane.on_setF_field _ _ _ (by decide)).trans ((Lane.on_setF_field _ _ _ (by decide)).trans (L.on_raise_same _ _ (by decide) (by decide)))
  · refine (Lane.fld_setF_field _ _ _ (by decide)).trans ((Lane.fld_setF_same _ _ _ _ (by decide)).trans (Nat.mod_eq_of_lt ?_))
    show k < 4
    omega
  · exact (Lane.fld_setF_same _ _ _ _ (by decide)).trans (Nat.mod_eq_of_lt hc)
end

end Sys2Proof.Machine
end

section
/-! SUPPORT. A lane whose clock is off (R35), a lane that resets as odd (R127), and the time before the apply instant (R98). -/

namespace Sys2Proof.Machine

/-! ### A reset of the lane logic die (R127, R129) -/

theorem Lane.rd_STAT_resetDie (L : Lane) : L.resetDie.rd R.FIX_STAT = L.rd R.FIX_STAT := by
  unfold Lane.resetDie
  extract_lets X
  rw [Lane.rd_wr_other _ _ (by decide), Lane.rd_wr_other _ _ (by decide)]
  exact look_filter_kept (p := fun e => keptReg e.1) (fun _ => (by decide : keptReg R.FIX_STAT.addr = true)) L.regs _

theorem Lane.laneSt_resetDie (L : Lane) (j : Nat) : L.resetDie.laneSt j = L.laneSt j := congrArg (staOf j).get L.rd_STAT_resetDie

/-- Of what the lane worked on, the reset leaves nothing. -/
theorem Lane.fresh_resetDie (L : Lane) : L.resetDie.eng = default ∧ L.resetDie.ck.cap = none ∧ L.resetDie.ck.stepOne = false := ⟨rfl, rfl, rfl⟩

/-! ### The lane whose clock is off (R35) -/

/-- A lane that shows all three lanes in the Fix. -/
theorem Lane.laneSt_of_inFix {L : Lane} (h : L.inFix = 7) {j : Nat} (hj : j < 3) : L.laneSt j = 3 := by
  simp only [Lane.inFix, List.range_succ, List.range_zero, List.nil_append, List.cons_append, List.foldl_cons, List.foldl_nil] at h
  interval_cases j <;> · split_ifs at h <;> omega

/-- One part of a step in every lane. -/
theorem State.lane_foldl_run (s : State) (f : Lane → Lane) (k : LaneId) :
    (lanes3.foldl (fun X j => X.run j f) s).lane k = { f (s.lane k) with outP := [], outR := [] } := by
  simp only [lanes3, List.foldl_cons, List.foldl_nil]
  cases k
  · rw [State.lane_run_other _ _ (by decide), State.lane_run_other _ _ (by decide), State.lane_run_same]
  · rw [State.lane_run_other _ _ (by decide), State.lane_run_same, State.lane_run_other _ _ (by decide)]
  · rw [State.lane_run_same, State.lane_run_other _ _ (by decide), State.lane_run_other _ _ (by decide)]

theorem State.pending_foldl_run (s : State) (f : Lane → Lane) : (lanes3.foldl (fun X j => X.run j f) s).pending = s.pending := by
  simp only [lanes3, List.foldl_cons, List.foldl_nil, State.pending_run]

theorem laneNum_lt (l : LaneId) : l.num < 3 := by cases l <;> decide
theorem laneNum_ne {k l : LaneId} (h : k ≠ l) : k.num ≠ l.num := by
  revert h
  cases k <;> cases l <;> decide

theorem clockFault_idle {s : State} (l : LaneId) (h : ∃ k, (s.lane k).inFix ≠ 7) : exec (.clockFault l) s = .next s := by
  obtain ⟨k, hk⟩ := h
  refine if_neg fun hall => hk ?_
  have := List.all_eq_true.1 hall k (by cases k <;> decide)
  simpa using this

theorem clockFault_odd {s : State} (l : LaneId)
    (h : ∀ k, (s.lane k).inFix = 7 ∧ (s.lane k).me = k.num ∧ (s.lane k).fld R.FIX_CTRL F.FIX_CTRL_MAXRESYNC ≠ 0) :
    Runs (.clockFault l) s fun t => t.pending = s.pending ∧ (t.lane l).eng = default
      ∧ ∀ k, (t.lane k).laneSt l.num = 4 ∧ (k ≠ l → (t.lane k).on R.FIX_EVT F.FIX_EVT_ODDEV = true ∧ (t.lane k).fld R.FIX_EVT F.FIX_EVT_ODDLANE = l.num
        ∧ (t.lane k).fld R.FIX_EVT F.FIX_EVT_CAUSE = 6 ∧ (t.lane k).laneSt k.num = 3) := by
  have hst (j k : LaneId) : ((s.lane k).declareOdd l.num 6).laneSt j.num = if j.num = l.num then 4 else 3 := by
    rw [Lane.laneSt_declareOdd (h k).2.2 (laneNum_lt j) (laneNum_lt l), Lane.laneSt_of_inFix (h k).1 (laneNum_lt j)]
  refine ⟨_, if_pos ?_, ?_, ?_, fun k => ?_⟩
  · exact List.all_eq_true.2 fun k _ => by simpa using (h k).1
  · rw [State.pending_run, State.pending_foldl_run]
  · rw [State.lane_run_same]
    rfl
  · by_cases hk : k = l
    · subst hk
      rw [State.lane_run_same, State.lane_foldl_run]
      refine ⟨?_, fun hn => absurd rfl hn⟩
      refine (Lane.laneSt_resetDie _ _).trans ?_
      exact (hst k k).trans (if_pos rfl)
    · rw [State.lane_run_other _ _ hk, State.lane_foldl_run]
      obtain ⟨hev, hlane, hcause⟩ := Lane.evt_declareOdd (cause := 6) (h k).2.2 (laneNum_lt l) (by decide)
      have h4 := (hst l k).trans (if_pos rfl)
      have h3 := (hst k k).trans (if_neg (laneNum_ne hk))
      generalize (s.lane k).declareOdd l.num 6 = M at hev hlane hcause h4 h3
      exact ⟨h4, fun _ => ⟨hev, hlane, hcause, h3⟩⟩

/-! ### Before the apply instant (R98) -/

theorem Lane.apply_before {L : Lane} (wake : Bool)
    (h : L.ck.cap = none ∨ L.ck.done = true ∨ L.on R.FIX_DBG F.FIX_DBG_HALTED = true ∨ ∃ c, L.ck.cap = some c ∧ L.gt < c.num * L.ckP + L.xwin) : L.apply_ wake = L := by
  unfold Lane.apply_
  split
  · rfl
  · next own hc =>
    refine if_pos ?_
    obtain h | h | h | ⟨c, h, hg⟩ := h
    · rw [hc] at h
      cases h
    · simp [h]
    · simp [h]
    · rw [hc] at h
      cases h
      simp [hg]

theorem checkpointApply_before {s : State} {l : LaneId} (h : ∀ wake, (s.lane l).apply_ wake = s.lane l) :
    exec (.checkpointApply l) s = .next s := by
  refine congrArg _ (if_pos ?_)
  simp only [State.lane_run_same, h]
  cases (s.lane l).ck.done <;> rfl

end Sys2Proof.Machine
end

section
/-! SUPPORT. The apply instant of a lane of three that run in the Fix, and what follows it in the device (R98, R127). -/

namespace Sys2Proof.Machine

/-! ### The lane -/

/-- What ends every apply instant in the Fix: armed commutation blocks, travel and the sessions (R254, R404, R459). -/
def Lane.applyEnd (L : Lane) : Lane :=
  let L3 := L.updEdg fun e => { e with outl := [] }
  let L4 := (List.range 8).foldl (fun X b => if (X.mcOf b).armed = 1 then X.updMc b fun m => { m with armed := 2 } else X) L3
  if L4.mySt = 3 then (L4.travApply L4.trav.pos12).sessApply else L4

theorem Lane.Rests.applyEnd (L : Lane) : Lane.Rests tailKept L L.applyEnd := by
  unfold Lane.applyEnd
  extract_lets L3 L4
  have h4 : Lane.Rests tailKept L L4 := by
    refine ((Lane.Rests.refl _ L).updEdg _).foldl _ fun b _ X => ?_
    split
    · exact (Lane.Rests.refl _ X).updMc _ _
    · exact Lane.Rests.refl _ X
  clear_value L4
  split
  · exact h4.trans ((Lane.Rests.travApply L4 _).trans (Lane.Rests.sessApply _))
  · exact h4

/-- What the apply instant of a lane takes as data: its own capture, once its axes have reported, and those received (R96, R98). -/
def Lane.gotData (L : Lane) (own : Cap) : List (Nat × CapRx) :=
  ((if L.ck.wait.isEmpty then [(L.me, (⟨own, false, 0⟩ : CapRx))] else []) ++ L.ck.rx).insertionSort fun x y => x.1 ≤ y.1
/-- The lane with its capture applied and reckoner 13's slew set (R98, R116). -/
def Lane.applyBegun (L : Lane) : Lane :=
  (L.updCk fun c => { c with done := true }).slewSet (((L.me, 0) :: L.ck.rx.map fun x => (x.1, x.2.skew)).map (·.2))

/-- A lane of the Fix at the apply instant of the capture `own`, outside every degraded mode and split. -/
structure Lane.AtApply (L : Lane) (own : Cap) : Prop where
  cap : L.ck.cap = some own
  undone : L.ck.done = false
  runs : L.on R.FIX_DBG F.FIX_DBG_HALTED = false
  reached : own.num * L.ckP + L.xwin ≤ L.gt
  inFix : ∀ j, j < 3 → L.laneSt j = 3
  dmode : L.dmode = 0
  unsplit : L.ck.splitDue = false

section
variable {L : Lane} {own : Cap}

/-- Every number from 2 on shows Lane C. -/
theorem Lane.AtApply.laneSt (h : L.AtApply own) (j : Nat) : L.laneSt j = 3 := by
  by_cases hj : j < 2
  · exact h.inFix j (by omega)
  · have e : L.laneSt j = L.laneSt 2 := by
      simp only [Lane.laneSt, show j ≠ 0 by omega, show j ≠ 1 by omega, if_false]
      rfl
    rw [e]
    exact h.inFix 2 (by decide)

/-- With the data of two lanes the checkpoint is compared and agreed, with less it is void (R98). -/
theorem Lane.AtApply.apply_ (h : L.AtApply own) (wake : Bool) :
    L.apply_ wake = (if (L.gotData own).length < 2 then L.applyBegun.voidApply
      else (L.applyBegun.updCk fun c => { c with voids := 0 }).fixApply own.num wake own (L.gotData own)).applyEnd := by
  have hfix : (L.gotData own).filter (fun x => decide (L.laneSt x.1 = 3)) = L.gotData own := List.filter_eq_self.2 fun x _ => by simp [h.laneSt]
  have hnone (X : Lane) (xs : List (Nat × CapRx)) :
      xs.foldl (fun X x => if L.laneSt x.1 = 6 ∧ x.2.cap.caught then (X.setSta x.1 3).raise R.FIX_EVT F.FIX_EVT_RSDONE else X) X = X := by
    simp only [h.laneSt, show (3 : Nat) ≠ 6 by decide, false_and, if_false]
    exact List.foldl_fixed _
  have hst : L.mySt = 3 := h.laneSt L.me
  unfold Lane.apply_
  rw [h.cap]
  dsimp -zeta only
  rw [if_neg (by simp [h.undone, h.runs, h.reached])]
  extract_lets mine got st skews L0 fix L1 L2 L3 L4 L5
  have efix : fix = L.gotData own := hfix
  have e1 : L1 = if (L.gotData own).length < 2 then L.applyBegun.voidApply
      else (L.applyBegun.updCk fun c => { c with voids := 0 }).fixApply own.num wake own (L.gotData own) := by
    dsimp only [L1]
    rw [efix, if_pos hst, if_neg (by rw [h.dmode]; decide)]
    rfl
  have e2 : L2 = L1 := by
    dsimp only [L2]
    split
    · exact hnone _ _
    · rfl
  rw [if_neg (by simp [h.unsplit]), ← e1, ← e2]
  clear_value L2
  simp only [Lane.applyEnd, L5, L4, L3]
end

/-! ### The device -/

/-- Of the three lanes, one is neither of two given. -/
theorem exists_third (k l : LaneId) : ∃ o, (o = k.succ ∨ o = k.pred) ∧ o ≠ l := by
  by_cases h : k.succ = l
  · refine ⟨k.pred, .inr rfl, fun e => ?_⟩
    rw [← h] at e
    revert e
    cases k <;> decide
  · exact ⟨k.succ, .inl rfl, h⟩

/-- A lane that one other lane sees in the Fix stays as it is (R126). -/
theorem State.follow_seen {s : State} {k o : LaneId} (ho : o = k.succ ∨ o = k.pred)
    (h : (s.lane o).laneSt k.num = 3) : s.follow k = s := by
  have h49 (c : Nat) (hc : c ≠ 3) : (s.lane o).sees k.num c = false := by
    rw [Lane.sees, h]
    exact decide_eq_false fun e => hc e.symm
  have hall (p : Lane → Bool) (hp : p (s.lane o) = false) : ([s.lane k.succ, s.lane k.pred].all p) = false := by
    rw [List.all_eq_false]
    obtain rfl | rfl := ho
    · exact ⟨s.lane k.succ, by simp, by simp [hp]⟩
    · exact ⟨s.lane k.pred, by simp, by simp [hp]⟩
  unfold State.follow
  extract_lets L others c
  have h1 : (others.all fun o => o.sees k.num 4 || o.sees k.num 9) = false := hall _ (by rw [h49 4 (by decide), h49 9 (by decide)]; rfl)
  have h2 : (others.all fun o => o.sees k.num 9) = false := hall _ (h49 9 (by decide))
  rw [if_neg (by simp [h1]), if_neg (by simp [h2])]

/-- No lane's state changes where one other lane sees each in the Fix. -/
theorem State.follow_all {s : State} (h : ∀ k : LaneId, ∃ o, (o = k.succ ∨ o = k.pred) ∧ (s.lane o).laneSt k.num = 3) : lanes3.foldl State.follow s = s := by
  have e (k : LaneId) : s.follow k = s := by
    obtain ⟨o, ho, hs⟩ := h k
    exact State.follow_seen ho hs
  simp only [lanes3, List.foldl_cons, List.foldl_nil, e]

/-- Three lanes that run in the Fix, with no debugger at work and no split. -/
structure State.AllInFix (s : State) (l : LaneId) : Prop where
  me : ∀ k, (s.lane k).me = k.num
  inFix : ∀ k j, j < 3 → (s.lane k).laneSt j = 3
  dbgq : s.dbgq = []
  step : (s.lane l).ck.stepOne = false
  split : (s.lane l).fld R.FIX_SPLIT F.FIX_SPLIT_SSTATE = 0
  undone : (s.lane l).ck.done = false

section
variable {s : State} {l : LaneId}

/-- While the lanes other than `l` stand, no lane's state follows in the device. -/
theorem State.AllInFix.follow_all (h : s.AllInFix l) {t : State} (ht : ∀ k, k ≠ l → t.lane k = s.lane k) : lanes3.foldl State.follow t = t := by
  refine State.follow_all fun k => ?_
  obtain ⟨o, ho, hn⟩ := exists_third k l
  exact ⟨o, ho, by rw [ht o hn]; exact h.inFix o _ (laneNum_lt k)⟩

/-- A lane that its apply instant leaves in the Fix: nothing follows. -/
theorem State.AllInFix.settle_stays (h : s.AllInFix l) {t : State} (ht : ∀ k, k ≠ l → t.lane k = s.lane k) (hm : (t.lane l).me = l.num)
    (hst : (t.lane l).laneSt l.num = 3) : t.settleApply s l = t := by
  have hms : (t.lane l).mySt = 3 := by rw [Lane.mySt, hm, hst]
  unfold State.settleApply
  extract_lets L0 s1 st s2 s3
  have e1 : s1 = t := if_neg (by simp [Lane.sees, hst])
  have e2 : s2 = t := by
    dsimp only [s2, st]
    rw [if_neg (by rw [e1, hms]; simp), e1]
  have e3 : s3 = t := by
    dsimp only [s3]
    rw [e2]
    exact h.follow_all ht
  rw [if_neg (by simp [L0, h.split]), e3]

/-- A lane that has declared itself odd resets, and nothing else follows (R127). -/
theorem State.AllInFix.settle_odd (h : s.AllInFix l) {t : State} (ht : ∀ k, k ≠ l → t.lane k = s.lane k) (hm : (t.lane l).me = l.num)
    (hst : (t.lane l).laneSt l.num = 4) : t.settleApply s l = t.run l (·.resetDie) := by
  have h0 : (s.lane l).mySt = 3 := by rw [Lane.mySt, h.me l]; exact h.inFix l _ (laneNum_lt l)
  unfold State.settleApply
  extract_lets L0 s1 st s2 s3
  have e1 : s1 = t.run l (·.resetDie) := if_pos (by simp [L0, h0, Lane.sees, hst])
  have hms : st = 4 := by
    dsimp only [st]
    rw [e1, State.lane_run_same]
    refine (Lane.laneSt_resetDie (t.lane l) _).trans ?_
    rw [show (t.lane l).resetDie.me = l.num from hm, hst]
  have e2 : s2 = t.run l (·.resetDie) := by
    dsimp only [s2]
    rw [if_neg (by rw [hms]; simp), e1]
  have e3 : s3 = t.run l (·.resetDie) := by
    dsimp only [s3]
    rw [e2]
    exact h.follow_all fun k hk => (State.lane_run_other _ _ hk).trans (ht k hk)
  rw [if_neg (by simp [L0, h.split]), e3]

/-- With no debug action waiting and no step, an apply instant carries none out. -/
theorem State.dbgApply_idle {t : State} (hq : t.dbgq = []) (hs : (t.lane l).ck.stepOne = false) : t.dbgApply l = t := by
  unfold State.dbgApply
  rw [hs]
  simp [hq]

/-- Whether a level wake source of the lane is active. -/
def State.woken (s : State) (l : LaneId) : Bool := decide (levelMask (s.lane l).wakeCfg s.keep.levels ≠ 0)

/-- The device after an apply instant that has been carried out. -/
theorem State.AllInFix.exec_apply (h : s.AllInFix l) (hd : ((s.lane l).apply_ (s.woken l)).ck.done = true) {u : State}
    (hu : (s.run l fun L => L.apply_ (s.woken l)).settleApply s l = u) (hq : u.dbgq = []) (hs : (u.lane l).ck.stepOne = false) :
    exec (.checkpointApply l) s = .next u := by
  have e : s.apply l = ((s.run l fun L => L.apply_ (s.woken l)).settleApply s l).dbgApply l := by
    refine if_neg ?_
    rw [State.lane_run_same, h.undone]
    simp only [Bool.false_or, Bool.not_eq_true', Bool.not_eq_false]
    exact hd
  refine congrArg Host.Outcome.next (a₁ := s.apply l) ?_
  rw [e, hu, State.dbgApply_idle hq hs]

/-- A lane that its apply instant leaves in the Fix: the step is the lane's own part. -/
theorem State.AllInFix.runsLane (h : s.AllInFix l) {M : Lane} (e : (s.lane l).apply_ (s.woken l) = M) (hm : M.me = l.num) (hd : M.ck.done = true)
    (hs : M.ck.stepOne = false) (hst : M.laneSt l.num = 3) {Q : Lane → Lane → Prop} (hQ : Q (s.lane l) { M with outP := [], outR := [] }) :
    RunsLane (.checkpointApply l) s l Q := by
  have hl : (s.run l fun L => L.apply_ (s.woken l)).lane l = { M with outP := [], outR := [] } := by rw [State.lane_run_same, e]
  refine RunsLane.of_run (f := fun L => L.apply_ (s.woken l)) (h.exec_apply (by rw [e, hd]) (h.settle_stays (fun k hk => State.lane_run_other _ _ hk) ?_ ?_) ?_ ?_) ?_
  · rw [hl]
    exact hm
  · rw [hl]
    exact hst
  · rw [State.dbgq_run, h.dbgq]
  · rw [hl]
    exact hs
  · rw [e]
    exact hQ
end

end Sys2Proof.Machine
end

section
/-! The apply instant of a checkpoint (O21). -/

namespace Sys2Proof.Machine

/-! ### A void checkpoint (R98) -/

theorem atApply_of_inRegularFix {s : State} {l : LaneId} {c : Cap} (h : InRegularFix s l c) : (s.lane l).AtApply c := by
  obtain ⟨hc, hd, hg, hh, -, -, hs, hm, -, hu, -⟩ := h
  exact ⟨hc, hd, hh, hg, (hs l).2, hm, hu⟩

theorem allInFix_of_inRegularFix {s : State} {l : LaneId} {c : Cap} (h : InRegularFix s l c) : s.AllInFix l := by
  obtain ⟨-, hd, -, -, hq, ho, hs, -, hp, -, -⟩ := h
  exact ⟨fun k => (hs k).1, fun k => (hs k).2, hq, ho, hp, hd⟩

/-- A first checkpoint without data: the lane shows it late, and counts it void. -/
def Lane.voided (L : Lane) : Lane := (L.applyBegun.raise R.FIX_XSTAT F.FIX_XSTAT_XLATE).updCk fun c => { c with voids := c.voids + 1 }

section
variable {L : Lane} {own : Cap}

theorem Lane.rd_voided (L : Lane) {r : Reg} (h : r.addr ≠ R.FIX_XSTAT.addr) : L.voided.rd r = L.rd r := L.applyBegun.rd_raise_other _ h

theorem Lane.me_voided (L : Lane) : L.voided.me = L.me := rfl
theorem Lane.ck_voided (L : Lane) : L.voided.ck = { L.ck with done := true, voids := L.ck.voids + 1 } := rfl

theorem Lane.BytesSame.voided (L : Lane) : Lane.BytesSame L L.voided :=
  Lane.BytesSame.of rfl rfl fun x hx => L.rd_voided (AX_BANK_ne_of_window (by decide) x hx)

theorem Lane.on_XLATE_voided (L : Lane) : L.voided.on R.FIX_XSTAT F.FIX_XSTAT_XLATE = true := L.applyBegun.on_raise_same _ _ (by decide) (by decide)

theorem Lane.AtApply.apply_void (h : L.AtApply own) (hr : L.ck.rx = []) (hv : L.ck.voids = 0) (wake : Bool) : L.apply_ wake = L.voided.applyEnd := by
  have hl : (L.gotData own).length < 2 := by
    rw [Lane.gotData, hr, List.length_insertionSort]
    split <;> simp
  have hz : ¬(1 ≤ L.applyBegun.ck.voids ∧ L.applyBegun.dmode = 0) := by
    have e : L.applyBegun.ck.voids = 0 := hv
    omega
  rw [h.apply_ wake, if_pos hl]
  exact congrArg Lane.applyEnd (if_neg hz)
end

/-- The void checkpoint of a lane without another's data. -/
theorem checkpointApply_void {s : State} {l : LaneId} {c : Cap} (h : InRegularFix s l c) (hr : (s.lane l).ck.rx = []) (hv : (s.lane l).ck.voids = 0) :
    RunsLane (.checkpointApply l) s l fun L M =>
      M.on R.FIX_XSTAT F.FIX_XSTAT_XLATE = true ∧ M.ck.voids = 1 ∧ M.ck.dec = L.ck.dec ∧ M.ck.agreed = L.ck.agreed ∧ M.rd R.FIX_STAT = L.rd R.FIX_STAT
        ∧ M.rd R.FIX_EVT = L.rd R.FIX_EVT ∧ M.rd R.FIX_DIN = L.rd R.FIX_DIN ∧ M.rd R.PWR_MODE = L.rd R.PWR_MODE ∧ Lane.BytesSame L M := by
  have hall := allInFix_of_inRegularFix h
  have he := Lane.Rests.applyEnd (s.lane l).voided
  have hbs := (Lane.BytesSame.voided (s.lane l)).trans he.bytesSame
  have hrd {r : Reg} (hk : r ∈ tailKept) (hn : r.addr ≠ R.FIX_XSTAT.addr) : (s.lane l).voided.applyEnd.rd r = (s.lane l).rd r :=
    (he.regs r hk).trans ((s.lane l).rd_voided hn)
  have hx := (congrArg F.FIX_XSTAT_XLATE.on (he.regs R.FIX_XSTAT (by decide))).trans (s.lane l).on_XLATE_voided
  have hck := he.ck.trans (s.lane l).ck_voided
  have hm : (s.lane l).voided.applyEnd.me = l.num := (he.me.trans (s.lane l).me_voided).trans (hall.me l)
  have h1 := hrd (r := R.FIX_STAT) (by decide) (by decide)
  have h2 := hrd (r := R.FIX_EVT) (by decide) (by decide)
  have h3 := hrd (r := R.FIX_DIN) (by decide) (by decide)
  have h4 := hrd (r := R.PWR_MODE) (by decide) (by decide)
  have e := (atApply_of_inRegularFix h).apply_void hr hv (s.woken l)
  clear he hrd
  generalize (s.lane l).voided.applyEnd = M at *
  have hst : M.laneSt l.num = 3 := (congrArg (staOf l.num).get h1).trans (hall.inFix l _ (laneNum_lt l))
  have hv1 : M.ck.voids = 1 := by rw [hck, hv]
  refine hall.runsLane e hm (by rw [hck]) (by rw [hck]; exact hall.step) hst ⟨hx, hv1, ?_, ?_, h1, h2, h3, h4, hbs⟩
  · rw [hck]
  · rw [hck]

end Sys2Proof.Machine
end

section
/-! SUPPORT. The apply instant with the data of all three lanes (O21): the lane, whom it finds odd, and what its registers show. -/

namespace Sys2Proof.Machine

/-! ### The comparisons of three lanes (R105, R106) -/

theorem oddOne_same {f : LaneId → Nat} (h : ∀ j k, f j = f k) : oddOne (ofLanes f) = ([], false) := if_pos ⟨h .A .B, h .B .C⟩

/-- The lane that differs from two that agree. -/
theorem oddOne_differs {f : LaneId → Nat} {k : LaneId} (h : ∀ i j, i ≠ k → j ≠ k → f i = f j) (hk : ∀ j, j ≠ k → f k ≠ f j) : oddOne (ofLanes f) = ([k.num], false) := by
  cases k with
  | A =>
    have hb := hk .B (by decide)
    have hc := hk .C (by decide)
    exact (if_neg fun e => hb e.1).trans ((if_neg hb).trans ((if_neg hc).trans (if_pos (h .B .C (by decide) (by decide)))))
  | B =>
    have ha := (hk .A (by decide)).symm
    exact (if_neg fun e => ha e.1).trans ((if_neg ha).trans (if_pos (h .A .C (by decide) (by decide))))
  | C =>
    have hb := (hk .B (by decide)).symm
    exact (if_neg fun e => hb e.2).trans (if_pos (h .A .B (by decide) (by decide)))

/-- Bits agreed by two of three. -/
theorem bitOf_agreeBits (held : Nat) (f : LaneId → Word) {i : Nat} (hi : i < 32) :
    bitOf (w32 (agreeBits held ((ofLanes f).map fun x => x.2.toNat))) i = decide (2 ≤ cnt (lanes3.map fun k => bitOf (f k) i)) := by
  have e (w : Word) : w.toNat.testBit i = bitOf w i := rfl
  simp only [ofLanes, lanes3, List.map_cons, List.map_nil, agreeBits, bitOf, w32, BitVec.getLsbD_ofNat, hi, decide_true, Bool.true_and, Nat.testBit_or, Nat.testBit_and, e, cnt]
  cases (f .A).getLsbD i <;> cases (f .B).getLsbD i <;> cases (f .C).getLsbD i <;> decide

/-! ### The lane at its apply instant -/

/-- A lane with a capture begun and no void checkpoint counted. -/
def Lane.fullBegun (L : Lane) : Lane := L.applyBegun.updCk fun c => { c with voids := 0 }

section
variable {L : Lane} {l : LaneId} {caps : LaneId → Cap} {skew : LaneId → Int}

theorem Lane.regs_fullBegun (L : Lane) : L.fullBegun.regs = L.regs := rfl
theorem Lane.ck_fullBegun (L : Lane) : L.fullBegun.ck = { L.ck with done := true, voids := 0 } := rfl

/-- What a lane receives from the other two. -/
def othersData (l : LaneId) (caps : LaneId → Cap) (skew : LaneId → Int) : List (Nat × CapRx) :=
  (lanes3.filter fun k => decide (k ≠ l)).map fun k => (k.num, rxOf caps skew k)

theorem Lane.gotData_full (hm : L.me = l.num) (hw : L.ck.wait = []) (hr : L.ck.rx = othersData l caps skew) (hs : skew l = 0) :
    L.gotData (caps l) = ofLanes (rxOf caps skew) := by
  have e : (⟨caps l, false, 0⟩ : CapRx) = rxOf caps skew l := by rw [rxOf, hs]
  rw [Lane.gotData, hw, hr, hm, e]
  cases l <;> rfl

/-- Reckoner 13 slews to the median of the three capture instants (R116). -/
theorem Lane.slew_fullBegun (hr : L.ck.rx = othersData l caps skew) (hs : skew l = 0) : L.fullBegun.slewLane = -med3 (skew .A) (skew .B) (skew .C) := by
  have e : L.fullBegun.slewLane = (if 2 ≤ (0 :: (othersData l caps skew).map fun x => x.2.skew).length then -median (0 :: (othersData l caps skew).map fun x => x.2.skew) else 0) := by
    rw [← hr]
    simp [Lane.fullBegun, Lane.applyBegun, Lane.slewSet, Lane.updCk, Function.comp_def]
  rw [e, ← hs]
  cases l
  · rfl
  · show -med3 (skew .B) (skew .A) (skew .C) = _
    unfold med3
    omega
  · show -med3 (skew .C) (skew .A) (skew .B) = _
    unfold med3
    omega

/-- The registers that show the digests. -/
theorem Lane.rd_DIG_shown (L : Lane) (caps : LaneId → Cap) (k : LaneId) : (L.shown caps).rd (R.FIX_DIG k.num) = w32 (caps k).digest := by
  unfold Lane.shown
  extract_lets L1
  have h1 : L1.rd (R.FIX_DIG k.num) = w32 (caps k).digest := by
    simp only [L1, ofLanes, lanes3, List.map_cons, List.map_nil, List.foldl_cons, List.foldl_nil]
    cases k
    · rw [Lane.rd_wr_other _ _ (by decide), Lane.rd_wr_other _ _ (by decide), Lane.rd_wr_same]
    · rw [Lane.rd_wr_other _ _ (by decide), Lane.rd_wr_same]
    · rw [Lane.rd_wr_same]
  rw [Lane.rd_wr_other _ _ (by cases k <;> decide), h1]

theorem Lane.rd_DIN_shown (L : Lane) (caps : LaneId → Cap) : ∃ held, (L.shown caps).rd R.FIX_DIN = w32 (agreeBits held ((ofLanes fun k => (caps k).din).map fun x => x.2.toNat)) :=
  ⟨_, Lane.rd_wr_same _ _ _⟩
end

end Sys2Proof.Machine
end

section
/-! The apply instant of a checkpoint (O21): the data of all three lanes, and a lane found odd. -/

namespace Sys2Proof.Machine

/-! ### The lane -/

/-- Lane `l` at its apply instant with the complete data of all three lanes, where nothing but digests and signatures can make a lane odd. -/
structure Lane.FullData (L : Lane) (l : LaneId) (caps : LaneId → Cap) (skew : LaneId → Int) : Prop where
  at_ : L.AtApply (caps l)
  me : L.me = l.num
  wait : L.ck.wait = []
  rx : L.ck.rx = othersData l caps skew
  own : skew l = 0
  near : ∀ k, (skew k).natAbs ≤ 200
  list : L.listCount = 0
  plain : PlainCaps caps
  trav : L.travSrc = 7
  late : ∀ k, L.edg.outl.at k ≤ L.fld R.DLK_CTRL F.DLK_CTRL_ODT
  calm : L.Calm

theorem fullData_of_hasAllData {s : State} {l : LaneId} {caps : LaneId → Cap} {skew : LaneId → Int} (h : InRegularFix s l (caps l)) (ha : HasAllData s l caps skew) :
    (s.lane l).FullData l caps skew := by
  have hat := atApply_of_inRegularFix h
  obtain ⟨-, -, -, -, -, -, hs, hm, -, -, hrun⟩ := h
  obtain ⟨hw, hr, h0, hk, hl, hax, ht, hout, hp, howe, hconf, hrel⟩ := ha
  have hq : (s.lane l).RecQuiet := ⟨hconf, fun _ _ _ e => by rw [hrel] at e; cases e⟩
  exact ⟨hat, (hs l).1, hw, hr, h0, hk, hl, ⟨hax, fun k => (hp k).1, fun k => (hp k).2.1, fun k p hm => ⟨((hp k).2.2 p hm).1, ((hp k).2.2 p hm).2.2⟩⟩, ht, hout,
    ⟨hm, howe, hrun, hq⟩⟩

/-- What an apply instant that finds nobody odd makes of the lane, beside charts, records and packets. -/
def Lane.fullApplied (L : Lane) (caps : LaneId → Cap) : Lane := (L.fullBegun.shown caps).agreedTo (agreedWords caps)

section
variable {L : Lane} {l : LaneId} {caps : LaneId → Cap} {skew : LaneId → Int} {od os : List Nat}

/-- Digests and signatures alone decide who is declared odd. -/
theorem Lane.FullData.apply_ (h : L.FullData l caps skew) (hd : oddOne (ofLanes fun k => (caps k).digest) = (od, false))
    (hs : oddOne (ofLanes fun k => (caps k).sig.toNat) = (os, false)) (hlt : ∀ o ∈ od.map (fun k => (k, 2)) ++ os.map (fun k => (k, 3)), o.1 < 3) (wake : Bool) :
    ∃ N, Lane.Keeps Ck.counts fixKept (L.fullApplied caps) N
      ∧ L.apply_ wake = (N.declareAll (od.map (fun k => (k, 2)) ++ os.map (fun k => (k, 3)))).applyEnd := by
  have hcalm : L.fullBegun.Calm := ⟨h.calm.dmode, h.calm.owe, h.calm.run, h.calm.quiet⟩
  obtain ⟨N, hN, e⟩ := Lane.fixApply_data (L := L.fullBegun) (skew := skew) h.plain hcalm h.at_.inFix h.list h.trav h.late h.near hd hs hlt (caps l).num wake l
  refine ⟨N, hN, ?_⟩
  rw [h.at_.apply_ wake, Lane.gotData_full h.me h.wait h.rx h.own, if_neg (by simp [ofLanes, lanes3])]
  exact congrArg Lane.applyEnd e

theorem Lane.rd_fullApplied (L : Lane) (caps : LaneId → Cap) {q : Reg} (h : q ∈ shownKept) : (L.fullApplied caps).rd q = L.rd q :=
  ((Lane.Rests.shown L.fullBegun caps).regs q h).trans (Lane.rd_congr L.regs_fullBegun q)

theorem Lane.me_fullApplied (L : Lane) (caps : LaneId → Cap) : (L.fullApplied caps).me = L.me := (Lane.Rests.shown L.fullBegun caps).me

theorem Lane.counts_fullApplied (L : Lane) (caps : LaneId → Cap) :
    (L.fullApplied caps).ck.counts = (true, 0, L.ck.agreed ++ agreedWords caps, L.ck.stepOne, L.ck.splitDue) := by
  have e := (Lane.Rests.shown L.fullBegun caps).ck.trans L.ck_fullBegun
  unfold Lane.fullApplied
  generalize L.fullBegun.shown caps = X at e
  simp only [Lane.agreedTo, Lane.updCk, e, Ck.counts]

theorem Lane.slew_fullApplied (hr : L.ck.rx = othersData l caps skew) (hs : skew l = 0) : (L.fullApplied caps).slewLane = -med3 (skew .A) (skew .B) (skew .C) :=
  (Lane.Rests.shown L.fullBegun caps).slew.trans (Lane.slew_fullBegun hr hs)

theorem Lane.rd_DIG_fullApplied (L : Lane) (caps : LaneId → Cap) (k : LaneId) : (L.fullApplied caps).rd (R.FIX_DIG k.num) = w32 (caps k).digest :=
  Lane.rd_DIG_shown L.fullBegun caps k

theorem Lane.bitOf_DIN_fullApplied (L : Lane) (caps : LaneId → Cap) {i : Nat} (hi : i < 32) :
    bitOf ((L.fullApplied caps).rd R.FIX_DIN) i = decide (2 ≤ cnt (lanes3.map fun k => bitOf (caps k).din i)) := by
  obtain ⟨held, e⟩ := Lane.rd_DIN_shown L.fullBegun caps
  have e1 : (L.fullApplied caps).rd R.FIX_DIN = (L.fullBegun.shown caps).rd R.FIX_DIN := rfl
  rw [e1, e]
  exact bitOf_agreeBits held _ hi

theorem FIX_DIG_kept (k : LaneId) : R.FIX_DIG k.num ∈ fixKept := by cases k <;> decide

/-- The end of an apply instant leaves what the agreement leaves. -/
theorem Lane.Keeps.applyEnd {α : Type} {v : Ck → α} {M : Lane} (h : Lane.Keeps v fixKept L M) : Lane.Keeps v fixKept L M.applyEnd :=
  h.trans ((Lane.Rests.applyEnd M).mono fixKept_sub_tailKept).keeps
end

/-! ### Nobody odd -/

section
variable {s : State} {l : LaneId} {caps : LaneId → Cap} {skew : LaneId → Int}

theorem checkpointApply_agreed (h : InRegularFix s l (caps l)) (ha : HasAllData s l caps skew) (hs : ∀ j k, (caps j).digest = (caps k).digest ∧ (caps j).sig = (caps k).sig) :
    RunsLane (.checkpointApply l) s l fun L M =>
      (∀ k, M.rd (R.FIX_DIG (LaneId.num k)) = w32 (caps k).digest) ∧ M.rd R.FIX_STAT = L.rd R.FIX_STAT ∧ M.ck.voids = 0
        ∧ (∀ i, i < 32 → bitOf (M.rd R.FIX_DIN) i = decide (2 ≤ cnt (lanes3.map fun k => bitOf (caps k).din i)))
        ∧ M.slewLane = -med3 (skew .A) (skew .B) (skew .C)
        ∧ (∀ w, w ∈ M.ck.agreed ↔ w ∈ L.ck.agreed ∨ 2 ≤ cnt (lanes3.map fun k => (caps k).posts.any fun p => decide (p.word = w))) := by
  have hall := allInFix_of_inRegularFix h
  have hf := fullData_of_hasAllData h ha
  obtain ⟨N, hN, e⟩ := hf.apply_ (oddOne_same fun j k => (hs j k).1) (oddOne_same fun j k => congrArg BitVec.toNat (hs j k).2) (by simp) (s.woken l)
  have hM : Lane.Keeps Ck.counts fixKept ((s.lane l).fullApplied caps) N.applyEnd := hN.applyEnd
  have e : (s.lane l).apply_ (s.woken l) = N.applyEnd := e
  have hc := hM.ck.trans ((s.lane l).counts_fullApplied caps)
  have hst := (hM.regs R.FIX_STAT (by decide)).trans ((s.lane l).rd_fullApplied caps (by decide))
  have hme := (hM.me.trans ((s.lane l).me_fullApplied caps)).trans hf.me
  have hdig (k : LaneId) := (hM.regs _ (FIX_DIG_kept k)).trans ((s.lane l).rd_DIG_fullApplied caps k)
  have hdin {i : Nat} (hi : i < 32) := (congrArg (bitOf · i) (hM.regs R.FIX_DIN (by decide))).trans ((s.lane l).bitOf_DIN_fullApplied caps hi)
  have hslew := hM.slew.trans (Lane.slew_fullApplied hf.rx hf.own)
  clear hM hN
  generalize N.applyEnd = M at *
  simp only [Ck.counts, Prod.mk.injEq] at hc
  obtain ⟨hdone, hvoids, hagreed, hstep, -⟩ := hc
  refine hall.runsLane e hme hdone (hstep.trans hall.step) ((congrArg (staOf l.num).get hst).trans (hall.inFix l _ (laneNum_lt l)))
    ⟨hdig, hst, hvoids, fun i hi => hdin hi, hslew, fun w => ?_⟩
  show w ∈ M.ck.agreed ↔ _
  rw [hagreed, List.mem_append, agreedWords, mem_sortWords, mem_agreedOf_freshPosts]

/-! ### One lane odd -/

/-- With one lane that differs in its digest or in its signature, that lane is declared odd with the cause of the comparison. -/
theorem Lane.FullData.apply_odd {L : Lane} (h : L.FullData l caps skew) {k : LaneId} {x : Nat}
    (hs : ∀ i j, i ≠ k → j ≠ k → (caps i).digest = (caps j).digest ∧ (caps i).sig = (caps j).sig)
    (hk : ∀ j, j ≠ k → ((caps k).digest ≠ (caps j).digest ∧ (caps k).sig = (caps j).sig ∧ x = 2) ∨ ((caps k).digest = (caps j).digest ∧ (caps k).sig ≠ (caps j).sig ∧ x = 3))
    (wake : Bool) :
    ∃ N, Lane.Keeps Ck.counts fixKept (L.fullApplied caps) N ∧ L.apply_ wake = (N.declareOdd k.num x).applyEnd ∧ x < 16 := by
  have hlt : ∀ y : Nat, ∀ o ∈ [(k.num, y)], o.1 < 3 := by simp [laneNum_lt k]
  have hone (N : Lane) (y : Nat) : N.declareAll [(k.num, y)] = N.declareOdd k.num y := by simp [Lane.declareAll, pool]
  have hsame (f : LaneId → Nat) (h1 : ∀ i j, i ≠ k → j ≠ k → f i = f j) (h2 : ∀ j, j ≠ k → f k = f j) (i j : LaneId) : f i = f j := by
    by_cases hi : i = k
    · subst hi
      by_cases hj : j = i
      · rw [hj]
      · exact h2 j hj
    · by_cases hj : j = k
      · subst hj
        exact (h2 i hi).symm
      · exact h1 i j hi hj
  have hsig (i j : LaneId) (hi : i ≠ k) (hj : j ≠ k) := congrArg BitVec.toNat (hs i j hi hj).2
  by_cases hx : x = 2
  · subst hx
    have hk2 (j : LaneId) (hj : j ≠ k) : (caps k).digest ≠ (caps j).digest ∧ (caps k).sig = (caps j).sig := by
      rcases hk j hj with hc | ⟨-, -, hc⟩
      · exact ⟨hc.1, hc.2.1⟩
      · cases hc
    obtain ⟨N, hN, e⟩ := h.apply_ (oddOne_differs (fun i j hi hj => (hs i j hi hj).1) fun j hj => (hk2 j hj).1)
      (oddOne_same (hsame _ hsig fun j hj => congrArg BitVec.toNat (hk2 j hj).2)) (hlt 2) wake
    exact ⟨N, hN, e.trans (congrArg Lane.applyEnd (hone N 2)), by decide⟩
  · have hk3 (j : LaneId) (hj : j ≠ k) : (caps k).digest = (caps j).digest ∧ (caps k).sig ≠ (caps j).sig ∧ x = 3 := (hk j hj).resolve_left fun hc => hx hc.2.2
    obtain rfl : x = 3 := (hk3 k.succ (by cases k <;> decide)).2.2
    obtain ⟨N, hN, e⟩ := h.apply_ (oddOne_same (hsame _ (fun i j hi hj => (hs i j hi hj).1) fun j hj => (hk3 j hj).1))
      (oddOne_differs hsig fun j hj => fun hc => (hk3 j hj).2.1 (BitVec.eq_of_toNat_eq hc)) (hlt 3) wake
    exact ⟨N, hN, e.trans (congrArg Lane.applyEnd (hone N 3)), by decide⟩

theorem checkpointApply_odd (h : InRegularFix s l (caps l)) (ha : HasAllData s l caps skew) {k : LaneId} {x : Nat}
    (hx : (s.lane l).fld R.FIX_CTRL F.FIX_CTRL_MAXRESYNC ≠ 0)
    (hs : ∀ i j, i ≠ k → j ≠ k → (caps i).digest = (caps j).digest ∧ (caps i).sig = (caps j).sig)
    (hk : ∀ j, j ≠ k → ((caps k).digest ≠ (caps j).digest ∧ (caps k).sig = (caps j).sig ∧ x = 2) ∨ ((caps k).digest = (caps j).digest ∧ (caps k).sig ≠ (caps j).sig ∧ x = 3)) :
    Runs (.checkpointApply l) s fun t => t.pending = s.pending
      ∧ (k ≠ l → (t.lane l).on R.FIX_EVT F.FIX_EVT_ODDEV = true ∧ (t.lane l).fld R.FIX_EVT F.FIX_EVT_ODDLANE = k.num ∧ (t.lane l).fld R.FIX_EVT F.FIX_EVT_CAUSE = x
          ∧ (t.lane l).laneSt k.num = 4 ∧ (t.lane l).laneSt l.num = 3)
      ∧ (k = l → (t.lane l).laneSt l.num = 4 ∧ (t.lane l).eng = default ∧ (t.lane l).ck.cap = none) := by
  have hall := allInFix_of_inRegularFix h
  have hf := fullData_of_hasAllData h ha
  obtain ⟨N, hN, e, hx16⟩ := hf.apply_odd hs hk (s.woken l)
  have hrd {q : Reg} (hq : q ∈ fixKept) (hw : q ∈ shownKept) := (hN.regs q hq).trans ((s.lane l).rd_fullApplied caps hw)
  have hxN : N.fld R.FIX_CTRL F.FIX_CTRL_MAXRESYNC ≠ 0 := by
    rw [Lane.fld, hrd (by decide) (by decide)]
    exact hx
  have hstN (j : LaneId) : N.laneSt j.num = 3 := (congrArg (staOf j.num).get (hrd (q := R.FIX_STAT) (by decide) (by decide))).trans (hall.inFix l _ (laneNum_lt j))
  have hM := (Lane.Rests.applyEnd (N.declareOdd k.num x)).mono fixKept_sub_tailKept
  have hst (j : LaneId) : (N.declareOdd k.num x).applyEnd.laneSt j.num = if j.num = k.num then 4 else 3 := by
    rw [Lane.laneSt_eq, hM.regs R.FIX_STAT (by decide), ← Lane.laneSt_eq, Lane.laneSt_declareOdd hxN (laneNum_lt j) (laneNum_lt k), hstN]
  have hevt := Lane.evt_declareOdd hxN (laneNum_lt k) hx16
  have hev := hM.regs R.FIX_EVT (by decide)
  have hme : (N.declareOdd k.num x).applyEnd.me = l.num := ((hM.me.trans (Lane.me_declareOdd hxN)).trans (hN.me.trans ((s.lane l).me_fullApplied caps))).trans hf.me
  have hc : (N.declareOdd k.num x).applyEnd.ck.counts = _ := ((congrArg Ck.counts hM.ck).trans (Lane.counts_declareOdd hxN)).trans (hN.ck.trans ((s.lane l).counts_fullApplied caps))
  rw [Lane.on, Lane.fld, Lane.fld, ← hev] at hevt
  obtain ⟨hodd, hlane, hcause⟩ := hevt
  clear hM hN hrd hev
  generalize (N.declareOdd k.num x).applyEnd = M at *
  simp only [Ck.counts, Prod.mk.injEq] at hc
  obtain ⟨hdone, -, -, hstep, -⟩ := hc
  have hothers : ∀ j, j ≠ l → (s.run l fun L => L.apply_ (s.woken l)).lane j = s.lane j := fun j hj => State.lane_run_other _ _ hj
  have hl : (s.run l fun L => L.apply_ (s.woken l)).lane l = { M with outP := [], outR := [] } := by rw [State.lane_run_same, e]
  have hml : ((s.run l fun L => L.apply_ (s.woken l)).lane l).me = l.num := by rw [hl]; exact hme
  have hq : (s.run l fun L => L.apply_ (s.woken l)).dbgq = [] := (State.dbgq_run _ _ _).trans hall.dbgq
  have hp : (s.run l fun L => L.apply_ (s.woken l)).pending = s.pending := State.pending_run _ _ _
  by_cases hkl : k = l
  · subst hkl
    have h4 : ((s.run k fun L => L.apply_ (s.woken k)).lane k).laneSt k.num = 4 := by rw [hl]; exact (hst k).trans (if_pos rfl)
    have hset := hall.settle_odd hothers hml h4
    have hexec := fun hs => hall.exec_apply (by rw [e, hdone]) hset ((State.dbgq_run _ _ _).trans hq) hs
    generalize (s.run k fun L => L.apply_ (s.woken k)) = t at *
    have hr : (t.run k (·.resetDie)).lane k = { (t.lane k).resetDie with outP := [], outR := [] } := State.lane_run_same _ _ _
    have h4r := ((t.lane k).laneSt_resetDie k.num).trans h4
    obtain ⟨heng, hcap, hstep0⟩ := (t.lane k).fresh_resetDie
    generalize (t.lane k).resetDie = R at *
    refine ⟨_, hexec (by rw [hr]; exact hstep0), (State.pending_run _ _ _).trans hp, fun hn => absurd rfl hn, fun _ => ?_⟩
    rw [hr]
    exact ⟨h4r, heng, hcap⟩
  · have h3 : M.laneSt l.num = 3 := (hst l).trans (if_neg (laneNum_ne fun e => hkl e.symm))
    have hset := hall.settle_stays hothers hml (by rw [hl]; exact h3)
    refine ⟨_, hall.exec_apply (by rw [e, hdone]) hset hq (by rw [hl]; exact hstep.trans hall.step), hp, fun _ => ?_, fun e => absurd e hkl⟩
    rw [hl]
    exact ⟨hodd, hlane, hcause, (hst k).trans (if_pos rfl), h3⟩
end

/-- Settles O21: a lane's apply instant keeps the registers of the Fix but for what it shows, agrees and declares. -/
theorem checkpointApplied : Obligations.CheckpointApplied :=
  ⟨fun _ _ h => checkpointApply_before fun wake => Lane.apply_before wake h,
    fun _ _ _ h hr hv => checkpointApply_void h hr hv,
    fun _ _ _ _ h ha => ⟨fun hs => checkpointApply_agreed h ha hs, fun _ _ hx hs hk => checkpointApply_odd h ha hx hs hk⟩,
    fun _ l => ⟨clockFault_idle l, clockFault_odd l⟩⟩

end Sys2Proof.Machine
end

section
/-! SUPPORT. Instances of the engine, which are the runs of its tasks, changes that write registers alone, and the loop checks (R169 to R172, R175 to R180). -/

namespace Sys2Proof.Machine

/-! ### Changes of registers alone -/

/-- Registers at the addresses listed have been written, and nothing else of the lane has changed. -/
structure Lane.Writes (rs : List Nat) (L M : Lane) : Prop where
  only : ∃ t u, M = { L with regs := t, setNow := u }
  regs : Lane.RegsBut rs L M

section
variable {rs qs : List Nat} {L M N : Lane}

theorem Lane.Writes.refl (rs : List Nat) (L : Lane) : Lane.Writes rs L L := ⟨⟨_, _, rfl⟩, fun _ _ => rfl⟩
theorem Lane.Writes.trans (h : Lane.Writes rs L M) (k : Lane.Writes rs M N) : Lane.Writes rs L N := by
  refine ⟨?_, h.regs.trans k.regs⟩
  obtain ⟨t, u, rfl⟩ := h.only
  exact k.only
theorem Lane.Writes.mono (h : Lane.Writes rs L M) (hs : ∀ x ∈ rs, x ∈ qs) : Lane.Writes qs L M := ⟨h.only, fun r hr => h.regs r fun hm => hr (hs _ hm)⟩

theorem Lane.Writes.wr (h : Lane.Writes rs L M) (r : Reg) (v : Word) (hr : r.addr ∈ rs) : Lane.Writes rs L (M.wr r v) :=
  h.trans ⟨⟨_, _, rfl⟩, fun _ hq => M.rd_wr_other v fun e => hq (e ▸ hr)⟩
theorem Lane.Writes.setF (h : Lane.Writes rs L M) (r : Reg) (f : Bf) (n : Nat) (hr : r.addr ∈ rs) : Lane.Writes rs L (M.setF r f n) := h.wr r _ hr
theorem Lane.Writes.bump (h : Lane.Writes rs L M) (r : Reg) (f : Bf) (n : Nat) (hr : r.addr ∈ rs) : Lane.Writes rs L (M.bump r f n) := h.wr r _ hr
theorem Lane.Writes.raise (h : Lane.Writes rs L M) (r : Reg) (f : Bf) (hr : r.addr ∈ rs) : Lane.Writes rs L (M.raise r f) :=
  h.trans ⟨⟨_, _, rfl⟩, fun _ hq => M.rd_raise_other f fun e => hq (e ▸ hr)⟩

theorem Lane.Writes.eng (h : Lane.Writes rs L M) : M.eng = L.eng := by
  obtain ⟨t, u, rfl⟩ := h.only
  rfl
theorem Lane.Writes.ticks (h : Lane.Writes rs L M) : M.ticks = L.ticks := by
  obtain ⟨t, u, rfl⟩ := h.only
  rfl
theorem Lane.Writes.ax (h : Lane.Writes rs L M) : M.ax = L.ax := by
  obtain ⟨t, u, rfl⟩ := h.only
  rfl
theorem Lane.Writes.edg (h : Lane.Writes rs L M) : M.edg = L.edg := by
  obtain ⟨t, u, rfl⟩ := h.only
  rfl
theorem Lane.Writes.safe (h : Lane.Writes rs L M) : M.safe = L.safe := by
  obtain ⟨t, u, rfl⟩ := h.only
  rfl
theorem Lane.Writes.mem (h : Lane.Writes rs L M) : M.mem = L.mem := by
  obtain ⟨t, u, rfl⟩ := h.only
  rfl
theorem Lane.Writes.flash (h : Lane.Writes rs L M) : M.flash = L.flash := by
  obtain ⟨t, u, rfl⟩ := h.only
  rfl
/-- None of the registers is a bank register, by which memory is seen (R195). -/
theorem Lane.Writes.frame (h : Lane.Writes rs L M) (hb : ∀ x, x < 12 → (R.AX_BANK x).addr ∉ rs) : Lane.Frame rs L M :=
  Lane.Frame.regs h.regs h.mem h.flash hb
end

/-- Addresses outside the window of the axes are no bank registers. -/
theorem AX_BANK_not_mem {rs : List Nat} (h : ∀ a ∈ rs, a / 0x10000 ≠ 0x4004) (x : Nat) (hx : x < 12) : (R.AX_BANK x).addr ∉ rs :=
  fun hm => AX_BANK_ne_of_window (h _ hm) x hx rfl

/-! ### Instances -/

theorem Lane.task_of_instOf {L : Lane} {n : Nat} {i : Inst} (h : L.instOf n = some i) : i.task = n := of_decide_eq_true (List.find?_some (p := fun j : Inst => decide (j.task = n)) h)

theorem Lane.instOf_congr {L M : Lane} (h : M.eng.insts = L.eng.insts) (n : Nat) : M.instOf n = L.instOf n := congrArg _ h

@[simp] theorem Lane.instOf_dropInst_same (L : Lane) (n : Nat) : (L.dropInst n).instOf n = none := by
  simp [Lane.instOf, Lane.dropInst]

theorem Lane.run_dropInst_same {L : Lane} {n : Nat} (h : L.eng.run = some n) : (L.dropInst n).eng.run = none := if_pos h

/-- A change of the run of a task, which stays that task's. -/
theorem Lane.instOf_updInst {L : Lane} {n : Nat} {f : Inst → Inst} {i : Inst} (hf : ∀ j : Inst, (f j).task = j.task) (h : L.instOf n = some i) :
    (L.updInst n f).instOf n = some (f i) := by
  have hp : ((fun j : Inst => decide (j.task = n)) ∘ fun j => if j.task = n then f j else j) = fun j => decide (j.task = n) := by
    funext j
    dsimp only [Function.comp]
    split
    · rw [hf]
    · rfl
  have hm : (L.updInst n f).instOf n = (L.instOf n).map fun j => if j.task = n then f j else j := by
    unfold Lane.instOf Lane.updInst
    dsimp only [Lane.eng_updEng]
    rw [List.find?_map, hp]
  rw [hm, h, Option.map_some, if_pos (Lane.task_of_instOf h)]

/-! ### The loop checks (R171) -/

/-- The registers of the two loop levels. -/
def loopRegs : List Nat := [(R.CE_LPC 0).addr, (R.CE_LPC 1).addr, (R.CE_LPA 0).addr, (R.CE_LPA 1).addr]

theorem Lane.Writes.loopChecks (L : Lane) (a lv : Nat) : Lane.Writes loopRegs L (L.loopChecks a lv).1 := by
  unfold Lane.loopChecks
  extract_lets hit one
  have hone : ∀ X k, k < 2 → Lane.Writes loopRegs L X → Lane.Writes loopRegs L (one X k).1 := fun X k hk hX => by
    have hm : (R.CE_LPC k).addr ∈ loopRegs ∧ (R.CE_LPA k).addr ∈ loopRegs := by
      interval_cases k <;> decide
    dsimp only [one]
    split
    · exact hX
    · split
      · exact hX.setF _ _ _ hm.1
      · exact hX.setF _ _ _ hm.2
  have h1 := hone L 1 (by decide) (Lane.Writes.refl _ L)
  split
  next X t e => exact e ▸ h1
  next X e =>
    rw [e] at h1
    exact hone X 0 (by decide) h1

/-- Where no loop of the level ends at the address, the checks change nothing and redirect nowhere. -/
theorem Lane.loopChecks_straight {L : Lane} {a lv : Nat} (h : ∀ k, k < 2 → L.lpOn k lv = true → L.lpa k F.CE_LPA_LE ≠ a) : L.loopChecks a lv = (L, none) := by
  have hit (k : Nat) (hk : k < 2) : (L.lpOn k lv && decide (L.lpa k F.CE_LPA_LE = a)) = false := by
    cases hl : L.lpOn k lv
    · rfl
    · simp [h k hk hl]
  simp [Lane.loopChecks, hit 1 (by decide), hit 0 (by decide)]

theorem Lane.lpa_congr {L M : Lane} {k : Nat} (h : M.rd (R.CE_LPA k) = L.rd (R.CE_LPA k)) (f : Bf) : M.lpa k f = L.lpa k f := congrArg f.get h
theorem Lane.lpOn_congr {L M : Lane} {k : Nat} (h : M.rd (R.CE_LPA k) = L.rd (R.CE_LPA k)) (lv : Nat) : M.lpOn k lv = L.lpOn k lv := by
  have hact : M.on (R.CE_LPA k) F.CE_LPA_ACT = L.on (R.CE_LPA k) F.CE_LPA_ACT := congrArg F.CE_LPA_ACT.on h
  rw [Lane.lpOn, hact, Lane.lpa_congr h, Lane.lpOn]

/-- A lane whose loop addresses are those of another is straight where the other is. -/
theorem Lane.Straight.congr {L M : Lane} {i : Inst} (h : L.Straight i) (hr : ∀ k, k < 2 → M.rd (R.CE_LPA k) = L.rd (R.CE_LPA k)) : M.Straight i :=
  ⟨h.1, fun k hk hon => by
    rw [Lane.lpa_congr (hr k hk)]
    exact h.2 k hk ((Lane.lpOn_congr (hr k hk) _).symm.trans hon)⟩

end Sys2Proof.Machine
end

section
/-! SUPPORT. What a deadline fault and an abandoned run show and leave (R83, R182, R489, R524, R579). -/

namespace Sys2Proof.Machine

/-! ### Recorded faults (R489, R524) -/

/-- A post shows in the registers of the mailbox and of the NVM guard alone. -/
theorem Lane.RegsBut.post (L : Lane) (k : Nat) (ws : List Word) : Lane.RegsBut logRegs L (L.post k ws) := by
  have hw (ps qs : List MPost) : Lane.Writes logRegs { L with posts := ps, retained := qs } (Lane.showPosts { L with posts := ps, retained := qs }) :=
    ((Lane.Writes.refl logRegs _).setF R.BMB_STAT _ _ (by decide)).setF R.PWR_NVMST _ _ (by decide)
  have h0 := Lane.Writes.refl logRegs L
  unfold Lane.post
  split
  · split
    · exact (hw _ _).regs
    · exact ((h0.bump R.PWR_NVMST _ _ (by decide)).raise R.PWR_EVT _ (by decide)).regs
  · split
    · exact ((h0.bump R.BMB_CNT _ _ (by decide)).raise R.BMB_STAT _ (by decide)).regs
    · exact (hw _ _).regs

theorem Lane.eng_post (L : Lane) (k : Nat) (ws : List Word) : (L.post k ws).eng = L.eng := by
  unfold Lane.post
  split
  · split <;> rfl
  · split <;> rfl
@[simp] theorem Lane.eng_fault (L : Lane) (cls loc : Nat) : (L.fault cls loc).eng = L.eng := Lane.eng_post _ _ _

/-- FIX_FLTLAST shows the class and the location of the fault recorded last (R524). -/
theorem Lane.fld_FLTLAST_fault (L : Lane) (cls loc : Nat) : (L.fault cls loc).fld R.FIX_FLTLAST F.FIX_FLTLAST_CLASS = cls % 256
    ∧ (L.fault cls loc).fld R.FIX_FLTLAST F.FIX_FLTLAST_LOC = loc % 256 := by
  have e : (L.fault cls loc).rd R.FIX_FLTLAST = ((L.setF R.FIX_FLTLAST F.FIX_FLTLAST_CLASS cls).setF R.FIX_FLTLAST F.FIX_FLTLAST_LOC loc).rd R.FIX_FLTLAST :=
    (Lane.RegsBut.post _ _ _ R.FIX_FLTLAST (by decide)).trans (Lane.rd_bump_other _ _ _ (by decide))
  simp only [Lane.fld, e]
  exact ⟨(Lane.fld_setF_field _ _ _ (by decide)).trans (Lane.fld_setF_same _ _ _ _ (by decide)), Lane.fld_setF_same _ _ _ _ (by decide)⟩

/-- A trigger event of a logbook is kept with the axes. -/
theorem Lane.lbFault_ax (L : Lane) (a k : Nat) : ∃ t, L.lbFault a k = { L with ax := t } := by
  unfold Lane.lbFault
  split
  · unfold Lane.lbEvent
    split
    · exact ⟨_, rfl⟩
    · exact ⟨_, rfl⟩
  · exact ⟨_, rfl⟩

/-! ### Deadline faults (R83) -/

/-- The registers that a deadline fault of task `n` shows in. -/
def deadlineRegs (n : Nat) : List Nat := R.RKN_FAULT.addr :: (R.RKN_TSTAT n).addr :: R.FIX_FLTLAST.addr :: R.FIX_FLTCNT.addr :: logRegs

theorem deadlineRegs_window {n : Nat} (h : n < 64) : ∀ a ∈ deadlineRegs n, a / 0x10000 ≠ 0x4004 := by
  intro a ha
  simp only [deadlineRegs, logRegs, R.RKN_FAULT, R.RKN_TSTAT, R.FIX_FLTLAST, R.FIX_FLTCNT, R.BMB_STAT, R.BMB_CNT, R.PWR_NVMST, R.PWR_EVT, List.mem_cons, List.not_mem_nil,
    or_false] at ha
  omega

/-- No register of the engine's window is among them. -/
theorem not_mem_deadlineRegs {n a : Nat} (h : n < 64) (ha : a / 0x10000 = 0x4003) : a ∉ deadlineRegs n := by
  simp only [deadlineRegs, logRegs, R.RKN_FAULT, R.RKN_TSTAT, R.FIX_FLTLAST, R.FIX_FLTCNT, R.BMB_STAT, R.BMB_CNT, R.PWR_NVMST, R.PWR_EVT, List.mem_cons, List.not_mem_nil,
    or_false]
  omega

/-- What a deadline fault marks before it is recorded as the lane's. -/
def Lane.deadlineMarked (L : Lane) (n : Nat) : Lane := ((L.recTask n).raise R.RKN_FAULT F.RKN_FAULT_DLF).raise (R.RKN_TSTAT n) F.RKN_TSTAT_MISS

theorem Lane.deadlineFault_eq (L : Lane) (n : Nat) : ∃ t, L.deadlineFault n = Lane.fault { L.deadlineMarked n with ax := t } 1 L.me := by
  unfold Lane.deadlineFault
  extract_lets L1 a L2
  have h2 : ∃ t, L2 = { L1 with ax := t } := by
    dsimp only [L2]
    split
    · exact Lane.lbFault_ax L1 a 0
    · exact ⟨_, rfl⟩
  obtain ⟨t, ht⟩ := h2
  exact ⟨t, by rw [ht]; rfl⟩

/-- The first task since DLF was cleared is recorded (R91). -/
theorem Lane.recTask_eq (L : Lane) (n : Nat) : Lane.Writes [R.RKN_FAULT.addr] (L.updEng fun e => { e with recd := true }) (L.recTask n) := by
  unfold Lane.recTask
  split
  · next h =>
    have e : (L.updEng fun e => { e with recd := true }) = L := by
      show { L with eng := { L.eng with recd := true } } = L
      rw [← h]
    rw [e]
    exact Lane.Writes.refl _ L
  · exact (Lane.Writes.refl _ _).setF R.RKN_FAULT _ _ (by simp)

theorem Lane.Writes.deadlineMarked (L : Lane) (n : Nat) :
    Lane.Writes [R.RKN_FAULT.addr, (R.RKN_TSTAT n).addr] (L.updEng fun e => { e with recd := true }) (L.deadlineMarked n) :=
  (((L.recTask_eq n).mono (by simp)).raise _ _ (by simp)).raise _ _ (by simp)

theorem Lane.eng_deadlineFault (L : Lane) (n : Nat) : (L.deadlineFault n).eng = { L.eng with recd := true } := by
  obtain ⟨t, e⟩ := L.deadlineFault_eq n
  rw [e, Lane.eng_fault]
  exact (Lane.Writes.deadlineMarked L n).eng

theorem Lane.Frame.deadlineFault (L : Lane) {n : Nat} (h : n < 64) : Lane.Frame (deadlineRegs n) L (L.deadlineFault n) := by
  obtain ⟨t, e⟩ := L.deadlineFault_eq n
  have h0 : Lane.Frame (deadlineRegs n) L (L.updEng fun e => { e with recd := true }) := Lane.Frame.of_eq rfl rfl rfl _
  have hm := ((Lane.Writes.deadlineMarked L n).mono (qs := deadlineRegs n) (by simp [deadlineRegs])).frame (AX_BANK_not_mem (deadlineRegs_window h))
  have hf := (Lane.Records.fault { L.deadlineMarked n with ax := t } 1 L.me).frame.mono (qs := deadlineRegs n) fun x hx =>
    List.mem_cons_of_mem _ (List.mem_cons_of_mem _ ((by decide : ∀ x ∈ faultRegs, x ∈ R.FIX_FLTLAST.addr :: R.FIX_FLTCNT.addr :: logRegs) x hx))
  rw [e]
  exact ((h0.trans hm).trans (Lane.Frame.of_eq rfl rfl rfl _)).trans hf

/-- A deadline fault shows in RKN_FAULT, in the task's status and as the lane's fault of class 1. -/
theorem Lane.deadlineFault_shows (L : Lane) {n : Nat} (h : n < 64) : (L.deadlineFault n).on R.RKN_FAULT F.RKN_FAULT_DLF = true
    ∧ (L.deadlineFault n).on (R.RKN_TSTAT n) F.RKN_TSTAT_MISS = true ∧ (L.deadlineFault n).fld R.FIX_FLTLAST F.FIX_FLTLAST_CLASS = 1
    ∧ (L.deadlineFault n).fld R.FIX_FLTLAST F.FIX_FLTLAST_LOC = L.me % 256 := by
  obtain ⟨t, e⟩ := L.deadlineFault_eq n
  have hr (r : Reg) (hr : r.addr ∉ faultRegs) : (L.deadlineFault n).rd r = (L.deadlineMarked n).rd r := by
    rw [e]
    exact (Lane.Records.fault { L.deadlineMarked n with ax := t } 1 L.me).rd hr
  have ht : (R.RKN_TSTAT n).addr ∉ faultRegs := by
    simp only [faultRegs, R.RKN_TSTAT, R.FIX_FLTLAST, R.FIX_FLTCNT, R.BMB_STAT, R.PWR_NVMST, R.PWR_EVT, R.BMB_CNT, List.mem_cons, List.not_mem_nil, or_false]
    omega
  have hne : R.RKN_FAULT.addr ≠ (R.RKN_TSTAT n).addr := by
    simp only [R.RKN_FAULT, R.RKN_TSTAT]
    omega
  refine ⟨?_, ?_, ?_⟩
  · rw [Lane.on, hr _ (by decide)]
    exact (Lane.on_raise_other _ _ _ hne).trans (Lane.on_raise_same _ _ _ (by decide) (by decide))
  · rw [Lane.on, hr _ ht]
    exact Lane.on_raise_same _ _ _ (by decide) (by decide)
  · rw [e]
    exact Lane.fld_FLTLAST_fault _ 1 L.me

/-! ### The end of a run (R83, R179) -/

/-- The end of a run that is no sample, while EN stays set. -/
theorem Lane.instEnd_task {L : Lane} {i : Inst} (hs : i.sample = false) (hc : L.eng.closing = false) (c : Nat) (ab : Bool) :
    L.instEnd i c ab = (L.dropInst i.task).updEng fun e => { e with next := max e.next (c + 3) } := by
  have hc' : ((L.dropInst i.task).updEng fun e => { e with next := max e.next (c + 3) }).eng.closing = false := hc
  simp only [Lane.instEnd, hs, Bool.false_eq_true, if_false, Lane.engSettle, hc', Bool.false_and]

/-- A run that is no sample, abandoned with no LPST outstanding. -/
theorem Lane.abandon_task {L : Lane} {i : Inst} (hs : i.sample = false) (hv : i.saved = false) (hc : L.eng.closing = false) (c : Nat) :
    L.abandon i c = ((L.deadlineFault i.task).dropInst i.task).updEng fun e => { e with next := max e.next (c + 3) } := by
  have hc' : (L.deadlineFault i.task).eng.closing = false := by rw [Lane.eng_deadlineFault]; exact hc
  simp only [Lane.abandon, hv, Bool.not_false, if_true, Lane.instEnd_task hs hc']

/-- What stands after a run has been abandoned. -/
structure Lane.Abandoned (i : Inst) (L M : Lane) : Prop where
  gone : M.instOf i.task = none
  dlf : M.on R.RKN_FAULT F.RKN_FAULT_DLF = true
  miss : M.on (R.RKN_TSTAT i.task) F.RKN_TSTAT_MISS = true
  cls : M.fld R.FIX_FLTLAST F.FIX_FLTLAST_CLASS = 1
  loc : M.fld R.FIX_FLTLAST F.FIX_FLTLAST_LOC = L.me % 256
  frame : Lane.Frame (deadlineRegs i.task) L M

theorem Lane.Abandoned.abandon {L : Lane} {i : Inst} (hs : i.sample = false) (hv : i.saved = false) (hc : L.eng.closing = false) (hn : i.task < 64) (c : Nat) :
    Lane.Abandoned i L (L.abandon i c) := by
  obtain ⟨h1, h2, h3, h4⟩ := L.deadlineFault_shows hn
  have hF := Lane.Frame.deadlineFault L hn
  rw [Lane.abandon_task hs hv hc]
  generalize L.deadlineFault i.task = D at h1 h2 h3 h4 hF
  exact ⟨Lane.instOf_dropInst_same D i.task, h1, h2, h3, h4, hF.trans (Lane.Frame.of_eq rfl rfl rfl _)⟩

end Sys2Proof.Machine
end

section
/-! SUPPORT. The issue of a fetched instruction, said once for every opcode (R158 to R165, R171, R182, R185). -/

namespace Sys2Proof.Machine

/-! ### What an issue does -/

/-- A fetched instruction that is not executed: the loop checks follow its fetch, the cause is shown and its run abandoned (R171, R182). -/
def Lane.notExecuted (P : Lane) (i : Inst) (c : Nat) (fl : Bf) : Lane := ((P.loopChecks i.pc i.level).1.ceFault i.task i.pc fl).abandon i c

/-- The cycle of an issue counts, the next issue comes a cycle later, and the loop checks follow with the address that they redirect to. -/
def Lane.countIssue (P : Lane) (i : Inst) (c : Nat) : Lane × Option Nat :=
  ((P.bump R.CE_UTIL ⟨0, 32⟩ 1).updEng fun e => { e with next := c + 1 }).loopChecks i.pc i.level

/-- An END, or a YIELD where `y`: the address that the task goes on at is kept and the run ends. -/
def Lane.taskEnd (P : Lane) (i : Inst) (c : Nat) (y : Bool) : Lane :=
  let L := (P.countIssue i c).1
  (L.setF (R.CE_TST i.task) F.CE_TST_CONT (if y then i.pc + 1 else L.fld (R.CE_TASK i.task) F.CE_TASK_ENTRY)).instEnd i c false

/-- What an opcode does at issue, carried through: `P` is the lane at the issue and `jump` says whether the opcode is JMP or BRC. -/
def Lane.carryOut (P : Lane) (i : Inst) (c : Nat) (jump : Bool) : Iss → Lane
  | .fault fl => P.notExecuted i c fl
  | .ends y =>
    let L := P.taskEnd i c y
    let m := if y then 0 else L.endLoads i.task
    if m = 0 then L else Lane.emit (L.loadEdges L.me m)
  | .waits ev =>
    let k := P.countIssue i c
    let pc := k.2.getD (i.pc + 1)
    let L := k.1.updInst i.task fun j => { j with pc := if decide (i.slots = 1) then j.target.getD pc else pc, slots := j.slots - 1 }
    if L.waitOver i ev then L
    else (L.updInst i.task fun j => { j with wait := some ev }).updEng fun e => { e with run := none, next := c + 3 }
  | .go L nx =>
    let k := L.countIssue i c
    let pc := nx.getD (k.2.getD (i.pc + 1))
    if jump then k.1.updInst i.task fun j => { j with pc := pc }
    else k.1.updInst i.task fun j =>
      { j with pc := if decide (i.slots = 1) then j.target.getD pc else pc, slots := j.slots - 1, target := if decide (i.slots = 1) then none else j.target }

/-- JMP and BRC. -/
def insJump (w : BitVec 64) : Bool := decide (insOp w = 3 ∨ insOp w = 4)

section
variable {L P : Lane} {w : BitVec 64} {i : Inst} {c : Nat}

theorem Lane.Fetches.run (h : L.Fetches w P i c) : P.eng.run = some i.task := by
  obtain ⟨-, -, hrun, -⟩ := h
  exact hrun
theorem Lane.Fetches.inst (h : L.Fetches w P i c) : P.instOf i.task = some i := by
  obtain ⟨-, -, -, hi, -⟩ := h
  exact hi
theorem Lane.Fetches.pc_lt (h : L.Fetches w P i c) : i.pc < 8192 := by
  obtain ⟨-, -, -, -, -, -, hpc, -⟩ := h
  exact hpc

/-- A fetched word passes the checks of parity, of its bits and of its place, and its opcode says the rest. -/
theorem Lane.engIssue_fetched (h : L.Fetches w P i c) (f : Lane → Inst → Nat → Iss) :
    L.engIssue w f = if P.pmPar.at i.pc then P.notExecuted i c F.CE_FAULT_PAR
      else if insIll w then P.notExecuted i c F.CE_FAULT_ILL
      else if (insJump w ∨ insOp w = 5) ∧ 0 < i.slots then P.notExecuted i c F.CE_FAULT_PLACE
      else if insJump w ∧ P.nearEnd i.pc i.level = true then P.notExecuted i c F.CE_FAULT_PLACE
      else P.carryOut i c (insJump w) (f P i c) := by
  obtain ⟨hc, rfl, hrun, hi, hpre, hhalt, hpc, hw, hdl⟩ := h
  have hgo : ¬(L.engHalted = true ∨ ((L.landTo c).engPick.engPreempts c).isSome = true ∨ (i.pc < 8192 ∧ (L.landTo c).engPick.progWord i.pc ≠ w)
      ∨ i.trig + (L.landTo c).engPick.fld (R.RKN_TDL i.task) F.RKN_TDL_DL < (L.landTo c).engPick.ticks) := by
    rintro (h1 | h1 | h1 | h1)
    · exact Bool.false_ne_true (hhalt.symm.trans h1)
    · rw [hpre] at h1
      cases h1
    · exact h1.2 hw
    · omega
  unfold Lane.engIssue
  rw [hc]
  dsimp only
  rw [hrun]
  dsimp only
  rw [hi]
  dsimp only
  rw [if_neg hgo, if_neg (by omega)]
  cases f (L.landTo c).engPick i c <;> rfl

/-- Where the place of an issued word is right, its opcode says what follows. -/
theorem Lane.engIssue_placed (h : L.Issues w P i c) (hs : insJump w = true ∨ insOp w = 5 → i.slots = 0) (hn : insJump w = true → P.nearEnd i.pc i.level = false)
    (f : Lane → Inst → Nat → Iss) : L.engIssue w f = P.carryOut i c (insJump w) (f P i c) := by
  obtain ⟨hf, hp, hill⟩ := h
  have hs' : ¬((insJump w = true ∨ insOp w = 5) ∧ 0 < i.slots) := fun k => by have := hs k.1; omega
  have hn' : ¬(insJump w = true ∧ P.nearEnd i.pc i.level = true) := fun k => Bool.false_ne_true ((hn k.1).symm.trans k.2)
  rw [Lane.engIssue_fetched hf, hp, hill, if_neg Bool.false_ne_true, if_neg Bool.false_ne_true, if_neg hs', if_neg hn']

/-- A word that is neither a jump nor a LOOP may stand anywhere. -/
theorem Lane.engIssue_plain (h : L.Issues w P i c) (hj : insOp w ≠ 3 ∧ insOp w ≠ 4 ∧ insOp w ≠ 5) (f : Lane → Inst → Nat → Iss) :
    L.engIssue w f = P.carryOut i c false (f P i c) := by
  have hw : insJump w = false := decide_eq_false (by omega)
  rw [Lane.engIssue_placed h (by simp [hw, hj.2.2]) (by simp [hw]), hw]

end

/-! ### What each opcode does -/

/-- The effect of the opcodes of R160; an opcode that R160 does not list is issued as NOP is. -/
def opEffect (w : BitVec 64) : Nat → Lane → Inst → Nat → Iss
  | 0x01 => fun _ _ _ => .ends false
  | 0x02 => fun _ _ _ => .ends true
  | 0x03 => fun L i _ => issJump w L i true
  | 0x04 => fun L i _ => issJump w L i (brcHolds (insX w) i.status)
  | 0x05 => fun L i _ => issLoop w L i
  | 0x06 => issLpst w
  | 0x07 => issLpld w
  | 0x08 => fun _ _ _ => issWait w
  | 0x10 => issVld w
  | 0x11 => issVst w
  | 0x12 => fun L i c => L.res i c 1 [.vec (insD w) (L.vreg i.level (insS w))]
  | 0x13 => issEld w
  | 0x14 => issEst w
  | 0x15 => fun L i c => L.res i c 1 [.el (insD w) (insEl w) (w32 (insImm w))]
  | 0x16 => fun L i c => L.res i c 1 [.exp (insD w) (sext 8 (insImm w))]
  | 0x17 => issIn w
  | 0x18 => fun L i _ => issOut w L i
  | 0x20 => fun L i c => L.resV i c 2 (insD w) (vecSum false (L.vreg i.level (insS w)) (L.vreg i.level (insT w)))
  | 0x21 => fun L i c => L.resV i c 2 (insD w) (vecSum true (L.vreg i.level (insS w)) (L.vreg i.level (insT w)))
  | 0x22 => issVmul w
  | 0x23 => issVdot w
  | 0x24 => issMacs w
  | 0x25 => issSt w
  | 0x26 => issMatvec w
  | 0x27 => issMvst w
  | 0x28 => fun L i c => L.res i c 2 [.el (insD w) (insEl w) (w32 (vecNorm (L.vreg i.level (insS w))))]
  | 0x29 => fun L i c => L.res i c 2 [.el (insD w) (insEl w) (wInt (vecExpx (L.vreg i.level (insS w))))]
  | 0x2A => issShv w
  | 0x2B => issVlim w
  | 0x2C => issVsel w
  | 0x2D => issCmp w
  | _ => fun L _ _ => issNop L

theorem State.issue_taken (s : State) (l : LaneId) (w : BitVec 64) {op : Bool} (h : op = true) (f : Lane → Inst → Nat → Iss) :
    s.issue l w op f = .next (s.run l fun L => L.engIssue w f) := by
  rw [State.issue, if_pos h]

/-- The command of an opcode issues the word where the word has that opcode; NOP takes the opcodes that are not listed, too. -/
theorem exec_engRow {x : Instr} {l : LaneId} {w : BitVec 64} {op : Nat} (hx : engRow x = some (l, w, op))
    (hop : insOp w = op ∨ (op = 0 ∧ opBits (insOp w) = none)) (s : State) : exec x s = .next (s.run l fun L => L.engIssue w (opEffect w op)) := by
  have hlisted (h0 : op ≠ 0) : decide (insOp w = op) = true := decide_eq_true (hop.resolve_right fun h => h0 h.1)
  have hnop : (decide (insOp w = 0) || (opBits (insOp w)).isNone) = true ∨ op ≠ 0 := by
    rcases hop with h | ⟨-, h⟩
    · by_cases h0 : op = 0
      · exact .inl (by simp [h, h0])
      · exact .inr h0
    · exact .inl (by simp [h])
  unfold engRow at hx
  split at hx
  case h_1 =>
    cases hx
    exact State.issue_taken s _ _ (hnop.resolve_right fun h => h rfl) _
  case h_33 => cases hx
  all_goals
    cases hx
    exact State.issue_taken s _ _ (hlisted (by decide)) _

/-- A lane's part of a step that issues the word of a command. -/
theorem RunsLane.of_engRow {x : Instr} {s : State} {l : LaneId} {w : BitVec 64} {op : Nat} {N : Lane} {Q : Lane → Lane → Prop} (hx : engRow x = some (l, w, op))
    (hop : insOp w = op ∨ (op = 0 ∧ opBits (insOp w) = none)) (hN : (s.lane l).engIssue w (opEffect w op) = N) (hQ : Q (s.lane l) { N with outP := [], outR := [] }) :
    RunsLane x s l Q :=
  RunsLane.of_run (exec_engRow hx hop s) (by rw [hN]; exact hQ)

/-! ### What the parts of an issue leave -/

/-- The registers that every issue may write. -/
def issueRegs : List Nat := R.CE_UTIL.addr :: loopRegs

theorem issueRegs_window : ∀ a ∈ issueRegs, a / 0x10000 ≠ 0x4004 := by decide

theorem Lane.Writes.countIssue (P : Lane) (i : Inst) (c : Nat) :
    Lane.Writes issueRegs (P.updEng fun e => { e with next := c + 1 }) (P.countIssue i c).1 := by
  have hu : Lane.Writes issueRegs (P.updEng fun e => { e with next := c + 1 }) ((P.bump R.CE_UTIL ⟨0, 32⟩ 1).updEng fun e => { e with next := c + 1 }) :=
    (Lane.Writes.refl issueRegs (P.updEng fun e => { e with next := c + 1 })).bump R.CE_UTIL _ _ (by decide)
  exact hu.trans ((Lane.Writes.loopChecks _ _ _).mono fun _ hx => List.mem_cons_of_mem _ hx)

theorem Lane.Frame.countIssue (P : Lane) (i : Inst) (c : Nat) : Lane.Frame issueRegs P (P.countIssue i c).1 :=
  (Lane.Frame.of_eq rfl rfl rfl _).trans ((Lane.Writes.countIssue P i c).frame (AX_BANK_not_mem issueRegs_window))

/-- An issue where no loop of the level ends goes on at the next address. -/
theorem Lane.countIssue_straight {P : Lane} {i : Inst} (h : P.Straight i) (c : Nat) : (P.countIssue i c).2 = none := by
  have hr (k : Nat) (hk : k < 2) : ((P.bump R.CE_UTIL ⟨0, 32⟩ 1).updEng fun e => { e with next := c + 1 }).rd (R.CE_LPA k) = P.rd (R.CE_LPA k) :=
    P.rd_bump_other _ _ (by simp only [R.CE_LPA, R.CE_UTIL]; omega)
  rw [Lane.countIssue, Lane.loopChecks_straight (h.congr hr).2]

end Sys2Proof.Machine
end

section
/-! Faults of the engine and the ends of instances (R83, R158 to R165, R171, R179, R182, R185), and the statement. -/

namespace Sys2Proof.Machine

/-! ### Faults (R182) -/

/-- The cause of a fault is shown, and the first one since the flags were cleared with its task and address. -/
theorem Lane.Writes.ceFault (L : Lane) (n pc : Nat) (f : Bf) : Lane.Writes [R.CE_FAULT.addr, R.CE_FPC.addr] L (L.ceFault n pc f) := by
  unfold Lane.ceFault
  refine Lane.Writes.raise ?_ R.CE_FAULT f (by decide)
  split
  · exact ((Lane.Writes.refl _ L).setF R.CE_FAULT _ _ (by decide)).setF R.CE_FPC _ _ (by decide)
  · exact Lane.Writes.refl _ L

theorem Lane.ceFault_first {L : Lane} (h : (L.rd R.CE_FAULT).toNat % 64 = 0) {n pc : Nat} {f : Bf} (hf : f.lo + f.wid ≤ 8) (hn : n < 64) (hpc : pc < 8192) :
    (L.ceFault n pc f).fld R.CE_FAULT F.CE_FAULT_TASK = n ∧ (L.ceFault n pc f).fld R.CE_FPC F.CE_FPC_ADDR = pc := by
  have e : L.ceFault n pc f = ((L.setF R.CE_FAULT F.CE_FAULT_TASK n).setF R.CE_FPC F.CE_FPC_ADDR pc).raise R.CE_FAULT f := by
    rw [Lane.ceFault, decide_eq_true h]
    rfl
  rw [e]
  constructor
  · refine (Lane.fld_raise_field _ _ (.inl hf)).trans ?_
    rw [Lane.fld, Lane.rd_setF_other _ _ _ (by decide)]
    exact (Lane.fld_setF_same _ _ _ _ (by decide)).trans (Nat.mod_eq_of_lt hn)
  · rw [Lane.fld, Lane.rd_raise_other _ _ (by decide)]
    exact (Lane.fld_setF_same _ _ _ _ (by decide)).trans (Nat.mod_eq_of_lt hpc)

/-- The lane `P` at the fetch and the lane after it where the fetched word is not executed, with the cause `f`. -/
def Lane.Faulted (P : Lane) (i : Inst) (f : Bf) (M : Lane) : Prop :=
  M.instOf i.task = none ∧ M.on R.CE_FAULT f = true ∧ M.on R.RKN_FAULT F.RKN_FAULT_DLF = true ∧ M.on (R.RKN_TSTAT i.task) F.RKN_TSTAT_MISS = true
    ∧ ((P.rd R.CE_FAULT).toNat % 64 = 0 → M.fld R.CE_FAULT F.CE_FAULT_TASK = i.task ∧ M.fld R.CE_FPC F.CE_FPC_ADDR = i.pc)
    ∧ Lane.Frame ([R.CE_FAULT.addr, R.CE_FPC.addr, R.RKN_FAULT.addr, (R.RKN_TSTAT i.task).addr, (R.CE_LPC 0).addr, (R.CE_LPC 1).addr, (R.CE_LPA 0).addr,
        (R.CE_LPA 1).addr] ++ R.FIX_FLTLAST.addr :: R.FIX_FLTCNT.addr :: logRegs) P M

/-- The causes of R182, which stand below the task's number in CE_FAULT. -/
def ceCauses : List Bf := [F.CE_FAULT_ILL, F.CE_FAULT_ADDR, F.CE_FAULT_HAZ, F.CE_FAULT_PLACE, F.CE_FAULT_PAR]

theorem ceCauses_place : ∀ f ∈ ceCauses, f.lo + f.wid ≤ 8 ∧ 0 < f.wid := by decide

section
variable {P : Lane} {i : Inst} (hs : i.sample = false) (hv : i.saved = false) (hc : P.eng.closing = false) (hn : i.task < 64) (hpc : i.pc < 8192)
include hs hv hc hn hpc

theorem Lane.Faulted.notExecuted {f : Bf} (hf : f ∈ ceCauses) (c : Nat) : P.Faulted i f (P.notExecuted i c f) := by
  obtain ⟨hlo, hwid⟩ := ceCauses_place f hf
  have hl := Lane.Writes.loopChecks P i.pc i.level
  have hw := Lane.Writes.ceFault (P.loopChecks i.pc i.level).1 i.task i.pc f
  have hon : ((P.loopChecks i.pc i.level).1.ceFault i.task i.pc f).on R.CE_FAULT f = true := Lane.on_raise_same _ _ _ (by omega) hwid
  have hfirst : (P.rd R.CE_FAULT).toNat % 64 = 0 → _ := fun h =>
    Lane.ceFault_first (L := (P.loopChecks i.pc i.level).1) (by rw [hl.regs R.CE_FAULT (by decide)]; exact h) hlo hn hpc
  have hF : Lane.Frame (loopRegs ++ [R.CE_FAULT.addr, R.CE_FPC.addr]) P ((P.loopChecks i.pc i.level).1.ceFault i.task i.pc f) :=
    ((hl.mono fun _ => List.mem_append_left _).trans (hw.mono fun _ => List.mem_append_right _)).frame (AX_BANK_not_mem (by decide))
  have hcl : ((P.loopChecks i.pc i.level).1.ceFault i.task i.pc f).eng.closing = false := by rw [hw.eng, hl.eng]; exact hc
  have ha := Lane.Abandoned.abandon hs hv hcl hn c
  unfold Lane.notExecuted
  generalize (P.loopChecks i.pc i.level).1.ceFault i.task i.pc f = D at hon hfirst hF ha
  generalize D.abandon i c = M at ha
  have hF1 := ha.frame.1 R.CE_FAULT (not_mem_deadlineRegs hn (by decide))
  have hF2 := ha.frame.1 R.CE_FPC (not_mem_deadlineRegs hn (by decide))
  refine ⟨ha.gone, (congrArg f.on hF1).trans hon, ha.dlf, ha.miss, fun h => ⟨?_, ?_⟩, ?_⟩
  · exact (congrArg F.CE_FAULT_TASK.get hF1).trans (hfirst h).1
  · exact (congrArg F.CE_FPC_ADDR.get hF2).trans (hfirst h).2
  · refine (hF.mono (by simp [loopRegs])).trans (ha.frame.mono fun x hx => ?_)
    simp only [deadlineRegs, List.mem_cons] at hx
    simp only [List.mem_append, List.mem_cons]
    tauto

end

/-- A command whose word is fetched and not executed. -/
theorem RunsLane.faulted {x : Instr} {s : State} {l : LaneId} {w : BitVec 64} {op c : Nat} {P : Lane} {i : Inst} {f : Bf} (hx : engRow x = some (l, w, op))
    (hop : insOp w = op ∨ (op = 0 ∧ opBits (insOp w) = none)) (hf : P.Faulted i f (P.notExecuted i c f))
    (he : (s.lane l).engIssue w (opEffect w op) = P.notExecuted i c f) : RunsLane x s l fun _ M => P.Faulted i f M := by
  refine RunsLane.of_engRow hx hop he ?_
  generalize P.notExecuted i c f = N at hf
  exact hf

/-! ### Operands, sources, destinations and hazards (R159, R164, R172 to R174) -/

theorem issLpst_fails {w : BitVec 64} (h : lpFails w = true) (P : Lane) (i : Inst) (c : Nat) : issLpst w P i c = .fault F.CE_FAULT_ADDR := if_pos h
theorem issLpld_fails {w : BitVec 64} (h : lpFails w = true) (P : Lane) (i : Inst) (c : Nat) : issLpld w P i c = .fault F.CE_FAULT_ADDR := if_pos h
theorem Lane.idxBad_of_lt {P : Lane} {w : BitVec 64} {lv n : Nat} (h : 131072 < P.memIdx w lv + n) : P.idxBad w lv n = true := decide_eq_true h
theorem issVld_out {P : Lane} {w : BitVec 64} {i : Inst} (h : 131072 < P.memIdx w i.level + 17) (c : Nat) : issVld w P i c = .fault F.CE_FAULT_ADDR :=
  if_pos (Lane.idxBad_of_lt h)
theorem issVst_out {P : Lane} {w : BitVec 64} {i : Inst} (h : 131072 < P.memIdx w i.level + 17) (c : Nat) : issVst w P i c = .fault F.CE_FAULT_ADDR :=
  if_pos (Lane.idxBad_of_lt h)
theorem issEld_out {P : Lane} {w : BitVec 64} {i : Inst} (h : 131072 < P.memIdx w i.level + 1) (c : Nat) : issEld w P i c = .fault F.CE_FAULT_ADDR :=
  if_pos (Lane.idxBad_of_lt h)
theorem issEst_out {P : Lane} {w : BitVec 64} {i : Inst} (h : 131072 < P.memIdx w i.level + 1) (c : Nat) : issEst w P i c = .fault F.CE_FAULT_ADDR :=
  if_pos (Lane.idxBad_of_lt h)
theorem issMatvec_out {P : Lane} {w : BitVec 64} {i : Inst} (h : 131072 < P.memIdx w i.level + 1) (c : Nat) : issMatvec w P i c = .fault F.CE_FAULT_ADDR :=
  if_pos (by omega)
theorem issMatvec_illegal {P : Lane} {w : BitVec 64} {i : Inst} {c : Nat} (h : P.memIdx w i.level ≤ 131071) (hm : matLegal (P.engCoef c (P.memIdx w i.level)) = false) :
    issMatvec w P i c = .fault F.CE_FAULT_ILL := by
  unfold issMatvec
  dsimp only
  rw [if_neg (by omega), if_pos (by simp [hm])]
theorem issIn_absent {P : Lane} {w : BitVec 64} {i : Inst} (h : P.inSource i (insImm w / 2 ^ 24) (P.ioInst w i.level) (ioSub w) = none) (c : Nat) :
    issIn w P i c = .fault F.CE_FAULT_ADDR := by
  unfold issIn
  rw [h]
/-- Classes 1 to 5 are destinations (R174). -/
theorem Lane.outDest_absent (P : Lane) {cls : Nat} (h : 6 ≤ cls) (n sub : Nat) (v : Word) (raw : Bool) : P.outDest cls n sub v raw = none := by
  unfold Lane.outDest
  split
  case h_6 => rfl
  all_goals omega
theorem issOut_absent {P : Lane} {w : BitVec 64} (h : 6 ≤ insImm w / 2 ^ 24) (i : Inst) : issOut w P i = .fault F.CE_FAULT_ADDR := by
  unfold issOut
  dsimp only
  rw [P.outDest_absent h]
theorem issVmul_held {P : Lane} {c : Nat} (h : c < P.eng.macFree) (w : BitVec 64) (i : Inst) : issVmul w P i c = .fault F.CE_FAULT_HAZ := if_pos h
theorem issVdot_held {P : Lane} {c : Nat} (h : c < P.eng.macFree) (w : BitVec 64) (i : Inst) : issVdot w P i c = .fault F.CE_FAULT_HAZ := if_pos h
theorem issMacs_held {P : Lane} {c : Nat} (h : c < P.eng.macFree) (w : BitVec 64) (i : Inst) : issMacs w P i c = .fault F.CE_FAULT_HAZ := if_pos h
theorem issJump_above {w : BitVec 64} (h : 8191 < insImm w) (P : Lane) (i : Inst) (t : Bool) : issJump w P i t = .fault F.CE_FAULT_ADDR := if_pos h
theorem issLoop_before {w : BitVec 64} {i : Inst} (h : insImm w / 65536 < i.pc + 1) (P : Lane) : issLoop w P i = .fault F.CE_FAULT_PLACE := if_pos h

/-! ### The ends of instances (R179) -/

/-- The lane after a run has ended in cycle `c`, with the task to go on at `cont`. -/
def Lane.Ended (i : Inst) (c cont : Nat) (M : Lane) : Prop :=
  M.instOf i.task = none ∧ M.eng.run = none ∧ M.fld (R.CE_TST i.task) F.CE_TST_CONT = cont % 8192 ∧ c + 3 ≤ M.eng.next

/-- The end of a run changes the registers of the issue and the task's address. -/
theorem Lane.taskEnd_state {P : Lane} {i : Inst} (hs : i.sample = false) (hc : P.eng.closing = false) (hn : i.task < 64) (hr : P.eng.run = some i.task) (c : Nat) (y : Bool) :
    Lane.Ended i c (if y then i.pc + 1 else P.fld (R.CE_TASK i.task) F.CE_TASK_ENTRY) (P.taskEnd i c y)
      ∧ Lane.Frame (R.CE_UTIL.addr :: (R.CE_TST i.task).addr :: loopRegs) P (P.taskEnd i c y) := by
  have hk := Lane.Writes.countIssue P i c
  have hF := Lane.Frame.countIssue P i c
  have htask : (P.countIssue i c).1.fld (R.CE_TASK i.task) F.CE_TASK_ENTRY = P.fld (R.CE_TASK i.task) F.CE_TASK_ENTRY := by
    refine congrArg F.CE_TASK_ENTRY.get (hF.1 _ ?_)
    simp only [issueRegs, loopRegs, R.CE_TASK, R.CE_UTIL, R.CE_LPC, R.CE_LPA, List.mem_cons, List.not_mem_nil, or_false]
    omega
  have hcl : (P.countIssue i c).1.eng.closing = false := by rw [hk.eng]; exact hc
  have hrun : (P.countIssue i c).1.eng.run = some i.task := by rw [hk.eng]; exact hr
  have hw : ∀ x, x < 12 → (R.AX_BANK x).addr ≠ (R.CE_TST i.task).addr := AX_BANK_ne_of_window (by simp only [R.CE_TST]; omega)
  unfold Lane.taskEnd
  dsimp only
  rw [htask]
  generalize (P.countIssue i c).1 = K at hF hcl hrun
  rw [Lane.instEnd_task (L := K.setF _ _ _) hs hcl]
  refine ⟨⟨Lane.instOf_dropInst_same _ _, Lane.run_dropInst_same hrun, Lane.fld_setF_same K _ _ _ (by decide), Nat.le_max_right _ _⟩, ?_⟩
  exact ((hF.mono (by simp [issueRegs, loopRegs])).setFIn (r := R.CE_TST i.task) (by simp) hw).trans (Lane.Frame.of_eq rfl rfl rfl _)

/-- The engine and the chronometer stand, and of the registers those alone change that are listed. -/
structure Lane.EngStands (rs : List Nat) (L M : Lane) : Prop where
  eng : M.eng = L.eng
  ticks : M.ticks = L.ticks
  regs : Lane.RegsBut rs L M

section
variable {rs : List Nat} {L M N : Lane}

theorem Lane.EngStands.trans (h : Lane.EngStands rs L M) (k : Lane.EngStands rs M N) : Lane.EngStands rs L N :=
  ⟨k.eng.trans h.eng, k.ticks.trans h.ticks, h.regs.trans k.regs⟩
theorem Lane.EngStands.of_writes (h : Lane.Writes rs L M) : Lane.EngStands rs L M := ⟨h.eng, h.ticks, h.regs⟩
theorem Lane.EngStands.of_eq (he : M.eng = L.eng) (ht : M.ticks = L.ticks) (hr : M.regs = L.regs) : Lane.EngStands rs L M := ⟨he, ht, fun r _ => Lane.rd_congr hr r⟩

end

theorem Lane.EngStands.sendRes (rs : List Nat) (L : Lane) (me b q : Nat) : Lane.EngStands rs L (L.sendRes me b q).1 := by
  unfold Lane.sendRes
  split
  · exact Lane.EngStands.of_eq rfl rfl rfl
  · exact Lane.EngStands.of_eq rfl rfl rfl

/-- A load of edges shows in EDG_LDSTAT alone (R290, R291). -/
theorem Lane.EngStands.loadEdges (L : Lane) (me mask : Nat) : Lane.EngStands [R.EDG_LDSTAT.addr] L (L.loadEdges me mask).1 := by
  unfold Lane.loadEdges
  extract_lets last L0
  refine List.foldlRecOn (motive := fun acc : Lane × List (Nat × Pkt) => Lane.EngStands [R.EDG_LDSTAT.addr] L acc.1) _ _ ⟨rfl, rfl, Lane.RegsBut.setF L _ _ _⟩ ?_
  intro acc h b _
  dsimp only
  split
  · refine Lane.EngStands.trans ?_ (Lane.EngStands.sendRes _ _ _ _ _)
    split
    · exact h.trans ⟨rfl, rfl, Lane.RegsBut.raise _ R.EDG_LDSTAT _⟩
    · exact h.trans (Lane.EngStands.of_eq rfl rfl rfl)
  · exact h

/-- The masks of loads stand in the registers of the edge scheduler. -/
theorem Lane.endLoads_congr {L M : Lane} (h : ∀ k, M.rd (R.EDG_TLD k) = L.rd (R.EDG_TLD k)) (n : Nat) : M.endLoads n = L.endLoads n := by
  simp only [Lane.endLoads, h]

/-- An END or a YIELD carried out: beside an END's load of edges nothing but the registers of the issue and the task's address changes. -/
theorem Lane.carryOut_ends {P : Lane} {i : Inst} (hs : i.sample = false) (hc : P.eng.closing = false) (hn : i.task < 64) (hr : P.eng.run = some i.task) (c : Nat) (jump y : Bool) :
    Lane.Ended i c (if y then i.pc + 1 else P.fld (R.CE_TASK i.task) F.CE_TASK_ENTRY) (P.carryOut i c jump (.ends y))
      ∧ (y = true ∨ P.endLoads i.task = 0 → Lane.Frame (R.CE_UTIL.addr :: (R.CE_TST i.task).addr :: loopRegs) P (P.carryOut i c jump (.ends y))) := by
  obtain ⟨hE, hF⟩ := Lane.taskEnd_state hs hc hn hr c y
  have hloads : (P.taskEnd i c y).endLoads i.task = P.endLoads i.task := by
    refine Lane.endLoads_congr (fun k => hF.1 _ ?_) _
    simp only [loopRegs, R.EDG_TLD, R.CE_TST, R.CE_UTIL, R.CE_LPC, R.CE_LPA, List.mem_cons, List.not_mem_nil, or_false]
    omega
  unfold Lane.carryOut
  dsimp only
  rw [hloads]
  generalize P.taskEnd i c y = T at hE hF
  by_cases hm : (if y = true then 0 else P.endLoads i.task) = 0
  · rw [if_pos hm]
    exact ⟨hE, fun _ => hF⟩
  · rw [if_neg hm]
    obtain ⟨heng, -, hregs⟩ := Lane.EngStands.loadEdges T T.me (if y then 0 else P.endLoads i.task)
    have hcont := hregs (R.CE_TST i.task) (by simp only [R.CE_TST, R.EDG_LDSTAT, List.mem_singleton]; omega)
    obtain ⟨hgone, hrun, ht, hnext⟩ := hE
    generalize T.loadEdges T.me (if y then 0 else P.endLoads i.task) = r at heng hcont
    refine ⟨⟨(Lane.instOf_congr (L := T) (M := Lane.emit r) (congrArg Eng.insts heng) _).trans hgone, (congrArg Eng.run heng).trans hrun,
      (congrArg F.CE_TST_CONT.get hcont).trans ht, hnext.trans_eq (congrArg Eng.next heng).symm⟩, fun h => absurd ?_ hm⟩
    rcases h with h | h
    · exact if_pos h
    · rw [h, ite_self]

/-! ### The statement -/

/-- The command `x` of opcode `op` names the word that lane `l` fetches for a run that is no sample and has no LPST outstanding, with EN set. -/
structure FetchesTask (s : State) (x : Instr) (l : LaneId) (w : BitVec 64) (P : Lane) (i : Inst) (c op : Nat) : Prop where
  row : engRow x = some (l, w, op)
  listed : insOp w = op ∨ (op = 0 ∧ opBits (insOp w) = none)
  fetch : (s.lane l).Fetches w P i c
  sample : i.sample = false
  saved : i.saved = false
  enabled : P.eng.closing = false
  task : i.task < 64

namespace FetchesTask

section
variable {s : State} {x : Instr} {l : LaneId} {w : BitVec 64} {P : Lane} {i : Inst} {c op : Nat} (h : FetchesTask s x l w P i c op)
include h

theorem opcode (h0 : op ≠ 0) : insOp w = op := h.listed.resolve_right fun k => h0 k.1
theorem jump (hj : op = 3 ∨ op = 4) : insJump w = true := decide_eq_true (by have := h.opcode (by omega); omega)
theorem not_jump (hj : op ≠ 0 ∧ op ≠ 3 ∧ op ≠ 4) : insJump w = false := decide_eq_false (by have := h.opcode hj.1; omega)

/-- Where the word is not executed, the lane is as R182 says. -/
theorem faulted {f : Bf} (hf : f ∈ ceCauses) (he : (s.lane l).engIssue w (opEffect w op) = P.notExecuted i c f) : RunsLane x s l fun _ M => P.Faulted i f M := by
  have hF := Lane.Faulted.notExecuted h.sample h.saved h.enabled h.task h.fetch.pc_lt hf c
  refine RunsLane.of_engRow h.row h.listed he ?_
  generalize P.notExecuted i c f = N at hF
  exact hF

theorem parity (hp : P.pmPar.at i.pc = true) : RunsLane x s l fun _ M => P.Faulted i F.CE_FAULT_PAR M :=
  h.faulted (by decide) (by rw [Lane.engIssue_fetched h.fetch, if_pos hp])

theorem illegal (hp : P.pmPar.at i.pc = false) (hi : insIll w = true) : RunsLane x s l fun _ M => P.Faulted i F.CE_FAULT_ILL M :=
  h.faulted (by decide) (by rw [Lane.engIssue_fetched h.fetch, hp, if_neg Bool.false_ne_true, if_pos hi])

/-- A jump or a LOOP in a delay slot (R165). -/
theorem slot (hso : P.pmPar.at i.pc = false ∧ insIll w = false) (hj : (op = 3 ∨ op = 4) ∨ op = 5) (h0 : 0 < i.slots) : RunsLane x s l fun _ M => P.Faulted i F.CE_FAULT_PLACE M := by
  have hp : (insJump w = true ∨ insOp w = 5) ∧ 0 < i.slots := ⟨hj.imp h.jump fun h5 => (h.opcode (by omega)).trans h5, h0⟩
  exact h.faulted (by decide) (by rw [Lane.engIssue_fetched h.fetch, hso.1, hso.2, if_neg Bool.false_ne_true, if_neg Bool.false_ne_true, if_pos hp])

/-- A jump near the end of a loop (R165). -/
theorem near (hso : P.pmPar.at i.pc = false ∧ insIll w = false) (hj : op = 3 ∨ op = 4) (h0 : i.slots = 0) (hn : P.nearEnd i.pc i.level = true) :
    RunsLane x s l fun _ M => P.Faulted i F.CE_FAULT_PLACE M :=
  h.faulted (by decide) (by
    rw [Lane.engIssue_fetched h.fetch, hso.1, hso.2, if_neg Bool.false_ne_true, if_neg Bool.false_ne_true, if_neg (by omega), if_pos ⟨h.jump hj, hn⟩])

/-- A word at its place that its opcode does not carry out. -/
theorem effect {f : Bf} (hf : f ∈ ceCauses) (hso : P.pmPar.at i.pc = false ∧ insIll w = false) (hs : insJump w = true ∨ insOp w = 5 → i.slots = 0)
    (hn : insJump w = true → P.nearEnd i.pc i.level = false) (he : opEffect w op P i c = .fault f) : RunsLane x s l fun _ M => P.Faulted i f M :=
  h.faulted hf (by rw [Lane.engIssue_placed ⟨h.fetch, hso⟩ hs hn, he]; rfl)

/-- The same of the opcodes that have no place to keep. -/
theorem operand {f : Bf} (hf : f ∈ ceCauses) (hso : P.pmPar.at i.pc = false ∧ insIll w = false) (ho : 5 < op) (he : opEffect w op P i c = .fault f) :
    RunsLane x s l fun _ M => P.Faulted i f M := by
  have hw := h.opcode (by omega)
  refine h.effect hf hso (fun k => ?_) (fun k => ?_) he
  · rw [h.not_jump (by omega), hw] at k
    exact absurd (k.resolve_left Bool.false_ne_true) (by omega)
  · rw [h.not_jump (by omega)] at k
    cases k

/-- A jump to an address above program memory (R182). -/
theorem above (hso : P.pmPar.at i.pc = false ∧ insIll w = false) (hj : op = 3 ∨ op = 4) (h0 : i.slots = 0) (hn : P.nearEnd i.pc i.level = false) (hi : 8191 < insImm w) :
    RunsLane x s l fun _ M => P.Faulted i F.CE_FAULT_ADDR M := by
  refine h.effect (by decide) hso (fun _ => h0) (fun _ => hn) ?_
  rcases hj with rfl | rfl
  · exact issJump_above hi P i _
  · exact issJump_above hi P i _

/-- A LOOP whose body would end before it begins (R170). -/
theorem body (hso : P.pmPar.at i.pc = false ∧ insIll w = false) (h5 : op = 5) (h0 : i.slots = 0) (hi : insImm w / 65536 < i.pc + 1) :
    RunsLane x s l fun _ M => P.Faulted i F.CE_FAULT_PLACE M := by
  refine h.effect (by decide) hso (fun _ => h0) (fun k => ?_) ?_
  · rw [h.not_jump (by omega)] at k
    cases k
  · subst h5
    exact issLoop_before hi P

theorem loopStore (hso : P.pmPar.at i.pc = false ∧ insIll w = false) (ho : op = 6 ∨ op = 7) (hf : lpFails w = true) : RunsLane x s l fun _ M => P.Faulted i F.CE_FAULT_ADDR M := by
  refine h.operand (by decide) hso (by omega) ?_
  rcases ho with rfl | rfl
  · exact issLpst_fails hf P i c
  · exact issLpld_fails hf P i c

theorem vector (hso : P.pmPar.at i.pc = false ∧ insIll w = false) (ho : op = 0x10 ∨ op = 0x11) (hm : 131072 < P.memIdx w i.level + 17) :
    RunsLane x s l fun _ M => P.Faulted i F.CE_FAULT_ADDR M := by
  refine h.operand (by decide) hso (by omega) ?_
  rcases ho with rfl | rfl
  · exact issVld_out hm c
  · exact issVst_out hm c

theorem element (hso : P.pmPar.at i.pc = false ∧ insIll w = false) (ho : op = 0x13 ∨ op = 0x14 ∨ op = 0x26) (hm : 131072 < P.memIdx w i.level + 1) :
    RunsLane x s l fun _ M => P.Faulted i F.CE_FAULT_ADDR M := by
  refine h.operand (by decide) hso (by omega) ?_
  rcases ho with rfl | rfl | rfl
  · exact issEld_out hm c
  · exact issEst_out hm c
  · exact issMatvec_out hm c

theorem source (hso : P.pmPar.at i.pc = false ∧ insIll w = false) (ho : op = 0x17) (hm : P.inSource i (insImm w / 2 ^ 24) (P.ioInst w i.level) (ioSub w) = none) :
    RunsLane x s l fun _ M => P.Faulted i F.CE_FAULT_ADDR M := by
  subst ho
  exact h.operand (by decide) hso (by decide) (issIn_absent hm c)

theorem destination (hso : P.pmPar.at i.pc = false ∧ insIll w = false) (ho : op = 0x18) (hm : 6 ≤ insImm w / 2 ^ 24) : RunsLane x s l fun _ M => P.Faulted i F.CE_FAULT_ADDR M := by
  subst ho
  exact h.operand (by decide) hso (by decide) (issOut_absent hm i)

theorem hazard (hso : P.pmPar.at i.pc = false ∧ insIll w = false) (ho : op = 0x22 ∨ op = 0x23 ∨ op = 0x24) (hm : c < P.eng.macFree) :
    RunsLane x s l fun _ M => P.Faulted i F.CE_FAULT_HAZ M := by
  refine h.operand (by decide) hso (by omega) ?_
  rcases ho with rfl | rfl | rfl
  · exact issVmul_held hm w i
  · exact issVdot_held hm w i
  · exact issMacs_held hm w i

theorem matrix (hso : P.pmPar.at i.pc = false ∧ insIll w = false) (ho : op = 0x26) (hb : P.memIdx w i.level ≤ 131071) (hm : matLegal (P.engCoef c (P.memIdx w i.level)) = false) :
    RunsLane x s l fun _ M => P.Faulted i F.CE_FAULT_ILL M := by
  subst ho
  exact h.operand (by decide) hso (by decide) (issMatvec_illegal hb hm)
end

end FetchesTask

/-- END and YIELD, where the run is no sample. -/
theorem RunsLane.ends {s : State} {x : Instr} {l : LaneId} {w : BitVec 64} {P : Lane} {i : Inst} {c op : Nat} {y : Bool} (hx : engRow x = some (l, w, op))
    (hy : opEffect w op P i c = .ends y) (ho : insOp w = op) (hop : op = 1 ∨ op = 2) (hi : (s.lane l).Issues w P i c) (hs : i.sample = false) (hc : P.eng.closing = false)
    (hn : i.task < 64) :
    RunsLane x s l fun _ M => Lane.Ended i c (if y then i.pc + 1 else P.fld (R.CE_TASK i.task) F.CE_TASK_ENTRY) M
      ∧ (y = true ∨ P.endLoads i.task = 0 → Lane.Frame (R.CE_UTIL.addr :: (R.CE_TST i.task).addr :: loopRegs) P M) := by
  have hP := Lane.carryOut_ends hs hc hn hi.1.run c false y
  refine RunsLane.of_engRow hx (.inl ho) (N := P.carryOut i c false (.ends y)) (by rw [Lane.engIssue_plain hi (by omega), hy]) ?_
  generalize P.carryOut i c false (.ends y) = N at hP
  exact hP

/-- Settles O14: a fetched word that is not executed abandons its run, whichever check it fails, and END and YIELD end theirs. -/
theorem engineFaults : Obligations.EngineFaults := by
  refine ⟨fun s x l w P i c op hx hop hfetch hs hv hc hn => ?_, fun s l w P i c hi hs hc => ⟨fun ho hn => ?_, fun ho hn => ?_⟩⟩
  · have h : FetchesTask s x l w P i c op := ⟨hx, hop, hfetch, hs, hv, hc, hn⟩
    exact ⟨h.parity, h.illegal, h.slot, h.near, h.above, h.body, h.loopStore, h.vector, h.element, h.source, h.destination, h.hazard, h.matrix⟩
  · obtain ⟨t, he, ht, hE, hF⟩ := RunsLane.ends (x := .endInst l w) rfl rfl ho (.inl rfl) hi hs hc hn
    exact ⟨t, he, ht, hE, fun h => hF (.inr h)⟩
  · obtain ⟨t, he, ht, hE, hF⟩ := RunsLane.ends (x := .yieldInst l w) rfl rfl ho (.inr rfl) hi hs hc hn
    exact ⟨t, he, ht, hE, hF (.inl rfl)⟩

end Sys2Proof.Machine
end

section
/-! SUPPORT. What an OUT and the first OUT of a run write (R85, R174, R239, R245, R286, R288, R299). -/

namespace Sys2Proof.Machine

/-! ### Destinations (R174) -/

/-- The registers that an OUT may write at its destination. -/
def outRegs : List Nat := R.RKN_STAT.addr :: R.CE_OUTEV.addr :: ((List.range 8).map fun b => (R.EDG_BEVT b).addr) ++ (List.range 32).map fun k => (R.CE_OUT k).addr

theorem Lane.EngStands.rknFollow (L : Lane) (r : Nat) (ang : Word) (rate : Int) : Lane.EngStands outRegs L (L.rknFollow r ang rate) := by
  have h : Lane.Writes outRegs L ((L.rknDir r (ang - L.rkn.at r).toInt).rknRun r true) := by
    refine Lane.Writes.setF ?_ R.RKN_STAT _ _ (by decide)
    unfold Lane.rknDir
    split
    · exact Lane.Writes.refl _ L
    · exact (Lane.Writes.refl _ L).setF R.RKN_STAT _ _ (by decide)
  exact (Lane.EngStands.of_writes h).trans (Lane.EngStands.of_eq rfl rfl rfl)

/-- A new estimate moves reckoners and the angles that a block keeps (R245). -/
theorem Lane.EngStands.mcEstimate (L : Lane) (k : Nat) : Lane.EngStands outRegs L (L.mcEstimate k) := by
  unfold Lane.mcEstimate
  refine List.foldlRecOn (motive := fun X => Lane.EngStands outRegs L X) _ _ (Lane.EngStands.of_eq rfl rfl rfl) ?_
  intro X hX b _
  extract_lets w inj bemf ang rate src X1
  have h1 : Lane.EngStands outRegs L X1 := by
    dsimp only [X1]
    split
    · exact hX.trans (Lane.EngStands.of_eq rfl rfl rfl)
    · exact hX
  split
  · exact h1
  · split
    · exact h1.trans (Lane.EngStands.rknFollow _ _ _ _)
    · split
      · exact h1.trans (Lane.EngStands.rknFollow _ _ _ _)
      · exact h1

theorem EDG_BEVT_mem_outRegs {b : Nat} (h : b < 8) : (R.EDG_BEVT b).addr ∈ outRegs := by
  simp only [outRegs, List.mem_append, List.mem_cons, List.mem_map, List.mem_range]
  exact .inl (.inr (.inr ⟨b, h, rfl⟩))
theorem CE_OUT_mem_outRegs {k : Nat} (h : k < 32) : (R.CE_OUT k).addr ∈ outRegs := by
  simp only [outRegs, List.mem_append, List.mem_cons, List.mem_map, List.mem_range]
  exact .inr ⟨k, h, rfl⟩
/-- No register of the tasks' delays or of the loops is a destination. -/
theorem not_mem_outRegs {a : Nat} (h : 0x40010100 ≤ a) (h' : a < 0x40020000 ∨ (0x4003001C ≤ a ∧ a < 0x40030300)) : a ∉ outRegs := by
  simp only [outRegs, List.mem_append, List.mem_cons, List.mem_map, List.mem_range, R.RKN_STAT, R.CE_OUTEV, R.EDG_BEVT, R.CE_OUT]
  rintro ((h1 | h1 | ⟨b, -, h1⟩) | ⟨k, -, h1⟩) <;> omega

section
variable {P X : Lane} {n sub : Nat} {v : Word} {raw : Bool}

theorem Lane.EngStands.outBridge (P : Lane) (h : n < 8) (sub : Nat) (v : Word) : Lane.EngStands outRegs P (P.outBridge n sub v) := by
  unfold Lane.outBridge
  split
  · split
    · exact Lane.EngStands.of_eq rfl rfl rfl
    · exact Lane.EngStands.of_eq rfl rfl rfl
  · dsimp only
    split
    · exact Lane.EngStands.of_eq rfl rfl rfl
    · exact Lane.EngStands.of_writes ((Lane.Writes.refl _ P).raise _ _ (EDG_BEVT_mem_outRegs h))

/-- An engine register is written, and its event bit raised. -/
theorem Lane.Writes.outReg {rs : List Nat} (P : Lane) (n : Nat) (v : Word) (hn : (R.CE_OUT n).addr ∈ rs) (he : R.CE_OUTEV.addr ∈ rs) :
    Lane.Writes rs P ((P.wr (R.CE_OUT n) v).raiseBit R.CE_OUTEV n) := ((Lane.Writes.refl rs P).wr _ _ hn).raise _ _ he

theorem Lane.EngStands.outDest {cls : Nat} (h : P.outDest cls n sub v raw = some X) : Lane.EngStands outRegs P X := by
  unfold Lane.outDest at h
  split at h
  · obtain ⟨⟨hn, -⟩, e⟩ := Option.ite_none_right_eq_some.mp h
    obtain rfl := Option.some.inj e
    split
    · exact Lane.EngStands.of_eq rfl rfl rfl
    · exact Lane.EngStands.outBridge P hn sub v
  · obtain ⟨-, e⟩ := Option.ite_none_right_eq_some.mp h
    obtain rfl := Option.some.inj e
    split
    · exact Lane.EngStands.of_eq rfl rfl rfl
    · exact Lane.EngStands.of_eq rfl rfl rfl
  · obtain ⟨-, e⟩ := Option.ite_none_right_eq_some.mp h
    obtain rfl := Option.some.inj e
    exact Lane.EngStands.of_eq rfl rfl rfl
  · obtain ⟨-, e⟩ := Option.ite_none_right_eq_some.mp h
    obtain rfl := Option.some.inj e
    exact Lane.EngStands.of_eq rfl rfl rfl
  · obtain ⟨⟨hn, -⟩, e⟩ := Option.ite_none_right_eq_some.mp h
    obtain rfl := Option.some.inj e
    have h1 := Lane.EngStands.of_writes (Lane.Writes.outReg P n v (CE_OUT_mem_outRegs hn) (by decide))
    split
    · exact h1.trans (Lane.EngStands.mcEstimate _ n)
    · exact h1
  · cases h

/-! ### The destinations one by one -/

section
variable (hs : P.small = false)
include hs

theorem Lane.outDest_bridge (h : P.outDest 1 n sub v raw = some X) : n < 8 ∧ sub < 4 ∧ X = P.outBridge n sub v := by
  obtain ⟨⟨hn, hsub⟩, e⟩ := Option.ite_none_right_eq_some.mp h
  rw [hs, Bool.false_and, if_neg Bool.false_ne_true] at e
  exact ⟨hn, hsub, (Option.some.inj e).symm⟩

theorem Lane.outDest_valve (h : P.outDest 2 n sub v raw = some X) : n < 12 ∧ sub = 0 ∧ X = P.outValve n v := by
  obtain ⟨⟨hn, hsub⟩, e⟩ := Option.ite_none_right_eq_some.mp h
  rw [hs, Bool.false_and, if_neg Bool.false_ne_true] at e
  exact ⟨hn, hsub, (Option.some.inj e).symm⟩

end

/-- A leg value passes in RUN alone (R239, R286). -/
theorem Lane.outBridge_leg (P : Lane) (n : Nat) (v : Word) (h : sub < 3) :
    (P.outBridge n sub v).edg = (if (P.edg.ovr.at n).run then { P.edg with legs := P.edg.legs.set (3 * n + sub) v } else P.edg) ∧ Lane.Frame [] P (P.outBridge n sub v) := by
  rw [Lane.outBridge, if_pos h]
  split
  · exact ⟨rfl, Lane.Frame.of_eq rfl rfl rfl _⟩
  · exact ⟨rfl, Lane.Frame.refl _ P⟩

/-- A period out of range is refused with PLENERR (R288). -/
theorem Lane.outBridge_period (P : Lane) (h : n < 8) (hv : v.toNat < 16000 ∨ 800000 < v.toNat) :
    (P.outBridge n 3 v).edg = P.edg ∧ (P.outBridge n 3 v).on (R.EDG_BEVT n) F.EDG_BEVT_PLENERR = true ∧ Lane.Frame [(R.EDG_BEVT n).addr] P (P.outBridge n 3 v) := by
  have e : P.outBridge n 3 v = P.raise (R.EDG_BEVT n) F.EDG_BEVT_PLENERR := by
    rw [Lane.outBridge, if_neg (by decide)]
    exact if_neg fun k => by omega
  rw [e]
  exact ⟨rfl, Lane.on_raise_same _ _ _ (by decide) (by decide),
    (Lane.Frame.refl _ P).raiseIn (by simp) (AX_BANK_ne_of_window (by simp only [R.EDG_BEVT]; omega))⟩

theorem Lane.outDest_probe (h : P.outDest 3 n sub v raw = some X) : n < 12 ∧ sub < 16 ∧ (X.ax.at n).probes.at sub = v ∧ Lane.Frame [] P X := by
  obtain ⟨⟨hn, hsub⟩, e⟩ := Option.ite_none_right_eq_some.mp h
  obtain rfl := Option.some.inj e
  refine ⟨hn, hsub, ?_, Lane.Frame.of_eq rfl rfl rfl _⟩
  rw [Lane.ax_updAx, Tab.at_upd_same, Tab.at_set_same]

theorem Lane.outDest_function (h : P.outDest 4 n sub v raw = some X) : n < 12 ∧ sub = 0 ∧ (X.safe.mon.at n).cmd = some v ∧ Lane.Frame [] P X := by
  obtain ⟨⟨hn, hsub⟩, e⟩ := Option.ite_none_right_eq_some.mp h
  obtain rfl := Option.some.inj e
  refine ⟨hn, hsub, ?_, Lane.Frame.of_eq rfl rfl rfl _⟩
  rw [Lane.updMon, Lane.safe_updSafe, Tab.at_upd_same]

theorem Lane.outDest_reg (h : P.outDest 5 n sub v false = some X) :
    n < 32 ∧ sub = 0 ∧ X.rd (R.CE_OUT n) = v ∧ bitOf (X.rd R.CE_OUTEV) n = true ∧ Lane.Frame [(R.CE_OUT n).addr, R.CE_OUTEV.addr] P X := by
  obtain ⟨⟨hn, hsub⟩, e⟩ := Option.ite_none_right_eq_some.mp h
  obtain rfl : (P.wr (R.CE_OUT n) v).raiseBit R.CE_OUTEV n = X := Option.some.inj e
  refine ⟨hn, hsub, ?_, ?_, (Lane.Writes.outReg P n v (by simp) (by simp)).frame (AX_BANK_not_mem ?_)⟩
  · exact (Lane.rd_raise_other _ _ (by simp only [R.CE_OUT, R.CE_OUTEV]; omega)).trans (Lane.rd_wr_same _ _ _)
  · rw [Lane.raiseBit, Lane.rd_raise_same, bitOf, Bf.getLsbD_set, if_pos ⟨hn, Nat.le_refl _, Nat.lt_succ_self _⟩, Nat.sub_self]
    exact (by decide : (2 ^ 1 - 1).testBit 0 = true)
  · simp only [List.forall_mem_cons, R.CE_OUT, R.CE_OUTEV]
    exact ⟨by omega, by omega, by simp⟩

end

/-! ### The first OUT of a run (R85) -/

/-- The delay of the first OUT: the ticks since the trigger, in 24 bits. -/
def Lane.outDelay (L : Lane) (i : Inst) : Nat := min (2 ^ 24 - 1) (L.ticks - i.trig)

section
variable {L : Lane} {i : Inst}

theorem Lane.firstOut_again (h : i.outDone = true) : L.firstOut i = L := if_pos h

theorem RKN_TDLY_ne_TMAX (n m : Nat) : (R.RKN_TDLY n).addr ≠ (R.RKN_TMAX m).addr := by
  simp only [R.RKN_TDLY, R.RKN_TMAX]
  omega

theorem Lane.Writes.firstOut (h : i.outDone = false) :
    Lane.Writes [(R.RKN_TDLY i.task).addr, (R.RKN_TMAX i.task).addr] (L.updInst i.task fun j => { j with outDone := true }) (L.firstOut i) := by
  have h1 := (Lane.Writes.refl [(R.RKN_TDLY i.task).addr, (R.RKN_TMAX i.task).addr] (L.updInst i.task fun j => { j with outDone := true })).setF (R.RKN_TDLY i.task)
    F.RKN_TDLY_DLY (min (2 ^ 24 - 1) (L.ticks - i.trig)) (by simp)
  unfold Lane.firstOut
  rw [h, if_neg Bool.false_ne_true]
  dsimp only
  split
  · exact h1.setF _ _ _ (by simp)
  · exact h1

/-- The first OUT shows its delay, and the longest one so far. -/
theorem Lane.firstOut_delay (h : i.outDone = false) : (L.firstOut i).fld (R.RKN_TDLY i.task) F.RKN_TDLY_DLY = L.outDelay i
    ∧ (L.firstOut i).fld (R.RKN_TMAX i.task) F.RKN_TMAX_MAX = max (L.fld (R.RKN_TMAX i.task) F.RKN_TMAX_MAX) (L.outDelay i) := by
  have hd : L.outDelay i < 2 ^ 24 := by
    unfold Lane.outDelay
    omega
  have hdly (X : Lane) : (X.setF (R.RKN_TDLY i.task) F.RKN_TDLY_DLY (L.outDelay i)).fld (R.RKN_TDLY i.task) F.RKN_TDLY_DLY = L.outDelay i :=
    (X.fld_setF_same _ _ _ (by decide)).trans (Nat.mod_eq_of_lt hd)
  have hmax : ((L.updInst i.task fun j => { j with outDone := true }).setF (R.RKN_TDLY i.task) F.RKN_TDLY_DLY (L.outDelay i)).fld (R.RKN_TMAX i.task) F.RKN_TMAX_MAX
      = L.fld (R.RKN_TMAX i.task) F.RKN_TMAX_MAX := congrArg F.RKN_TMAX_MAX.get (Lane.rd_setF_other _ _ _ (RKN_TDLY_ne_TMAX _ _).symm)
  have e : L.firstOut i = if L.fld (R.RKN_TMAX i.task) F.RKN_TMAX_MAX < L.outDelay i then
      ((L.updInst i.task fun j => { j with outDone := true }).setF (R.RKN_TDLY i.task) F.RKN_TDLY_DLY (L.outDelay i)).setF (R.RKN_TMAX i.task) F.RKN_TMAX_MAX (L.outDelay i)
      else (L.updInst i.task fun j => { j with outDone := true }).setF (R.RKN_TDLY i.task) F.RKN_TDLY_DLY (L.outDelay i) := by
    rw [← hmax, Lane.firstOut, h, if_neg Bool.false_ne_true]
    rfl
  rw [e]
  split
  · next hlt =>
    refine ⟨?_, ?_⟩
    · rw [Lane.fld, Lane.rd_setF_other _ _ _ (RKN_TDLY_ne_TMAX _ _)]
      exact hdly _
    · rw [Nat.max_eq_right (Nat.le_of_lt hlt)]
      exact (Lane.fld_setF_same _ _ _ _ (by decide)).trans (Nat.mod_eq_of_lt hd)
  · next hle => exact ⟨hdly _, hmax.trans (Nat.max_eq_left (Nat.le_of_not_lt hle)).symm⟩

/-- After it, first or not, the run has issued an OUT. -/
theorem Lane.instOf_firstOut (h : L.instOf i.task = some i) : (L.firstOut i).instOf i.task = some { i with outDone := true } := by
  cases ho : i.outDone
  · exact (Lane.instOf_congr (congrArg Eng.insts (Lane.Writes.firstOut ho).eng) _).trans (Lane.instOf_updInst (fun _ => rfl) h)
  · rw [Lane.firstOut_again ho, h, ← ho]

/-- Beside the run it changes the two registers of the task. -/
theorem Lane.firstOut_rest (L : Lane) (hn : i.task < 64) : (L.firstOut i).ax = L.ax ∧ (L.firstOut i).safe = L.safe ∧ (L.firstOut i).edg = L.edg
    ∧ Lane.Frame [(R.RKN_TDLY i.task).addr, (R.RKN_TMAX i.task).addr] L (L.firstOut i) := by
  cases ho : i.outDone
  · have h := Lane.Writes.firstOut (L := L) ho
    refine ⟨h.ax, h.safe, h.edg, (Lane.Frame.of_eq rfl rfl rfl _).trans (h.frame (AX_BANK_not_mem ?_))⟩
    simp only [List.forall_mem_cons, R.RKN_TDLY, R.RKN_TMAX]
    exact ⟨by omega, by omega, by simp⟩
  · rw [Lane.firstOut_again ho]
    exact ⟨rfl, rfl, rfl, Lane.Frame.refl _ L⟩

end

end Sys2Proof.Machine
end

section
/-! OUT and the events of the engine's scheduling (R83, R85, R174, R177, R178, R180), and the statement. -/

namespace Sys2Proof.Machine

/-! ### An instruction that goes on -/

section
variable {P L : Lane} {i : Inst} {c : Nat} {nx : Option Nat}

/-- An instruction carried out that is no jump changes, after its own effect, the registers of the issue and its run. -/
theorem Lane.carryOut_go_rest (P L : Lane) (i : Inst) (c : Nat) (nx : Option Nat) : (P.carryOut i c false (.go L nx)).ax = L.ax ∧ (P.carryOut i c false (.go L nx)).safe = L.safe
    ∧ (P.carryOut i c false (.go L nx)).edg = L.edg ∧ (P.carryOut i c false (.go L nx)).eng.next = c + 1 ∧ Lane.Frame issueRegs L (P.carryOut i c false (.go L nx)) := by
  have hw := Lane.Writes.countIssue L i c
  have hF := Lane.Frame.countIssue L i c
  exact ⟨hw.ax, hw.safe, hw.edg, congrArg Eng.next hw.eng, hF.trans (Lane.Frame.of_eq rfl rfl rfl _)⟩

/-- Where no loop of the level ends and no delay slot is left, the run goes on at the address given, or at the next one. -/
theorem Lane.instOf_carryOut_go (hs : L.Straight i) {j : Inst} (hj : L.instOf i.task = some j) :
    (P.carryOut i c false (.go L nx)).instOf i.task = some { j with pc := nx.getD (i.pc + 1), slots := j.slots - 1 } := by
  have hk : (L.countIssue i c).1.instOf i.task = some j := (Lane.instOf_congr (congrArg Eng.insts (Lane.Writes.countIssue L i c).eng) _).trans hj
  have h0 : decide (i.slots = 1) = false := decide_eq_false (by have := hs.1; omega)
  unfold Lane.carryOut
  dsimp only
  rw [if_neg Bool.false_ne_true, Lane.countIssue_straight hs, h0]
  exact Lane.instOf_updInst (fun _ => rfl) hk

end

/-! ### OUT (R85, R174) -/

section
variable {P X : Lane} {w : BitVec 64} {i : Inst}

/-- Whether an OUT puts an element out as it is (X[2]), the element's value at exponent 0, and the word put out (R154, R174). -/
def outRaw (w : BitVec 64) : Bool := decide (insX w / 4 % 2 = 1)
def Lane.outScaled (P : Lane) (w : BitVec 64) (i : Inst) : Int := scaleI ((P.vreg i.level (insS w)).el (insEl w)) (P.vreg i.level (insS w)).e
def Lane.outVal (P : Lane) (w : BitVec 64) (i : Inst) : Word := if outRaw w then (P.vreg i.level (insS w)).m.at (insEl w) else wInt (satI 32 (P.outScaled w i))
/-- The status bits of an OUT: SATF where the conversion saturates. -/
def Lane.outStat (P : Lane) (w : BitVec 64) (i : Inst) : Word := satf (!outRaw w && decide (satI 32 (P.outScaled w i) ≠ P.outScaled w i))

theorem issOut_there (h : P.outDest (insImm w / 2 ^ 24) (P.ioInst w i.level) (ioSub w) (P.outVal w i) (outRaw w) = some X) :
    issOut w P i = .go ((X.firstOut i).statNow i.task (P.outStat w i)) none := by
  unfold issOut
  extract_lets v raw q x
  have hx : P.outDest (insImm w / 2 ^ 24) (P.ioInst w i.level) (ioSub w) x raw = some X := h
  rw [hx]
  rfl

theorem Lane.outStat_eq (P : Lane) (w : BitVec 64) (i : Inst) :
    P.outStat w i = if outRaw w = false ∧ satI 32 (P.outScaled w i) ≠ P.outScaled w i then 4 else 0 := by
  rw [Lane.outStat, satf]
  cases outRaw w
  · simp
  · simp

/-- What an OUT changes beside its destination: `X` is the lane with the destination written. -/
structure Lane.PutOut (i : Inst) (c : Nat) (X M : Lane) : Prop where
  ax : M.ax = X.ax
  safe : M.safe = X.safe
  edg : M.edg = X.edg
  next : M.eng.next = c + 1
  first : i.outDone = false → M.fld (R.RKN_TDLY i.task) F.RKN_TDLY_DLY = X.outDelay i
    ∧ M.fld (R.RKN_TMAX i.task) F.RKN_TMAX_MAX = max (X.fld (R.RKN_TMAX i.task) F.RKN_TMAX_MAX) (X.outDelay i)
  again : i.outDone = true → M.rd (R.RKN_TDLY i.task) = X.rd (R.RKN_TDLY i.task) ∧ M.rd (R.RKN_TMAX i.task) = X.rd (R.RKN_TMAX i.task)
  frame : Lane.Frame [R.CE_UTIL.addr, (R.RKN_TDLY i.task).addr, (R.RKN_TMAX i.task).addr, (R.CE_LPC 0).addr, (R.CE_LPC 1).addr, (R.CE_LPA 0).addr, (R.CE_LPA 1).addr] X M

theorem delay_not_mem_issueRegs {n : Nat} (h : n < 64) : (R.RKN_TDLY n).addr ∉ issueRegs ∧ (R.RKN_TMAX n).addr ∉ issueRegs := by
  simp only [issueRegs, loopRegs, R.CE_UTIL, R.CE_LPC, R.CE_LPA, R.RKN_TDLY, R.RKN_TMAX, List.mem_cons, List.not_mem_nil, or_false]
  omega

theorem Lane.PutOut.carryOut (hn : i.task < 64) (P X : Lane) (c : Nat) (st : Word) :
    Lane.PutOut i c X (P.carryOut i c false (.go ((X.firstOut i).statNow i.task st) none)) := by
  obtain ⟨h1, h2, h3, h4, hF⟩ := P.carryOut_go_rest ((X.firstOut i).statNow i.task st) i c none
  obtain ⟨k1, k2, k3, kF⟩ := X.firstOut_rest hn
  obtain ⟨nd, nm⟩ := delay_not_mem_issueRegs hn
  have hdly := hF.1 _ nd
  have hmax := hF.1 _ nm
  have hfirst := X.firstOut_delay (i := i)
  have hagain := X.firstOut_again (i := i)
  generalize P.carryOut i c false (.go ((X.firstOut i).statNow i.task st) none) = M at *
  generalize X.firstOut i = Y at *
  refine ⟨h1.trans k1, h2.trans k2, h3.trans k3, h4, fun h => ?_, fun h => ?_, ?_⟩
  · exact ⟨(congrArg F.RKN_TDLY_DLY.get hdly).trans (hfirst h).1, (congrArg F.RKN_TMAX_MAX.get hmax).trans (hfirst h).2⟩
  · obtain rfl := hagain h
    exact ⟨hdly, hmax⟩
  · exact ((kF.mono (by simp)).trans (Lane.Frame.of_eq rfl rfl rfl _)).trans (hF.mono (by simp [issueRegs, loopRegs]))

/-- Where no loop ends and no delay slot is left, the run goes on at the next address and has issued an OUT. -/
theorem Lane.instOf_outWord (hs : P.Straight i) (hi : P.instOf i.task = some i) (hX : Lane.EngStands outRegs P X) (hn : i.task < 64) (c : Nat) (st : Word) :
    ∃ j, (P.carryOut i c false (.go ((X.firstOut i).statNow i.task st) none)).instOf i.task = some j ∧ j.pc = i.pc + 1 ∧ j.outDone = true ∧ j.status = i.status ||| st := by
  have hiX : X.instOf i.task = some i := (Lane.instOf_congr (congrArg Eng.insts hX.eng) _).trans hi
  have hiY := Lane.instOf_updInst (f := fun j => { j with status := j.status ||| st }) (fun _ => rfl) (X.instOf_firstOut hiX)
  obtain ⟨-, -, -, kF⟩ := X.firstOut_rest hn
  have hr (k : Nat) (hk : k < 2) : ((X.firstOut i).statNow i.task st).rd (R.CE_LPA k) = P.rd (R.CE_LPA k) := by
    refine (kF.1 (R.CE_LPA k) ?_).trans (hX.regs _ (not_mem_outRegs ?_ (.inr ⟨?_, ?_⟩)))
    all_goals
      simp only [R.CE_LPA, R.RKN_TDLY, R.RKN_TMAX, List.mem_cons, List.not_mem_nil, or_false]
      omega
  exact ⟨_, Lane.instOf_carryOut_go (hs.congr hr) hiY, rfl, rfl, rfl⟩

/-- OUT writes its destination at once, and its run's first OUT its delay. -/
theorem RunsLane.outWord {s : State} {l : LaneId} {c : Nat} (hi : (s.lane l).Issues w P i c) (ho : insOp w = 0x18) (hn : i.task < 64)
    (h : P.outDest (insImm w / 2 ^ 24) (P.ioInst w i.level) (ioSub w) (P.outVal w i) (outRaw w) = some X) :
    RunsLane (.outWord l w) s l fun _ M => Lane.PutOut i c X M
      ∧ (P.Straight i → ∃ j, M.instOf i.task = some j ∧ j.pc = i.pc + 1 ∧ j.outDone = true ∧ j.status = i.status ||| P.outStat w i) := by
  have hX := Lane.EngStands.outDest h
  have hP := Lane.PutOut.carryOut hn P X c (P.outStat w i)
  have hj := fun hs => Lane.instOf_outWord hs hi.1.inst hX hn c (P.outStat w i)
  refine RunsLane.of_engRow (op := 0x18) (N := P.carryOut i c false (.go ((X.firstOut i).statNow i.task (P.outStat w i)) none)) rfl (.inl ho) ?_ ?_
  · rw [Lane.engIssue_plain hi (by omega)]
    exact congrArg _ (issOut_there h)
  · generalize P.carryOut i c false (.go ((X.firstOut i).statNow i.task (P.outStat w i)) none) = N at hP hj
    obtain ⟨h1, h2, h3, h4, h5, h6, h7⟩ := hP
    exact ⟨⟨h1, h2, h3, h4, h5, h6, h7⟩, hj⟩

end

/-! ### Waits, pre-emption and deadlines (R83, R178, R180) -/

section
variable {L : Lane}

/-- A run waits until its event has occurred. -/
theorem Lane.waitDone_instOf {n : Nat} {i : Inst} {ev : WaitEv} (h : L.instOf n = some i) (hw : i.wait = some ev) :
    (L.waitDone n).instOf n = some { i with wait := if L.waitOver i ev then none else some ev } ∧ Lane.Frame [] L (L.waitDone n) := by
  have e : L.waitDone n = if L.waitOver i ev then L.updInst n fun j => { j with wait := none } else L := by
    simp only [Lane.waitDone, h, hw]
  rw [e]
  split
  · exact ⟨Lane.instOf_updInst (fun _ => rfl) h, Lane.Frame.of_eq rfl rfl rfl _⟩
  · exact ⟨by rw [h, ← hw], Lane.Frame.refl _ L⟩

theorem Lane.engPreempt_halted (h : L.engHalted = true) : L.engPreempt = L := by
  unfold Lane.engPreempt
  rw [h]
  split
  · rfl
  · rfl

/-- A ready run of a higher level takes the engine over, to issue two cycles later. -/
theorem Lane.engPreempt_ready {c : Nat} {i : Inst} (hc : L.cycleNow L.eng.next = some c) (hp : L.engPreempts c = some i) (hh : L.engHalted = false) :
    Lane.Frame [] L L.engPreempt ∧ L.engPreempt.eng.run = some i.task ∧ L.engPreempt.eng.next = c + 2
      ∧ ∀ j, L.instOf i.task = some j → L.engPreempt.instOf i.task = some { j with begun := true } := by
  have e : L.engPreempt = (L.updEng fun e => { e with run := some i.task, next := c + 2 }).updInst i.task fun j => { j with begun := true } := by
    simp only [Lane.engPreempt, hc, hh, Bool.false_eq_true, if_false, hp]
  rw [e]
  refine ⟨Lane.Frame.of_eq rfl rfl rfl _, rfl, rfl, fun j hj => ?_⟩
  exact Lane.instOf_updInst (L := L.updEng fun e => { e with run := some i.task, next := c + 2 }) (f := fun j => { j with begun := true }) (fun _ => rfl) hj

theorem Lane.deadlineExpire_due {n : Nat} {i : Inst} (h : L.instOf n = some i) (hh : L.engHalted = false) (hd : i.trig + L.fld (R.RKN_TDL n) F.RKN_TDL_DL ≤ L.ticks) :
    L.deadlineExpire n = L.abandon i L.cycleAny := by
  simp only [Lane.deadlineExpire, h]
  exact if_pos ⟨hh, hd⟩

theorem Lane.deadlineExpire_early {n : Nat} {i : Inst} (h : L.instOf n = some i) (hd : L.engHalted = true ∨ L.ticks < i.trig + L.fld (R.RKN_TDL n) F.RKN_TDL_DL) :
    L.deadlineExpire n = L := by
  simp only [Lane.deadlineExpire, h]
  refine if_neg fun ⟨k1, k2⟩ => ?_
  rcases hd with hd | hd
  · exact Bool.false_ne_true (k1.symm.trans hd)
  · omega

end

section
variable {s : State} {l : LaneId}

theorem RunsLane.waitComplete {n : Fin 64} {i : Inst} {ev : WaitEv} (h : (s.lane l).instOf n = some i) (hw : i.wait = some ev) :
    RunsLane (.waitComplete l n) s l fun L M => Lane.Frame [] L M ∧ M.instOf n = some { i with wait := if L.waitOver i ev then none else some ev } := by
  obtain ⟨h1, h2⟩ := Lane.waitDone_instOf h hw
  refine RunsLane.of_run (f := fun L => L.waitDone n.val) rfl ?_
  dsimp only
  generalize (s.lane l).waitDone n.val = N at h1 h2
  exact ⟨h2, h1⟩

theorem RunsLane.enginePreempt_halted (h : (s.lane l).engHalted = true) : RunsLane (.enginePreempt l) s l fun L M => M.eng = L.eng ∧ Lane.Frame [] L M :=
  RunsLane.of_run (f := Lane.engPreempt) rfl (by rw [Lane.engPreempt_halted h]; exact ⟨rfl, Lane.Frame.of_eq rfl rfl rfl _⟩)

theorem RunsLane.enginePreempt {c : Nat} {i : Inst} (hc : (s.lane l).cycleNow (s.lane l).eng.next = some c) (hp : (s.lane l).engPreempts c = some i)
    (hh : (s.lane l).engHalted = false) : RunsLane (.enginePreempt l) s l fun L M => Lane.Frame [] L M ∧ M.eng.run = some i.task ∧ M.eng.next = c + 2
      ∧ (∀ j, L.instOf i.task = some j → M.instOf i.task = some { j with begun := true }) := by
  have h := Lane.engPreempt_ready hc hp hh
  refine RunsLane.of_run (f := Lane.engPreempt) rfl ?_
  generalize (s.lane l).engPreempt = N at h
  exact h

/-- A run past its deadline is abandoned, recorded and counted as the lane's fault. -/
theorem RunsLane.taskDeadlineExpire {n : Fin 64} {i : Inst} (h : (s.lane l).instOf n = some i) (hs : i.sample = false) (hv : i.saved = false)
    (hc : (s.lane l).eng.closing = false) (hh : (s.lane l).engHalted = false) (hd : i.trig + (s.lane l).fld (R.RKN_TDL n) F.RKN_TDL_DL ≤ (s.lane l).ticks) :
    RunsLane (.taskDeadlineExpire l n) s l fun L M => Lane.Abandoned i L M := by
  have hn : i.task < 64 := by
    rw [Lane.task_of_instOf h]
    exact n.isLt
  have ha := Lane.Abandoned.abandon hs hv hc hn (s.lane l).cycleAny
  refine RunsLane.of_run (f := fun L => L.deadlineExpire n.val) rfl ?_
  dsimp only
  rw [Lane.deadlineExpire_due h hh hd]
  generalize (s.lane l).abandon i (s.lane l).cycleAny = N at ha
  obtain ⟨h1, h2, h3, h4, h5, h6⟩ := ha
  exact ⟨h1, h2, h3, h4, h5, h6⟩

theorem RunsLane.taskDeadlineExpire_early {n : Fin 64} {i : Inst} (h : (s.lane l).instOf n = some i)
    (hd : (s.lane l).engHalted = true ∨ (s.lane l).ticks < i.trig + (s.lane l).fld (R.RKN_TDL n) F.RKN_TDL_DL) :
    RunsLane (.taskDeadlineExpire l n) s l fun L M => M.eng = L.eng ∧ Lane.Frame [] L M := by
  refine RunsLane.of_run (f := fun L => L.deadlineExpire n.val) rfl ?_
  dsimp only
  rw [Lane.deadlineExpire_early h hd]
  exact ⟨rfl, Lane.Frame.of_eq rfl rfl rfl _⟩

end

/-! ### The statement -/

/-- Settles O17: an OUT is issued as every instruction is, each destination keeps to its own registers, and the scheduling events act on the instances alone but for a deadline's records. -/
theorem engineOutputs : Obligations.EngineOutputs := by
  refine ⟨⟨fun s l w P X i c hi ho hn => fun h => ?_, fun P X n sub v raw hs => ⟨fun h => ?_, fun h => ?_, Lane.outDest_probe, Lane.outDest_function, Lane.outDest_reg⟩⟩,
    fun s l => ⟨fun n i ev => RunsLane.waitComplete, fun c i hc hp => ⟨RunsLane.enginePreempt_halted, RunsLane.enginePreempt hc hp⟩,
      fun n i h hs hv hc hh hd => ?_, fun n i => RunsLane.taskDeadlineExpire_early⟩⟩
  · obtain ⟨t, he, ht, hP, hj⟩ := RunsLane.outWord hi ho hn h
    have hX := Lane.EngStands.outDest h
    have hdelay : X.outDelay i = P.outDelay i := by rw [Lane.outDelay, hX.ticks, Lane.outDelay]
    have hdly := hX.regs (R.RKN_TDLY i.task) (not_mem_outRegs (by simp only [R.RKN_TDLY]; omega) (.inl (by simp only [R.RKN_TDLY]; omega)))
    have hmax := hX.regs (R.RKN_TMAX i.task) (not_mem_outRegs (by simp only [R.RKN_TMAX]; omega) (.inl (by simp only [R.RKN_TMAX]; omega)))
    have hlongest : X.fld (R.RKN_TMAX i.task) F.RKN_TMAX_MAX = P.fld (R.RKN_TMAX i.task) F.RKN_TMAX_MAX := congrArg F.RKN_TMAX_MAX.get hmax
    refine ⟨t, he, ht, hP.ax, hP.safe, hP.edg, hP.next, fun h0 => ?_, fun h1 => ?_, ?_, hP.frame⟩
    · have hf := hP.first h0
      rw [hdelay, hlongest] at hf
      exact hf
    · obtain ⟨h2, h3⟩ := hP.again h1
      exact ⟨h2.trans hdly, h3.trans hmax⟩
    · rw [Lane.outStat_eq] at hj
      exact hj
  · obtain ⟨hn, hsub, rfl⟩ := Lane.outDest_bridge hs h
    exact ⟨hn, hsub, P.outBridge_leg n v, fun h3 hv => h3 ▸ P.outBridge_period hn hv⟩
  · obtain ⟨hn, hsub, rfl⟩ := Lane.outDest_valve hs h
    exact ⟨hn, hsub, Tab.at_set_same _ _ _, Lane.Frame.of_eq rfl rfl rfl _⟩
  · obtain ⟨t, he, ht, hA⟩ := RunsLane.taskDeadlineExpire h hs hv hc hh hd
    have hn := Lane.task_of_instOf h
    obtain ⟨h1, h2, h3, h4, h5, h6⟩ := hA
    rw [hn] at h1 h3 h6
    exact ⟨t, he, ht, h1, h2, h3, h4, h5, h6⟩

end Sys2Proof.Machine
end
